-- ==== Sys2Proof/Word.lean ====
section
/-!
DEFINITION. Sys2Proof/Word.lean: the word types of the NSH-4801 (a byte, a byte string, a map kept as plain data).
-/
namespace Sys2Proof

/-- One byte. -/
abbrev Byte := BitVec 8

/-- A byte string, first byte first. -/
abbrev Bytes := List (BitVec 8)

/-- A sparse map from numbers to records, as plain data: pairs with strictly rising keys.
What a number that is not listed stands for is said where the map is used. -/
abbrev AMap (β : Type) := List (Nat × β)

end Sys2Proof
end

