-- ==== Sys2Proof/Syntax.lean ====
section
/-!
DEFINITION. Sys2Proof/Syntax.lean: the commands of the NSH-4801, one constructor for each row of the table of operations and
events, and the types of their operands. An operand carries what the module's surroundings bring to the step (data a read
returns, a reading, a card's answer, whether a check of stored rows passed); everything else a step needs is in State.
-/
namespace Sys2Proof

/-- Who reads or writes a register (R31, R462). -/
inductive Master where
  | host
  | smbus
  | core (n : Nat)
  | boot
  | tenant (n opcode : Nat)
deriving DecidableEq, Repr

/-- How a read of host memory ended (R126, R127). -/
inductive ReadStatus where
  | good
  | poisoned
deriving DecidableEq, Repr

/-- Why a ring line was read: for the window of R111 (an acquisition or the re-read after a snoop), or for a doorbell or an
entry's further slots (R158, R163). -/
inductive LineRead where
  | window
  | doorbell
deriving DecidableEq, Repr

/-- How an engine step ends: with its results; with a row corrected on the way; with an uncorrectable row, or one read from a wrong address (R23,
R24, R27): its space tag and row number; or with a private result that failed its check before release (R348, R349). -/
inductive StepEnd where
  | done
  | corrected (tag row : Nat)
  | rowBad (tag row : Nat)
  | suspected
deriving DecidableEq, Repr

/-- What a NAND page program wrote (R412, R432, R433): journal entries up to a seq, leaves by number, index pages (token index pages, then PAN index
pages from 2^22 up), or pages of the audit reserve or the key area. -/
inductive NandWrite where
  | journal (upto : Nat)
  | leaves (numbers : List Nat)
  | index (pages : List Nat)
  | reserve
  | keyArea
deriving DecidableEq, Repr

/-- What one step of garbage collection does (R443). -/
inductive GcStep where
  | move (leaf : Nat)
  | erase (block : Nat)
  | finish
deriving DecidableEq, Repr

/-- What an instruction of a core brings to its issue besides its fields (R525 to R529): the core, the guard, the length in syllables, the fabric
clock of the swath, whether a field shown as 0 is nonzero or an encoding is reserved, whether the row it is taken from fails its code or seal, and
whether a data row it reads is uncorrectable. -/
structure Issue where
  core : Nat
  guard : BitVec 3 := 0
  sense : Bool := false
  len : Nat := 2
  clock : Nat := 0
  badEncoding : Bool := false
  badRow : Bool := false
  badData : Bool := false
deriving DecidableEq, Repr

/-- Who gives code flash a command (R607): module firmware, with SYS FLS_COMMAND and its command block, or a unit of the module for its own area, with
an address and, for a PROGRAM, the word. -/
inductive FlsSource where
  | sys (x : Issue) (cap : BitVec 3) (rs : BitVec 5)
  | unit (addr : Nat) (word : Bytes)
deriving DecidableEq, Repr

/-- A directory copy of the backup card (R678). -/
structure SdDir where
  seq : Nat
  set : Nat
  first : Nat
  count : Nat
deriving DecidableEq, Repr

/-- A backup set on a card (R676, R677): its first block and block count, its section data as decrypted, whether it is valid (closing entry, CMACs,
no gap), and whether every chunk tag verifies. -/
structure SdSet where
  number : Nat
  first : Nat
  blocks : Nat
  valid : Bool
  intact : Bool
  data : Bytes
deriving DecidableEq, Repr

/-- What the module finds at the insertion of a card (R671 to R680): whether SDHC or SDXC, the highest mode it offers, its last block, the CSD and
the socket's switch, the taps that pass as 64 bits, the label block's first 64 bytes, the directory copies that verify, and the
sets in its ring. -/
structure SdCard where
  supported : Bool
  offers : Nat
  lastBlock : Nat
  permWp : Bool
  tmpWp : Bool
  wpSwitch : Bool
  taps : Nat
  label : Bytes
  dirs : List SdDir
  sets : List SdSet
deriving DecidableEq, Repr

/-- What a card sends after a command: data with its status word, or a block lost beyond retransmission (R635, R639). -/
inductive CardReply where
  | apdu (data : Bytes) (sw : Nat)
  | parityError
deriving DecidableEq, Repr

/-- A frame at the reader (R636, R639): ATQA, ATQB, identifier bits up to the end or the first collision, SAK, ATS, the answer to ATTRIB, a Type B
collision, S(DESELECT), or a frame with an error. -/
inductive RdrFrame where
  | atqa
  | atqb
  | collisionB
  | uid (bits : List Bool) (collision : Bool)
  | sak (value : Nat)
  | ats (rates : Nat)
  | attrib (rates : Nat)
  | deselected
  | error
deriving DecidableEq, Repr

/-- A fold frame that passed MACsec at a port (R690): source, destination (0xFF the neighbour), forwards remaining, sequence number and body. -/
structure FoldFrame where
  port : Nat
  src : Nat
  dst : Nat := 0xFF
  hops : Nat := 7
  seq : Nat := 1
  body : Bytes := []
deriving DecidableEq, Repr

/-- How the images that a selector word names verify (R619): the boot image or the firmware image fails, or both pass with their security versions. -/
inductive BootTry where
  | failed (firmware : Bool)
  | passed (boot firmware : BitVec 8)
deriving DecidableEq, Repr

/-- How loading of the microcode image ends (R334 to R336): the failing check, or the image's version, security version and algorithms, with the PK
engines and the digest units that fail their known-answer tests. -/
inductive UcodeLoad where
  | refused (check : Nat)
  | loaded (version : BitVec 16) (security : BitVec 8) (algs : BitVec 11) (engines digests : List Nat)
deriving DecidableEq, Repr

/-- The IDE_KM requests (R118). -/
inductive IdeKm where
  | query
  | keyProg
  | setGo
  | setStop
deriving DecidableEq, Repr

/-- The commands, in the order of the table; each docstring is its row's rule and summary. -/
inductive Instr where
  /-- PWR_IN has held at 5.5 V or more for 10 ms and the rails are in range, so power good is reached and start-up may begin (R772). -/
  | powerGood
  /-- PERST_N is released with power good, and start-up begins at step 1 of the start-up table (R727). -/
  | perstRelease (keyOk : Bool)
  /-- Verification of the boot bank and firmware slot ends; on failure start-up falls back to an earlier selector word or halts, and DOE Busy clears (R619). -/
  | bootVerifyDone (tries : List BootTry)
  /-- Loading and known-answer testing of the microcode image ends, leaving each engine or digest unit ready or FAILED (R335). -/
  | ucodeLoadDone (load : UcodeLoad)
  /-- A DRAM region's last row is wiped, so the region becomes usable (R729). -/
  | dramWipeRegionDone
  /-- Once DRAM regions 1 and 2 are wiped, channels begin taking entries from the next swath (R728). -/
  | serviceStart (trailerOk : Bool)
  /-- The token index load and journal replay end, and VLT_STAT.ready is set (R438). -/
  | vaultReplayEnd
  /-- Step 11 is reached: MOD_STATUS.ready is set, floors are raised, the Stile statement is refreshed and the key cache rebuild starts (R727). -/
  | moduleReady (ms : Nat)
  /-- The persistent erasure of a transition ends, the keeper clears pending bit 0, and the state's entry work runs (R722). -/
  | persistentErasureDone
  /-- PERST_N is asserted with power present: admission stops, the journal and event buffers are flushed, and the module wipes (R130). -/
  | conventionalReset
  /-- A Function Level Reset withdraws jobs in flight, wipes buffers and resets the channel and configuration state (R131). -/
  | flr
  /-- A CXL Reset by DVSEC withdraws jobs, evicts cache lines and resets the DVSEC control fields (R131). -/
  | cxlReset
  /-- An in-band hot reset or DL_Down is handled as a CXL Reset, and the coherency cache counts as empty (R129). -/
  | hotResetOrLinkDown (linkDown : Bool)
  /-- The link trains to the widest width and highest rate both partners support, in CXL or PCIe mode (R100). -/
  | linkTrained (cxl : Bool) (width rate : Nat) (eqFailed : Bool)
  /-- Bus Master Enable becomes 0: memory and cache requests stop, admission stops as under DRAIN, and finished jobs wait (R108). -/
  | busMasterEnableClear
  /-- Bus Master Enable becomes 1: posting reopens, and kept pushes, doorbells and held messages are acted on (R108). -/
  | busMasterEnableSet
  /-- The function enters D3hot, and the module stops making requests and posting (R108). -/
  | d3hotEntry
  /-- The function returns to D0, and waiting completions post (R108). -/
  | d0Entry
  /-- Cache_Enable changes: the coherency cache tile is enabled, or disabled and power-gated (R102). -/
  | cacheEnableChange (on : Bool)
  /-- An IDE integrity check fails: the traffic is discarded and the stream goes insecure, holding work under R120 (R119). -/
  | ideIntegrityFail (stream : Nat)
  /-- An IDE_KM message inside a secured SPDM session programs or activates IDE keys (R118). -/
  | ideKmRequest (session stream : Nat) (km : IdeKm)
  /-- A DOE discovery request is served by the mailbox (R121). -/
  | doeDiscovery (index : Nat)
  /-- A CDAT table read returns the header with no structures (R124). -/
  | cdatTableAccess (handle : Nat)
  /-- SPDM GET_VERSION is answered (R122). -/
  | spdmGetVersion
  /-- SPDM GET_CAPABILITIES is answered (R122). -/
  | spdmGetCapabilities (version : BitVec 8)
  /-- SPDM NEGOTIATE_ALGORITHMS is answered (R122). -/
  | spdmNegotiateAlgorithms (supported : Bool)
  /-- SPDM GET_DIGESTS returns the certificate chain digests of slot 0 (R122). -/
  | spdmGetDigests
  /-- SPDM GET_CERTIFICATE returns the slot 0 chain (R122). -/
  | spdmGetCertificate (slot off len : Nat)
  /-- SPDM CHALLENGE is signed by the identity or device key (R122). -/
  | spdmChallenge (slot : Nat) (nonce : Bytes)
  /-- SPDM GET_MEASUREMENTS returns measurement blocks 1 to 6 (R123). -/
  | spdmGetMeasurements (index : Nat) (sign : Bool) (nonce : Bytes)
  /-- SPDM KEY_EXCHANGE opens a secured session, or is answered Busy when 4 are open (R122). -/
  | spdmKeyExchange (session : Nat) (exchange : Bytes)
  /-- SPDM FINISH completes a session handshake (R122). -/
  | spdmFinish (session : Nat) (verified : Bool)
  /-- SPDM HEARTBEAT is answered (R122). -/
  | spdmHeartbeat (session : Nat)
  /-- SPDM KEY_UPDATE updates the session keys (R122). -/
  | spdmKeyUpdate (session : Nat)
  /-- SPDM END_SESSION closes a secured session (R122). -/
  | spdmEndSession (session : Nat)
  /-- An SMBus block write of an offset followed by a block read returns a register of the served subset, or all ones (R767). -/
  | smbusRead (off : Nat)
  /-- An SMBus block write of an offset and value writes PWR_BUDGET or UNIT_SCRATCH, or has no effect (R767). -/
  | smbusWrite (off value : Nat)
  /-- A write to a register field with no row of its own is applied or refused, with a CONFIG record when the field is audited (R32). -/
  | registerWrite (m : Master) (bar2 : Bool) (off width value : Nat)
  /-- Every 25,000 fabric clocks SCH_SWATH_COUNT increments and the admit phase begins (R37). -/
  | swathStart
  /-- At clock 24,000 engines park and the swath's windrow is posted (R39). -/
  | closePhase (energies : List (Nat × Nat)) (inputUj : Nat)
  /-- At the close of a swath with count mod 4,096 = 4,095 a checkpoint and CHECKPOINT record are formed and signing is submitted (R467). -/
  | checkpointForm
  /-- Both checkpoint signatures pass their check and the checkpoint is held; a co-signature request is sent when cosign is 1 (R469). -/
  | checkpointSigned (number : Nat) (passed : Bool)
  /-- No co-signature arrives within 4,096 swaths and EVT_BND_COSIGN_FAIL is raised (R470). -/
  | cosignTimeout (number : Nat)
  /-- A class 2 job unbound for 256 swaths moves to the tail of the class 1 queue (R49). -/
  | class2Ageing (slot : Nat)
  /-- A ring line read by acquisition, snoop re-read or doorbell returns and the header at the consumer index is examined (R153). -/
  | ringLineReadDone (ch index : Nat) (data : Bytes) (status : ReadStatus) (why : LineRead)
  /-- A SnpInv hits a held ring line, the module answers RspIHitSE and re-reads the line (R112). -/
  | snoopInv (ch line : Nat)
  /-- A SnpData hits a held line and the module answers RspSHitSE and keeps the line (R112). -/
  | snoopData (ch line : Nat)
  /-- A write to a push window is assembled, discarded, or completes a push that is then taken or ignored (R159). -/
  | pushWrite (ch off : Nat) (data : Bytes)
  /-- An incomplete push assembly older than 1 swath is discarded and counted (R162). -/
  | pushAssemblyTimeout (ch : Nat)
  /-- A producer index is published, making the module read slots or halting the channel on overrun (R163). -/
  | chnSqDoorbell (ch : Nat) (value : BitVec 32)
  /-- The host's completion consumer index is accepted or ignored with head_invalid set (R170). -/
  | chnCqHead (ch : Nat) (value : BitVec 32)
  /-- CHN_CTL.enable written 1 starts the channel when its configuration is valid (R143). -/
  | chnEnable (m : Master) (ch : Nat)
  /-- CHN_CTL.enable written 0 with DRAIN stops taking entries and lets jobs finish (R143). -/
  | chnDisableDrain (m : Master) (ch : Nat)
  /-- CHN_CTL.enable written 0 with WITHDRAW stops taking and withdraws jobs in flight at the next close (R143). -/
  | chnDisableWithdraw (m : Master) (ch : Nat)
  /-- The job parser completes the admission checks, admitting the job into a slot and the ledger or refusing it (R63). -/
  | jobAdmission (ch delay : Nat)
  /-- A read of job input completes, or returns poisoned and ends the job with RES_INPUT_POISONED (R793). -/
  | inputReadDone (slot : Nat) (data : Bytes) (status : ReadStatus)
  /-- An engine step ends and its results go to the operand buffer or output segments (R41). -/
  | engineStepEnd (slot step kind : Nat) (outcome : StepEnd)
  /-- An ML-DSA signing reaches its cut-off time and is treated as a failed check (R350). -/
  | mldsaCutoff (slot step : Nat)
  /-- The zero-length read after the output writes completes and the job counts as finished (R235). -/
  | outputConfirmed (slot : Nat) (accepted : Bool)
  /-- The key store finishes unsealing a key into a cluster's bay (R247). -/
  | keyFillDone (block bay : Nat)
  /-- The overwrite of an aborted PK bank ends and the bank is clean (R353). -/
  | abortWipeDone (engine : Nat)
  /-- The overwrite of an aborted cipher state bank and key slot ends (R386). -/
  | cipherWipeDone (engine : Nat)
  /-- A holder with fewer than 2^16 values left is granted the next block of 2^20 nonce counter values (R390). -/
  | nonceBlockRequest (holder : Nat)
  /-- In every 64th admit phase each mask generator is reseeded from the DRBG, or the miss is counted (R380). -/
  | maskReseed
  /-- A SKIP entry is stepped over with no slot, completion or record (R149). -/
  | opSkip (ch : Nat)
  /-- A chained job runs its 1 to 8 steps through the operand buffer (R227). -/
  | opChain (slot step : Nat)
  /-- A job with no engine work passes admission and completes with a record (R227). -/
  | opNop (slot step : Nat)
  /-- A public value is validated (R364). -/
  | opPkValidate (slot step : Nat)
  /-- A message is signed with ECDSA and checked before release (R364). -/
  | opPkEcdsaSign (slot step : Nat)
  /-- An ECDSA signature is verified (R364). -/
  | opPkEcdsaVerify (slot step : Nat)
  /-- A message is signed with EdDSA (R364). -/
  | opPkEddsaSign (slot step : Nat)
  /-- An EdDSA signature is verified (R364). -/
  | opPkEddsaVerify (slot step : Nat)
  /-- A shared secret is computed with ECDH or X25519/X448 (R364). -/
  | opPkEcdh (slot step : Nat)
  /-- An RSA signature is made (R364). -/
  | opPkRsaSign (slot step : Nat)
  /-- An RSA signature is verified (R364). -/
  | opPkRsaVerify (slot step : Nat)
  /-- A message is encrypted with RSA-OAEP (R364). -/
  | opPkRsaEncrypt (slot step : Nat)
  /-- An RSA-OAEP ciphertext is decrypted (R364). -/
  | opPkRsaDecrypt (slot step : Nat)
  /-- A message is signed with ML-DSA (R364). -/
  | opPkMldsaSign (slot step : Nat)
  /-- An ML-DSA signature is verified (R364). -/
  | opPkMldsaVerify (slot step : Nat)
  /-- An ML-KEM encapsulation is made (R364). -/
  | opPkMlkemEncaps (slot step : Nat)
  /-- An ML-KEM ciphertext is decapsulated (R364). -/
  | opPkMlkemDecaps (slot step : Nat)
  /-- An SLH-DSA signature is verified on the digest unit (R364). -/
  | opPkSlhdsaVerify (slot step : Nat)
  /-- Plaintext is CBC-encrypted under a DRBG initial value (R400). -/
  | opSymCbcEncrypt (slot step : Nat)
  /-- CBC ciphertext is decrypted (R400). -/
  | opSymCbcDecrypt (slot step : Nat)
  /-- Plaintext is CTR-encrypted under a hardware nonce (R400). -/
  | opSymCtrEncrypt (slot step : Nat)
  /-- CTR ciphertext is decrypted (R400). -/
  | opSymCtrDecrypt (slot step : Nat)
  /-- Plaintext is GCM-encrypted under a hardware nonce (R400). -/
  | opSymGcmEncrypt (slot step : Nat)
  /-- GCM ciphertext is decrypted and released only after the tag checks (R396). -/
  | opSymGcmDecrypt (slot step : Nat)
  /-- A CMAC is generated (R400). -/
  | opSymCmac (slot step : Nat)
  /-- A CMAC is verified (R400). -/
  | opSymCmacVerify (slot step : Nat)
  /-- Data units are XTS-encrypted (R400). -/
  | opSymXtsEncrypt (slot step : Nat)
  /-- Data units are XTS-decrypted (R400). -/
  | opSymXtsDecrypt (slot step : Nat)
  /-- Data is wrapped with KW or KWP (R400). -/
  | opSymKeyWrap (slot step : Nat)
  /-- Wrapped data is unwrapped and released only after its integrity check (R396). -/
  | opSymKeyUnwrap (slot step : Nat)
  /-- A PIN block is translated between keys and formats (R301). -/
  | opPayPinTranslate (slot step : Nat)
  /-- An AES DUKPT PIN block is translated (R301). -/
  | opPayPinTranslateAesDukpt (slot step : Nat)
  /-- A TDES DUKPT PIN block is translated (R301). -/
  | opPayPinTranslateTdesDukpt (slot step : Nat)
  /-- A PIN is verified by offset comparison (R303). -/
  | opPayPinVerify (slot step : Nat)
  /-- A payment MAC is generated (R305). -/
  | opPayMacGenerate (slot step : Nat)
  /-- A payment MAC is verified (R305). -/
  | opPayMacVerify (slot step : Nat)
  /-- A card verification value is generated (R308). -/
  | opPayCvvGenerate (slot step : Nat)
  /-- A card verification value is verified (R308). -/
  | opPayCvvVerify (slot step : Nat)
  /-- An ARQC is verified and an ARPC produced (R310). -/
  | opPayArqcVerify (slot step : Nat)
  /-- An ARPC is generated (R310). -/
  | opPayArpcGenerate (slot step : Nat)
  /-- An account field is FF1-encrypted (R311). -/
  | opPayFf1Encrypt (slot step : Nat)
  /-- An account field is FF1-decrypted into a secret result (R312). -/
  | opPayFf1Decrypt (slot step : Nat)
  /-- The six-step reference authorisation runs (R315). -/
  | opPayAuthRef (slot step : Nat)
  /-- A PAN is looked up or a new token issued and journalled (R446). -/
  | opVltTokenise (slot step : Nat)
  /-- A token is resolved to its record, written as secret (R446). -/
  | opVltDetokenise (slot step : Nat)
  /-- A token's record fields are returned without the PAN (R446). -/
  | opVltQuery (slot step : Nat)
  /-- A PAN's token is returned (R446). -/
  | opVltLookup (slot step : Nat)
  /-- A record's status or expiry is changed (R446). -/
  | opVltStatusSet (slot step : Nat)
  /-- A token domain entry is written (R419). -/
  | opVltDomainSet (slot step : Nat)
  /-- A domain entry and record count are returned (R446). -/
  | opVltDomainInfo (slot step : Nat)
  /-- A key is generated and stored (R276). -/
  | opKeyGenerate (slot step : Nat)
  /-- An X9.143 key block is imported (R266). -/
  | opKeyImportX9143 (slot step : Nat)
  /-- A key is imported by remote key loading (R268). -/
  | opKeyImportRkl (slot step : Nat)
  /-- A public key is validated and stored (R276). -/
  | opKeyImportPublic (slot step : Nat)
  /-- Key block fields, check value and public material are returned (R276). -/
  | opKeyInfo (slot step : Nat)
  /-- A key is made active or suspended (R277). -/
  | opKeySetStatus (slot step : Nat)
  /-- A key is revoked (R277). -/
  | opKeyRevoke (slot step : Nat)
  /-- A key's blocks are zeroed and the generation incremented (R244). -/
  | opKeyDestroy (slot step : Nat)
  /-- A key is resealed and sent to fold peers (R269). -/
  | opKeyReplicate (slot step : Nat)
  /-- A key is pinned in every bay of its plane (R248). -/
  | opKeyPin (slot step : Nat)
  /-- A key is unpinned (R248). -/
  | opKeyUnpin (slot step : Nat)
  /-- A root key loading or generation request is opened (R254). -/
  | opKeyRootLoad (slot step : Nat)
  /-- A tenant code-signing key enrolment request is opened (R276). -/
  | opKeyTenantSigner (slot step : Nat)
  /-- An application key is enrolled (R270). -/
  | opSesAppEnrol (slot step : Nat)
  /-- An application session is opened by hybrid key agreement (R271). -/
  | opSesOpen (slot step : Nat)
  /-- A session is closed (R275). -/
  | opSesClose (slot step : Nat)
  /-- DRBG bytes are returned (R517). -/
  | opRngGenerate (slot step : Nat)
  /-- Raw bits of one source are captured and the source retested (R518). -/
  | opRngRaw (slot step : Nat) (passed : Bool)
  /-- A held checkpoint slot is returned (R480). -/
  | opAudCheckpoint (slot step : Nat)
  /-- A range of records held in the reserve is returned (R480). -/
  | opAudSegment (slot step : Nat)
  /-- A signed tenant image is verified and loaded into every core (R554). -/
  | opTenLoad (slot step : Nat)
  /-- A tenant program is unloaded (R558). -/
  | opTenUnload (slot step : Nat)
  /-- A tenant program's header and digest are returned (R558). -/
  | opTenInfo (slot step : Nat)
  /-- A tenant opcode 0x0810 to 0x08FF runs in a compartment on a core (R555). -/
  | tenantProgramInvoke (slot step core : Nat)
  /-- Words are programmed into an inactive slot (R625). -/
  | opFlsStageWrite (slot step : Nat)
  /-- Bytes of an inactive slot are read (R625). -/
  | opFlsStageRead (slot step : Nat)
  /-- A staged image is verified and its verified flag set (R626). -/
  | opFlsStageVerify (slot step : Nat)
  /-- A selector word naming the verified slots is appended (R626). -/
  | opFlsActivate (slot step : Nat)
  /-- A life-cycle change request is opened (R724). -/
  | opLcRequest (slot step : Nat)
  /-- The Hedge status is returned (R724). -/
  | opLcStatus (slot step : Nat)
  /-- Tamper log entries are returned (R724). -/
  | opHdgLogRead (slot step : Nat)
  /-- Known-answer tests run on every unit (R724). -/
  | opSelftest (slot step : Nat) (failed : List Nat) (rng rows : Bool)
  /-- A backup restore request is opened (R682). -/
  | opSdcRestore (slot step : Nat)
  /-- An archive-protection request is opened (R682). -/
  | opSdcArchive (slot step : Nat)
  /-- The card label and directory are returned (R682). -/
  | opSdcInfo (slot step : Nat)
  /-- A fold enrolment request is opened (R688). -/
  | opFoldEnrol (slot step : Nat)
  /-- A fold removal request is opened (R688). -/
  | opFoldRemove (slot step : Nat)
  /-- The member table is returned (R688). -/
  | opFoldInfo (slot step : Nat)
  /-- A write of 1 to an activity bit of SCH_MAINT_START requests the activity's start (R96). -/
  | maintStart (m : Option Master) (activity : Nat)
  /-- A write of 1 to an activity bit of SCH_MAINT_STOP stops it at its next safe point or cancels a deferral (R83). -/
  | maintStop (m : Master) (activity : Nat)
  /-- The re-key activity reseals one leaf under the next key generation (R443). -/
  | vaultRekeyLeaf
  /-- Garbage collection moves one leaf or erases one block (R443). -/
  | vaultGcStep (step : GcStep)
  /-- The vault scrub reads one page and refreshes a weak block (R443). -/
  | vaultPatrolPage (block iterations : Nat)
  /-- The DRAM scrub reads and corrects one row (R443). -/
  | dramPatrolRow (channel : Nat) (corrected : Bool)
  /-- The rebuild reloads one pinned key block into its bays (R250). -/
  | keyCacheRebuildBlock
  /-- Compaction erases a reserve block whose records are all delivered (R473). -/
  | auditReserveCompaction (block : Nat)
  /-- The staging activity erases one sector of an inactive target slot (R624). -/
  | codeFlashStagingSector (sector pulses : Nat) (passed : Bool)
  /-- Re-balance retests one source, which rejoins or fails (R516). -/
  | rngRebalanceSource (source : Nat) (passed : Bool)
  /-- Every 24 hours module firmware starts the RNG re-balance (R516). -/
  | rngRebalanceTimer
  /-- Backup to card writes one chunk and its journal block (R679). -/
  | backupChunk
  /-- Fold resync sends one change or unmirrored record to a member (R704). -/
  | foldResyncItem (member : Nat)
  /-- A NAND codeword read decodes, or fails and a re-read is issued or the read fails (R426). -/
  | nandReadDone (n : Nat) (decoded : Bool) (iterations micros : Nat)
  /-- A page program ends; a failure retires the block (R440). -/
  | nandProgramDone (w : NandWrite) (block page : Nat) (passed : Bool)
  /-- A block erase ends and a kind 4 entry is appended, or the block is retired (R439). -/
  | nandEraseDone (block : Nat) (passed : Bool)
  /-- A class 1 to 3 issue waits VLT_MIRROR_CTL.timeout swaths without acknowledgement and ends with RES_VAULT_MIRROR (R435). -/
  | mirrorTimeout (slot : Nat)
  /-- At the end of a 4,096-swath window summary records of rate-limited codes are written (R490). -/
  | evtRateWindowEnd
  /-- An open privileged record is closed after 16 swaths and queued (R491). -/
  | privilegedRecordClose
  /-- At every 64th close the recorder collects the tile event buffers (R492). -/
  | tileBufferCollect
  /-- A recorder word finishes programming and becomes readable, possibly starting an erase two sectors ahead (R787). -/
  | recProgramDone
  /-- Command 1 loads the oldest 8 records into the window (R495). -/
  | recCursorOldest
  /-- Command 2 loads the newest 8 records (R495). -/
  | recCursorNewest
  /-- Command 3 loads records from REC_SEEK (R495). -/
  | recCursorSeek
  /-- Command 4 loads the next 8 records (R495). -/
  | recCursorNext
  /-- Command 5 loads the previous 8 records (R495). -/
  | recCursorPrevious
  /-- The window load ends and busy clears (R495). -/
  | recWindowLoaded
  /-- AUD_RING_CTL.enable written 1 enables delivery when the configuration is valid (R482). -/
  | audRingEnable (m : Master) (log2 : BitVec 5)
  /-- AUD_RING_CTL.enable written 0 disables delivery after the current close (R482). -/
  | audRingDisable (m : Master)
  /-- The host's audit consumer index is accepted under R170 (R485). -/
  | audRingHead (value : BitVec 32)
  /-- Policy written STOP first appends any open GAP record and then applies STOP (R479). -/
  | audPolicyToStop (m : Master)
  /-- Policy written GAP ends a stall at the next close (R479). -/
  | audPolicyToGap (m : Master)
  /-- Generator start-up ends in RUNNING or HALTED (R513). -/
  | rngStartupEnd (tests : Bool) (passed : BitVec 16)
  /-- After each 1,024-sample block a source's trim code moves one step (R500). -/
  | rngTrimBlock (source ones : Nat)
  /-- After each 4,096-sample block bias and correlation estimates update, and a stuck trim fails the source (R511). -/
  | rngEstimateBlock (source ones : Nat) (lags : BitVec 32)
  /-- A source fails a health test, is isolated, and the generator reseeds or halts (R514). -/
  | rngSourceFail (source : Nat) (repetition : Bool)
  /-- The DRBG reseed from fresh blocks ends and the generator is RUNNING (R512). -/
  | rngReseedComplete
  /-- After 1,024 generate requests the DRBG reseeds, pausing when the pool is short (R503). -/
  | drbgScheduledReseed
  /-- A step unbound for RNG_WAIT_LIMIT swaths ends with RES_RNG_NOT_READY (R508). -/
  | rngWaitExpiry (slot step : Nat)
  /-- RNG_CTL.restart written 1 restarts the generator when permitted (R512). -/
  | rngRestart (m : Master)
  /-- RNG_MIN_SOURCES.min is written and halts the generator if above the healthy count (R512). -/
  | rngMinSourcesWrite (m : Master) (value : BitVec 32)
  /-- SIG_SELFTEST.start starts the self-test of a quarantined PK engine (R351). -/
  | sigSelftestStart (m : Master) (engine : Nat)
  /-- The self-test ends, putting the engine in OFF on a pass or FAILED on a fail (R351). -/
  | sigSelftestEnd (passed : Bool)
  /-- A bit of CTL_KEY_BAY_FLUSH flushes the unpinned entries of a bay (R284). -/
  | keyBayFlush (m : Master) (bays : Nat)
  /-- A Stile key handle is written and its material copied into the keeper or refused (R666). -/
  | stlKeyHandleWrite (m : Master) (handle : BitVec 64)
  /-- One-syllable register move (R533). -/
  | amMovS (x : Issue) (rd rs : BitVec 3)
  /-- One-syllable add (R533). -/
  | amAddS (x : Issue) (rd rs : BitVec 3)
  /-- One-syllable subtract (R533). -/
  | amSubS (x : Issue) (rd rs : BitVec 3)
  /-- One-syllable no operation (R533). -/
  | amNopS (x : Issue)
  /-- One-syllable increment (R533). -/
  | amIncS (x : Issue) (rd : BitVec 3)
  /-- One-syllable decrement (R533). -/
  | amDecS (x : Issue) (rd : BitVec 3)
  /-- One-syllable bitwise not (R533). -/
  | amNotS (x : Issue) (rd : BitVec 3)
  /-- One-syllable negate (R533). -/
  | amNegS (x : Issue) (rd : BitVec 3)
  /-- One-syllable shift left by 1 (R533). -/
  | amShl1S (x : Issue) (rd : BitVec 3)
  /-- One-syllable logical shift right by 1 (R533). -/
  | amShr1S (x : Issue) (rd : BitVec 3)
  /-- One-syllable clear (R533). -/
  | amClrS (x : Issue) (rd : BitVec 3)
  /-- Register add (R534). -/
  | amAdd (x : Issue) (rd rs1 rs2 : BitVec 5)
  /-- Register subtract (R534). -/
  | amSub (x : Issue) (rd rs1 rs2 : BitVec 5)
  /-- Register and (R534). -/
  | amAnd (x : Issue) (rd rs1 rs2 : BitVec 5)
  /-- Register or (R534). -/
  | amOr (x : Issue) (rd rs1 rs2 : BitVec 5)
  /-- Register exclusive or (R534). -/
  | amXor (x : Issue) (rd rs1 rs2 : BitVec 5)
  /-- Register and-not (R534). -/
  | amAndn (x : Issue) (rd rs1 rs2 : BitVec 5)
  /-- Shift left by register (R534). -/
  | amShl (x : Issue) (rd rs1 rs2 : BitVec 5)
  /-- Logical shift right by register (R534). -/
  | amShr (x : Issue) (rd rs1 rs2 : BitVec 5)
  /-- Arithmetic shift right by register (R534). -/
  | amSar (x : Issue) (rd rs1 rs2 : BitVec 5)
  /-- Rotate left by register (R534). -/
  | amRol (x : Issue) (rd rs1 rs2 : BitVec 5)
  /-- Rotate right by register (R534). -/
  | amRor (x : Issue) (rd rs1 rs2 : BitVec 5)
  /-- Signed minimum (R534). -/
  | amMin (x : Issue) (rd rs1 rs2 : BitVec 5)
  /-- Signed maximum (R534). -/
  | amMax (x : Issue) (rd rs1 rs2 : BitVec 5)
  /-- Unsigned minimum (R534). -/
  | amMinu (x : Issue) (rd rs1 rs2 : BitVec 5)
  /-- Unsigned maximum (R534). -/
  | amMaxu (x : Issue) (rd rs1 rs2 : BitVec 5)
  /-- Count leading zeros (R534). -/
  | amClz (x : Issue) (rd rs1 : BitVec 5)
  /-- Count ones (R534). -/
  | amPopc (x : Issue) (rd rs1 : BitVec 5)
  /-- Byte reversal (R534). -/
  | amBswap (x : Issue) (rd rs1 : BitVec 5)
  /-- Low 64 bits of a product (R534). -/
  | amMul (x : Issue) (rd rs1 rs2 : BitVec 5)
  /-- Signed high 64 bits of a product (R534). -/
  | amMulh (x : Issue) (rd rs1 rs2 : BitVec 5)
  /-- Unsigned high 64 bits of a product (R534). -/
  | amMulhu (x : Issue) (rd rs1 rs2 : BitVec 5)
  /-- Multiply-accumulate (R534). -/
  | amMac (x : Issue) (rd rs1 rs2 : BitVec 5)
  /-- Add immediate, also the three-syllable form (R534). -/
  | amAddi (x : Issue) (rd rs1 : BitVec 5) (imm : BitVec 5)
  /-- And immediate (R534). -/
  | amAndi (x : Issue) (rd rs1 : BitVec 5) (imm : BitVec 5)
  /-- Or immediate (R534). -/
  | amOri (x : Issue) (rd rs1 : BitVec 5) (imm : BitVec 5)
  /-- Exclusive-or immediate (R534). -/
  | amXori (x : Issue) (rd rs1 : BitVec 5) (imm : BitVec 5)
  /-- Shift left immediate (R534). -/
  | amShli (x : Issue) (rd rs1 : BitVec 5) (imm : BitVec 5)
  /-- Logical shift right immediate (R534). -/
  | amShri (x : Issue) (rd rs1 : BitVec 5) (imm : BitVec 5)
  /-- Arithmetic shift right immediate (R534). -/
  | amSari (x : Issue) (rd rs1 : BitVec 5) (imm : BitVec 5)
  /-- Rotate right immediate (R534). -/
  | amRori (x : Issue) (rd rs1 : BitVec 5) (imm : BitVec 5)
  /-- Load a sign-extended 10-bit immediate (R534). -/
  | amLi (x : Issue) (rd : BitVec 5) (imm : BitVec 10)
  /-- Three-syllable add immediate (R534). -/
  | amAddi3 (x : Issue) (rd rs1 : BitVec 5) (imm : BitVec 20)
  /-- Three-syllable and immediate (R534). -/
  | amAndi3 (x : Issue) (rd rs1 : BitVec 5) (imm : BitVec 20)
  /-- Three-syllable or immediate (R534). -/
  | amOri3 (x : Issue) (rd rs1 : BitVec 5) (imm : BitVec 20)
  /-- Three-syllable exclusive-or immediate (R534). -/
  | amXori3 (x : Issue) (rd rs1 : BitVec 5) (imm : BitVec 20)
  /-- Three-syllable shift left immediate (R534). -/
  | amShli3 (x : Issue) (rd rs1 : BitVec 5) (imm : BitVec 20)
  /-- Three-syllable logical shift right immediate (R534). -/
  | amShri3 (x : Issue) (rd rs1 : BitVec 5) (imm : BitVec 20)
  /-- Three-syllable arithmetic shift right immediate (R534). -/
  | amSari3 (x : Issue) (rd rs1 : BitVec 5) (imm : BitVec 20)
  /-- Three-syllable rotate right immediate (R534). -/
  | amRori3 (x : Issue) (rd rs1 : BitVec 5) (imm : BitVec 20)
  /-- Load a sign-extended 25-bit immediate (R534). -/
  | amLi3 (x : Issue) (rd : BitVec 5) (imm : BitVec 25)
  /-- Shift left 25 and or in an immediate (R534). -/
  | amLih (x : Issue) (rd : BitVec 5) (imm : BitVec 25)
  /-- Predicate from equality (R534). -/
  | amCmpeq (x : Issue) (pd : BitVec 3) (rs1 rs2 : BitVec 5)
  /-- Predicate from inequality (R534). -/
  | amCmpne (x : Issue) (pd : BitVec 3) (rs1 rs2 : BitVec 5)
  /-- Predicate from signed less-than (R534). -/
  | amCmplt (x : Issue) (pd : BitVec 3) (rs1 rs2 : BitVec 5)
  /-- Predicate from signed greater-or-equal (R534). -/
  | amCmpge (x : Issue) (pd : BitVec 3) (rs1 rs2 : BitVec 5)
  /-- Predicate from unsigned less-than (R534). -/
  | amCmpltu (x : Issue) (pd : BitVec 3) (rs1 rs2 : BitVec 5)
  /-- Predicate from unsigned greater-or-equal (R534). -/
  | amCmpgeu (x : Issue) (pd : BitVec 3) (rs1 rs2 : BitVec 5)
  /-- Immediate equality compare (R534). -/
  | amCmpeqi (x : Issue) (pd : BitVec 3) (rs1 : BitVec 5) (imm : BitVec 20)
  /-- Immediate inequality compare (R534). -/
  | amCmpnei (x : Issue) (pd : BitVec 3) (rs1 : BitVec 5) (imm : BitVec 20)
  /-- Immediate signed less-than compare (R534). -/
  | amCmplti (x : Issue) (pd : BitVec 3) (rs1 : BitVec 5) (imm : BitVec 20)
  /-- Immediate signed greater-or-equal compare (R534). -/
  | amCmpgei (x : Issue) (pd : BitVec 3) (rs1 : BitVec 5) (imm : BitVec 20)
  /-- Immediate unsigned less-than compare (R534). -/
  | amCmpltui (x : Issue) (pd : BitVec 3) (rs1 : BitVec 5) (imm : BitVec 20)
  /-- Immediate unsigned greater-or-equal compare (R534). -/
  | amCmpgeui (x : Issue) (pd : BitVec 3) (rs1 : BitVec 5) (imm : BitVec 20)
  /-- Predicate and (R534). -/
  | amPand (x : Issue) (pd ps1 ps2 : BitVec 3)
  /-- Predicate or (R534). -/
  | amPor (x : Issue) (pd ps1 ps2 : BitVec 3)
  /-- Predicate exclusive or (R534). -/
  | amPxor (x : Issue) (pd ps1 ps2 : BitVec 3)
  /-- Predicate and-not (R534). -/
  | amPandn (x : Issue) (pd ps1 ps2 : BitVec 3)
  /-- Read a special register (R524). -/
  | amMfs (x : Issue) (rd code : BitVec 5)
  /-- Write a writable special register (R524). -/
  | amMts (x : Issue) (code rs : BitVec 5)
  /-- Local zero-extended byte load (R536). -/
  | amLdB (x : Issue) (rd rb : BitVec 5) (cap : BitVec 3) (off : Int)
  /-- Local zero-extended halfword load (R536). -/
  | amLdH (x : Issue) (rd rb : BitVec 5) (cap : BitVec 3) (off : Int)
  /-- Local zero-extended word load (R536). -/
  | amLdW (x : Issue) (rd rb : BitVec 5) (cap : BitVec 3) (off : Int)
  /-- Local doubleword load (R536). -/
  | amLdD (x : Issue) (rd rb : BitVec 5) (cap : BitVec 3) (off : Int)
  /-- Local sign-extended byte load (R536). -/
  | amLdsB (x : Issue) (rd rb : BitVec 5) (cap : BitVec 3) (off : Int)
  /-- Local sign-extended halfword load (R536). -/
  | amLdsH (x : Issue) (rd rb : BitVec 5) (cap : BitVec 3) (off : Int)
  /-- Local sign-extended word load (R536). -/
  | amLdsW (x : Issue) (rd rb : BitVec 5) (cap : BitVec 3) (off : Int)
  /-- Byte store, local at issue or buffered (R548). -/
  | amStB (x : Issue) (rs rb : BitVec 5) (cap : BitVec 3) (off : Int)
  /-- Halfword store (R548). -/
  | amStH (x : Issue) (rs rb : BitVec 5) (cap : BitVec 3) (off : Int)
  /-- Word store (R548). -/
  | amStW (x : Issue) (rs rb : BitVec 5) (cap : BitVec 3) (off : Int)
  /-- Doubleword store (R548). -/
  | amStD (x : Issue) (rs rb : BitVec 5) (cap : BitVec 3) (off : Int)
  /-- Split shared load that clears its landing predicate (R545). -/
  | amLdxD (x : Issue) (rd rb : BitVec 5) (cap pl : BitVec 3) (off : Int)
  /-- Local capability load with tag (R534). -/
  | amLdc (x : Issue) (cd : BitVec 3) (rb : BitVec 5) (cap : BitVec 3) (off : Int)
  /-- Local capability store with tag (R564). -/
  | amStc (x : Issue) (cs : BitVec 3) (rb : BitVec 5) (cap : BitVec 3) (off : Int)
  /-- Split shared capability load (R545). -/
  | amLdcx (x : Issue) (cd : BitVec 3) (rb : BitVec 5) (cap pl : BitVec 3) (off : Int)
  /-- Buffered capability store (R565). -/
  | amStcx (x : Issue) (cs : BitVec 3) (rb : BitVec 5) (cap : BitVec 3) (off : Int)
  /-- Branch with one delay slot (R542). -/
  | amB (x : Issue) (disp : Int)
  /-- Branch writing the return address to g31 (R542). -/
  | amCall (x : Issue) (disp : Int)
  /-- Branch to a register address (R542). -/
  | amBr (x : Issue) (rs : BitVec 5)
  /-- Call to a register address (R542). -/
  | amCallr (x : Issue) (rs : BitVec 5)
  /-- Arm a hardware loop level (R550). -/
  | amLoop (x : Issue) (level : Bool) (rc : BitVec 5) (endOff : Nat)
  /-- Call through a sealed entry capability, saving a gate frame (R574). -/
  | amGate (x : Issue) (cd cs ct : BitVec 3)
  /-- Return from a gate or exception link (R575). -/
  | amRetc (x : Issue)
  /-- Copy a capability with its tag (R567). -/
  | amCcopy (x : Issue) (cd cs : BitVec 3)
  /-- Remove permissions from a capability (R567). -/
  | amCtrim (x : Issue) (cd cs : BitVec 3) (rs : BitVec 5)
  /-- Read a capability field (R567). -/
  | amCread (x : Issue) (rd : BitVec 5) (cs : BitVec 3) (field : BitVec 2)
  /-- Seal a capability with a grant's type (R568). -/
  | amCwrap (x : Issue) (cd cs ct : BitVec 3)
  /-- Unseal a capability of a grant's type (R568). -/
  | amCunwrap (x : Issue) (cd cs ct : BitVec 3)
  /-- Clear a capability's tag (R567). -/
  | amCvoid (x : Issue) (cd : BitVec 3)
  /-- Derive a type grant from a root grant (R568). -/
  | amCgrant (x : Issue) (cd cs : BitVec 3) (rs : BitVec 5)
  /-- Narrow a capability's range (R567). -/
  | amCclip (x : Issue) (cd cs : BitVec 3) (ro rl : BitVec 5)
  /-- Stall while a split load naming the predicate is outstanding (R546). -/
  | amWait (x : Issue) (pl : BitVec 3)
  /-- Drain the store buffer (R584). -/
  | amFenceS (x : Issue)
  /-- End the tenant step and park the context (R556). -/
  | amYield (x : Issue)
  /-- End the tenant invocation with output or failure (R556). -/
  | amDone (x : Issue) (rs rl : BitVec 5)
  /-- Raise vector 12 (R577). -/
  | amBreak (x : Issue) (tag : BitVec 8)
  /-- Two-syllable no operation (R534). -/
  | amNop (x : Issue)
  /-- SYS function binding a step (R557). -/
  | sysStepBind (x : Issue) (cap : BitVec 3) (rs : BitVec 5)
  /-- SYS function ending a step (R557). -/
  | sysStepEnd (x : Issue) (cap : BitVec 3) (rs : BitVec 5)
  /-- SYS function posting a windrow (R557). -/
  | sysWindrowPost (x : Issue) (cap : BitVec 3) (rs : BitVec 5)
  /-- SYS function reading the ledger (R557). -/
  | sysLedgerRead (x : Issue) (cap : BitVec 3) (rs : BitVec 5)
  /-- SYS function fetching a key to a bay (R557). -/
  | sysKeyFetch (x : Issue) (cap : BitVec 3) (rs : BitVec 5)
  /-- SYS function sealing a key (R557). -/
  | sysKeySeal (x : Issue) (cap : BitVec 3) (rs : BitVec 5)
  /-- SYS function pinning a key (R557). -/
  | sysKeyPin (x : Issue) (cap : BitVec 3) (rs : BitVec 5)
  /-- SYS function checking a session (R557). -/
  | sysSessionCheck (x : Issue) (cap : BitVec 3) (rs : BitVec 5)
  /-- SYS function waking a power domain (R557). -/
  | sysDomainWake (x : Issue) (cap : BitVec 3) (rs : BitVec 5)
  /-- SYS function gating a power domain (R557). -/
  | sysDomainGate (x : Issue) (cap : BitVec 3) (rs : BitVec 5)
  /-- SYS function reading supply pressure (R557). -/
  | sysPressureRead (x : Issue) (cap : BitVec 3) (rs : BitVec 5)
  /-- SYS function raising an event (R557). -/
  | sysEvtRaise (x : Issue) (cap : BitVec 3) (rs : BitVec 5)
  /-- SYS function routing an event (R557). -/
  | sysEvtRoute (x : Issue) (cap : BitVec 3) (rs : BitVec 5)
  /-- SYS function writing a gate region register with its CONFIG record (R596). -/
  | sysGateWrite (x : Issue) (cap : BitVec 3) (rs : BitVec 5)
  /-- SYS function stalling until a gate's older accesses complete (R596). -/
  | sysGateSync (x : Issue) (cap : BitVec 3) (rs : BitVec 5)
  /-- SYS function starting a core at vector 0 (R569). -/
  | sysCoreStart (x : Issue) (cap : BitVec 3) (rs : BitVec 5)
  /-- SYS function stopping a core (R557). -/
  | sysCoreStop (x : Issue) (cap : BitVec 3) (rs : BitVec 5)
  /-- SYS function sealing and writing a program memory row (R530). -/
  | sysPmWrite (x : Issue) (cap : BitVec 3) (rs : BitVec 5)
  /-- SYS function halting (R557). -/
  | sysHalt (x : Issue) (cap : BitVec 3) (rs : BitVec 5)
  /-- SYS function enabling trace (R557). -/
  | sysTraceOn (x : Issue) (cap : BitVec 3) (rs : BitVec 5)
  /-- SYS function disabling trace (R557). -/
  | sysTraceOff (x : Issue) (cap : BitVec 3) (rs : BitVec 5)
  /-- SYS function setting a breakpoint (R557). -/
  | sysBreakSet (x : Issue) (cap : BitVec 3) (rs : BitVec 5)
  /-- Code flash READ command of one word (R607). -/
  | flsRead (src : FlsSource) (corrected : Bool)
  /-- Code flash PROGRAM command of one erased word (R608). -/
  | flsProgram (src : FlsSource)
  /-- Code flash ERASE of a sector after a ledger started word (R611). -/
  | flsErase (src : FlsSource)
  /-- Code flash SUSPEND of an erase (R612). -/
  | flsSuspend (src : FlsSource)
  /-- Code flash RESUME of a suspended erase (R611). -/
  | flsResume (src : FlsSource)
  /-- A code flash program ends with FLS_DONE (R611). -/
  | flsProgramEnd (partition : Nat)
  /-- An erase verifies or fails at 80 pulses; the ledger done word is appended and a failed sector remapped (R611). -/
  | flsEraseEnd (partition pulses : Nat) (passed : Bool)
  /-- The erase pulse stops and the partition is SUSPENDED (R612). -/
  | flsSuspendDone (partition : Nat)
  /-- A split load's data returns and sets its landing predicate, or marks it failed (R545). -/
  | splitLoadLanding (core : Nat) (ok : Bool)
  /-- A buffered store fails after issue and vector 10 is raised at the next boundary (R584). -/
  | lateStoreError (core cause : Nat)
  /-- A pending interrupt is taken at a permitted boundary (R582). -/
  | interruptEntry (core : Nat)
  /-- A tenant step budget expires and vector 14 ends the job with RES_TENANT_OVERRUN (R556). -/
  | stepBudgetExpiry (core clock : Nat)
  /-- UNIT_CTL.enable written 1 enables a unit or every descendant (R760). -/
  | unitEnable (m : Master) (page : Nat)
  /-- UNIT_CTL.enable written 0 with DRAIN quiesces the unit as its work ends (R762). -/
  | unitDisableDrain (m : Master) (page : Nat)
  /-- UNIT_CTL.enable written 0 with WITHDRAW withdraws its jobs at the next close (R762). -/
  | unitDisableWithdraw (m : Master) (page : Nat)
  /-- UNIT_CTL.isolate written 1 cuts the unit off and withdraws its work (R760). -/
  | unitIsolate (m : Master) (page : Nat)
  /-- UNIT_CTL.isolate written 0 returns a cause 0 isolated unit to OFF after a wipe (R760). -/
  | unitUnisolate (m : Master) (page : Nat)
  /-- A plane's profile is written, or stored in requested while in THERMAL (R75). -/
  | unitProfileWrite (m : Master) (plane : Nat) (value : BitVec 4)
  /-- A write of 1 to a pending bit clears it in the page and its descendants (R764). -/
  | unitEvtPendClear (page : Nat) (mask : BitVec 9)
  /-- A read of UNIT_ERR_CAPT3 returns and clears the count and re-arms the capture (R756). -/
  | unitErrCapt3Read (m : Master) (page : Nat)
  /-- A domain whose units have been idle for the threshold gates off (R740). -/
  | domainIdleGate (d : Nat)
  /-- A waking domain is powered and bound work starts (R760). -/
  | domainWakeDone (d : Nat)
  /-- A domain switch latches off on overcurrent, isolating its units (R741). -/
  | domainShortLatch (d : Nat)
  /-- A bit of PWR_DOMAIN_CLEAR re-energises and wipes a latched domain (R742). -/
  | pwrDomainClear (m : Master) (high : Bool) (mask : BitVec 32)
  /-- Loss of input, a fast fall, an open input switch, a rail fault or a hot root sensor starts the power-fail sequence (R736). -/
  | powerFailStart (mv : Nat) (rail : Bool)
  /-- The journal, audit staging and recorder flushes end and the keeper writes its state record (R747). -/
  | powerFailFlushDone
  /-- The rails switch off at the end of the sequence, and start-up follows if input is present (R747). -/
  | railsOff (input : Bool)
  /-- PWR_IN rises above 42 V and is clamped (R734). -/
  | overvoltageClamp (mv : Nat)
  /-- Overvoltage persists 100 ms and the input switch opens (R734). -/
  | overvoltageTimeout
  /-- PWR_IN is reversed and blocked, with the event recorded at the next start-up (R734). -/
  | reverseInput
  /-- The current limiter holds for 10 ms and pressure rises to level 2 (R735). -/
  | currentLimitHold
  /-- A pressure condition arises and the new level is broadcast (R737). -/
  | pressureRise (mv ma : Nat)
  /-- Conditions above a lower level have been absent for 64 swaths and the level falls (R737). -/
  | pressureFall (mv ma : Nat)
  /-- At start-up and every 2^22 swaths the bank capacitance is measured (R746). -/
  | holdupTest (uf mv : Nat)
  /-- Each swath the junction sensors are sampled, starting throttling, shutdown or sensor faults (R749). -/
  | thermalSample (temps : List (BitVec 10)) (odd : List Nat)
  /-- A sensor stays below 100 °C for 64 swaths and throttling ends (R750). -/
  | throttleEnd (sensor : Nat)
  /-- All plane sensors below 100 °C for 4,096 swaths and the plane leaves THERMAL (R75). -/
  | thermalProfileExit (plane : Nat)
  /-- A shut-down domain's sensor stays below 95 °C for 4,096 swaths and the domain is wiped and returns to OFF (R751). -/
  | thermalShutdownRecover (d : Nat)
  /-- A Hedge sensor detects tamper and the keeper performs the tamper response (R707). -/
  | hedgeSensorTrip (cause detail : Nat) (value : BitVec 16)
  /-- The keeper's seconds count increments (R717). -/
  | keeperSecondsTick (extMv cellMv : BitVec 16)
  /-- CC_DET stable for 20 ms counts an insertion and activation begins (R634). -/
  | cardInserted
  /-- CC_DET shows removal and deactivation starts at once (R634). -/
  | cardRemoved
  /-- CC_VCC current above 60 mA deactivates the card and latches short (R633). -/
  | cardShort
  /-- No ATR within 40,000 clocks and the next class is tried (R632). -/
  | cardAtrTimeout
  /-- CARD_CTL.retry clears the short latch and activates the card again (R633). -/
  | cardRetry (m : Master)
  /-- A card answers an APDU and the presentation advances or ends (R651). -/
  | cardResponse (reader : Bool) (reply : CardReply)
  /-- The ACCEPT button is pressed during a presentation (R651). -/
  | btnAccept
  /-- The REJECT button is pressed, or both together (R651). -/
  | btnReject
  /-- No button within 30 s ends the presentation with outcome 6 (R652). -/
  | presentationButtonTimeout (reader : Bool)
  /-- A presentation not ended 60 s after step 1 is abandoned (R651). -/
  | presentationAbandon (reader : Bool)
  /-- The 300 s window ends and the active request expires (R650). -/
  | ceremonyWindowEnd
  /-- BND_CER_CTL.cancel cancels the active request (R650). -/
  | ceremonyCancel (m : Master)
  /-- A low-power detection ping measures the antenna and may switch the field on (R637). -/
  | rdrPing (amplitude : BitVec 8) (antenna : BitVec 2)
  /-- An open or shorted antenna switches the field off (R638). -/
  | rdrAntennaFault (short : Bool)
  /-- A card frame arrives at the reader during polling or anticollision (R639). -/
  | rdrFrameReceived (frame : RdrFrame)
  /-- A reader field appears and the tag draws a new UID and finds the latest log seq (R660). -/
  | stileFieldEntry
  /-- The field is lost and the session ends (R661). -/
  | stileFieldLoss
  /-- REQA is answered with ATQA (R661). -/
  | stileReqa
  /-- WUPA is answered with ATQA (R661). -/
  | stileWupa
  /-- An anticollision command matching the UID is answered (R661). -/
  | stileAnticollision (known : List Bool)
  /-- SELECT with the full UID makes the tag ACTIVE (R661). -/
  | stileSelectFrame (uid : Bytes) (bcc : BitVec 8)
  /-- RATS is answered with the ATS (R660). -/
  | stileRats
  /-- HLTA puts the tag in HALT (R661). -/
  | stileHlta
  /-- An R-block is handled under ISO/IEC 14443-4 (R661). -/
  | stileRBlock (ack number : Bool)
  /-- An S(WTX) response is handled (R661). -/
  | stileWtxResponse
  /-- S(DESELECT) puts the tag in HALT (R661). -/
  | stileDeselect
  /-- The Stile AID is selected and, first in the session, a tap-log entry is appended (R669). -/
  | stileApduSelect (aid : Bytes) (written : Nat)
  /-- Bytes of the attestation statement are returned (R662). -/
  | stileReadStatement (offset le : Nat)
  /-- A live status with a CMAC tag over the challenge is returned (R665). -/
  | stileGetStatus (challenge : Bytes)
  /-- Tap-log slots are returned newest first (R662). -/
  | stileReadLog (back le : Nat)
  /-- A response not ready within 500 µs sends S(WTX) (R668). -/
  | stileWtxTimer
  /-- Module firmware writes the Stile region through the keeper's port under the lock (R667). -/
  | stileWireWrite (addr : Nat) (data : Bytes) (held : Bool)
  /-- Module firmware signs and writes a new statement after a change or start-up (R664). -/
  | stileStatementRefresh
  /-- SD_CD_N stable for 20 ms counts an insertion and the directory is read and a following set adopted (R680). -/
  | sdcInserted (card : SdCard)
  /-- SD_CD_N shows removal and the bus is stopped within 10 µs (R674). -/
  | sdcRemoved
  /-- Once per second in SDR104 the sample point is re-tuned (R673). -/
  | sdcRetuneTimer (taps : Nat)
  /-- An SD command ends, with a CRC error leading to re-tune and reissue (R673). -/
  | sdcCommandDone (crcOk : Bool) (taps : Nat)
  /-- The card ends the busy phase of a write (R679). -/
  | sdcBusyEnd (error : Bool)
  /-- FOLD_PORT_CTL.enable written 1 lets the port leave DOWN (R696). -/
  | foldPortEnable (m : Master) (port : Nat)
  /-- FOLD_PORT_CTL.enable written 0 sends CLOSE and takes the port DOWN (R696). -/
  | foldPortDisable (m : Master) (port : Nat)
  /-- Block lock and FEC alignment are gained and the HELLO exchange begins (R696). -/
  | foldBlockLock (port : Nat)
  /-- Block lock is lost and the port goes DOWN (R696). -/
  | foldBlockLockLost (port : Nat)
  /-- The handshake exceeds 100 ms and the port is REFUSED (R696). -/
  | foldHandshakeTimeout (port : Nat)
  /-- After 1 s in REFUSED the port returns to TRAINING (R696). -/
  | foldRefusedRetry (port : Nat)
  /-- 8 swaths with no valid frame take the port DOWN (R696). -/
  | foldIdleTimeout (port : Nat)
  /-- A HELLO is received, answered or checked (R694). -/
  | foldHello (port : Nat) (body : Bytes)
  /-- A FINISH is received and the peer accepted or refused (R695). -/
  | foldFinish (port : Nat) (tag : Bytes)
  /-- An ECHO is received and answered within 1 µs (R697). -/
  | foldEcho (f : FoldFrame)
  /-- An ECHO_REPLY arrives and an RTT sample is taken (R697). -/
  | foldEchoReply (f : FoldFrame) (ns : Nat)
  /-- A ROUTE mask is received for forwarding (R692). -/
  | foldRoute (f : FoldFrame)
  /-- A MIRROR is unsealed, resealed, appended and acknowledged (R700). -/
  | foldMirror (f : FoldFrame)
  /-- A MIRROR_ACK clears unmirrored or substitutes or redraws the token (R701). -/
  | foldMirrorAck (f : FoldFrame)
  /-- Replicated key blocks are written at their block numbers and acknowledged (R702). -/
  | foldKeyRepl (f : FoldFrame)
  /-- A KEY_ACK advances the replication cursor (R702). -/
  | foldKeyAck (f : FoldFrame)
  /-- A replicated domain entry is written and acknowledged (R702). -/
  | foldDomainRepl (f : FoldFrame)
  /-- A DOMAIN_ACK advances the cursor (R702). -/
  | foldDomainAck (f : FoldFrame)
  /-- A checkpoint body is co-signed for a member (R703). -/
  | foldCosignReq (f : FoldFrame)
  /-- A co-signature is stored in the checkpoint slot (R470). -/
  | foldCosignResp (f : FoldFrame)
  /-- A peer's replication cursor is received (R704). -/
  | foldResyncState (f : FoldFrame)
  /-- A CLOSE takes the port DOWN (R696). -/
  | foldClose (port : Nat)
  /-- A read of an RC field returns and clears it, and a read of a low word latches the high word for the same master (R2). -/
  | registerRead (m : Master) (bar2 : Bool) (off width : Nat)
  /-- A DOE data object of an unserved vendor ID or type is discarded and DOE Error is set (R121). -/
  | doeUnservedRequest (vendor type : Nat)
  /-- PSK_EXCHANGE, SET_CERTIFICATE, GET_CSR, chunking or mutual authentication is answered with ERROR UnsupportedRequest (R122). -/
  | spdmUnsupportedRequest (code : Nat)
  /-- A correctable link error is reported through AER and counted (R125). -/
  | correctableLinkError (status : Nat)
  /-- A fold frame that fails MACsec, has a wrong MAC address, version or reserved type is discarded and counted (R693). -/
  | foldFrameDiscarded (port : Nat) (macsec : Bool) (codewords : Nat)
  /-- The card's answer to reset arrives, and PPS follows or the next class is tried (R632). -/
  | cardAtr (malformed : Bool) (classes : BitVec 3) (t0 t1 : Bool) (fmax : Nat)
  /-- A T=0 or T=1 protocol timeout deactivates the card and raises EVT_BND_CARD_PROTOCOL (R635). -/
  | cardProtocolTimeout
  /-- A reader command draws no answer within its frame waiting time, so polling ends, the field goes off or the session fails (R639). -/
  | rdrResponseTimeout
  /-- The tag receives a frame with an error, a frame not listed for its state, or an APDU outside its command table, and ignores it, returns to IDLE or answers 6D 00 (R661). -/
  | stileUnlistedFrame (apdu : Option Bytes)
  /-- A buffered shared store completes at its target and leaves the store buffer, releasing a full-buffer stall, FENCE.S or a switch drain (R548). -/
  | bufferedStoreDone (core : Nat)
  /-- The conditioner finishes a 128-bit block from 2,048 raw bits and adds it to the pool, letting a paused scheduled reseed go on (R502). -/
  | conditionedBlockReady
deriving DecidableEq, Repr

end Sys2Proof
end

