-- ==== Sys2Proof/Config.lean ====
section
/-!
DEFINITION. Sys2Proof/Config.lean: what one part fixes (its identity numbers and capacities), the values the spec leaves
open, and the functions that the spec takes whole from other standards (ciphers, hashes, signatures). Nothing here that
is `opaque` has a body: no proof can rest on a value of it (log entries 5 and 6).
-/
namespace Sys2Proof.Config
open Sys2Proof

/-- Free values: the n-th draw, wherever the spec leaves a value open or calls it random (R499 to R518; DESIGN CHOICE, log entry 5). -/
opaque freeValue : Nat → BitVec 256

/-- SHA-384 of a byte string, as the standard the spec names computes it (DESIGN CHOICE, log entry 6). -/
opaque sha384 : Bytes → BitVec 384

/-- SHA-256 of a byte string (DESIGN CHOICE, log entry 6). -/
opaque sha256 : Bytes → BitVec 256

/-- The AES block cipher under a 128-, 192- or 256-bit key (DESIGN CHOICE, log entry 6). -/
opaque aesEncrypt : Bytes → BitVec 128 → BitVec 128

/-- The inverse of the AES block cipher (DESIGN CHOICE, log entry 6). -/
opaque aesDecrypt : Bytes → BitVec 128 → BitVec 128

/-- The TDES block cipher (DESIGN CHOICE, log entry 6). -/
opaque tdesEncrypt : Bytes → BitVec 64 → BitVec 64

/-- The inverse of the TDES block cipher (DESIGN CHOICE, log entry 6). -/
opaque tdesDecrypt : Bytes → BitVec 64 → BitVec 64

/-- Byte i of the result of a named function of another standard on a list of byte-string arguments, where the spec gives the
function by its standard's name alone (DESIGN CHOICE, log entry 6). -/
opaque standard : String → List Bytes → Nat → BitVec 8

/-- Whether a named check of another standard (a signature, a certificate, a well-formed encoding) passes on its arguments
(DESIGN CHOICE, log entry 6). -/
opaque accepts : String → List Bytes → Bool

/-- The fused seed and the physical unclonable function of this part (R251): they fix the die secret. -/
opaque dieSeed : BitVec 256

/-- Record capacity C of the audit reserve (R473). -/
def reserveCapacity : Nat := 346816512

/-- Job slots of the module (R1, R203). -/
def jobSlots : Nat := 4096

end Sys2Proof.Config
end

