-- ==== Sys2Proof/Machine/Map.lean ====
section
/-!
DEFINITION. Sys2Proof/Machine/Map.lean: the operations of the sparse maps, and the byte-string and bit-field helpers
that the meanings use (little-endian and big-endian fields, zero-filled reads, saturating counts).
-/
namespace Sys2Proof.Machine
open Sys2Proof

/-- The record listed under `k`, if there is one. -/
def mfind {β : Type} (k : Nat) : AMap β → Option β
  | [] => none
  | (j, v) :: m => if j = k then some v else mfind k m

/-- The record under `k`, where an unlisted number stands for `d`. -/
def mget {β : Type} (d : β) (m : AMap β) (k : Nat) : β := (mfind k m).getD d

/-- List `v` under `k`, keeping the keys rising. -/
def mput {β : Type} (k : Nat) (v : β) : AMap β → AMap β
  | [] => [(k, v)]
  | (j, w) :: m => if k < j then (k, v) :: (j, w) :: m else if j = k then (k, v) :: m else (j, w) :: mput k v m

/-- Take `k` out of the map. -/
def merase {β : Type} (k : Nat) : AMap β → AMap β
  | [] => []
  | (j, w) :: m => if j = k then merase k m else (j, w) :: merase k m

/-- Store `v` under `k` in a map whose unlisted numbers stand for `d`: storing `d` takes the entry out, so that equal
maps are equal data. -/
def mset {β : Type} [DecidableEq β] (d : β) (m : AMap β) (k : Nat) (v : β) : AMap β :=
  if v = d then merase k m else mput k v m

/-- Change the record under `k`. -/
def mupd {β : Type} [DecidableEq β] (d : β) (m : AMap β) (k : Nat) (f : β → β) : AMap β :=
  mset d m k (f (mget d m k))

/-- Change every listed record. -/
def mapVals {β : Type} (f : Nat → β → β) (m : AMap β) : AMap β := m.map (fun e => (e.1, f e.1 e.2))

/-- Change every listed record of a map whose unlisted numbers stand for `d`; a record that becomes `d` leaves the map. -/
def mapTotal {β : Type} [DecidableEq β] (d : β) (f : Nat → β → β) (m : AMap β) : AMap β :=
  (mapVals f m).filter (fun e => decide (e.2 ≠ d))

/-- The numbers listed. -/
def keys {β : Type} (m : AMap β) : List Nat := m.map Prod.fst

/-- The keys of a map are strictly rising. -/
def rising {β : Type} : AMap β → Bool
  | [] => true
  | (j, _) :: m => m.all (fun e => decide (j < e.1)) && rising m

/-- The canonical form of a map whose unlisted numbers stand for `d`: rising keys, and no entry equal to `d`. -/
def canonical {β : Type} [DecidableEq β] (d : β) (m : AMap β) : Bool :=
  rising m && m.all (fun e => decide (e.2 ≠ d))

/-! Byte strings. -/

/-- `n` bytes of `v`, least significant first. -/
def leBytes (n : Nat) (v : Nat) : Bytes :=
  match n with
  | 0 => []
  | n + 1 => BitVec.ofNat 8 v :: leBytes n (v / 256)

/-- The number that little-endian bytes spell. -/
def leNat : Bytes → Nat
  | [] => 0
  | b :: bs => b.toNat + 256 * leNat bs

/-- `n` bytes of `v`, most significant first. -/
def beBytes (n : Nat) (v : Nat) : Bytes := (leBytes n v).reverse

/-- The number that big-endian bytes spell. -/
def beNat (bs : Bytes) : Nat := leNat bs.reverse

/-- `n` zero bytes. -/
def zeros (n : Nat) : Bytes := List.replicate n 0

/-- The `n` bytes from offset `o`; a byte past the end reads as 0. -/
def slice (o n : Nat) (bs : Bytes) : Bytes :=
  let t := (bs.drop o).take n
  t ++ zeros (n - t.length)

/-- The byte at offset `o`, 0 past the end. -/
def byteAt (o : Nat) (bs : Bytes) : Nat := (bs.getD o 0).toNat

/-- The little-endian field of `n` bytes at offset `o`. -/
def leAt (o n : Nat) (bs : Bytes) : Nat := leNat (slice o n bs)

/-- `bs` cut or filled with zeros to `n` bytes. -/
def fit (n : Nat) (bs : Bytes) : Bytes := slice 0 n bs

/-- Every byte is zero. -/
def allZero (bs : Bytes) : Bool := bs.all (fun b => decide (b = 0))

/-- Bytewise exclusive or of two strings of one length. -/
def xorBytes (a b : Bytes) : Bytes := List.zipWith (fun x y => x ^^^ y) a b

/-- The ASCII bytes of a name. -/
def ascii (t : String) : Bytes := t.toList.map (fun c => BitVec.ofNat 8 c.toNat)

/-- Write `bs` at offset `o` of a byte string long enough to hold it. -/
def overlay (o : Nat) (bs mem : Bytes) : Bytes := mem.take o ++ bs ++ mem.drop (o + bs.length)

/-! Bit fields. -/

/-- Bits `hi` down to `lo` of a number. -/
def bits (hi lo : Nat) (v : Nat) : Nat := v / 2 ^ lo % 2 ^ (hi + 1 - lo)

/-- Bit `i` of a number. -/
def bit (i : Nat) (v : Nat) : Bool := Nat.testBit v i

/-- A flag as a number. -/
def b2n (b : Bool) : Nat := if b then 1 else 0

/-- A count of `w` bits that saturates. -/
def satInc {w : Nat} (v : BitVec w) : BitVec w := if v = BitVec.allOnes w then v else v + 1

/-- A count of `w` bits raised by `n`, saturating. -/
def satAdd {w : Nat} (v : BitVec w) (n : Nat) : BitVec w :=
  if v.toNat + n < 2 ^ w then BitVec.ofNat w (v.toNat + n) else BitVec.allOnes w

/-- Round `a` up to whole multiples of `b`. -/
def ceilDiv (a b : Nat) : Nat := (a + b - 1) / b

/-- Apply `f` to each number below `n`, in rising order. -/
def repeatIdx {σ : Type} (n : Nat) (f : Nat → σ → σ) (s : σ) : σ := (List.range n).foldl (fun s i => f i s) s

/-- Apply `f` to each item in order. -/
def forAll {α σ : Type} (l : List α) (f : α → σ → σ) (s : σ) : σ := l.foldl (fun s a => f a s) s

end Sys2Proof.Machine
end

