-- ==== Sys2Proof/Machine/State.lean ====
section
/-!
DEFINITION. Sys2Proof/Machine/State.lean: everything the spec gives the NSH-4801, as plain data, with the queue of waiting
commands; the faults and refusals; the state right after reset. Each field cites the rule that names it; the default of a
field is its reset value, and where the spec states none the assumption log names the choice (entry 2).
-/
namespace Sys2Proof.Machine
open Sys2Proof

/-- Why a step stops with a fault. -/
inductive Fault where
  /-- A command whose operands no row of the table can carry (WellFormed.lean). No meaning raises it: such an operand names nothing, and the command leaves the
  state as it is or reads the default record. Safe: no statement rests on it. -/
  | illFormed
deriving DecidableEq, Repr

/-- Why a command is refused. -/
inductive Refusal where
  /-- Raised by exec for a command that has no meaning, with the mnemonic of its table row; every command has one, so exec raises it nowhere. Safe: the machine
  stops. -/
  | notModelled (mnemonic : String)
deriving DecidableEq, Repr

/-! ### What leaves the module -/

/-- How a completion entry or audit record is written (R115): a whole line, a part of one, or a posted write in PCIe mode. -/
inductive WriteKind where
  | itoMWr | wowrInv | posted
deriving DecidableEq, Repr

/-- One thing the module does that its surroundings can see, in order (the model's own trace, log entry 4). -/
inductive Output where
  /-- A completion entry written at a producer index of a channel's ring, at its host address (R165, R166), with the request that writes it (R115). -/
  | completion (chan index addr : Nat) (how : WriteKind) (bytes : Bytes)
  /-- An audit ring entry written at a producer index, at its host address (R184, R185). -/
  | auditEntry (index addr : Nat) (how : WriteKind) (bytes : Bytes)
  /-- Job output written to host memory, within one 4 KiB page (R210). -/
  | hostWrite (addr : Nat) (bytes : Bytes)
  /-- A CXL.io read of host memory (R116, R158, R163, R793); of no bytes after a job's last output write (R210). -/
  | hostRead (addr len : Nat)
  /-- An MSI-X message on a vector (R176, R177, R766). -/
  | msix (vector : Nat)
  /-- What a register read returns to a master (R2, R107). -/
  | regRead (master width value : Nat)
  /-- A CXL.cache request or response, by name, for a channel's line (R110 to R112). -/
  | cache (what : String) (chan line : Nat)
  /-- A DOE data object sent to the host (R121): vendor ID, type and payload. -/
  | doe (vendor type : Nat) (payload : Bytes)
  /-- An SPDM response (R122, R123): name and payload. -/
  | spdm (name : String) (payload : Bytes)
  /-- An AER message (R125, R128): correctable or not. -/
  | aer (correctable : Bool)
  /-- An SMBus read's four bytes (R767). -/
  | smbus (value : Nat)
  /-- A level driven on a pin (R707, R781). -/
  | pin (name : String) (high : Bool)
  /-- A frame sent on a fold port (R690): port, Ethertype, payload. -/
  | fold (port etype : Nat) (payload : Bytes)
  /-- A command sent to the contact card or to the card at the reader (R641, R642, R639). -/
  | card (reader : Bool) (apdu : Bytes)
  /-- What the Stile tag answers (R661, R662). -/
  | stile (bytes : Bytes)
  /-- An SD command with its argument (R672 to R679). -/
  | sd (command arg : Nat) (data : Bytes)
  /-- A NAND operation started: read, program or erase of a block and page (R425 to R441). -/
  | nand (what : String) (block page : Nat)
deriving DecidableEq, Repr

/-! ### Units (01, 21) -/

/-- The states of a unit's page (R6, R756, R760). -/
inductive UState where
  | off | waking | on | quiescing | quiesced | failed | isolated
deriving DecidableEq, Repr

/-- UNIT_STATE.cause (R756). -/
inductive Cause where
  | write | quarantine | fault
deriving DecidableEq, Repr

/-- The fields a unit page holds (R756), by page number; a group's derived values are computed, not stored (R5 to R10). -/
structure UnitRec where
  /-- UNIT_STATE.state of a unit without children (R756, R760). -/
  state : UState := .off
  /-- UNIT_STATE.cause in ISOLATED or FAILED (R756). -/
  cause : Cause := .write
  /-- UNIT_CTL.enable (R756). -/
  enable : Bool := true
  /-- UNIT_CTL.disable_mode, true for WITHDRAW (R756). -/
  disableMode : Bool := false
  /-- UNIT_CTL.isolate (R756). -/
  isolate : Bool := false
  /-- In QUIESCING: the work is being withdrawn and not drained (R760, R762). -/
  withdrawing : Bool := false
  /-- Jobs withdrawn since the disable, the detail of DISABLE_DONE (R760). -/
  withdrawn : Nat := 0
  /-- UNIT_PROFILE.profile of a plane page (R73, R756). -/
  profile : BitVec 4 := 0
  /-- UNIT_PROFILE.requested of a plane page (R75, R756). -/
  requested : BitVec 4 := 0
  /-- The profile in force when the plane entered THERMAL (R75). -/
  entryProfile : BitVec 4 := 0
  /-- Swaths that all sensors of a THERMAL plane have been below 100 °C (R75). -/
  coolSwaths : Nat := 0
  /-- UNIT_PWR_POLICY.threshold (R756). -/
  threshold : BitVec 16 := 0
  /-- UNIT_ENERGY of a unit without children, in µJ (R10, R756). -/
  energy : BitVec 64 := 0
  /-- UNIT_EVT_PEND bits [8:0] (R756, R764). -/
  pend : BitVec 9 := 0
  /-- UNIT_EVT_PEND.last (R756). -/
  last : BitVec 16 := 0
  /-- UNIT_EVT_MASK (R756). -/
  mask : BitVec 9 := 0
  /-- UNIT_EVT_ROUTE.core (R756). -/
  routeCore : BitVec 4 := 0
  /-- UNIT_EVT_ROUTE.interrupt (R756). -/
  routeInt : BitVec 6 := 0
  /-- UNIT_EVT_ROUTE.vector (R756). -/
  routeVec : BitVec 8 := 0
  /-- UNIT_EVT_RATE.rate (R756). -/
  rate : BitVec 4 := 4
  /-- UNIT_ERR_CAPT0.code and .swath (R756). -/
  captCode : BitVec 16 := 0
  captSwath : BitVec 16 := 0
  /-- UNIT_ERR_CAPT1 and UNIT_ERR_CAPT2: detail bytes 0 to 5 (R756). -/
  captDetail : BitVec 48 := 0
  /-- UNIT_ERR_CAPT3.count (R756). -/
  captCount : BitVec 32 := 0
  /-- UNIT_SWATH_STAMP (R756). -/
  stamp : BitVec 64 := 0
  /-- UNIT_LOAD.busy and .class0 of the last swath (R756). -/
  busy : BitVec 16 := 0
  loadClass0 : BitVec 16 := 0
  /-- UNIT_SCRATCH (R756). -/
  scratch : BitVec 32 := 0
  /-- Swath in which work last reached the unit (R74, R738). -/
  lastWork : Nat := 0
deriving DecidableEq, Repr

/-! ### Audit chain (11) -/

/-- The kind-dependent part of an audit record (R458, R459, R460). -/
inductive AuditBody where
  | job (chan opcode result info keyA : Nat) (inDig outDig : Bytes)
  | config (addr master width opcode old new : Nat)
  | ceremony (code result life subject : Nat) (custodian : Bytes) (detail : Nat)
  | gap (lost first last : Nat)
  | checkpoint (number count : Nat) (chain : Bytes)
  | start (epoch : Nat) (chainBreak : Bool) (image : Bytes)
deriving DecidableEq, Repr

/-- One audit record: sequence number, swath of appending and body (R457). -/
structure AuditRec where
  seq : Nat
  swath : Nat
  body : AuditBody
deriving DecidableEq, Repr

/-- One checkpoint of the checkpoint store (R467 to R471). -/
structure Checkpoint where
  number : Nat := 0
  count : Nat := 0
  swath : Nat := 0
  epoch : Nat := 0
  chain : Bytes := []
  ecdsa : Bytes := []
  mldsa : Bytes := []
  /-- Both signatures are made, checked and programmed (R469, R471). -/
  held : Bool := false
  /-- flags.cosigned with the co-signer's serial and signatures (R468, R470). -/
  cosigned : Bool := false
  peerSerial : Nat := 0
  peerEcdsa : Bytes := []
  peerMldsa : Bytes := []
deriving DecidableEq, Repr

/-- The audit tile (R457 to R486). -/
structure Audit where
  /-- AUD_SEQ.next (R485); a chain's first record has seq 1 (R457). -/
  next : Nat := 1
  /-- V(next − 1) (R464). -/
  chain : Bytes := []
  /-- Records appended in this swath and not yet delivered or sent to the reserve (R463, R472), oldest first. -/
  fresh : List AuditRec := []
  /-- Undelivered records in the reserve or staged for it (R472, R474), oldest first. -/
  undelivered : List AuditRec := []
  /-- Delivered records still held in the reserve (R474). -/
  held : List AuditRec := []
  /-- AUD_RING_BASE.base (R481). -/
  base : BitVec 52 := 0
  /-- AUD_RING_CTL.log2 and .enable (R482). -/
  log2 : BitVec 5 := 8
  enable : Bool := false
  /-- A write of enable = 0 that takes effect after the delivery of this close (R482). -/
  disablePending : Bool := false
  /-- AUD_RING_TAIL and AUD_RING_HEAD (R483). -/
  tail : BitVec 32 := 0
  head : BitVec 32 := 0
  /-- AUD_FULL_POLICY.policy, true for GAP (R483). -/
  gapPolicy : Bool := false
  /-- AUD_STAT (R484). -/
  configError : Bool := false
  chainBreak : Bool := false
  gapOpen : Bool := false
  stalled : Bool := false
  /-- AUD_LOST.count (R485). -/
  lost : BitVec 32 := 0
  /-- Records lost since the gap opened, with the swaths of the first and last loss (R478). -/
  gapLost : Nat := 0
  gapFirst : Nat := 0
  gapLast : Nat := 0
  /-- Losses under R788 that the next restoring close counts, with their swaths. -/
  lost788 : Nat := 0
  lost788First : Nat := 0
  lost788Last : Nat := 0
  /-- How many of the 64 records of R35 are left (R476). -/
  reserve64 : Nat := 64
  /-- A change of policy from STOP to GAP ends the stall at the next close (R479). -/
  stallEndPending : Bool := false
  /-- JOB records of jobs withdrawn by a reset, appended at the next close (R131, R132, R463). -/
  resetJobs : List AuditBody := []
  /-- The reserve ends in a flush trailer that holds the last seq and V(seq) (R465, R466). -/
  trailer : Bool := false
  /-- The reserve counts as full under R441. -/
  mediaFull : Bool := false
  /-- AUD_CKPT_CTL (R486). -/
  cosign : Bool := false
  peer : BitVec 3 := 0
  /-- Number of the next checkpoint (R467). -/
  nextCkpt : Nat := 1
  /-- Checkpoints by number (R468, R471). -/
  ckpts : AMap Checkpoint := []
  /-- AUD_CKPT.number: the latest held checkpoint (R485). -/
  latest : Nat := 0
  /-- Checkpoints whose co-signature is awaited: number and the swath in which the wait ends (R470). -/
  cosignWait : AMap Nat := []
deriving DecidableEq, Repr

/-! ### Event recorder (11) -/

/-- An event record (R487); `seq` is given when the record is programmed. -/
structure EvRec where
  seq : Nat := 0
  code : Nat
  epoch : Nat
  swath : Nat
  /-- Bytes 18 and 19: page number, or 0x8000 plus a channel (R487). -/
  unit : Nat
  /-- Further occurrences in the open time of a privileged record (R487, R491). -/
  repeats : Nat := 0
  /-- Flags of the record: a summary, flushed at a power failure, privileged (R487). -/
  summary : Bool := false
  flushed : Bool := false
  priv : Bool := false
  /-- The detail bytes (R487). -/
  detail : Nat
deriving DecidableEq, Repr

/-- Occurrences of one code from one unit in the running window, with swath and detail of the first that was not recorded (R490). -/
structure RateCount where
  n : Nat := 0
  first : Nat := 0
  detail : Nat := 0
deriving DecidableEq, Repr

/-- The recorder tile (R487 to R496, R787). -/
structure Recorder where
  /-- seq of the next record programmed (R487). -/
  nextSeq : Nat := 1
  /-- Records waiting to be programmed, oldest first (R493). -/
  queue : List EvRec := []
  /-- Privileged records held open for 16 swaths, with the swath of the first occurrence (R491). -/
  openPriv : List EvRec := []
  /-- Records programmed and readable, oldest first (R488, R494). -/
  stored : List EvRec := []
  /-- Occurrences of each code from each unit in the running window, keyed 65536 × unit + code (R490). -/
  counts : AMap RateCount := []
  /-- The tile event buffers, keyed by tile page (R492). -/
  buffers : AMap (List EvRec) := []
  /-- The sector and word where writing goes on (R494). -/
  sector : Nat := 0
  word : Nat := 0
  /-- REC_CURSOR.busy, .clamped, .count and the command in progress (R495, R496). -/
  busy : Bool := false
  clamped : Bool := false
  count : Nat := 0
  command : Nat := 0
  /-- Sequence of the first record in the window (R495). -/
  first : Nat := 0
  /-- REC_SEEK.seq (R496). -/
  seek : BitVec 48 := 0
  /-- REC_COUNTS (R496). -/
  dropped : BitVec 16 := 0
  torn : BitVec 16 := 0
  /-- REC_WINDOW (R496): the copied records. -/
  window : List EvRec := []
deriving DecidableEq, Repr

/-! ### Messages and the host link (03, 04) -/

/-- MSI-X messages and the table that masks them (R106, R176, R177, R766, R790). -/
structure Msix where
  /-- The table's words by byte offset / 4 (R106); an unlisted vector-control word is masked, any other reads 0. -/
  table : AMap (BitVec 32) := []
  /-- PBA: vectors with a message held pending (R790). -/
  held : List Nat := []
  /-- Event vectors with a routed bit gone from 0 to 1 in this swath (R766). -/
  due : List Nat := []
  /-- MSI-X Enable and Function Mask of the MSI-X capability (R104, R177). DESIGN CHOICE: log entry 79. -/
  enable : Bool := true
  functionMask : Bool := false
deriving DecidableEq, Repr
/-- State of one SPDM session (R122). -/
inductive SpdmPhase where
  | handshake | established
deriving DecidableEq, Repr

/-- A secured session (R122): how far it is, and the secret its keys come from. -/
structure SpdmSession where
  phase : SpdmPhase := .handshake
  secret : Bytes := []
deriving DecidableEq, Repr

/-- The kind of reset in progress (R133, R134). -/
inductive ResetKind where
  | none | flr | cxl | hot
deriving DecidableEq, Repr

/-- The host link (R99 to R141). -/
structure Link where
  /-- HST_LINK_STAT.mode, .width and .rate (R135). -/
  mode : BitVec 2 := 0
  width : BitVec 4 := 0
  rate : BitVec 3 := 0
  /-- Cache_Enable of the CXL device DVSEC (R102, R131). -/
  cacheEnable : Bool := false
  /-- Bus Master Enable (R108). -/
  bme : Bool := false
  /-- The function is in D3hot (R108). -/
  d3hot : Bool := false
  /-- The reset that is in progress (R133, R134). -/
  inReset : ResetKind := .none
  /-- HST_CACHE_CTL.depth (R136). -/
  depth : BitVec 7 := 16
  /-- HST_CACHE_STAT.snoops (R137). -/
  snoops : BitVec 16 := 0
  /-- HST_IDE_CTL (R138). -/
  requireIo : Bool := false
  requireCache : Bool := false
  /-- HST_IDE_STAT: 0 no stream, 1 secure, 2 insecure (R139). -/
  ioState : BitVec 2 := 0
  cacheState : BitVec 2 := 0
  /-- The four selective IDE streams, 0 none, 1 secure, 2 insecure (R118, R139). -/
  selective : AMap (BitVec 2) := []
  /-- HST_RESET_STAT (R140). -/
  flrCount : BitVec 8 := 0
  cxlResetCount : BitVec 8 := 0
  last : BitVec 2 := 0
  /-- HST_LINK_ERR (R141). -/
  poisoned : BitVec 16 := 0
  badAccess : BitVec 16 := 0
  /-- AER: correctable and uncorrectable errors counted (R125, R128). -/
  aerCorrectable : Nat := 0
  aerUncorrectable : Nat := 0
  /-- DOE Busy and DOE Error of the mailbox (R121). -/
  doeBusy : Bool := true
  doeError : Bool := false
  /-- SPDM version negotiated, 0 before (R122): 0x10, 0x11 or 0x12. -/
  spdmVersion : BitVec 8 := 0
  /-- How far the SPDM connection is: 0 nothing, 1 version, 2 capabilities, 3 algorithms (R122). -/
  spdmStage : Nat := 0
  /-- Secured sessions by session ID (R122). -/
  sessions : AMap SpdmSession := []
  /-- Streams whose IDE keys are programmed and not in use yet: 0 the link IDE stream, 1 CXL.cache, 2 to 5 the selective streams (R118). -/
  ideKeys : List Nat := []
  /-- Events EVT_HST_IDE_WAIT already raised for the present hold (R120). -/
  ideWait : Bool := false
  /-- BAR0 and BAR2 of configuration space, the two 64-bit BARs of R105: the base address the host has written. -/
  bar0 : BitVec 64 := 0
  bar2 : BitVec 64 := 0
deriving DecidableEq, Repr

/-! ### Channels (04) -/

/-- CHN_STAT.state (R142). -/
inductive ChanState where
  | disabled | running | halted | quiescing
deriving DecidableEq, Repr

/-- The fields of a header slot (R203, R204). -/
structure Header where
  opcode : Nat := 0
  slots : Nat := 1
  cls : Nat := 0
  chain : Bool := false
  inlineIn : Bool := false
  session : Bool := false
  /-- control[15:9], which must be 0. -/
  ctlReserved : Nat := 0
  inLen : Nat := 0
  cookie : Nat := 0
  keyA : Nat := 0
  keyB : Nat := 0
  inPtr : Nat := 0
  outPtr : Nat := 0
  tag : Nat := 0
  outLen : Nat := 0
  stamp : Nat := 0
deriving DecidableEq, Repr

/-- A refusal that waits in the channel tile (R174, R229). -/
structure Waiting where
  cookie : Nat
  sqIndex : Nat
  result : Nat
  cls : Nat
  /-- Swath of the decision (R171). -/
  swath : Nat
  /-- Opcode and key_a of the header slot, for the audit record (R459). -/
  opcode : Nat
  keyA : Nat
  /-- Input digest of the slots alone (R461). -/
  inDig : Bytes
deriving DecidableEq, Repr

/-- The visible entry at the head of a channel whose admission decision is not made (R60, R156, R792). -/
structure Entry where
  /-- The entry's slots, 64 bytes each. -/
  slots : Bytes
  /-- The swath in which it became visible (R60). -/
  visible : Nat
  /-- It was taken from the push window (R160). -/
  pushed : Bool
deriving DecidableEq, Repr

/-- How the module came to know a ring slot (R158, R160, R163). -/
inductive LineWhy where
  | acquired | doorbell | pushed
deriving DecidableEq, Repr

/-- A ring slot known to the module (R110, R126, R158). -/
structure LineData where
  data : Bytes
  why : LineWhy
  poisoned : Bool
deriving DecidableEq, Repr

/-- A channel page and the channel's working state (R142 to R202). -/
structure Chan where
  /-- CHN_STAT.state (R142, R188). -/
  state : ChanState := .disabled
  /-- In QUIESCING: jobs in flight are withdrawn and not drained (R143). -/
  withdrawing : Bool := false
  /-- CHN_CTL (R187). -/
  disableMode : Bool := false
  enable : Bool := false
  /-- CHN_STAT.halt_result and .config_error (R188). -/
  haltResult : BitVec 16 := 0
  configError : Bool := false
  /-- CHN_SQ_BASE.base, CHN_CQ_BASE.base (R189, R193). -/
  sqBase : BitVec 52 := 0
  cqBase : BitVec 52 := 0
  /-- CHN_RING_SIZE (R190). -/
  sqLog2 : BitVec 5 := 6
  cqLog2 : BitVec 5 := 6
  /-- CHN_SQ_HEAD, CHN_CQ_TAIL, CHN_CQ_HEAD (R191, R194, R195). -/
  sqHead : BitVec 32 := 0
  cqTail : BitVec 32 := 0
  cqHead : BitVec 32 := 0
  /-- The last published producer index of CHN_SQ_DOORBELL (R163, R164, R192). -/
  doorbell : Option (BitVec 32) := none
  /-- A doorbell value kept while admission is held (R160). -/
  keptDoorbell : Option (BitVec 32) := none
  /-- CHN_CQ_RESERVE.entries (R196). -/
  cqReserve : BitVec 8 := 8
  /-- CHN_SLOT_LIMIT.slots (R197). -/
  slotLimit : BitVec 13 := 64
  /-- CHN_IRQ_CTL (R199). -/
  irqEnable : Bool := true
  class0Now : Bool := true
  maxWait : BitVec 8 := 0
  minCount : BitVec 13 := 1
  /-- CHN_ALERT and CHN_ALERT_MASK (R200, R201). -/
  alert : BitVec 5 := 0
  alertMask : BitVec 5 := 0
  /-- Alert bits gone from 0 to 1 since the last close while unmasked (R177). -/
  alertRose : BitVec 5 := 0
  /-- CHN_PUSH_STAT (R202). -/
  ignored : BitVec 16 := 0
  taken : BitVec 16 := 0
  /-- The push window: written bytes by offset (R159). -/
  push : AMap Byte := []
  /-- A completed push kept while admission is held (R160). -/
  pushKept : Bool := false
  /-- Swath of the first write of the assembly in progress (R162). -/
  pushFirst : Nat := 0
  /-- Ring slots known to the module, by ring position: read from the ring or pushed (R111, R158, R160, R163). -/
  lines : AMap LineData := []
  /-- Ring positions whose lines the coherency cache holds in Shared, and those asked for with RdShared and not arrived (R110, R111, R137). -/
  held : List Nat := []
  asked : List Nat := []
  /-- Ring positions asked for by a direct read: extension slots beyond the window (R158), past the fourth of a push (R160), or of a doorbell
  (R163). -/
  direct : List Nat := []
  /-- The visible, undecided entry at the head (R60, R156, R792). -/
  head : Option Entry := none
  /-- Refusals waiting for a windrow, in order of decision (R174, R229). -/
  refusals : List Waiting := []
  /-- The halt notice waiting: result and halting index (R180). -/
  haltNotice : Option (Nat × Nat) := none
  /-- Completions posted since the last message, whether one is class 0, and the swath of the first (R176). -/
  posted : Nat := 0
  postedClass0 : Bool := false
  postedFirst : Nat := 0
deriving DecidableEq, Repr

/-! ### Jobs (05) -/

/-- A step entry (R216); a job that is not chained has one step of its own opcode. -/
structure StepDef where
  opcode : Nat := 0
  selA : Nat := 0
  selB : Nat := 0
  out : Bool := false
  withPrev : Bool := false
  /-- flags[7:2], which must be 0. -/
  reserved : Nat := 0
  srcOff : Nat := 0
  srcLen : Nat := 0
  auxOff : Nat := 0
  auxLen : Nat := 0
  dstOff : Nat := 0
  dstCap : Nat := 0
deriving DecidableEq, Repr

/-- Where a step stands (R41, R42, R218, R222). -/
inductive StepStage where
  | waiting | bound | parked | ended
deriving DecidableEq, Repr

/-- What an operation delivered, kept until its engine step ends (R41). -/
structure Delivered where
  result : Nat
  bytes : Bytes := []
  secret : Bool := false
  /-- Leading bytes of a secret result that are not secret (R364, OP_PK_MLKEM_ENCAPS). -/
  clear : Nat := 0
deriving DecidableEq, Repr

/-- The engine work of one path offset: kind code and slices still to run (R40, R56). -/
structure Work where
  kind : Nat
  slices : Nat
  /-- Eighths of a fabric clock of the last slice that have run already (R42, R383). -/
  spare : Nat := 0
deriving DecidableEq, Repr

/-- The key in a position of a step as it stood at binding, derived from its zone root where one was named (R261, R277, R381). -/
structure KeyVal where
  handle : Nat := 0
  alg : Nat := 0
  usage : Nat := 0
  zone : Nat := 0
  partners : BitVec 256 := 0
  material : Bytes := []
  derived : Bool := false
deriving DecidableEq, Repr

/-- A key block (R239); its material is held here unsealed, and its seal is the nonce, the count and whether its tag passes (DESIGN CHOICE, log entry 12). -/
structure KeyBlock where
  handle : Nat := 0
  blocks : Nat := 1
  cls : Nat := 0
  /-- 0 active, 1 suspended, 2 revoked. -/
  status : Nat := 0
  alg : Nat := 0
  usage : BitVec 32 := 0
  ceiling : Nat := 0
  exportTo : Nat := 0
  quorum : Nat := 0
  sessionBound : Bool := false
  deriveOnly : Bool := false
  generated : Bool := false
  zone : Nat := 0
  version : Nat := 0
  application : Nat := 0
  lastEpoch : Nat := 0
  partners : BitVec 256 := 0
  created : Nat := 0
  sealCount : Nat := 0
  nonce : Bytes := []
  material : Bytes := []
  /-- The blocks as the key area stores them: head, nonce, tag and encrypted material (R239, R240); none where a block has not been sealed since it was placed. -/
  image : Bytes := []
  /-- Its GCM tag passes (R240). -/
  intact : Bool := true
deriving DecidableEq, Repr

/-- A step of a job in flight (R216, R234). -/
structure StepRun where
  step : StepDef := {}
  stage : StepStage := .waiting
  /-- Engine work left, one list per path offset; the first is the offset that runs now (R56). -/
  work : List (List Work) := []
  /-- The checks of R230 have been made at a binding and passed: the operation may run. -/
  checked : Bool := false
  /-- Swath in which the step last ran an engine step (R218). -/
  lastSwath : Nat := 0
  /-- The result, 0xFFFF until the step has run (R222). -/
  result : Nat := 0xFFFF
  /-- Result of the operation, computed and not yet released (R41). -/
  delivered : Option Delivered := none
  /-- 1 + the swath of the first attempt to draw random output, 0 where none waits (R508). -/
  rngWait : Nat := 0
  /-- Clocks of its engine's time that a cipher operation has run (R383, R385). -/
  ran : Nat := 0
  /-- The key blocks of its positions as they stood when it was bound with its input still to come (R230, R385). -/
  boundKeys : AMap (Option KeyBlock) := []
  /-- The swath in which it was bound with its input still to come (R230, R261). -/
  boundAt : Option Nat := none
  /-- Bytes of a long random output drawn so far, in segments of 4 KiB (R213, R506, R517). -/
  drawn : Nat := 0
  /-- The step's result bytes (R221). -/
  bytes : Bytes := []
  /-- The result is marked secret (R219, R220). -/
  secret : Bool := false
  /-- The keys of positions A and B (R230, R381). -/
  keyA : Option KeyVal := none
  keyB : Option KeyVal := none
deriving DecidableEq, Repr

/-- Where a job stands (R234); parked is the stage of its steps. -/
inductive JobStage where
  | admitted | running | outputting | finished
deriving DecidableEq, Repr

/-- A job slot in use (R234). -/
structure Job where
  chan : Nat := 0
  hdr : Header := {}
  /-- The entry's slots (R461). -/
  slots : Bytes := []
  /-- Index of the header slot (R166). -/
  sqIndex : Nat := 0
  /-- Extra key handles of the chain slot (R215). -/
  extra : List Nat := []
  /-- The steps: one of its own opcode where the job is not chained (R216). -/
  steps : List StepRun := []
  /-- The stage of the job (R234). -/
  stage : JobStage := .admitted
  /-- The class it is scheduled as, 1 after ageing (R49). -/
  runClass : Nat := 0
  aged : Bool := false
  /-- The margin swath has been used (R67). -/
  margin : Bool := false
  /-- The first swath in which its moved engine steps may run (R67). -/
  marginFrom : Nat := 0
  /-- An output write was not accepted (R128, R166). -/
  outIncomplete : Bool := false
  /-- Input bytes read at in_ptr so far, and whether any was read (R460, R793). -/
  inputRead : Bool := false
  input : Bytes := []
  /-- Input bytes asked for at in_ptr so far (R213, R793). -/
  asked : Nat := 0
  /-- Output bytes written to host memory in segments (R210, R213, R385), and whether output waits until memory requests may be made (R108). -/
  written : Bytes := []
  unsent : Bool := false
  /-- The input digest of R461, taken when the operands are wiped at a withdrawal (R214, R234). -/
  inDig : Option Bytes := none
  /-- What the DMA jobs that brought its input report: bytes written into the operand buffer, and the lowest refused address (R594). -/
  moved : Nat := 0
  refusedAt : Option Nat := none
  /-- The operand buffer: bytes with their secret marks; unlisted bytes are zero and unmarked (R213, R214, R219). -/
  buf : AMap (Byte × Bool) := []
  /-- The result and the output of the job (R209, R221, R231). -/
  result : Nat := 0
  out : Bytes := []
  /-- Swath of admission and the first work swath of a class 0 job (R58, R66). -/
  admitted : Nat := 0
  first : Option Nat := none
  /-- The last swath in which engine steps of a class 0 job may run: f + P, its margin swath (R66, R69). -/
  last : Nat := 0
  /-- Swath in which the job finished (R171). -/
  finished : Nat := 0
  /-- Complete with this result at the next close (R71, R143). -/
  withdraw : Option Nat := none
  /-- Place in the queue of its class (R48, R49), and order of admission (R277). -/
  order : Nat := 0
  entered : Nat := 0
  /-- The session number the tag names, which of the sessions opened since start-up it is (R274), and the outcome of R273, 0 where it is
  accepted. -/
  session : Option Nat := none
  sessionOpened : Nat := 0
  sessionResult : Nat := 0
  /-- Mirror acknowledgement still awaited: journal sequence and the swaths left (R434, R435). -/
  mirrorWait : Option (Nat × Nat) := none
  /-- Draws of R420 left to the job's issue (R420, R701). -/
  drawsLeft : Nat := 8
deriving DecidableEq, Repr

/-! ### Scheduler (02) -/

/-- How far the swath is (R39): its close phase has begun, or not. The clock tells the admit phase from the work phase. -/
inductive Phase where
  | work | close
deriving DecidableEq, Repr

/-- Engine work bound to an engine for this swath (R61). -/
structure Bound where
  slot : Nat
  step : Nat
  slices : Nat
  /-- Charged to class 0 (R56, R756 UNIT_LOAD). -/
  class0 : Bool := false
  /-- The context bank it runs in (R43, R44, R373, R409). -/
  bank : BitVec 1 := 0
  /-- Fabric clocks of engine time that its engine has in the swath it is bound in (R39, R331, R378, R750). -/
  clocks : Nat := 22750
  /-- It may run on into later swaths (R42, R43, R555). -/
  multi : Bool := false
deriving DecidableEq, Repr

/-- An engine of a kind of R53: what runs this swath, and the parked operation (R42 to R44). -/
structure Engine where
  running : List Bound := []
  /-- The banks that are being overwritten after an abort, bit n for bank n (R353, R386). -/
  wiping : BitVec 2 := 0
  /-- Job slot and step of the operation parked in one of the two banks (R43). -/
  parked : Option (Nat × Nat) := none
  /-- The bank that holds the parked operation (R43). -/
  parkedBank : BitVec 1 := 0
  /-- Slices bound to it in this swath, and those of class 0 (UNIT_LOAD, R756). -/
  load : Nat := 0
  load0 : Nat := 0
  /-- Rows 0 to 479 of each bank written since it was last clean, by bank (R327, R353), and the banks whose rows 480 to 511 hold a parked operation's state
  (R327, R355). -/
  written : AMap Nat := []
  saved : BitVec 2 := 0
deriving DecidableEq, Repr

/-- A reserved engine in one ledger swath: engine index and class 0 slices still free (R54, R55). -/
structure Credit where
  kind : Nat
  engine : Nat
  free : Nat
deriving DecidableEq, Repr

/-- An admitted class 0 engine step in the ledger (R58). -/
structure LedgerEntry where
  slot : Nat
  step : Nat
  kind : Nat
  engine : Nat
  slices : Nat
deriving DecidableEq, Repr

/-- One ledger swath (R54). -/
structure LedgerSwath where
  swath : Nat
  credits : List Credit := []
  /-- Class 0 credits fixed for each kind when the swath entered the ledger (R55, R93). -/
  capacity : List (Nat × Nat) := []
  /-- The entries recorded for the swath (R58). -/
  entries : List LedgerEntry := []
  /-- The raised costs of the cost table as the swath entered the ledger (R76). -/
  raised : AMap Nat := []
deriving DecidableEq, Repr

/-- SCH_MAINT_STAT.state_n (R98). -/
inductive MaintState where
  | idle | running | throttled | deferred
deriving DecidableEq, Repr

/-- The scheduler (R37 to R98). -/
structure Sched where
  /-- SCH_SWATH_COUNT (R37, R84). -/
  swath : BitVec 64 := 0
  /-- SCH_EPOCH (R38, R85): the value start-up reads from code flash and increments. -/
  epoch : BitVec 32 := 0
  /-- SCH_PHASE.phase and .clock (R86). -/
  phase : Phase := .work
  clock : BitVec 15 := 0
  /-- SCH_RESERVE0 and SCH_RESERVE1, one byte for each kind code 0 to 5 (R87, R88). -/
  reservePk : BitVec 8 := 0xFF
  reserveCipher : BitVec 8 := 0xFF
  reserveDigest : BitVec 8 := 0xFF
  reserveRecord : BitVec 8 := 0xFF
  reserveNand : BitVec 8 := 0xFF
  reserveCore : BitVec 8 := 0xFF
  /-- SCH_SLOT_RESERVE.slots (R89). -/
  slotReserve : BitVec 11 := 256
  /-- SCH_COST_SEL (R90). -/
  selOffset : BitVec 2 := 0
  selKind : BitVec 4 := 0
  selOpcode : BitVec 16 := 0
  /-- Costs raised above Tergil's floor, keyed opcode × 64 + offset × 16 + kind (R91). -/
  raised : AMap Nat := []
  /-- Stored c0_eligible settings cleared from Tergil's 1 (R92): opcodes. -/
  c0Cleared : List Nat := []
  /-- The ledger's four swaths after the current one, nearest first (R54). -/
  ledger : List LedgerSwath := []
  /-- SCH_C0_ADMITTED, _SPILLED, _REFUSED, _MARGIN (R94). -/
  admitted : BitVec 32 := 0
  spilled : BitVec 32 := 0
  refused : BitVec 32 := 0
  margin : BitVec 32 := 0
  /-- SCH_OVERRUN.count (R95). -/
  overrun : BitVec 32 := 0
  /-- SCH_MAINT_STAT by activity (R98). -/
  maint : AMap MaintState := []
  /-- Starts that take effect at this swath's close, as bits (R81, R96). -/
  startPending : BitVec 10 := 0
  /-- Stops asked for, as bits, until the safe point (R83, R97). -/
  stopPending : BitVec 10 := 0
  /-- Order number of the next admission (R48), and the channel whose turn at the parsers is next (R48). -/
  nextOrder : Nat := 0
  turn : Nat := 0
  /-- The swath in which each stop was asked for, by activity (R83). -/
  stopAt : AMap Nat := []
  /-- Slices that maintenance activities have taken in this swath, by activity × 8 + kind, in the swath before, by kind, and in the running window
  of 64 swaths, by kind (R51, R79). -/
  maintUsed : AMap Nat := []
  maintLast : AMap Nat := []
  maintServed : AMap Nat := []
  /-- Class 3 slices served in the running window of 64 swaths, by kind (R50). -/
  bulkServed : AMap Nat := []
  /-- Smallest number of half engines able to work in the window, by kind (R50). -/
  bulkEngines : AMap Nat := []
  /-- Class 3 work has waited since the window began (R50). -/
  bulkWaited : Bool := false
  /-- Engines by kind × 256 + index (R53). -/
  engines : AMap Engine := []
deriving DecidableEq, Repr
/-! ### Power and thermal (20) -/

/-- UNIT_PWR_STAT.state of a switched domain (R740, R741, R756). -/
inductive DomState where
  | gated | waking | on | latched
deriving DecidableEq, Repr

/-- One of the 64 switched power domains (R739 to R742). -/
structure Domain where
  state : DomState := .gated
  /-- Times it has latched since the last conventional reset (R742). -/
  latches : Nat := 0
  /-- It is off because of a sensor and not of a short (R751). -/
  thermal : Bool := false
deriving DecidableEq, Repr

/-- One of the 48 junction sensors; readings are signed, in units of 0.5 °C (R749 to R752). -/
structure Sensor where
  temp : BitVec 10 := 0
  max : BitVec 10 := 0
  /-- A reading has come since PWR_THERM.max was last read. -/
  seen : Bool := false
  /-- Throttling (R750). -/
  throttled : Bool := false
  /-- Its domains are off at its request (R751). -/
  shut : Bool := false
  /-- It reads outside its range, or differs from its neighbours (R749). -/
  faulty : Bool := false
  /-- Swaths below 100 °C while throttling (R750). -/
  cool : Nat := 0
  /-- Swaths below 95 °C while shut down (R751). -/
  cold : Nat := 0
deriving DecidableEq, Repr

/-- The power stage (R734 to R752). -/
structure Power where
  /-- Power good (R727, R772). -/
  good : Bool := false
  /-- PWR_STAT (R752). -/
  holdupOk : Bool := false
  overvoltage : Bool := false
  currentLimit : Bool := false
  failSeq : Bool := false
  pressure : BitVec 2 := 0
  /-- The swath since which the level is in force (R737). -/
  levelSince : Nat := 0
  /-- The condition of R737 that current limiting brings holds: level 2. -/
  cond2 : Bool := false
  /-- PWR_INPUT (R752). -/
  mv : BitVec 16 := 0
  ma : BitVec 16 := 0
  /-- PWR_IN_ENERGY (R743, R752). -/
  energy : BitVec 64 := 0
  /-- PWR_HOLDUP (R752). -/
  holdupMv : BitVec 16 := 0
  holdupUf : BitVec 16 := 0
  /-- The domains (R739). -/
  domains : AMap Domain := []
  /-- PWR_BUDGET.watts (R752). -/
  budget : BitVec 8 := 0
  /-- PWR_THERM_SEL.sensor (R752). -/
  sel : BitVec 6 := 0
  /-- The junction sensors (R749). -/
  sensors : AMap Sensor := []
  /-- The input switch is open (R734). -/
  switchOpen : Bool := false
  /-- PWR_IN in mV when the power-fail sequence started (R747). -/
  failMv : Nat := 0
  /-- Which of the steps of R747 are done: 1 after step 1, up to 6. -/
  failStep : Nat := 0
  /-- The reverse flag of the Hedge domain (R734). -/
  reverseFlag : Bool := false
deriving DecidableEq, Repr

/-! ### Hedge and start-up (19) -/

/-- The life-cycle states with their encoding's names (R718). -/
inductive Life where
  | factory | transit | commission | operate | maintain | decommissioned | tampered
deriving DecidableEq, Repr

/-- A state record of the keeper (R715). -/
structure StateRec where
  seq : Nat := 0
  state : Life := .transit
  prev : Life := .factory
  pending : Bool := false
  cause : Nat := 0x10
  seconds : Nat := 0
  request : Nat := 0
deriving DecidableEq, Repr

/-- A tamper log entry (R716). -/
structure TamperRec where
  seq : Nat
  seconds : Nat
  cause : Nat
  detail : Nat
  before : Life
  powered : Bool
  erased : Bool
  value : BitVec 16
deriving DecidableEq, Repr

/-- The Hedge keeper (R706 to R733). -/
structure Keeper where
  /-- The current state record (R715). -/
  record : StateRec := {}
  /-- The record before it, which the ferroelectric memory still holds (R714, R715). -/
  older : Option StateRec := none
  /-- The battery-backed key is present (R707, R713). -/
  key : Bool := true
  /-- Generation of the battery-backed key: a new one is drawn at entry into COMMISSION (R252). -/
  keyGen : Nat := 0
  /-- Generation of the keeper secret, none where it is erased (R251, R714). -/
  secretGen : Option Nat := some 0
  /-- Fault count (R711). -/
  faults : BitVec 8 := 0
  /-- Tamper log: the latest 96 entries, newest first, and the total (R716). -/
  log : List TamperRec := []
  entries : BitVec 32 := 0
  /-- Keeper roster: m and the identity digests (R714, R720). -/
  rosterM : Nat := 0
  roster : List Bytes := []
  /-- Seconds since manufacture (R717). -/
  seconds : BitVec 32 := 0
  /-- HEDGE_ALARM_N is driven low (R707). -/
  alarm : Bool := false
  /-- HDG_STAT sensor bits and supplies (R733). -/
  extSupply : Bool := false
  batteryLow : Bool := false
  supplyOk : Bool := true
  tempOk : Bool := true
  dark : Bool := true
  closed : Bool := true
  mesh : BitVec 4 := 0xF
  /-- HDG_BATTERY (R733). -/
  extMv : BitVec 16 := 0
  cellMv : BitVec 16 := 0
  /-- seq of the last tamper log entry that has its TAMPER_RESPONSE record (R710). -/
  recorded : Nat := 0
  /-- A tamper response waits for the close of R708. -/
  respond : Bool := false
  /-- A tamper response has occurred since the last entry into COMMISSION (R665). -/
  tampered : Bool := false
deriving DecidableEq, Repr

/-- Start-up and the module page (R727 to R732, R768). -/
structure StartUp where
  /-- Start-up has begun since the last conventional reset. -/
  begun : Bool := false
  /-- MOD_STATUS.step (R727, R768). -/
  step : BitVec 8 := 1
  /-- MOD_STATUS flags: halted, fallback, service, ready (R727, R731, R768). -/
  halted : Bool := false
  fallback : Bool := false
  service : Bool := false
  ready : Bool := false
  /-- MOD_READY_TIME (R768). -/
  readyMs : BitVec 32 := 0
  /-- MOD_ENERGY: the module's energy at the latest close (R768). -/
  energy : BitVec 64 := 0
  /-- DRAM regions wiped, 0 to 4 (R729). -/
  dramWiped : Nat := 0
  /-- The boot bank and firmware slot are verified (R619). -/
  bootOk : Bool := false
  /-- A persistent erasure is running (R725, R726). -/
  erasing : Bool := false
  /-- Per-boot keys drawn: how many start-ups have drawn them (R20, R28, R528). -/
  bootKeys : Nat := 0
deriving DecidableEq, Repr

/-- The keys drawn anew at each start-up for volatile memories (R20, R28): none before. -/
structure BootKeys where
  /-- The per-boot mask key, 32 bytes, and its generation number (R19, R20). -/
  mask : Bytes := []
  generation : BitVec 8 := 0
  /-- The DRAM key: a 256-bit data key, then a 256-bit tweak key (R28). -/
  dram : Bytes := []
deriving DecidableEq, Repr
/-! ### Key store and sessions (06) -/

/-- An entry run of a key bay (R246, R248). -/
structure BayEntry where
  block : Nat
  count : Nat
  pinned : Bool := false
deriving DecidableEq, Repr

/-- A key bay: entries, most recently used first, and its counters (R246, R282, R283). -/
structure Bay where
  entries : List BayEntry := []
  hits : BitVec 32 := 0
  misses : BitVec 32 := 0
deriving DecidableEq, Repr

/-- An open session (R271 to R275). -/
structure Session where
  application : Nat := 0
  tagKey : Bytes := []
  /-- The highest accepted counter H, and the accepted counters above H − 1,024 (R273). -/
  high : Nat := 0
  accepted : List Nat := []
  /-- Tag failures counted against CTL_SES_FAIL_LIMIT (R275, R287). -/
  failures : Nat := 0
  /-- Which of the sessions opened since start-up it is (R274). -/
  opened : Nat := 0
deriving DecidableEq, Repr

/-- The key store tile (R236 to R287). -/
structure KeyStore where
  /-- The fold key domain, 0 before root key loading (R236, R254). -/
  domain : Nat := 0
  /-- Key blocks by block number (R244). -/
  keys : AMap KeyBlock := []
  /-- Generation of a block number (R236, R244). -/
  gens : AMap Nat := []
  /-- Block numbers of the keys in the key cache, most recently used first (R245). -/
  cache : List Nat := []
  /-- Bays 0 to 7 (R246). -/
  bays : AMap Bay := []
  /-- Fills under way: block number and bay (R247). -/
  fills : List (Nat × Nat) := []
  /-- Pinned keys by block number, as the configuration area records them (R248, R250). -/
  pins : List Nat := []
  /-- Pinned keys that the rebuild has not reloaded yet (R250). -/
  rebuild : List Nat := []
  /-- Sessions by number (R271). -/
  sessions : AMap Session := []
  /-- Sessions opened since start-up (R274). -/
  opened : Nat := 0
  /-- CTL_KEY_PIN_LIMIT, CTL_KEY_BAY_SEL, CTL_SES_FAIL, CTL_SES_FAIL_LIMIT (R280, R281, R286, R287). -/
  pinLimit : BitVec 13 := 1024
  baySel : BitVec 3 := 0
  sesFail : BitVec 32 := 0
  failLimit : BitVec 8 := 16
  /-- Tenant code-signing keys enrolled, by block number (R276, R123). -/
  signers : List Nat := []
  /-- The fold domain roster: m, and the identity digests (R647). -/
  rosterM : Nat := 0
  roster : List Bytes := []
  /-- The module root key, held from start-up until a wipe (R251, R727). -/
  mrk : Option Bytes := none
  /-- The one-time-programmable area of 2 KiB that holds the Naron device certificate (R255). DESIGN CHOICE: log entry 83. -/
  otp : Bytes := List.replicate 2048 0
  /-- The module identity certificate, signed by the device key at the latest entry into COMMISSION (R255). -/
  idCert : Bytes := []
  /-- The identity record's point names the module: set at step 2 of start-up and at step 6 of a transition (R256, R722, R727). -/
  identityNames : Bool := false
deriving DecidableEq, Repr

/-! ### Public-key and cipher engines (08, 09) -/

/-- A PK engine's own marks (R326, R349 to R355, R370, R373). -/
structure PkEngine where
  quarantined : Bool := false
deriving DecidableEq, Repr

/-- The Signing plane (R326 to R373). -/
structure Signing where
  /-- SIG_UCODE_STAT (R367). -/
  verified : Bool := false
  securityVersion : BitVec 8 := 0
  imageVersion : BitVec 16 := 0
  /-- SIG_UCODE_ALGS (R368). -/
  algs : BitVec 11 := 0
  /-- SIG_CLOCK (R369). -/
  boosted : Bool := false
  boostAllow : Bool := true
  /-- SIG_SELFTEST (R371): the last result, the engine under test, the last engine. -/
  stResult : BitVec 2 := 0
  stBusy : Option Nat := none
  stLast : BitVec 6 := 0
  stEngine : BitVec 6 := 0
  /-- SIG_FAULTS, SIG_REJECTS, SIG_CUTOFFS (R372). -/
  faults : BitVec 32 := 0
  rejects : BitVec 32 := 0
  cutoffs : BitVec 32 := 0
  /-- Marks of the engines by number (R351, R370). -/
  engines : AMap PkEngine := []
deriving DecidableEq, Repr

/-- A cipher engine's own marks (R380, R409). -/
structure CipEngine where
  /-- A mask reseed was missed and is owed (R380). -/
  maskOwed : Bool := false
deriving DecidableEq, Repr

/-- The Cipher plane (R374 to R409). -/
structure Ciphers where
  /-- CIP_CLOCK (R404). -/
  boosted : Bool := false
  boostAllow : Bool := true
  /-- CIP_NONCE_PREFIX (R405). -/
  noncePrefix : BitVec 32 := 0
  /-- CIP_NONCE_NEXT and CIP_NONCE_MARK (R406). -/
  nonceNext : BitVec 64 := 0
  nonceMark : BitVec 64 := 0
  /-- A new mark is being programmed (R391). -/
  markPending : Option (BitVec 64) := none
  /-- Blocks held: next value and end, by holder (R390). -/
  holders : AMap (List (Nat × Nat)) := []
  /-- CIP_MASK_STAT (R407). -/
  maskMissed : BitVec 16 := 0
  maskReseeds : BitVec 16 := 0
  /-- Reseeds missed in this swath (R380, R497). -/
  missedNow : Nat := 0
  /-- The swath in which a gated domain was last reseeded (R380). -/
  reseedSwath : Option Nat := none
  /-- CIP_SUSPENDS (R408). -/
  suspends : BitVec 32 := 0
  /-- Marks of the engines by number (R380). -/
  engines : AMap CipEngine := []
deriving DecidableEq, Repr

/-! ### Random numbers (12) -/

/-- RNG_STAT.state (R512). -/
inductive RngState where
  | starting | running | reseeding | halted
deriving DecidableEq, Repr

/-- A noise source (R499 to R501, R510, R511, R513, R519). -/
structure Source where
  /-- Neither isolated nor failed (R512). -/
  healthy : Bool := false
  /-- Trim code, signed (R500). -/
  trim : BitVec 8 := 0
  /-- RNG_BIAS_n.ones and RNG_CORR_n (R511). -/
  ones : BitVec 13 := 0
  lag1 : BitVec 8 := 0
  lag2 : BitVec 8 := 0
  lag3 : BitVec 8 := 0
  lag4 : BitVec 8 := 0
  /-- Blocks of 1,024 samples of the running 4,096-sample block with the trim at an end (R510). -/
  atEnd : Nat := 0
deriving DecidableEq, Repr

/-- The RNG tile (R499 to R519). -/
structure Rng where
  state : RngState := .starting
  sources : AMap Source := []
  /-- RNG_MIN_SOURCES.min and RNG_WAIT_LIMIT.swaths (R519). -/
  min : BitVec 5 := 12
  waitLimit : BitVec 8 := 16
  /-- RNG_FAILS and RNG_RESEEDS (R519). -/
  rct : BitVec 16 := 0
  apt : BitVec 16 := 0
  reseeds : BitVec 32 := 0
  /-- Bytes in the output queue (R505, R519). -/
  level : BitVec 17 := 0
  /-- Fabric clocks of this swath in which the DRBG gave no output (R505). -/
  idle : Nat := 0
  /-- The conditioned blocks in the pool, at most 8, and the CBC-MAC key that start-up fixed (R502). -/
  pool : List Bytes := []
  macKey : Bytes := []
  /-- Key and V of the CTR_DRBG, 48 bytes; none while it is not instantiated (R503, R515). -/
  drbg : Option Bytes := none
  /-- Bytes generated since the DRBG was seeded, 4 KiB to a request, and a scheduled reseed that waits for the pool (R503, R504). -/
  given : Nat := 0
  due : Bool := false
  /-- Bits of min-entropy credited to the groups conditioned since start-up began, 0.5 for each raw bit of a source in conditioning (R501, R502). -/
  credited : Nat := 0
  /-- The source that re-balance takes next (R516). -/
  rebalance : Nat := 0
deriving DecidableEq, Repr

/-! ### Token vault (10) -/

/-- A token record (R413): its fields and PAN, with pan_ct and tag as stored (R414), and whether the record lies as it was stored (DESIGN CHOICE, log entry 12). -/
structure VaultRec where
  token : Bytes := []
  domain : Nat := 0
  /-- 0 empty, 1 active, 2 suspended, 3 deleted. -/
  status : Nat := 0
  expiry : Nat := 0
  usage : Nat := 0
  created : Nat := 0
  keyGen : Nat := 0
  panCheck : Nat := 0
  unmirrored : Bool := false
  nonce : Bytes := []
  pan : Bytes := []
  /-- pan_ct and tag (R413, R414). -/
  sealed_ : Bytes := []
  intact : Bool := true
deriving DecidableEq, Repr

/-- An index entry (R422). -/
structure IndexEntry where
  tag : Nat
  leaf : Nat
  quarter : Nat
deriving DecidableEq, Repr

/-- An overflow table entry: the full token with its domain, or H, with leaf and quarter (R423). -/
structure OverEntry where
  key : Bytes
  leaf : Nat
  quarter : Nat
deriving DecidableEq, Repr

/-- A journal entry (R431). -/
structure JournalEntry where
  seq : Nat
  swath : Nat
  epoch : Nat
  kind : Nat
  target : Nat := 0
  slot : Nat := 0
  record : Option VaultRec := none
  checkpoint : Nat := 0
  /-- The mac under the journal key (R431, R438). -/
  mac : Bytes := []
deriving DecidableEq, Repr

/-- What a NAND block holds (R412, R439 to R441). -/
structure NandBlock where
  /-- 0 spare, 1 records, 2 indexes, 3 audit reserve, 4 key area, 5 journal and mirror staging. -/
  area : Nat := 0
  erases : Nat := 0
  /-- Pages programmed since the last erase. -/
  written : Nat := 0
  /-- Retired, and erase interrupted (R439, R440). -/
  retired : Bool := false
  interrupted : Bool := false
  /-- Marked for refresh by the patrol scrub (R426, R443). -/
  refresh : Bool := false
deriving DecidableEq, Repr

/-- A NAND plane (R410, R411, R427, R428): what it is doing, and the swaths of the class 0 reads recorded on it. -/
structure NandPlane where
  busy : Bool := false
  suspended : Bool := false
  class0 : List Nat := []
deriving DecidableEq, Repr

/-- What a NAND read brings: a leaf quarter (R413), or a page of the PAN index (R424). -/
inductive NandTarget where
  | quarter (leaf quarter : Nat)
  | panPage (page : Nat)
deriving DecidableEq, Repr

/-- A NAND read under way (R319, R425 to R427, R447): the job slot and step that wait for it, if any, what it reads and the re-reads made. -/
structure NandRead where
  job : Option (Nat × Nat)
  target : NandTarget
  rereads : Nat := 0
  /-- Aborted for a class 0 read, and to be issued again (R427). -/
  aborted : Bool := false
deriving DecidableEq, Repr

/-- The vault (R410 to R456). -/
structure Vault where
  /-- The latest version of each record, by leaf × 64 + slot (R413, R425). -/
  records : AMap VaultRec := []
  /-- Index buckets by number (R422), and the overflow tables (R423). -/
  tokenIndex : AMap (List IndexEntry) := []
  panIndex : AMap (List IndexEntry) := []
  tokenOver : List OverEntry := []
  panOver : List OverEntry := []
  /-- The open quarter for new records, leaf × 4 + quarter (R415). -/
  openQuarter : Nat := 0
  /-- Cached PAN index pages of 64 buckets, and cached leaves, most recently used first (R424). -/
  panPages : List Nat := []
  leafCache : List Nat := []
  /-- Quarters that were read for a step that still needs them (R319, R425). -/
  landed : List NandRead := []
  /-- Where a leaf lies in NAND: physical page × 4 + its place in the page (R412). -/
  homes : AMap Nat := []
  /-- Journal entries not yet released, oldest first, the next seq, and the latest checkpoint's seq (R431, R433, R453). -/
  journal : List JournalEntry := []
  nextSeq : Nat := 1
  checkpoint : Nat := 0
  /-- The records as of that checkpoint, from which a replay begins (R433, R438). -/
  base : AMap VaultRec := []
  /-- Leaves, and index pages from 2^25 up, changed since they were last programmed: the seq of the first such entry (R433). -/
  dirty : AMap Nat := []
  /-- Journal entries already programmed to the journal area (R432). -/
  programmed : Nat := 0
  /-- Token domain entries of 64 bytes (R418). -/
  domains : AMap Bytes := []
  /-- Generation of the record key in use (R413, R443). -/
  keyGen : Nat := 0
  /-- Media map (R412, R439, R440); an unlisted block is a free spare. -/
  blocks : AMap NandBlock := []
  /-- The planes by number, and the NAND reads under way (R411, R427). -/
  planes : AMap NandPlane := []
  reads : List NandRead := []
  /-- Blocks whose leaf an admitted class 0 job reads, each with the job's slot (R428, R430). -/
  named : List (Nat × Nat) := []
  /-- Issues appended and not complete: job slot, domain and PAN (R436). -/
  issues : List (Nat × Nat × Bytes) := []
  /-- VLT_STAT (R448). -/
  ready : Bool := false
  replaying : Bool := false
  readOnly : Bool := false
  spareWarn : Bool := false
  /-- VLT_TODAY, VLT_LDPC, VLT_MIRROR_CTL, VLT_SCRUB_CTL, VLT_C0_PLANE (R449, R452, R454 to R456). -/
  today : BitVec 16 := 0
  ldpcMax : BitVec 8 := 0
  /-- Decodes of the last 4,096 swaths: swath and iterations (R452). -/
  decodes : List (Nat × Nat) := []
  /-- VLT_MIRROR_CTL, VLT_SCRUB_CTL and VLT_C0_PLANE (R454 to R456). -/
  mirrorTimeout : BitVec 8 := 50
  dramHours : BitVec 8 := 1
  nandDays : BitVec 8 := 7
  planeRefused : BitVec 32 := 0
  /-- The next leaf of re-key, page of patrol and row of the DRAM patrol (R443). -/
  rekeyLeaf : Nat := 0
  patrolPage : Nat := 0
  patrolRow : Nat := 0
deriving DecidableEq, Repr

/-! ### Tenant programs (13) -/

/-- A loaded tenant image (R553, R554): its header, code rows with rodata, and SHA-384 of the image. -/
structure Tenant where
  header : Bytes := []
  code : Bytes := []
  rodata : Bytes := []
  digest : Bytes := []
  /-- First row of program memory it occupies, from 4,096 up (R522). -/
  firstRow : Nat := 0
  /-- Its 64 KiB place for rodata in the tenant area of control SRAM (R554). -/
  place : Nat := 0
deriving DecidableEq, Repr

/-! ### Fold links (18) -/

/-- FOLD_PORT_STAT.state (R696). -/
inductive PortState where
  | down | training | handshake | up | refused
deriving DecidableEq, Repr

/-- A member table entry (R687). -/
structure Member where
  serial : Nat
  digest : Bytes
  noncePrefix : Nat
deriving DecidableEq, Repr

/-- A fold port (R685 to R697, R705). -/
structure FoldPort where
  /-- FOLD_PORT_CTL.enable. -/
  enable : Bool := true
  /-- FOLD_PORT_STAT.state (R696). -/
  state : PortState := .down
  /-- Since which swath the port is in its state, and the swath of its last valid frame (R696). -/
  since : Nat := 0
  heard : Nat := 0
  /-- FOLD_PORT_STAT.peer and .reach. -/
  peer : BitVec 8 := 0xFF
  reach : BitVec 8 := 0
  /-- The last 16 round-trip samples, newest first (R697). -/
  samples : List Nat := []
  /-- FOLD_ERRORS. -/
  fec : BitVec 16 := 0
  discards : BitVec 16 := 0
  /-- The SAK and finish key of the session, and the peer's HELLO in the handshake (R694, R695). -/
  keys : Bytes := []
  hello : Bytes := []
  peerHello : Bytes := []
  /-- Sequence numbers sent, by destination (R690). -/
  sent : AMap Nat := []
deriving DecidableEq, Repr

/-- A key or domain change of this module, as replication sends it (R702): a key's block number, or 2^24 plus a domain, and the members it goes to. -/
structure Change where
  seq : Nat
  what : Nat
  mask : Nat := 0xFF
deriving DecidableEq, Repr

/-- The fold (R685 to R705). -/
structure Fold where
  members : AMap Member := []
  ports : AMap FoldPort := []
  /-- FOLD_ETYPE.etype and FOLD_MIRROR_CTL.peer. -/
  etype : BitVec 16 := 0x88B6
  mirrorPeer : BitVec 3 := 0
  /-- Own changes, oldest first, the next sequence number, and the replication cursor of each member (R702). -/
  changes : List Change := []
  nextChange : Nat := 1
  cursors : AMap Nat := []
  /-- The last checkpoint number co-signed for each member (R703). -/
  cosigned : AMap Nat := []
  /-- The cursor each member sent in RESYNC_STATE, and the members that this run of fold resync has sent its own to (R704). -/
  peerCursors : AMap Nat := []
  told : List Nat := []
deriving DecidableEq, Repr

/-! ### Cores and access gates (13, 14) -/

/-- A capability: its 128 bits and the tag held apart from them (R561, R564). -/
structure Cap where
  bits : BitVec 128 := 0
  tag : Bool := false
deriving DecidableEq, Repr

/-- A register write not yet in effect (R538, R581): destination 0 to 31 g, 32 to 39 c, 40 to 47 p, and how many further instructions read the
old value. -/
structure PendWrite where
  dest : Nat
  value : BitVec 128
  tag : Bool := false
  left : Nat
deriving DecidableEq, Repr

/-- A split load that has not landed (R545): destination as in R581, address, landing predicate. -/
structure Split where
  dest : Nat
  addr : Nat
  pl : BitVec 3
  /-- Entries at the front of the store buffer that are older than the load (R548). -/
  older : Nat := 0
deriving DecidableEq, Repr

/-- A store buffer entry (R548): address, size in bytes, data and tag. -/
structure StoreEntry where
  addr : Nat
  size : Nat
  value : BitVec 128
  tag : Bool := false
deriving DecidableEq, Repr

/-- Registers that a gate frame, an exception frame or a parked context keeps, besides the general ones (R523, R572). -/
structure Status where
  ctx : BitVec 2 := 0
  mode : BitVec 2 := 0
  brTarget : BitVec 18 := 0
  loop1 : Bool := false
  loop0 : Bool := false
  brPend : Bool := false
  trace : Bool := false
  ie : Bool := false
  w : Bool := false
deriving DecidableEq, Repr

/-- The loop registers (R523, R550). -/
structure Loops where
  lc0 : BitVec 32 := 0
  lc1 : BitVec 32 := 0
  ls0 : BitVec 18 := 0
  ls1 : BitVec 18 := 0
  le0 : BitVec 18 := 0
  le1 : BitVec 18 := 0
deriving DecidableEq, Repr

/-- A gate frame of the private frame store (R573, R574). -/
structure GateFrame where
  pc : BitVec 18
  st : Status
  loops : Loops
  c0 : Cap
  /-- c3 to c7. -/
  caps : List Cap
deriving DecidableEq, Repr

/-- A link (R573): a gate with its frame, or an exception with its vector, frame address and stack capability. -/
inductive CoreLink where
  | gate (frame : GateFrame)
  | exception (vector frame : Nat) (stack : Cap)
deriving DecidableEq, Repr

/-- The registers of a core or of a parked tenant context (R523). -/
structure CoreRegs where
  /-- g0 to g31; g0 is never stored. -/
  g : AMap (BitVec 64) := []
  /-- p0 to p7 by bit; p0 reads true. -/
  p : BitVec 8 := 0
  /-- Failed marks of p1 to p7 (R547). -/
  pfail : BitVec 8 := 0
  /-- Capability registers c0 to c7 (R523, R561). -/
  c : AMap Cap := []
  /-- Loop registers (R550). -/
  loops : Loops := {}
  /-- The status register (R572). -/
  st : Status := {}
  /-- The syllable address of the next instruction (R523, R527). -/
  pc : BitVec 18 := 0
  /-- Delayed writes not yet visible (R537, R538). -/
  pending : List PendWrite := []
  /-- The next instruction stands in a delay slot (R542, R543). -/
  delay : Bool := false
  /-- Shadow instructions left after a switch (R544). -/
  shadow : Nat := 0
  /-- The next instruction is the first after a RETC (R583). -/
  returned : Bool := false
  /-- The link stack (R573). -/
  links : List CoreLink := []
deriving DecidableEq, Repr

/-- A sealed row of program memory: 28 bytes of syllables and the row seal (R527, R528). -/
structure ProgramRow where
  code : Bytes := []
  rowSeal : Bytes := []
deriving DecidableEq, Repr

/-- What a core runs (R559, CTL_CORE_STAT.mode). -/
inductive CoreMode where
  | idle | firmware | tenant
deriving DecidableEq, Repr

/-- A tenant invocation on a core (R555, R556): job slot and step, opcode, the context, its step and swath counts. -/
structure Invocation where
  slot : Nat
  step : Nat
  opcode : Nat
  /-- Fabric clocks of the step budget and the clock of the swath from which they count. -/
  budget : Nat := 0
  from_ : Nat := 0
  /-- Steps run so far, the present one included. -/
  steps : Nat := 1
deriving DecidableEq, Repr

/-- One of the 17 cores (R520 to R560). -/
structure Core where
  regs : CoreRegs := {}
  mode : CoreMode := .idle
  /-- CTL_CORE_STAT.halted (R586). -/
  halted : Bool := false
  /-- Data memory, zero where not listed, and the tags of its 16-byte granules (R520, R564). -/
  data : AMap Byte := []
  tags : AMap Bool := []
  /-- Program memory by row (R527). -/
  program : AMap ProgramRow := []
  /-- Which start-up or conventional reset drew the seal key, 0 where none is drawn (R528). -/
  sealKey : Nat := 0
  /-- Split loads not landed, oldest first (R545, R546). -/
  splits : List Split := []
  /-- The store buffer, oldest first (R548). -/
  stores : List StoreEntry := []
  /-- Late store errors not taken yet: entry, cause and the store (R584). -/
  late : List (Nat × Nat × StoreEntry) := []
  /-- A step budget or swath overrun waits for a boundary (R582): opcode. -/
  overrun : Option Nat := none
  /-- Breakpoints of SYS BREAK_SET (R577, R583). -/
  breaks : List (BitVec 18) := []
  /-- Instructions issued since the last trace exception (R580). -/
  sinceTrace : Nat := 0
  /-- The invocation that runs, and the one parked in context 1 with its registers (R555, R556). -/
  running : Option Invocation := none
  parked : Option (Invocation × CoreRegs) := none
  /-- CTL_CORE_ISSUED and CTL_CORE_STALLS (R559). -/
  issued : BitVec 32 := 0
  stalls : BitVec 32 := 0
deriving DecidableEq, Repr

/-- An access gate (R589, R599 to R602). -/
structure Gate where
  regions : AMap (BitVec 64) := []
  /-- GATE_FAULT_ADDR and GATE_FAULT_INFO. -/
  addr : BitVec 40 := 0
  count : BitVec 16 := 0
  user : Bool := false
  dma : Bool := false
  x : Bool := false
  w : Bool := false
  r : Bool := false
deriving DecidableEq, Repr

/-! ### Code flash (15) -/

/-- A partition's state (R611, R627). -/
inductive FlsState where
  | idle | program | erase | suspending | suspended | suspendedProgram
deriving DecidableEq, Repr

/-- A partition of code flash (R605, R611): the program in progress with the core and command block that asked for it, and the erase in progress
or suspended. -/
structure FlsPart where
  state : FlsState := .idle
  /-- Byte address and word being programmed. -/
  program : Option (Nat × Bytes) := none
  /-- The core and command block that asked for the program (R607). -/
  programBlock : Option (Nat × Nat) := none
  /-- Sector being erased. -/
  sector : Option Nat := none
  /-- The core and command blocks that asked for the erase and the suspend (R607, R612). -/
  eraseBlock : Option (Nat × Nat) := none
  suspendBlock : Option (Nat × Nat) := none
  /-- The swath of the last RESUME of the erase (R612). -/
  resumed : Option Nat := none
deriving DecidableEq, Repr

/-- What the erase ledger and the controller know of a sector (R606, R621 to R623, R630). -/
structure FlsSector where
  erases : Nat := 0
  pulses : Nat := 0
  interrupted : Bool := false
  /-- The spare sector that replaces it, where its erase failed. -/
  spare : Option Nat := none
  /-- The sector has no spare left for it (R623). -/
  failed : Bool := false
  /-- Corrections counted since its erase (R630). -/
  corrected : BitVec 9 := 0
  /-- Position in the ledger of its latest word. -/
  ledgerAt : Nat := 0
deriving DecidableEq, Repr

/-- A selector word (R615). -/
structure Selector where
  seq : Nat := 1
  boot : Bool := false
  firmware : Bool := false
  microcode : Bool := false
  epoch : Nat := 0
deriving DecidableEq, Repr

/-- Code flash (R603 to R631). -/
structure Flash where
  /-- Words that are not erased, by word index: 32 bytes, or none for a word that reads uncorrectable (R606). -/
  words : AMap (Option Bytes) := []
  /-- The partitions, by number (R605, R611). -/
  parts : AMap FlsPart := []
  /-- What is known of each sector (R621 to R623). -/
  sectors : AMap FlsSector := []
  /-- Selector words held, newest first, and the one in use (R613 to R615, R619). -/
  selectors : List Selector := [{}]
  inUse : Selector := {}
  /-- The next free word of the selector area (R614). -/
  selNext : Nat := 0
  /-- The counters word in force (R616): its seq, SCH_EPOCH, nonce mark and floors. -/
  cntSeq : Nat := 1
  cntNext : Nat := 0
  epoch : BitVec 32 := 0
  mark : BitVec 64 := 0
  floorMicrocode : BitVec 8 := 0
  floorBoot : BitVec 8 := 0
  floorFirmware : BitVec 8 := 0
  /-- Security versions of the boot and firmware images in use (R620). -/
  bootVersion : BitVec 8 := 0
  firmwareVersion : BitVec 8 := 0
  /-- The erase ledger: next seq and next position (R621). -/
  ledSeq : Nat := 1
  ledNext : Nat := 0
  /-- The configuration area (R617): whether the second half is written, the next free word of that half, the next seq, and the live records by kind × 2^24 +
  number. -/
  cfgSecond : Bool := false
  cfgNext : Nat := 0
  cfgSeq : Nat := 1
  cfgLive : AMap Bytes := []
  /-- FLS_STAT.last_status (R627). -/
  lastStatus : BitVec 8 := 0
  /-- FLS_ERASE_PULSES (R629). -/
  pulseSector : BitVec 10 := 0
  pulseCount : BitVec 7 := 0
  /-- FLS_SECTOR_SEL (R630). -/
  sel : BitVec 10 := 0
  /-- FLS_CORRECTED, FLS_STAGE_CTL, FLS_COUNTS.interrupted (R631). -/
  corrected : BitVec 32 := 0
  targets : BitVec 3 := 0
  /-- The targets that the staging activity took at its start (R624). -/
  staging : BitVec 3 := 0
  /-- FLS_STAGE_CTL.verified (R626, R631). -/
  verified : BitVec 3 := 0
  /-- FLS_COUNTS.interrupted (R631). -/
  interrupted : BitVec 16 := 0
deriving DecidableEq, Repr

/-! ### Custody cards and ceremonies (16) -/

/-- Why a card is not activated again before it is reinserted or retried (R633, R635). -/
inductive CardBar where
  | none | short | protocol
deriving DecidableEq, Repr

/-- The contact card interface (R632 to R635, R658). -/
structure Contact where
  /-- CARD_CTL.clk_max and .class_allow. -/
  clkMax : BitVec 5 := 20
  classAllow : BitVec 3 := 7
  /-- CARD_STAT: clock in MHz, protocol 1 T=0 or 2 T=1, class 1 A, 2 B or 3 C, powered, CC_DET. -/
  clock : BitVec 8 := 0
  protocol : BitVec 2 := 0
  cls : BitVec 2 := 0
  active : Bool := false
  present : Bool := false
  /-- Why the card is not activated again (R633, R635). -/
  bar : CardBar := .none
  /-- CARD_ERRORS. -/
  parity : BitVec 16 := 0
  timeouts : BitVec 16 := 0
deriving DecidableEq, Repr

/-- Where the reader stands between field on and a card in session (R637 to R639). -/
inductive RdrStage where
  | off | reqa | reqb | anticollision | select | rats | attrib | session | deselect
deriving DecidableEq, Repr

/-- The contactless reader (R636 to R639, R658). -/
structure Reader where
  /-- RDR_CTL. -/
  maxRate : BitVec 2 := 3
  typeA : Bool := true
  typeB : Bool := true
  /-- RDR_LPCD. -/
  baseline : BitVec 8 := 0
  threshold : BitVec 8 := 8
  period : BitVec 7 := 50
  /-- RDR_STAT: amplitude at the last ping, card in session (1 Type A, 2 Type B), antenna (1 open, 2 short). -/
  last : BitVec 8 := 0
  card : BitVec 2 := 0
  antenna : BitVec 2 := 0
  /-- Swath of the latest ping (R637). -/
  pingAt : Option Nat := none
  /-- Where the reader stands (R637 to R639). -/
  stage : RdrStage := .off
  /-- Identifier bits known in anticollision, first bit first (R639). -/
  known : List Bool := []
  /-- Cascade levels of ISO/IEC 14443-3 selected so far. -/
  level : Nat := 0
  /-- Type B slots N (R636). -/
  slotsB : Nat := 1
deriving DecidableEq, Repr

/-- A ceremony request (R648 to R650). -/
structure Request where
  number : Nat
  action : Nat
  subject : Nat := 0
  /-- The full parameter digest (R649). -/
  digest : Bytes := []
  /-- M, for action 0x02 known from the first valid record, 0 before. -/
  m : Nat
  /-- The pass of the request, 1 or 2 (R650, R654). -/
  pass : Nat := 1
  /-- Swath in which the window ends, once it is ACTIVE. -/
  windowEnd : Option Nat := none
  /-- Identity digests counted in this pass, in order; those of pass 1 in slot order. -/
  counted : List Bytes := []
  /-- The roster that the request is held against (R648). -/
  roster : List Bytes := []
  /-- Share records collected (R654), and the polynomials of GENERATE, one byte string per degree, the root first (R645). -/
  shares : List Bytes := []
  polys : List Bytes := []
  /-- The requesting job's opcode, input and BND_CER_ROOT at binding (R649). -/
  opcode : Nat
  input : Bytes := []
  root : Nat := 0
deriving DecidableEq, Repr

/-- A presentation at one interface (R651). -/
structure Presentation where
  /-- The step of R651 whose answer is awaited: 2 to 6; 1 while the card is activated or selected. -/
  step : Nat := 1
  /-- Swath in which step 1 began, and step 5 (R651, R652). -/
  begun : Nat := 0
  asked : Nat := 0
  /-- The card's serial, identity digest and label (R640, R641). -/
  serial : Nat := 0
  identity : Bytes := []
  label : Bytes := []
  /-- The AUTHENTICATE command data, the session key and counter (R641, R642). -/
  auth : Bytes := []
  ephemeral : Bytes := []
  session : Bytes := []
  counter : Nat := 0
  /-- The request the card is asked to authorise: number, action, pass and digest (R653). -/
  request : Option (Nat × Nat × Nat × Bytes) := none
  /-- The share record sent under STORE SHARE (R641). -/
  record : Bytes := []
  /-- The window of the request it was authorised for has ended (R652). -/
  late : Bool := false
deriving DecidableEq, Repr

/-- Ceremonies (R648 to R658). -/
structure Ceremony where
  /-- Number of the next request (R649). -/
  next : Nat := 1
  /-- Requests in order of opening, the active one first (R650). -/
  queue : List Request := []
  /-- BND_CER_ROOT. -/
  domain : BitVec 8 := 0
  n : BitVec 5 := 1
  m : BitVec 5 := 1
  generate : Bool := false
  /-- The presentations at the contact slot and at the reader. -/
  contact : Option Presentation := none
  reader : Option Presentation := none
deriving DecidableEq, Repr

/-! ### The Stile tag and the backup card (17) -/

/-- The tag's states (R661). -/
inductive TagState where
  | idle | ready | active | halt
deriving DecidableEq, Repr

/-- The Stile tag (R659 to R670, R684). -/
structure Stile where
  /-- STL_STAT.field, .tag and .lock: 0 free, 1 wire, 2 field. -/
  field : Bool := false
  tag : TagState := .idle
  lock : BitVec 2 := 0
  /-- After RATS; after a successful SELECT; the session's tap-log entry is written (R661, R662, R669). -/
  rats : Bool := false
  selected : Bool := false
  logged : Bool := false
  /-- The UID of this field entry (R660). -/
  uid : Bytes := []
  /-- ISO/IEC 14443-4 block number of the tag and the last block sent. -/
  blockNo : Bool := true
  lastBlock : Bytes := []
  /-- Latest log seq as found at the field entry or written since (R670). -/
  seq : Nat := 0
  /-- Ferroelectric memory bytes 0x0800 to 0x1FFF by address; an unlisted byte is 0 (R659). -/
  mem : AMap Byte := []
  /-- STL_KEY_HANDLE, STL_STAT.key (0 none, 1 held, 2 refused, 3 destroyed) and the material the keeper holds (R666). -/
  handle : BitVec 64 := 0
  key : BitVec 2 := 0
  material : Bytes := []
  /-- STL_TAPS. -/
  wtx : BitVec 16 := 0
  sessions : BitVec 16 := 0
deriving DecidableEq, Repr

/-- A backup in progress (R676, R679): the set, the section data still to write, and the tags of the chunks written. -/
structure Backup where
  number : Nat
  first : Nat
  blocks : Nat
  data : Bytes
  chunk : Nat := 0
  tags : List Bytes := []
  /-- Writes issued whose busy phase has not ended (R679). -/
  busy : Bool := false
deriving DecidableEq, Repr

/-- The backup card slot (R671 to R684). -/
structure Sdc where
  modeMax : BitVec 3 := 5
  lastResult : BitVec 4 := 0
  tap : BitVec 6 := 0
  mode : BitVec 3 := 7
  card : BitVec 3 := 0
  permWp : Bool := false
  tmpWp : Bool := false
  wpSwitch : Bool := false
  crc : BitVec 16 := 0
  retunes : BitVec 16 := 0
  /-- Highest mode the card offers, and its last block. -/
  offers : BitVec 3 := 0
  lastBlock : Nat := 0
  /-- A CRC error led to the reissue of the present command (R673). -/
  reissued : Bool := false
  /-- Swath of the latest tuning (R673). -/
  tunedAt : Nat := 0
  /-- The latest command with its argument and data, CMD19 apart (R673). -/
  command : Option (Nat × Nat × Bytes) := none
  /-- The label block's 64 leading bytes, the directory in use and the sets the card holds (R675 to R678). -/
  label : Bytes := []
  dir : Option SdDir := none
  sets : List SdSet := []
  /-- The latest valid set number (SDC_SET). -/
  latest : Nat := 0
  /-- The backup in progress (R679). -/
  backup : Option Backup := none
deriving DecidableEq, Repr
/-- The whole module. -/
structure State where
  /-- Unit pages by page number (R4, R756). -/
  units : AMap UnitRec := []
  /-- The audit chain (R457 to R486). -/
  audit : Audit := {}
  /-- The event recorder (R487 to R496). -/
  recorder : Recorder := {}
  /-- MSI-X (R106). -/
  msix : Msix := {}
  /-- The host link (R99 to R141). -/
  link : Link := {}
  /-- Channels 0 to 63 (R142). -/
  chans : AMap Chan := []
  /-- Job slots in use, by slot number (R234). -/
  jobs : AMap Job := []
  /-- The scheduler (R37 to R98). -/
  sched : Sched := {}
  /-- The power stage (R734 to R752). -/
  power : Power := {}
  /-- The Hedge keeper (R706 to R733). -/
  keeper : Keeper := {}
  /-- Start-up (R727). -/
  start : StartUp := {}
  /-- The key store (R236 to R287). -/
  keys : KeyStore := {}
  /-- The Signing plane (R326 to R373). -/
  sig : Signing := {}
  /-- The Cipher plane (R374 to R409). -/
  cip : Ciphers := {}
  /-- The generator (R499 to R519). -/
  rng : Rng := {}
  /-- The vault (R410 to R456). -/
  vault : Vault := {}
  /-- The fold (R685 to R705). -/
  fold : Fold := {}
  /-- Code flash (R603 to R631). -/
  flash : Flash := {}
  /-- The contact card interface (R632 to R635). -/
  contact : Contact := {}
  /-- The contactless reader (R636 to R639). -/
  reader : Reader := {}
  /-- Ceremonies (R648 to R657). -/
  ceremony : Ceremony := {}
  /-- The Stile tag (R659 to R670). -/
  stile : Stile := {}
  /-- The backup card slot (R671 to R684). -/
  sdc : Sdc := {}
  /-- Loaded tenant programs by opcode; an image that earlier jobs still use is kept under opcode + 65536 × k (R554). -/
  tenants : AMap Tenant := []
  /-- Cores 0 to 15 and the boot core, 16 (R520). -/
  cores : AMap Core := [(16, { regs := { st := { mode := 3, w := true } } })]
  /-- Access gates by master index, 0 to 34 (R589, R597). -/
  gates : AMap Gate := []
  /-- Control SRAM by offset, zero where not listed, and the tags of its granules (R520, R564). -/
  sram : AMap Byte := []
  sramTags : AMap Bool := []
  /-- DRAM as the cores see it, by offset, zero where not listed (R521; DEDUCED, log entry 20). -/
  dram : AMap Byte := []
  /-- The per-boot mask key and DRAM key (R20, R28). -/
  boot : BootKeys := {}
  /-- Errors that stored rows have taken since they were written: by 40-bit row address, what is exclusive-ored into the 36 stored bytes (R17, R23 to R26). -/
  rowFaults : AMap Bytes := []
  /-- High words latched by a read of a low word, keyed master × 2^32 + address (R84, R756, R485). -/
  latches : AMap (BitVec 32) := []
  /-- The model's own counter of the free values drawn (DESIGN CHOICE, log entry 5). -/
  draws : Nat := 0
  /-- The model's own trace of what left the module, newest first (DESIGN CHOICE, log entry 4). -/
  out : List Output := []
  /-- The commands that wait, first in, first out. -/
  pending : List Instr := []
deriving DecidableEq, Repr

/-- The machine right after a conventional reset: every field at its default above. -/
def State.reset : State := {}

end Sys2Proof.Machine
end

