-- ==== Sys2Proof/Machine/Units.lean ====
section
/-!
DEFINITION. Sys2Proof/Machine/Units.lean: the tree of unit pages (R4 to R15, R753, R754, R757, R786), the values a group derives
from its children, and which engine, domain and bus master is which page.
-/
namespace Sys2Proof.Machine
open Sys2Proof

/-- BAR0 offset bits [25:12] of a page, from its fields (R753). -/
def mkPage (plane cluster tile engine : Nat) : Nat := plane * 2048 + cluster * 256 + tile * 16 + engine

def planeF (p : Nat) : Nat := p / 2048
def clusterF (p : Nat) : Nat := p / 256 % 8
def tileF (p : Nat) : Nat := p / 16 % 16
def engineF (p : Nat) : Nat := p % 16

/-- The module page and the scheduler page (R753). -/
def modulePage : Nat := 0x3800
def schedPage : Nat := 0x3900

/-- Clusters of each plane (R15). -/
def clusterCount : Nat → Nat
  | 0 => 2 | 1 => 4 | 2 => 4 | 3 => 2 | 4 => 2 | 5 => 1 | _ => 0

/-- Tiles of a cluster, by plane and cluster index (R15). -/
def tileCount : Nat → Nat → Nat
  | 0, 0 => 2 | 0, 1 => 6 | 1, _ => 4 | 2, _ => 8 | 3, 0 => 8 | 3, 1 => 8 | 4, 0 => 4 | 4, 1 => 6 | 5, _ => 6 | _, _ => 0

/-- Engine fields a tile uses, by plane, cluster index and tile index (R754). -/
def engineCount : Nat → Nat → Nat → Nat
  | 1, _, _ => 5
  | 2, _, _ => 8
  | 3, 1, t => if t < 4 then 1 else 4
  | 4, 0, _ => 4
  | 5, _, t => if t = 0 ∨ t = 1 ∨ t = 4 then 2 else 1
  | _, _, _ => 1

/-- Engine fields of a cluster's shared block: the mover, and the key bay of a Signing or Cipher cluster (R754). -/
def sharedCount (plane : Nat) : Nat := if plane = 1 ∨ plane = 2 then 2 else 1

/-- A page of R753 and R754 that exists. The shared block itself is no unit and has no page (R756, UNIT_CHILDREN; DEDUCED, log entry 8). -/
def pageExists (p : Nat) : Bool :=
  if p = modulePage ∨ p = schedPage then true
  else if planeF p > 5 then false
  else if clusterF p = 0 then decide (p % 256 = 0)
  else if clusterF p > clusterCount (planeF p) then false
  else if tileF p = 0 then decide (engineF p = 0)
  else if tileF p = 15 then decide (1 ≤ engineF p ∧ engineF p ≤ sharedCount (planeF p))
  else decide (tileF p ≤ tileCount (planeF p) (clusterF p - 1) ∧ engineF p ≤ engineCount (planeF p) (clusterF p - 1) (tileF p - 1))

/-- The level of a page (R15, R756, R786). -/
def levelOf (p : Nat) : Nat :=
  if p = modulePage then 5 else if p = schedPage then 1
  else if engineF p ≠ 0 then 1 else if tileF p ≠ 0 then 2 else if clusterF p ≠ 0 then 3 else 4

/-- The page one level up; a shared block's engines belong to the cluster (R756, R786). -/
def parent (p : Nat) : Nat :=
  if p = schedPage then modulePage
  else if engineF p ≠ 0 then (if tileF p = 15 then p / 256 * 256 else p / 16 * 16)
  else if tileF p ≠ 0 then p / 256 * 256
  else if clusterF p ≠ 0 then p / 2048 * 2048
  else modulePage

/-- Pages one level down, in index order (R5, R756, R786). -/
def children (p : Nat) : List Nat :=
  if p = modulePage then (List.range 6).map (fun i => mkPage i 0 0 0) ++ [schedPage]
  else match levelOf p with
  | 4 => (List.range (clusterCount (planeF p))).map (fun i => p + (i + 1) * 256)
  | 3 => (List.range (tileCount (planeF p) (clusterF p - 1))).map (fun i => p + (i + 1) * 16)
          ++ (List.range (sharedCount (planeF p))).map (fun i => p + 15 * 16 + i + 1)
  | 2 => (List.range (engineCount (planeF p) (clusterF p - 1) (tileF p - 1))).map (fun i => p + i + 1)
  | _ => []

/-- The units without children at or below a page. -/
def leavesBelow : Nat → Nat → List Nat
  | 0, p => [p]
  | n + 1, p => if levelOf p = 1 then [p] else (children p).flatMap (leavesBelow n)

/-- The units without children at or below a page. -/
def leaves (p : Nat) : List Nat := leavesBelow 4 p

/-- Every page at or below a page, the page itself first (R12). -/
def pagesBelow : Nat → Nat → List Nat
  | 0, p => [p]
  | n + 1, p => p :: (children p).flatMap (pagesBelow n)

/-- Every page at or below a page. -/
def descendants (p : Nat) : List Nat := pagesBelow 4 p

/-- The page of an engine of a kind of R53, by its index (R15, R754). -/
def enginePage (kind idx : Nat) : Nat :=
  match kind with
  | 0 => mkPage 1 (idx / 16 + 1) (idx / 4 % 4 + 1) (idx % 4 + 1)
  | 1 => mkPage 2 (idx / 64 + 1) (idx / 8 % 8 + 1) (idx % 8 + 1)
  | 2 => mkPage 1 (idx / 4 + 1) (idx % 4 + 1) 5
  | 3 => mkPage 3 2 (idx / 4 + 5) (idx % 4 + 1)
  | 4 => mkPage 3 1 (idx + 1) 1
  | _ => mkPage 4 1 (idx / 4 + 1) (idx % 4 + 1)

/-- The key bay of a Signing cluster, 0 to 3, or of a Cipher cluster, 4 to 7 (R15, R754). -/
def bayPage (bay : Nat) : Nat := if bay < 4 then mkPage 1 (bay + 1) 15 2 else mkPage 2 (bay - 3) 15 2

/-- The mover of a Cipher cluster (R754). -/
def cipherMover (cluster : Nat) : Nat := mkPage 2 (cluster + 1) 15 1

/-- How many engines a kind has (R53). -/
def kindCount : Nat → Nat
  | 0 => 64 | 1 => 256 | 2 => 16 | 3 => 16 | 4 => 8 | 5 => 16 | _ => 0

/-- The plane whose profile applies to a kind (R53). -/
def kindPlane : Nat → Nat
  | 0 => 1 | 1 => 2 | 2 => 1 | 3 => 3 | 4 => 3 | _ => 4

/-- The engine of R53 that a page is: kind and index. -/
def engineOf (p : Nat) : Option (Nat × Nat) :=
  let c := clusterF p - 1
  let t := tileF p - 1
  let e := engineF p - 1
  if levelOf p ≠ 1 ∨ tileF p = 15 ∨ p = schedPage then none
  else match planeF p with
  | 1 => if e = 4 then some (2, c * 4 + t) else some (0, c * 16 + t * 4 + e)
  | 2 => some (1, c * 64 + t * 8 + e)
  | 3 => if c = 0 then some (4, t) else if t < 4 then none else some (3, (t - 4) * 4 + e)
  | 4 => if c = 0 then some (5, t * 4 + e) else none
  | _ => none

/-- UNIT_ID.kind (R757). -/
def kindCode (p : Nat) : Nat :=
  if p = modulePage then 0x00 else if p = schedPage then 0x04
  else match levelOf p with
  | 4 => 0x01
  | 3 => 0x02
  | 2 => 0x03
  | _ =>
    match engineOf p with
    | some (k, _) => 0x10 + k
    | none =>
      if tileF p = 15 then (if engineF p = 1 then 0x18 else 0x19)
      else if planeF p = 3 then 0x17
      else if planeF p = 4 ∧ tileF p = 1 then 0x16
      else if planeF p = 5 ∧ engineF p = 2 then 0x1B
      else 0x1A

/-- The units that refuse every UNIT_CTL write (R759). -/
def fixedUnit (p : Nat) : Bool :=
  decide (p = schedPage ∨ p / 16 = mkPage 0 1 1 0 / 16 ∨ p / 16 = mkPage 4 2 1 0 / 16 ∨ p / 16 = mkPage 4 2 3 0 / 16
    ∨ p / 16 = mkPage 4 2 5 0 / 16 ∨ p / 16 = mkPage 4 2 6 0 / 16)

/-- The power domain of a unit without children: 0 to 63, or 0xFE for the root domain (R739, R756). -/
def domainOf (p : Nat) : Nat :=
  let c := clusterF p - 1
  let t := tileF p - 1
  if tileF p = 15 then
    match planeF p with
    | 1 => 49 + c
    | 2 => 53 + c
    | 3 => if c = 0 then 58 else 57
    | 4 => if c = 0 then 61 else 0xFE
    | 5 => 63
    | _ => 0xFE
  else match planeF p with
  | 0 => if c = 0 ∧ t = 1 then 48 else 0xFE
  | 1 => 4 * c + t
  | 2 => 16 + 8 * c + t
  | 3 => if c = 0 then (if t < 4 then 58 else 59) else if t < 4 then 0xFE else 57
  | 4 => if c = 0 then (if t < 2 then 60 else 61) else 0xFE
  | 5 => if t < 2 then 62 else if t < 5 then 63 else 0xFE
  | _ => 0xFE

/-- The units of a switched domain (R739). -/
def domainUnits (d : Nat) : List Nat := (leaves modulePage).filter (fun p => decide (domainOf p = d))

/-! ### Pages that raise events -/

def phyPage : Nat := mkPage 0 1 1 1
def cachePage : Nat := mkPage 0 1 2 1
def parserPage : Nat := mkPage 0 2 1 1
def chanPage : Nat := mkPage 0 2 5 1
def audRingPage : Nat := mkPage 0 2 6 1
def bootPage : Nat := mkPage 4 2 1 1
def rngPage : Nat := mkPage 4 2 2 1
def flashPage : Nat := mkPage 4 2 3 1
def keyPage : Nat := mkPage 4 2 4 1
def auditPage : Nat := mkPage 4 2 5 1
def recPage : Nat := mkPage 4 2 6 1
def contactPage : Nat := mkPage 5 1 3 1
def readerPage : Nat := mkPage 5 1 4 1
def sdcPage : Nat := mkPage 5 1 5 1
def panelPage : Nat := mkPage 5 1 6 1
def foldPage (port : Nat) : Nat := mkPage 5 1 (port + 1) 1
def corePage (n : Nat) : Nat := if n = 16 then bootPage else enginePage 5 n

/-! ### Records of pages -/

/-- The record of a page. -/
def unitAt (s : State) (p : Nat) : UnitRec := mget {} s.units p

/-- Change the record of a page. -/
def modUnit (p : Nat) (f : UnitRec → UnitRec) (s : State) : State := { s with units := mupd {} s.units p f }

/-- Ranks of R6: the worst state of a group's children. -/
def rank : UState → Nat
  | .on => 0 | .waking => 1 | .quiescing => 2 | .quiesced => 3 | .off => 4 | .isolated => 5 | .failed => 6

/-- The worse of two states (R6). -/
def worse (a b : UState) : UState := if rank a < rank b then b else a

/-- UNIT_STATE of a page: its own without children, else the worst of its children, where a child in OFF with enable 1 counts as
ON and a group with every child in OFF reports OFF (R6, R7, R8). -/
def stateBelow : Nat → State → Nat → UState
  | 0, s, p => (unitAt s p).state
  | n + 1, s, p =>
    match children p with
    | [] => (unitAt s p).state
    | cs =>
      let ss := cs.map (fun c => (c, stateBelow n s c))
      if ss.all (fun e => decide (e.2 = .off)) then .off
      else ss.foldl (fun w e => worse w (if e.2 = .off ∧ (unitAt s e.1).enable then .on else e.2)) .on

/-- UNIT_STATE.state as read (R6 to R8, R756). -/
def stateOf (s : State) (p : Nat) : UState := stateBelow 4 s p

/-- UNIT_ENERGY as read: a group's is the sum of its children's (R10). -/
def energyOf (s : State) (p : Nat) : BitVec 64 := (leaves p).foldl (fun e c => e + (unitAt s c).energy) 0

/-- The pages above a page, nearest first, the module last. -/
def ancestors (p : Nat) : List Nat :=
  let a := parent p
  let b := parent a
  let c := parent b
  if p = modulePage then [] else if a = modulePage then [a] else if b = modulePage then [a, b]
  else if c = modulePage then [a, b, c] else [a, b, c, parent c]

/-- Set a unit's state and stamp it, and stamp every group whose derived state the change alters (R756, UNIT_SWATH_STAMP). -/
def setUnitState (p : Nat) (st : UState) (cause : Cause) (s : State) : State :=
  let old := unitAt s p
  if old.state = st ∧ old.cause = cause then s
  else
    let s1 := modUnit p (fun u => { u with state := st, cause := cause, stamp := if old.state = st then u.stamp else s.sched.swath }) s
    forAll ((ancestors p).filter (fun a => decide (stateOf s a ≠ stateOf s1 a)))
      (fun a t => modUnit a (fun u => { u with stamp := s.sched.swath }) t) s1

/-- The plane page that contains a page; the module and the scheduler have none. -/
def planePage (p : Nat) : Nat := p / 2048 * 2048

/-- The effective profile of a page (R14, R73, R756): that of its plane; for the module the planes' common value, 15 when they
differ. -/
def profileOf (s : State) (p : Nat) : BitVec 4 :=
  if planeF p ≤ 5 then (unitAt s (planePage p)).profile
  else
    let first := (unitAt s (mkPage 0 0 0 0)).profile
    if (List.range 6).all (fun i => decide ((unitAt s (mkPage i 0 0 0)).profile = first)) then first else 15

/-- A unit can take new work: enabled and ON, or OFF and wakeable, or waking (R7, R760). -/
def canBind (s : State) (p : Nat) : Bool :=
  let u := unitAt s p
  u.enable && (decide (u.state = .on) || decide (u.state = .off) || decide (u.state = .waking))

/-- A unit is enabled and out of QUIESCING, QUIESCED, ISOLATED and FAILED (R50, R763). -/
def working (s : State) (p : Nat) : Bool := canBind s p

end Sys2Proof.Machine
end

