-- ==== Sys2Proof/Machine/Ops.lean ====
section
/-!
DEFINITION. Sys2Proof/Machine/Ops.lean: the operations that many meanings share: free values, what leaves the module, raising an
event (R489 to R493, R764, R765), appending an audit record (R457 to R479, R788), audited writes (R32 to R35, R789) and
MSI-X messages (R176, R177, R766, R790).
-/
namespace Sys2Proof.Machine
open Sys2Proof

/-- Note one thing that leaves the module. -/
def emit (o : Output) (s : State) : State := { s with out := o :: s.out }

/-- Draw a free value: the state's counter moves on, and the value is not constrained (DESIGN CHOICE, log entry 5). -/
def draw (s : State) : BitVec 256 × State := (Config.freeValue s.draws, { s with draws := s.draws + 1 })

/-- `n` bytes of free values, one draw for each 32 bytes. -/
def drawBytes (n : Nat) (s : State) : Bytes × State :=
  let k := ceilDiv n 32
  (((List.range k).flatMap (fun i => leBytes 32 (Config.freeValue (s.draws + i)).toNat)).take n, { s with draws := s.draws + k })

/-- SHA-384 as 48 bytes (DESIGN CHOICE, log entry 6). -/
def sha384 (bs : Bytes) : Bytes := beBytes 48 (Config.sha384 bs).toNat

/-- SHA-256 as 32 bytes (DESIGN CHOICE, log entry 6). -/
def sha256 (bs : Bytes) : Bytes := beBytes 32 (Config.sha256 bs).toNat

/-- `n` bytes of a function that the spec takes from another standard (DESIGN CHOICE, log entry 6). -/
def std (name : String) (n : Nat) (args : List Bytes) : Bytes := (List.range n).map (Config.standard name args)

/-- SCH_SWATH_COUNT as a number. -/
def now (s : State) : Nat := s.sched.swath.toNat

/-- The die secret (R251). -/
def dieSecret : Bytes := (sha384 (leBytes 32 Config.dieSeed.toNat)).take 32

/-- The order n of P-384. -/
def orderP384 : Nat := 0xffffffffffffffffffffffffffffffffffffffffffffffffc7634d81f4372ddf581a0db248b0a77aecec196accc52973

/-- The uncompressed P-384 public point of a 48-byte scalar (DESIGN CHOICE, log entry 6). -/
def pointP384 (d : Bytes) : Bytes := std "ec-public-P-384" 97 [d]

/-- The device key's private scalar and public point (R255). -/
def deviceScalar : Bytes := beBytes 48 (1 + beNat (sha384 (ascii "DEV1" ++ dieSecret)) % (orderP384 - 1))
def devicePoint : Bytes := pointP384 deviceScalar

/-- The states with an identity key (R256). -/
def hasIdentity (l : Life) : Bool := decide (l = .commission ∨ l = .operate ∨ l = .maintain)

/-- The key of a record in the configuration area: a kind and a number (R250, R256, R389, R418, R647, R687, R702, R276): 1 the identity record, 2 a pin, 3 a token domain, 4 the nonce
prefix, 5 the roster, 6 a fold member, 7 a replication cursor, 8 a tenant signer (DESIGN CHOICE, log entry 84). -/
def cfgKey (kind number : Nat) : Nat := kind * 2 ^ 24 + number

/-- The public point that names the module: the latest identity record's in the states where the identity key applies, else the device key's (R255, R256). -/
def namePoint (s : State) : Bytes :=
  match mfind (cfgKey 1 0) s.flash.cfgLive with
  | some p => if s.keys.identityNames then p else devicePoint
  | none => devicePoint

/-- The private scalar that signs where the manual has the identity key sign: the identity key in key block 2, or the device key in its place (R255, R256). -/
def nameScalar (s : State) : Bytes :=
  match mfind 2 s.keys.keys with
  | some k => if s.keys.identityNames then k.material else deviceScalar
  | none => deviceScalar

/-- The point that applies to the present life-cycle state names the module from now on (R256): at step 2 of start-up and at step 6 of a transition. -/
def takeName (s : State) : State := { s with keys := { s.keys with identityNames := hasIdentity s.keeper.record.state } }

/-- The Device Serial Number (R104, R256). -/
def serialOf (point : Bytes) : Nat := leNat ((sha384 point).take 8)
def deviceSerial (s : State) : Nat := serialOf (namePoint s)

/-! ### The event recorder -/

/-- The 24 privileged codes (R498). -/
def isPriv (code : Nat) : Bool :=
  decide ((code % 256 = 5 ∧ 1 ≤ code / 256 ∧ code / 256 ≤ 6) ∨ code = 0x0508 ∨ (0x0700 ≤ code ∧ code ≤ 0x0708)
    ∨ (0x0800 ≤ code ∧ code ≤ 0x0807))

/-- UNIT_EVT_RATE as a count: L of R490 (R756). -/
def rateLimit (r : BitVec 4) : Nat := if r = 0 then 0 else 2 ^ (r.toNat - 1)

/-- Put records at the end of the recorder's queue; a non-privileged record finds at most 4,096 − 256 entries, and a record that finds none
is dropped and counted (R493). -/
def enqueue (rs : List EvRec) (s : State) : State :=
  forAll rs (fun r s =>
    if r.priv ∨ s.recorder.queue.length < 4096 - 256 then
      { s with recorder := { s.recorder with queue := s.recorder.queue ++ [r] } }
    else { s with recorder := { s.recorder with dropped := satInc s.recorder.dropped } }) s

/-- Collect a tile's event buffer into the queue (R492). -/
def collect (tile : Nat) (flushed : Bool) (s : State) : State :=
  let rs := (mget [] s.recorder.buffers tile).map (fun r => { r with flushed := flushed })
  enqueue rs { s with recorder := { s.recorder with buffers := mset [] s.recorder.buffers tile [] } }

/-- Record an event (R489 to R493). `unit` is bytes 18 and 19 of R487; `page` is the raising unit, whose UNIT_EVT_RATE limits a
non-privileged code. A privileged occurrence folds into the open record of the same code, unit and detail (R491). -/
def recordEvent (page unit code detail : Nat) (s : State) : State :=
  let r : EvRec := { code := code, epoch := s.sched.epoch.toNat, swath := now s % 2 ^ 48, unit := unit, priv := isPriv code, detail := detail }
  if isPriv code then
    let same := fun (e : EvRec) => decide (e.code = code ∧ e.unit = unit ∧ e.detail = detail)
    if s.recorder.openPriv.any same then
      let folded := s.recorder.openPriv.map (fun e => if same e then { e with repeats := min 65535 (e.repeats + 1) } else e)
      { s with recorder := { s.recorder with openPriv := folded } }
    else { s with recorder := { s.recorder with openPriv := s.recorder.openPriv ++ [r] } }
  else
    let k := 65536 * unit + code
    let c := mget {} s.recorder.counts k
    let limit := rateLimit (unitAt s page).rate
    let c1 : RateCount := if c.n = limit then { n := c.n + 1, first := now s % 2 ^ 48, detail := detail } else { c with n := c.n + 1 }
    let s1 := { s with recorder := { s.recorder with counts := mset {} s.recorder.counts k c1 } }
    if c.n < limit then
      let tile := page / 16
      let buf := mget [] s1.recorder.buffers tile
      if buf.length < 16 then
        let s2 := { s1 with recorder := { s1.recorder with buffers := mset [] s1.recorder.buffers tile (buf ++ [r]) } }
        let fault := decide (code % 256 ≤ 2 ∧ 1 ≤ code / 256 ∧ code / 256 ≤ 6)
        if fault ∨ 8 ≤ buf.length + 1 then collect tile fault s2 else s2
      else { s1 with recorder := { s1.recorder with dropped := satInc s1.recorder.dropped } }
    else s1

/-! ### Raising an event -/

/-- The pending bit of a code: +0 to +7 of a plane's common codes, else bit 8 (R764). -/
def pendBit (code : Nat) : Nat := if code % 256 < 8 ∧ 1 ≤ code / 256 ∧ code / 256 ≤ 6 then code % 256 else 8

/-- Set a pending bit in a page and, while each page's mask is clear, in the pages above (R764, R9). -/
def climb : Nat → Nat → Nat → Nat → State → State
  | 0, _, _, _, s => s
  | n + 1, p, b, code, s =>
    let s1 := modUnit p (fun u => { u with pend := u.pend ||| BitVec.ofNat 9 (2 ^ b), last := BitVec.ofNat 16 code }) s
    if p = modulePage ∨ (unitAt s p).mask.getLsbD b then s1 else climb n (parent p) b code s1

/-- The first page whose route has a nonzero field, searching upward while the masks let the bit through (R765). -/
def routePage : Nat → State → Nat → Nat → Option Nat
  | 0, _, _, _ => none
  | n + 1, s, p, b =>
    let u := unitAt s p
    if u.routeCore ≠ 0 ∨ u.routeInt ≠ 0 ∨ u.routeVec ≠ 0 then some p
    else if u.mask.getLsbD b ∨ p = modulePage then none
    else routePage n s (parent p) b

/-- Latch the first event since UNIT_ERR_CAPT3 was read, and count it (R756). -/
def capture (p code detail : Nat) (s : State) : State :=
  modUnit p (fun u =>
    let v := if u.captCount = 0 then { u with captCode := BitVec.ofNat 16 code, captSwath := BitVec.ofNat 16 (now s), captDetail := BitVec.ofNat 48 detail } else u
    { v with captCount := satInc u.captCount }) s

/-- Raise an event whose record names `unit` in the page `p`: pending bits, capture, route and record (R489, R764 to R766). -/
def raiseAs (p unit code detail : Nat) (s : State) : State :=
  let b := pendBit code
  let rose := !(unitAt s p).pend.getLsbD b
  let s1 := capture p code detail (climb 6 p b code s)
  let s2 := match routePage 6 s1 p b with
    | some q =>
      let v := (unitAt s1 q).routeVec.toNat
      if rose ∧ v ≠ 0 ∧ ¬ v ∈ s1.msix.due then { s1 with msix := { s1.msix with due := s1.msix.due ++ [v] } } else s1
    | none => s1
  recordEvent p unit code (detail % 2 ^ 48) s2

/-- Records dropped since `before` raise EVT_CTL_REC_DROPPED with their count (R492, R493, R497). -/
def noteDropped (before : BitVec 16) (s : State) : State :=
  if s.recorder.dropped = before then s else raiseAs recPage recPage 0x0520 (s.recorder.dropped - before).toNat s

/-- Raise an event of a unit, and that of a record dropped on the way. -/
def raise (p code detail : Nat) (s : State) : State := noteDropped s.recorder.dropped (raiseAs p p code detail s)

/-- Raise an event of a channel (R487, bytes 18 and 19). -/
def raiseChan (ch code detail : Nat) (s : State) : State := noteDropped s.recorder.dropped (raiseAs chanPage (0x8000 + ch) code detail s)

/-- The plane's common code at an offset, for a page; the scheduler's and the module's fall to the Host plane (R91, R497). -/
def commonCode (p off : Nat) : Nat := 0x100 * ((if planeF p ≤ 5 then planeF p else 0) + 1) + off

/-! ### The audit chain -/

/-- The master byte of a CONFIG record (R462). -/
def masterCode : Master → Nat
  | .host => 0x00
  | .smbus => 0x01
  | .core n => 0x10 + n
  | .boot => 0x20
  | .tenant n _ => 0x30 + n

/-- Bytes 22 and 23 of a CONFIG record (R459, R462). -/
def masterOpcode : Master → Nat
  | .tenant _ op => op
  | _ => 0

/-- The life-cycle encoding (R718). -/
def lifeCode : Life → Nat
  | .factory => 1 | .transit => 2 | .commission => 3 | .operate => 4 | .maintain => 5 | .decommissioned => 6 | .tampered => 7

/-- The 48 bytes of a record (R457 to R460). -/
def encodeRec (r : AuditRec) : Bytes :=
  let head := fun (kind chan : Nat) => leBytes 8 r.seq ++ leBytes 6 r.swath ++ leBytes 1 kind ++ leBytes 1 chan
  match r.body with
  | .job chan opcode result info keyA inDig outDig =>
    head 1 chan ++ leBytes 2 opcode ++ leBytes 2 result ++ leBytes 1 info ++ zeros 3 ++ leBytes 8 keyA ++ fit 8 inDig ++ fit 8 outDig
  | .config addr master width opcode old new =>
    head 2 0xFF ++ leBytes 4 addr ++ leBytes 1 master ++ leBytes 1 width ++ leBytes 2 opcode ++ leBytes 8 old ++ leBytes 8 new ++ zeros 8
  | .ceremony code result life subject custodian detail =>
    head 3 0xFF ++ leBytes 2 code ++ leBytes 2 result ++ leBytes 1 life ++ zeros 3 ++ leBytes 8 subject ++ fit 8 custodian ++ leBytes 8 detail
  | .gap lost first last => head 4 0xFF ++ zeros 8 ++ leBytes 8 lost ++ leBytes 8 first ++ leBytes 8 last
  | .checkpoint number count chain => head 5 0xFF ++ zeros 8 ++ leBytes 8 number ++ leBytes 8 count ++ fit 8 chain
  | .start epoch chainBreak image => head 6 0xFF ++ leBytes 4 epoch ++ leBytes 1 (b2n chainBreak) ++ zeros 3 ++ leBytes 8 (r.seq - 1) ++ fit 8 image ++ zeros 8

/-- U: undelivered records in the reserve and in the staging buffer (R474). -/
def undeliveredCount (s : State) : Nat := s.audit.fresh.length + s.audit.undelivered.length

/-- Refusals waiting in all channel tiles: W (R474). -/
def waitingRefusals (s : State) : Nat := (s.chans.map (fun e => e.2.refusals.length)).sum

/-- The reserve counts as full: U + S + W + 64 ≥ C, or under R441 (R474). -/
def reserveFull (s : State) : Bool :=
  decide (Config.reserveCapacity ≤ undeliveredCount s + s.jobs.length + waitingRefusals s + 64) || s.audit.mediaFull

/-- Under GAP, a record that arrives now is lost (R478). -/
def gapLoses (s : State) : Bool :=
  s.audit.gapPolicy && (decide (Config.reserveCapacity ≤ undeliveredCount s + 64) || s.audit.mediaFull)

/-- Only the 64 records of R35 are left for a record that arrives now (R476). -/
def onlyReserve (s : State) : Bool := s.audit.stalled || gapLoses s

/-- Append a record: it takes the next seq and the chain steps over its 48 bytes (R457, R464). -/
def appendRec (b : AuditBody) (s : State) : State :=
  let r : AuditRec := { seq := s.audit.next, swath := now s % 2 ^ 48, body := b }
  { s with audit := { s.audit with next := s.audit.next + 1, chain := sha384 (s.audit.chain ++ encodeRec r), fresh := s.audit.fresh ++ [r] } }

/-- Count a record lost under GAP: it takes no seq, AUD_LOST counts it and the gap opens (R478). -/
def loseRec (s : State) : State :=
  let a := s.audit
  let s1 := { s with audit := { a with lost := satInc a.lost, gapLost := a.gapLost + 1, gapFirst := if a.gapLost = 0 then now s else a.gapFirst, gapLast := now s, gapOpen := true } }
  if a.gapOpen then s1 else raise auditPage 0x051C (undeliveredCount s) s1

/-- Append an ordinary record, or lose it under GAP; the answer's number is its seq, 0 where it is lost (R463, R478). -/
def appendOrLose (b : AuditBody) (s : State) : Nat × State :=
  if gapLoses s then (0, loseRec s) else (s.audit.next, appendRec b s)

/-- Append a START or TAMPER_RESPONSE record, from the 64 records of R35 where only they are left; used up, the record is lost as R788
gives. -/
def appendReserved (b : AuditBody) (s : State) : State :=
  if onlyReserve s then
    if s.audit.reserve64 = 0 then
      let a := s.audit
      raise auditPage 0x051C (undeliveredCount s)
        { s with audit := { a with lost := satInc a.lost, gapOpen := true, lost788 := a.lost788 + 1, lost788First := if a.lost788 = 0 then now s else a.lost788First, lost788Last := now s } }
    else appendRec b { s with audit := { s.audit with reserve64 := s.audit.reserve64 - 1 } }
  else appendRec b s

/-- Append a CEREMONY record other than a tamper response (R463, R723). -/
def ceremony (code result subject : Nat) (custodian : Bytes) (detail : Nat) (s : State) : State :=
  (appendOrLose (.ceremony code result (lifeCode s.keeper.record.state) subject custodian detail) s).2

/-! ### Cores -/

/-- A core's record. -/
def coreAt (s : State) (n : Nat) : Core := mget {} s.cores n
def modCore (n : Nat) (f : Core → Core) (s : State) : State := { s with cores := mupd {} s.cores n f }

/-! ### Audited writes -/

/-- A register of BAR0 or BAR2: the address of R462 (bit 31 set for BAR2). -/
abbrev RegAddr := Nat

/-- The register lies in the audit tile's page (R35, R476). -/
def inAuditPage (addr : RegAddr) : Bool := decide (addr / 0x1000 = mkPage 4 2 5 0)

/-- An audited write has no effect now: the chain is stalled and the page is not the audit tile's (R34), or the 64 records of R35 are used
up and it is (R476). -/
def writeDiscarded (addr : RegAddr) (s : State) : Bool :=
  if inAuditPage addr then onlyReserve s && decide (s.audit.reserve64 = 0) else s.audit.stalled

/-- Append the CONFIG record of a write; a write to the audit tile's page uses the 64 records of R35 where only they are left (R32, R35,
R462, R476, R478). -/
def appendConfig (addr : RegAddr) (m : Master) (width old new : Nat) (s : State) : State :=
  let b := AuditBody.config addr (masterCode m) width (masterOpcode m) old new
  if inAuditPage addr then
    if onlyReserve s then appendRec b { s with audit := { s.audit with reserve64 := s.audit.reserve64 - 1 } } else appendRec b s
  else (appendOrLose b s).2

/-- A write to a register none of whose fields is W1S. -/
def noSets (_ : State) : Nat := 0

/-- An audited write (R3, R32 to R35, R789): discarded with an event where it can have no effect, else applied, with a CONFIG record of the
register's old value and its value after the write. `reg` reads the whole register, in which W1S fields read as 0; `taken` holds the bits
written to W1S fields, as R462 records them, or 0 where that write is ignored or refused (R789). During a reset of the function the host's
writes are discarded without an event (R133). -/
def audited (addr : RegAddr) (m : Master) (width : Nat) (reg : State → Nat) (taken : State → Nat) (apply : State → State) (s : State) : State :=
  if m = .host ∧ s.link.inReset ≠ .none then s
  else if writeDiscarded addr s then raise auditPage 0x0527 (addr % 2 ^ 31) s
  else
    let s1 := apply s
    appendConfig addr m width (reg s) (reg s1 + taken s) s1

/-- A write that the host alone makes: during a reset of the function it is discarded (R133). -/
def hostWrite (apply : State → State) (s : State) : State := if s.link.inReset = .none then apply s else s

/-! ### MSI-X messages -/

/-- The IDE streams that HST_IDE_CTL requires are secure (R120). -/
def ideOk (s : State) : Bool :=
  (!s.link.requireIo || decide (s.link.ioState = 1)) && (!s.link.requireCache || decide (s.link.cacheState = 1))

/-- The module may make memory and CXL.cache requests: the link is up, Bus Master Enable is 1 and the function is in D0 (R108, R129). -/
def mayRequest (s : State) : Bool := decide (s.link.mode ≠ 0) && s.link.bme && !s.link.d3hot

/-- The module may read rings, admit jobs and post windrows: it may make requests, and the required IDE streams are secure (R70, R108, R120,
R129). -/
def linkOpen (s : State) : Bool := mayRequest s && ideOk s

/-- The vector is masked: MSI-X is not enabled, Function Mask is set, or bit 0 of its vector-control word is, which is set at reset as the PCIe base
specification gives it (R106, R177; PRESUMED, log entry 9). -/
def vectorMasked (v : Nat) (s : State) : Bool := !s.msix.enable || s.msix.functionMask || (mget 1 s.msix.table (4 * v + 3)).getLsbD 0

/-- Send a message, with which one held on its vector leaves too, or hold it pending while posting is closed or the vector is masked; at most one
is held per vector (R176, R177, R790). -/
def sendMsg (v : Nat) (s : State) : State :=
  if linkOpen s ∧ ¬ vectorMasked v s then emit (.msix v) { s with msix := { s.msix with held := s.msix.held.filter (fun x => decide (x ≠ v)) } }
  else if v ∈ s.msix.held then s
  else
    let s1 := { s with msix := { s.msix with held := s.msix.held ++ [v] } }
    if linkOpen s then raise phyPage 0x0127 v s1 else s1

/-- Send every held message whose vector is not masked, once posting is open (R790). -/
def sendHeld (s : State) : State :=
  if linkOpen s then
    forAll (s.msix.held.filter (fun v => !vectorMasked v s)) (fun v t => emit (.msix v) t)
      { s with msix := { s.msix with held := s.msix.held.filter (fun v => vectorMasked v s) } }
  else s

/-- Answer with the state. -/
abbrev Res := Host.Outcome State Fault Refusal

end Sys2Proof.Machine
end

