-- ==== Sys2Proof/Machine/Crypto.lean ====
section
/-!
DEFINITION. Sys2Proof/Machine/Crypto.lean: the modes that the spec builds on the block ciphers and hashes of other standards: CBC, CTR,
CMAC (NIST SP 800-38B), HMAC, the zone-root derivation (R259), and the named functions taken whole (DESIGN CHOICE, log entry 6).
-/
namespace Sys2Proof.Machine
open Sys2Proof

/-- Algorithm code families (R242). -/
def isAes (a : Nat) : Bool := decide (1 ≤ a ∧ a ≤ 3)
def isTdes (a : Nat) : Bool := decide (a = 0x11 ∨ a = 0x12)

/-- One AES block (R377). -/
def aesE (k b : Bytes) : Bytes := beBytes 16 (Config.aesEncrypt k (BitVec.ofNat 128 (beNat b))).toNat
def aesD (k b : Bytes) : Bytes := beBytes 16 (Config.aesDecrypt k (BitVec.ofNat 128 (beNat b))).toNat

/-- One TDES block. -/
def tdesE (k b : Bytes) : Bytes := beBytes 8 (Config.tdesEncrypt k (BitVec.ofNat 64 (beNat b))).toNat
def tdesD (k b : Bytes) : Bytes := beBytes 8 (Config.tdesDecrypt k (BitVec.ofNat 64 (beNat b))).toNat

/-- Block size of a cipher algorithm. -/
def blockSize (alg : Nat) : Nat := if isTdes alg then 8 else 16

/-- One block under an AES or TDES algorithm code. -/
def blockE (alg : Nat) (k b : Bytes) : Bytes := if isTdes alg then tdesE k b else aesE k b
def blockD (alg : Nat) (k b : Bytes) : Bytes := if isTdes alg then tdesD k b else aesD k b

/-- Cut a string into pieces of `n` bytes, the last possibly shorter. -/
def chunks (n : Nat) (bs : Bytes) : List Bytes := (List.range (ceilDiv bs.length n)).map (fun i => (bs.drop (i * n)).take n)

/-- CBC encryption of whole blocks from an initial value. -/
def cbcE (alg : Nat) (k iv data : Bytes) : Bytes :=
  ((chunks (blockSize alg) data).foldl (fun (acc : Bytes × Bytes) b =>
    let c := blockE alg k (xorBytes acc.1 b)
    (c, acc.2 ++ c)) (iv, [])).2

/-- CBC decryption of whole blocks. -/
def cbcD (alg : Nat) (k iv data : Bytes) : Bytes :=
  ((chunks (blockSize alg) data).foldl (fun (acc : Bytes × Bytes) c => (c, acc.2 ++ xorBytes acc.1 (blockD alg k c))) (iv, [])).2

/-- CTR with a counter whose low 32 bits increment modulo 2^32 (R400). -/
def ctrX (k counter data : Bytes) : Bytes :=
  let base := counter.take 12
  let c0 := beNat (slice 12 4 counter)
  ((chunks 16 data).zipIdx).flatMap (fun e => xorBytes e.1 (aesE k (base ++ beBytes 4 ((c0 + e.2) % 2 ^ 32))))

/-- Doubling in GF(2^128) as SP 800-38B uses it. -/
def dbl128 (x : BitVec 128) : BitVec 128 := (x <<< 1) ^^^ (if x.getLsbD 127 then 0x87 else 0)

/-- AES-CMAC (NIST SP 800-38B), 16 bytes. -/
def cmac (k m : Bytes) : Bytes :=
  let l := BitVec.ofNat 128 (beNat (aesE k (zeros 16)))
  let k1 := dbl128 l
  let k2 := dbl128 k1
  let n := if m = [] then 1 else ceilDiv m.length 16
  let last := m.drop ((n - 1) * 16)
  let tail := if last.length = 16 then xorBytes last (beBytes 16 k1.toNat)
    else xorBytes (fit 16 (last ++ [0x80])) (beBytes 16 k2.toNat)
  aesE k (xorBytes ((chunks 16 (m.take ((n - 1) * 16))).foldl (fun c b => aesE k (xorBytes c b)) (zeros 16)) tail)

/-- HMAC-SHA-256 (FIPS 198-1). -/
def hmac256 (k m : Bytes) : Bytes :=
  let k0 := fit 64 (if 64 < k.length then sha256 k else k)
  let pad := fun (v : Byte) => k0.map (fun b => b ^^^ v)
  sha256 (pad 0x5C ++ sha256 (pad 0x36 ++ m))

/-- Odd parity in the least significant bit of each byte (R259). -/
def oddParity (bs : Bytes) : Bytes :=
  bs.map (fun b =>
    let ones := ((List.range 7).filter (fun i => b.getLsbD (i + 1))).length
    (b &&& 0xFE) ||| (if ones % 2 = 0 then 1 else 0))

/-- Output length in bits and algorithm code of a label's scheme (R257, R259). -/
def schemeBits (scheme : Nat) : Nat :=
  match scheme with
  | 1 => 128 | 2 => 192 | 3 => 256 | 4 => 128 | 5 => 192 | _ => 256

def schemeAlg (scheme : Nat) : Nat :=
  match scheme with
  | 1 => 0x0001 | 2 => 0x0002 | 3 => 0x0003 | 4 => 0x0011 | 5 => 0x0012 | _ => 0x0021

/-- The derivation of R259 from a 32-byte root and a label. -/
def derive (root label : Bytes) : Bytes :=
  let scheme := byteAt 1 label
  let l := schemeBits scheme
  let k := (List.range (ceilDiv l 128)).flatMap (fun i => cmac root (leBytes 1 (i + 1) ++ ascii "ZKD1" ++ [0] ++ fit 32 label ++ beBytes 2 l))
  let out := k.take (l / 8)
  if scheme = 4 ∨ scheme = 5 then oddParity out else out

/-- A label with only purpose, scheme and version set (R253, R417). -/
def plainLabel (purpose scheme version : Nat) : Bytes := fit 32 (leBytes 1 purpose ++ leBytes 1 scheme ++ zeros 2 ++ leBytes 1 version)

end Sys2Proof.Machine
end

