-- ==== Sys2Proof/Machine/RowCode.lean ====
section
/-!
DEFINITION. Sys2Proof/Machine/RowCode.lean: the row code (R17 to R25): the check bytes of a 256-bit row under its address and space mask, the decoder
that corrects one byte and reports the rest, and the address of every row (R21). What a stored row has taken since it was written is State.rowFaults; Rows.lean
reads rows through the decoder.
-/
namespace Sys2Proof.Machine
open Sys2Proof

/-- Multiplication by α = 0x02 in GF(2^8) with the field polynomial 0x11D (R18). -/
def gfTwice (a : Byte) : Byte := if a.getLsbD 7 then (a <<< 1) ^^^ 0x1D else a <<< 1

/-- Multiplication in GF(2^8) (R18), bit by bit of the first factor from its top. -/
def gfTimes (a b : Byte) : Byte :=
  (List.range 8).foldr (fun i r => gfTwice r ^^^ (if a.getLsbD i then b else 0)) 0

/-- α to the power n (R18). -/
def gfAlpha : Nat → Byte
  | 0 => 1
  | n + 1 => gfTwice (gfAlpha n)

/-- Multiply a polynomial, lowest coefficient first, by (x + a). -/
def polyFactor (a : Byte) (p : List Byte) : List Byte := List.zipWith (· ^^^ ·) (0 :: p) (p.map (gfTimes a) ++ [0])

/-- The generator polynomial g(x) (R18), lowest coefficient first. -/
def rowGenerator : List Byte := [0, 1, 2, 3].foldl (fun p i => polyFactor (gfAlpha i) p) [1]

/-- One step of the division by g(x): the remainder takes in the next message byte (R18). -/
def rowStep (c : List Byte) (m : Byte) : List Byte :=
  let f := c.getD 3 0 ^^^ m
  List.zipWith (fun x g => x ^^^ gfTimes f g) (0 :: c.take 3) (rowGenerator.take 4)

/-- The spaces of the row code (R21). -/
inductive RowSpace where
  | dram | controlSram | program | data | pkBank | cipherBank | keyBay | scratchpad | codeFlash | nand
  deriving DecidableEq, Repr

/-- The space tag (R21). -/
def RowSpace.tag : RowSpace → Nat
  | .dram => 1 | .controlSram => 2 | .program => 3 | .data => 4 | .pkBank => 5 | .cipherBank => 6 | .keyBay => 7 | .scratchpad => 8 | .codeFlash => 9
  | .nand => 10

/-- A row address: space tag [39:35] and row number [34:0] (R18). -/
def rowAddress (space : RowSpace) (row : Nat) : BitVec 40 := BitVec.ofNat 40 (space.tag * 2 ^ 35 + row % 2 ^ 35)

/-- A place that holds a row, with what gives its row number (R21). -/
inductive RowPlace where
  /-- A byte address within DRAM. -/
  | dram (byte : Nat)
  /-- A byte offset in control SRAM. -/
  | controlSram (offset : Nat)
  | program (core row : Nat)
  | data (core row : Nat)
  | pkBank (engine bank row : Nat)
  | cipherBank (engine row : Nat)
  /-- Clusters: Signing 0 to 3, Cipher 4 to 7. -/
  | keyBay (cluster row : Nat)
  | scratchpad (tile row : Nat)
  /-- A byte address of code flash. -/
  | codeFlash (byte : Nat)
  | nand (die page row : Nat)
  deriving DecidableEq, Repr

/-- The space of a row (R21). -/
def RowPlace.space : RowPlace → RowSpace
  | .dram _ => .dram | .controlSram _ => .controlSram | .program _ _ => .program | .data _ _ => .data | .pkBank _ _ _ => .pkBank | .cipherBank _ _ => .cipherBank
  | .keyBay _ _ => .keyBay | .scratchpad _ _ => .scratchpad | .codeFlash _ => .codeFlash | .nand _ _ _ => .nand

/-- The row number in its space (R21). -/
def RowPlace.number : RowPlace → Nat
  | .dram b => b / 32
  | .controlSram o => o / 32
  | .program c r => c * 8192 + r
  | .data c r => c * 8192 + r
  | .pkBank e b r => e * 1024 + b * 512 + r
  | .cipherBank e r => e * 64 + r
  | .keyBay c r => c * 2 ^ 20 + r
  | .scratchpad t r => t * 2 ^ 16 + r
  | .codeFlash b => b / 32
  | .nand d p r => (d * 2 ^ 20 + p) * 512 + r

/-- The row address of a place (R18, R21). -/
def RowPlace.address (p : RowPlace) : BitVec 40 := rowAddress p.space p.number

/-- Space tag and row number as a row event shows them (R497). -/
def RowPlace.detail (p : RowPlace) : Nat := p.space.tag + 256 * p.number

/-- A row is written anew: what it had taken is gone (R17). -/
def clearRow (p : RowPlace) (s : State) : State := { s with rowFaults := merase p.address.toNat s.rowFaults }

/-- The rows from a place up, `n` of them, are written anew. -/
def clearRows (p : RowPlace) (n : Nat) (s : State) : State :=
  { s with rowFaults := s.rowFaults.filter (fun e => decide (e.1 < p.address.toNat ∨ p.address.toNat + n ≤ e.1)) }

/-- The rows of the memories that lose what they hold are gone; those of code flash and NAND stay as they are (R16, R21). -/
def keptFaults (s : State) : AMap Bytes := s.rowFaults.filter (fun e => decide (RowSpace.codeFlash.tag ≤ e.1 / 2 ^ 35))

/-- The message of a row: its data bytes, then the bytes of its address (R18). -/
def rowMessage (data : Bytes) (addr : BitVec 40) : List Byte := fit 32 data ++ leBytes 5 addr.toNat

/-- The check polynomial's coefficients C0 to C3: the remainder of the message, highest byte first, by g(x) (R18). -/
def rowRemainder (message : List Byte) : List Byte := message.reverse.foldl rowStep [0, 0, 0, 0]

/-- The space mask under a mask key of a generation (R19). -/
def spaceMask (key : Bytes) (space : RowSpace) (generation : Byte) : Bytes :=
  (aesE key (BitVec.ofNat 8 space.tag :: generation :: zeros 14)).take 4

/-- A stored row: 32 data bytes and the 4 masked check bytes (R18). -/
def storeRow (data : Bytes) (addr : BitVec 40) (mask : Bytes) : Bytes :=
  fit 32 data ++ List.zipWith (· ^^^ ·) (rowRemainder (rowMessage data addr)) (fit 4 mask)

/-- What the decoder finds in a row (R23, R24). -/
inductive RowRead where
  /-- The row as stored. -/
  | good (data : Bytes)
  /-- One erroneous byte, corrected. -/
  | corrected (data : Bytes)
  /-- A single-byte error at an address position. -/
  | wrongAddress
  /-- Errors that are not corrected. -/
  | uncorrectable
  deriving DecidableEq, Repr

/-- The value of a polynomial, lowest coefficient first, at a point. -/
def polyAt (x : Byte) (p : List Byte) : Byte := p.foldr (fun c r => c ^^^ gfTimes x r) 0

/-- The decoder's four syndromes of a codeword: check bytes, data and address, lowest power first (R18, R23). -/
def rowSyndromes (word : List Byte) : List Byte := [0, 1, 2, 3].map (fun j => polyAt (gfAlpha j) word)

/-- The power of x at which a single-byte error explains the syndromes, where there is one among the 41 positions (R23). -/
def errorPlace (s : List Byte) : Option Nat :=
  (List.range 41).find? (fun k => [0, 1, 2].all (fun j => decide (gfTimes (gfAlpha k) (s.getD j 0) = s.getD (j + 1) 0)))

/-- Read a row stored at an address (R23, R24): powers 0 to 3 are check bytes, 4 to 35 data, 36 to 40 address. -/
def readRow (stored : Bytes) (addr : BitVec 40) (mask : Bytes) : RowRead :=
  let data := fit 32 stored
  let check := List.zipWith (· ^^^ ·) (fit 4 (stored.drop 32)) (fit 4 mask)
  let s := rowSyndromes (check ++ rowMessage data addr)
  let e := s.getD 0 0
  if s = [0, 0, 0, 0] then .good data
  else if e = 0 then .uncorrectable
  else match errorPlace s with
    | none => .uncorrectable
    | some k => if k < 4 then .corrected data else if k < 36 then .corrected (data.set (k - 4) (data.getD (k - 4) 0 ^^^ e)) else .wrongAddress

/-- The data that a read delivers; none for a row that is never delivered (R27). -/
def RowRead.delivers : RowRead → Option Bytes
  | .good d => some d
  | .corrected d => some d
  | _ => none

/-- The decoder corrected the row. -/
def RowRead.mended : RowRead → Bool
  | .corrected _ => true
  | _ => false

/-- The mask key of code flash: from the fused seed and the physical unclonable function alone (R20; DESIGN CHOICE, log entry 6). -/
def flashMaskKey : Bytes := std "code flash mask key" 32 [leBytes 32 Config.dieSeed.toNat]

end Sys2Proof.Machine
end

