-- ==== Sys2Proof/Machine/FlashWords.lean ====
section
/-!
DEFINITION. Sys2Proof/Machine/FlashWords.lean: code flash as words (R603 to R606), its appended areas (R613 to R617, R621), and the images in its slots
(R333, R334, R618).
-/
namespace Sys2Proof.Machine
open Sys2Proof

def modFlash (f : Flash → Flash) (s : State) : State := { s with flash := f s.flash }
def sectorAt (s : State) (n : Nat) : FlsSector := mget {} s.flash.sectors n
def modSector (n : Nat) (f : FlsSector → FlsSector) (s : State) : State := modFlash (fun x => { x with sectors := mupd {} x.sectors n f }) s
def partAt (s : State) (p : Nat) : FlsPart := mget {} s.flash.parts p
def modPart (p : Nat) (f : FlsPart → FlsPart) (s : State) : State := modFlash (fun x => { x with parts := mupd {} x.parts p f }) s

/-! ### Words -/

/-- The sector that serves commands to a sector: its spare where it was remapped (R622). -/
def servedBy (s : State) (n : Nat) : Nat := (sectorAt s n).spare.getD n

/-- Index of the word that serves a byte address. -/
def wordIndex (s : State) (addr : Nat) : Nat := servedBy s (addr / 0x10000) * 2048 + addr % 0x10000 / 32

/-- The word at an index: nothing where it is erased (R606). -/
def wordAt (s : State) (i : Nat) : Option (Option Bytes) := mfind i s.flash.words
def putWord (i : Nat) (v : Option Bytes) (s : State) : State := modFlash (fun x => { x with words := mput i v x.words }) (clearRow (.codeFlash (32 * i)) s)

/-- What the decoder makes of the word stored at an index (R23 to R25, R603, R606). -/
def flashRead (s : State) (i : Nat) (w : Bytes) : RowRead :=
  let a := (RowPlace.codeFlash (32 * i)).address
  match mfind a.toNat s.rowFaults with
  | none => .good (fit 32 w)
  | some e => let m := spaceMask flashMaskKey .codeFlash 0; readRow (xorBytes (storeRow w a m) (fit 36 e)) a m

/-- A read of the word at an index, a correction of it counted in its sector and raised (R606). -/
def countCorrected (addr : Nat) (s : State) : State :=
  raise flashPage 0x0503 (9 + 256 * wordIndex s addr)
    (modSector (addr / 0x10000) (fun e => { e with corrected := satInc e.corrected }) (modFlash (fun x => { x with corrected := satInc x.corrected }) s))

/-- Erase every word of a sector. -/
def clearSector (n : Nat) (s : State) : State :=
  modFlash (fun x => { x with words := x.words.filter (fun e => decide (e.1 / 2048 ≠ n)) }) (clearRows (.codeFlash (0x10000 * n)) 2048 s)

/-- Every word of a sector reads erased (R624). -/
def sectorErased (s : State) (n : Nat) : Bool := s.flash.words.all (fun e => decide (e.1 / 2048 ≠ servedBy s n)) && !(sectorAt s n).interrupted

/-- Index of the word at a position of an area that begins at a sector. -/
def areaIndex (s : State) (first at_ : Nat) : Nat := wordIndex s (0x10000 * first + 32 * at_)

/-- Spare sectors not yet used (R631). -/
def freeSpares (s : State) : List Nat := ((List.range 96).map (fun i => 288 + i)).filter (fun k => s.flash.sectors.all (fun e => decide (e.2.spare ≠ some k)))

/-! ### Appended areas -/

/-- A word of an appended area: 64-bit seq, a body, the mark in byte 31 (R613). -/
def appended (seq : Nat) (body : Bytes) (mark : Byte) : Bytes := leBytes 8 seq ++ fit 23 body ++ [mark]

/-- A ledger word at the next position (R621). -/
def ledgerWord (body : Bytes) (sector : Nat) (s : State) : State :=
  let x := s.flash
  let s1 := putWord (areaIndex s 132 x.ledNext) (some (appended x.ledSeq body 0xC3)) s
  modSector sector (fun e => { e with ledgerAt := x.ledNext }) (modFlash (fun x => { x with ledSeq := x.ledSeq + 1, ledNext := (x.ledNext + 1) % 57344 }) s1)

/-- Bytes 8 to 27 of a ledger word (R621). -/
def ledgerBody (kind result sector erases pulses this spare epoch : Nat) : Bytes :=
  leBytes 1 kind ++ leBytes 1 result ++ leBytes 2 sector ++ leBytes 4 erases ++ leBytes 4 pulses ++ leBytes 2 this ++ leBytes 2 spare ++ leBytes 4 epoch

/-- An erase that the tile makes of a sector of its own areas, with its ledger words; one that is erased already needs none. How many pulses it takes is a free value, and
it verifies (R611, R614, R617, R621; DESIGN CHOICE, log entry 88). `log` writes a ledger word. -/
def ownErase (log : Bytes → Nat → State → State) (sec : Nat) (s : State) : State :=
  if sectorErased s sec then s
  else
    let epoch := s.sched.epoch.toNat
    let d := draw s
    let n := d.1.toNat % 80 + 1
    let e := sectorAt s sec
    let s1 := log (ledgerBody 2 0 sec 0 0 n 0 epoch) sec (clearSector (servedBy s sec) (log (ledgerBody 1 0 sec (e.erases + 1) e.pulses 0 0 epoch) sec d.2))
    modFlash (fun f => { f with pulseSector := BitVec.ofNat 10 sec, pulseCount := BitVec.ofNat 7 n })
      (modSector sec (fun e => { e with erases := e.erases + 1, pulses := e.pulses + n, interrupted := false }) s1)

/-- Before the ring erases its oldest sector, carry and remap words are appended for the sectors whose latest word lies there (R621). -/
def ledgerTurn (s : State) : State :=
  let old := (s.flash.ledNext / 2048 + 1) % 28
  let epoch := s.sched.epoch.toNat
  let there := s.flash.sectors.filter (fun e => decide (e.2.ledgerAt / 2048 = old ∧ (e.2.erases ≠ 0 ∨ e.2.spare.isSome)))
  let s1 := forAll there (fun e t =>
    let t1 := ledgerWord (ledgerBody 3 0 e.1 e.2.erases e.2.pulses 0 0 epoch) e.1 t
    match e.2.spare with
    | some k => ledgerWord (ledgerBody 4 0 e.1 0 0 0 k epoch) e.1 t1
    | none => t1) s
  ownErase ledgerWord (132 + old) s1

/-- Append to the erase ledger (R621). -/
def appendLedger (body : Bytes) (sector : Nat) (s : State) : State :=
  ledgerWord body sector (if s.flash.ledNext % 2048 = 0 then ledgerTurn s else s)

/-- Append to the selector or counters area, whose two sectors are used in turn: the older sector is erased once the first word of the newer is
written (R614). -/
def appendPair (first at_ : Nat) (word : Bytes) (s : State) : State :=
  let s1 := putWord (areaIndex s first at_) (some word) s
  if at_ % 2048 = 0 then ownErase appendLedger (if at_ = 0 then first + 1 else first) s1 else s1

/-- Append a selector word (R614, R615). -/
def appendSelector (x : Selector) (s : State) : State :=
  let body := leBytes 1 (b2n x.boot) ++ leBytes 1 (b2n x.firmware) ++ leBytes 1 (b2n x.microcode) ++ zeros 1 ++ leBytes 4 x.epoch
  let at_ := s.flash.selNext
  let kept := if at_ % 2048 = 0 then [] else s.flash.selectors
  appendPair 128 at_ (appended x.seq body 0xA5) (modFlash (fun f => { f with selectors := x :: kept, selNext := (at_ + 1) % 4096 }) s)

/-- Append a counters word with the counters as they stand (R616). -/
def appendCounters (s : State) : State :=
  let f := s.flash
  let body := leBytes 4 f.epoch.toNat ++ leBytes 8 f.mark.toNat ++ leBytes 1 f.floorMicrocode.toNat ++ leBytes 1 f.floorBoot.toNat ++ leBytes 1 f.floorFirmware.toNat
  appendPair 130 f.cntNext (appended f.cntSeq body 0x96) (modFlash (fun f => { f with cntSeq := f.cntSeq + 1, cntNext := (f.cntNext + 1) % 4096 }) s)

/-- A word is a counters word none of whose counters is below the present one (R616). -/
def countersOk (s : State) (w : Bytes) : Bool :=
  let f := s.flash
  decide (byteAt 31 w = 0x96 ∧ f.cntSeq ≤ leAt 0 8 w ∧ f.epoch.toNat ≤ leAt 8 4 w ∧ f.mark.toNat ≤ leAt 12 8 w ∧ f.floorMicrocode.toNat ≤ byteAt 20 w
    ∧ f.floorBoot.toNat ≤ byteAt 21 w ∧ f.floorFirmware.toNat ≤ byteAt 22 w) && allZero (slice 23 8 w)

/-- The counters of a counters word come into force (R613, R616). -/
def takeCounters (w : Bytes) (s : State) : State :=
  modFlash (fun f => { f with epoch := BitVec.ofNat 32 (leAt 8 4 w), mark := BitVec.ofNat 64 (leAt 12 8 w), floorMicrocode := BitVec.ofNat 8 (byteAt 20 w),
                              floorBoot := BitVec.ofNat 8 (byteAt 21 w), floorFirmware := BitVec.ofNat 8 (byteAt 22 w), cntSeq := leAt 0 8 w + 1 }) s

/-- A selector word's fields (R615). -/
def readSelector (w : Bytes) : Selector :=
  { seq := leAt 0 8 w, boot := decide (byteAt 8 w = 1), firmware := decide (byteAt 9 w = 1), microcode := decide (byteAt 10 w = 1), epoch := leAt 12 4 w }

/-- The sector that serves an index's sector names it: the one remapped to it, or itself (R622). -/
def namedSector (s : State) (served : Nat) : Nat := match s.flash.sectors.find? (fun e => decide (e.2.spare = some served)) with | some e => e.1 | none => served

/-- The valid words of an area of `n` sectors: those that read FLS_DONE with its mark, outside interrupted sectors (R613). -/
def areaWords (s : State) (first n : Nat) (mark : Byte) : List Bytes :=
  s.flash.words.filterMap (fun e =>
    let sec := namedSector s (e.1 / 2048)
    match e.2 with
    | some w => if first ≤ sec ∧ sec < first + n ∧ ¬ (sectorAt s sec).interrupted then (flashRead s e.1 w).delivers.filter (fun d => decide (d.getD 31 0 = mark)) else none
    | none => none)

/-- Words in the order of their sequence numbers, the latest first. -/
def insertBySeq (w : Bytes) : List Bytes → List Bytes
  | [] => [w]
  | x :: xs => if leAt 0 8 x ≤ leAt 0 8 w then w :: x :: xs else x :: insertBySeq w xs
def bySeq (l : List Bytes) : List Bytes := l.foldr insertBySeq []

/-- At start-up the selector words and the counters are those of the words that stand in their areas (R613); an area that holds no word, as in a module that has not
started, leaves them as they are (DESIGN CHOICE, log entry 2). -/
def readAreas (s : State) : State :=
  let sel := bySeq (areaWords s 128 2 0xA5)
  let s1 := if sel = [] then s else modFlash (fun f => { f with selectors := sel.map readSelector }) s
  match bySeq (areaWords s 130 2 0x96) with
  | [] => s1
  | w :: _ => takeCounters w s1

/-- A corrected read of the latest valid word of the selector or the counters area has it appended again with the next sequence number (R614). -/
def renewLatest (addr : Nat) (w : Bytes) (s : State) : State :=
  let sec := addr / 0x10000
  match s.flash.selectors.head? with
  | some x =>
    if (sec = 128 ∨ sec = 129) ∧ byteAt 31 w = 0xA5 ∧ leAt 0 8 w = x.seq then appendSelector { x with seq := x.seq + 1 } s
    else if (sec = 130 ∨ sec = 131) ∧ byteAt 31 w = 0x96 ∧ leAt 0 8 w + 1 = s.flash.cntSeq then appendCounters s
    else s
  | none => s

/-- A correction of a word that a read delivers (R606, R614). -/
def noteCorrected (addr : Nat) (w : Bytes) (s : State) : State := renewLatest addr w (countCorrected addr s)

/-- The words of an area that read corrected are counted, and the latest is renewed. -/
def noteArea (first n : Nat) (s : State) : State :=
  forAll (s.flash.words.filterMap (fun e => match e.2 with
    | some w => if first ≤ namedSector s (e.1 / 2048) ∧ namedSector s (e.1 / 2048) < first + n ∧ (flashRead s e.1 w).mended then some (e.1, w) else none
    | none => none)) (fun e t => noteCorrected (0x10000 * namedSector s (e.1 / 2048) + 32 * (e.1 % 2048)) e.2 t) s

/-! ### The configuration area -/

/-- First sector of a configuration half (R604). -/
def cfgSector (second : Bool) : Nat := if second then 192 else 160

/-- The bodies of a record's words: the record's key, the place and number of the word, and 16 bytes of the record (R613, R617). DESIGN CHOICE: log entry 84. -/
def cfgBodies (key : Nat) (record : Bytes) : List Bytes :=
  let n := max 1 (ceilDiv record.length 16)
  (List.range n).map (fun i => leBytes 4 key ++ leBytes 1 i ++ leBytes 1 n ++ slice (16 * i) 16 record)

/-- One word at the next position of the half in use (R613, R617). -/
def cfgWord (body : Bytes) (s : State) : State :=
  let f := s.flash
  modFlash (fun f => { f with cfgNext := f.cfgNext + 1, cfgSeq := f.cfgSeq + 1 }) (putWord (areaIndex s (cfgSector f.cfgSecond) f.cfgNext) (some (appended f.cfgSeq body 0x3C)) s)

/-- Every word written in the half in use reads back (R617). -/
def cfgReadsBack (s : State) : Bool :=
  (List.range s.flash.cfgNext).all (fun i => let k := areaIndex s (cfgSector s.flash.cfgSecond) i
    match wordAt s k with | some (some w) => (flashRead s k w).delivers.isSome | _ => false)

/-- The live records are copied into the other half, which was erased beforehand; the first half is erased once the copy has been read back (R617). -/
def cfgTurn (s : State) : State :=
  let old := cfgSector s.flash.cfgSecond
  let s1 := forAll (s.flash.cfgLive.flatMap (fun e => cfgBodies e.1 e.2)) cfgWord (modFlash (fun f => { f with cfgSecond := !f.cfgSecond, cfgNext := 0 }) s)
  if cfgReadsBack s1 then repeatIdx 32 (fun i t => ownErase appendLedger (old + i) t) s1 else s1

/-- Append a record to the configuration area; an empty one ends the record's life. With 75 % of the half's 65,536 words used the live records move first
(R617). -/
def configRecord (key : Nat) (record : Bytes) (s : State) : State :=
  let s1 := if 49152 ≤ s.flash.cfgNext then cfgTurn s else s
  forAll (cfgBodies key record) cfgWord (modFlash (fun f => { f with cfgLive := if record = [] then merase key f.cfgLive else mput key record f.cfgLive }) s1)

/-- Both halves of the configuration area are erased (R725). -/
def eraseConfig (s : State) : State :=
  modFlash (fun f => { f with cfgLive := [], cfgNext := 0, cfgSecond := false }) (repeatIdx 64 (fun i t => ownErase appendLedger (160 + i) t) s)

/-! ### Slots and images -/

/-- First byte address and size of the slot of a target (R604, R625): boot bank, firmware, microcode; the second of the two where `second`. -/
def slotBase (target : Nat) (second : Bool) : Nat :=
  match target with
  | 0 => if second then 0x400000 else 0
  | 1 => if second then 0x3400000 else 0x2800000
  | _ => if second then 0x1000000 else 0xE00000
def slotSize (target : Nat) : Nat := match target with | 0 => 0x400000 | 1 => 0xC00000 | _ => 0x200000

/-- Which of the two slots of a target is in use. -/
def slotInUse (s : State) (target : Nat) : Bool :=
  match target with | 0 => s.flash.inUse.boot | 1 => s.flash.inUse.firmware | _ => s.flash.inUse.microcode

/-- First byte address of a target's inactive slot. -/
def inactiveBase (s : State) (target : Nat) : Nat := slotBase target (!slotInUse s target)

/-- The target whose inactive slot holds a sector. -/
def inactiveTarget (s : State) (sector : Nat) : Option Nat :=
  [0, 1, 2].find? (fun t => decide (inactiveBase s t / 0x10000 ≤ sector ∧ sector < (inactiveBase s t + slotSize t) / 0x10000))

/-- One word as a read delivers it: erased words as 0xFF, nothing where it is uncorrectable or its sector interrupted (R606, R625). -/
def readWord (s : State) (addr : Nat) : Option Bytes :=
  if (sectorAt s (addr / 0x10000)).interrupted then none
  else match wordAt s (wordIndex s addr) with
    | none => some (List.replicate 32 0xFF)
    | some none => none
    | some (some w) => (flashRead s (wordIndex s addr) w).delivers

/-- The words of a range that read corrected are counted (R606). -/
def noteRead (addr count : Nat) (s : State) : State :=
  repeatIdx count (fun i t =>
    let a := addr + 32 * i
    match wordAt t (wordIndex t a) with
    | some (some w) => if (flashRead t (wordIndex t a) w).mended then noteCorrected a w t else t
    | _ => t) s

/-- Bytes from an address up, a whole number of words; nothing where a word cannot be read. -/
def readWords (s : State) (addr count : Nat) : Option Bytes :=
  (List.range count).foldl (fun acc i => match acc, readWord s (addr + 32 * i) with | some b, some w => some (b ++ fit 32 w) | _, _ => none) (some [])

/-- Bytes of a slot. -/
def readSlot (s : State) (base len : Nat) : Option Bytes := (readWords s base (ceilDiv len 32)).map (fun b => b.take len)

/-- The magic of a target's images (R333, R618). -/
def imageMagic (target : Nat) : Bytes := match target with | 0 => ascii "NBB1" | 1 => ascii "NFW1" | _ => ascii "NUC1"

/-- The security-version floor of a target's images (R616, R628). -/
def floorOf (s : State) (target : Nat) : Nat :=
  (match target with | 0 => s.flash.floorBoot | 1 => s.flash.floorFirmware | _ => s.flash.floorMicrocode).toNat

/-- Header fields lie within the table (R333, R618). -/
def imageHeaderOk (target : Nat) (h : Bytes) : Bool :=
  let n := leAt 12 4 h
  decide (h.take 4 = imageMagic target ∧ leAt 4 2 h = 1 ∧ byteAt 9 h = 0 ∧ 32 ≤ n ∧ n % 32 = 0) && allZero (slice 64 192 h)
    && (if target = 2 then decide (n ≤ 65536 ∧ leAt 10 2 h < 2048) else decide (n + 256 + 4723 ≤ slotSize target ∧ leAt 10 2 h = 0))

/-- The image in a slot, where it can be read: header and body, and its two signatures. -/
def imageIn (s : State) (target base : Nat) : Option (Bytes × Bytes) :=
  match readSlot s base 256 with
  | none => none
  | some h =>
    let n := 256 + leAt 12 4 h
    if imageHeaderOk target h then (readSlot s base (n + 4723)).map (fun b => (b.take n, b.drop n)) else none

/-- R334: header, body digest, both signatures; the floor is checked apart. -/
def imageOk (target : Nat) (x : Bytes × Bytes) : Bool :=
  decide (slice 16 48 x.1 = sha384 (x.1.drop 256))
    && Config.accepts "Tergil ML-DSA-87 image signature" [leBytes 1 target, x.1, x.2.take 4627]
    && Config.accepts "Tergil ECDSA P-384 image signature" [leBytes 1 target, x.1, x.2.drop 4627]

/-- An image of a slot that passes R334 with its floor. -/
def acceptedImage (s : State) (target base : Nat) : Option Bytes :=
  match imageIn s target base with
  | some x => if imageOk target x && decide (floorOf s target ≤ byteAt 8 x.1) then some x.1 else none
  | none => none

/-- The check of R334 that an image of a slot fails: 1 its header, 2 its digest, 3 its signatures, 4 its floor; 0 for none. -/
def imageCheck (s : State) (target base : Nat) : Nat :=
  match imageIn s target base with
  | none => 1
  | some x =>
    if slice 16 48 x.1 ≠ sha384 (x.1.drop 256) then 2
    else if ¬ imageOk target x then 3
    else if byteAt 8 x.1 < floorOf s target then 4 else 0

/-- A slot holds words that a command has programmed; what it held before is not in State. -/
def slotHeld (s : State) (target base : Nat) : Bool :=
  s.flash.words.any (fun e => let sec := namedSector s (e.1 / 2048); decide (base / 0x10000 ≤ sec ∧ sec < (base + slotSize target) / 0x10000))

/-- What the verification of a slot's image can find: anything of an image that State does not hold, the outcome of R334 for one that it does (R334, R618, R619; DESIGN
CHOICE, log entry 59). `fields` are the fields that the outcome reports. -/
def slotAgrees (s : State) (target base : Nat) (fields : Bytes → Bool) : Bool :=
  !slotHeld s target base || (decide (imageCheck s target base = 0) && (match readSlot s base 256 with | some h => fields h | none => false))

end Sys2Proof.Machine
end

