-- ==== Sys2Proof/Machine/Modes.lean ====
section
/-!
DEFINITION. Sys2Proof/Machine/Modes.lean: the block-cipher modes of other standards that the spec uses whole: GCM (NIST SP 800-38D), XTS (IEEE 1619), KW
and KWP (NIST SP 800-38F), and retail MACs (ISO/IEC 9797-1).
-/
namespace Sys2Proof.Machine
open Sys2Proof

/-! ### GCM -/

/-- Multiplication in the field of GCM, whose bit 0 is the most significant bit. -/
def gfMul (x y : BitVec 128) : BitVec 128 :=
  ((List.range 128).foldl (fun (acc : BitVec 128 × BitVec 128) i =>
    let z := if x.getLsbD (127 - i) then acc.1 ^^^ acc.2 else acc.1
    let v := if acc.2.getLsbD 0 then (acc.2 >>> 1) ^^^ (0xE1 <<< 120) else acc.2 >>> 1
    (z, v)) (0, y)).1

/-- GHASH of whole blocks. -/
def ghash (h : BitVec 128) (data : Bytes) : BitVec 128 :=
  (chunks 16 data).foldl (fun y b => gfMul (y ^^^ BitVec.ofNat 128 (beNat (fit 16 b))) h) 0

/-- Zero bytes up to a whole block. -/
def padTo16 (bs : Bytes) : Bytes := bs ++ zeros ((16 - bs.length % 16) % 16)

/-- The tag over additional data and ciphertext under a 96-bit nonce. -/
def gcmTag (k nonce aad ct : Bytes) : Bytes :=
  let h := BitVec.ofNat 128 (beNat (aesE k (zeros 16)))
  let y := ghash h (padTo16 aad ++ padTo16 ct ++ beBytes 8 (8 * aad.length) ++ beBytes 8 (8 * ct.length))
  xorBytes (beBytes 16 y.toNat) (aesE k (nonce ++ [0, 0, 0, 1]))

/-- GCM encryption: ciphertext, then tag. -/
def gcmE (k nonce aad pt : Bytes) : Bytes :=
  let ct := ctrX k (nonce ++ [0, 0, 0, 2]) pt
  ct ++ gcmTag k nonce aad ct

/-- GCM decryption of ciphertext and tag; none where the tag fails. -/
def gcmD (k nonce aad ctTag : Bytes) : Option Bytes :=
  let ct := ctTag.take (ctTag.length - 16)
  if gcmTag k nonce aad ct = ctTag.drop (ctTag.length - 16) then some (ctrX k (nonce ++ [0, 0, 0, 2]) ct) else none

/-! ### XTS -/

/-- The tweak of a data unit's block j: E(K2, unit) times α to the j, as a little-endian number. -/
def xtsTweak (k2 : Bytes) (unit j : Nat) : Bytes :=
  leBytes 16 ((List.range j).foldl (fun (t : BitVec 128) _ => dbl128 t) (BitVec.ofNat 128 (leNat (aesE k2 (leBytes 16 unit))))).toNat

/-- One block under a tweak. -/
def xtsBlock (enc : Bool) (k1 t b : Bytes) : Bytes := xorBytes (if enc then aesE k1 (xorBytes b t) else aesD k1 (xorBytes b t)) t

/-- One data unit of at least 16 bytes, with ciphertext stealing. -/
def xtsUnit (enc : Bool) (k1 k2 : Bytes) (unit : Nat) (data : Bytes) : Bytes :=
  let n := data.length / 16
  let r := data.length % 16
  let blk := fun i => slice (16 * i) 16 data
  let plain := fun m => (List.range m).flatMap (fun i => xtsBlock enc k1 (xtsTweak k2 unit i) (blk i))
  if r = 0 then plain n
  else
    let tail := data.drop (16 * n)
    let first := xtsBlock enc k1 (xtsTweak k2 unit (if enc then n - 1 else n)) (blk (n - 1))
    let second := xtsBlock enc k1 (xtsTweak k2 unit (if enc then n else n - 1)) (tail ++ first.drop r)
    plain (n - 1) ++ second ++ first.take r

/-- Data units of `du` bytes from a first unit number. -/
def xts (enc : Bool) (k1 k2 : Bytes) (du unit : Nat) (data : Bytes) : Bytes :=
  ((chunks du data).zipIdx).flatMap (fun e => xtsUnit enc k1 k2 ((unit + e.2) % 2 ^ 128) e.1)

/-! ### Key wrap -/

/-- The wrapping function W on semiblocks, the first of which is the integrity value. -/
def wrapW (k : Bytes) (a : Bytes) (rs : List Bytes) : Bytes :=
  let n := rs.length
  let r := (List.range (6 * n)).foldl (fun (acc : Bytes × List Bytes) t =>
    let i := t % n
    let b := aesE k (acc.1 ++ acc.2.getD i [])
    (xorBytes (b.take 8) (beBytes 8 (t + 1)), acc.2.set i (b.drop 8))) (a, rs)
  r.1 ++ r.2.flatten

/-- Its inverse: the integrity value and the semiblocks. -/
def unwrapW (k : Bytes) (c : Bytes) : Bytes × Bytes :=
  let all := chunks 8 c
  let n := all.length - 1
  let r := (List.range (6 * n)).foldl (fun (acc : Bytes × List Bytes) u =>
    let t := 6 * n - 1 - u
    let i := t % n
    let b := aesD k (xorBytes acc.1 (beBytes 8 (t + 1)) ++ acc.2.getD i [])
    (b.take 8, acc.2.set i (b.drop 8))) (all.headD [], all.drop 1)
  (r.1, r.2.flatten)

def kwIv : Bytes := List.replicate 8 0xA6
def kwpIv (n : Nat) : Bytes := [0xA6, 0x59, 0x59, 0xA6] ++ beBytes 4 n

/-- KW of a whole number of semiblocks. -/
def kwWrap (k p : Bytes) : Bytes := wrapW k kwIv (chunks 8 p)
def kwUnwrap (k c : Bytes) : Option Bytes := let r := unwrapW k c; if r.1 = kwIv then some r.2 else none

/-- KWP of any string. -/
def kwpWrap (k p : Bytes) : Bytes :=
  let padded := p ++ zeros ((8 - p.length % 8) % 8)
  if padded.length = 8 then aesE k (kwpIv p.length ++ padded) else wrapW k (kwpIv p.length) (chunks 8 padded)

def kwpUnwrap (k c : Bytes) : Option Bytes :=
  let r := if c.length = 16 then (let b := aesD k c; (b.take 8, b.drop 8)) else unwrapW k c
  let n := beNat (r.1.drop 4)
  if r.1.take 4 = [0xA6, 0x59, 0x59, 0xA6] ∧ n ≤ r.2.length ∧ r.2.length < n + 8 ∧ allZero (r.2.drop n) then some (r.2.take n) else none

/-! ### MACs over TDES -/

/-- Padding method 1: zeros to a whole block, and a whole block for an empty string; method 2: 0x80, then zeros. -/
def pad1 (n : Nat) (m : Bytes) : Bytes := if m = [] then zeros n else m ++ zeros ((n - m.length % n) % n)
def pad2 (n : Nat) (m : Bytes) : Bytes := let x := m ++ [0x80]; x ++ zeros ((n - x.length % n) % n)

/-- CBC-MAC over whole blocks: the last chaining value. -/
def cbcMac (enc : Bytes → Bytes) (n : Nat) (m : Bytes) : Bytes := (chunks n m).foldl (fun c b => enc (xorBytes c b)) (zeros n)

/-- ISO/IEC 9797-1 MAC algorithm 1 over TDES. -/
def mac1 (k m : Bytes) : Bytes := cbcMac (tdesE k) 8 m

/-- One single-DES block: TDES with three equal keys. -/
def desE (k b : Bytes) : Bytes := tdesE (k ++ k ++ k) b
def desD (k b : Bytes) : Bytes := tdesD (k ++ k ++ k) b

/-- ISO/IEC 9797-1 MAC algorithm 3 with a double-length key. -/
def mac3 (k m : Bytes) : Bytes := desE (k.take 8) (desD (slice 8 8 k) (cbcMac (desE (k.take 8)) 8 m))

/-! ### FF1 -/

/-- The number that decimal digits spell, most significant first, and back. -/
def digitsNat (d : List Nat) : Nat := d.foldl (fun n x => 10 * n + x) 0
def natDigits (m n : Nat) : List Nat := ((List.range m).map (fun i => n / 10 ^ i % 10)).reverse

/-- Bytes that hold a number of `v` decimal digits (NIST SP 800-38G, FF1, step 3, radix 10). -/
def ff1Bytes (v : Nat) : Nat := ceilDiv ((List.range 64).foldl (fun b i => if 2 ^ i < 10 ^ v then i + 1 else b) 0) 8

/-- The round value y of FF1 for round i over the half B, of n digits in all. -/
def ff1Round (k tweak : Bytes) (n i : Nat) (b : List Nat) : Nat :=
  let u := n / 2
  let v := n - u
  let bb := ff1Bytes v
  let d := 4 * ceilDiv bb 4 + 4
  let p := [1, 2, 1] ++ beBytes 3 10 ++ [10] ++ beBytes 1 u ++ beBytes 4 n ++ beBytes 4 tweak.length
  let q := tweak ++ zeros ((16 - (tweak.length + bb + 1) % 16) % 16) ++ beBytes 1 i ++ beBytes bb (digitsNat b)
  let r := cbcMac (aesE k) 16 (p ++ q)
  let more := (List.range (ceilDiv d 16 - 1)).flatMap (fun j => aesE k (xorBytes r (beBytes 16 (j + 1))))
  beNat ((r ++ more).take d)

/-- FF1 with radix 10 under AES. -/
def ff1E (k tweak : Bytes) (x : List Nat) : List Nat :=
  let n := x.length
  let u := n / 2
  let r := (List.range 10).foldl (fun (ab : List Nat × List Nat) i =>
    let m := if i % 2 = 0 then u else n - u
    (ab.2, natDigits m ((digitsNat ab.1 + ff1Round k tweak n i ab.2) % 10 ^ m))) (x.take u, x.drop u)
  r.1 ++ r.2

def ff1D (k tweak : Bytes) (x : List Nat) : List Nat :=
  let n := x.length
  let u := n / 2
  let r := (List.range 10).foldl (fun (ab : List Nat × List Nat) j =>
    let i := 9 - j
    let m := if i % 2 = 0 then u else n - u
    (natDigits m ((digitsNat ab.2 + 10 ^ m - ff1Round k tweak n i ab.1 % 10 ^ m) % 10 ^ m), ab.1)) (x.take u, x.drop u)
  r.1 ++ r.2

end Sys2Proof.Machine
end

