-- ==== Sys2Proof/Machine/Operands.lean ====
section
/-!
DEFINITION. Sys2Proof/Machine/Operands.lean: what a descriptor says: the header slot (R203, R204), the chain slot and the step list (R215,
R216), the parts of an entry (R211), the operand buffer (R213, R219) and key handles (R205).
-/
namespace Sys2Proof.Machine
open Sys2Proof

/-- The fields of a 64-byte header slot (R203, R204). -/
def parseHeader (b : Bytes) : Header :=
  let ctl := leAt 2 2 b
  { opcode := leAt 0 2 b, slots := ctl % 16 + 1, cls := bits 5 4 ctl, chain := bit 6 ctl, inlineIn := bit 7 ctl,
    session := bit 8 ctl, ctlReserved := bits 15 9 ctl, inLen := leAt 4 4 b, cookie := leAt 8 8 b, keyA := leAt 16 8 b,
    keyB := leAt 24 8 b, inPtr := leAt 32 8 b, outPtr := leAt 40 8 b, tag := leAt 48 8 b, outLen := leAt 56 4 b,
    stamp := leAt 60 4 b }

/-- Slot i of an entry. -/
def slotAt (i : Nat) (slots : Bytes) : Bytes := slice (64 * i) 64 slots

/-- Step count and extra key count of the chain slot (R215). -/
def chainSteps (slots : Bytes) : Nat := byteAt 64 slots
def chainExtra (slots : Bytes) : Nat := byteAt 65 slots

/-- Extra key handle e of the chain slot (R215). -/
def extraKey (e : Nat) (slots : Bytes) : Nat := leAt (64 + 16 + 8 * e) 8 slots

/-- Step i of the step list (R216). -/
def parseStep (i : Nat) (slots : Bytes) : StepDef :=
  let b := slice (128 + 16 * i) 16 slots
  { opcode := leAt 0 2 b, selA := byteAt 2 b % 16, selB := byteAt 2 b / 16, out := bit 0 (byteAt 3 b),
    withPrev := bit 1 (byteAt 3 b), reserved := byteAt 3 b / 4, srcOff := leAt 4 2 b, srcLen := leAt 6 2 b,
    auxOff := leAt 8 2 b, auxLen := leAt 10 2 b, dstOff := leAt 12 2 b, dstCap := leAt 14 2 b }

/-- The fixed extension slots of an opcode (R211): the policy template of an opcode that creates a key (R265), and the two label slots of the
reference authorisation (R316). -/
def fixedSlots (opcode : Nat) : Nat := if 0x0501 ≤ opcode ∧ opcode ≤ 0x0504 then 1 else if opcode = 0x0380 then 2 else 0

/-- Slots of the parts of R211 before inline input: header, chain slot, step list and fixed slots. -/
def slotsBeforeInline (h : Header) (slots : Bytes) : Nat :=
  1 + (if h.chain then 1 + ceilDiv (chainSteps slots) 4 else 0) + fixedSlots h.opcode

/-- The slot count R212 asks for. -/
def slotsNeeded (h : Header) (slots : Bytes) : Nat :=
  slotsBeforeInline h slots + (if h.inlineIn then ceilDiv h.inLen 64 else 0)

/-- The inline input of an entry (R211). -/
def inlineInput (h : Header) (slots : Bytes) : Bytes := slice (64 * slotsBeforeInline h slots) h.inLen slots

/-- The handle a key selector names (R216): 0 none, 1 key_a, 2 key_b, 3 to 8 extra keys. -/
def selected (j : Job) (sel : Nat) : Nat :=
  if sel = 1 then j.hdr.keyA else if sel = 2 then j.hdr.keyB else if 3 ≤ sel ∧ sel ≤ 8 then j.extra.getD (sel - 3) 0 else 0

/-- Key class and fold key domain of a handle (R205). -/
def handleClass (h : Nat) : Nat := bits 55 48 h
def handleDomain (h : Nat) : Nat := bits 63 56 h
def handleIndex (h : Nat) : Nat := h % 2 ^ 48

/-! ### The operand buffer -/

/-- Bytes of the operand buffer; an unlisted byte is zero and unmarked (R213, R214). -/
def bufRead (buf : AMap (Byte × Bool)) (off len : Nat) : Bytes := (List.range len).map (fun i => (mget (0, false) buf (off + i)).1)

/-- Some byte of the region carries the secret mark (R219, R220). -/
def bufMarked (buf : AMap (Byte × Bool)) (off len : Nat) : Bool := (List.range len).any (fun i => (mget (0, false) buf (off + i)).2)

/-- Write bytes with their mark (R219). -/
def bufWrite (buf : AMap (Byte × Bool)) (off : Nat) (secret : Bool) (bs : Bytes) : AMap (Byte × Bool) :=
  (bs.zipIdx).foldl (fun m e => mset (0, false) m (off + e.2) (e.1, secret)) buf

/-- A job runs as a chain of steps (R213, R215). -/
def isChained (j : Job) : Bool := j.hdr.chain

/-- The first operand of a step: the step's source region, or the whole input of a job that is not chained (R213, R216). -/
def srcBytes (j : Job) (st : StepDef) : Bytes := if isChained j then bufRead j.buf st.srcOff st.srcLen else j.input

/-- The second operand of a step (R216). -/
def auxBytes (j : Job) (st : StepDef) : Bytes := if isChained j then bufRead j.buf st.auxOff st.auxLen else []

end Sys2Proof.Machine
end

