-- ==== Sys2Proof/Machine/Channels.lean ====
section
/-!
DEFINITION. Sys2Proof/Machine/Channels.lean: channel states (R142 to R146), finding entries in a ring (R147 to R164, R179 to R182), the
coherency cache (R110 to R114) and the channel registers (R187 to R202).
-/
namespace Sys2Proof.Machine
open Sys2Proof

/-- A channel's record. -/
def chanAt (s : State) (n : Nat) : Chan := mget {} s.chans n

/-- Change a channel's record. -/
def modChan (n : Nat) (f : Chan → Chan) (s : State) : State := { s with chans := mupd {} s.chans n f }

/-- Slots of the submission ring and entries of the completion ring (R147, R165). -/
def sqSize (c : Chan) : Nat := 2 ^ c.sqLog2.toNat
def cqSize (c : Chan) : Nat := 2 ^ c.cqLog2.toNat

/-- Job slots the channel holds (R178, R198). -/
def heldSlots (s : State) (n : Nat) : Nat := (s.jobs.filter (fun e => decide (e.2.chan = n))).length

/-- Held slots whose jobs have finished and wait for posting (R198). -/
def unposted (s : State) (n : Nat) : Nat := (s.jobs.filter (fun e => decide (e.2.chan = n ∧ e.2.stage = .finished))).length

/-- Set a CHN_ALERT bit; a bit that becomes 1 sends a message at the close unless masked (R177, R200). -/
def alert (n b : Nat) (s : State) : State :=
  modChan n (fun c => if c.alert.getLsbD b then c
    else { c with alert := c.alert ||| BitVec.ofNat 5 (2 ^ b), alertRose := c.alertRose ||| BitVec.ofNat 5 (2 ^ b) }) s

/-- CXL mode with Cache_Enable = 1 (R102, R135). -/
def cacheActive (s : State) : Bool := decide (s.link.mode = 1) && s.link.cacheEnable

/-- Entries are taken: the channel runs, service has started, the link is open and no power-fail sequence, reset or tamper response has
stopped admission (R108, R120, R131, R142, R708, R728, R747). -/
def takes (s : State) (n : Nat) : Bool :=
  decide ((chanAt s n).state = .running) && linkOpen s && s.start.service && !s.power.failSeq && decide (s.link.inReset = .none)
    && !s.keeper.respond

/-- A ring fault (R179, R180): the channel halts, the entry at the consumer index is not executed, the halt notice waits, CHN_ALERT.halted is set. -/
def halt (n result : Nat) (s : State) : State :=
  raiseChan n 0x011B result
    (alert n 0 (modChan n (fun c => { c with state := .halted, head := none, haltResult := BitVec.ofNat 16 result, haltNotice := some (result, c.sqHead.toNat) }) s))

/-- The configuration is valid (R144). -/
def configOk (c : Chan) : Bool :=
  decide (c.sqBase ≠ 0 ∧ c.cqBase ≠ 0 ∧ 6 ≤ c.sqLog2.toNat ∧ c.sqLog2.toNat ≤ 16 ∧ 6 ≤ c.cqLog2.toNat ∧ c.cqLog2.toNat ≤ 16
    ∧ c.cqReserve.toNat < cqSize c / 2 ∧ c.cqHead = c.cqTail)

/-- Ring lines may be read: requests may be made, the required streams are secure and no reset runs (R108, R120, R131). -/
def mayRead (s : State) : Bool := linkOpen s && decide (s.link.inReset = .none)

/-- Ring positions of the window of an enabled channel (R111); a channel in QUIESCING keeps what it holds (R143). -/
def windowOf (s : State) (c : Chan) : List Nat :=
  match c.state with
  | .running | .halted => (List.range s.link.depth.toNat).map (fun i => (c.sqHead.toNat + i) % sqSize c)
  | .quiescing => c.held ++ c.asked
  | .disabled => []

/-- The channel's lines are brought to its window (R110, R111): lines held outside it are given up with CleanEvictNoData, and those of it neither held
nor asked for are asked for with RdShared. No request is made while none may be. -/
def settleLines (n : Nat) (s : State) : State :=
  if ¬ cacheActive s ∨ ¬ mayRequest s then s
  else
    let c := chanAt s n
    let w := windowOf s c
    let gone := c.held.filter (fun l => !decide (l ∈ w))
    let want := if mayRead s then w.filter (fun l => !decide (l ∈ c.held) && !decide (l ∈ c.asked)) else []
    forAll want (fun l t => emit (.cache "RdShared" n l) t)
      (forAll gone (fun l t => emit (.cache "CleanEvictNoData" n l) t)
        (modChan n (fun c => { c with held := c.held.filter (fun l => !decide (l ∈ gone)), asked := c.asked ++ want,
                                      lines := c.lines.filter (fun e => !(decide (e.1 ∈ gone) && decide (e.2.why = .acquired))) }) s))

/-- A channel that leaves service gives up its lines (R143); those it may not give up yet go once requests may be made. -/
def evict (n : Nat) (s : State) : State := settleLines n (modChan n (fun c => { c with lines := [], asked := [], direct := [] }) s)

/-- Every channel's lines are brought to its window (R111). -/
def settleAll (s : State) : State := forAll (keys s.chans) settleLines s

/-- The coherency cache holds nothing: its tile loses what it holds (R102, R129, R131). -/
def dropLines (s : State) : State :=
  { s with chans := mapVals (fun _ c => { c with held := [], asked := [], lines := c.lines.filter (fun e => decide (e.2.why ≠ .acquired)) }) s.chans }

/-- The coherency cache gives up every line it holds with CleanEvictNoData, where requests may be made, and counts as empty (R102, R110). -/
def evictAll (s : State) : State :=
  if cacheActive s ∧ mayRequest s then
    dropLines (forAll s.chans (fun e t => forAll e.2.held (fun l t => emit (.cache "CleanEvictNoData" e.1 l) t) t) s)
  else dropLines s

/-- QUIESCING with no job in flight, no completion waiting and no undecided entry becomes DISABLED (R143, R792). -/
def tryQuiesce (n : Nat) (s : State) : State :=
  let c := chanAt s n
  if c.state = .quiescing ∧ heldSlots s n = 0 ∧ c.refusals = [] ∧ c.head = none ∧ c.haltNotice = none then
    raiseChan n 0x011F 0 (alert n 4 (evict n (modChan n (fun c => { c with state := .disabled, withdrawing := false }) s)))
  else s

/-- Read ring slots directly, each once (R116, R158, R160, R163). -/
def readDirect (n : Nat) (ls : List Nat) (s : State) : State :=
  let c := chanAt s n
  let new := ls.filter (fun l => !decide (l ∈ c.direct))
  forAll new (fun l t => emit (.hostRead (c.sqBase.toNat * 4096 + 64 * l) 64) t) (modChan n (fun c => { c with direct := c.direct ++ new }) s)

/-- What the stamp of the slot at the consumer index says (R153). -/
inductive StampAnswer where
  | entry | lastLap | fault (result : Nat)
deriving DecidableEq, Repr

/-- The stamp against the consumer index (R153, R164). -/
def stampAnswer (_ : State) (c : Chan) (l : LineData) : StampAnswer :=
  let k := sqSize c
  let d := ((parseHeader l.data).stamp + 2 ^ 32 - c.sqHead.toNat) % 2 ^ 32
  if d = 0 then .entry
  else if d = 2 ^ 32 - k then
    let behind := match c.doorbell with
      | some p => decide (0 < (p.toNat + 2 ^ 32 - c.sqHead.toNat) % 2 ^ 32 ∧ (p.toNat + 2 ^ 32 - c.sqHead.toNat) % 2 ^ 32 < 2 ^ 31)
      | none => false
    if decide (l.why = .doorbell) && behind then .fault 0x0102 else .lastLap
  else if d % k = 0 ∧ d < 2 ^ 31 then .fault 0x0101
  else .fault 0x0102

/-- Examine the header slot at the consumer index (R153, R154, R158, R160, R164) and make a complete entry visible (R60): slots that no line of the window
brings are read directly. -/
def examine (n : Nat) (s : State) : State :=
  let c := chanAt s n
  if takes s n ∧ c.head = none then
    let k := sqSize c
    let pos := c.sqHead.toNat % k
    match mfind pos c.lines with
    | none => s
    | some l =>
      if l.poisoned then halt n 0x0105 s
      else
        match stampAnswer s c l with
        | .fault r => halt n r s
        | .lastLap => if cacheActive s then s else modChan n (fun c => { c with lines := merase pos c.lines }) s
        | .entry =>
          let h := parseHeader l.data
          if k - pos < h.slots then halt n 0x0103 s
          else if h.opcode = 0x0F00 ∧ h.slots ≠ 1 then halt n 0x0104 s
          else
            let ls := (List.range h.slots).map (fun i => mfind (pos + i) c.lines)
            if ls.any (fun o => match o with | some x => x.poisoned | none => false) then halt n 0x0105 s
            else if ls.all Option.isSome then
              modChan n (fun c => { c with
                head := some { slots := ls.flatMap (fun o => match o with | some x => fit 64 x.data | none => []), visible := now s, pushed := decide (l.why = .pushed) }
                taken := if l.why = .pushed then satInc c.taken else c.taken }) s
            else
              let missing := ((List.range h.slots).map (fun i => pos + i)).filter (fun p => (mfind p c.lines).isNone)
              readDirect n (missing.filter (fun p => !(cacheActive s && decide (p ∈ windowOf s c)))) s
  else s

/-- Take the entry at the head: the consumer index advances by its slots and the window moves on (R111, R155). -/
def takeHead (n : Nat) (s : State) : State :=
  let c := chanAt s n
  match c.head with
  | none => s
  | some e =>
    let m := e.slots.length / 64
    let pos := c.sqHead.toNat % sqSize c
    let behind := fun (p : Nat) => decide (pos ≤ p ∧ p < pos + m)
    settleLines n (modChan n (fun c => { c with head := none, sqHead := c.sqHead + BitVec.ofNat 32 m, lines := c.lines.filter (fun e => !behind e.1),
                                                direct := c.direct.filter (fun p => !behind p) }) s)

/-- Act on a published producer index p (R163): the slots up to it are read, those of held lines in the coherency cache. -/
def doorbell (n : Nat) (p : BitVec 32) (s : State) : State :=
  let c := chanAt s n
  let d := (p - c.sqHead).toNat
  if c.state ≠ .running ∨ d = 0 ∨ 2 ^ 31 ≤ d then s
  else if d ≤ sqSize c then
    let ps := (List.range d).map (fun i => (c.sqHead.toNat + i) % sqSize c)
    let mark := fun (e : Nat × LineData) => if e.1 ∈ ps ∧ e.2.why = .acquired then (e.1, { e.2 with why := .doorbell }) else e
    let s1 := modChan n (fun c => { c with doorbell := some p, lines := c.lines.map mark }) s
    examine n (readDirect n (ps.filter (fun l => !decide (l ∈ c.held))) s1)
  else halt n 0x0101 s

/-- Count an ignored push (R143, R160, R162, R202). -/
def ignorePush (n : Nat) (s : State) : State :=
  raiseChan n 0x0121 0 (modChan n (fun c => { c with push := [], pushKept := false, ignored := satInc c.ignored }) s)

/-- A 64-byte region of the push window has been written in full (R159, R162). -/
def regionFull (push : AMap Byte) (r : Nat) : Bool := (List.range 64).all (fun i => (mfind (64 * r + i) push).isSome)

/-- The bytes of a region of the push window. -/
def regionBytes (push : AMap Byte) (r : Nat) : Bytes := (List.range 64).map (fun i => mget 0 push (64 * r + i))

/-- The push is complete: the header region and each further region its slot count places in the window (R159). -/
def pushComplete (push : AMap Byte) : Bool :=
  regionFull push 0 && (List.range (min 4 (parseHeader (regionBytes push 0)).slots)).all (regionFull push)

/-- Compare a completed push with the consumer index and take or ignore it (R160); where the entry there was reached first by another copy, this one is
ignored (R161). -/
def decidePush (n : Nat) (s : State) : State :=
  let c := chanAt s n
  let h := parseHeader (regionBytes c.push 0)
  if c.state = .running ∧ h.stamp = c.sqHead.toNat ∧ c.head = none then
    let pos := c.sqHead.toNat % sqSize c
    let lines := (List.range (min 4 h.slots)).foldl
      (fun m i => mput (pos + i) { data := regionBytes c.push i, why := .pushed, poisoned := false } m) c.lines
    examine n (modChan n (fun c => { c with push := [], pushKept := false, lines := lines }) s)
  else ignorePush n s

/-- When admission resumes, the windows are settled (R111, R120), and kept pushes and doorbells acted on (R160). -/
def resumeKept (s : State) : State :=
  forAll (keys s.chans) (fun n s =>
    let s := settleLines n s
    let c := chanAt s n
    let s1 := if c.pushKept then decidePush n s else s
    match c.keptDoorbell with
    | some p => doorbell n p (modChan n (fun c => { c with keptDoorbell := none }) s1)
    | none => examine n s1) s

/-- Enable a channel (R143, R144, R188): ignored in HALTED, refused in QUIESCING. -/
def enableChan (n : Nat) (s : State) : State :=
  let c := chanAt s n
  match c.state with
  | .disabled =>
    if configOk c then
      settleLines n (modChan n (fun c => { c with state := .running, enable := true, haltResult := 0, configError := false, doorbell := none, keptDoorbell := none,
                                                  held := [] }) s)
    else raiseChan n 0x011C 0 (modChan n (fun c => { c with enable := false, configError := true }) s)
  | .quiescing => raiseChan n 0x0106 0x000 s
  | _ => s

/-! ### Engines -/

/-- The key of an engine in the scheduler's table: kind × 256 + index. -/
def engKey (kind idx : Nat) : Nat := kind * 256 + idx

def engAt (s : State) (kind idx : Nat) : Engine := mget {} s.sched.engines (engKey kind idx)

def modEng (kind idx : Nat) (f : Engine → Engine) (s : State) : State :=
  { s with sched := { s.sched with engines := mupd {} s.sched.engines (engKey kind idx) f } }

/-- A bank as a bit of SIG_ENG_STAT's and CIP_ENG_STAT's pair of banks. -/
def bankBit (b : BitVec 1) : BitVec 2 := if b = 0 then 1 else 2

/-- The banks that an engine's running and parked operations hold (R42, R43). -/
def heldBanks (e : Engine) : BitVec 2 :=
  (e.running.foldl (fun m b => m ||| bankBit b.bank) 0) ||| (if e.parked.isSome then bankBit e.parkedBank else 0)

/-- The banks that a new engine step cannot take: one that holds a parked operation, and one being overwritten (R44, R354). -/
def busyBanks (e : Engine) : BitVec 2 := e.wiping ||| (if e.parked.isSome then bankBit e.parkedBank else 0)

/-- The engine work of a step is taken off every engine that runs or parks it; a bank that held it is overwritten (R45, R353, R386). -/
def dropStep (slot : Nat) (step : Option Nat) (s : State) : State :=
  let mine := fun (a b : Nat) => decide (a = slot) && (match step with | some i => decide (b = i) | none => true)
  let fix := fun (key : Nat) (e : Engine) =>
    let hit := e.running.any (fun b => mine b.slot b.step) || (match e.parked with | some (a, b) => mine a b | none => false)
    if hit then
      { e with running := e.running.filter (fun b => !mine b.slot b.step),
               wiping := (if key / 256 ≤ 1 then e.wiping ||| heldBanks { e with running := e.running.filter (fun b => mine b.slot b.step), parked := e.parked.filter (fun p => mine p.1 p.2) } else e.wiping),
               parked := match e.parked with | some (a, b) => if mine a b then none else some (a, b) | none => none }
    else e
  { s with sched := { s.sched with engines := mapTotal {} fix s.sched.engines } }

/-- Engine work bound to a job's steps leaves the engines with nothing of it to overwrite: the engine steps run in a later swath (R67, R385). -/
def unbind (slot : Nat) (step : Option Nat) (s : State) : State :=
  let mine := fun (a b : Nat) => decide (a = slot) && (match step with | some i => decide (b = i) | none => true)
  { s with sched := { s.sched with engines := mapTotal {} (fun _ (e : Engine) => { e with running := e.running.filter (fun b => !mine b.slot b.step) }) s.sched.engines } }

/-! ### Withdrawal -/

/-- Every unfinished job of a channel is to complete with a result at the next close; its engine work is aborted at once (R143, R183, R352, R386). -/
def withdrawChan (n result : Nat) (s : State) : State :=
  let out := (s.jobs.filter (fun e => decide (e.2.chan = n ∧ e.2.stage ≠ .finished ∧ e.2.withdraw = none))).map Prod.fst
  forAll out (fun k t => dropStep k none t)
    { s with jobs := mapVals (fun _ j => if j.chan = n ∧ j.stage ≠ .finished ∧ j.withdraw = none then { j with withdraw := some result } else j) s.jobs }

/-- Disable a channel (R143, R792). -/
def disableChan (n : Nat) (withdraw : Bool) (s : State) : State :=
  let c := chanAt s n
  let go := fun (s : State) =>
    let s1 := modChan n (fun c => { c with state := .quiescing, enable := false, withdrawing := withdraw }) s
    tryQuiesce n (if withdraw then withdrawChan n 0x0A01 s1 else s1)
  match c.state with
  | .disabled => s
  | .running => go s
  | .halted => go s
  | .quiescing => if withdraw then tryQuiesce n (withdrawChan n 0x0A01 (modChan n (fun c => { c with withdrawing := true }) s)) else s

/-! ### The channel registers -/

/-- The 32-bit word at an offset of a channel page, without the effects of a read (R187 to R202). -/
def chanWord (s : State) (n off : Nat) : Nat :=
  let c := chanAt s n
  match off with
  | 0x000 => b2n c.enable + 2 * b2n c.disableMode
  | 0x004 => (match c.state with | .disabled => 0 | .running => 1 | .halted => 2 | .quiescing => 3) + 16 * b2n c.configError + 65536 * c.haltResult.toNat
  | 0x008 => c.sqBase.toNat * 4096 % 2 ^ 32
  | 0x00C => c.sqBase.toNat * 4096 / 2 ^ 32
  | 0x010 => c.sqLog2.toNat + 256 * c.cqLog2.toNat
  | 0x014 => c.sqHead.toNat
  | 0x020 => c.cqBase.toNat * 4096 % 2 ^ 32
  | 0x024 => c.cqBase.toNat * 4096 / 2 ^ 32
  | 0x028 => c.cqTail.toNat
  | 0x02C => c.cqHead.toNat
  | 0x030 => c.cqReserve.toNat
  | 0x034 => c.slotLimit.toNat
  | 0x038 => unposted s n + 65536 * heldSlots s n
  | 0x040 => c.minCount.toNat + 65536 * c.maxWait.toNat + 2 ^ 30 * b2n c.class0Now + 2 ^ 31 * b2n c.irqEnable
  | 0x044 => c.alert.toNat
  | 0x048 => c.alertMask.toNat
  | 0x04C => c.taken.toNat + 65536 * c.ignored.toNat
  | _ => 0

/-- A refused channel register write raises the Host plane's WRITE_REFUSED code (R145). -/
def chanRefuse (n off : Nat) (s : State) : State := raiseChan n 0x0106 off s

/-- Write a field of a ring register, refused while the channel is not DISABLED (R145). -/
def chanRing (n off : Nat) (f : Chan → Chan) (s : State) : State :=
  if (chanAt s n).state = .disabled then modChan n f s else chanRefuse n off s

/-- Half of a 64-bit base register rewritten: bits [63:12] with one word replaced (R189, R193). -/
def baseWord (old : BitVec 52) (high : Bool) (v : Nat) : BitVec 52 :=
  if high then BitVec.ofNat 52 (old.toNat % 2 ^ 20 + 2 ^ 20 * v) else BitVec.ofNat 52 (old.toNat / 2 ^ 20 * 2 ^ 20 + v / 4096)

/-- The effect of a 32-bit write at an offset of a channel page (R145, R163, R170, R187 to R202). -/
def chanWriteWord (n off v : Nat) (s : State) : State :=
  match off with
  | 0x000 =>
    let s1 := modChan n (fun c => { c with disableMode := bit 1 v }) s
    if bit 0 v then enableChan n s1 else disableChan n (bit 1 v) s1
  | 0x008 => chanRing n off (fun c => { c with sqBase := baseWord c.sqBase false v }) s
  | 0x00C => chanRing n off (fun c => { c with sqBase := baseWord c.sqBase true v }) s
  | 0x010 => chanRing n off (fun c => { c with sqLog2 := BitVec.ofNat 5 v, cqLog2 := BitVec.ofNat 5 (v / 256) }) s
  | 0x014 => chanRing n off (fun c => { c with sqHead := BitVec.ofNat 32 v }) s
  | 0x018 =>
    if (chanAt s n).state ≠ .running then s
    else if linkOpen s then doorbell n (BitVec.ofNat 32 v) s
    else modChan n (fun c => { c with keptDoorbell := some (BitVec.ofNat 32 v) }) s
  | 0x020 => chanRing n off (fun c => { c with cqBase := baseWord c.cqBase false v }) s
  | 0x024 => chanRing n off (fun c => { c with cqBase := baseWord c.cqBase true v }) s
  | 0x028 => chanRing n off (fun c => { c with cqTail := BitVec.ofNat 32 v }) s
  | 0x02C =>
    let c := chanAt s n
    if c.state = .disabled then alert n 3 s
    else if (BitVec.ofNat 32 v - c.cqHead).toNat ≤ (c.cqTail - c.cqHead).toNat then
      tryQuiesce n (modChan n (fun c => { c with cqHead := BitVec.ofNat 32 v }) s)
    else raiseChan n 0x0120 v (alert n 3 s)
  | 0x030 => if v % 256 < 2 then chanRefuse n off s else chanRing n off (fun c => { c with cqReserve := BitVec.ofNat 8 v }) s
  | 0x034 => if v % 8192 = 0 ∨ 4096 < v % 8192 then chanRefuse n off s else modChan n (fun c => { c with slotLimit := BitVec.ofNat 13 v }) s
  | 0x040 =>
    let m := v % 8192
    let s1 := modChan n (fun c => { c with irqEnable := bit 31 v, class0Now := bit 30 v, maxWait := BitVec.ofNat 8 (v / 65536) }) s
    if m = 0 ∨ 4096 < m then chanRefuse n off s1 else modChan n (fun c => { c with minCount := BitVec.ofNat 13 m }) s1
  | 0x044 => modChan n (fun c => { c with alert := c.alert &&& ~~~ BitVec.ofNat 5 v }) s
  | 0x048 => modChan n (fun c => { c with alertMask := BitVec.ofNat 5 v }) s
  | _ => s

/-- Offsets of a channel page whose register has an audited field (R187 to R201). -/
def chanAudited (off : Nat) : Bool :=
  decide (off ∈ [0x000, 0x008, 0x00C, 0x010, 0x014, 0x020, 0x024, 0x028, 0x030, 0x034, 0x040, 0x048])

/-- Offsets of a channel page that begin a 64-bit register. -/
def chanWide (off : Nat) : Bool := decide (off = 0x008 ∨ off = 0x020)

/-- What reading a word of a channel page clears: CHN_PUSH_STAT (R202). -/
def chanReadEffect (n off : Nat) (s : State) : State :=
  if off = 0x04C then modChan n (fun c => { c with taken := 0, ignored := 0 }) s else s

/-! ### Meanings: links, pushes and snoops -/

/-- Bad access: discarded, an event and a count (R107, R159). -/
def badAccess (addr : Nat) (s : State) : State :=
  raise phyPage 0x010D addr { s with link := { s.link with badAccess := satInc s.link.badAccess } }

/-- A read ring slot reaches the channel (R111, R158, R161): slots that a push brought first are kept, and a coherent copy outside the window is given
up. -/
def takeLine (ch pos : Nat) (line : LineData) (s : State) : State :=
  let put := fun (c : Chan) => match mfind pos c.lines with | some x => if x.why = .pushed then c.lines else mput pos line c.lines | none => mput pos line c.lines
  if line.why ≠ .acquired then modChan ch (fun c => { c with direct := c.direct.filter (fun p => decide (p ≠ pos)), lines := put c }) s
  else
    let s1 := modChan ch (fun c => { c with asked := c.asked.filter (fun p => decide (p ≠ pos)) }) s
    if pos ∈ windowOf s (chanAt s ch) then
      modChan ch (fun c => { c with held := if pos ∈ c.held ∨ line.poisoned ∨ ¬ cacheActive s then c.held else c.held ++ [pos], lines := put c }) s1
    else if cacheActive s ∧ mayRequest s then emit (.cache "CleanEvictNoData" ch pos) s1 else s1

/-- RING_LINE_READ_DONE: the slot at a ring index is known, or its line was poisoned (R113, R126, R153, R158, R163). The slot at the consumer index is
examined at once; an entry already visible there stays the copy reached first (R161), and what has been written past it halts the channel (R153). -/
def execRingLineReadDone (ch index : Nat) (data : Bytes) (status : ReadStatus) (why : LineRead) (s : State) : Res :=
  .next <|
    let c := chanAt s ch
    if c.state = .disabled then s
    else
      let bad := decide (status = .poisoned)
      let pos := index % sqSize c
      let line : LineData := { data := fit 64 data, why := match why with | .window => .acquired | .doorbell => .doorbell, poisoned := bad }
      let s1 := if bad then raise phyPage 0x0112 (c.sqBase.toNat * 4096 + 64 * pos) { s with link := { s.link with poisoned := satInc s.link.poisoned } } else s
      let s2 := takeLine ch pos line s1
      if c.head.isSome ∧ pos = c.sqHead.toNat % sqSize c ∧ takes s2 ch then
        if bad then halt ch 0x0105 s2
        else match stampAnswer s2 (chanAt s2 ch) line with
          | .fault r => halt ch r s2
          | _ => s2
      else examine ch s2

/-- PUSH_WRITE (R159 to R162): a write into a push window is assembled, discarded, or completes a push. An assembly begun while the channel is
DISABLED stays, and counts once it is complete (R143; DESIGN CHOICE, log entry 80). -/
def execPushWrite (ch off : Nat) (data : Bytes) (s : State) : Res :=
  .next <|
    let len := data.length
    if s.link.inReset ≠ .none then s
    else if len < 4 ∨ 64 < len ∨ len % 4 ≠ 0 ∨ off % 4 ≠ 0 ∨ off / 64 ≠ (off + len - 1) / 64 then badAccess (2 ^ 31 + 0x40000 + 0x100 * ch + off) s
    else
      let c := chanAt s ch
      let s1 := if c.pushKept ∨ regionFull c.push (off / 64) then ignorePush ch s else s
      let old := (chanAt s1 ch).push
      let written := (data.zipIdx).foldl (fun m e => mput (off + e.2) e.1 m) old
      let s2 := modChan ch (fun c => { c with push := written, pushFirst := if old = [] then now s else c.pushFirst }) s1
      if pushComplete written then
        if linkOpen s ∨ c.state = .disabled then decidePush ch s2 else modChan ch (fun c => { c with pushKept := true }) s2
      else s2

/-- PUSH_ASSEMBLY_TIMEOUT (R162): an assembly not complete 1 swath after its first write is discarded and counted. -/
def execPushAssemblyTimeout (ch : Nat) (s : State) : Res :=
  .next <| let c := chanAt s ch; if c.push = [] ∨ c.pushKept ∨ now s < c.pushFirst + 1 then s else ignorePush ch s

/-- CHN_SQ_DOORBELL (R133, R163, R192). -/
def execChnSqDoorbell (ch : Nat) (value : BitVec 32) (s : State) : Res := .next (hostWrite (chanWriteWord ch 0x018 value.toNat) s)

/-- CHN_CQ_HEAD (R133, R170, R195). -/
def execChnCqHead (ch : Nat) (value : BitVec 32) (s : State) : Res := .next (hostWrite (chanWriteWord ch 0x02C value.toNat) s)

/-- BAR2 address of a channel register as R462 codes it. -/
def chanAddr (n off : Nat) : RegAddr := 2 ^ 31 + n * 0x1000 + off

/-- An audited 32-bit write to a channel register (R32). -/
def chanAuditedWrite (m : Master) (n off v : Nat) (s : State) : State :=
  audited (chanAddr n off) m 4 (fun s => chanWord s n off) noSets (chanWriteWord n off v) s

/-- CHN_ENABLE (R143, R144, R187): enable written 1. -/
def execChnEnable (m : Master) (ch : Nat) (s : State) : Res :=
  .next (chanAuditedWrite m ch 0x000 (1 + 2 * b2n (chanAt s ch).disableMode) s)

/-- CHN_DISABLE_DRAIN (R143, R187): enable written 0 with DRAIN. -/
def execChnDisableDrain (m : Master) (ch : Nat) (s : State) : Res := .next (chanAuditedWrite m ch 0x000 0 s)

/-- CHN_DISABLE_WITHDRAW (R143, R187): enable written 0 with WITHDRAW. -/
def execChnDisableWithdraw (m : Master) (ch : Nat) (s : State) : Res := .next (chanAuditedWrite m ch 0x000 2 s)

/-- SNOOP_INV (R112): a held line is given up, answered and asked for again; a miss is answered. -/
def execSnoopInv (ch line : Nat) (s : State) : Res :=
  .next <|
    if cacheActive s ∧ line ∈ (chanAt s ch).held then
      let again := mayRead s
      let s1 := emit (.cache "RspIHitSE" ch line)
        (modChan ch (fun c => { c with held := c.held.filter (fun l => decide (l ≠ line)), asked := if again then c.asked ++ [line] else c.asked,
                                       lines := c.lines.filter (fun e => !(decide (e.1 = line) && !decide (e.2.why = .pushed))) })
          { s with link := { s.link with snoops := satInc s.link.snoops } })
      if again then emit (.cache "RdShared" ch line) s1 else s1
    else emit (.cache "RspIHitI" ch line) s

/-- SNOOP_DATA (R112): a held line stays held; a miss is answered. -/
def execSnoopData (ch line : Nat) (s : State) : Res :=
  .next <|
    if cacheActive s ∧ line ∈ (chanAt s ch).held then emit (.cache "RspSHitSE" ch line) s else emit (.cache "RspIHitI" ch line) s

end Sys2Proof.Machine
end

