-- ==== Sys2Proof/Machine/Flags.lean ====
section
/-!
DEFINITION. Sys2Proof/Machine/Flags.lean: the flags the machine computes: a core's status word (R531, R572), the phase bit of a ring entry (R167), the flags
of a completion entry (R166) and the info byte of a JOB record (R460).
-/
namespace Sys2Proof.Machine
open Sys2Proof

/-- The status word (R572); depth counts the link stack entries in use. -/
def statusWord (r : CoreRegs) : Nat :=
  let t := r.st
  2 ^ 36 * r.links.length + 2 ^ 34 * t.ctx.toNat + 2 ^ 32 * t.mode.toNat + 2 ^ 8 * t.brTarget.toNat + 2 ^ 6 * b2n t.loop1 + 2 ^ 5 * b2n t.loop0
    + 2 ^ 3 * b2n t.brPend + 2 ^ 2 * b2n t.trace + 2 * b2n t.ie + b2n t.w

/-- Status fields from a word; st.w is always 1 on the boot core (R531, R572). -/
def statusOf (n v : Nat) : Status :=
  { ctx := BitVec.ofNat 2 (v / 2 ^ 34), mode := BitVec.ofNat 2 (v / 2 ^ 32), brTarget := BitVec.ofNat 18 (v / 2 ^ 8), loop1 := bit 6 v,
    loop0 := bit 5 v, brPend := bit 3 v, trace := bit 2 v, ie := bit 1 v, w := decide (n = 16) || bit 0 v }

/-- The phase bit of the entry at a producer index (R167, R184). -/
def phaseBit (index log2 : Nat) : Nat := 1 - index / 2 ^ log2 % 2

/-- The flags byte of a job's completion entry but for its phase: output incomplete, margin, class and aged (R166). -/
def completionFlags (j : Job) : Nat := 2 * b2n j.outIncomplete + 4 * b2n j.margin + 16 * j.hdr.cls + 64 * b2n j.aged

/-- The info byte of a JOB record (R460). -/
def recordInfo (j : Job) : Nat := j.hdr.cls + 4 * b2n j.margin + 8 * b2n j.aged + 16 * b2n j.outIncomplete + 32 * b2n j.inputRead

end Sys2Proof.Machine
end

