-- ==== Sys2Proof/Machine/Jobs.lean ====
section
/-!
DEFINITION. Sys2Proof/Machine/Jobs.lean: the life of a job (R234): steps that end, results that are released (R209, R219 to R222), jobs that
are withdrawn (R71, R131, R132, R183), and the windrow that posts their completions (R166 to R177, R460, R461).
-/
namespace Sys2Proof.Machine
open Sys2Proof

/-- The job in a slot. -/
def jobAt (s : State) (slot : Nat) : Option Job := mfind slot s.jobs

/-- Change the job in a slot. -/
def modJob (slot : Nat) (f : Job → Job) (s : State) : State :=
  match mfind slot s.jobs with
  | some j => { s with jobs := mput slot (f j) s.jobs }
  | none => s

/-- A step of a job. -/
def stepAt (j : Job) (i : Nat) : StepRun := j.steps.getD i {}

/-- Change a step of the job in a slot. -/
def modStep (slot i : Nat) (f : StepRun → StepRun) (s : State) : State :=
  modJob slot (fun j => { j with steps := j.steps.set i (f (stepAt j i)) }) s

/-! ### The ledger -/

/-- Ledger entries of a job leave the ledger; their slices are not given back (R58). -/
def dropLedger (slot : Nat) (s : State) : State :=
  { s with sched := { s.sched with ledger := s.sched.ledger.map (fun l => { l with entries := l.entries.filter (fun e => decide (e.slot ≠ slot)) }) } }

/-- A job's ledger entries from a swath on leave the ledger (R58, R67). -/
def dropEntries (slot first : Nat) (s : State) : State :=
  { s with sched := { s.sched with ledger := s.sched.ledger.map (fun l => if l.swath < first then l else { l with entries := l.entries.filter (fun e => decide (e.slot ≠ slot)) }) } }

/-! ### Ending steps and jobs -/

/-- The digest of no output (R461). -/
def emptyDigest : Bytes := [0x38, 0xB0, 0x60, 0xA7, 0x51, 0xAC, 0x96, 0x38]

/-- The slots with the stamp bytes set to 0 (R461). -/
def unstamped (slots : Bytes) : Bytes := overlay 60 (zeros 4) slots

/-- Input digest: the slots, then every input byte read from in_ptr (R461). -/
def inputDigest (slots input : Bytes) : Bytes := (sha384 (unstamped slots ++ input)).take 8

/-- Output digest (R461). -/
def outputDigest (out : Bytes) : Bytes := if out = [] then emptyDigest else (sha384 out).take 8

/-- The keys of a step leave its key slot: it has ended, or is aborted (R261). -/
def dropKeys (x : StepRun) : StepRun := { x with keyA := none, keyB := none, boundKeys := [] }

/-- The job is finished with a result, and its completion waits (R234, R235). -/
def finishJob (slot result : Nat) (s : State) : State :=
  modJob slot (fun j => { j with stage := .finished, result := result, finished := now s, steps := j.steps.map dropKeys }) (dropLedger slot (dropStep slot none s))

/-- Bytes for host memory in pieces that end at 4 KiB boundaries (R210); `n` bounds their number. -/
def pieces : Nat → Nat → Bytes → List (Nat × Bytes)
  | 0, _, _ => []
  | n + 1, a, bs => if bs = [] then [] else let k := 4096 - a % 4096; (a, bs.take k) :: pieces n (a + k) (bs.drop k)

/-- Output bytes are written to host memory (R116, R210). -/
def writePieces (a : Nat) (bs : Bytes) (s : State) : State := forAll (pieces (bs.length / 4096 + 2) a bs) (fun p t => emit (.hostWrite p.1 p.2) t) s

/-- Write what is left of a job's output, once memory requests may be made, and issue the zero-length read that confirms it (R108, R209, R210). -/
def sendOutput (slot : Nat) (s : State) : State :=
  match jobAt s slot with
  | none => s
  | some j =>
    if j.stage ≠ .outputting ∨ ¬ j.unsent ∨ ¬ mayRequest s then s
    else
      emit (.hostRead j.hdr.outPtr 0) (writePieces (j.hdr.outPtr + j.written.length) (j.out.drop j.written.length)
        (modJob slot (fun j => { j with written := j.out, unsent := false }) s))

/-- A job has its output, which is written to host memory and confirmed by the zero-length read (R116, R209, R210). -/
def writeOutput (slot : Nat) (result : Nat) (bs : Bytes) (s : State) : State :=
  sendOutput slot (modJob slot (fun j => { j with stage := .outputting, result := result, out := bs, unsent := true }) s)

/-- The 16-byte chain report (R222). -/
def chainReport (j : Job) : Bytes :=
  (List.range 8).flatMap (fun i => leBytes 2 (if i < j.steps.length then (stepAt j i).result else 0xFFFF))

/-- The result of a step is a success (R231). -/
def success (r : Nat) : Bool := decide (r / 256 = 0)

/-- Close the job when its steps have ended: a failed step decides the result once no step runs (R222), in the reference authorisation once no engine step runs (R320);
with every step succeeded the output is released (R209, R221). -/
def advanceJob (slot : Nat) (s : State) : State :=
  match jobAt s slot with
  | none => s
  | some j =>
    if j.stage = .finished ∨ j.stage = .outputting then s
    else
      let running := j.steps.any (fun st => decide (st.stage = .bound ∨ st.stage = .parked) || (decide (st.stage = .waiting ∧ j.hdr.opcode ≠ 0x0380) && st.checked))
      match j.steps.find? (fun st => decide (st.stage = .ended) && !success st.result) with
      | some st =>
        if running then s
        else if isChained j ∧ 16 ≤ j.hdr.outLen then writeOutput slot st.result (chainReport j) (dropLedger slot s)
        else finishJob slot st.result s
      | none =>
        if j.steps.all (fun st => decide (st.stage = .ended)) then
          let outs := if isChained j then j.steps.filter (fun st => st.step.out) else j.steps
          let bs := outs.flatMap (fun st => st.bytes)
          let result := (j.steps.getLastD {}).result
          if outs.any (fun st => st.secret && !st.bytes.isEmpty) then finishJob slot 0x0903 s
          else if j.hdr.outLen < bs.length then finishJob slot 0x0407 s
          else if bs = [] then finishJob slot (if isChained j then 0 else result) s
          else writeOutput slot (if isChained j then 0 else result) bs (dropLedger slot s)
        else s

/-- A result that R273 or R274 gives. -/
def sessionFailure (result : Nat) : Bool := decide (0x0801 ≤ result ∧ result ≤ 0x0804)

/-- A job that fails under R273 or R274 is counted once, whatever number of its steps fail so (R286). -/
def countSession (j : Job) (result : Nat) (s : State) : State :=
  if sessionFailure result && j.steps.all (fun x => !sessionFailure x.result) then { s with keys := { s.keys with sesFail := satInc s.keys.sesFail } } else s

/-- A step ends with what its operation delivered: the bytes go to the operand buffer with their mark (R213, R219), or, where the result needs more
than dst_cap, the step fails and writes nothing (R216). -/
def endStep (slot i : Nat) (d : Delivered) (s : State) : State :=
  match jobAt s slot with
  | none => s
  | some j =>
    let st := (stepAt j i).step
    let tooSmall := isChained j && success d.result && decide (st.dstCap < d.bytes.length)
    let r := if tooSmall then 0x0407 else d.result
    let out := if success r then d.bytes else []
    let ended := fun (x : StepRun) => { dropKeys x with
      stage := .ended, result := r, bytes := out, secret := d.secret, lastSwath := now s, work := [], delivered := none }
    let s1 := countSession j r (modStep slot i ended s)
    let s2 := if isChained j then modJob slot (fun j => { j with buf := bufWrite (bufWrite j.buf st.dstOff d.secret out) st.dstOff false (out.take (if d.secret then d.clear else 0)) }) s1 else s1
    advanceJob slot s2

/-- A step fails (R222). -/
def failStep (slot i result : Nat) (s : State) : State := endStep slot i { result := result } (dropStep slot (some i) s)

/-- End a job with one result whatever its steps did: an engine fault, an input error, a withdrawal; its work is aborted (R45, R71, R127). -/
def abortJob (slot result : Nat) (s : State) : State :=
  match jobAt s slot with
  | some j => if j.stage = .finished then s else finishJob slot result s
  | none => s

/-- A withdrawn job's operands and operand buffer are wiped; its record keeps the digest of its input (R143, R214, R234, R461). -/
def wipeJob (j : Job) : Job :=
  { j with inDig := some (inputDigest j.slots (if j.inputRead then j.input else [])), slots := [], input := [], buf := [], extra := [],
           steps := j.steps.map (fun x => { dropKeys x with bytes := [], delivered := none }) }

/-- A job that has not finished is withdrawn with a result (R71, R132, R143, R214, R234). -/
def endWithdrawn (slot result : Nat) (s : State) : State :=
  match jobAt s slot with
  | some j => if j.stage = .finished then s else modJob slot wipeJob (finishJob slot result s)
  | none => s

/-- A job's ledger entries move to its margin swath: in swath `first` those of the steps that move, later all (R58, R67). -/
def moveEntries (first : Nat) (moves : Nat → Bool) (slot : Nat) (s : State) : State :=
  let gone := fun (w : Nat) (e : LedgerEntry) => decide (e.slot = slot) && (decide (first < w) || (decide (w = first) && moves e.step))
  { s with sched := { s.sched with ledger := s.sched.ledger.map (fun l => { l with entries := l.entries.filter (fun e => !gone l.swath e) }) } }

/-- A class 0 job uses its margin swath: from swath `first` on, the engine steps of the steps that move, bound now where that swath has come, and every later engine
step run one swath later. A second event ends it with RES_FAULT_MARGIN (R67, R68, R94). -/
def useMargin (first : Nat) (moves : Nat → Bool) (slot : Nat) (s : State) : State :=
  match jobAt s slot with
  | none => s
  | some j =>
    if j.first = none ∨ j.stage = .finished then s
    else if j.margin then abortJob slot 0x0504 s
    else
      let back := fun (i : Nat) (t : State) =>
        if moves i ∧ (stepAt j i).stage = .bound then unbind slot (some i) (modStep slot i (fun x => { x with stage := .waiting }) t) else t
      let s1 := modJob slot (fun j => { j with margin := true, marginFrom := max first (now s) + 1 }) { s with sched := { s.sched with margin := satInc s.sched.margin } }
      raise parserPage 0x012F slot (moveEntries first moves slot (if first ≤ now s then repeatIdx j.steps.length back s1 else s1))

/-- Jobs with a step running or parked on an engine, or a ledger entry on it (R762). -/
def jobsOn (s : State) (kind idx : Nat) : List Nat :=
  let e := engAt s kind idx
  let here := e.running.map (fun b => b.slot) ++ (match e.parked with | some (a, _) => [a] | none => [])
  let ledger := s.sched.ledger.flatMap (fun l => (l.entries.filter (fun x => decide (x.kind = kind ∧ x.engine = idx))).map (fun x => x.slot))
  (here ++ ledger).eraseDups

/-- Jobs with a step running or parked on an engine (R741). -/
def jobsHeld (s : State) (kind idx : Nat) : List Nat :=
  let e := engAt s kind idx
  (e.running.map (fun b => b.slot) ++ (match e.parked with | some (a, _) => [a] | none => [])).eraseDups

/-- Ask for input of a job at in_ptr: a chained job's whole, else the next segment of at most 4 KiB once those before have come, where memory requests may be made (R108,
R213, R793). -/
def askInput (slot : Nat) (s : State) : State :=
  match jobAt s slot with
  | none => s
  | some j =>
    let n := if isChained j then j.hdr.inLen else min 4096 (j.hdr.inLen - j.asked)
    if j.hdr.inlineIn ∨ j.hdr.inLen ≤ j.asked ∨ j.input.length < j.asked ∨ j.stage = .finished ∨ j.stage = .outputting ∨ j.withdraw.isSome ∨ ¬ mayRequest s then s
    else emit (.hostRead (j.hdr.inPtr + j.asked) n) (modJob slot (fun j => { j with asked := j.asked + n }) s)

/-- A job is to complete with a result at the next close, unless it has finished; its engine work is aborted at once (R71, R183, R352, R386). -/
def withdrawJob (result slot : Nat) (s : State) : State :=
  match jobAt s slot with
  | some j =>
    if j.stage = .finished ∨ j.withdraw.isSome then s
    else dropStep slot none (modJob slot (fun j => { j with withdraw := some result, steps := j.steps.map dropKeys }) s)
  | none => s

/-! ### Digests and records of jobs -/

/-- The JOB record of a job (R459, R460). -/
def jobRecord (j : Job) (result : Nat) : AuditBody :=
  .job j.chan j.hdr.opcode result
    (recordInfo j) j.hdr.keyA
    (match j.inDig with | some d => d | none => inputDigest j.slots (if j.inputRead then j.input else [])) (outputDigest j.written)

/-- The JOB record of a refusal (R459 to R461). -/
def refusalRecord (ch : Nat) (w : Waiting) : AuditBody := .job ch w.opcode w.result w.cls w.keyA w.inDig emptyDigest

/-! ### The windrow -/

/-- One completion that waits for a channel (R171). -/
structure Item where
  slot : Option Nat
  cookie : Nat
  sqIndex : Nat
  result : Nat
  flags : Nat
  cls : Nat
  outLen : Nat
  swath : Nat
  record : AuditBody

/-- Insert by swath, keeping the order within one swath. -/
def insertItem (x : Item) : List Item → List Item
  | [] => [x]
  | y :: ys => if x.swath < y.swath then x :: y :: ys else y :: insertItem x ys

/-- Order by swath, earliest first, keeping the order within one swath (R171). -/
def bySwath (l : List Item) : List Item := l.foldl (fun acc x => insertItem x acc) []

/-- The completion of a finished job. -/
def jobItem (slot : Nat) (j : Job) : Item :=
  { slot := some slot, cookie := j.hdr.cookie, sqIndex := j.sqIndex, result := j.result, cls := j.hdr.cls,
    flags := completionFlags j,
    outLen := j.written.length, swath := j.finished, record := jobRecord j j.result }

/-- The completion of a refusal. -/
def refusalItem (ch : Nat) (w : Waiting) : Item :=
  { slot := none, cookie := w.cookie, sqIndex := w.sqIndex, result := w.result, cls := w.cls, flags := 16 * w.cls, outLen := 0,
    swath := w.swath, record := refusalRecord ch w }

/-- Completions waiting for a channel, in posting order within their groups: jobs by slot number, then refusals in order of decision, by
swath (R171). -/
def waitingItems (s : State) (n : Nat) : List Item :=
  bySwath ((s.jobs.filter (fun e => decide (e.2.chan = n ∧ e.2.stage = .finished))).map (fun e => jobItem e.1 e.2)
    ++ (chanAt s n).refusals.map (refusalItem n))

/-- Free completion entries: F of R172. -/
def freeEntries (c : Chan) : Nat := cqSize c - (c.cqTail - c.cqHead).toNat

/-- The 32 bytes of a completion entry (R166). -/
def completionBytes (c : Chan) (ch : Nat) (cookie sqIndex result flags outLen swath auditSeq : Nat) : Bytes :=
  leBytes 8 cookie ++ leBytes 4 sqIndex ++ leBytes 2 result ++ leBytes 1 (flags + phaseBit c.cqTail.toNat c.cqLog2.toNat) ++ leBytes 1 ch
    ++ leBytes 4 outLen ++ leBytes 4 swath ++ leBytes 8 auditSeq

/-- Host address of a completion entry: the ring starts at CHN_CQ_BASE (R165). -/
def entryAddr (c : Chan) : Nat := c.cqBase.toNat * 4096 + 32 * (c.cqTail.toNat % cqSize c)

/-- Write one completion entry and advance the producer index (R165 to R167). -/
def postEntry (n cookie sqIndex result flags outLen auditSeq : Nat) (s : State) : State :=
  let c := chanAt s n
  emit (.completion n c.cqTail.toNat (entryAddr c) .wowrInv (completionBytes c n cookie sqIndex result flags outLen (now s) auditSeq))
    (modChan n (fun c => { c with cqTail := c.cqTail + 1 }) s)

/-- How a windrow's completion entry is written (R102, R115): by a posted write where no CXL.cache request is made, as a whole line where the windrow holds both
its halves, else as a part of one. -/
def writeKind (s : State) (others : List Output) (addr : Nat) : WriteKind :=
  if ¬ cacheActive s then .posted
  else if others.any (fun o => match o with | .completion _ _ a _ _ => decide (a / 64 = addr / 64 ∧ a ≠ addr) | _ => false) then .itoMWr else .wowrInv

/-- The entries that a windrow has written since `before` take the requests that R115 gives them. -/
def wholeLines (before : Nat) (s : State) : State :=
  let new := s.out.take (s.out.length - before)
  { s with out := new.map (fun o => match o with
      | .completion n i a _ b => .completion n i a (writeKind s new a) b
      | o => o) ++ s.out.drop new.length }

/-- Post one completion with its audit record (R171, R186, R233); its job slot is released and its buffer wiped (R214, R234). -/
def postItem (n : Nat) (x : Item) (s : State) : State :=
  let r := if x.result = 0x0B01 then (0, s) else appendOrLose x.record s
  let s1 := postEntry n x.cookie x.sqIndex x.result x.flags x.outLen r.1 r.2
  let s2 := match x.slot with
    | some k => { s1 with jobs := merase k s1.jobs }
    | none => modChan n (fun c => { c with refusals := c.refusals.filter (fun w => decide (w.sqIndex ≠ x.sqIndex)) }) s1
  modChan n (fun c => { c with posted := c.posted + 1, postedClass0 := c.postedClass0 || decide (x.cls = 0), postedFirst := if c.posted = 0 then now s else c.postedFirst }) s2

/-- Post the items of a group while the headroom rule lets them through (R172, R173). -/
def postGroup (n : Nat) (room : Chan → Bool) (l : List Item) (s : State) : State :=
  forAll l (fun x s => if room (chanAt s n) then postItem n x s else s) s

/-- A channel's windrow (R115, R171 to R173): class 0, the halt notice, classes 1 to 3; CHN_ALERT.cq_full where a completion did not fit. A
refusal that does not fit keeps its place, so refusals leave their list in order. -/
def windrow (n : Nat) (s : State) : State :=
  let items := waitingItems s n
  let s1 := postGroup n (fun c => decide (2 ≤ freeEntries c)) (items.filter (fun x => decide (x.cls = 0))) s
  let s2 := match (chanAt s1 n).haltNotice with
    | some (r, i) =>
      if 1 ≤ freeEntries (chanAt s1 n) then modChan n (fun c => { c with haltNotice := none }) (postEntry n 0 i r 8 0 0 s1) else s1
    | none => s1
  let s3 := wholeLines s.out.length (postGroup n (fun c => decide (c.cqReserve.toNat < freeEntries c)) (items.filter (fun x => decide (x.cls ≠ 0))) s2)
  if waitingItems s3 n = [] ∧ (chanAt s3 n).haltNotice = none then s3
  else if (chanAt s3 n).alert.getLsbD 1 then s3 else raiseChan n 0x011D 0 (alert n 1 s3)

end Sys2Proof.Machine
end

