-- ==== Sys2Proof/Machine/OpTable.lean ====
section
/-!
DEFINITION. Sys2Proof/Machine/OpTable.lean: the opcode entries of R225: class 0 path and costs, cost of the whole operation, key positions
with their classes, usage and zone-root purposes, lengths, secret positions and the narrower life-cycle states.
-/
namespace Sys2Proof.Machine
open Sys2Proof

/-- Whether an opcode uses a key field (R206, R225). -/
inductive KeyUse where
  | unused | optional | required
deriving DecidableEq, Repr

/-- A key position of an opcode (R225): stored classes, usage bits, and the zone-root purposes it takes; no classes listed means every class. -/
structure KeyPos where
  classes : List Nat
  usage : Nat
  purposes : List Nat := []
  optional : Bool := false
deriving DecidableEq, Repr

/-- Engine work of a class 0 path: offset, kind, slices, and the step of a composite it belongs to (R56, R223). -/
structure PathCost where
  offset : Nat
  kind : Nat
  slices : Nat
  step : Nat := 0
deriving DecidableEq, Repr

/-- An opcode entry (R225). -/
structure OpEntry where
  code : Nat
  /-- P, 0 for an opcode with no class 0 path (R56, R92). -/
  path : Nat := 0
  short : Bool := false
  eligible : Bool := false
  costs : List PathCost := []
  /-- Cost of the whole operation in its form of the cost table, by kind (R91, offset 3; R366). -/
  whole : List (Nat × Nat) := []
  chainable : Bool := false
  /-- The fixed step opcodes of a composite opcode (R223). -/
  composite : List Nat := []
  /-- It exists only as a fixed step of a composite opcode (R228, 1e). -/
  fixedOnly : Bool := false
  posA : Option KeyPos := none
  posB : Option KeyPos := none
  /-- key_a is the subject of a key management opcode (R276). -/
  subject : Bool := false
  /-- It consumes random output (R63, check 5; R506 to R508). -/
  random : Bool := false
  /-- Limits of in_len for a job that is not chained (R228, 1g). -/
  inMin : Nat := 0
  inMax : Nat := 2 ^ 32 - 1
  /-- The result size where the opcode fixes it (R228, 1h). -/
  outMin : Nat := 0
  /-- The src position accepts secret data (R220, R292, R363, R444). -/
  secretSrc : Bool := false
  /-- Life-cycle states that admit it, where narrower than R718; empty for those of R718. -/
  lives : List Life := []
deriving DecidableEq, Repr

/-- How an opcode uses a key position. -/
def posUse : Option KeyPos → KeyUse
  | none => .unused
  | some p => if p.optional then .optional else .required

/-- How an opcode uses key_a and key_b (R206). -/
def OpEntry.keyA (e : OpEntry) : KeyUse := posUse e.posA
def OpEntry.keyB (e : OpEntry) : KeyUse := posUse e.posB

/-- Opcode entries, part 1. -/
def opTable0 : List OpEntry := [
  -- OP_SKIP (R227)
  { code := 0x0F00 },
  -- OP_CHAIN (R227)
  { code := 0x0F01, inMax := 8192 },
  -- OP_NOP (R227)
  { code := 0x0F02, inMax := 0, path := 1, short := true, eligible := true },
  -- OP_PK_VALIDATE
  { code := 0x0101, costs := [{ offset := 0, kind := 0, slices := 2 }], whole := [(0, 2)], inMin := 2, inMax := 8192, path := 1, short := true, eligible := true, chainable := true },
  -- OP_PK_ECDSA_SIGN
  { code := 0x0111, costs := [{ offset := 0, kind := 0, slices := 32 }, { offset := 0, kind := 2, slices := 3 }, { offset := 1, kind := 0, slices := 45 }], whole := [(0, 77), (2, 3)], posA := some { classes := [0x30], usage := 0x40 }, random := true, inMax := 1048576, path := 2, eligible := true, chainable := true },
  -- OP_PK_ECDSA_VERIFY
  { code := 0x0112, costs := [{ offset := 0, kind := 0, slices := 52 }, { offset := 0, kind := 2, slices := 3 }], whole := [(0, 52), (2, 3)], posA := some { classes := [0x40], usage := 0x80, optional := true }, inMax := 1048846, path := 1, short := true, eligible := true, chainable := true },
  -- OP_PK_ECDSA_PRESIGN
  { code := 0x0113, whole := [(0, 32)], posA := some { classes := [0x30], usage := 0x40 }, random := true, fixedOnly := true },
  -- OP_PK_ECDSA_SIGN_PRESIGNED
  { code := 0x0114, whole := [(0, 45), (2, 1)], posA := some { classes := [0x30], usage := 0x40 }, random := true, fixedOnly := true, secretSrc := true },
  -- OP_PK_EDDSA_SIGN
  { code := 0x0121, costs := [{ offset := 0, kind := 0, slices := 18 }, { offset := 0, kind := 2, slices := 2 }, { offset := 1, kind := 0, slices := 47 }, { offset := 1, kind := 2, slices := 2 }], whole := [(0, 65), (2, 4)], posA := some { classes := [0x30], usage := 0x40 }, random := true, inMax := 1048576, path := 2, eligible := true, chainable := true },
  -- OP_PK_EDDSA_VERIFY
  { code := 0x0122, whole := [(0, 71), (2, 2)], posA := some { classes := [0x40], usage := 0x80, optional := true }, inMax := 1048756, chainable := true },
  -- OP_PK_ECDH
  { code := 0x0131, whole := [(0, 32)], posA := some { classes := [0x30], usage := 0x200 }, random := true, inMin := 32, inMax := 133, chainable := true },
  -- OP_PK_RSA_SIGN
  { code := 0x0141, whole := [(0, 2560), (2, 3)], posA := some { classes := [0x31], usage := 0x40 }, random := true, inMin := 4, inMax := 1048580, chainable := true }]

/-- Opcode entries, part 2. -/
def opTable1 : List OpEntry := [
  -- OP_PK_RSA_VERIFY
  { code := 0x0142, costs := [{ offset := 0, kind := 0, slices := 39 }, { offset := 0, kind := 2, slices := 3 }], whole := [(0, 39), (2, 3)], posA := some { classes := [0x41], usage := 0x80 }, inMin := 132, inMax := 1049604, path := 1, short := true, eligible := true, chainable := true },
  -- OP_PK_RSA_ENCRYPT
  { code := 0x0143, whole := [(0, 39)], posA := some { classes := [0x41], usage := 0x1 }, random := true, inMin := 4, inMax := 1028, chainable := true },
  -- OP_PK_RSA_DECRYPT
  { code := 0x0144, whole := [(0, 2560)], posA := some { classes := [0x31], usage := 0x2 }, random := true, inMin := 260, inMax := 1028, chainable := true },
  -- OP_PK_MLDSA_SIGN
  { code := 0x0151, whole := [(0, 576), (2, 1)], posA := some { classes := [0x32], usage := 0x40 }, random := true, inMin := 1, inMax := 1048832, chainable := true },
  -- OP_PK_MLDSA_VERIFY
  { code := 0x0152, whole := [(0, 176), (2, 1)], posA := some { classes := [0x42], usage := 0x80 }, inMin := 1, inMax := 1053459, chainable := true },
  -- OP_PK_MLKEM_ENCAPS
  { code := 0x0161, whole := [(0, 80)], random := true, inMin := 800, inMax := 1568, chainable := true },
  -- OP_PK_MLKEM_DECAPS
  { code := 0x0162, whole := [(0, 96)], posA := some { classes := [0x33], usage := 0x200 }, random := true, inMin := 768, inMax := 1568, chainable := true },
  -- OP_PK_SLHDSA_VERIFY
  { code := 0x0171, whole := [(2, 800)], posA := some { classes := [0x43], usage := 0x80 }, inMin := 1, inMax := 1098688, chainable := true },
  -- OP_SYM_CBC_ENCRYPT
  { code := 0x0201, costs := [{ offset := 0, kind := 1, slices := 40 }], whole := [(1, 40)], posA := some { classes := [0x10, 0x13], usage := 0x1, purposes := [0x04, 0x0A] }, inMin := 4, inMax := 67109968, path := 1, short := true, eligible := true, chainable := true, random := true },
  -- OP_SYM_CBC_DECRYPT
  { code := 0x0202, costs := [{ offset := 0, kind := 1, slices := 40 }], whole := [(1, 40)], posA := some { classes := [0x10, 0x13], usage := 0x2, purposes := [0x04, 0x0A] }, inMin := 4, inMax := 67109968, path := 1, short := true, eligible := true, chainable := true },
  -- OP_SYM_CTR_ENCRYPT
  { code := 0x0203, costs := [{ offset := 0, kind := 1, slices := 18 }], whole := [(1, 18)], posA := some { classes := [0x10], usage := 0x1, purposes := [0x04, 0x0A] }, inMin := 4, inMax := 67109968, path := 1, short := true, eligible := true, chainable := true },
  -- OP_SYM_CTR_DECRYPT
  { code := 0x0204, costs := [{ offset := 0, kind := 1, slices := 18 }], whole := [(1, 18)], posA := some { classes := [0x10], usage := 0x2, purposes := [0x04, 0x0A] }, inMin := 4, inMax := 67109968, path := 1, short := true, eligible := true, chainable := true }]

/-- Opcode entries, part 3. -/
def opTable2 : List OpEntry := [
  -- OP_SYM_GCM_ENCRYPT
  { code := 0x0211, costs := [{ offset := 0, kind := 1, slices := 22 }], whole := [(1, 22)], posA := some { classes := [0x10], usage := 0x1, purposes := [0x04, 0x0A] }, inMin := 4, inMax := 67109968, path := 1, short := true, eligible := true, chainable := true },
  -- OP_SYM_GCM_DECRYPT
  { code := 0x0212, costs := [{ offset := 0, kind := 1, slices := 22 }], whole := [(1, 22)], posA := some { classes := [0x10], usage := 0x2, purposes := [0x04, 0x0A] }, inMin := 4, inMax := 67109968, path := 1, short := true, eligible := true, chainable := true },
  -- OP_SYM_CMAC
  { code := 0x0224, costs := [{ offset := 0, kind := 1, slices := 19 }], whole := [(1, 19)], posA := some { classes := [0x12], usage := 0x10, purposes := [0x03, 0x0A] }, inMin := 4, inMax := 67109968, path := 1, short := true, eligible := true, chainable := true },
  -- OP_SYM_CMAC_VERIFY
  { code := 0x0225, costs := [{ offset := 0, kind := 1, slices := 19 }], whole := [(1, 19)], posA := some { classes := [0x12], usage := 0x20, purposes := [0x03, 0x0A] }, inMin := 4, inMax := 67109968, path := 1, short := true, eligible := true, chainable := true },
  -- OP_SYM_XTS_ENCRYPT
  { code := 0x0231, costs := [{ offset := 0, kind := 1, slices := 36 }], whole := [(1, 36)], posA := some { classes := [0x10], usage := 0x1, purposes := [0x04, 0x0A] }, inMin := 4, inMax := 67109968, path := 1, short := true, eligible := true, chainable := true, posB := some { classes := [0x10], usage := 0x1, purposes := [0x04, 0x0A] } },
  -- OP_SYM_XTS_DECRYPT
  { code := 0x0232, costs := [{ offset := 0, kind := 1, slices := 36 }], whole := [(1, 36)], posA := some { classes := [0x10], usage := 0x2, purposes := [0x04, 0x0A] }, inMin := 4, inMax := 67109968, path := 1, short := true, eligible := true, chainable := true, posB := some { classes := [0x10], usage := 0x1, purposes := [0x04, 0x0A] } },
  -- OP_SYM_KEY_WRAP
  { code := 0x0241, costs := [{ offset := 0, kind := 1, slices := 43 }], whole := [(1, 43)], posA := some { classes := [0x11], usage := 0x4, purposes := [0x09] }, inMin := 4, inMax := 67109968, path := 1, short := true, eligible := true, chainable := true },
  -- OP_SYM_KEY_UNWRAP
  { code := 0x0242, costs := [{ offset := 0, kind := 1, slices := 43 }], whole := [(1, 43)], posA := some { classes := [0x11], usage := 0x8, purposes := [0x09] }, inMin := 4, inMax := 67109968, path := 1, short := true, eligible := true, chainable := true },
  -- OP_PAY_PIN_TRANSLATE
  { code := 0x0301, costs := [{ offset := 0, kind := 1, slices := 14 }], whole := [(1, 14)], path := 1, short := true, eligible := true, chainable := true, posA := some { classes := [0x20], usage := 0x400, purposes := [0x01] }, posB := some { classes := [0x20], usage := 0x800, purposes := [0x01] }, random := true, inMin := 112, inMax := 112 },
  -- OP_PAY_PIN_TRANSLATE_AES_DUKPT
  { code := 0x0302, costs := [{ offset := 0, kind := 1, slices := 42 }], whole := [(1, 42)], path := 1, short := true, eligible := true, chainable := true, posA := some { classes := [0x24], usage := 0x80000, purposes := [0x07] }, posB := some { classes := [0x20], usage := 0x800, purposes := [0x01] }, random := true, inMin := 112, inMax := 112 },
  -- OP_PAY_PIN_TRANSLATE_TDES_DUKPT
  { code := 0x0303, whole := [(1, 61)], posA := some { classes := [0x24], usage := 0x80000, purposes := [0x07] }, posB := some { classes := [0x20], usage := 0x800, purposes := [0x01] }, random := true, inMin := 112, inMax := 112, chainable := true },
  -- OP_PAY_PIN_VERIFY
  { code := 0x0311, costs := [{ offset := 0, kind := 1, slices := 14 }], whole := [(1, 14)], path := 1, short := true, eligible := true, chainable := true, posA := some { classes := [0x20], usage := 0x400, purposes := [0x01] }, posB := some { classes := [0x23], usage := 0x1000, purposes := [0x02] }, inMin := 122, inMax := 176, secretSrc := true }]

/-- Opcode entries, part 4. -/
def opTable3 : List OpEntry := [
  -- OP_PAY_MAC_GENERATE
  { code := 0x0321, costs := [{ offset := 0, kind := 1, slices := 42 }], whole := [(1, 42)], path := 1, short := true, eligible := true, chainable := true, posA := some { classes := [0x12, 0x14], usage := 0x10, purposes := [0x03] }, inMin := 64, inMax := 1048640 },
  -- OP_PAY_MAC_VERIFY
  { code := 0x0322, costs := [{ offset := 0, kind := 1, slices := 42 }], whole := [(1, 42)], path := 1, short := true, eligible := true, chainable := true, posA := some { classes := [0x12, 0x14], usage := 0x20, purposes := [0x03] }, inMin := 64, inMax := 1048640 },
  -- OP_PAY_CVV_GENERATE
  { code := 0x0330, costs := [{ offset := 0, kind := 1, slices := 8 }], whole := [(1, 8)], path := 1, short := true, eligible := true, chainable := true, posA := some { classes := [0x21], usage := 0x2000, purposes := [0x05] }, inMin := 18, inMax := 104, outMin := 2, secretSrc := true },
  -- OP_PAY_CVV_VERIFY
  { code := 0x0331, costs := [{ offset := 0, kind := 1, slices := 8 }], whole := [(1, 8)], path := 1, short := true, eligible := true, chainable := true, posA := some { classes := [0x21], usage := 0x4000, purposes := [0x05] }, inMin := 18, inMax := 104, secretSrc := true },
  -- OP_PAY_ARQC_VERIFY
  { code := 0x0341, costs := [{ offset := 0, kind := 1, slices := 49 }], whole := [(1, 49)], path := 1, short := true, eligible := true, chainable := true, posA := some { classes := [0x22], usage := 0x8000, purposes := [0x06] }, inMin := 74, inMax := 383, outMin := 8, secretSrc := true },
  -- OP_PAY_ARPC_GENERATE
  { code := 0x0342, costs := [{ offset := 0, kind := 1, slices := 12 }], whole := [(1, 12)], path := 1, short := true, eligible := true, chainable := true, posA := some { classes := [0x22], usage := 0x10000, purposes := [0x06] }, inMin := 74, inMax := 383, outMin := 8, secretSrc := true },
  -- OP_PAY_FF1_ENCRYPT
  { code := 0x0351, costs := [{ offset := 0, kind := 1, slices := 30 }], whole := [(1, 30)], path := 1, short := true, eligible := true, chainable := true, posA := some { classes := [0x16], usage := 0x20000, purposes := [0x08] }, inMin := 74, inMax := 128, outMin := 10, secretSrc := true },
  -- OP_PAY_FF1_DECRYPT
  { code := 0x0352, costs := [{ offset := 0, kind := 1, slices := 30 }], whole := [(1, 30)], path := 1, short := true, eligible := true, chainable := true, posA := some { classes := [0x16], usage := 0x40000, purposes := [0x08] }, inMin := 74, inMax := 74, outMin := 10 },
  -- OP_PAY_AUTH_REF (R315, R321)
  { code := 0x0380, path := 3, eligible := true, random := true, outMin := 88, inMax := 8192, composite := [0x0112, 0x0402, 0x0302, 0x0341, 0x0113, 0x0114], costs := [{ offset := 0, kind := 0, slices := 52, step := 0 }, { offset := 0, kind := 1, slices := 42, step := 2 }, { offset := 0, kind := 2, slices := 3, step := 0 }, { offset := 0, kind := 3, slices := 2, step := 1 }, { offset := 0, kind := 4, slices := 1, step := 1 }, { offset := 1, kind := 0, slices := 32, step := 4 }, { offset := 1, kind := 1, slices := 14, step := 3 }, { offset := 1, kind := 3, slices := 5, step := 1 }, { offset := 1, kind := 4, slices := 1, step := 1 }, { offset := 2, kind := 0, slices := 45, step := 5 }, { offset := 2, kind := 2, slices := 1, step := 5 }], whole := [(0, 129), (1, 56), (2, 4), (3, 7), (4, 2)] },
  -- OP_VLT_TOKENISE
  { code := 0x0401, costs := [{ offset := 0, kind := 3, slices := 14 }, { offset := 0, kind := 4, slices := 1 }, { offset := 1, kind := 3, slices := 5 }, { offset := 1, kind := 4, slices := 1 }], whole := [(3, 19), (4, 2)], inMin := 18, inMax := 72, outMin := 12, secretSrc := true, path := 2, eligible := true, chainable := true },
  -- OP_VLT_DETOKENISE
  { code := 0x0402, costs := [{ offset := 0, kind := 3, slices := 2 }, { offset := 0, kind := 4, slices := 1 }, { offset := 1, kind := 3, slices := 5 }, { offset := 1, kind := 4, slices := 1 }], whole := [(3, 7), (4, 2)], inMin := 16, inMax := 16, outMin := 64, path := 2, eligible := true, chainable := true },
  -- OP_VLT_QUERY
  { code := 0x0403, costs := [{ offset := 0, kind := 3, slices := 2 }, { offset := 0, kind := 4, slices := 1 }, { offset := 1, kind := 3, slices := 2 }, { offset := 1, kind := 4, slices := 1 }], whole := [(3, 4), (4, 2)], inMin := 16, inMax := 16, outMin := 24, path := 2, eligible := true, chainable := true }]

/-- Opcode entries, part 5. No rule gives OP_VLT_STATUS_SET a cost: RECORD 19 and NAND 2 are taken, those of a tokenise that
programs (DESIGN CHOICE, log entry 80). OP_KEY_GENERATE shows its longest key pair of a fixed time, since an RSA key pair is charged as run (R357; DESIGN CHOICE, log entry
80). -/
def opTable4 : List OpEntry := [
  -- OP_VLT_LOOKUP
  { code := 0x0404, costs := [{ offset := 0, kind := 3, slices := 3 }, { offset := 0, kind := 4, slices := 1 }, { offset := 1, kind := 3, slices := 5 }, { offset := 1, kind := 4, slices := 1 }], whole := [(3, 8), (4, 2)], inMin := 12, inMax := 66, outMin := 10, secretSrc := true, path := 2, eligible := true, chainable := true },
  -- OP_VLT_STATUS_SET
  { code := 0x0405, whole := [(3, 19), (4, 2)], inMin := 20, inMax := 20, chainable := true },
  -- OP_VLT_DOMAIN_SET
  { code := 0x0410, lives := [.commission, .operate, .maintain], inMin := 66, inMax := 66 },
  -- OP_VLT_DOMAIN_INFO
  { code := 0x0411, inMin := 2, inMax := 2, outMin := 68 },
  -- OP_KEY_GENERATE
  { code := 0x0501, lives := [.commission, .operate, .maintain], random := true, whole := [(0, 448)], inMin := 4, inMax := 4, outMin := 8 },
  -- OP_KEY_IMPORT_X9143
  { code := 0x0502, lives := [.commission, .operate, .maintain], posA := some { classes := [0x11], usage := 0x100000 }, whole := [(1, 400)], inMin := 1, inMax := 4096, outMin := 8 },
  -- OP_KEY_IMPORT_RKL
  { code := 0x0503, lives := [.commission, .operate, .maintain], posA := some { classes := [0x33], usage := 0x200 }, posB := some { classes := [0x40, 0x42], usage := 0x80 }, whole := [(0, 522), (1, 400)], inMin := 1670, inMax := 16384, outMin := 8 },
  -- OP_KEY_IMPORT_PUBLIC
  { code := 0x0504, lives := [.commission, .operate, .maintain], whole := [(0, 52)], inMin := 5, inMax := 4096, outMin := 8 },
  -- OP_KEY_INFO
  { code := 0x0505, posA := some { classes := [], usage := 0x0 }, subject := true, lives := [.commission, .operate, .maintain], inMax := 0 },
  -- OP_KEY_SET_STATUS
  { code := 0x0506, posA := some { classes := [], usage := 0x0 }, subject := true, lives := [.commission, .operate, .maintain], inMin := 1, inMax := 1 },
  -- OP_KEY_REVOKE
  { code := 0x0507, posA := some { classes := [], usage := 0x0 }, subject := true, lives := [.commission, .operate, .maintain], inMax := 0 },
  -- OP_KEY_DESTROY
  { code := 0x0508, posA := some { classes := [], usage := 0x0 }, subject := true, lives := [.commission, .operate, .maintain], inMax := 0 }]

/-- Opcode entries, part 6. -/
def opTable5 : List OpEntry := [
  -- OP_KEY_REPLICATE
  { code := 0x0509, posA := some { classes := [], usage := 0x0 }, subject := true, lives := [.commission, .operate, .maintain], inMin := 1, inMax := 1 },
  -- OP_KEY_PIN
  { code := 0x050A, posA := some { classes := [], usage := 0x0 }, subject := true, lives := [.commission, .operate, .maintain], inMax := 0 },
  -- OP_KEY_UNPIN
  { code := 0x050B, posA := some { classes := [], usage := 0x0 }, subject := true, lives := [.commission, .operate, .maintain], inMax := 0 },
  -- OP_KEY_ROOT_LOAD
  { code := 0x050C, lives := [.commission], inMax := 0 },
  -- OP_KEY_TENANT_SIGNER
  { code := 0x050D, posA := some { classes := [0x06], usage := 0x0 }, subject := true, lives := [.commission, .maintain], inMax := 0 },
  -- OP_SES_APP_ENROL
  { code := 0x0510, lives := [.commission, .maintain], whole := [(0, 4)], inMin := 99, inMax := 99, outMin := 8 },
  -- OP_SES_OPEN
  { code := 0x0511, lives := [.commission, .operate, .maintain], random := true, whole := [(0, 554)], posA := some { classes := [0x05], usage := 0x0 }, inMin := 1413, inMax := 1413, outMin := 1317 },
  -- OP_SES_CLOSE
  { code := 0x0512, lives := [.commission, .operate, .maintain], inMax := 0 },
  -- OP_RNG_GENERATE
  { code := 0x0601, random := true, inMax := 0, outMin := 1, path := 1, short := true, eligible := true, chainable := true },
  -- OP_RNG_RAW
  { code := 0x0603, lives := [.maintain], inMin := 4, inMax := 4, outMin := 1 },
  -- OP_AUD_CHECKPOINT
  { code := 0x0701, inMin := 8, inMax := 8, outMin := 8192 },
  -- OP_AUD_SEGMENT
  { code := 0x0702, inMin := 12, inMax := 12 }]

/-- Opcode entries, part 7. -/
def opTable6 : List OpEntry := [
  -- OP_TEN_LOAD
  { code := 0x0801, lives := [.commission, .operate, .maintain], posA := some { classes := [0x06], usage := 0x80 }, whole := [(0, 288), (5, 683)], inMin := 256, inMax := 1048576 },
  -- OP_TEN_UNLOAD
  { code := 0x0802, inMin := 2, inMax := 2 },
  -- OP_TEN_INFO
  { code := 0x0803, inMin := 2, inMax := 2, outMin := 112 },
  -- OP_FLS_STAGE_WRITE
  { code := 0x0F10, lives := [.commission, .operate, .maintain], inMin := 40, inMax := 4104 },
  -- OP_FLS_STAGE_READ
  { code := 0x0F11, lives := [.commission, .operate, .maintain], inMin := 12, inMax := 12 },
  -- OP_FLS_STAGE_VERIFY
  { code := 0x0F12, lives := [.commission, .operate, .maintain], whole := [(0, 442), (2, 45282)], inMin := 4, inMax := 4, outMin := 112 },
  -- OP_FLS_ACTIVATE
  { code := 0x0F13, lives := [.commission, .operate, .maintain], inMin := 1, inMax := 1 },
  -- OP_LC_REQUEST
  { code := 0x0F30, inMin := 4, inMax := 264 },
  -- OP_LC_STATUS
  { code := 0x0F31, inMax := 0, outMin := 32 },
  -- OP_HDG_LOG_READ
  { code := 0x0F32, inMin := 4, inMax := 4 },
  -- OP_SELFTEST
  { code := 0x0F40, inMax := 0, outMin := 8 },
  -- OP_SDC_RESTORE
  { code := 0x0F60, lives := [.commission, .maintain], inMin := 8, inMax := 8 }]

/-- Opcode entries, part 8. -/
def opTable7 : List OpEntry := [
  -- OP_SDC_ARCHIVE
  { code := 0x0F61, lives := [.operate, .maintain], inMax := 0 },
  -- OP_SDC_INFO
  { code := 0x0F62, inMax := 0, outMin := 128 },
  -- OP_FOLD_ENROL
  { code := 0x0F70, lives := [.commission, .maintain], inMin := 113, inMax := 113 },
  -- OP_FOLD_REMOVE
  { code := 0x0F71, lives := [.commission, .maintain], inMin := 1, inMax := 1 },
  -- OP_FOLD_INFO
  { code := 0x0F72, inMax := 0, outMin := 512 }]

/-- Every opcode entry of the module (R225): the catalogues of R227, R276, R314, R315, R321, R364, R366, R400, R402, R446, R447, R480, R517,
R558, R625, R682, R688 and R724. -/
def opTable : List OpEntry := opTable0 ++ opTable1 ++ opTable2 ++ opTable3 ++ opTable4 ++ opTable5 ++ opTable6 ++ opTable7
/-- The entry of an opcode; tenant opcodes have none of their own (R224, R558). -/
def opEntry (code : Nat) : Option OpEntry := opTable.find? (fun e => e.code = code)

/-- An opcode of a tenant program (R228, R558). -/
def isTenantOp (code : Nat) : Bool := decide (0x0810 ≤ code % 65536 ∧ code % 65536 ≤ 0x08FF)

end Sys2Proof.Machine
end

