-- ==== Sys2Proof/Machine/Keys.lean ====
section
/-!
DEFINITION. Sys2Proof/Machine/Keys.lean: key handles and blocks (R236 to R246), the root keys (R251 to R253), key bays and pins (R245 to R250),
sessions (R271 to R275), hardware nonces (R388 to R393) and the random output queue as consumers see it (R505 to R508).
-/
namespace Sys2Proof.Machine
open Sys2Proof

/-! ### Blocks and handles -/

/-- The key block whose first block is number `b`. -/
def keyAt (s : State) (b : Nat) : Option KeyBlock := mfind b s.keys.keys

/-- Block number and generation of a handle (R236). -/
def handleBlock (h : Nat) : Nat := h % 2 ^ 24
def handleGen (h : Nat) : Nat := h / 2 ^ 24 % 2 ^ 24

/-- A handle from its fields (R236). -/
def mkHandle (domain cls gen block : Nat) : Nat := domain % 256 * 2 ^ 56 + cls % 256 * 2 ^ 48 + gen % 2 ^ 24 * 2 ^ 24 + block % 2 ^ 24

/-- The key classes (R238). -/
def keyClasses : List Nat :=
  [0x01, 0x02, 0x03, 0x04, 0x05, 0x06, 0x10, 0x11, 0x12, 0x13, 0x14, 0x15, 0x16, 0x20, 0x21, 0x22, 0x23, 0x24, 0x30, 0x31, 0x32, 0x33, 0x40,
   0x41, 0x42, 0x43]

/-- Algorithms a class permits (R238, R242). R266 speaks of a class 0x11 TDES three-key protecting key, and R238 permits class 0x11 AES alone: R238 is followed, so that no
such key exists (DESIGN CHOICE, log entry 80). -/
def classAlgs (c : Nat) : List Nat :=
  let ec := [0x0101, 0x0102, 0x0103, 0x0111, 0x0112, 0x0113, 0x0114]
  let aes := [0x0001, 0x0002, 0x0003]
  let tdes := [0x0011, 0x0012]
  match c with
  | 0x01 => [0x0003] | 0x02 => [0x0102, 0x0132] | 0x03 => [0x0102] | 0x04 => [0x0003] | 0x05 => [0x0102]
  | 0x06 => [0x0102, 0x0132, 0x0133]
  | 0x10 => aes | 0x11 => aes | 0x12 => aes | 0x13 => tdes | 0x14 => tdes | 0x15 => [0x0021, 0x0022] | 0x16 => aes
  | 0x20 => aes ++ tdes | 0x21 => aes ++ tdes | 0x22 => aes ++ tdes | 0x23 => aes ++ tdes | 0x24 => aes ++ tdes
  | 0x30 => ec | 0x31 => [0x0121, 0x0122, 0x0123, 0x0124] | 0x32 => [0x0131, 0x0132, 0x0133]
  | 0x33 => [0x0141, 0x0142, 0x0143, 0x0160] | 0x40 => ec | 0x41 => [0x0121, 0x0122, 0x0123, 0x0124, 0x0125]
  | 0x42 => [0x0131, 0x0132, 0x0133] | 0x43 => (List.range 12).map (fun i => 0x0151 + i)
  | _ => []

/-- Blocks of a key (R239, R240). -/
def keyBlocks (materialLen : Nat) : Nat := if materialLen ≤ 144 then 1 else 1 + ceilDiv (materialLen - 144) 256

/-- Block number `b` lies in a key's run. -/
def blockUsed (s : State) (b : Nat) : Bool := s.keys.keys.any (fun e => decide (e.1 ≤ b ∧ b < e.1 + e.2.blocks))

/-- The module's own member index: the entry with its serial (R687). -/
def selfIndex (s : State) : Option Nat := (s.fold.members.find? (fun e => decide (e.2.serial = deviceSerial s))).map Prod.fst

/-- A fold port. -/
def portAt (s : State) (p : Nat) : FoldPort := mget {} s.fold.ports p
def modPort (p : Nat) (f : FoldPort → FoldPort) (s : State) : State := { s with fold := { s.fold with ports := mupd {} s.fold.ports p f } }

/-- The mirror peer, where there is one (R699). -/
def mirrorPeer (s : State) : Option Nat :=
  let p := s.fold.mirrorPeer.toNat
  match selfIndex s with
  | some i => if p = i ∨ (mfind p s.fold.members).isNone then none else some p
  | none => none

/-- The port whose neighbour is the mirror peer (R698, R705). -/
def mirrorPort (s : State) : Option Nat :=
  match mirrorPeer s with
  | some p => [0, 1].find? (fun q => let x := portAt s q; decide (x.state = .up ∧ x.peer.toNat = p))
  | none => none

/-- FOLD_RTT.ns and .valid (R697). -/
def rttNs (x : FoldPort) : Nat := x.samples.foldl max 0
def rttValid (x : FoldPort) : Bool := decide (x.state = .up ∧ 16 ≤ x.samples.length)

/-- The measure of R698 is met. -/
def mirrorMeasure (s : State) : Bool :=
  match mirrorPort s with
  | some q => rttValid (portAt s q) && decide (rttNs (portAt s q) ≤ 20000)
  | none => false

/-- First and last block plus one in which new keys are placed: from 4,096 up (R244), or the member's stripe (R689). -/
def keyStripe (s : State) : Nat × Nat :=
  match selfIndex s with
  | some i => (4096 + 2096640 * i, 4096 + 2096640 * (i + 1))
  | none => (4096, 16777216)

/-- The lowest run of `n` free blocks (R244, R689): runs start at the low end or after a key. -/
def freeRun (s : State) (n : Nat) : Option Nat :=
  let lo := (keyStripe s).1
  let starts := lo :: (s.keys.keys.filter (fun e => decide (lo ≤ e.1 + e.2.blocks))).map (fun e => e.1 + e.2.blocks)
  starts.find? (fun b => decide (b + n ≤ (keyStripe s).2) && s.keys.keys.all (fun e => decide (e.1 + e.2.blocks ≤ b ∨ b + n ≤ e.1)))

/-- Blocks in use (R278). -/
def blocksInUse (s : State) : Nat := (s.keys.keys.map (fun e => e.2.blocks)).sum

/-! ### Root keys -/

/-- The keeper secret of a generation: 32 DRBG bytes the module never shows (R251, R252). -/
def keeperSecret (gen : Nat) : Bytes := std "keeper-secret" 32 [leBytes 8 gen]

/-- The battery-backed key of a generation (R251, R707). -/
def batteryKey (gen : Nat) : Bytes := std "battery-backed key" 32 [leBytes 8 gen]

/-- The keeper secret as the ferroelectric memory holds it: wrapped by AES-256 KW under the battery-backed key (R251). -/
def wrappedSecret (s : State) (gen : Nat) : Bytes := kwWrap (batteryKey s.keeper.keyGen) (keeperSecret gen)

/-- The module root key as the two secrets give it: the keeper unwraps its own (R251). -/
def formedRoot (s : State) (gen : Nat) : Bytes :=
  (sha384 (ascii "MRK1" ++ dieSecret ++ (kwUnwrap (batteryKey s.keeper.keyGen) (wrappedSecret s gen)).getD [])).take 32

/-- The states in which steps 8 and 10 form no root key (R730). -/
def noRootKey (s : State) : Bool :=
  decide (s.keeper.record.state = .tampered ∨ s.keeper.record.state = .decommissioned) || !s.keeper.key || s.keeper.secretGen.isNone

/-- The module root key is formed and held in the key store tile; both secrets are overwritten (R251, R727, R730). -/
def formRoot (s : State) : State :=
  { s with keys := { s.keys with mrk := match s.keeper.secretGen with | some g => if noRootKey s then none else some (formedRoot s g) | none => none } }

/-- A key derived from the module root key that the key store tile holds (R253). -/
def moduleKey (s : State) (purpose scheme version : Nat) : Bytes := derive (s.keys.mrk.getD []) (plainLabel purpose scheme version)

/-- The storage key and the NAND mask key (R253). -/
def storageKey (s : State) : Bytes := moduleKey s 0x80 0 0
def nandMaskKey (s : State) : Bytes := moduleKey s 0x81 0 0

/-- A key derived from the fold domain root in key block 3: every label byte but the purpose is 0 (R253). -/
def foldKey (s : State) (purpose : Nat) : Bytes :=
  derive (match keyAt s 3 with | some k => k.material | none => []) (plainLabel purpose 0 0)

/-- The fold domain root is loaded (R254). -/
def foldRootLoaded (s : State) : Bool := (keyAt s 3).isSome

/-! ### Key blocks as bytes -/

/-- Bytes 0 to 71 of a key block (R239). -/
def blockHead (k : KeyBlock) : Bytes :=
  leBytes 8 k.handle ++ leBytes 1 1 ++ leBytes 1 k.blocks ++ leBytes 1 k.cls ++ leBytes 1 k.status ++ leBytes 2 k.alg ++ leBytes 2 k.material.length
    ++ leBytes 4 k.usage.toNat ++ leBytes 1 k.ceiling ++ leBytes 1 k.exportTo ++ leBytes 1 k.quorum
    ++ leBytes 1 (b2n k.sessionBound + 2 * b2n k.deriveOnly + 4 * b2n k.generated) ++ leBytes 1 k.zone ++ leBytes 1 k.version
    ++ leBytes 2 k.application ++ leBytes 4 k.lastEpoch ++ leBytes 32 k.partners.toNat ++ leBytes 4 k.created ++ leBytes 4 k.sealCount

/-- A key block sealed under a key: its head, the nonce, the tag, and the encrypted material, the first 144 bytes in the first block and the rest in those that
follow. `extra` extends the additional data: nothing on a stored block, 8 bytes on one that leaves the module (R239, R240, R269). -/
def sealedBlock (key nonce extra : Bytes) (k : KeyBlock) : Bytes :=
  let c := gcmE key nonce (blockHead k ++ zeros 12 ++ extra) k.material
  let ct := c.take k.material.length
  blockHead k ++ nonce ++ c.drop k.material.length ++ fit 144 ct ++ zeros 12 ++ fit (256 * (k.blocks - 1)) (ct.drop 144)

/-- A block resealed to leave the module, toward a member or into a backup set: its seal_count is incremented, its nonce and tag are new, and the additional data ends in
the destination's serial, or zeros (R239, R269). -/
def leavingBlock (key nonce : Bytes) (dest : Nat) (k : KeyBlock) : Bytes := sealedBlock key nonce (leBytes 8 dest) { k with sealCount := (k.sealCount + 1) % 2 ^ 32 }

/-- The material of a sealed block; none where its tag fails (R240). -/
def openMaterial (key extra b : Bytes) : Option Bytes :=
  gcmD key (slice 72 12 b) (b.take 72 ++ slice 244 12 b ++ extra) ((slice 100 144 b ++ b.drop 256).take (leAt 14 2 b) ++ slice 84 16 b)

/-- A sealed key block opened; none where its tag fails or a field lies outside R239, a reserved byte other than 0 included (R240). -/
def openBlock (key : Bytes) (extra : Nat) (b : Bytes) : Option KeyBlock :=
  let n := leAt 14 2 b
  let k : KeyBlock :=
    { handle := leAt 0 8 b, blocks := byteAt 9 b, cls := byteAt 10 b, status := byteAt 11 b, alg := leAt 12 2 b, usage := BitVec.ofNat 32 (leAt 16 4 b),
      ceiling := byteAt 20 b, exportTo := byteAt 21 b, quorum := byteAt 22 b, sessionBound := bit 0 (byteAt 23 b), deriveOnly := bit 1 (byteAt 23 b),
      generated := bit 2 (byteAt 23 b), zone := byteAt 24 b, version := byteAt 25 b, application := leAt 26 2 b, lastEpoch := leAt 28 4 b,
      partners := BitVec.ofNat 256 (leAt 32 32 b), created := leAt 64 4 b, sealCount := leAt 68 4 b, nonce := slice 72 12 b }
  let fields := decide (byteAt 8 b = 1 ∧ k.cls ∈ keyClasses ∧ k.alg ∈ classAlgs k.cls ∧ k.status ≤ 2 ∧ k.usage.toNat < 2 ^ 23 ∧ k.ceiling ≤ 3 ∧ k.exportTo ≤ 3
      ∧ k.quorum ≤ 16 ∧ byteAt 23 b < 8 ∧ k.application ≤ 1023 ∧ 1 ≤ n ∧ n ≤ 3984 ∧ k.blocks = keyBlocks n ∧ b.length = 256 * k.blocks)
    && (k.sessionBound || decide (k.application = 0)) && allZero (slice 244 12 b)
  match openMaterial key (leBytes 8 extra) b with
  | some m => if fields then some { k with material := m } else none
  | none => none

/-- The image that the key area stores of a block opens under the storage key to the block's material (R240). A block that was never sealed has none (DESIGN CHOICE,
log entry 12). -/
def imageOpens (s : State) (k : KeyBlock) : Bool := k.image.isEmpty || decide (openMaterial (storageKey s) [] k.image = some k.material)

/-- R237 and step 1 of R230: the key a handle names, or the result it fails with. -/
def findKey (s : State) (h : Nat) : Except Nat KeyBlock :=
  match keyAt s (handleBlock h) with
  | none => .error 0x0301
  | some k =>
    if ¬ handleClass h ∈ keyClasses ∨ handleGen k.handle ≠ handleGen h ∨ handleClass k.handle ≠ handleClass h then .error 0x0301
    else if handleDomain h ≠ s.keys.domain then .error 0x0302
    else if ¬ k.intact ∨ ¬ imageOpens s k then .error 0x0303
    else .ok k

/-! ### Hardware nonces -/

/-- The allocator may issue its next block: no value reaches 2^64 − 1 (R393), and every value lies below the durable mark + 2^32 (R391). -/
def nonceExhausted (s : State) : Bool := decide (2 ^ 64 - 1 ≤ s.cip.nonceNext.toNat + 2 ^ 20 - 1)

/-- Program the next mark once the next block starts at P + 2^31 (R391). -/
def advanceMark (s : State) : State :=
  let c := s.cip
  if c.nonceMark.toNat + 2 ^ 31 ≤ c.nonceNext.toNat ∧ c.markPending = none then
    raise (mkPage 2 0 0 0) 0x030A (c.nonceMark.toNat + 2 ^ 32) { s with cip := { c with markPending := some (c.nonceMark + BitVec.ofNat 64 (2 ^ 32)) } }
  else s

/-- The counter values that a holder has left: from each block of its, the next value and the end (R390). -/
def holderBlocks (s : State) (holder : Nat) : List (Nat × Nat) := ((mfind holder s.cip.holders).getD []).filter (fun b => decide (b.1 < b.2))

/-- How many they are. -/
def valuesLeft (s : State) (holder : Nat) : Nat := ((holderBlocks s holder).map (fun b => b.2 - b.1)).sum

/-- Grant a holder its next block of 2^20 values, which it uses after those it has left (R390, R391, R393). -/
def grantNonces (holder : Nat) (s : State) : State :=
  let n := s.cip.nonceNext.toNat
  if nonceExhausted s then raise (mkPage 2 0 0 0) 0x030C 0 s
  else if n + 2 ^ 20 ≤ s.cip.nonceMark.toNat + 2 ^ 32 then
    advanceMark { s with cip := { s.cip with nonceNext := BitVec.ofNat 64 (n + 2 ^ 20), holders := mput holder (holderBlocks s holder ++ [(n, n + 2 ^ 20)]) s.cip.holders } }
  else advanceMark s

/-- One nonce of a holder (R388, R390): the prefix and the counter, both big-endian. A holder without a block asks for one first; none where
none can be issued (R391, R393). -/
def takeNonce (holder : Nat) (s : State) : Option (Bytes × State) :=
  let use := fun (s : State) => match holderBlocks s holder with
    | (n, e) :: rest =>
      some (beBytes 4 s.cip.noncePrefix.toNat ++ beBytes 8 n, { s with cip := { s.cip with holders := mput holder ((n + 1, e) :: rest) s.cip.holders } })
    | [] => none
  match use s with
  | some r => some r
  | none => use (grantNonces holder s)

/-- Seal a key block under the storage key: a fresh nonce, the image that the key area stores, and seal_count incremented where it is resealed (R239, R240). Without
a nonce nothing is sealed (R393). -/
def sealKey (k : KeyBlock) (fresh : Bool) (s : State) : Option (KeyBlock × State) :=
  (takeNonce keyPage s).map (fun n =>
    let k1 := { k with nonce := n.1, sealCount := if fresh then k.sealCount else (k.sealCount + 1) % 2 ^ 32, image := [] }
    ({ k1 with image := sealedBlock (storageKey s) n.1 [] k1 }, n.2))

/-- Store a key block under its block number. -/
def putKey (b : Nat) (k : KeyBlock) (s : State) : State := { s with keys := { s.keys with keys := mput b k s.keys.keys } }

/-- Seal a block and store it under its block number (R239, R240). -/
def storeKey (b : Nat) (k : KeyBlock) (s : State) : State := match sealKey k true s with | some r => putKey b r.1 r.2 | none => s

/-- Change a key block and reseal it (R239). -/
def reseal (b : Nat) (f : KeyBlock → KeyBlock) (s : State) : State :=
  match keyAt s b with
  | none => s
  | some k => match sealKey (f k) false s with | some r => putKey b r.1 r.2 | none => s

/-! ### Key cache, bays and pins -/

/-- A bay (R246). -/
def bayAt (s : State) (b : Nat) : Bay := mget {} s.keys.bays b
def modBay (b : Nat) (f : Bay → Bay) (s : State) : State := { s with keys := { s.keys with bays := mupd {} s.keys.bays b f } }

/-- The bay holds the key at block `k`. -/
def bayHolds (s : State) (b k : Nat) : Bool := (bayAt s b).entries.any (fun e => decide (e.block = k))

/-- Classes served by the Signing plane; the Cipher plane serves the rest (R248). -/
def signingClass (c : Nat) : Bool := decide (c ∈ [0x02, 0x03, 0x30, 0x31, 0x32, 0x33, 0x40, 0x41, 0x42, 0x43])

/-- The four bays that serve a class (R248). -/
def classBays (c : Nat) : List Nat := if signingClass c then [0, 1, 2, 3] else [4, 5, 6, 7]

/-- Entries in use and pinned entries of a bay (R282). -/
def bayUsed (y : Bay) : Nat := (y.entries.map (fun e => e.count)).sum
def bayPinned (y : Bay) : Nat := ((y.entries.filter (fun e => e.pinned)).map (fun e => e.count)).sum

/-- A key found in its bay is used: it counts a hit and becomes the most recently used (R246, R283). -/
def touchBay (b k : Nat) (s : State) : State :=
  modBay b (fun y => match y.entries.find? (fun e => decide (e.block = k)) with
    | some e => { y with hits := satInc y.hits, entries := e :: y.entries.filter (fun x => decide (x.block ≠ k)) }
    | none => y) s

/-- A key fetch that does not find the key in its bay: it counts a miss, and the key store begins to fill the bay where no fill is under way (R247, R283). -/
def askFill (b k : Nat) (s : State) : State :=
  let s1 := modBay b (fun y => { y with misses := satInc y.misses }) s
  if (k, b) ∈ s.keys.fills then s1 else { s1 with keys := { s1.keys with fills := s1.keys.fills ++ [(k, b)] } }

/-- A key fetch: a hit where the bay holds the key, else a miss (R247, R283). -/
def fetchKey (b k : Nat) (s : State) : State := if bayHolds s b k then touchBay b k s else askFill b k s

/-- Drop least recently used unpinned entries, last first, until `n` more fit into 8,192 (R246). -/
def evictBay : Nat → Nat → List BayEntry → List BayEntry
  | 0, _, es => es
  | fuel + 1, n, es =>
    if (es.map (fun e => e.count)).sum + n ≤ 8192 then es
    else
      match es.reverse.find? (fun e => !e.pinned) with
      | some v => evictBay fuel n (es.filter (fun e => decide (e.block ≠ v.block)))
      | none => es

/-- Bring a key into a bay, if it fits beside the pinned entries (R246, R248). -/
def intoBay (b k count : Nat) (pinned : Bool) (s : State) : State :=
  modBay b (fun y =>
    let rest := y.entries.filter (fun e => decide (e.block ≠ k))
    let kept := evictBay rest.length count rest
    if (kept.map (fun e => e.count)).sum + count ≤ 8192 then { y with entries := { block := k, count := count, pinned := pinned } :: kept } else y) s

/-- The leading keys of a list, most recently used first, that fit into `room` blocks: the first that does not fit and every one after it go (R245). -/
def cacheKeeps (size : Nat → Nat) : Nat → List Nat → List Nat
  | _, [] => []
  | room, b :: l => if size b ≤ room then b :: cacheKeeps size (room - size b) l else []

/-- Bring a key into the key cache, 4,194,304 blocks, least recently used out (R245); before its region of DRAM is wiped, no row of it is written (R729). -/
def intoCache (k : Nat) (s : State) : State :=
  if s.start.dramWiped < 3 then s else
  let size := fun (b : Nat) => match keyAt s b with | some x => x.blocks | none => 0
  { s with keys := { s.keys with cache := cacheKeeps size 4194304 (k :: s.keys.cache.filter (fun x => decide (x ≠ k))) } }

/-- Blocks held in the key cache (R279). -/
def cacheHeld (s : State) : Nat := (s.keys.cache.map (fun b => match keyAt s b with | some x => x.blocks | none => 0)).sum

/-- A changed or destroyed key leaves every bay and the key cache (R277). -/
def dropFromBays (k : Nat) (s : State) : State :=
  { s with keys := { s.keys with
      cache := s.keys.cache.filter (fun x => decide (x ≠ k))
      fills := s.keys.fills.filter (fun f => decide (f.1 ≠ k))
      bays := mapTotal {} (fun _ y => { y with entries := y.entries.filter (fun e => decide (e.block ≠ k)) }) s.keys.bays } }

/-- Destroy a key: its blocks are overwritten, the generation of its first block number is incremented, its pin and sessions go (R244, R277). -/
def destroyKey (k : Nat) (s : State) : State :=
  let s0 := if k ∈ s.keys.pins then configRecord (cfgKey 2 k) [] s else s
  let s1 := dropFromBays k (if k ∈ s.keys.signers then configRecord (cfgKey 8 k) [] s0 else s0)
  { s1 with keys := { s1.keys with
      keys := merase k s1.keys.keys
      gens := mupd 0 s1.keys.gens k (fun g => (g + 1) % 2 ^ 24)
      pins := s1.keys.pins.filter (fun x => decide (x ≠ k))
      rebuild := s1.keys.rebuild.filter (fun x => decide (x ≠ k))
      signers := s1.keys.signers.filter (fun x => decide (x ≠ k)) } }

/-- Blocks of the recorded pins that the same plane serves (R248): what its bays hold pinned once every pin is loaded. -/
def pinnedBlocks (s : State) (cls : Nat) : Nat :=
  (s.keys.pins.map (fun b => match keyAt s b with | some k => if signingClass k.cls = signingClass cls then k.blocks else 0 | none => 0)).sum

/-- A pin request keeps every bay of the key's plane within the limit, the pins not yet reloaded counted (R248, R250). -/
def pinFits (s : State) (k : KeyBlock) : Bool :=
  decide (pinnedBlocks s k.cls + k.blocks ≤ s.keys.pinLimit.toNat) && (classBays k.cls).all (fun y => decide (bayPinned (bayAt s y) + k.blocks ≤ s.keys.pinLimit.toNat))

/-- A key reaches a bay: pinned where it has a pin that the bay's limit has room for (R248, R250). -/
def loadBay (b : Nat) (k : KeyBlock) (y : Nat) (s : State) : State :=
  intoBay y b k.blocks (decide (b ∈ s.keys.pins) && decide (bayPinned (bayAt s y) + k.blocks ≤ s.keys.pinLimit.toNat)) s

/-- Pin a key: the configuration area records it, and it goes into the bays of all four clusters (R248, R250). -/
def pinKey (b : Nat) (k : KeyBlock) (s : State) : State :=
  forAll (classBays k.cls) (loadBay b k) (configRecord (cfgKey 2 b) [1] { s with keys := { s.keys with pins := s.keys.pins ++ [b] } })

/-- Unpin a key: its record ends, and its entries stay, unpinned (R248). -/
def unpinKey (b : Nat) (s : State) : State :=
  let s1 := if b ∈ s.keys.pins then configRecord (cfgKey 2 b) [] s else s
  { s1 with keys := { s1.keys with
      pins := s1.keys.pins.filter (fun x => decide (x ≠ b))
      rebuild := s1.keys.rebuild.filter (fun x => decide (x ≠ b))
      bays := mapTotal {} (fun _ y => { y with entries := y.entries.map (fun e => if e.block = b then { e with pinned := false } else e) }) s1.keys.bays } }

/-- The swaths a key adds to a class 0 path (R249). -/
def keySwath (s : State) (k : Nat) : Nat :=
  match keyAt s k with
  | none => 0
  | some x =>
    if k ∈ s.keys.pins ∧ (classBays (handleClass x.handle)).all (fun b => bayHolds s b k) then 0
    else if k ∈ s.keys.cache ∨ (List.range 8).any (fun b => bayHolds s b k) then 1
    else 2

/-! ### Sessions -/

/-- The counter that a session tag names: the unique n with n mod 2^14 = low and H − 8,191 ≤ n ≤ H + 8,192; below 0 there is none (R273). -/
def sessionCounter (high low : Nat) : Option Nat :=
  let base := high + 8192 - (high + 8192 - low) % 16384
  if high + 8192 < low then none else some base

/-- The tag of R272 over the counter and every slot, with stamp and the tag's low 40 bits set to 0. The 64-bit counter goes into the message low byte first, an order
that R272 does not give (DESIGN CHOICE, log entry 80). -/
def sessionTag (key : Bytes) (counter : Nat) (slots : Bytes) : Bytes :=
  (cmac key (leBytes 8 counter ++ overlay 60 (zeros 4) (overlay 48 (zeros 5) slots))).take 5

/-- Close a session (R275). -/
def closeSession (n : Nat) (s : State) : State := { s with keys := { s.keys with sessions := merase n s.keys.sessions } }

/-- Close every session of an application, or all (R275). -/
def closeSessionsOf (app : Option Nat) (s : State) : State :=
  { s with keys := { s.keys with sessions := s.keys.sessions.filter (fun e => match app with | some a => decide (e.2.application ≠ a) | none => false) } }

/-- The session that a job was admitted under, while it is open: a session opened later under the same number is another (R274, R275). -/
def jobSession (s : State) (j : Job) : Option Session :=
  match j.session.bind (fun n => mfind n s.keys.sessions) with
  | some e => if e.opened = j.sessionOpened then some e else none
  | none => none

/-- The session checks made at admission (R272, R273, R275): the session named, the outcome to apply at check 2 of R230, and the state with the
counter recorded or the failure counted. -/
def sessionAdmit (h : Header) (slots : Bytes) (s : State) : Option Nat × Nat × State :=
  if ¬ h.session then (none, 0, s)
  else
    let n := h.tag / 2 ^ 54
    match mfind n s.keys.sessions with
    | none => (some n, 0x0802, s)
    | some e =>
      let fail := fun (s : State) =>
        let e1 := { e with failures := e.failures + 1 }
        if s.keys.failLimit.toNat ≤ e1.failures then raise keyPage 0x0519 n (closeSession n s)
        else { s with keys := { s.keys with sessions := mput n e1 s.keys.sessions } }
      match sessionCounter e.high (h.tag / 2 ^ 40 % 16384) with
      | none => (some n, 0x0803, fail s)
      | some c =>
        if sessionTag e.tagKey c slots ≠ leBytes 5 (h.tag % 2 ^ 40) then (some n, 0x0803, fail s)
        else if c = 0 ∨ c + 1024 ≤ e.high ∨ c ∈ e.accepted then (some n, 0x0804, s)
        else
          let high := max e.high c
          let e1 := { e with high := high, accepted := (c :: e.accepted).filter (fun x => decide (high < x + 1024)) }
          if 2 ^ 48 ≤ high then (some n, 0, closeSession n s)
          else (some n, 0, { s with keys := { s.keys with sessions := mput n e1 s.keys.sessions } })

/-! ### Random output -/

/-- The generator runs: check 5 of R63 (R507). -/
def rngRunning (s : State) : Bool := decide (s.rng.state = .running)

/-- The generator has halted (R515). -/
def rngHalted (s : State) : Bool := decide (s.rng.state = .halted)

/-- `n` bytes can be drawn now: from the class 0 ledger down to an empty queue, else only while 32 KiB stay (R506). -/
def rngCan (class0 : Bool) (n : Nat) (s : State) : Bool :=
  rngRunning s && decide (n + (if class0 then 0 else 32768) ≤ s.rng.level.toNat)

/-- Draw `n` bytes from the output queue's level (R506); the bytes themselves are free values. -/
def rngTake (n : Nat) (s : State) : State := { s with rng := { s.rng with level := BitVec.ofNat 17 (s.rng.level.toNat - n) } }

/-! ### Tenant entries -/

/-- The loaded program of a tenant opcode (R554). -/
def tenantLoaded (s : State) (op : Nat) : Bool := (mfind op s.tenants).isSome

/-- The opcode entry that a loaded program's header gives (R553, R556, R558). -/
def tenantEntry (s : State) (op : Nat) : Option OpEntry :=
  (mfind op s.tenants).map (fun t =>
    let h := t.header
    let path := byteAt 30 h
    { code := op, path := path, short := decide (path = 1), eligible := decide (1 ≤ path ∧ path ≤ 3),
      costs := (List.range path).map (fun o => { offset := o, kind := 5, slices := byteAt (32 + o) h : PathCost }),
      whole := [(5, byteAt 35 h)], chainable := true, inMin := 4, inMax := 4 + leAt 24 2 h + leAt 26 2 h : OpEntry })

/-- The entry of any opcode. -/
def entryOf (s : State) (op : Nat) : Option OpEntry := if isTenantOp op then tenantEntry s op else opEntry op

end Sys2Proof.Machine
end

