-- ==== Sys2Proof/Machine/VaultIndex.lean ====
section
/-!
DEFINITION. Sys2Proof/Machine/VaultIndex.lean: account fields (R291), token domains (R418, R419), the two indexes and their overflow tables
(R421 to R424), and the records they lead to (R413 to R416, R445).
-/
namespace Sys2Proof.Machine
open Sys2Proof

/-! ### Digits -/

/-- The nibbles of a byte string, high first. -/
def nibbles (bs : Bytes) : List Nat := bs.flatMap (fun b => [b.toNat / 16, b.toNat % 16])

/-- Bytes from nibbles, high first. -/
def ofNibbles : List Nat → Bytes
  | a :: b :: l => BitVec.ofNat 8 (16 * a + b) :: ofNibbles l
  | [a] => [BitVec.ofNat 8 (16 * a)]
  | [] => []

/-- The digits of an account field (R291). -/
def accountDigits (f : Bytes) : List Nat := (nibbles f).takeWhile (fun d => decide (d ≤ 9))

/-- An account field is valid: 12 to 19 digits, left-justified, unused nibbles 0xF (R291). -/
def accountOk (f : Bytes) : Bool :=
  let d := accountDigits f
  decide (f.length = 10 ∧ 12 ≤ d.length ∧ d.length ≤ 19) && ((nibbles f).drop d.length).all (fun x => decide (x = 15))

/-- The account field of digits (R291). -/
def accountField (d : List Nat) : Bytes := ofNibbles (d ++ List.replicate (20 - d.length) 15)

/-- The PAN of a PAN operand: bytes 32 to 41 of a detokenised record, or the operand itself (R291, R416). -/
def panOf (operand : Bytes) : Bytes := if operand.length = 64 then slice 32 10 operand else operand

/-- The digits pass the Luhn check. -/
def luhnOk (d : List Nat) : Bool :=
  decide (((d.reverse.zipIdx).map (fun e => if e.2 % 2 = 0 then e.1 else (let x := 2 * e.1; if 9 < x then x - 9 else x))).sum % 10 = 0)

/-! ### Domains -/

/-- A domain entry of 64 bytes; undefined where none is kept (R418). -/
def domainAt (s : State) (d : Nat) : Bytes := mget (zeros 64) s.vault.domains d

def domState (e : Bytes) : Nat := byteAt 0 e
def domMethod (e : Bytes) : Nat := byteAt 1 e
def domDigits (e : Bytes) : Nat := byteAt 2 e
def domPrefixLen (e : Bytes) : Nat := byteAt 3 e
def domKeep (e : Bytes) : Nat := byteAt 4 e
def domLuhn (e : Bytes) : Nat := byteAt 5 e
def domMirror (e : Bytes) : Nat := byteAt 6 e
def domPrefix (e : Bytes) : List Nat := (nibbles (slice 8 4 e)).take (domPrefixLen e)
def domLimit (e : Bytes) : Nat := leAt 12 4 e
def domKey (e : Bytes) : Nat := leAt 16 8 e
def domTweak (e : Bytes) : Bytes := slice 24 14 e

/-- An entry is valid (R418, R419). -/
def domainOk (e : Bytes) : Bool :=
  let ff1 := decide (domMethod e = 1)
  decide (domState e ≤ 2 ∧ 1 ≤ domMethod e ∧ domMethod e ≤ 2 ∧ 12 ≤ domDigits e ∧ domDigits e ≤ 19 ∧ domPrefixLen e ≤ 8 ∧ domKeep e ≤ 4
    ∧ domLuhn e ≤ 2 ∧ domMirror e ≤ 2 ∧ byteAt 7 e = 0 ∧ domPrefixLen e + domKeep e + 6 ≤ domDigits e)
    && (domPrefix e).all (fun d => decide (d ≤ 9)) && ((nibbles (slice 8 4 e)).drop (domPrefixLen e)).all (fun d => decide (d = 0))
    && allZero (slice 38 26 e)
    && (if ff1 then decide (domPrefixLen e = 0 ∧ domLuhn e = 0 ∧ domKey e ≠ 0) else decide (domKey e = 0) && allZero (domTweak e))

/-- A change of an active or closed entry keeps method, digits, prefix_len, keep, luhn, prefix, ff1_key and tweak, and state only goes
between 1 and 2 (R419). -/
def domainChangeOk (old new : Bytes) : Bool :=
  if domState old = 0 then decide (domState new ≠ 2)
  else decide (domState new ≠ 0 ∧ slice 1 5 old = slice 1 5 new ∧ slice 8 4 old = slice 8 4 new ∧ slice 16 22 old = slice 16 22 new)

/-! ### The indexes -/

/-- H of a token (R421). -/
def tokenHash (s : State) (domain : Nat) (token : Bytes) : Bytes := aesE (moduleKey s 0x84 3 0) (leBytes 2 domain ++ fit 10 token ++ zeros 4)

/-- H of a PAN (R421). -/
def panHash (s : State) (domain : Nat) (pan : Bytes) : Bytes := hmac256 (moduleKey s 0x83 6 0) (leBytes 2 domain ++ fit 10 pan)

/-- b1, tag and b2 of a hash, whose bit 0 is the least significant bit of its first byte (R421; DEDUCED, log entry 16). -/
def hashB1 (h : Bytes) : Nat := leNat h % 2 ^ 28
def hashTag (h : Bytes) : Nat := let t := leNat h / 2 ^ 28 % 2 ^ 21; if t = 0 then 1 else t
def hashB2 (h : Bytes) : Nat := Nat.xor (hashB1 h) (hashTag h * 0x0A317C4B % 2 ^ 28)

/-- A bucket (R422). -/
def bucketAt (ix : AMap (List IndexEntry)) (b : Nat) : List IndexEntry := mget [] ix b

/-- Where a key's record lies: the overflow table first, then the one matching entry of the pair (R423). -/
def indexFind (ix : AMap (List IndexEntry)) (spillTable : List OverEntry) (key h : Bytes) : Option (Nat × Nat) :=
  match spillTable.find? (fun e => decide (e.key = key)) with
  | some e => some (e.leaf, e.quarter)
  | none =>
    ((bucketAt ix (hashB1 h) ++ bucketAt ix (hashB2 h)).find? (fun e => decide (e.tag = hashTag h))).map (fun e => (e.leaf, e.quarter))

/-- Move entries of full buckets, up to `n` moves; the entry moved is a free choice (R423). Answers the index with room in `b`, if it came to. -/
def makeRoom : Nat → Nat → AMap (List IndexEntry) → State → Option (AMap (List IndexEntry)) × State
  | 0, _, _, s => (none, s)
  | n + 1, b, ix, s =>
    let es := bucketAt ix b
    if es.length < 10 then (some ix, s)
    else
      let r := draw s
      match es[r.1.toNat % 10]? with
      | none => (none, r.2)
      | some v =>
        let b2 := Nat.xor b (v.tag * 0x0A317C4B % 2 ^ 28)
        let res := makeRoom n b2 ix r.2
        match res.1 with
        | none => (none, res.2)
        | some ix1 =>
          let cur := bucketAt ix1 b
          (some (mset [] (mset [] ix1 b (cur.filter (fun e => decide (e ≠ v)))) b2 (bucketAt ix1 b2 ++ [v])), res.2)

/-- Insert a key (R423): to the overflow table where the pair holds its tag already or no bucket comes free in 64 moves; none where that table
is full. -/
def indexInsert (ix : AMap (List IndexEntry)) (spillTable : List OverEntry) (key h : Bytes) (leaf quarter : Nat) (s : State) :
    Option (AMap (List IndexEntry) × List OverEntry) × State :=
  let t := hashTag h
  let e : IndexEntry := { tag := t, leaf := leaf, quarter := quarter }
  let spill := fun (s : State) => if spillTable.length < 65535 then (some (ix, spillTable ++ [{ key := key, leaf := leaf, quarter := quarter }]), s) else (none, s)
  if (bucketAt ix (hashB1 h) ++ bucketAt ix (hashB2 h)).any (fun x => decide (x.tag = t)) then spill s
  else if (bucketAt ix (hashB1 h)).length < 10 then (some (mset [] ix (hashB1 h) (bucketAt ix (hashB1 h) ++ [e]), spillTable), s)
  else if (bucketAt ix (hashB2 h)).length < 10 then (some (mset [] ix (hashB2 h) (bucketAt ix (hashB2 h) ++ [e]), spillTable), s)
  else
    let r := makeRoom 64 (hashB1 h) ix s
    match r.1 with
    | some ix1 => (some (mset [] ix1 (hashB1 h) (bucketAt ix1 (hashB1 h) ++ [e]), spillTable), r.2)
    | none => spill r.2

/-- Keys of the overflow tables: the full token with its domain, or H (R423). -/
def tokenKey (domain : Nat) (token : Bytes) : Bytes := leBytes 2 domain ++ fit 10 token

/-! ### Records -/

/-- The record in a slot of a leaf (R413). -/
def recordAt (s : State) (k : Nat) : VaultRec := mget {} s.vault.records k

/-- The slots of a quarter: 16 records (R413). -/
def quarterSlots (leaf quarter : Nat) : List Nat := (List.range 16).map (fun i => leaf * 64 + quarter * 16 + i)

/-- The one candidate quarter of a token, leaf and quarter, which has to be read even where it turns out not to hold it (R423). -/
def tokenCandidate (s : State) (domain : Nat) (token : Bytes) : Option (Nat × Nat) :=
  indexFind s.vault.tokenIndex s.vault.tokenOver (tokenKey domain token) (tokenHash s domain token)

/-- The one candidate quarter of a PAN. -/
def panCandidate (s : State) (domain : Nat) (pan : Bytes) : Option (Nat × Nat) :=
  let h := panHash s domain pan
  indexFind s.vault.panIndex s.vault.panOver h h

/-- The record of a token, through the token index: leaf × 64 + slot (R421, R423, R425). -/
def findToken (s : State) (domain : Nat) (token : Bytes) : Option Nat :=
  match tokenCandidate s domain token with
  | none => none
  | some (l, q) => (quarterSlots l q).find? (fun k => let r := recordAt s k; decide (r.status ≠ 0 ∧ r.domain = domain ∧ r.token = fit 10 token))

/-- The record of a PAN, through the PAN index. -/
def findPan (s : State) (domain : Nat) (pan : Bytes) : Option Nat :=
  match panCandidate s domain pan with
  | none => none
  | some (l, q) => (quarterSlots l q).find? (fun k => let r := recordAt s k; decide (r.status ≠ 0 ∧ r.domain = domain ∧ r.pan = fit 10 pan))

/-- PAN index pages of a PAN's pair: 64 buckets of 64 bytes in a page of 4 KiB (R422, R424). -/
def panPair (s : State) (domain : Nat) (pan : Bytes) : List Nat := let h := panHash s domain pan; [hashB1 h / 64, hashB2 h / 64]

/-- Both pages are cached (R447). -/
def pairCached (s : State) (domain : Nat) (pan : Bytes) : Bool := (panPair s domain pan).all (fun p => decide (p ∈ s.vault.panPages))

/-- The token of a 16-byte request: the domain's digits, left-justified (R445). -/
def requestToken (s : State) (req : Bytes) : Bytes := accountField ((nibbles (slice 2 10 req)).take (domDigits (domainAt s (leAt 0 2 req))))

/-- A record is expired (R445). -/
def isExpired (s : State) (r : VaultRec) : Bool := decide (r.expiry ≠ 0 ∧ s.vault.today ≠ 0 ∧ r.expiry < s.vault.today.toNat)

/-- Stored bytes 0 to 20 of a record (R413, R416). -/
def recordHead (r : VaultRec) : Bytes :=
  fit 10 r.token ++ leBytes 2 (r.domain % 4096 + 4096 * r.status) ++ beBytes 2 r.expiry ++ leBytes 2 r.usage ++ leBytes 4 r.created ++ leBytes 1 r.keyGen

/-- Stored bytes 0 to 24, which the seal covers (R413, R414). -/
def recordAad (r : VaultRec) : Bytes := recordHead r ++ leBytes 4 r.panCheck

/-- pan_ct and tag of a record under the record key of its generation (R414, R417). -/
def sealRecord (s : State) (r : VaultRec) : Bytes := gcmE (moduleKey s 0x82 3 r.keyGen) r.nonce (recordAad r) (fit 10 r.pan)

/-- The record's tag passes (R414); a record that State.reset or a state set by hand holds without its seal counts as good. -/
def readable (s : State) (r : VaultRec) : Bool :=
  r.intact && (r.sealed_ == [] || gcmD (moduleKey s 0x82 3 r.keyGen) r.nonce (recordAad r) r.sealed_ == some (fit 10 r.pan))

/-- The 64 bytes of a stored record (R413). -/
def storedRecord (r : VaultRec) : Bytes := recordAad r ++ leBytes 1 (b2n r.unmirrored) ++ fit 12 r.nonce ++ fit 26 r.sealed_

/-- The detokenised form (R416). -/
def detokenised (r : VaultRec) : Bytes := recordHead r ++ zeros 11 ++ fit 10 r.pan ++ zeros 22

/-- Records of a domain that count against its limit (R450, R418). -/
def domainCount (s : State) (d : Nat) : Nat := (s.vault.records.filter (fun e => decide (e.2.domain = d ∧ e.2.status ≠ 0 ∧ e.2.status ≠ 3))).length

/-- No new update step is bound while 12 MiB of entries await a checkpoint (R432). -/
def journalHeld (s : State) : Bool := decide (98304 ≤ s.vault.journal.length)

/-- An issue for the PAN is appended and not complete (R436). -/
def issuePending (s : State) (domain : Nat) (pan : Bytes) : Bool := s.vault.issues.any (fun e => decide (e.2.1 = domain ∧ e.2.2 = fit 10 pan))

/-- The NAND plane of a block: 512 blocks to a plane (R410; DEDUCED, log entry 30). -/
def planeOf (block : Nat) : Nat := block / 512

/-- The block that holds a leaf, where it has been programmed (R412). -/
def leafBlock (s : State) (leaf : Nat) : Option Nat := (mfind leaf s.vault.homes).map (fun h => h / 1024)

/-- The journal ring holds a version of a record of the leaf (R425). -/
def inJournal (s : State) (leaf : Nat) : Bool := s.vault.journal.any (fun e => decide (e.kind = 1 ∧ e.target = leaf))

/-- A record's quarter must be read from NAND: neither the journal nor the leaf cache holds it, and it has been programmed (R425). -/
def quarterMissing (s : State) (k : Nat) : Bool :=
  let leaf := k / 64
  !inJournal s leaf && !decide (leaf ∈ s.vault.leafCache) && (leafBlock s leaf).isSome

/-- A tokenise of this PAN would issue a new token in a random domain (R447). -/
def wouldIssueRandom (s : State) (domain : Nat) (pan : Bytes) : Bool :=
  decide (domMethod (domainAt s domain) = 2) && (findPan s domain pan).isNone

end Sys2Proof.Machine
end

