-- ==== Sys2Proof/Machine/Costs.lean ====
section
/-!
DEFINITION. Sys2Proof/Machine/Costs.lean: what an operand is (R288, R361, R397, R794), and what an operation of classes 1 to 3 costs (R306, R329,
R357, R359, R377).
-/
namespace Sys2Proof.Machine
open Sys2Proof

/-! ### Lengths of the parameter sets -/

/-- Public point or value of an elliptic-curve algorithm (R340). -/
def pointLen (alg : Nat) : Nat :=
  match alg with
  | 0x0101 => 65 | 0x0102 => 97 | 0x0103 => 133 | 0x0111 => 32 | 0x0112 => 57 | 0x0113 => 32 | 0x0114 => 56 | _ => 0

/-- Signature of an algorithm (R339, R340). -/
def sigLen (alg : Nat) : Nat :=
  match alg with
  | 0x0101 => 64 | 0x0102 => 96 | 0x0103 => 132 | 0x0111 => 64 | 0x0112 => 114
  | 0x0121 => 256 | 0x0122 => 384 | 0x0123 => 512 | 0x0124 => 1024 | 0x0125 => 128
  | 0x0131 => 2420 | 0x0132 => 3309 | 0x0133 => 4627
  | 0x0151 => 7856 | 0x0152 => 7856 | 0x0153 => 17088 | 0x0154 => 17088 | 0x0155 => 16224 | 0x0156 => 16224
  | 0x0157 => 35664 | 0x0158 => 35664 | 0x0159 => 29792 | 0x015A => 29792 | 0x015B => 49856 | 0x015C => 49856
  | _ => 0

/-- ML-KEM encapsulation key and ciphertext (R339). -/
def kemKeyLen (alg : Nat) : Nat := match alg with | 0x0141 => 800 | 0x0142 => 1184 | 0x0143 => 1568 | _ => 0
def kemCtLen (alg : Nat) : Nat := match alg with | 0x0141 => 768 | 0x0142 => 1088 | 0x0143 => 1568 | _ => 0

/-- The algorithm of the key a handle names, 0 where there is none. -/
def handleAlg (s : State) (h : Nat) : Nat := match findKey s h with | .ok k => k.alg | .error _ => 0

/-- The algorithm an inline verification takes from the aux length (R794). -/
def inlineAlg (op len : Nat) : Nat :=
  if op = 0x0112 then (match len with | 129 => 0x0101 | 193 => 0x0102 | 265 => 0x0103 | _ => 0)
  else (match len with | 96 => 0x0111 | 171 => 0x0112 | _ => 0)

/-! ### Operands -/

/-- The aux length, the aux operand and the src operand of an input that carries its aux length first (R397, R558, R794). -/
def lengthFirst (x : Bytes) : Bytes × Bytes := let n := leAt 0 4 x; (x.drop (4 + n), (x.drop 4).take n)

/-- The first `n` bytes are aux and the rest src (R288, R361). -/
def auxFirst (n : Nat) (x : Bytes) : Bytes × Bytes := (x.drop n, x.take n)

/-- The last `n` bytes are aux and the rest src (DEDUCED, log entry 17). -/
def auxLast (n : Nat) (x : Bytes) : Bytes × Bytes := (x.take (x.length - n), x.drop (x.length - n))

/-- A parameter block of 64 to 319 bytes, then a PAN operand of 10 or 64 bytes (R288, R291, R309). An input of 128 to 329 bytes can end in either: it is taken to end in
an account field of 10 bytes (DESIGN CHOICE, log entry 80). -/
def panLast (x : Bytes) : Bytes × Bytes := auxFirst (x.length - (if 329 < x.length then 64 else 10)) x

/-- src and aux of a job of its own (R288, R307, R361, R397, R558, R794). `algA` is the algorithm of the key in position A, `rootA` whether it
holds a zone root, `emptyA` whether it is empty. -/
def splitInput (op algA : Nat) (rootA emptyA : Bool) (x : Bytes) : Bytes × Bytes :=
  if isTenantOp op ∨ op / 256 = 2 then lengthFirst x
  else match op with
  | 0x0101 => ([], x) | 0x0131 => ([], x) | 0x0161 => ([], x)
  | 0x0112 => if emptyA then lengthFirst x else auxFirst (sigLen algA) x
  | 0x0122 => if emptyA then lengthFirst x else auxFirst (sigLen algA) x
  | 0x0141 => auxFirst 4 x | 0x0143 => auxFirst 4 x | 0x0144 => auxFirst 4 x
  | 0x0142 => auxFirst (4 + sigLen algA) x
  | 0x0151 => auxFirst (1 + byteAt 0 x) x
  | 0x0152 => auxFirst (1 + byteAt 0 x + sigLen algA) x
  | 0x0171 => auxFirst (1 + byteAt 0 x + sigLen algA) x
  | 0x0301 => auxFirst 64 x | 0x0302 => auxFirst 64 x | 0x0303 => auxFirst 64 x
  | 0x0311 => auxFirst 112 x
  | 0x0321 => auxFirst 64 x | 0x0322 => auxFirst 64 x
  | 0x0330 => auxFirst (if rootA then 40 else 8) x | 0x0331 => auxFirst (if rootA then 40 else 8) x
  | 0x0341 => panLast x | 0x0342 => panLast x
  | 0x0351 => auxFirst 64 x | 0x0352 => auxFirst 64 x
  | 0x0401 => auxLast 8 x | 0x0404 => auxLast 2 x | 0x0405 => auxLast 4 x
  | _ => (x, [])

/-- src and aux of a step (R216, R288, R316, R361, R397): in the reference authorisation the labels of steps 2 and 3 come from the label
slots. -/
def operandsOf (s : State) (j : Job) (i : Nat) : Bytes × Bytes :=
  let st := (stepAt j i).step
  if isChained j then
    let src := bufRead j.buf st.srcOff st.srcLen
    let aux := bufRead j.buf st.auxOff st.auxLen
    if j.hdr.opcode = 0x0380 ∧ i = 2 then (src, slice 256 64 j.slots)
    else if j.hdr.opcode = 0x0380 ∧ i = 3 then (src, slice 320 32 j.slots ++ aux.drop 32)
    else (src, aux)
  else
    let a := selected j st.selA
    splitInput st.opcode (handleAlg s a) (decide (handleClass a = 4)) (decide (a = 0)) j.input

/-! ### Engine time of classes 1 to 3 -/

/-- Fabric clocks as slices (R40). -/
def clocksToSlices (clocks : Nat) : Nat := ceilDiv (8 * clocks) 3125

/-- Clocks of one AES or TDES block (R377). -/
def blockClocks (alg : Nat) : Nat :=
  match alg with | 0x0001 => 220 | 0x0002 => 260 | 0x0003 => 300 | _ => 420

/-- Clocks of one derivation from a zone root for a working key of an algorithm: (1 + 3n) × 300, n = 1 for a key of 128 bits (R262). -/
def deriveClocks (alg : Nat) : Nat := if alg = 0x0001 ∨ alg = 0x0011 then 1200 else 2100

/-- Clocks of a symmetric operation (R377); `n` and `a` are the src length and the aux length after its labels, `units` the data units of XTS, `derived` the clocks of its derivations (R262). -/
def symClocks (op alg n units a derived : Nat) : Nat :=
  let b := blockClocks alg
  let data := fun (n : Nat) => if n = 0 then 1 else 2
  let body := match op with
    | 0x0201 => ceilDiv n (blockSize alg) * b
    | 0x0202 => ceilDiv n (blockSize alg) * b
    | 0x0203 => ceilDiv n 16 * b
    | 0x0204 => ceilDiv n 16 * b
    | 0x0211 => (ceilDiv n 16 + 2) * b + 128 * (ceilDiv a 16 + data n)
    | 0x0212 => (ceilDiv (n - 16) 16 + 2) * b + 128 * (ceilDiv (a - 12) 16 + data (n - 16))
    | 0x0224 => (max 1 (ceilDiv n 16) + 1) * b
    | 0x0225 => (max 1 (ceilDiv n 16) + 1) * b
    | 0x0231 => (ceilDiv n 16 + units) * b
    | 0x0232 => (ceilDiv n 16 + units) * b
    | 0x0241 => (if n ≤ 8 then 1 else 6 * ceilDiv n 8) * b
    | _ => (if n ≤ 16 then 1 else 6 * (ceilDiv n 8 - 1)) * b
  64 + body + derived

/-- Fabric clocks of one operation of a digest unit over `n` bytes (R329): 1 SHA-256, 2 SHA-384, 3 SHA-512, 4 SHAKE256. -/
def hashClocks (hash n : Nat) : Nat :=
  100 + (match hash with
    | 2 => 180 * ceilDiv (n + 17) 128
    | 3 => 180 * ceilDiv (n + 17) 128
    | 4 => 60 * ceilDiv (n + 1) 136
    | _ => 140 * ceilDiv (n + 9) 64)

/-- DIGEST slices of one hash. -/
def hashSlices (hash n : Nat) : Nat := clocksToSlices (hashClocks hash n)

/-- DIGEST slices of a public-key operation over a message of `n` bytes with `a` bytes of aux (R329, R339, R361): the hash of the curve or of the RSA parameters; for Ed25519 and
Ed448 the hashes of RFC 8032, two of them in a signature of Ed448; for ML-DSA the message representative of FIPS 204. -/
def digestSlices (op alg hash n a : Nat) : Nat :=
  match alg with
  | 0x0101 => hashSlices 1 n
  | 0x0102 => hashSlices 2 n
  | 0x0103 => hashSlices 3 n
  | 0x0111 => hashSlices 3 (n + 64)
  | 0x0112 => if op = 0x0121 then clocksToSlices (hashClocks 4 (n + 67) + hashClocks 4 (n + 124)) else hashSlices 4 (n + 124)
  | _ => if 0x0131 ≤ alg ∧ alg ≤ 0x0133 then hashSlices 4 (n + 65 + (if op = 0x0152 then a - sigLen alg else a)) else hashSlices hash n

/-- PK slices of the operation of an opcode under an algorithm (R357). -/
def pkSlices (op alg : Nat) : Nat :=
  let by3 := fun (a b c : Nat) => match alg with | 0x0101 => a | 0x0102 => b | _ => c
  let pq := fun (a b c : Nat) => match alg % 16 with | 1 => a | 2 => b | _ => c
  match op with
  | 0x0101 => (match alg with | 0x0101 => 2 | 0x0102 => 4 | 0x0103 => 8 | 0x0111 => 23 | 0x0112 => 52 | 0x0113 => 1 | 0x0114 => 1 | _ => if 0x0121 ≤ alg ∧ alg ≤ 0x0125 then 16 else 2)
  | 0x0111 => by3 77 224 512
  | 0x0112 => by3 52 154 352
  | 0x0121 => if alg = 0x0112 then 199 else 65
  | 0x0122 => if alg = 0x0112 then 218 else 71
  | 0x0131 => (match alg with | 0x0101 => 32 | 0x0102 => 96 | 0x0103 => 218 | 0x0113 => 29 | _ => 90)
  | 0x0141 => (match alg with | 0x0121 => 2560 | 0x0122 => 7680 | 0x0123 => 17920 | _ => 134400)
  | 0x0144 => (match alg with | 0x0121 => 2560 | 0x0122 => 7680 | 0x0123 => 17920 | _ => 134400)
  | 0x0142 => (match alg with | 0x0121 => 39 | 0x0122 => 84 | 0x0123 => 144 | 0x0124 => 544 | _ => 13)
  | 0x0143 => (match alg with | 0x0121 => 39 | 0x0122 => 84 | 0x0123 => 144 | _ => 544)
  | 0x0151 => pq 346 576 887
  | 0x0152 => pq 116 176 288
  | 0x0161 => pq 52 80 116
  | 0x0162 => pq 64 96 138
  | _ => 0

/-- DIGEST slices of an SLH-DSA verification (R359), by algorithm code. -/
def slhSlices (alg : Nat) : Nat :=
  ([800, 1280, 2240, 3520, 1216, 1920, 3360, 5280, 1760, 2720, 3520, 5440] : List Nat).getD (alg - 0x0151) 800

/-- PK slices of generating a key pair (R357); an RSA key pair is charged its mean. -/
def pairSlices (alg : Nat) : Nat :=
  match alg with
  | 0x0101 => 29 | 0x0102 => 87 | 0x0103 => 199 | 0x0111 => 16 | 0x0112 => 52 | 0x0113 => 29 | 0x0114 => 90
  | 0x0121 => 192000 | 0x0122 => 576000 | 0x0123 => 1440000 | 0x0124 => 17600000
  | 0x0131 => 192 | 0x0132 => 304 | 0x0133 => 448 | 0x0141 => 45 | 0x0142 => 71 | 0x0143 => 103 | 0x0160 => 189
  | _ => 0

/-- The engine work of an operation of classes 1 to 3, one list for each part that may run in its own swath (R306, R332, R365, R384, R402,
R447, R554). `alg` is the algorithm that position A runs under, `n` the length of src, `aux` the aux operand, `roots` the zone roots and `derived` the clocks of their derivations. -/
def bulkParts (e : OpEntry) (alg n : Nat) (aux : Bytes) (roots derived : Nat) : List (List (Nat × Nat)) :=
  let op := e.code
  let a := aux.length
  let hash := byteAt 1 aux
  let du := leAt (32 * roots) 4 aux
  if op / 256 = 2 then [[(1, clocksToSlices (symClocks op (if alg = 0 then 3 else alg) n (if du = 0 then 1 else ceilDiv n du) (a - 32 * roots) derived))]]
  else if op = 0x0321 ∨ op = 0x0322 then
    let tdes := isTdes alg
    [[(1, clocksToSlices (64 + (if tdes then 420 * max 1 (ceilDiv n 8) else 300 * max 1 (ceilDiv n 16)) + derived))]]
  else if op = 0x0171 then [[(2, slhSlices alg)]]
  else if op = 0x0111 ∧ alg = 0x0101 then [[(0, 32), (2, hashSlices 1 n)], [(0, 45)]]
  else if op = 0x0121 ∧ alg = 0x0111 then [[(0, 18), (2, hashSlices 3 (n + 32))], [(0, 47), (2, hashSlices 3 (n + 64))]]
  else if op / 256 = 1 ∧ op ≠ 0x0113 ∧ op ≠ 0x0114 then
    let hashes := decide (op ∈ [0x0111, 0x0112, 0x0121, 0x0122, 0x0141, 0x0142, 0x0151, 0x0152])
    [(0, pkSlices op (if alg = 0 then 0x0101 else alg)) :: (if hashes then [(2, digestSlices op alg hash n a)] else [])]
  else if op / 256 = 4 ∧ e.path = 2 then
    (List.range 2).map (fun o => (e.costs.filter (fun c => decide (c.offset = o))).map (fun c => (c.kind, c.slices)))
  else if e.whole = [] then [] else [e.whole]

/-- CIPHER slices of an import of a key block of `n` bytes (R276). -/
def importSlices (n : Nat) : Nat := clocksToSlices (600 * ceilDiv n 16 + 2400)

/-- PK slices of the verification entry of a P-384 or ML-DSA key (R357). -/
def verifySlices (alg : Nat) : Nat := if alg = 0x0102 then pkSlices 0x0112 alg else pkSlices 0x0152 alg

/-- Body bytes of the image in a target's inactive slot, as its header gives them (R333, R618). -/
def stagedBody (s : State) (target : Nat) : Nat := match readSlot s (inactiveBase s target) 256 with | some h => leAt 12 4 h | none => 0

/-- The work of a job that is not of R377 or R357 alone: key generation by its algorithm, an import by its block and its sender (R268, R276), a tenant load by its
code (R558), the check of a staged image by its body (R625). -/
def inputParts (s : State) (e : OpEntry) (j : Job) : Option (List (List (Nat × Nat))) :=
  let input := j.input
  match e.code with
  | 0x0501 => let n := pairSlices (leAt 2 2 input); some (if n = 0 then [] else [[(0, n)]])
  | 0x0502 => some [[(1, importSlices j.hdr.inLen)]]
  | 0x0503 => some [[(0, pkSlices 0x0131 0x0102 + pkSlices 0x0162 0x0143 + verifySlices (handleAlg s j.hdr.keyB)),
                     (1, importSlices (if input.length < 1667 then j.hdr.inLen - 1667 else leAt 1665 2 input))]]
  | 0x0504 => some [[(0, pkSlices 0x0101 (leAt 2 2 input))]]
  | 0x0F12 => some [[(0, verifySlices 0x0133 + verifySlices 0x0102), (2, hashSlices 2 (stagedBody s (byteAt 0 input)))]]
  | 0x0801 => some [[(0, verifySlices (leAt 40 2 input)), (5, ceilDiv (leAt 12 2 input) 6)]]
  | _ => none

end Sys2Proof.Machine
end

