-- ==== Sys2Proof/Machine/Checks.lean ====
section
/-!
DEFINITION. Sys2Proof/Machine/Checks.lean: the checks made when a step is bound (R230, R243, R274, R289 to R312, R336, R362, R395 to R401, R446,
R791), context labels (R257 to R261), and the conditions of class 0 forms (R306, R366, R402, R447, R517).
-/
namespace Sys2Proof.Machine
open Sys2Proof

/-! ### Key positions and labels -/

/-- A key position in use by a step: which it is, what the opcode asks of it, and the handle. -/
structure Held where
  idx : Nat
  pos : KeyPos
  handle : Nat
deriving DecidableEq, Repr

/-- The positions of a step that hold a handle. -/
def heldKeys (s : State) (j : Job) (i : Nat) : List Held :=
  let st := (stepAt j i).step
  match entryOf s st.opcode with
  | none => []
  | some e =>
    let one := fun (idx : Nat) (p : Option KeyPos) (h : Nat) =>
      match p with | some p => if h = 0 then [] else [{ idx := idx, pos := p, handle := h : Held }] | none => []
    one 0 e.posA (selected j st.selA) ++ one 1 e.posB (selected j st.selB)

/-- A zone root by its handle's class (R238). -/
def isRoot (h : Nat) : Bool := decide (handleClass h = 4)

/-- The label of a position that holds a zone root (R289, R300, R302, R305, R307, R309, R311, R397). -/
def labelOf (s : State) (j : Job) (i : Nat) (idx : Nat) : Bytes :=
  let op := (stepAt j i).step.opcode
  let aux := (operandsOf s j i).2
  if op / 256 = 2 then
    let before := ((heldKeys s j i).filter (fun h => decide (h.idx < idx) && isRoot h.handle)).length
    slice (32 * before) 32 aux
  else if op = 0x0330 ∨ op = 0x0331 then slice 8 32 aux
  else slice (32 * idx) 32 aux

/-- Clocks of a step's derivations from zone roots, each by the scheme of its label (R262, R306). -/
def rootClocks (s : State) (j : Job) (i : Nat) : Nat :=
  (((heldKeys s j i).filter (fun h => isRoot h.handle)).map (fun h => deriveClocks (schemeAlg (byteAt 1 (labelOf s j i h.idx))))).sum

/-- The algorithm that an operation runs under in a position: a zone root's is that of its label's scheme, an empty position's that of the inline value (R258, R306,
R794). -/
def runAlg (s : State) (j : Job) (i : Nat) : Nat :=
  let st := (stepAt j i).step
  let a := selected j st.selA
  if a = 0 then inlineAlg st.opcode (operandsOf s j i).2.length
  else if isRoot a then schemeAlg (byteAt 1 (labelOf s j i 0))
  else handleAlg s a

/-- Number of zone roots a step uses. -/
def rootCount (s : State) (j : Job) (i : Nat) : Nat := ((heldKeys s j i).filter (fun h => isRoot h.handle)).length

/-- A symmetric opcode's own aux fields, after the labels (R397). -/
def symAux (s : State) (j : Job) (i : Nat) : Bytes := (operandsOf s j i).2.drop (32 * rootCount s j i)

/-- Usage bits of a key derived under a purpose (R258). -/
def purposeUsage : Nat → Nat
  | 1 => 0xC00 | 2 => 0x1000 | 3 => 0x30 | 4 => 0x3 | 5 => 0x6000 | 6 => 0x18000 | 7 => 0x80000 | 8 => 0x60000 | 9 => 0xC | 10 => 0x33 | _ => 0

/-- A purpose permits a scheme (R258). -/
def purposeScheme (p scheme : Nat) : Bool :=
  if p = 3 then decide (1 ≤ scheme ∧ scheme ≤ 6)
  else if p = 8 ∨ p = 9 ∨ p = 10 then decide (1 ≤ scheme ∧ scheme ≤ 3)
  else decide (1 ≤ p ∧ p ≤ 10 ∧ 1 ≤ scheme ∧ scheme ≤ 5)

/-- The format checks of R260: reserved values, scheme against purpose, reserved bytes, and bytes 8 to 15 under purpose 0x0A; bytes 12 to 15
are 0 under every other purpose (R257). -/
def labelFormatOk (l : Bytes) : Bool :=
  purposeScheme (byteAt 0 l) (byteAt 1 l) && allZero (slice 5 3 l) && allZero (slice 12 4 l) && (decide (byteAt 0 l ≠ 10) || allZero (slice 8 8 l))

/-- All the bits of `mask` are set. -/
def hasBits (v : BitVec 32) (mask : Nat) : Bool := decide (v &&& BitVec.ofNat 32 mask = BitVec.ofNat 32 mask)

/-- Bit z of a partners field (R239). -/
def isPartner (p : BitVec 256) (z : Nat) : Bool := p.getLsbD z

/-- Algorithms an operation accepts in a position, as a test on the algorithm code (R295, R301, R305, R307, R309, R311, R339, R362, R364, R398,
R400, R401). -/
def algSuits (s : State) (j : Job) (i idx alg : Nat) : Bool :=
  let op := (stepAt j i).step.opcode
  let o := operandsOf s j i
  let block := fun (format : Nat) => if format = 4 then isAes alg else if format = 0 ∨ format = 1 ∨ format = 3 then isTdes alg else true
  let either := isAes alg || isTdes alg
  match op with
  | 0x0201 => either | 0x0202 => either
  | 0x0231 => if idx = 0 then decide (alg = 1 ∨ alg = 3) else decide (alg = 1 ∨ alg = 3)
  | 0x0232 => if idx = 0 then decide (alg = 1 ∨ alg = 3) else decide (alg = 1 ∨ alg = 3)
  | 0x0301 => block (byteAt idx o.1)
  | 0x0302 => if idx = 0 then isAes alg && block (byteAt 0 o.1) else block (byteAt 1 o.1)
  | 0x0303 => if idx = 0 then isTdes alg && block (byteAt 0 o.1) else block (byteAt 1 o.1)
  | 0x0311 => if idx = 0 then block (byteAt 64 o.2) else either
  | 0x0321 => (match byteAt 32 o.2 with | 1 => isTdes alg | 3 => decide (alg = 0x11) | 5 => isAes alg | _ => true)
  | 0x0322 => (match byteAt 32 o.2 with | 1 => isTdes alg | 3 => decide (alg = 0x11) | 5 => isAes alg | _ => true)
  | 0x0330 => (match byteAt 6 o.2 with | 0 => decide (alg = 0x11) | 1 => isAes alg | _ => true)
  | 0x0331 => (match byteAt 6 o.2 with | 0 => decide (alg = 0x11) | 1 => isAes alg | _ => true)
  | 0x0341 => (match byteAt 32 o.2 with | 1 => isTdes alg | 2 => isAes alg | _ => true)
  | 0x0342 => (match byteAt 32 o.2 with | 1 => isTdes alg | 2 => isAes alg | _ => true)
  | 0x0111 => decide (0x0101 ≤ alg ∧ alg ≤ 0x0103)
  | 0x0112 => decide (0x0101 ≤ alg ∧ alg ≤ 0x0103)
  | 0x0121 => decide (alg = 0x0111 ∨ alg = 0x0112)
  | 0x0122 => decide (alg = 0x0111 ∨ alg = 0x0112)
  | 0x0131 => decide ((0x0101 ≤ alg ∧ alg ≤ 0x0103) ∨ alg = 0x0113 ∨ alg = 0x0114)
  | 0x0142 => decide (0x0121 ≤ alg ∧ alg ≤ 0x0125)
  | 0x0143 => decide (0x0121 ≤ alg ∧ alg ≤ 0x0124)
  | 0x0162 => decide (0x0141 ≤ alg ∧ alg ≤ 0x0143)
  | 0x0502 => (match byteAt 0 j.input with | 0x44 => isAes alg | 0x42 => decide (alg = 0x12) | _ => true)
  | 0x0503 => if idx = 0 then decide (alg = 0x0160) else decide (alg = 0x0102 ∨ (0x0131 ≤ alg ∧ alg ≤ 0x0133))
  | 0x0801 => decide (alg = leAt 40 2 j.input)
  | _ => if op / 256 = 2 ∨ op = 0x0351 ∨ op = 0x0352 then isAes alg else true

/-- The classes of a position: a MAC key's class follows the MAC algorithm (R305). -/
def classesOf (s : State) (j : Job) (i : Nat) (h : Held) : List Nat :=
  let op := (stepAt j i).step.opcode
  if op = 0x0321 ∨ op = 0x0322 then (match byteAt 32 (operandsOf s j i).2 with | 1 => [0x14] | 3 => [0x14] | 5 => [0x12] | _ => h.pos.classes) else h.pos.classes

/-- Usage bits a position needs (R301, R309, R400). -/
def usageNeeded (s : State) (j : Job) (i : Nat) (h : Held) : Nat :=
  if (stepAt j i).step.opcode = 0x0341 ∧ byteAt 36 (operandsOf s j i).2 ≠ 0 then h.pos.usage + 0x10000 else h.pos.usage

/-- Step 3 of R230 for one position: class, algorithm, usage and derive_only, status; a zone root with its label as R791 orders it. -/
def keyCheck (s : State) (j : Job) (i : Nat) (h : Held) (k : KeyBlock) : Option Nat :=
  let bad := decide (k.status ≠ 0) || (decide (k.lastEpoch ≠ 0) && decide (k.lastEpoch < s.sched.epoch.toNat))
  let subject := match entryOf s (stepAt j i).step.opcode with | some e => e.subject | none => false
  if subject then (if h.pos.classes = [] ∨ handleClass h.handle ∈ h.pos.classes then none else some 0x0305)
  else if isRoot h.handle then
    let l := labelOf s j i h.idx
    if h.pos.purposes = [] then some 0x0305
    else if ¬ labelFormatOk l then some 0x0404
    else if ¬ byteAt 0 l ∈ h.pos.purposes ∨ ¬ hasBits (BitVec.ofNat 32 (purposeUsage (byteAt 0 l))) (usageNeeded s j i h) then some 0x0305
    else if ¬ algSuits s j i h.idx (schemeAlg (byteAt 1 l)) then some 0x0304
    else if bad then some 0x0306 else none
  else if ¬ handleClass h.handle ∈ classesOf s j i h then some 0x0305
  else if ¬ algSuits s j i h.idx k.alg then some 0x0304
  else if ¬ hasBits k.usage (usageNeeded s j i h) ∨ k.deriveOnly ∨ ((stepAt j i).step.opcode = 0x0242 ∧ hasBits k.usage 0x100000) then some 0x0305
  else if bad then some 0x0306 else none

/-- The working key of a position as it stands now (R258, R261); under purpose 0x0A the module writes the epoch and the swath of binding (R261). -/
def keyValue (s : State) (j : Job) (i : Nat) (h : Held) : Option KeyVal :=
  match findKey s h.handle with
  | .error _ => none
  | .ok k =>
    if isRoot h.handle then
      let l0 := labelOf s j i h.idx
      let l := if byteAt 0 l0 = 10 then overlay 8 (leBytes 4 s.sched.epoch.toNat ++ leBytes 4 ((stepAt j i).boundAt.getD (now s) % 2 ^ 32)) l0 else l0
      some { handle := h.handle, alg := schemeAlg (byteAt 1 l), usage := purposeUsage (byteAt 0 l), zone := byteAt 2 l,
             partners := BitVec.ofNat 256 (2 ^ byteAt 3 l), material := derive k.material l, derived := true }
    else
      some { handle := h.handle, alg := k.alg, usage := k.usage.toNat, zone := k.zone, partners := k.partners, material := k.material, derived := false }

/-- The working keys of positions A and B. -/
def keyValues (s : State) (j : Job) (i : Nat) : Option KeyVal × Option KeyVal :=
  let get := fun idx => match (heldKeys s j i).find? (fun h => decide (h.idx = idx)) with | some h => keyValue s j i h | none => none
  (get 0, get 1)

/-! ### Steps 1 to 5 -/

/-- Length-prefixed fields fill a string exactly. -/
def prefixedFields : Nat → Bytes → Bool
  | 0, m => m.isEmpty
  | n + 1, m => decide (2 + beNat (m.take 2) ≤ m.length) && prefixedFields n (m.drop (2 + beNat (m.take 2)))

/-- The material of a private key block has its layout (R242, R341). -/
def materialOk (cls alg : Nat) (m : Bytes) : Bool :=
  match cls with
  | 0x30 =>
    let scalar := match alg with | 0x0101 => 32 | 0x0102 => 48 | 0x0103 => 66 | 0x0111 => 32 | 0x0112 => 57 | 0x0113 => 32 | _ => 56
    decide (m.length = scalar + pointLen alg)
  | 0x31 => decide (m.length ≤ 3630) && prefixedFields 7 m
  | 0x32 => decide (m.length = 32)
  | 0x33 => decide (m.length = if alg = 0x0160 then 112 else 64)
  | _ => true


/-- Step 1: every key exists, belongs to this fold domain and passes its tag. -/
def existCheck (s : State) (j : Job) (i : Nat) : Option Nat :=
  let subject := match entryOf s (stepAt j i).step.opcode with | some e => e.subject | none => false
  (heldKeys s j i).foldl (fun r h => match r with
    | some x => some x
    | none => match findKey s h.handle with
      | .ok k => if subject || materialOk (handleClass k.handle) k.alg k.material then none else some 0x0303
      | .error e => some e) none

/-- Step 2: the session rules (R273, R274). -/
def sessionCheck (s : State) (j : Job) (i : Nat) : Option Nat :=
  let subject := match entryOf s (stepAt j i).step.opcode with | some e => e.subject | none => false
  let bound : List Nat := if subject then [] else (heldKeys s j i).filterMap (fun h => match findKey s h.handle with
    | .ok k => if k.sessionBound then some k.application else none
    | .error _ => none)
  let opened := jobSession s j
  let foreign := bound.any (fun a => match opened with | some e => decide (e.application ≠ a) | none => false)
  if !bound.isEmpty && (!j.hdr.session || foreign) then some 0x0801
  else if j.sessionResult ≠ 0 then some j.sessionResult
  else if !bound.isEmpty && opened.isNone then some 0x0802
  else none

/-- A format change permitted by R298. -/
def formatChangeOk (f g : Nat) : Bool :=
  decide (g = 0 ∨ g = 3 ∨ g = 4 ∨ (g = 1 ∧ f = 1)) || decide (3 < f ∧ f ≠ 4) || decide (f = 2) || decide (4 < g) || decide (g = 2)

/-- Step 4 for one position: the class ceiling, then the zone and partner of a zone root's label (R230, R791). -/
def positionPolicy (s : State) (j : Job) (i : Nat) (h : Held) : Option Nat :=
  match findKey s h.handle with
  | .error _ => none
  | .ok k =>
    let l := labelOf s j i h.idx
    if j.hdr.cls < k.ceiling then some 0x0902
    else if isRoot h.handle ∧ (byteAt 2 l ≠ k.zone ∨ ¬ isPartner k.partners (byteAt 3 l)) then some 0x0901
    else none

/-- Step 4: the key policy, position A before position B (R230, R791). -/
def policyCheck (s : State) (j : Job) (i : Nat) : Option Nat :=
  let op := (stepAt j i).step.opcode
  let subject := match entryOf s op with | some e => e.subject | none => false
  let kv := keyValues s j i
  let translate := decide (op = 0x0301 ∨ op = 0x0302 ∨ op = 0x0303)
  let both := match kv.1, kv.2 with
    | some a, some b => isPartner a.partners b.zone && isPartner b.partners a.zone
    | _, _ => true
  let src := (operandsOf s j i).1
  if subject then none
  else match (heldKeys s j i).findSome? (positionPolicy s j i) with
  | some r => some r
  | none =>
  if translate ∧ ¬ both then some 0x0901
  else if translate ∧ ¬ formatChangeOk (byteAt 0 src) (byteAt 1 src) then some 0x0906
  else if (op = 0x0203 ∨ op = 0x0211) ∧ nonceExhausted s then some 0x0907
  else if decide (op = 0x0231 ∨ op = 0x0232) && (match kv.1, kv.2 with | some a, some b => decide (a.material = b.material) | _, _ => false) then some 0x0907
  else none

/-- Step 5: marked bytes in positions that do not accept them (R220, R292, R363, R395, R444). -/
def secretCheck (s : State) (j : Job) (i : Nat) : Option Nat :=
  let st := (stepAt j i).step
  let encOnly := match (keyValues s j i).1 with
    | some k => decide (st.opcode = 0x0201 ∨ st.opcode = 0x0203 ∨ st.opcode = 0x0211) && !k.derived && hasBits (BitVec.ofNat 32 k.usage) 1
                  && !hasBits (BitVec.ofNat 32 k.usage) 2
    | none => false
  let src := (match entryOf s st.opcode with | some e => e.secretSrc | none => false) || encOnly
  if isChained j ∧ ((bufMarked j.buf st.srcOff st.srcLen ∧ ¬ src) ∨ bufMarked j.buf st.auxOff st.auxLen) then some 0x0904 else none

/-! ### Step 6: operand validation -/

/-- The first failure of a list of tests. -/
def firstFail : List (Bool × Nat) → Option Nat
  | [] => none
  | (ok, r) :: l => if ok then firstFail l else some r

/-- A position that holds a stored key has an all-zero label field (R289). -/
def labelZero (root : Bool) (l : Bytes) : Bool := root || allZero l

/-- Key serial number checks (R264): an AES counter, the low 32 bits of 12 bytes; a TDES counter, the low 21 bits of 10 bytes. -/
def dukptOk (aes : Bool) (ksn : Bytes) : Bool :=
  let c := if aes then beNat (slice 8 4 ksn) else beNat (slice 0 10 ksn) % 2 ^ 21
  let ones := ((List.range 32).filter (fun i => Nat.testBit c i)).length
  decide (c ≠ 0 ∧ ones ≤ (if aes then 16 else 10))

/-- A PIN block format (R295). -/
def formatOk (f : Nat) : Bool := decide (f = 0 ∨ f = 1 ∨ f = 3 ∨ f = 4)

/-- A PAN operand: its length, and the account field it holds (R291). -/
def panChecks (p : Bytes) : List (Bool × Nat) := [(decide (p.length = 10 ∨ p.length = 64), 0x0401), (accountOk (panOf p), 0x0404)]

/-- Every nibble is a decimal digit. -/
def bcdOk (bs : Bytes) : Bool := (nibbles bs).all (fun d => decide (d ≤ 9))

/-- Payment operands (R288 to R311, R317). -/
def payChecks (s : State) (j : Job) (i : Nat) : List (Bool × Nat) :=
  let op := (stepAt j i).step.opcode
  let o := operandsOf s j i
  let src := o.1
  let aux := o.2
  let root := fun idx => (heldKeys s j i).any (fun h => decide (h.idx = idx) && isRoot h.handle)
  let auth := decide (j.hdr.opcode = 0x0380)
  let pan := if auth then [] else panChecks src
  let mac := [(decide (aux.length = 64), 0x0401), (!isChained j || decide (src.length ≤ 8192), 0x0401), (labelZero (root 0) (slice 0 32 aux), 0x0404),
    (decide (byteAt 32 aux = 1 ∨ byteAt 32 aux = 3 ∨ byteAt 32 aux = 5), 0x0404),
    (if byteAt 32 aux = 5 then decide (byteAt 33 aux = 0 ∧ 4 ≤ byteAt 34 aux ∧ byteAt 34 aux ≤ 16)
     else decide ((byteAt 33 aux = 1 ∨ byteAt 33 aux = 2) ∧ 4 ≤ byteAt 34 aux ∧ byteAt 34 aux ≤ 8), 0x0404),
    (allZero (slice 35 13 aux), 0x0404)]
  let cvv := [(decide (aux.length = if root 0 then 40 else 8), 0x0401)] ++ pan ++
    [(decide (byteAt 6 aux ≤ 1 ∧ byteAt 7 aux ≤ 1), 0x0404), (bcdOk (slice 0 6 aux), 0x0404), (decide (byteAt 4 aux < 16), 0x0404),
     (decide (byteAt 7 aux = 1 ∨ byteAt 0 aux < 16), 0x0404)]
  let arqc := [(decide (64 ≤ aux.length ∧ aux.length ≤ 319), 0x0401)] ++ pan ++
    [(labelZero (root 0) (slice 0 32 aux), 0x0404),
     (decide (byteAt 32 aux = 1 ∨ byteAt 32 aux = 2), 0x0404), (bcdOk (slice 33 1 aux), 0x0404), (decide (byteAt 36 aux ≤ 2), 0x0404),
     (decide (byteAt 37 aux ≤ 8 ∧ (byteAt 36 aux = 2 ∨ byteAt 37 aux = 0)), 0x0404), (allZero (slice 60 4 aux), 0x0404),
     (decide (¬ auth ∨ (byteAt 32 aux = 2 ∧ aux.length ≤ 128)) && (!auth || allZero (bufRead j.buf (stepAt j i).step.auxOff 32)), 0x0404)]
  let ff1 := [(decide (aux.length = 64), 0x0401), (labelZero (root 0) (slice 0 32 aux), 0x0404),
    (decide (6 ≤ byteAt 32 aux ∧ byteAt 32 aux ≤ 19 ∧ byteAt 33 aux ≤ 16 ∧ byteAt 50 aux ≤ 4 ∧ byteAt 50 aux + 6 ≤ byteAt 32 aux), 0x0404),
    (allZero (slice (34 + byteAt 33 aux) (16 - byteAt 33 aux) aux) && allZero (slice 51 13 aux), 0x0404)]
  match op with
  | 0x0311 =>
    [(decide (aux.length = 112), 0x0401)] ++ panChecks src ++
      [(labelZero (root 0) (slice 0 32 aux) && labelZero (root 1) (slice 32 32 aux), 0x0404),
       (formatOk (byteAt 64 aux), 0x0404), (decide (4 ≤ byteAt 65 aux ∧ byteAt 65 aux ≤ 12), 0x0404),
       (decide (byteAt 66 aux < 16 ∧ byteAt 67 aux = 0), 0x0404), (allZero (slice 82 14 aux), 0x0404),
       (decide ((nibbles (slice 68 8 aux)).take 10 = List.range 10) && bcdOk (slice 68 8 aux), 0x0404),
       (((nibbles (slice 76 6 aux)).take (byteAt 65 aux)).all (fun d => decide (d ≤ 9)), 0x0404),
       (decide (byteAt 64 aux = 4) || allZero (slice 104 8 aux), 0x0404)]
  | 0x0321 => mac ++ [(allZero (slice 48 16 aux), 0x0404)]
  | 0x0322 => mac
  | 0x0330 => cvv ++ [(allZero (slice 0 2 aux), 0x0404)]
  | 0x0331 => cvv
  | 0x0341 => arqc
  | 0x0342 => arqc
  | 0x0351 => ff1 ++ panChecks src ++ [(decide ((accountDigits (panOf src)).length = byteAt 32 aux), 0x0404)]
  | 0x0352 => ff1 ++ [(decide (src.length = 10), 0x0401), (accountOk src, 0x0404), (decide ((accountDigits src).length = byteAt 32 aux), 0x0404)]
  | _ =>
    let f := byteAt 0 src
    let g := byteAt 1 src
    [(decide (src.length = 48 ∧ aux.length = 64), 0x0401),
     (labelZero (root 0) (slice 0 32 aux) && labelZero (root 1) (slice 32 32 aux), 0x0404),
     (formatOk f && formatOk g && (!auth || decide (g = 4)), 0x0404), (allZero (slice 2 2 src) && allZero (slice 26 6 src), 0x0404),
     (if op = 0x0301 then allZero (slice 4 12 src) else if op = 0x0303 then allZero (slice 14 2 src) else true, 0x0404),
     (if f = 1 ∧ g = 1 then (slice 16 10 src).all (fun b => decide (b = 0xFF)) else accountOk (slice 16 10 src), 0x0404),
     (decide (f = 4) || allZero (slice 40 8 src), 0x0404),
     (if op = 0x0302 then dukptOk true (slice 4 12 src) else if op = 0x0303 then dukptOk false (slice 4 10 src) else true, 0x030A)]

/-- Symmetric operands (R397, R400). -/
def symChecks (s : State) (j : Job) (i : Nat) : List (Bool × Nat) :=
  let op := (stepAt j i).step.opcode
  let x := operandsOf s j i
  let n := x.1.length
  let a := symAux s j i
  let m := a.length
  let blk := match (keyValues s j i).1 with | some k => blockSize k.alg | none => 16
  let du := leAt 0 4 a
  let whole := (isChained j || decide (4 + leAt 0 4 j.input ≤ j.input.length), 0x0401)
  let size := (decide (n ≤ 2 ^ 26 ∧ 32 * rootCount s j i ≤ x.2.length), 0x0401)
  whole :: size :: (match op with
  | 0x0201 => [(decide (n ≠ 0 ∧ n % blk = 0 ∧ m = 0), 0x0401)]
  | 0x0202 => [(decide (n ≠ 0 ∧ n % blk = 0 ∧ m = blk), 0x0401)]
  | 0x0203 => [(decide (m = 0), 0x0401)]
  | 0x0204 => [(decide (m = 16), 0x0401)]
  | 0x0211 => [(decide (m ≤ 1024), 0x0401)]
  | 0x0212 => [(decide (16 ≤ n ∧ n ≤ 8192 ∧ 12 ≤ m ∧ m ≤ 1036), 0x0401)]
  | 0x0224 => [(decide (m ≤ 1), 0x0401), (decide (m = 0 ∨ (4 ≤ byteAt 0 a ∧ byteAt 0 a ≤ 16)), 0x0404)]
  | 0x0225 => [(decide (4 ≤ m ∧ m ≤ 16), 0x0401)]
  | 0x0241 => [(decide (m = 1), 0x0401), (decide (byteAt 0 a = 1 ∨ byteAt 0 a = 2), 0x0404),
      (if byteAt 0 a = 1 then decide (16 ≤ n ∧ n ≤ 4096 ∧ n % 8 = 0) else decide (1 ≤ n ∧ n ≤ 4096), 0x0401)]
  | 0x0242 => [(decide (m = 1), 0x0401), (decide (byteAt 0 a = 1 ∨ byteAt 0 a = 2), 0x0404),
      (decide ((if byteAt 0 a = 1 then 24 else 16) ≤ n ∧ n ≤ 4104 ∧ n % 8 = 0), 0x0401)]
  | _ => [(decide (m = 24), 0x0401), (decide (16 ≤ du ∧ du ≤ 1048576) && allZero (slice 4 4 a), 0x0404), (decide (n % du = 0), 0x0401)])

/-- Public-key operands that are checked at binding (R317, R361, R362, R794). -/
def pkChecks (s : State) (j : Job) (i : Nat) : List (Bool × Nat) :=
  let op := (stepAt j i).step.opcode
  let o := operandsOf s j i
  let empty := decide (selected j (stepAt j i).step.selA = 0)
  let alg := handleAlg s (selected j (stepAt j i).step.selA)
  let auth := decide (j.hdr.opcode = 0x0380)
  match op with
  | 0x0112 => [(!empty || decide (inlineAlg op o.2.length ≠ 0), 0x0401), (decide (¬ auth ∨ byteAt 0 o.2 = 4), 0x0404)]
  | 0x0122 => [(!empty || decide (inlineAlg op o.2.length ≠ 0), 0x0401)]
  | 0x0113 => [(decide (alg = 0x0101), 0x0404)]
  | 0x0114 => [(decide (alg = 0x0101), 0x0404)]
  | _ =>
    if op = 0x0141 ∨ op = 0x0142 ∨ op = 0x0143 ∨ op = 0x0144 then
      let sign := decide (op = 0x0141 ∨ op = 0x0142)
      let h := byteAt 1 o.2
      [(decide (4 ≤ o.2.length), 0x0401),
       (if sign then decide (byteAt 0 o.2 = 1 ∨ byteAt 0 o.2 = 2) else decide (byteAt 0 o.2 = 3), 0x0404),
       (decide (1 ≤ h ∧ h ≤ 3 ∧ byteAt 3 o.2 = 0), 0x0404),
       (decide (byteAt 2 o.2 = 0 ∨ (byteAt 0 o.2 = 2 ∧ byteAt 2 o.2 ≤ (match h with | 1 => 32 | 2 => 48 | _ => 64))), 0x0404)]
    else []

/-- Vault operands (R438, R444 to R446). -/
def vaultChecks (s : State) (j : Job) (i : Nat) : List (Bool × Nat) :=
  let op := (stepAt j i).step.opcode
  let o := operandsOf s j i
  let dom := fun d => (decide (d < 4096) && decide (domState (domainAt s d) ≠ 0), 0x0603)
  (s.vault.ready, 0x0609) :: (match op with
  | 0x0401 => [(decide (o.2.length = 8), 0x0401)] ++ panChecks o.1 ++ [(allZero (slice 4 4 o.2), 0x0404), dom (leAt 0 2 o.2),
      (decide ((accountDigits (panOf o.1)).length = domDigits (domainAt s (leAt 0 2 o.2))), 0x0404)]
  | 0x0404 => [(decide (o.2.length = 2), 0x0401)] ++ panChecks o.1 ++ [dom (leAt 0 2 o.2)]
  | 0x0410 => [(decide (leAt 0 2 o.1 < 4096), 0x0603)]
  | 0x0411 => [(decide (leAt 0 2 o.1 < 4096), 0x0603)]
  | _ => [(decide (o.1.length = 16 ∧ (op ≠ 0x0405 ∨ o.2.length = 4)), 0x0401), (allZero (slice 12 4 o.1), 0x0404),
      (decide (op ≠ 0x0405 ∨ (byteAt 0 o.2 ≤ 3 ∧ byteAt 3 o.2 = 0)), 0x0404), dom (leAt 0 2 o.1),
      (((nibbles (slice 2 10 o.1)).take (domDigits (domainAt s (leAt 0 2 o.1)))).all (fun d => decide (d ≤ 9)), 0x0404)])

/-- Step 6 for the opcodes that run on engines or in the vault; an opcode of no engine validates its operands in its own meaning. -/
def operandCheck (s : State) (j : Job) (i : Nat) : Option Nat :=
  let op := (stepAt j i).step.opcode
  firstFail (match op / 256 with
    | 1 => pkChecks s j i
    | 2 => symChecks s j i
    | 3 => payChecks s j i
    | 4 => vaultChecks s j i
    | _ => if isTenantOp op then
        (match mfind op s.tenants with
         | some t => [(isChained j || decide (4 + leAt 0 4 j.input ≤ j.input.length), 0x0401),
             (decide ((operandsOf s j i).1.length ≤ leAt 24 2 t.header ∧ (operandsOf s j i).2.length ≤ leAt 26 2 t.header), 0x0401)]
         | none => [(false, 0x0C01)])
      else [])

/-- The bit of the microcode's algorithms field that an algorithm code needs (R333). -/
def ucodeBit (alg : Nat) : Nat :=
  match alg with
  | 0x0101 => 0 | 0x0102 => 1 | 0x0103 => 2 | 0x0111 => 3 | 0x0112 => 4 | 0x0113 => 5 | 0x0114 => 6
  | _ => if alg ≤ 0x0125 then 7 else if alg ≤ 0x0133 then 8 else if alg ≤ 0x0143 then 9 else 10

/-- The algorithm a public-key step works with: that of its key, of the inline value, or the one it names. -/
def pkAlg (s : State) (j : Job) (i : Nat) : Nat :=
  let st := (stepAt j i).step
  let a := selected j st.selA
  let aux := (operandsOf s j i).2
  if st.opcode = 0x0101 then leAt 0 2 aux
  else if st.opcode = 0x0161 then (match aux.length with | 800 => 0x0141 | 1184 => 0x0142 | 1568 => 0x0143 | _ => 0)
  else if a = 0 then inlineAlg st.opcode aux.length
  else handleAlg s a

/-- The microcode is not there for a family 0x01 step (R336). -/
def ucodeMissing (s : State) (j : Job) (i : Nat) : Bool :=
  decide ((stepAt j i).step.opcode / 256 = 1) &&
    (!s.sig.verified || (let a := pkAlg s j i; decide (a ≠ 0) && !s.sig.algs.getLsbD (ucodeBit a)))

/-- Step 3 over positions A and B in order (R230, R791). -/
def keysCheck (s : State) (j : Job) (i : Nat) : Option Nat :=
  (heldKeys s j i).foldl (fun r h => match r with
    | some x => some x
    | none => match findKey s h.handle with | .ok k => keyCheck s j i h k | .error e => some e) none

/-- XTS key B of another size than key A (R401). -/
def xtsSizes (s : State) (j : Job) (i : Nat) : Option Nat :=
  let op := (stepAt j i).step.opcode
  let kv := keyValues s j i
  if decide (op = 0x0231 ∨ op = 0x0232) && (match kv.1, kv.2 with | some a, some b => decide (a.alg ≠ b.alg) | _, _ => false) then some 0x0304 else none

/-- The checks made when a step is bound, in the order of R230; microcode first (R336; DEDUCED, log entry 18). DEDUCED: log entry 48. -/
def bindingChecks (s : State) (j : Job) (i : Nat) : Option Nat :=
  if ucodeMissing s j i then some 0x0506
  else [existCheck s j i, sessionCheck s j i, keysCheck s j i, xtsSizes s j i, policyCheck s j i, secretCheck s j i, operandCheck s j i].findSome? id

/-- The checks of R230 that need no operand, made when a step is bound before its input has come (R793): keys and sessions, and those of the keys themselves for a
public-key or symmetric opcode with no zone root, whose keys are judged by the opcode alone. -/
def blindChecks (s : State) (j : Job) (i : Nat) : Option Nat :=
  let op := (stepAt j i).step.opcode
  if ucodeMissing s j i then some 0x0506
  else ([existCheck s j i, sessionCheck s j i] ++ (if (op / 256 = 1 ∨ op / 256 = 2) ∧ rootCount s j i = 0 then [keysCheck s j i, xtsSizes s j i, policyCheck s j i] else [])).findSome? id

/-- The checks that are left once the input has come; the session was judged at the binding (R230, R793). -/
def lateChecks (s : State) (j : Job) (i : Nat) : Option Nat :=
  if ucodeMissing s j i then some 0x0506
  else [existCheck s j i, keysCheck s j i, xtsSizes s j i, policyCheck s j i, secretCheck s j i, operandCheck s j i].findSome? id

/-- The key store as it stood when a step was bound with its input still to come (R230). -/
def boundStore (x : StepRun) (s : State) : State :=
  { s with keys := { s.keys with keys := x.boundKeys.foldl (fun m e => match e.2 with | some k => mput e.1 k m | none => merase e.1 m) s.keys.keys } }

/-- Block numbers of the keys an engine needs from its bay for a step (R247). -/
def stepBlocks (s : State) (j : Job) (i : Nat) : List Nat :=
  match entryOf s (stepAt j i).step.opcode with
  | some e => if e.subject then [] else ((heldKeys s j i).map (fun h => handleBlock h.handle)).eraseDups
  | none => []

/-! ### Random output -/

/-- A step consumes random output (R346, R394, R297, R517); a tokenise only for a new random token (R447). -/
def needsRandom (s : State) (j : Job) (i : Nat) : Bool :=
  let op := (stepAt j i).step.opcode
  if op = 0x0401 then
    let o := operandsOf s j i
    wouldIssueRandom s (leAt 0 2 o.2) (panOf o.1)
  else match entryOf s op with | some e => e.random | none => false

/-- Bytes a step draws (R297, R346, R365, R394, R517); a scalar takes its length and 8 bytes more. -/
def drawSize (s : State) (j : Job) (i : Nat) : Nat :=
  let st := (stepAt j i).step
  match st.opcode with
  | 0x0601 => if isChained j then st.dstCap else min j.hdr.outLen 65536 - (stepAt j i).drawn
  | 0x0201 => (match (keyValues s j i).1 with | some k => blockSize k.alg | none => 16)
  | 0x0111 => pointLen (pkAlg s j i) / 2 + 16
  | 0x0501 => 64
  | _ => 32

/-- An update step of the vault waits for the journal (R432), a tokenise for the issue pending for its PAN (R436). -/
def vaultWaits (s : State) (j : Job) (i : Nat) : Bool :=
  let op := (stepAt j i).step.opcode
  let o := operandsOf s j i
  (decide (op = 0x0401 ∨ op = 0x0405) && journalHeld s) || (decide (op = 0x0401) && issuePending s (leAt 0 2 o.2) (panOf o.1))

/-! ### Class 0 forms -/

/-- The length of src that a header gives for a job of its own, at most, with aux of `a` bytes. -/
def srcUpper (h : Header) (a : Nat) : Nat := h.inLen - a

/-- A class 0 job that is not chained lies within the limits of its form (R306, R366, R402, R447, R517), over its input `x` where that is `seen`.
Operands that are not seen count as within them, but for their length (DEDUCED, log entry 19). -/
def class0Form (s : State) (h : Header) (x : Bytes) (seen : Bool) : Bool :=
  let op := h.opcode
  let alg := handleAlg s h.keyA
  let roots := (if isRoot h.keyA then 1 else 0) + (if isRoot h.keyB then 1 else 0)
  let o := splitInput op alg (isRoot h.keyA) (decide (h.keyA = 0)) x
  let symLimit := fun (n fixedAux : Nat) => if seen then decide (o.1.length ≤ n) else decide (srcUpper h (4 + 32 * roots + fixedAux) ≤ n)
  match op with
  | 0x0201 => symLimit 256 0
  | 0x0202 => symLimit 256 (if isTdes alg then 8 else 16)
  | 0x0203 => symLimit 256 0
  | 0x0204 => symLimit 256 16
  | 0x0211 => if seen then decide (o.1.length ≤ 256 ∧ o.2.length ≤ 64 + 32 * roots) else symLimit 320 0
  | 0x0212 => if seen then decide (o.1.length ≤ 272 ∧ o.2.length ≤ 76 + 32 * roots) else symLimit 348 0
  | 0x0224 => symLimit 256 1
  | 0x0225 => symLimit 256 16
  | 0x0231 => symLimit 256 24
  | 0x0232 => symLimit 256 24
  | 0x0241 => symLimit 64 1
  | 0x0242 => symLimit 72 1
  | 0x0321 => decide (srcUpper h 64 ≤ 256)
  | 0x0322 => decide (srcUpper h 64 ≤ 256)
  | 0x0101 => !seen || decide (leAt 0 2 x = 0x0101)
  | 0x0111 => decide (alg = 0x0101 ∧ h.inLen ≤ 256)
  | 0x0112 => if h.keyA ≠ 0 then decide (alg = 0x0101 ∧ h.inLen ≤ 320) else if seen then decide (o.2.length = 129 ∧ o.1.length ≤ 256) else decide (h.inLen ≤ 389)
  | 0x0121 => decide (alg = 0x0111 ∧ h.inLen ≤ 256)
  | 0x0142 => decide (alg = 0x0121 ∧ h.inLen ≤ 516)
  | 0x0401 => !seen ||
      (let d := leAt 0 2 o.2
       let p := panOf o.1
       pairCached s d p && !issuePending s d p && (decide (domMirror (domainAt s d) ≠ 2) || mirrorMeasure s))
  | 0x0404 => !seen || pairCached s (leAt 0 2 o.2) (panOf o.1)
  | 0x0601 => decide (h.outLen ≤ 64)
  | 0x0303 => false
  | _ => true

/-- What check 2 sees of a class 0 job's operands: those that are inline (R63, R793), and for an issue the journal's room (R432). -/
def class0Operands (s : State) (h : Header) (slots : Bytes) : Bool :=
  class0Form s h (inlineInput h slots) (h.inlineIn || decide (h.inLen = 0)) && (decide (h.opcode ≠ 0x0401) || !journalHeld s)

/-- Operands read at in_ptr after admission show a class 0 job past the limits of its form (R366, R402, R793; DEDUCED, log entry 19). -/
def pastForm (s : State) (j : Job) : Bool :=
  decide (j.first ≠ none) && !isChained j && !j.hdr.inlineIn && decide (j.hdr.inLen ≠ 0) && !class0Form s j.hdr j.input true

/-- Swaths that the keys of a job add to its class 0 path: the largest of R249 over the keys it uses. -/
def keySwaths (s : State) (h : Header) (slots : Bytes) : Nat :=
  let handles := [h.keyA, h.keyB] ++ (if h.chain then (List.range (min 6 (chainExtra slots))).map (fun e => extraKey e slots) else [])
  (handles.filter (fun x => decide (x ≠ 0))).foldl (fun m x => max m (keySwath s (handleBlock x))) 0

/-- A class 0 job consumes random output (R63, check 5; R322, R447). -/
def class0Random (s : State) (h : Header) (slots : Bytes) : Bool :=
  if h.opcode = 0x0401 then
    let o := splitInput 0x0401 0 false false (inlineInput h slots)
    h.inlineIn && wouldIssueRandom s (leAt 0 2 o.2) (panOf o.1)
  else match entryOf s h.opcode with | some e => e.random | none => false

/-- The engines a step needs are no longer there (R763). -/
def unitsGone (s : State) (j : Job) (i : Nat) : Bool :=
  ((stepAt j i).work.headD []).any (fun w => decide (w.slices ≠ 0) && (List.range (kindCount w.kind)).all (fun e =>
    let u := unitAt s (enginePage w.kind e)
    !u.enable || decide (u.state = .failed ∨ u.state = .isolated)))

end Sys2Proof.Machine
end

