-- ==== Sys2Proof/Machine/Admission.lean ====
section
/-!
DEFINITION. Sys2Proof/Machine/Admission.lean: the descriptor check (R228), the admission checks (R63, R64, R763), the class 0 ledger (R54 to R59,
R249) and the taking of a job slot (R47, R48, R62, R178).
-/
namespace Sys2Proof.Machine
open Sys2Proof

/-! ### The ledger -/

/-- The stored reservation field of a kind (R87, R88). -/
def reserveField (s : State) : Nat → BitVec 8
  | 0 => s.sched.reservePk | 1 => s.sched.reserveCipher | 2 => s.sched.reserveDigest | 3 => s.sched.reserveRecord
  | 4 => s.sched.reserveNand | _ => s.sched.reserveCore

/-- The profile that scheduling follows in a plane: in THERMAL, the profile in force at entry gives the values R74 takes from it (R75). -/
def replacedProfile (s : State) (plane : Nat) : Nat :=
  let u := unitAt s (mkPage plane 0 0 0)
  if u.profile = 4 then u.entryProfile.toNat else u.profile.toNat

/-- Default reservation of a profile (R74). -/
def defaultReserve : Nat → Nat
  | 0 => 8 | 1 => 4 | 2 => 16 | _ => 4

/-- r of a kind (R52, R74). -/
def reservation (s : State) (kind : Nat) : Nat :=
  let f := (reserveField s kind).toNat
  if f = 0xFF then defaultReserve (replacedProfile s (kindPlane kind)) else f

/-- Class 0 capacity of a reserved engine (R55, R74). -/
def class0Capacity (s : State) (kind : Nat) : Nat := if (unitAt s (mkPage (kindPlane kind) 0 0 0)).profile = 2 then 58 else 54

/-- The junction sensor that watches an engine, where the spec places one by tile (R749): PK tiles 0 to 15, pairs of cipher tiles 16 to 31. -/
def sensorOf (kind idx : Nat) : Option Nat :=
  match kind with
  | 0 => some (idx / 4)
  | 2 => some idx
  | 1 => some (16 + idx / 16)
  | 3 => some 32
  | 4 => some (33 + idx / 4)
  | 5 => some (36 + idx / 8)
  | _ => none

/-- The engine is thermally throttled: its sensor throttles or is faulty (R749, R750). -/
def throttled (s : State) (kind idx : Nat) : Bool :=
  match sensorOf kind idx with
  | some k => let x := mget {} s.power.sensors k; x.throttled || x.faulty
  | none => false

/-- Engines of a kind that count for the ledger: ON, or OFF with enable 1, and not throttled (R54). -/
def ledgerEngines (s : State) (kind : Nat) : List Nat :=
  (List.range (kindCount kind)).filter (fun i =>
    let u := unitAt s (enginePage kind i)
    (decide (u.state = .on) || (decide (u.state = .off) && u.enable)) && !throttled s kind i)

/-- A swath enters the ledger: for each kind, the N = ⌊E × r / 64⌋ engines of highest index are reserved, and the cost table is that of this moment (R54, R55,
R76). -/
def enterLedger (w : Nat) (s : State) : LedgerSwath :=
  let per := fun kind =>
    let es := ledgerEngines s kind
    let n := es.length * reservation s kind / 64
    (es.drop (es.length - n)).map (fun i => { kind := kind, engine := i, free := class0Capacity s kind : Credit })
  let credits := (List.range 6).flatMap per
  { swath := w, credits := credits,
    capacity := (List.range 6).map (fun k => (k, ((credits.filter (fun c => decide (c.kind = k))).map (fun c => c.free)).sum)), raised := s.sched.raised }

/-- The lowest-indexed reserved engine of a kind with room (R58). -/
def findCredit (kind slices : Nat) (l : LedgerSwath) : Option Nat :=
  (l.credits.find? (fun c => decide (c.kind = kind ∧ slices ≤ c.free))).map (fun c => c.engine)

/-- Debit an engine's class 0 slices and note the entry (R58). -/
def debit (slot step kind engine slices : Nat) (l : LedgerSwath) : LedgerSwath :=
  { l with credits := l.credits.map (fun c => if c.kind = kind ∧ c.engine = engine then { c with free := c.free - slices } else c),
           entries := l.entries ++ [{ slot := slot, step := step, kind := kind, engine := engine, slices := slices }] }

/-- Put each cost of a path into the ledger from first work swath f; none where some cost finds no room (R58). -/
def tryLedger (slot f : Nat) : List PathCost → List LedgerSwath → Option (List LedgerSwath)
  | [], ls => some ls
  | c :: cs, ls =>
    if c.slices = 0 then tryLedger slot f cs ls
    else
      match ls.find? (fun l => decide (l.swath = f + c.offset)) with
      | none => none
      | some l =>
        match findCredit c.kind c.slices l with
        | none => none
        | some e => tryLedger slot f cs (ls.map (fun x => if x.swath = l.swath then debit slot c.step c.kind e c.slices x else x))

/-! ### Costs -/

/-- Tergil's floor or the cost of an entry at an offset as a table of raised costs gives it (R91). -/
def costIn (raised : AMap Nat) (e : OpEntry) (offset kind : Nat) : Nat :=
  let floor := ((e.costs.filter (fun c => decide (c.offset = offset ∧ c.kind = kind))).map (fun c => c.slices)).sum
  max floor (mget 0 raised (e.code * 64 + offset * 16 + kind))

/-- The cost of an entry at an offset as it stands now (R91). -/
def costAt (s : State) (e : OpEntry) (offset kind : Nat) : Nat := costIn s.sched.raised e offset kind

/-- The costs of an opcode at one offset of its path; a kind whose cost was raised above 0 there counts too (R56, R91). -/
def offsetCosts (raised : AMap Nat) (e : OpEntry) (o : Nat) : List PathCost :=
  (List.range 6).flatMap (fun k =>
    let mine := e.costs.filter (fun c => decide (c.offset = o ∧ c.kind = k))
    if mget 0 raised (e.code * 64 + o * 16 + k) = 0 then mine
    else [{ offset := o, kind := k, slices := costIn raised e o k, step := (mine.headD { offset := o, kind := k, slices := 0 }).step }])

/-- The path costs of an opcode as they stand now (R56, R91). -/
def pathCosts (s : State) (e : OpEntry) : List PathCost := (List.range e.path).flatMap (offsetCosts s.sched.raised e)

/-- The path costs of a class 0 job of first work swath f: each ledger swath keeps the cost table that it entered with (R58, R76). -/
def ledgerCosts (s : State) (e : OpEntry) (f : Nat) : List PathCost :=
  (List.range e.path).flatMap (fun o =>
    offsetCosts (match s.sched.ledger.find? (fun l => decide (l.swath = f + o)) with | some l => l.raised | none => s.sched.raised) e o)

/-- The opcode meets R57 under its current costs. -/
def meetsR57 (s : State) (e : OpEntry) : Bool := decide (1 ≤ e.path ∧ e.path ≤ 3) && (pathCosts s e).all (fun c => decide (c.slices ≤ 54))

/-- SCH_COST_INFO.c0_eligible as read (R92). The stored setting, and the raised costs, of a tenant opcode stay with the opcode when its program is unloaded and another
loaded (DESIGN CHOICE, log entry 80). -/
def c0Eligible (s : State) (e : OpEntry) : Bool := e.eligible && meetsR57 s e && !decide (e.code ∈ s.sched.c0Cleared)

/-! ### The descriptor check -/

/-- Opcodes a life-cycle state admits (R718). -/
def lifeAdmits (l : Life) (erasing : Bool) (op : Nat) : Bool :=
  let base := decide ((0x0F00 ≤ op ∧ op ≤ 0x0F02) ∨ (0x0F30 ≤ op ∧ op ≤ 0x0F32) ∨ op = 0x0F40)
  if erasing then base || decide (op = 0x0601)
  else match l with
  | .factory => base || decide (op = 0x0601)
  | .transit => base || decide (op = 0x0601)
  | .commission => !(decide (op / 256 = 0x03) || decide (0x0401 ≤ op ∧ op ≤ 0x0405) || isTenantOp op)
  | .operate => true
  | .maintain => true
  | .decommissioned => decide ((0x0F00 ≤ op ∧ op ≤ 0x0F02) ∨ op = 0x0F31 ∨ op = 0x0F32)
  | .tampered => base

/-- The opcodes of the steps of a chained job, or the job's own. -/
def stepDefs (h : Header) (slots : Bytes) : List StepDef :=
  if h.chain then (List.range (min 8 (chainSteps slots))).map (fun i => parseStep i slots) else [{ opcode := h.opcode, selA := 1, selB := 2, srcLen := h.inLen, dstCap := h.outLen }]

/-- A key field the opcode or any step uses (R206). -/
def keyUsed (s : State) (h : Header) (slots : Bytes) (field : Nat) : Bool :=
  (h.chain && (stepDefs h slots).any (fun st => decide (st.selA = field ∨ st.selB = field)))
    || (match entryOf s h.opcode with
      | some e => decide ((if field = 1 then e.keyA else e.keyB) ≠ .unused)
      | none => true)

/-- Check 1b (R204, R206, R211, R215). -/
def reservedOk (s : State) (h : Header) (slots : Bytes) : Bool :=
  decide (h.ctlReserved = 0) && decide (h.opcode ≠ 0x0F02 ∨ h.outLen = 0) && (h.session || decide (h.tag = 0))
    && (decide (h.keyA = 0) || keyUsed s h slots 1) && (decide (h.keyB = 0) || keyUsed s h slots 2)
    && (!h.chain || (allZero (slice 66 14 slots)
          && (List.range 6).all (fun e => decide (e < chainExtra slots) || decide (extraKey e slots = 0))))
    && (!h.inlineIn || allZero (slice (64 * slotsBeforeInline h slots + h.inLen) (64 * ceilDiv h.inLen 64 - h.inLen) slots))

/-- Check 1d (R207, R213). -/
def pointersOk (h : Header) : Bool :=
  (decide (h.inLen ≠ 0) || decide (h.inPtr = 0)) && (!h.inlineIn || (decide (h.inPtr = 0) && decide (h.inLen ≤ 960)))
    && (decide (h.outLen ≠ 0) || decide (h.outPtr = 0)) && decide (h.inPtr + h.inLen ≤ 2 ^ 64) && decide (h.outPtr + h.outLen ≤ 2 ^ 64)
    && (!h.chain || decide (h.inLen ≤ 8192))

/-- Two regions share a byte; an empty region shares none. -/
def overlap (a la b lb : Nat) : Bool := decide (la ≠ 0 ∧ lb ≠ 0 ∧ a < b + lb ∧ b < a + la)

/-- Step i is valid by itself and beside the step before it (R216, R217). -/
def stepOk (s : State) (h : Header) (slots : Bytes) (i : Nat) (prev : Option StepDef) (st : StepDef) : Bool :=
  let handle := fun sel => if sel = 1 then h.keyA else if sel = 2 then h.keyB else extraKey (sel - 3) slots
  let selOk := fun sel => decide (sel = 0) || (decide (sel ≤ 8) && (decide (sel < 3) || decide (sel - 3 < chainExtra slots)) && decide (handle sel ≠ 0))
  decide (st.srcOff + st.srcLen ≤ 0x4000 ∧ st.auxOff + st.auxLen ≤ 0x4000)
    && (decide (st.srcLen ≠ 0) || decide (st.srcOff = 0)) && (decide (st.auxLen ≠ 0) || decide (st.auxOff = 0))
    && (if st.dstCap = 0 then decide (st.dstOff = 0) else decide (0x2000 ≤ st.dstOff ∧ st.dstOff + st.dstCap ≤ 0x4000))
    && !overlap st.dstOff st.dstCap st.srcOff st.srcLen && !overlap st.dstOff st.dstCap st.auxOff st.auxLen
    && selOk st.selA && selOk st.selB && decide (st.reserved = 0) && (decide (i ≠ 0) || !st.withPrev)
    && (match prev with
        | some p => !st.withPrev || (!overlap st.srcOff st.srcLen p.dstOff p.dstCap && !overlap st.auxOff st.auxLen p.dstOff p.dstCap && !overlap st.dstOff st.dstCap p.dstOff p.dstCap)
        | none => true)
    && (match opEntry h.opcode with
        | some e => if e.composite = [] then (match entryOf s st.opcode with | some x => x.chainable && !x.fixedOnly | none => false) else decide (e.composite[i]? = some st.opcode)
        | none => false)

/-- The step list of a reference authorisation keeps to the fixed part of R315 and R316: flags, operand lengths, key selectors, regions and the
reserved label field; more than 64 bytes of txn_data are refused at binding (R317). -/
def authRefOk (h : Header) (slots : Bytes) : Bool :=
  let d := fun i => (stepDefs h slots).getD i {}
  let flags := fun i => 1 * b2n (d i).out + 2 * b2n (d i).withPrev
  let handle := fun sel => if sel = 1 then h.keyA else if sel = 2 then h.keyB else if sel = 0 then 0 else extraKey (sel - 3) slots
  let lens := fun i (src aux dst : Nat) => decide ((d i).srcLen = src ∧ (d i).auxLen = aux ∧ (d i).dstCap = dst)
  !h.inlineIn && decide ((List.range 6).map flags = [0, 2, 3, 1, 2, 1])
    && decide (64 ≤ (d 0).srcLen ∧ (d 0).srcLen ≤ 1024 ∧ (d 0).srcOff + (d 0).srcLen ≤ 0x2000 ∧ (d 0).auxLen = 129 ∧ (d 0).dstCap = 32)
    && lens 1 16 0 64 && lens 2 48 0 16
    && decide ((d 3).srcLen = 64 ∧ 64 ≤ (d 3).auxLen ∧ (d 3).auxLen ≤ 319 ∧ (d 3).dstCap = 8) && lens 4 0 0 64 && lens 5 64 56 64
    && decide ((d 0).selA = 0 ∧ (d 0).selB = 0 ∧ (d 1).selA = 0 ∧ (d 1).selB = 0 ∧ (d 2).selA ≠ 0 ∧ (d 2).selB ≠ 0 ∧ (d 3).selA ≠ 0
        ∧ (d 3).selB = 0 ∧ (d 4).selA ≠ 0 ∧ (d 4).selB = 0 ∧ handle (d 5).selA = handle (d 4).selA ∧ (d 5).selB = 0)
    && decide ((d 3).srcOff = (d 1).dstOff ∧ (d 5).srcOff = (d 4).dstOff ∧ (d 5).auxOff = (d 0).dstOff ∧ (d 2).dstOff = (d 0).dstOff + 32
        ∧ (d 3).dstOff = (d 0).dstOff + 48)
    && allZero (slice 352 32 slots)

/-- The whole step list is valid (R217, R223, R317). -/
def stepListOk (s : State) (h : Header) (slots : Bytes) : Bool :=
  let ds := stepDefs h slots
  (List.range ds.length).all (fun i => stepOk s h slots i (if i = 0 then none else ds[i - 1]?) (ds.getD i {}))
    && (match opEntry h.opcode with | some e => decide (e.composite = [] ∨ ds.length = e.composite.length) && (decide (h.opcode ≠ 0x0380) || authRefOk h slots) | none => false)

/-- Extra key slots within the count that no step selects, and the bytes after the last step, are zero (R215). -/
def chainZeroOk (h : Header) (slots : Bytes) : Bool :=
  let n := chainSteps slots
  (List.range (min 6 (chainExtra slots))).all (fun e => (stepDefs h slots).any (fun st => decide (st.selA = e + 3 ∨ st.selB = e + 3)) || decide (extraKey e slots = 0))
    && allZero (slice (128 + 16 * n) (64 * ceilDiv n 4 - 16 * n) slots)

/-- A required key handle is zero (R228, 1f). -/
def keyMissing (s : State) (h : Header) (slots : Bytes) : Bool :=
  (stepDefs h slots).any (fun st => match entryOf s st.opcode with
    | some e =>
      if h.chain then (decide (e.keyA = .required) && decide (st.selA = 0)) || (decide (e.keyB = .required) && decide (st.selB = 0))
      else (decide (e.keyA = .required) && decide (h.keyA = 0)) || (decide (e.keyB = .required) && decide (h.keyB = 0))
    | none => false)

/-- The descriptor check: the first check that fails decides the result; none where the descriptor is valid (R228). Check 1a reads the header's opcode alone: a step
whose tenant program is not loaded fails 1e, in stepOk (DESIGN CHOICE, log entry 80). -/
def descriptorCheck (s : State) (h : Header) (slots : Bytes) : Option Nat :=
  let chained : Bool := decide (h.opcode = 0x0F01) || (match entryOf s h.opcode with | some e => decide (e.composite ≠ []) | none => false)
  let narrow : Bool := match entryOf s h.opcode with | some e => decide (e.lives ≠ []) && !decide (s.keeper.record.state ∈ e.lives) | none => false
  if (opEntry h.opcode).isNone ∧ ¬ isTenantOp h.opcode then some 0x0106
  else if isTenantOp h.opcode ∧ ¬ tenantLoaded s h.opcode then some 0x0C01
  else if ¬ lifeAdmits s.keeper.record.state s.start.erasing h.opcode ∨ narrow then some 0x0204
  else if ¬ reservedOk s h slots then some 0x0107
  else if h.slots ≠ slotsNeeded h slots then some 0x0108
  else if ¬ pointersOk h then some 0x0109
  else if (h.chain != chained) || (match entryOf s h.opcode with | some e => e.fixedOnly | none => false) then some 0x010A
  else if h.chain ∧ (chainSteps slots = 0 ∨ 8 < chainSteps slots ∨ 6 < chainExtra slots) then some 0x010A
  else if h.chain ∧ ¬ chainZeroOk h slots then some 0x0107
  else if h.chain ∧ ¬ stepListOk s h slots then some 0x010A
  else if keyMissing s h slots then some 0x010B
  else match entryOf s h.opcode with
    | some e =>
      if ¬ h.chain ∧ (h.inLen < e.inMin ∨ e.inMax < h.inLen) then some 0x0401
      else if h.outLen < e.outMin ∨ (h.chain ∧ (stepDefs h slots).any (fun st => decide (st.opcode = 0x0601 ∧ st.dstCap = 0))) then some 0x0407 else none
    | none => none

/-! ### Admission -/

/-- The kinds of engine an opcode needs (R763). -/
def kindsNeeded (s : State) (op : Nat) : List Nat :=
  match entryOf s op with
  | some e => ((e.costs.map (fun c => c.kind)) ++ (e.whole.map Prod.fst)).eraseDups
  | none => []

/-- Some engine of each kind the job's opcodes need is enabled and out of FAILED and ISOLATED (R763). -/
def enginesThere (s : State) (ops : List Nat) : Bool :=
  (ops.flatMap (kindsNeeded s)).all (fun k => (List.range (kindCount k)).any (fun i =>
    let u := unitAt s (enginePage k i)
    u.enable && decide (u.state ≠ .failed ∧ u.state ≠ .isolated)))

/-- Work from costs, leaving out parts of no slices. -/
def asWork (l : List (Nat × Nat)) : List Work := (l.filter (fun c => decide (c.2 ≠ 0))).map (fun c => { kind := c.1, slices := c.2 })

/-- The engine work of step i (R42, R56, R223, R318): a class 0 job has its path's costs at their offsets, and a composite's go to the steps they
belong to; a job of classes 1 to 3 has the time of the actual operation. An opcode with no engine work has none. -/
def initialWork (s : State) (j : Job) (i : Nat) : List (List Work) :=
  let st := (stepAt j i).step
  let offsets := fun (e : OpEntry) (mine : PathCost → Bool) =>
    let costs := if j.first.isSome then ledgerCosts s e (j.last - e.path) else pathCosts s e
    let l := (List.range e.path).map (fun o => asWork ((costs.filter (fun c => decide (c.offset = o) && mine c)).map (fun c => (c.kind, c.slices))))
    (l.dropWhile (fun w => decide (w = []))).reverse.dropWhile (fun w => decide (w = [])) |>.reverse
  match entryOf s j.hdr.opcode with
  | none => []
  | some c =>
    if c.composite ≠ [] then offsets c (fun x => decide (x.step = i))
    else match entryOf s st.opcode with
    | none => []
    | some e =>
      if j.hdr.cls = 0 then offsets e (fun _ => true)
      else
        let a := selected j st.selA
        let here := isChained j || j.hdr.inlineIn || decide (j.hdr.inLen ≤ j.input.length)
        let o := operandsOf s j i
        let n := if here then o.1.length else j.hdr.inLen
        let aux := if here then o.2 else []
        let parts := match inputParts s e j with
          | some p => p
          | none => bulkParts e (if a = 0 then inlineAlg st.opcode aux.length else runAlg s j i) n aux (rootCount s j i) (rootClocks s j i)
        (parts.map asWork).filter (fun w => decide (w ≠ []))

/-- A visible entry as a job (R213, R234): inline input is part of the slots and is at hand. A class 0 job has its first work swath and its last, the margin swath f + P
(R66). -/
def makeJob (s : State) (ch : Nat) (h : Header) (slots : Bytes) (cls : Nat) (first : Option Nat) : Job :=
  let input := if h.inlineIn then inlineInput h slots else []
  let j : Job := { chan := ch, hdr := h, slots := slots, sqIndex := h.stamp, extra := if h.chain then (List.range (min 6 (chainExtra slots))).map (fun e => extraKey e slots) else [],
                   runClass := cls, input := input, admitted := now s, first := first,
                   last := (match first, entryOf s h.opcode with | some f, some e => f + e.path + keySwaths s h slots | _, _ => 0), order := s.sched.nextOrder, entered := s.sched.nextOrder,
                   buf := if h.chain then bufWrite [] 0 false input else [] }
  let j1 := { j with steps := (stepDefs h slots).map (fun st => { step := st : StepRun }) }
  { j1 with steps := j1.steps.zipIdx.map (fun e => { e.1 with work := initialWork s j1 e.2 }) }

/-- The lowest free job slot (R62, R203; DEDUCED, log entry 13). -/
def freeSlot (s : State) : Nat := (keys s.jobs).foldl (fun n k => if n = k then n + 1 else n) 0

/-- A job slot is free for a class (R47, R62) and the channel holds fewer than its limit (R178). -/
def slotThere (s : State) (ch cls : Nat) : Bool :=
  let free := Config.jobSlots - s.jobs.length
  decide (heldSlots s ch < (chanAt s ch).slotLimit.toNat) && (if cls = 0 then decide (0 < free) else decide (s.sched.slotReserve.toNat < free))

/-- Take the entry into a job slot (R155, R178, R203, R273); a chained job's input is asked for (R793). -/
def admitJob (ch : Nat) (h : Header) (slots : Bytes) (first : Option Nat) (s : State) : State :=
  let slot := freeSlot s
  let r := sessionAdmit h slots s
  let j0 := makeJob s ch h slots h.cls first
  let opened := match r.1.bind (fun n => mfind n s.keys.sessions) with | some e => e.opened | none => 0
  let j := { j0 with session := r.1, sessionOpened := opened, sessionResult := r.2.1 }
  let s1 := takeHead ch r.2.2
  let s2 := { s1 with jobs := mput slot j s1.jobs, sched := { s1.sched with nextOrder := s1.sched.nextOrder + 1 } }
  if h.chain then askInput slot s2 else s2

/-- Refuse the entry: the refusal waits in the channel tile and the consumer index advances (R65, R155, R229). One decided after a swath's windrow has formed keeps
the swath of its decision and leaves in the next swath's windrow (DESIGN CHOICE, log entry 80). -/
def refuse (ch : Nat) (h : Header) (slots : Bytes) (result : Nat) (s : State) : State :=
  let w : Waiting := { cookie := h.cookie, sqIndex := h.stamp, result := result, cls := h.cls, swath := now s, opcode := h.opcode, keyA := h.keyA, inDig := inputDigest slots [] }
  let s1 := modChan ch (fun c => { c with refusals := c.refusals ++ [w] }) (takeHead ch s)
  if (chanAt s1 ch).refusals.length = 64 then raiseChan ch 0x0122 64 s1 else s1

/-- Count a class 0 refusal of checks 2 to 7 or of R763 (R94). -/
def countRefused (s : State) : State := { s with sched := { s.sched with refused := satInc s.sched.refused } }

/-- The NAND block that a class 0 vault read comes from, where the parser can resolve its record from the index and the caches (R428). -/
def class0Block (s : State) (h : Header) (slots : Bytes) : Option Nat :=
  let x := inlineInput h slots
  let o := splitInput h.opcode 0 false false x
  let k := if ¬ h.inlineIn then none
    else match h.opcode with
    | 0x0401 => panCandidate s (leAt 0 2 o.2) (panOf o.1)
    | 0x0402 => tokenCandidate s (leAt 0 2 o.1) (requestToken s o.1)
    | 0x0403 => tokenCandidate s (leAt 0 2 o.1) (requestToken s o.1)
    | 0x0404 => panCandidate s (leAt 0 2 o.2) (panOf o.1)
    | _ => none
  match k with
  | some (l, q) => if quarterMissing s (l * 64 + q * 16) then leafBlock s l else none
  | none => none

/-- The plane has no class 0 read recorded within two swaths of swath w (R428). -/
def planeOpen (s : State) (plane : Option Nat) (w : Nat) : Bool :=
  match plane with
  | some p => (mget {} s.vault.planes p).class0.all (fun x => decide (x + 2 < w ∨ w + 2 < x))
  | none => true

/-- Record a class 0 read on its plane, and its block for the job (R428, R430); reads long past are forgotten. -/
def recordRead (block : Option Nat) (w : Nat) (s : State) : State :=
  match block with
  | some b => { s with vault := { s.vault with
      planes := mupd {} s.vault.planes (planeOf b) (fun x => { x with class0 := (x.class0.filter (fun y => decide (now s ≤ y + 4))) ++ [w] })
      named := s.vault.named ++ [(b, freeSlot s)] } }
  | none => s

/-- A class 0 job refused for an uncached pair of PAN index pages has the vault fetch them (R447). -/
def fetchPair (h : Header) (slots : Bytes) (s : State) : State :=
  if h.cls = 0 ∧ h.inlineIn ∧ (h.opcode = 0x0401 ∨ h.opcode = 0x0404) then
    let o := splitInput h.opcode 0 false false (inlineInput h slots)
    let asked := fun (p : Nat) => s.vault.reads.any (fun r => decide (r.target = .panPage p))
    forAll ((panPair s (leAt 0 2 o.2) (panOf o.1)).eraseDups.filter (fun p => !decide (p ∈ s.vault.panPages) && !asked p))
      (fun p t => emit (.nand "read index page" 0 p) { t with vault := { t.vault with reads := t.vault.reads ++ [{ job := none, target := .panPage p }] } }) s
  else s

/-- The outcome of the admission checks. -/
inductive Verdict where
  | refusePlane (plane : Nat)
  | refuseWith (result : Nat) (counted : Bool)
  | admitAt (first : Option Nat) (ledger : List LedgerSwath)
  | waits
deriving DecidableEq, Repr

/-- The admission checks in order (R63, R64, R763): the first failure decides. `v` is the swath in which the job became visible. -/
def verdict (s : State) (ch v : Nat) (h : Header) (slots : Bytes) : Verdict :=
  let ops := if h.chain ∧ h.opcode = 0x0F01 then (stepDefs h slots).map (fun st => st.opcode) else h.opcode :: (if h.chain then (stepDefs h slots).map (fun st => st.opcode) else [])
  let zero := decide (h.cls = 0)
  match descriptorCheck s h slots with
  | some r => .refuseWith r false
  | none =>
    if ¬ enginesThere s ops then .refuseWith 0x0205 zero
    else
      let eligible : Bool := match entryOf s h.opcode with
        | some e => c0Eligible s e && class0Operands s h slots && decide (e.path + keySwaths s h slots ≤ 3)
        | none => false
      if zero ∧ ¬ eligible then .refuseWith 0x0202 true
      else if s.power.failSeq ∨ ¬ s.power.holdupOk then .refuseWith 0x0203 zero
      else if s.audit.stalled then .refuseWith 0x0B01 zero
      else if zero ∧ class0Random s h slots ∧ ¬ rngRunning s then .refuseWith 0x0701 true
      else if ¬ slotThere s ch h.cls then (if zero then .refuseWith 0x0201 true else .waits)
      else if zero then
        let add := keySwaths s h slots
        let costs := fun (f : Nat) => (match entryOf s h.opcode with | some e => ledgerCosts s e (f + add) | none => []).map (fun (c : PathCost) => { c with offset := c.offset + add })
        let plane := (class0Block s h slots).map planeOf
        let fits := fun f => if now s < f then tryLedger (freeSlot s) f (costs f) s.sched.ledger else none
        let trial := fun f => if planeOpen s plane (f + add) then fits f else none
        match (if now s ≤ v then trial (v + 1) else none) with
        | some l => .admitAt (some (v + 1)) l
        | none =>
          match (if now s ≤ v + 1 then trial (v + 2) else none) with
          | some l => .admitAt (some (v + 2)) l
          | none =>
            match plane with
            | some p => if (fits (v + 1)).isSome ∨ (fits (v + 2)).isSome then .refusePlane p else .refuseWith 0x0201 true
            | none => .refuseWith 0x0201 true
      else .admitAt none s.sched.ledger

/-- A class 0 entry is taken only while the occupancy and the waiting class 0 completions leave two entries free, and no entry is taken while
64 refusals wait (R174, R229). -/
def roomToTake (s : State) (ch : Nat) (h : Header) : Bool :=
  let c := chanAt s ch
  decide (c.refusals.length < 64) &&
    (decide (h.cls ≠ 0) || decide ((c.cqTail - c.cqHead).toNat + ((waitingItems s ch).filter (fun x => decide (x.cls = 0))).length ≤ cqSize c - 2))

/-- The channel's head can be decided now (R48, R149, R174, R227, R229): it may be taken, and is no class 1 to 3 entry that waits for a job slot. -/
def decidable (s : State) (ch : Nat) : Bool :=
  match (chanAt s ch).head with
  | none => false
  | some e => let h := parseHeader e.slots; roomToTake s ch h && (decide (h.opcode = 0x0F00) || decide (verdict s ch e.visible h e.slots ≠ .waits))

/-- The channel whose turn it is at the parsers: the first from the turn on, round, whose head can be decided (R48). -/
def nextTurn (s : State) : Option Nat := ((List.range 64).map (fun i => (s.sched.turn + i) % 64)).find? (decidable s)

/-- The turn passes to the channels after this one (R48). -/
def passTurn (ch : Nat) (s : State) : State := { s with sched := { s.sched with turn := (ch + 1) % 64 } }

/-- Take a SKIP entry: it gives no job, completion or record (R149, R227). -/
def skipHead (ch : Nat) (s : State) : State := tryQuiesce ch (examine ch (takeHead ch s))

/-- Decide the entry at a channel's head (R63 to R66, R155). -/
def decideEntry (ch : Nat) (e : Entry) (s : State) : State :=
  let h := parseHeader e.slots
  match verdict s ch e.visible h e.slots with
  | .waits => s
  | .refusePlane p => refuse ch h e.slots 0x0201 (countRefused (raise (mkPage 3 0 0 0) 0x0418 p { s with vault := { s.vault with planeRefused := satInc s.vault.planeRefused } }))
  | .refuseWith r counted => refuse ch h e.slots r (if counted then countRefused (if r = 0x0202 then fetchPair h e.slots s else s) else s)
  | .admitAt first l =>
    let s0 := recordRead (if h.cls = 0 then class0Block s h e.slots else none) (first.getD 0 + keySwaths s h e.slots) { s with sched := { s.sched with ledger := l } }
    let s2 := if h.cls = 0 then
        { s0 with sched := { s0.sched with admitted := satInc s0.sched.admitted, spilled := if first = some (e.visible + 2) then satInc s0.sched.spilled else s0.sched.spilled } }
      else s0
    admitJob ch h e.slots first s2

/-- Decide the entry at a channel's head, where it is the channel's turn (R48). -/
def decideHead (ch : Nat) (s : State) : State :=
  if nextTurn s ≠ some ch then s
  else match (chanAt s ch).head with
    | none => s
    | some e =>
      let s0 := passTurn ch s
      if (parseHeader e.slots).opcode = 0x0F00 then skipHead ch s0
      else
        let s2 := examine ch (decideEntry ch e s0)
        if (chanAt s2 ch).state = .quiescing ∧ (chanAt s2 ch).withdrawing then withdrawChan ch 0x0A01 s2 else tryQuiesce ch s2

/-- JOB_ADMISSION (R48, R63): the parser decides the entry at a channel's head, `delay` fabric clocks after visibility (R60, R497). -/
def execJobAdmission (ch delay : Nat) (s : State) : Res :=
  .next (decideHead ch (if nextTurn s = some ch ∧ 500 < delay then raise parserPage 0x0123 delay s else s))

/-- OP_SKIP (R48, R149, R227, R229): a SKIP entry at the head is taken in its channel's turn. -/
def execOpSkip (ch : Nat) (s : State) : Res :=
  .next <|
    match (chanAt s ch).head with
    | some e => if (parseHeader e.slots).opcode = 0x0F00 then decideHead ch s else s
    | none => s

/-- OUTPUT_CONFIRMED (R128, R210, R235): the zero-length read after the output writes completes; a write that was not accepted flags the
completion and is an AER error, whose status bits are a free value (R497). -/
def execOutputConfirmed (slot : Nat) (accepted : Bool) (s : State) : Res :=
  .next <|
    match jobAt s slot with
    | none => s
    | some j =>
      if j.stage ≠ .outputting ∨ j.withdraw.isSome then s
      else
        let s1 := modJob slot (fun j => { j with stage := .finished, finished := now s, outIncomplete := j.outIncomplete || !accepted }) s
        if accepted then s1
        else
          let d := draw { s1 with link := { s1.link with aerUncorrectable := s1.link.aerUncorrectable + 1 } }
          emit (.aer false) (raise phyPage 0x010C (d.1.toNat % 2 ^ 32) (raise phyPage 0x0110 j.hdr.outPtr d.2))

end Sys2Proof.Machine
end

