-- ==== Sys2Proof/Machine/Rows.lean ====
section
/-!
DEFINITION. Sys2Proof/Machine/Rows.lean: the mask keys (R20), the DRAM encryption (R28), stored rows and fabric beats as they are formed and read (R17 to
R27).
-/
namespace Sys2Proof.Machine
open Sys2Proof

/-! ### Keys -/

/-- The space mask of a space: under the per-boot key for volatile memories, under a persistent key for code flash and NAND (R19, R20). The persistent keys have generation
number 0 (DESIGN CHOICE, log entry 78). -/
def rowMask (s : State) (p : RowSpace) : Bytes :=
  match p with
  | .codeFlash => spaceMask flashMaskKey p 0
  | .nand => spaceMask (nandMaskKey s) p 0
  | _ => spaceMask s.boot.mask p s.boot.generation

/-- The ciphertext of a DRAM row: XTS-AES-256 under the two halves of the DRAM key, the row's address over 32 as its tweak (R28). Rows of other spaces are stored as they
are. -/
def rowText (s : State) (enc : Bool) (p : RowPlace) (data : Bytes) : Bytes :=
  match p with
  | .dram b => xtsUnit enc (s.boot.dram.take 32) (s.boot.dram.drop 32) (b / 32) (fit 32 data)
  | _ => fit 32 data

/-! ### Stored rows -/

/-- The 36 bytes stored at a place for a row of data, with what they have taken since (R17, R18, R28). -/
def storedRow (s : State) (p : RowPlace) (data : Bytes) : Bytes :=
  xorBytes (storeRow (rowText s true p data) p.address (rowMask s p.space)) (fit 36 (mget [] s.rowFaults p.address.toNat))

/-- What the decoder makes of a stored row of data (R23, R24): correction precedes decryption (R28). A row that has taken nothing reads as it was stored. -/
def readPlace (s : State) (p : RowPlace) (data : Bytes) : RowRead :=
  if (mfind p.address.toNat s.rowFaults).isNone then .good (fit 32 data)
  else match readRow (storedRow s p data) p.address (rowMask s p.space) with
  | .good d => .good (rowText s false p d)
  | .corrected d => .corrected (rowText s false p d)
  | r => r

/-- A DRAM or SRAM controller writes a corrected row back in the same access, and the correction is an event of the unit that reads (R26, R497). -/
def writeBack (p : RowPlace) (page : Nat) (r : RowRead) (s : State) : State :=
  if r.mended then raise page (commonCode page 3) p.detail (clearRow p s) else s

/-! ### Fabric beats -/

/-- The check bytes of a fabric beat: its sender forms them under the destination's tag and row number, with the per-boot key (R20, R22). -/
def beatMask (s : State) (dest : RowPlace) : Bytes := spaceMask s.boot.mask dest.space s.boot.generation
def formBeat (s : State) (dest : RowPlace) (data : Bytes) : Bytes := storeRow data dest.address (beatMask s dest)

/-- The receiver's check of a beat before it stores it; `err` is what the beat took on the way (R22). -/
def checkBeat (s : State) (dest : RowPlace) (data : Bytes) (err : Option Bytes) : RowRead :=
  match err with
  | none => .good (fit 32 data)
  | some e => readRow (xorBytes (formBeat s dest data) (fit 36 e)) dest.address (beatMask s dest)

/-- A row moves between two spaces: it is checked under its old address and re-encoded under its new one, and the receiver checks the beat (R22). -/
def moveRow (s : State) (old new : RowPlace) (data : Bytes) (err : Option Bytes) : RowRead :=
  match readPlace s old data with
  | .good d => checkBeat s new d err
  | .corrected d => (match checkBeat s new d err with | .good x => .corrected x | r => r)
  | r => r

end Sys2Proof.Machine
end

