-- ==== Sys2Proof/Machine/UnitOps.lean ====
section
/-!
DEFINITION. Sys2Proof/Machine/UnitOps.lean: the state changes of a unit without children that other meanings share (R349, R741, R751, R760 to
R762): faults, the loss of a parked operation, leaving QUIESCING, and isolation.
-/
namespace Sys2Proof.Machine
open Sys2Proof

/-- Change a power domain. -/
def modDomain (d : Nat) (f : Domain → Domain) (s : State) : State := { s with power := { s.power with domains := mupd {} s.power.domains d f } }

/-- The coherency cache tile is disabled and power-gated (R102). -/
def gateCache (s : State) : State :=
  let u := (unitAt s cachePage).state
  if u = .on ∨ u = .waking ∨ u = .quiesced then
    modDomain 48 (fun x => if x.state = .on ∨ x.state = .waking then { x with state := .gated } else x) (setUnitState cachePage .off .write s)
  else s

/-- UNIT_STATE.state as a number (R756). -/
def stateCode : UState → Nat
  | .off => 0 | .waking => 1 | .on => 2 | .quiescing => 3 | .quiesced => 4 | .failed => 5 | .isolated => 6

/-- The PK tile of an engine of kind PK or DIGEST (R15). -/
def pkTile (kind idx : Nat) : Nat := if kind = 0 then idx / 4 else idx

/-- The operation parked on an engine is lost: its job completes with RES_FAULT_ENGINE_LOST at the next close (R349, R741, R586). -/
def loseParked (kind idx : Nat) (s : State) : State :=
  match (engAt s kind idx).parked with
  | none => s
  | some (slot, _) =>
    let s1 := withdrawJob 0x0505 slot (modEng kind idx (fun e => { e with parked := none, wiping := if kind ≤ 1 then e.wiping ||| bankBit e.parkedBank else e.wiping }) s)
    if kind = 0 ∨ kind = 2 then raise (enginePage kind idx) (0x0230 + pkTile kind idx) slot s1 else s1

/-- The engine steps that run on an engine are lost with it: a class 0 job goes on in its margin swath, any other completes with
RES_FAULT_ENGINE_LOST at the next close (R67, R231). -/
def loseRunning (kind idx : Nat) (s : State) : State :=
  forAll (engAt s kind idx).running (fun b t => if b.class0 then useMargin (now t) (fun k => decide (k = b.step)) b.slot t else withdrawJob 0x0505 b.slot t) s

/-- A unit enters FAILED, cause 2, with its event; in FAILED nothing more happens (R760). -/
def failUnit (p : Nat) (s : State) : State :=
  let old := (unitAt s p).state
  if old = .failed then s
  else
    let s1 := match engineOf p with | some (k, i) => loseRunning k i (loseParked k i s) | none => s
    let s2 := raise p (commonCode p 0) (stateCode old) (setUnitState p .failed .fault s1)
    match engineOf p with
    | some (1, i) => raise p (0x0320 + i / 8) i s2
    | _ => s2

/-- A unit has no work left: no engine step runs and nothing is parked (R762). -/
def unitIdle (s : State) (p : Nat) : Bool :=
  match engineOf p with
  | some (k, i) => let e := engAt s k i; e.running.isEmpty && decide (e.parked = none)
  | none => true

/-- A quiescing unit whose last work has ended, or was withdrawn at a close, is QUIESCED, with the disable's event (R760, R762). -/
def settleUnit (p : Nat) (s : State) : State :=
  let u := unitAt s p
  let waits := decide (u.withdrawn ≠ 0) && s.jobs.any (fun e => e.2.withdraw.isSome && decide (e.2.stage ≠ .finished))
  if u.state = .quiescing ∧ unitIdle s p ∧ ¬ waits then
    raise p (commonCode p 7) u.withdrawn (modUnit p (fun u => { u with withdrawing := false, withdrawn := 0 }) (setUnitState p .quiesced .write s))
  else s

/-- Every job with work on a unit, or a ledger entry on it, completes with RES_WITHDRAWN at the next close (R71, R762). -/
def withdrawUnitJobs (p : Nat) (s : State) : State :=
  match engineOf p with
  | none => s
  | some (k, i) =>
    let js := jobsOn s k i
    modUnit p (fun u => { u with withdrawn := u.withdrawn + js.length }) (forAll js (withdrawJob 0x0A01) s)

/-- A unit enters ISOLATED with a cause, from OFF to QUIESCED (R760). -/
def isolateUnit (p : Nat) (cause : Cause) (s : State) : State :=
  let u := unitAt s p
  if u.state = .failed ∨ u.state = .isolated then s
  else raise p (commonCode p 1) (match cause with | .write => 0 | .quarantine => 1 | .fault => 2) (setUnitState p .isolated cause s)

/-- An isolated unit whose cause has ended reaches OFF, or ISOLATED cause 0 while isolate is 1 (R760). -/
def releaseUnit (p : Nat) (s : State) : State :=
  let u := unitAt s p
  if u.state ≠ .isolated then s
  else if u.isolate then setUnitState p .isolated .write s
  else setUnitState p .off .write s

end Sys2Proof.Machine
end

