-- ==== Sys2Proof/Machine/CoreOps.lean ====
section
/-!
DEFINITION. Sys2Proof/Machine/CoreOps.lean: a core's registers with their delayed writes (R523, R537 to R541), capabilities (R561 to R566), memory
(R520, R521, R564), access gates (R589 to R593), exception entry (R577 to R587) and the issue of one instruction (R525 to R531, R542 to R552, R582).
-/
namespace Sys2Proof.Machine
open Sys2Proof

def modRegs (n : Nat) (f : CoreRegs → CoreRegs) (s : State) : State := modCore n (fun c => { c with regs := f c.regs }) s

/-! ### Registers -/

/-- g0 reads 0, p0 reads true (R523). -/
def gRead (r : CoreRegs) (n : BitVec 5) : BitVec 64 := if n = 0 then 0 else mget 0 r.g n.toNat
def pRead (r : CoreRegs) (n : BitVec 3) : Bool := decide (n = 0) || r.p.getLsbD n.toNat
def cRead (r : CoreRegs) (n : BitVec 3) : Cap := mget {} r.c n.toNat

/-- A predicate carries the failed mark of a split load (R547). -/
def pFailed (r : CoreRegs) (n : BitVec 3) : Bool := decide (n ≠ 0) && r.pfail.getLsbD n.toNat

/-- A register takes a value: destinations as R581 numbers them; g0 and p0 discard it (R523). -/
def putReg (dest : Nat) (v : BitVec 128) (tag : Bool) (r : CoreRegs) : CoreRegs :=
  if dest = 0 ∨ dest = 40 then r
  else if dest < 32 then { r with g := mset 0 r.g dest (v.setWidth 64) }
  else if dest < 40 then { r with c := mset {} r.c (dest - 32) { bits := v, tag := tag } }
  else
    let m := BitVec.ofNat 8 (2 ^ (dest - 40))
    { r with p := if v = 0 then r.p &&& ~~~ m else r.p ||| m, pfail := r.pfail &&& ~~~ m }

/-- An instruction's write with latency L: the next L instructions read the old value (R538). -/
def later (dest : Nat) (v : BitVec 128) (tag : Bool) (l : Nat) (r : CoreRegs) : CoreRegs :=
  { r with pending := r.pending ++ [{ dest := dest, value := v, tag := tag, left := l + 1 }] }

/-- One more instruction has issued: delayed writes come one nearer, and those due take effect in issue order (R537, R538, R540). -/
def tick (r : CoreRegs) : CoreRegs :=
  let dec := r.pending.map (fun w => { w with left := w.left - 1 })
  (dec.filter (fun w => decide (w.left = 0))).foldl (fun r w => putReg w.dest w.value w.tag r) { r with pending := dec.filter (fun w => decide (w.left ≠ 0)) }

/-- Writes of the three register kinds with their latencies (R539). -/
def writeG (n : BitVec 5) (v : BitVec 64) (l : Nat) (r : CoreRegs) : CoreRegs := later n.toNat (v.setWidth 128) false l r
def writeC (n : BitVec 3) (v : Cap) (l : Nat) (r : CoreRegs) : CoreRegs := later (32 + n.toNat) v.bits v.tag l r
def writeP (n : BitVec 3) (v : Bool) (r : CoreRegs) : CoreRegs := later (40 + n.toNat) (if v then 1 else 0) false 2 r

/-! ### Capabilities -/

def capBase (c : Cap) : Nat := c.bits.toNat % 2 ^ 40
def capLen (c : Cap) : Nat := c.bits.toNat / 2 ^ 40 % 2 ^ 40
def capPerms (c : Cap) : Nat := c.bits.toNat / 2 ^ 80 % 2 ^ 16
def capType (c : Cap) : Nat := c.bits.toNat / 2 ^ 96 % 2 ^ 12
def capEntry (c : Cap) : Bool := c.bits.getLsbD 108
def capGrant (c : Cap) : Bool := c.bits.getLsbD 109

/-- A tagged capability from its fields (R561). -/
def mkCap (base len perms otype : Nat) (entry grant : Bool) : Cap :=
  { bits := BitVec.ofNat 128 (base % 2 ^ 40 + 2 ^ 40 * (len % 2 ^ 40) + 2 ^ 80 * (perms % 2 ^ 16) + 2 ^ 96 * (otype % 2 ^ 12) + 2 ^ 108 * b2n entry + 2 ^ 109 * b2n grant),
    tag := true }

/-- Sealed: no grant and a type other than 0 (R561). -/
def capSealed (c : Cap) : Bool := !capGrant c && decide (capType c ≠ 0)

/-- Permission masks (R562). -/
def pLD : Nat := 1
def pST : Nat := 2
def pEX : Nat := 4
def pLDC : Nat := 8
def pSTC : Nat := 16
def pSEAL : Nat := 32
def pUNSEAL : Nat := 64
def pGLOBAL : Nat := 128

/-- It holds every permission of a mask. -/
def holds (c : Cap) (mask : Nat) : Bool := decide (Nat.land (capPerms c) mask = mask)

/-- The unsealed form (R568, R574). -/
def unsealed (c : Cap) : Cap := { mkCap (capBase c) (capLen c) (capPerms c) 0 false (capGrant c) with tag := c.tag }

/-! ### Causes of exceptions -/

/-- A cause of a synchronous exception (R577): its vector, its place in the order of R582, and what the frame shows (R580). -/
structure CoreCause where
  vector : Nat
  rank : Nat
  info : Nat := 0
  addr : Nat := 0
  detail : Nat := 0
  /-- The right an access gate refused: 55 r, 56 w, 57 x; 0 where no gate refused (R599). -/
  gate : Nat := 0
  /-- Tag and number of an uncorrectable row, as its event shows them; 0 where there is none (R27, R497). -/
  row : Nat := 0
deriving DecidableEq, Repr

/-- Causes by vector, with the order 9 (fetch), 6, 2, 5, 3, 4, 7, 8, 9 (data), 12 (R582). -/
def cause (v : Nat) : CoreCause :=
  { vector := v, rank := match v with | 6 => 1 | 2 => 2 | 5 => 3 | 3 => 4 | 4 => 5 | 7 => 6 | 8 => 7 | 9 => 8 | _ => 9 }

/-- Vector 9 for a row that cannot be delivered (R27). -/
def rowCause (p : Option RowPlace) : CoreCause := { cause 9 with row := match p with | some p => p.detail | none => 0 }

/-- Causes where a test fails. -/
def needs (ok : Bool) (c : CoreCause) : List CoreCause := if ok then [] else [c]

/-- The first of several causes in the order of R582. -/
def firstCause (l : List CoreCause) : Option CoreCause :=
  l.foldl (fun b c => match b with | none => some c | some x => if c.rank < x.rank then some c else some x) none

/-! ### Memory -/

/-- What a 40-bit data address names (R521). -/
inductive Space where
  | data | sram | bar0 | dram | nothing
deriving DecidableEq, Repr

def spaceOf (a : Nat) : Space :=
  if a < 0x40000 then .data
  else if 0x10000000 ≤ a ∧ a < 0x11000000 then .sram
  else if 0x100000000 ≤ a ∧ a < 0x104000000 then .bar0
  else if 0x800000000 ≤ a ∧ a < 0x1000000000 then .dram
  else .nothing

/-- One byte of data memory, control SRAM or DRAM. -/
def memByte (s : State) (n a : Nat) : Byte :=
  match spaceOf a with
  | .data => mget 0 (coreAt s n).data a
  | .sram => mget 0 s.sram (a - 0x10000000)
  | .dram => mget 0 s.dram (a - 0x800000000)
  | _ => 0

/-- `len` bytes from an address. -/
def memRead (s : State) (n a len : Nat) : Bytes := (List.range len).map (fun i => memByte s n (a + i))

/-- The tag of the granule of an address; DRAM has none (R564). -/
def memTag (s : State) (n a : Nat) : Bool :=
  match spaceOf a with
  | .data => mget false (coreAt s n).tags (a / 16)
  | .sram => mget false s.sramTags ((a - 0x10000000) / 16)
  | _ => false

/-- Set or clear a granule's tag. -/
def setTag (n a : Nat) (v : Bool) (s : State) : State :=
  match spaceOf a with
  | .data => modCore n (fun c => { c with tags := mset false c.tags (a / 16) v }) s
  | .sram => { s with sramTags := mset false s.sramTags ((a - 0x10000000) / 16) v }
  | _ => s

/-- The row that holds an address of data memory, control SRAM or DRAM (R21). -/
def coreRow (n a : Nat) : Option RowPlace :=
  match spaceOf a with
  | .data => some (.data n (a / 32))
  | .sram => some (.controlSram (a - 0x10000000))
  | .dram => some (.dram (a - 0x800000000))
  | _ => none

/-- What a core's read of an address finds in its row: one of another space moves to the core as a fabric beat (R22 to R24). -/
def rowSeen (s : State) (n a : Nat) : RowRead :=
  let data := memRead s n (a / 32 * 32) 32
  match coreRow n a with
  | some (.data c r) => readPlace s (.data c r) data
  | some p => moveRow s p (.data n 0) data none
  | none => .good data

/-- The row of an address is uncorrectable, or read from a wrong address (R23, R24, R27). -/
def rowLost (s : State) (n a : Nat) : Bool :=
  match coreRow n a with
  | some p => (mfind p.address.toNat s.rowFaults).isSome && (rowSeen s n a).delivers.isNone
  | none => false

/-- `len` bytes of one row as a read delivers them (R23). -/
def loadBytes (s : State) (n a len : Nat) : Bytes :=
  match coreRow n a with
  | some p => if (mfind p.address.toNat s.rowFaults).isNone then memRead s n a len else slice (a % 32) len ((rowSeen s n a).delivers.getD [])
  | none => memRead s n a len

/-- A read row that was corrected is written back, with its event (R26). -/
def mendRow (n a : Nat) (s : State) : State :=
  match coreRow n a with
  | some p => if (mfind p.address.toNat s.rowFaults).isNone then s else writeBack p (corePage n) (rowSeen s n a) s
  | none => s

/-- A row that a write touches is stored anew (R17). -/
def clearRowAt (n a : Nat) (s : State) : State := match coreRow n a with | some p => clearRow p s | none => s

/-- Write one byte: its granule loses its tag (R564). -/
def memPut (n a : Nat) (b : Byte) (s : State) : State :=
  match spaceOf a with
  | .data => modCore n (fun c => { c with data := mset 0 c.data a b, tags := mset false c.tags (a / 16) false }) s
  | .sram => { s with sram := mset 0 s.sram (a - 0x10000000) b, sramTags := mset false s.sramTags ((a - 0x10000000) / 16) false }
  | .dram => { s with dram := mset 0 s.dram (a - 0x800000000) b }
  | _ => s

/-- Write bytes from an address up. -/
def memWrite (n a : Nat) (bs : Bytes) (s : State) : State := forAll bs.zipIdx (fun e t => memPut n (a + e.2) e.1 (clearRowAt n (a + e.2) t)) s

/-- A capability in memory: 16 bytes, little-endian, with its tag (R561). -/
def loadCap (s : State) (n a : Nat) : Cap := { bits := BitVec.ofNat 128 (leNat (loadBytes s n a 16)), tag := memTag s n a }
def memCap (s : State) (n a : Nat) : Cap := { bits := BitVec.ofNat 128 (leNat (memRead s n a 16)), tag := memTag s n a }
def memPutCap (n a : Nat) (c : Cap) (s : State) : State := setTag n a c.tag (memWrite n a (leBytes 16 c.bits.toNat) s)

/-- Overwrite a tenant context with zeros and clear its tags (R522, R556). -/
def wipeContext (n ctx : Nat) (s : State) : State :=
  let lo := 0x20000 + 0x10000 * ctx
  modCore n (fun c => { c with data := c.data.filter (fun e => decide (e.1 < lo ∨ lo + 0x10000 ≤ e.1)), tags := c.tags.filter (fun e => decide (e.1 < lo / 16 ∨ (lo + 0x10000) / 16 ≤ e.1)) }) s

/-! ### Access gates -/

def gateAt (s : State) (m : Nat) : Gate := mget {} s.gates m
def modGate (m : Nat) (f : Gate → Gate) (s : State) : State := { s with gates := mupd {} s.gates m f }

/-- A region covers a granule in a context (R591, R599). -/
def regionMatches (v : BitVec 64) (user : Bool) (granule : Nat) : Bool :=
  v.getLsbD 63 && (if user then v.getLsbD 59 else v.getLsbD 58) && decide (v.toNat % 2 ^ 28 ≤ granule ∧ granule ≤ v.toNat % 2 ^ 28 + v.toNat / 2 ^ 28 % 2 ^ 27)

/-- A byte is permitted by a gate: every region that matches holds the right (bit 55 r, 56 w, 57 x), or none matches and the context is system and
the default map holds it (R591, R592). -/
def gatePermits (s : State) (m : Nat) (user : Bool) (right addr : Nat) (default_ : Bool) : Bool :=
  let rs := ((gateAt s m).regions.map Prod.snd).filter (fun v => regionMatches v user (addr / 4096))
  if rs = [] then !user && default_ else rs.all (fun v => v.getLsbD right)

/-- A refusal at a gate: its registers and its event (R593, R601, R602, R497). -/
def gateRefuse (m page right addr : Nat) (user dma : Bool) (s : State) : State :=
  raise page (commonCode page 4) addr (modGate m (fun g => { g with addr := BitVec.ofNat 40 addr, count := satInc g.count, user := user, dma := dma, x := decide (right = 57), w := decide (right = 56), r := decide (right = 55) }) s)

/-- The page beside which a gate stands, by master index (R15, R597). -/
def gatePage (m : Nat) : Nat :=
  if m ≤ 16 then corePage m
  else if m = 32 then mkPage 5 1 1 2
  else if m = 33 then mkPage 5 1 2 2
  else if m = 34 then mkPage 5 1 5 2
  else ((List.range 6).flatMap (fun p => (List.range (clusterCount p)).map (fun c => mkPage p (c + 1) 15 1))).getD (m - 17) 0

/-! ### DMA jobs -/

/-- The accesses of a DMA job of `n` bytes from module address `a`: each of at most 256 bytes, none across a 4 KiB segment, in address order (R593, R594). -/
def dmaAccesses (a n : Nat) : List (Nat × Nat) :=
  (List.range ((a + n + 255) / 256 - a / 256)).map (fun i =>
    let lo := max a (256 * (a / 256 + i))
    (lo, min (a + n) (256 * (a / 256 + i + 1)) - lo)) |>.filter (fun x => decide (0 < x.2))

/-- How a DMA job ends: bytes written, and the lowest refused address where its gate stopped it (R594). -/
structure DmaEnd where
  written : Nat
  refused : Option Nat := none
deriving DecidableEq, Repr

/-- A mover writes for a host channel job, in user context, to module memory: the accesses before the first refused one are written whole, and with it the job stops
(R592 to R594). -/
def dmaWrite (m a n : Nat) (s : State) : DmaEnd × State :=
  match (dmaAccesses a n).find? (fun x => !gatePermits s m true 56 x.1 false) with
  | none => ({ written := n }, s)
  | some x => ({ written := x.1 - a, refused := some x.1 }, gateRefuse m (gatePage m) 56 x.1 true true s)

/-- A core acts in user context while st.mode is 1 (R570). -/
def userContext (r : CoreRegs) : Bool := decide (r.st.mode = 1)

/-- A core's gate permits an access of a data address (R592). -/
def corePermits (s : State) (n right addr : Nat) : Bool := gatePermits s n (userContext (coreAt s n).regs) right addr (decide (spaceOf addr ≠ .nothing))

/-- The gate address of a fetch (R590). -/
def fetchAddr (pc : Nat) : Nat := 0x0200000000 + 32 * (pc / 16)

/-! ### Exception entry -/

/-- Every split load has landed and the store buffer is empty (R576). -/
def drained (c : Core) : Bool := c.splits.isEmpty && c.stores.isEmpty

/-- The oldest entry leaves the store buffer (R548). -/
def popStore (n : Nat) (s : State) : State :=
  modCore n (fun c => { c with stores := c.stores.drop 1, splits := c.splits.map (fun e => { e with older := e.older - 1 }) }) s

/-- Issue stalls: CTL_CORE_STALLS counts (R559). -/
def stall (n : Nat) (s : State) : State := modCore n (fun c => { c with stalls := satInc c.stalls }) s

/-- A descriptor table entry (R578). -/
def vectorEntry (v : Nat) : Nat := 0x1F000 + 64 * v

/-- The entry capability is usable. -/
def entryOk (c : Cap) : Bool := c.tag && !capSealed c && holds c pEX

/-- Entry v can be taken (R579, step 2). -/
def entryUsable (s : State) (n v : Nat) : Bool :=
  let a := vectorEntry v
  let k := memCap s n (a + 32)
  let top := capBase k + capLen k
  let r := (coreAt s n).regs
  entryOk (memCap s n a) && k.tag && !capSealed k && holds k (pLD + pST + pSTC) && decide (384 ≤ capLen k ∧ top % 16 = 0)
    && (decide (top ≤ 0x40000) || decide (0x10000000 ≤ capBase k ∧ top ≤ 0x11000000))
    && gatePermits s n false 56 (top - 384) true && gatePermits s n false 56 (top - 1) true
    && r.links.all (fun l => match l with | .exception w _ _ => decide (w ≠ v) | .gate _ => true) && decide (r.links.length < 8)

/-- A pending write as the frame holds it (R581). -/
def pendBytes (w : PendWrite) : Bytes := leBytes 16 w.value.toNat ++ leBytes 1 w.dest ++ leBytes 1 w.left ++ zeros 14

/-- The 384 bytes of an exception frame (R580). -/
def frameBytes (r : CoreRegs) (pc v info addr detail : Nat) : Bytes :=
  leBytes 8 pc ++ leBytes 8 (statusWord r) ++ leBytes 1 v ++ leBytes 1 info ++ leBytes 1 r.pending.length ++ leBytes 1 (r.p.toNat / 2 * 2)
    ++ leBytes 1 (r.pfail.toNat / 2 * 2) ++ zeros 3 ++ leBytes 8 addr ++ leBytes 8 detail ++ leBytes 4 r.loops.lc0.toNat ++ leBytes 4 r.loops.lc1.toNat
    ++ leBytes 4 r.loops.ls0.toNat ++ leBytes 4 r.loops.ls1.toNat ++ leBytes 4 r.loops.le0.toNat ++ leBytes 4 r.loops.le1.toNat
    ++ (List.range 8).flatMap (fun i => leBytes 16 (cRead r (BitVec.ofNat 3 i)).bits.toNat)
    ++ fit 160 ((r.pending.take 5).flatMap pendBytes) ++ zeros 32

/-- Write a frame with the tags of its capabilities (R580). -/
def writeFrame (n f : Nat) (r : CoreRegs) (pc v info addr detail : Nat) (s : State) : State :=
  let s1 := memWrite n f (frameBytes r pc v info addr detail) s
  let s2 := repeatIdx 8 (fun i t => setTag n (f + 0x40 + 16 * i) (cRead r (BitVec.ofNat 3 i)).tag t) s1
  forAll (r.pending.take 5).zipIdx (fun e t => setTag n (f + 0xC0 + 32 * e.2) e.1.tag t) s2

/-- The registers a handler starts with (R579, step 4): entry and data capabilities, the rest of the stack, the frame, the new status. -/
def enterHandler (s : State) (n v f mode : Nat) (c6 : Cap) (link : CoreLink) (r : CoreRegs) : CoreRegs :=
  let a := vectorEntry v
  let e := memCap s n a
  let st := statusOf n (leNat (memRead s n (a + 48) 8))
  { r with
    c := mset {} (mset {} (mset {} (mset {} [] 0 e) 1 (memCap s n (a + 16))) 6 c6) 7 (mkCap f 384 (pLD + pST + pLDC + pSTC) 0 false false)
    st := { st with mode := BitVec.ofNat 2 mode }
    pc := BitVec.ofNat 18 (capBase e), pending := [], delay := st.brPend, shadow := 0, returned := false, links := link :: r.links }

/-- The jobs of a core are lost and both contexts overwritten; the core halts and its unit enters FAILED (R586). -/
def haltCore (n : Nat) (s : State) : State :=
  let c := coreAt s n
  let lost := ((match c.running with | some i => [i.slot] | none => []) ++ (match c.parked with | some (i, _) => [i.slot] | none => [])).eraseDups
  let s1 := forAll lost (withdrawJob 0x0505) s
  let s2 := modCore n (fun c => { c with halted := true, mode := .idle, running := none, parked := none }) (wipeContext n 0 (wipeContext n 1 s1))
  raise (corePage n) 0x0508 n (failUnit (corePage n) s2)

/-- The job of the tenant invocation that runs on a core ends (R556): the step fails, the context is overwritten. -/
def endInvocation (n : Nat) (result : Nat) (s : State) : State :=
  match (coreAt s n).running with
  | none => s
  | some i => wipeContext n (coreAt s n).regs.st.ctx.toNat (failStep i.slot i.step result (modCore n (fun c => { c with running := none }) s))

/-- Exception entry for vector v with the resume address (R579, R585 to R587). The core has drained. -/
def takeException (n v pc info addr detail : Nat) (s : State) : State :=
  let r := (coreAt s n).regs
  let tenant : Bool := decide (r.st.mode = 1)
  let opcode := match (coreAt s n).running with | some i => i.opcode % 65536 | none => 0
  let s0 := if v = 14 then raise (corePage n) 0x0505 opcode s else s
  let s1 := if tenant then
      let s1 := raise (corePage n) 0x050D (n + 256 * opcode) s0
      let s2 := if v = 10 then raise (corePage n) 0x050A n s1 else s1
      endInvocation n (if v = 14 then 0x0C04 else 0x0C03) s2
    else s0
  let s2 := modCore n (fun c => { c with mode := .firmware, sinceTrace := if v = 13 then 0 else c.sinceTrace }) s1
  let boot := if n = 16 then 3 else 0
  if r.st.mode = 2 then haltCore n s2
  else if entryUsable s n v then
    let k := memCap s n (vectorEntry v + 32)
    let f := capBase k + capLen k - 384
    let c6 := mkCap (capBase k) (capLen k - 384) (capPerms k) 0 false false
    modRegs n (enterHandler s n v f boot c6 (.exception v f k)) (writeFrame n f r pc v info addr detail s2)
  else if entryOk (memCap s n (vectorEntry 1)) ∧ r.links.length < 9 then
    let f := 0x1EE80
    let s3 := raise (corePage n) 0x0509 n (if v = 10 ∧ ¬ tenant then raise (corePage n) 0x050A n s2 else s2)
    let perms := pLD + pST + pLDC + pSTC
    modRegs n (enterHandler s n 1 f 2 (mkCap 0x1E000 0xE80 perms 0 false false) (.exception 1 f (mkCap 0x1E000 0x1000 perms 0 false false)))
      (writeFrame n f r pc 1 v addr detail s3)
  else haltCore n s2

/-! ### Issue -/

/-- What the placement rules ask of an instruction (R543, R544, R551): a branch; another of LOOP, GATE, RETC, YIELD, DONE; one that a shadow
forbids. -/
structure Shape where
  branch : Bool := false
  control : Bool := false
  shadowBad : Bool := false

/-- The core issues instructions: it is started, not halted, and its unit is neither FAILED nor cut off. -/
def coreRuns (s : State) (n : Nat) : Bool :=
  let c := coreAt s n
  let u := (unitAt s (corePage n)).state
  decide (c.mode ≠ .idle ∧ u ≠ .failed ∧ u ≠ .isolated) && !c.halted

/-- Syllables of the instruction whose head is at a program address: bits [9:8] of the stored head; two in W mode (R525, R527, R531). -/
def lengthAt (s : State) (n : Nat) (a : Nat) : Nat :=
  if (coreAt s n).regs.st.w then 2
  else
    let row := (mget {} (coreAt s n).program (a / 16)).code
    leNat row / 2 ^ (14 * (a % 16) + 8) % 4 + 1

/-- A core's seal key (R528). -/
def coreSealKey (s : State) (n : Nat) : Bytes := std "core seal key" 32 [leBytes 1 n, leBytes 8 (coreAt s n).sealKey]

/-- The seal of a row of 28 bytes under its core's key (R528). -/
def sealOfRow (s : State) (n row : Nat) (code : Bytes) : Bytes := ((cmac (coreSealKey s n) (leBytes 2 row ++ code)).take 4).reverse

/-- The seal stored with a row is not the one its core's key gives (R528, R529). -/
def sealFails (s : State) (n row : Nat) : Bool := match mfind row (coreAt s n).program with | some r => r.rowSeal != sealOfRow s n row r.code | none => false

/-- A program row cannot be delivered: its seal fails, or what its 28 code bytes and 4 seal bytes have taken is not corrected (R23, R527, R529). -/
def programLost (s : State) (n row : Nat) : Bool :=
  let p : RowPlace := .program n row
  sealFails s n row || (mfind p.address.toNat s.rowFaults).isSome && (readPlace s p (mget {} (coreAt s n).program row).code).delivers.isNone

/-- Causes met in the fetch: the row, c0 and the gate's fetch right (R529, R566, R590). -/
def fetchCauses (s : State) (x : Issue) : List CoreCause :=
  let r := (coreAt s x.core).regs
  let pc := r.pc.toNat
  let c0 := cRead r 0
  needs (!x.badRow && !programLost s x.core (pc / 16)) { vector := 9, rank := 0, row := (RowPlace.program x.core (pc / 16)).detail } ++
    (if ¬ c0.tag then [{ cause 5 with addr := pc }]
     else if capSealed c0 ∨ ¬ holds c0 pEX then [{ cause 3 with addr := pc }]
     else needs (decide (capBase c0 ≤ pc ∧ pc + x.len ≤ capBase c0 + capLen c0)) { cause 4 with addr := pc }) ++
    needs (gatePermits s x.core (userContext r) 57 (fetchAddr pc) true) { cause 8 with addr := fetchAddr pc, gate := 57 }

/-- Causes of encoding and placement, whatever the guard (R525 to R527, R531, R543, R544, R551). -/
def placementCauses (s : State) (x : Issue) (sh : Shape) : List CoreCause :=
  let r := (coreAt s x.core).regs
  let pc := r.pc.toNat
  let at0 : Bool := r.st.loop0 && decide (r.loops.le0.toNat = pc)
  let at1 : Bool := r.st.loop1 && decide (r.loops.le1.toNat = pc)
  let slot0 : Bool := r.st.loop0 && decide (r.loops.le0.toNat = pc + x.len)
  let slot1 : Bool := r.st.loop1 && decide (r.loops.le1.toNat = pc + x.len)
  let bad := x.badEncoding || decide (x.len = 0 ∨ 3 < x.len ∨ 16 < pc % 16 + x.len) || (r.st.w && decide (x.len ≠ 2 ∨ pc % 2 = 1))
    || ((sh.branch || sh.control) && (r.delay || at0 || at1)) || (sh.branch && (slot0 || slot1)) || (sh.shadowBad && decide (0 < r.shadow))
  needs (!bad) (cause 6)

/-- The address after an instruction that completed at pc: a branch target after its delay slot, a loop start, or the next instruction (R542,
R550). -/
def advance (len : Nat) (branch : Bool) (r : CoreRegs) : CoreRegs :=
  let r1 := { tick r with delay := branch, shadow := r.shadow - 1, returned := false }
  let next := r.pc + BitVec.ofNat 18 len
  if r.st.brPend ∧ ¬ branch then { r1 with pc := r.st.brTarget, st := { r1.st with brPend := false } }
  else
    let l := r1.loops
    if r1.st.loop1 ∧ l.le1 = r.pc ∧ l.lc1 - 1 ≠ 0 then { r1 with pc := l.ls1, loops := { l with lc1 := l.lc1 - 1 } }
    else
      let r2 := if r1.st.loop1 ∧ l.le1 = r.pc then { r1 with loops := { l with lc1 := 0 }, st := { r1.st with loop1 := false } } else r1
      let m := r2.loops
      if r2.st.loop0 ∧ m.le0 = r.pc then
        if m.lc0 - 1 ≠ 0 then { r2 with pc := m.ls0, loops := { m with lc0 := m.lc0 - 1 } }
        else { r2 with pc := next, loops := { m with lc0 := 0 }, st := { r2.st with loop0 := false } }
      else { r2 with pc := next }

/-- The guard's value (R525). -/
def guardOn (r : CoreRegs) (x : Issue) : Bool := (pRead r x.guard) != x.sense

/-- An instruction has issued: it is counted (R559, R580). -/
def counted (n : Nat) (s : State) : State := modCore n (fun c => { c with issued := satInc c.issued, sinceTrace := c.sinceTrace + 1 }) s

/-- A synchronous exception at the instruction at pc, after the drain (R576, R582); a gate refusal shows at the gate too, an uncorrectable row is an event (R27). -/
def raiseCause (x : Issue) (k : CoreCause) (s : State) : State :=
  let c := coreAt s x.core
  if ¬ drained c then stall x.core s
  else
    let s1 := if k.gate ≠ 0 then gateRefuse x.core (corePage x.core) k.gate k.addr (userContext c.regs) false s else s
    let s2 := if k.row ≠ 0 then raise (corePage x.core) 0x0502 k.row s1 else s1
    takeException x.core k.vector c.regs.pc.toNat k.info k.addr k.detail s2

/-- Issue one instruction (R525, R526, R582): asynchronous exceptions at a permitted boundary, then its causes, then its effect. `wait` says that it
stalls; `act` is its effect on the core's registers and memory before the program address moves on; `jump`, where given, decides that address
itself. DESIGN CHOICE: log entry 70. -/
def issue (x : Issue) (sh : Shape) (causes : State → List CoreCause) (wait : State → Bool) (act : State → State) (jump : Option (State → State)) (s0 : State) : Res :=
  .next <|
    let n := x.core
    let s : State := if x.clock < 25000 then { s0 with sched := { s0.sched with clock := BitVec.ofNat 15 x.clock } } else s0
    let c := coreAt s n
    let r := c.regs
    if ¬ coreRuns s n then s0
    else
      let boundary : Bool := !r.delay && decide (r.shadow = 0)
      match (if boundary then c.overrun else none), (if boundary then c.late else []) with
      | some op, _ =>
        if drained c then takeException n 14 r.pc.toNat 0 0 op (modCore n (fun c => { c with overrun := none }) s) else stall n s
      | none, (e, k, w) :: rest =>
        takeException n 10 r.pc.toNat (e + 16 * k) w.addr w.value.toNat (modCore n (fun c => { c with late := rest }) s)
      | none, [] =>
        if boundary && r.st.trace then (if drained c then takeException n 13 r.pc.toNat 0 0 c.sinceTrace s else stall n s)
        else
          let on : Bool := guardOn r x
          let own := if on then causes s else []
          let brk := needs (decide (¬ (r.pc ∈ c.breaks)) || r.returned) (cause 12)
          match firstCause (fetchCauses s x ++ placementCauses s x sh ++ needs (!pFailed r x.guard) (cause 9) ++ own ++ brk) with
          | some k => raiseCause x k s
          | none =>
            if on ∧ wait s then stall n s
            else if on then
              match jump with
              | some j => counted n (j s)
              | none => modRegs n (advance x.len sh.branch) (counted n (act s))
            else modRegs n (advance x.len sh.branch) (counted n s)

/-- An instruction of no cause of its own that only changes registers. -/
def issueRegs (x : Issue) (f : CoreRegs → CoreRegs) (s : State) : Res := issue x {} (fun _ => []) (fun _ => false) (modRegs x.core f) none s

end Sys2Proof.Machine
end

