-- ==== Sys2Proof/Machine/AmiesoCode.lean ====
section
/-!
DEFINITION. Sys2Proof/Machine/AmiesoCode.lean: the encodings of Amieso (R525, R527, R532 to R534, R557), and what the program row at a core's pc spells.
-/
namespace Sys2Proof.Machine
open Sys2Proof

/-- What a payload spells: a mnemonic of R533, R534 or R557 and its operands, in the order of the rows of the table. -/
abbrev Spelling : Type := String × List Int

/-- An unsigned field of a payload. -/
def field (hi lo : Nat) (p : Nat) : Int := bits hi lo p

/-- A signed field of a payload. -/
def signedField (hi lo : Nat) (p : Nat) : Int := let v := bits hi lo p; if v < 2 ^ (hi - lo) then v else (v : Int) - 2 ^ (hi - lo + 1)

/-- The instruction where its fields shown as 0 are 0 (R532). -/
def whereZero (zero : Bool) (i : Spelling) : Option Spelling := if zero then some i else none

/-- One-syllable instructions (R532, R533). -/
def decodeShort (p : Nat) : Option Spelling :=
  let a := field 5 3 p
  let b := field 2 0 p
  match bits 7 6 p, bits 5 3 p with
  | 0, _ => some ("MOV_S", [a, b])
  | 1, _ => some ("ADD_S", [a, b])
  | 2, _ => some ("SUB_S", [a, b])
  | _, 0 => whereZero (decide (b = 0)) ("NOP_S", [])
  | _, 1 => some ("INC_S", [b])
  | _, 2 => some ("DEC_S", [b])
  | _, 3 => some ("NOT_S", [b])
  | _, 4 => some ("NEG_S", [b])
  | _, 5 => some ("SHL1_S", [b])
  | _, 6 => some ("SHR1_S", [b])
  | _, _ => some ("CLR_S", [b])

/-- Local loads and stores by their place in the opcode map (R534: 0x40 to 0x4B, and 0x18 to 0x23 of three syllables). -/
def decodeMemory (k : Nat) (rd rb cap off : Int) : Option Spelling :=
  match k with
  | 0 => some ("LD_B", [rd, rb, cap, off])
  | 1 => some ("LD_H", [rd, rb, cap, off])
  | 2 => some ("LD_W", [rd, rb, cap, off])
  | 3 => some ("LD_D", [rd, rb, cap, off])
  | 4 => some ("LDS_B", [rd, rb, cap, off])
  | 5 => some ("LDS_H", [rd, rb, cap, off])
  | 6 => some ("LDS_W", [rd, rb, cap, off])
  | 8 => some ("ST_B", [rd, rb, cap, off])
  | 9 => some ("ST_H", [rd, rb, cap, off])
  | 10 => some ("ST_W", [rd, rb, cap, off])
  | 11 => some ("ST_D", [rd, rb, cap, off])
  | _ => none

/-- Access size of such a load or store. -/
def sizeOf_ (k : Nat) : Nat := 2 ^ (if 4 ≤ k ∧ k < 8 then k - 4 else k % 4)

/-- Functions of SYS other than FLS_COMMAND (R557). -/
def decodeSys (func : Nat) (cap rs : Int) : Option Spelling :=
  match func with
  | 0x00 => some ("SYS_STEP_BIND", [cap, rs])
  | 0x01 => some ("SYS_STEP_END", [cap, rs])
  | 0x02 => some ("SYS_WINDROW_POST", [cap, rs])
  | 0x03 => some ("SYS_LEDGER_READ", [cap, rs])
  | 0x10 => some ("SYS_KEY_FETCH", [cap, rs])
  | 0x11 => some ("SYS_KEY_SEAL", [cap, rs])
  | 0x12 => some ("SYS_KEY_PIN", [cap, rs])
  | 0x13 => some ("SYS_SESSION_CHECK", [cap, rs])
  | 0x20 => some ("SYS_DOMAIN_WAKE", [cap, rs])
  | 0x21 => some ("SYS_DOMAIN_GATE", [cap, rs])
  | 0x22 => some ("SYS_PRESSURE_READ", [cap, rs])
  | 0x30 => some ("SYS_EVT_RAISE", [cap, rs])
  | 0x31 => some ("SYS_EVT_ROUTE", [cap, rs])
  | 0x40 => some ("SYS_GATE_WRITE", [cap, rs])
  | 0x41 => some ("SYS_GATE_SYNC", [cap, rs])
  | 0x50 => some ("SYS_CORE_START", [cap, rs])
  | 0x51 => some ("SYS_CORE_STOP", [cap, rs])
  | 0x52 => some ("SYS_PM_WRITE", [cap, rs])
  | 0x53 => some ("SYS_HALT", [cap, rs])
  | 0x70 => some ("SYS_TRACE_ON", [cap, rs])
  | 0x71 => some ("SYS_TRACE_OFF", [cap, rs])
  | 0x72 => some ("SYS_BREAK_SET", [cap, rs])
  | _ => none

/-- Two-syllable register instructions: formats RR, RI and LI (R532, R534). -/
def decodeRegisters (op p : Nat) : Option Spelling :=
  let rd := field 14 10 p
  let a := field 9 5 p
  let b := field 4 0 p
  match op with
  | 0x00 => some ("ADD", [rd, a, b])
  | 0x01 => some ("SUB", [rd, a, b])
  | 0x02 => some ("AND", [rd, a, b])
  | 0x03 => some ("OR", [rd, a, b])
  | 0x04 => some ("XOR", [rd, a, b])
  | 0x05 => some ("ANDN", [rd, a, b])
  | 0x06 => some ("SHL", [rd, a, b])
  | 0x07 => some ("SHR", [rd, a, b])
  | 0x08 => some ("SAR", [rd, a, b])
  | 0x09 => some ("ROL", [rd, a, b])
  | 0x0A => some ("ROR", [rd, a, b])
  | 0x0B => some ("MIN", [rd, a, b])
  | 0x0C => some ("MAX", [rd, a, b])
  | 0x0D => some ("MINU", [rd, a, b])
  | 0x0E => some ("MAXU", [rd, a, b])
  | 0x0F => whereZero (decide (b = 0)) ("CLZ", [rd, a])
  | 0x10 => whereZero (decide (b = 0)) ("POPC", [rd, a])
  | 0x11 => whereZero (decide (b = 0)) ("BSWAP", [rd, a])
  | 0x18 => some ("MUL", [rd, a, b])
  | 0x19 => some ("MULH", [rd, a, b])
  | 0x1A => some ("MULHU", [rd, a, b])
  | 0x1B => some ("MAC", [rd, a, b])
  | 0x20 => some ("ADDI", [rd, a, b])
  | 0x21 => some ("ANDI", [rd, a, b])
  | 0x22 => some ("ORI", [rd, a, b])
  | 0x23 => some ("XORI", [rd, a, b])
  | 0x24 => some ("SHLI", [rd, a, b])
  | 0x25 => some ("SHRI", [rd, a, b])
  | 0x26 => some ("SARI", [rd, a, b])
  | 0x27 => some ("RORI", [rd, a, b])
  | 0x28 => some ("LI", [rd, field 9 0 p])
  | _ => none

/-- Two-syllable compares, predicate logic and special registers: formats PC, PL and SR (R532, R534). -/
def decodePredicates (op p : Nat) : Option Spelling :=
  let pd := field 14 12 p
  let a := field 9 5 p
  let b := field 4 0 p
  let pc := decide (bits 11 10 p = 0)
  let pl := decide (bits 5 0 p = 0)
  match op with
  | 0x30 => whereZero pc ("CMPEQ", [pd, a, b])
  | 0x31 => whereZero pc ("CMPNE", [pd, a, b])
  | 0x32 => whereZero pc ("CMPLT", [pd, a, b])
  | 0x33 => whereZero pc ("CMPGE", [pd, a, b])
  | 0x34 => whereZero pc ("CMPLTU", [pd, a, b])
  | 0x35 => whereZero pc ("CMPGEU", [pd, a, b])
  | 0x38 => whereZero pl ("PAND", [pd, field 11 9 p, field 8 6 p])
  | 0x39 => whereZero pl ("POR", [pd, field 11 9 p, field 8 6 p])
  | 0x3A => whereZero pl ("PXOR", [pd, field 11 9 p, field 8 6 p])
  | 0x3B => whereZero pl ("PANDN", [pd, field 11 9 p, field 8 6 p])
  | 0x3C => whereZero (decide (a = 0)) ("MFS", [field 14 10 p, b])
  | 0x3D => whereZero (decide (b = 0)) ("MTS", [field 14 10 p, a])
  | _ => none

/-- Two-syllable memory and control instructions: formats M, MX, MC, BR, BI, LP and X (R532, R534). -/
def decodeControl (op p : Nat) : Option Spelling :=
  let rb := field 9 5 p
  let cap := field 4 2 p
  let cd := field 14 12 p
  let landing := 4 + field 11 10 p
  let mc := decide (bits 1 0 p = 0)
  let mc0 := decide (bits 11 10 p = 0 ∧ bits 1 0 p = 0)
  match op with
  | 0x4C => some ("LDX_D", [field 14 10 p, rb, cap, 4 + field 1 0 p, 0])
  | 0x4E => whereZero mc0 ("LDC", [cd, rb, cap, 0])
  | 0x4F => whereZero mc0 ("STC", [cd, rb, cap, 0])
  | 0x50 => whereZero mc ("LDCX", [cd, rb, cap, landing, 0])
  | 0x51 => whereZero mc0 ("STCX", [cd, rb, cap, 0])
  | 0x58 => some ("B", [signedField 14 0 p])
  | 0x59 => some ("CALL", [signedField 14 0 p])
  | 0x5A => whereZero (decide (bits 14 5 p = 0)) ("BR", [field 4 0 p])
  | 0x5B => whereZero (decide (bits 14 5 p = 0)) ("CALLR", [field 4 0 p])
  | 0x5C => some ("LOOP", [field 14 14 p, field 13 9 p, field 8 0 p])
  | 0x78 => whereZero (decide (bits 11 0 p = 0)) ("WAIT", [cd])
  | 0x79 => whereZero (decide (bits 14 0 p = 0)) ("FENCE_S", [])
  | 0x7A => whereZero (decide (bits 14 0 p = 0)) ("YIELD", [])
  | 0x7B => whereZero (decide (bits 14 10 p = 0)) ("DONE", [rb, field 4 0 p])
  | 0x7C => whereZero (decide (bits 14 8 p = 0)) ("BREAK", [field 7 0 p])
  | 0x7D => whereZero (decide (bits 14 0 p = 0)) ("NOP", [])
  | _ => if 0x40 ≤ op ∧ op < 0x4C then decodeMemory (op - 0x40) (field 14 10 p) rb cap (sizeOf_ (op - 0x40) * bits 1 0 p) else none

/-- Two-syllable capability instructions: format CC, in which a register field that an instruction does not use is not read (R532, R534; DEDUCED, log
entry 70). -/
def decodeCapability (op p : Nat) : Option Spelling :=
  let cd := field 14 12 p
  let cs := field 11 9 p
  let ct := field 8 6 p
  let cc := decide (bits 5 0 p = 0)
  match op with
  | 0x60 => whereZero cc ("GATE", [cd, cs, ct])
  | 0x61 => whereZero cc ("RETC", [])
  | 0x62 => whereZero cc ("CCOPY", [cd, cs])
  | 0x63 => whereZero (decide (bits 3 0 p = 0)) ("CTRIM", [cd, cs, field 8 4 p])
  | 0x64 => whereZero (decide (bits 4 0 p = 0)) ("CREAD", [field 14 10 p, field 9 7 p, field 6 5 p])
  | 0x65 => whereZero cc ("CWRAP", [cd, cs, ct])
  | 0x66 => whereZero cc ("CUNWRAP", [cd, cs, ct])
  | 0x67 => whereZero cc ("CVOID", [cd])
  | 0x68 => whereZero (decide (bits 3 0 p = 0)) ("CGRANT", [cd, cs, field 8 4 p])
  | 0x70 => decodeSys (bits 11 5 p) cd (field 4 0 p)
  | _ => none

/-- Three-syllable instructions: formats I3, L3 and P3 (R532, R534). -/
def decodeWideRegisters (op p : Nat) : Option Spelling :=
  let rd := field 29 25 p
  let a := field 24 20 p
  let i := field 19 0 p
  let pd := field 29 27 p
  let sh := decide (bits 19 6 p = 0)
  let p3 := decide (bits 26 25 p = 0)
  match op with
  | 0x00 => some ("ADDI3", [rd, a, i])
  | 0x01 => some ("ANDI3", [rd, a, i])
  | 0x02 => some ("ORI3", [rd, a, i])
  | 0x03 => some ("XORI3", [rd, a, i])
  | 0x04 => whereZero sh ("SHLI3", [rd, a, i])
  | 0x05 => whereZero sh ("SHRI3", [rd, a, i])
  | 0x06 => whereZero sh ("SARI3", [rd, a, i])
  | 0x07 => whereZero sh ("RORI3", [rd, a, i])
  | 0x08 => some ("LI3", [rd, field 24 0 p])
  | 0x09 => some ("LIH", [rd, field 24 0 p])
  | 0x0C => whereZero p3 ("CMPEQI", [pd, a, i])
  | 0x0D => whereZero p3 ("CMPNEI", [pd, a, i])
  | 0x0E => whereZero p3 ("CMPLTI", [pd, a, i])
  | 0x0F => whereZero p3 ("CMPGEI", [pd, a, i])
  | 0x10 => whereZero p3 ("CMPLTUI", [pd, a, i])
  | 0x11 => whereZero p3 ("CMPGEUI", [pd, a, i])
  | _ => none

/-- Three-syllable instructions: formats M3, X3, C3, B3, LP3 and CB3 (R532, R534). -/
def decodeWideMemory (op p : Nat) : Option Spelling :=
  let rd := field 29 25 p
  let cd := field 29 27 p
  let pl := field 26 24 p
  let rb := field 23 19 p
  let cap := field 18 16 p
  let off := signedField 15 0 p * 16
  match op with
  | 0x24 => whereZero (decide (bits 16 14 p ≠ 0)) ("LDX_D", [rd, field 24 20 p, field 19 17 p, field 16 14 p, signedField 13 0 p * 8])
  | 0x26 => whereZero (decide (pl = 0)) ("LDC", [cd, rb, cap, off])
  | 0x27 => whereZero (decide (pl = 0)) ("STC", [cd, rb, cap, off])
  | 0x28 => whereZero (decide (pl ≠ 0)) ("LDCX", [cd, rb, cap, pl, off])
  | 0x29 => whereZero (decide (pl = 0)) ("STCX", [cd, rb, cap, off])
  | 0x30 => some ("B", [signedField 29 0 p])
  | 0x31 => some ("CALL", [signedField 29 0 p])
  | 0x32 => whereZero (decide (bits 23 20 p = 0)) ("LOOP", [field 29 29 p, field 28 24 p, field 19 0 p])
  | 0x34 => whereZero (decide (bits 13 0 p = 0)) ("CCLIP", [cd, pl, rb, field 18 14 p])
  | _ => if 0x18 ≤ op ∧ op < 0x24 then decodeMemory (op - 0x18) rd (field 24 20 p) (field 19 17 p) (signedField 16 0 p) else none

/-- The instruction that a payload of 1 to 3 syllables spells; none where it is reserved, a field shown as 0 is not 0, or it is SYS FLS_COMMAND, which
stands for several rows of the table (R525, R532 to R534, R557). -/
def decodePayload (len p : Nat) : Option Spelling :=
  match len with
  | 1 => decodeShort p
  | 2 =>
    let op := bits 21 15 p
    if op < 0x30 then decodeRegisters op p else if op < 0x40 then decodePredicates op p
    else if 0x60 ≤ op ∧ op < 0x78 then decodeCapability op p else decodeControl op p
  | 3 => let op := bits 35 30 p; if op < 0x18 then decodeWideRegisters op p else decodeWideMemory op p
  | _ => none

/-- SYS FLS_COMMAND with its fields: func 0x60 (R557). -/
def isFlsCommand (len p : Nat) : Bool := decide (len = 2 ∧ bits 21 15 p = 0x70 ∧ bits 11 5 p = 0x60)

/-- Syllable at a program address, where its row has been written (R527). -/
def syllableAt (s : State) (n a : Nat) : Option Nat := (mfind (a / 16) (coreAt s n).program).map (fun r => bits 13 0 (leNat r.code / 2 ^ (14 * (a % 16))))

/-- The payload of an instruction: bits [7:0] of its head, then its later syllables (R525). -/
def payloadAt (s : State) (n a len head : Nat) : Nat :=
  (List.range (len - 1)).foldl (fun p i => p * 2 ^ 14 + (syllableAt s n (a + 1 + i)).getD 0) (bits 7 0 head)

/-- The row at the pc spells an instruction that `is` accepts, with the guard and the length that the command gives; a reserved encoding is spelled by a command
that says so. A row that nothing wrote, or that cannot be delivered, holds what the command says (R525 to R529; DESIGN CHOICE, log entry 70). -/
def spells (s : State) (x : Issue) (is : Nat → Nat → Bool) : Bool :=
  let pc := (coreAt s x.core).regs.pc.toNat
  match syllableAt s x.core pc with
  | none => true
  | some head =>
    let len := bits 9 8 head + 1
    let p := payloadAt s x.core pc len head
    let legal := (decodePayload len p).isSome || isFlsCommand len p
    programLost s x.core (pc / 16)
      || (decide (bits 13 11 head = x.guard.toNat) && (bit 10 head == x.sense)
        && (if len = 4 then x.badEncoding else decide (len = x.len) && (decide (16 < pc % 16 + len) || if legal then !x.badEncoding && is len p else x.badEncoding)))

/-- The instruction of a command is the one at the core's pc. -/
def spelled (i : Spelling) (x : Issue) (s : State) : Bool := spells s x (fun len p => decide (decodePayload len p = some i))

/-- What an instruction does where it is the one at the core's pc; a command for another has no effect (DESIGN CHOICE, log entry 70). -/
def fetched (mnemonic : String) (operands : List Int) (x : Issue) (s : State) (r : Res) : Res := if spelled (mnemonic, operands) x s then r else .next s

/-- What a row of the table that is an instruction of a core spells. -/
def spellingOf (i : Instr) : Option Spelling :=
  match i with
  | .amMovS _ rd rs => some ("MOV_S", [rd.toNat, rs.toNat])
  | .amAddS _ rd rs => some ("ADD_S", [rd.toNat, rs.toNat])
  | .amSubS _ rd rs => some ("SUB_S", [rd.toNat, rs.toNat])
  | .amNopS _ => some ("NOP_S", [])
  | .amIncS _ rd => some ("INC_S", [rd.toNat])
  | .amDecS _ rd => some ("DEC_S", [rd.toNat])
  | .amNotS _ rd => some ("NOT_S", [rd.toNat])
  | .amNegS _ rd => some ("NEG_S", [rd.toNat])
  | .amShl1S _ rd => some ("SHL1_S", [rd.toNat])
  | .amShr1S _ rd => some ("SHR1_S", [rd.toNat])
  | .amClrS _ rd => some ("CLR_S", [rd.toNat])
  | .amAdd _ rd rs1 rs2 => some ("ADD", [rd.toNat, rs1.toNat, rs2.toNat])
  | .amSub _ rd rs1 rs2 => some ("SUB", [rd.toNat, rs1.toNat, rs2.toNat])
  | .amAnd _ rd rs1 rs2 => some ("AND", [rd.toNat, rs1.toNat, rs2.toNat])
  | .amOr _ rd rs1 rs2 => some ("OR", [rd.toNat, rs1.toNat, rs2.toNat])
  | .amXor _ rd rs1 rs2 => some ("XOR", [rd.toNat, rs1.toNat, rs2.toNat])
  | .amAndn _ rd rs1 rs2 => some ("ANDN", [rd.toNat, rs1.toNat, rs2.toNat])
  | .amShl _ rd rs1 rs2 => some ("SHL", [rd.toNat, rs1.toNat, rs2.toNat])
  | .amShr _ rd rs1 rs2 => some ("SHR", [rd.toNat, rs1.toNat, rs2.toNat])
  | .amSar _ rd rs1 rs2 => some ("SAR", [rd.toNat, rs1.toNat, rs2.toNat])
  | .amRol _ rd rs1 rs2 => some ("ROL", [rd.toNat, rs1.toNat, rs2.toNat])
  | .amRor _ rd rs1 rs2 => some ("ROR", [rd.toNat, rs1.toNat, rs2.toNat])
  | .amMin _ rd rs1 rs2 => some ("MIN", [rd.toNat, rs1.toNat, rs2.toNat])
  | .amMax _ rd rs1 rs2 => some ("MAX", [rd.toNat, rs1.toNat, rs2.toNat])
  | .amMinu _ rd rs1 rs2 => some ("MINU", [rd.toNat, rs1.toNat, rs2.toNat])
  | .amMaxu _ rd rs1 rs2 => some ("MAXU", [rd.toNat, rs1.toNat, rs2.toNat])
  | .amClz _ rd rs1 => some ("CLZ", [rd.toNat, rs1.toNat])
  | .amPopc _ rd rs1 => some ("POPC", [rd.toNat, rs1.toNat])
  | .amBswap _ rd rs1 => some ("BSWAP", [rd.toNat, rs1.toNat])
  | .amMul _ rd rs1 rs2 => some ("MUL", [rd.toNat, rs1.toNat, rs2.toNat])
  | .amMulh _ rd rs1 rs2 => some ("MULH", [rd.toNat, rs1.toNat, rs2.toNat])
  | .amMulhu _ rd rs1 rs2 => some ("MULHU", [rd.toNat, rs1.toNat, rs2.toNat])
  | .amMac _ rd rs1 rs2 => some ("MAC", [rd.toNat, rs1.toNat, rs2.toNat])
  | .amAddi _ rd rs1 imm => some ("ADDI", [rd.toNat, rs1.toNat, imm.toNat])
  | .amAndi _ rd rs1 imm => some ("ANDI", [rd.toNat, rs1.toNat, imm.toNat])
  | .amOri _ rd rs1 imm => some ("ORI", [rd.toNat, rs1.toNat, imm.toNat])
  | .amXori _ rd rs1 imm => some ("XORI", [rd.toNat, rs1.toNat, imm.toNat])
  | .amShli _ rd rs1 imm => some ("SHLI", [rd.toNat, rs1.toNat, imm.toNat])
  | .amShri _ rd rs1 imm => some ("SHRI", [rd.toNat, rs1.toNat, imm.toNat])
  | .amSari _ rd rs1 imm => some ("SARI", [rd.toNat, rs1.toNat, imm.toNat])
  | .amRori _ rd rs1 imm => some ("RORI", [rd.toNat, rs1.toNat, imm.toNat])
  | .amAddi3 _ rd rs1 imm => some ("ADDI3", [rd.toNat, rs1.toNat, imm.toNat])
  | .amAndi3 _ rd rs1 imm => some ("ANDI3", [rd.toNat, rs1.toNat, imm.toNat])
  | .amOri3 _ rd rs1 imm => some ("ORI3", [rd.toNat, rs1.toNat, imm.toNat])
  | .amXori3 _ rd rs1 imm => some ("XORI3", [rd.toNat, rs1.toNat, imm.toNat])
  | .amShli3 _ rd rs1 imm => some ("SHLI3", [rd.toNat, rs1.toNat, imm.toNat])
  | .amShri3 _ rd rs1 imm => some ("SHRI3", [rd.toNat, rs1.toNat, imm.toNat])
  | .amSari3 _ rd rs1 imm => some ("SARI3", [rd.toNat, rs1.toNat, imm.toNat])
  | .amRori3 _ rd rs1 imm => some ("RORI3", [rd.toNat, rs1.toNat, imm.toNat])
  | .amLi _ rd imm => some ("LI", [rd.toNat, imm.toNat])
  | .amLi3 _ rd imm => some ("LI3", [rd.toNat, imm.toNat])
  | .amLih _ rd imm => some ("LIH", [rd.toNat, imm.toNat])
  | .amCmpeq _ pd rs1 rs2 => some ("CMPEQ", [pd.toNat, rs1.toNat, rs2.toNat])
  | .amCmpne _ pd rs1 rs2 => some ("CMPNE", [pd.toNat, rs1.toNat, rs2.toNat])
  | .amCmplt _ pd rs1 rs2 => some ("CMPLT", [pd.toNat, rs1.toNat, rs2.toNat])
  | .amCmpge _ pd rs1 rs2 => some ("CMPGE", [pd.toNat, rs1.toNat, rs2.toNat])
  | .amCmpltu _ pd rs1 rs2 => some ("CMPLTU", [pd.toNat, rs1.toNat, rs2.toNat])
  | .amCmpgeu _ pd rs1 rs2 => some ("CMPGEU", [pd.toNat, rs1.toNat, rs2.toNat])
  | .amCmpeqi _ pd rs1 imm => some ("CMPEQI", [pd.toNat, rs1.toNat, imm.toNat])
  | .amCmpnei _ pd rs1 imm => some ("CMPNEI", [pd.toNat, rs1.toNat, imm.toNat])
  | .amCmplti _ pd rs1 imm => some ("CMPLTI", [pd.toNat, rs1.toNat, imm.toNat])
  | .amCmpgei _ pd rs1 imm => some ("CMPGEI", [pd.toNat, rs1.toNat, imm.toNat])
  | .amCmpltui _ pd rs1 imm => some ("CMPLTUI", [pd.toNat, rs1.toNat, imm.toNat])
  | .amCmpgeui _ pd rs1 imm => some ("CMPGEUI", [pd.toNat, rs1.toNat, imm.toNat])
  | .amPand _ pd ps1 ps2 => some ("PAND", [pd.toNat, ps1.toNat, ps2.toNat])
  | .amPor _ pd ps1 ps2 => some ("POR", [pd.toNat, ps1.toNat, ps2.toNat])
  | .amPxor _ pd ps1 ps2 => some ("PXOR", [pd.toNat, ps1.toNat, ps2.toNat])
  | .amPandn _ pd ps1 ps2 => some ("PANDN", [pd.toNat, ps1.toNat, ps2.toNat])
  | .amMfs _ rd code => some ("MFS", [rd.toNat, code.toNat])
  | .amMts _ code rs => some ("MTS", [code.toNat, rs.toNat])
  | .amCcopy _ cd cs => some ("CCOPY", [cd.toNat, cs.toNat])
  | .amCvoid _ cd => some ("CVOID", [cd.toNat])
  | .amCtrim _ cd cs rs => some ("CTRIM", [cd.toNat, cs.toNat, rs.toNat])
  | .amCread _ rd cs field => some ("CREAD", [rd.toNat, cs.toNat, field.toNat])
  | .amCwrap _ cd cs ct => some ("CWRAP", [cd.toNat, cs.toNat, ct.toNat])
  | .amCunwrap _ cd cs ct => some ("CUNWRAP", [cd.toNat, cs.toNat, ct.toNat])
  | .amCgrant _ cd cs rs => some ("CGRANT", [cd.toNat, cs.toNat, rs.toNat])
  | .amCclip _ cd cs ro rl => some ("CCLIP", [cd.toNat, cs.toNat, ro.toNat, rl.toNat])
  | .amNop _ => some ("NOP", [])
  | .amLdB _ rd rb cap off => some ("LD_B", [rd.toNat, rb.toNat, cap.toNat, off])
  | .amLdH _ rd rb cap off => some ("LD_H", [rd.toNat, rb.toNat, cap.toNat, off])
  | .amLdW _ rd rb cap off => some ("LD_W", [rd.toNat, rb.toNat, cap.toNat, off])
  | .amLdD _ rd rb cap off => some ("LD_D", [rd.toNat, rb.toNat, cap.toNat, off])
  | .amLdsB _ rd rb cap off => some ("LDS_B", [rd.toNat, rb.toNat, cap.toNat, off])
  | .amLdsH _ rd rb cap off => some ("LDS_H", [rd.toNat, rb.toNat, cap.toNat, off])
  | .amLdsW _ rd rb cap off => some ("LDS_W", [rd.toNat, rb.toNat, cap.toNat, off])
  | .amStB _ rs rb cap off => some ("ST_B", [rs.toNat, rb.toNat, cap.toNat, off])
  | .amStH _ rs rb cap off => some ("ST_H", [rs.toNat, rb.toNat, cap.toNat, off])
  | .amStW _ rs rb cap off => some ("ST_W", [rs.toNat, rb.toNat, cap.toNat, off])
  | .amStD _ rs rb cap off => some ("ST_D", [rs.toNat, rb.toNat, cap.toNat, off])
  | .amLdxD _ rd rb cap pl off => some ("LDX_D", [rd.toNat, rb.toNat, cap.toNat, pl.toNat, off])
  | .amLdc _ cd rb cap off => some ("LDC", [cd.toNat, rb.toNat, cap.toNat, off])
  | .amStc _ cs rb cap off => some ("STC", [cs.toNat, rb.toNat, cap.toNat, off])
  | .amLdcx _ cd rb cap pl off => some ("LDCX", [cd.toNat, rb.toNat, cap.toNat, pl.toNat, off])
  | .amStcx _ cs rb cap off => some ("STCX", [cs.toNat, rb.toNat, cap.toNat, off])
  | .amB _ disp => some ("B", [disp])
  | .amCall _ disp => some ("CALL", [disp])
  | .amBr _ rs => some ("BR", [rs.toNat])
  | .amCallr _ rs => some ("CALLR", [rs.toNat])
  | .amLoop _ level rc endOff => some ("LOOP", [b2n level, rc.toNat, endOff])
  | .amGate _ cd cs ct => some ("GATE", [cd.toNat, cs.toNat, ct.toNat])
  | .amRetc _ => some ("RETC", [])
  | .amWait _ pl => some ("WAIT", [pl.toNat])
  | .amFenceS _ => some ("FENCE_S", [])
  | .amBreak _ tag => some ("BREAK", [tag.toNat])
  | .amYield _ => some ("YIELD", [])
  | .amDone _ rs rl => some ("DONE", [rs.toNat, rl.toNat])
  | .sysStepBind _ cap rs => some ("SYS_STEP_BIND", [cap.toNat, rs.toNat])
  | .sysStepEnd _ cap rs => some ("SYS_STEP_END", [cap.toNat, rs.toNat])
  | .sysWindrowPost _ cap rs => some ("SYS_WINDROW_POST", [cap.toNat, rs.toNat])
  | .sysLedgerRead _ cap rs => some ("SYS_LEDGER_READ", [cap.toNat, rs.toNat])
  | .sysKeyFetch _ cap rs => some ("SYS_KEY_FETCH", [cap.toNat, rs.toNat])
  | .sysKeySeal _ cap rs => some ("SYS_KEY_SEAL", [cap.toNat, rs.toNat])
  | .sysKeyPin _ cap rs => some ("SYS_KEY_PIN", [cap.toNat, rs.toNat])
  | .sysSessionCheck _ cap rs => some ("SYS_SESSION_CHECK", [cap.toNat, rs.toNat])
  | .sysDomainWake _ cap rs => some ("SYS_DOMAIN_WAKE", [cap.toNat, rs.toNat])
  | .sysDomainGate _ cap rs => some ("SYS_DOMAIN_GATE", [cap.toNat, rs.toNat])
  | .sysPressureRead _ cap rs => some ("SYS_PRESSURE_READ", [cap.toNat, rs.toNat])
  | .sysEvtRaise _ cap rs => some ("SYS_EVT_RAISE", [cap.toNat, rs.toNat])
  | .sysEvtRoute _ cap rs => some ("SYS_EVT_ROUTE", [cap.toNat, rs.toNat])
  | .sysGateWrite _ cap rs => some ("SYS_GATE_WRITE", [cap.toNat, rs.toNat])
  | .sysGateSync _ cap rs => some ("SYS_GATE_SYNC", [cap.toNat, rs.toNat])
  | .sysCoreStart _ cap rs => some ("SYS_CORE_START", [cap.toNat, rs.toNat])
  | .sysCoreStop _ cap rs => some ("SYS_CORE_STOP", [cap.toNat, rs.toNat])
  | .sysPmWrite _ cap rs => some ("SYS_PM_WRITE", [cap.toNat, rs.toNat])
  | .sysHalt _ cap rs => some ("SYS_HALT", [cap.toNat, rs.toNat])
  | .sysTraceOn _ cap rs => some ("SYS_TRACE_ON", [cap.toNat, rs.toNat])
  | .sysTraceOff _ cap rs => some ("SYS_TRACE_OFF", [cap.toNat, rs.toNat])
  | .sysBreakSet _ cap rs => some ("SYS_BREAK_SET", [cap.toNat, rs.toNat])
  | _ => none

/-- The row at the pc of a core spells the instruction of a command (R525, R532 to R534, R557). -/
def spelledBy (i : Instr) (x : Issue) (s : State) : Bool := match spellingOf i with | some w => spelled w x s | none => false

/-- SYS FLS_COMMAND is the instruction at the core's pc, with its capability and register (R557). -/
def flsSpelled (x : Issue) (cap : BitVec 3) (rs : BitVec 5) (s : State) : Bool :=
  spells s x (fun len p => isFlsCommand len p && decide (field 14 12 p = (cap.toNat : Int) ∧ field 4 0 p = (rs.toNat : Int)))

end Sys2Proof.Machine
end

