-- ==== Sys2Proof/Machine/Amieso.lean ====
section
/-!
DEFINITION. Sys2Proof/Machine/Amieso.lean: the register instructions of Amieso (R533, R534): moves, arithmetic, shifts, compares, predicate
logic, and the capability-forming instructions (R567, R568).
-/
namespace Sys2Proof.Machine
open Sys2Proof

/-- A one-syllable register field names g8 to g15 (R532). -/
def lowReg (n : BitVec 3) : BitVec 5 := n.setWidth 5 + 8

/-- An instruction whose one result is a general register, with its latency (R539). -/
def issueG (x : Issue) (rd : BitVec 5) (l : Nat) (f : CoreRegs → BitVec 64) (s : State) : Res := issueRegs x (fun r => writeG rd (f r) l r) s

/-- Leading zeros, and the count of ones, of a 64-bit value. -/
def leadingZeros (v : BitVec 64) : Nat := ((List.range 64).takeWhile (fun i => !v.getLsbD (63 - i))).length
def onesCount (v : BitVec 64) : Nat := ((List.range 64).filter (fun i => v.getLsbD i)).length

/-- The value in reverse byte order. -/
def byteReverse (v : BitVec 64) : BitVec 64 := BitVec.ofNat 64 (beNat (leBytes 8 v.toNat))

/-- Sign extension to 64 bits. -/
def sx {w : Nat} (v : BitVec w) : BitVec 64 := v.signExtend 64

/-- Zero extension to 64 bits. -/
def zx {w : Nat} (v : BitVec w) : BitVec 64 := v.setWidth 64

/-- The high 64 bits of a signed and of an unsigned product. -/
def mulHigh (a b : BitVec 64) : BitVec 64 := BitVec.ofInt 64 (a.toInt * b.toInt / 2 ^ 64)
def mulHighU (a b : BitVec 64) : BitVec 64 := BitVec.ofNat 64 (a.toNat * b.toNat / 2 ^ 64)

/-- MOV.S (R533): rd ← rs. -/
def execAmMovS (x : Issue) (rd rs : BitVec 3) (s : State) : Res :=
  fetched "MOV_S" [rd.toNat, rs.toNat] x s <|
  issueG x (lowReg rd) 1 (fun r => gRead r (lowReg rs)) s

/-- ADD.S (R533): rd ← rd + rs. -/
def execAmAddS (x : Issue) (rd rs : BitVec 3) (s : State) : Res :=
  fetched "ADD_S" [rd.toNat, rs.toNat] x s <|
  issueG x (lowReg rd) 1 (fun r => gRead r (lowReg rd) + gRead r (lowReg rs)) s

/-- SUB.S (R533): rd ← rd − rs. -/
def execAmSubS (x : Issue) (rd rs : BitVec 3) (s : State) : Res :=
  fetched "SUB_S" [rd.toNat, rs.toNat] x s <|
  issueG x (lowReg rd) 1 (fun r => gRead r (lowReg rd) - gRead r (lowReg rs)) s

/-- NOP.S (R533): no operation. -/
def execAmNopS (x : Issue) (s : State) : Res :=
  fetched "NOP_S" [] x s <|
  issueRegs x id s

/-- INC.S (R533): rd ← rd + 1. -/
def execAmIncS (x : Issue) (rd : BitVec 3) (s : State) : Res :=
  fetched "INC_S" [rd.toNat] x s <|
  issueG x (lowReg rd) 1 (fun r => gRead r (lowReg rd) + 1) s

/-- DEC.S (R533): rd ← rd − 1. -/
def execAmDecS (x : Issue) (rd : BitVec 3) (s : State) : Res :=
  fetched "DEC_S" [rd.toNat] x s <|
  issueG x (lowReg rd) 1 (fun r => gRead r (lowReg rd) - 1) s

/-- NOT.S (R533): rd ← ~rd. -/
def execAmNotS (x : Issue) (rd : BitVec 3) (s : State) : Res :=
  fetched "NOT_S" [rd.toNat] x s <|
  issueG x (lowReg rd) 1 (fun r => ~~~ (gRead r (lowReg rd))) s

/-- NEG.S (R533): rd ← −rd. -/
def execAmNegS (x : Issue) (rd : BitVec 3) (s : State) : Res :=
  fetched "NEG_S" [rd.toNat] x s <|
  issueG x (lowReg rd) 1 (fun r => - (gRead r (lowReg rd))) s

/-- SHL1.S (R533): rd ← rd << 1. -/
def execAmShl1S (x : Issue) (rd : BitVec 3) (s : State) : Res :=
  fetched "SHL1_S" [rd.toNat] x s <|
  issueG x (lowReg rd) 1 (fun r => (gRead r (lowReg rd)) <<< 1) s

/-- SHR1.S (R533): rd ← rd >> 1, logical. -/
def execAmShr1S (x : Issue) (rd : BitVec 3) (s : State) : Res :=
  fetched "SHR1_S" [rd.toNat] x s <|
  issueG x (lowReg rd) 1 (fun r => (gRead r (lowReg rd)) >>> 1) s

/-- CLR.S (R533): rd ← 0. -/
def execAmClrS (x : Issue) (rd : BitVec 3) (s : State) : Res :=
  fetched "CLR_S" [rd.toNat] x s <|
  issueG x (lowReg rd) 1 (fun _ => 0) s

/-- ADD (R534): rd ← rs1 + rs2. -/
def execAmAdd (x : Issue) (rd rs1 rs2 : BitVec 5) (s : State) : Res :=
  fetched "ADD" [rd.toNat, rs1.toNat, rs2.toNat] x s <|
  issueG x rd 1 (fun r => gRead r rs1 + gRead r rs2) s

/-- SUB (R534): rd ← rs1 − rs2. -/
def execAmSub (x : Issue) (rd rs1 rs2 : BitVec 5) (s : State) : Res :=
  fetched "SUB" [rd.toNat, rs1.toNat, rs2.toNat] x s <|
  issueG x rd 1 (fun r => gRead r rs1 - gRead r rs2) s

/-- AND (R534): rd ← rs1 & rs2. -/
def execAmAnd (x : Issue) (rd rs1 rs2 : BitVec 5) (s : State) : Res :=
  fetched "AND" [rd.toNat, rs1.toNat, rs2.toNat] x s <|
  issueG x rd 1 (fun r => gRead r rs1 &&& gRead r rs2) s

/-- OR (R534): rd ← rs1 | rs2. -/
def execAmOr (x : Issue) (rd rs1 rs2 : BitVec 5) (s : State) : Res :=
  fetched "OR" [rd.toNat, rs1.toNat, rs2.toNat] x s <|
  issueG x rd 1 (fun r => gRead r rs1 ||| gRead r rs2) s

/-- XOR (R534): rd ← rs1 ^ rs2. -/
def execAmXor (x : Issue) (rd rs1 rs2 : BitVec 5) (s : State) : Res :=
  fetched "XOR" [rd.toNat, rs1.toNat, rs2.toNat] x s <|
  issueG x rd 1 (fun r => gRead r rs1 ^^^ gRead r rs2) s

/-- ANDN (R534): rd ← rs1 & ~rs2. -/
def execAmAndn (x : Issue) (rd rs1 rs2 : BitVec 5) (s : State) : Res :=
  fetched "ANDN" [rd.toNat, rs1.toNat, rs2.toNat] x s <|
  issueG x rd 1 (fun r => gRead r rs1 &&& ~~~ (gRead r rs2)) s

/-- SHL (R534): shift left by rs2[5:0]. -/
def execAmShl (x : Issue) (rd rs1 rs2 : BitVec 5) (s : State) : Res :=
  fetched "SHL" [rd.toNat, rs1.toNat, rs2.toNat] x s <|
  issueG x rd 1 (fun r => (gRead r rs1) <<< ((gRead r rs2).toNat % 64)) s

/-- SHR (R534): logical shift right by rs2[5:0]. -/
def execAmShr (x : Issue) (rd rs1 rs2 : BitVec 5) (s : State) : Res :=
  fetched "SHR" [rd.toNat, rs1.toNat, rs2.toNat] x s <|
  issueG x rd 1 (fun r => (gRead r rs1) >>> ((gRead r rs2).toNat % 64)) s

/-- SAR (R534): arithmetic shift right by rs2[5:0]. -/
def execAmSar (x : Issue) (rd rs1 rs2 : BitVec 5) (s : State) : Res :=
  fetched "SAR" [rd.toNat, rs1.toNat, rs2.toNat] x s <|
  issueG x rd 1 (fun r => (gRead r rs1).sshiftRight ((gRead r rs2).toNat % 64)) s

/-- ROL (R534): rotate left by rs2[5:0]. -/
def execAmRol (x : Issue) (rd rs1 rs2 : BitVec 5) (s : State) : Res :=
  fetched "ROL" [rd.toNat, rs1.toNat, rs2.toNat] x s <|
  issueG x rd 1 (fun r => (gRead r rs1).rotateLeft ((gRead r rs2).toNat % 64)) s

/-- ROR (R534): rotate right by rs2[5:0]. -/
def execAmRor (x : Issue) (rd rs1 rs2 : BitVec 5) (s : State) : Res :=
  fetched "ROR" [rd.toNat, rs1.toNat, rs2.toNat] x s <|
  issueG x rd 1 (fun r => (gRead r rs1).rotateRight ((gRead r rs2).toNat % 64)) s

/-- MIN (R534): signed minimum. -/
def execAmMin (x : Issue) (rd rs1 rs2 : BitVec 5) (s : State) : Res :=
  fetched "MIN" [rd.toNat, rs1.toNat, rs2.toNat] x s <|
  issueG x rd 1 (fun r => if (gRead r rs1).slt (gRead r rs2) then gRead r rs1 else gRead r rs2) s

/-- MAX (R534): signed maximum. -/
def execAmMax (x : Issue) (rd rs1 rs2 : BitVec 5) (s : State) : Res :=
  fetched "MAX" [rd.toNat, rs1.toNat, rs2.toNat] x s <|
  issueG x rd 1 (fun r => if (gRead r rs1).slt (gRead r rs2) then gRead r rs2 else gRead r rs1) s

/-- MINU (R534): unsigned minimum. -/
def execAmMinu (x : Issue) (rd rs1 rs2 : BitVec 5) (s : State) : Res :=
  fetched "MINU" [rd.toNat, rs1.toNat, rs2.toNat] x s <|
  issueG x rd 1 (fun r => if (gRead r rs1).ult (gRead r rs2) then gRead r rs1 else gRead r rs2) s

/-- MAXU (R534): unsigned maximum. -/
def execAmMaxu (x : Issue) (rd rs1 rs2 : BitVec 5) (s : State) : Res :=
  fetched "MAXU" [rd.toNat, rs1.toNat, rs2.toNat] x s <|
  issueG x rd 1 (fun r => if (gRead r rs1).ult (gRead r rs2) then gRead r rs2 else gRead r rs1) s

/-- CLZ (R534): leading zeros of rs1. -/
def execAmClz (x : Issue) (rd rs1 : BitVec 5) (s : State) : Res :=
  fetched "CLZ" [rd.toNat, rs1.toNat] x s <|
  issueG x rd 1 (fun r => BitVec.ofNat 64 (leadingZeros (gRead r rs1))) s

/-- POPC (R534): count of ones of rs1. -/
def execAmPopc (x : Issue) (rd rs1 : BitVec 5) (s : State) : Res :=
  fetched "POPC" [rd.toNat, rs1.toNat] x s <|
  issueG x rd 1 (fun r => BitVec.ofNat 64 (onesCount (gRead r rs1))) s

/-- BSWAP (R534): byte reversal of rs1. -/
def execAmBswap (x : Issue) (rd rs1 : BitVec 5) (s : State) : Res :=
  fetched "BSWAP" [rd.toNat, rs1.toNat] x s <|
  issueG x rd 1 (fun r => byteReverse (gRead r rs1)) s

/-- MUL (R534): low 64 bits of the product. -/
def execAmMul (x : Issue) (rd rs1 rs2 : BitVec 5) (s : State) : Res :=
  fetched "MUL" [rd.toNat, rs1.toNat, rs2.toNat] x s <|
  issueG x rd 3 (fun r => gRead r rs1 * gRead r rs2) s

/-- MULH (R534): signed high 64 bits of the product. -/
def execAmMulh (x : Issue) (rd rs1 rs2 : BitVec 5) (s : State) : Res :=
  fetched "MULH" [rd.toNat, rs1.toNat, rs2.toNat] x s <|
  issueG x rd 3 (fun r => mulHigh (gRead r rs1) (gRead r rs2)) s

/-- MULHU (R534): unsigned high 64 bits of the product. -/
def execAmMulhu (x : Issue) (rd rs1 rs2 : BitVec 5) (s : State) : Res :=
  fetched "MULHU" [rd.toNat, rs1.toNat, rs2.toNat] x s <|
  issueG x rd 3 (fun r => mulHighU (gRead r rs1) (gRead r rs2)) s

/-- MAC (R534): rd ← rd + low 64 bits of rs1 × rs2. -/
def execAmMac (x : Issue) (rd rs1 rs2 : BitVec 5) (s : State) : Res :=
  fetched "MAC" [rd.toNat, rs1.toNat, rs2.toNat] x s <|
  issueG x rd 3 (fun r => gRead r rd + gRead r rs1 * gRead r rs2) s

/-- ADDI (R534): rd ← rs1 + imm5, sign-extended. -/
def execAmAddi (x : Issue) (rd rs1 : BitVec 5) (imm : BitVec 5) (s : State) : Res :=
  fetched "ADDI" [rd.toNat, rs1.toNat, imm.toNat] x s <|
  issueG x rd 1 (fun r => gRead r rs1 + sx imm) s

/-- ANDI (R534): rd ← rs1 & imm5, zero-extended. -/
def execAmAndi (x : Issue) (rd rs1 : BitVec 5) (imm : BitVec 5) (s : State) : Res :=
  fetched "ANDI" [rd.toNat, rs1.toNat, imm.toNat] x s <|
  issueG x rd 1 (fun r => gRead r rs1 &&& zx imm) s

/-- ORI (R534): rd ← rs1 | imm5, zero-extended. -/
def execAmOri (x : Issue) (rd rs1 : BitVec 5) (imm : BitVec 5) (s : State) : Res :=
  fetched "ORI" [rd.toNat, rs1.toNat, imm.toNat] x s <|
  issueG x rd 1 (fun r => gRead r rs1 ||| zx imm) s

/-- XORI (R534): rd ← rs1 ^ imm5, zero-extended. -/
def execAmXori (x : Issue) (rd rs1 : BitVec 5) (imm : BitVec 5) (s : State) : Res :=
  fetched "XORI" [rd.toNat, rs1.toNat, imm.toNat] x s <|
  issueG x rd 1 (fun r => gRead r rs1 ^^^ zx imm) s

/-- SHLI (R534): shift left by imm5. -/
def execAmShli (x : Issue) (rd rs1 : BitVec 5) (imm : BitVec 5) (s : State) : Res :=
  fetched "SHLI" [rd.toNat, rs1.toNat, imm.toNat] x s <|
  issueG x rd 1 (fun r => (gRead r rs1) <<< imm.toNat) s

/-- SHRI (R534): logical shift right by imm5. -/
def execAmShri (x : Issue) (rd rs1 : BitVec 5) (imm : BitVec 5) (s : State) : Res :=
  fetched "SHRI" [rd.toNat, rs1.toNat, imm.toNat] x s <|
  issueG x rd 1 (fun r => (gRead r rs1) >>> imm.toNat) s

/-- SARI (R534): arithmetic shift right by imm5. -/
def execAmSari (x : Issue) (rd rs1 : BitVec 5) (imm : BitVec 5) (s : State) : Res :=
  fetched "SARI" [rd.toNat, rs1.toNat, imm.toNat] x s <|
  issueG x rd 1 (fun r => (gRead r rs1).sshiftRight imm.toNat) s

/-- RORI (R534): rotate right by imm5. -/
def execAmRori (x : Issue) (rd rs1 : BitVec 5) (imm : BitVec 5) (s : State) : Res :=
  fetched "RORI" [rd.toNat, rs1.toNat, imm.toNat] x s <|
  issueG x rd 1 (fun r => (gRead r rs1).rotateRight imm.toNat) s

/-- ADDI3 (R534): rd ← rs1 + imm20, sign-extended. -/
def execAmAddi3 (x : Issue) (rd rs1 : BitVec 5) (imm : BitVec 20) (s : State) : Res :=
  fetched "ADDI3" [rd.toNat, rs1.toNat, imm.toNat] x s <|
  issueG x rd 1 (fun r => gRead r rs1 + sx imm) s

/-- ANDI3 (R534): rd ← rs1 & imm20, zero-extended. -/
def execAmAndi3 (x : Issue) (rd rs1 : BitVec 5) (imm : BitVec 20) (s : State) : Res :=
  fetched "ANDI3" [rd.toNat, rs1.toNat, imm.toNat] x s <|
  issueG x rd 1 (fun r => gRead r rs1 &&& zx imm) s

/-- ORI3 (R534): rd ← rs1 | imm20, zero-extended. -/
def execAmOri3 (x : Issue) (rd rs1 : BitVec 5) (imm : BitVec 20) (s : State) : Res :=
  fetched "ORI3" [rd.toNat, rs1.toNat, imm.toNat] x s <|
  issueG x rd 1 (fun r => gRead r rs1 ||| zx imm) s

/-- XORI3 (R534): rd ← rs1 ^ imm20, zero-extended. -/
def execAmXori3 (x : Issue) (rd rs1 : BitVec 5) (imm : BitVec 20) (s : State) : Res :=
  fetched "XORI3" [rd.toNat, rs1.toNat, imm.toNat] x s <|
  issueG x rd 1 (fun r => gRead r rs1 ^^^ zx imm) s

/-- SHLI3 (R534): shift left by imm20, which is below 64. -/
def execAmShli3 (x : Issue) (rd rs1 : BitVec 5) (imm : BitVec 20) (s : State) : Res :=
  fetched "SHLI3" [rd.toNat, rs1.toNat, imm.toNat] x s <|
  issue x {} (fun _ => needs (decide (imm.toNat < 64)) (cause 6)) (fun _ => false) (modRegs x.core (fun r => writeG rd ((gRead r rs1) <<< imm.toNat) 1 r)) none s

/-- SHRI3 (R534): logical shift right by imm20, which is below 64. -/
def execAmShri3 (x : Issue) (rd rs1 : BitVec 5) (imm : BitVec 20) (s : State) : Res :=
  fetched "SHRI3" [rd.toNat, rs1.toNat, imm.toNat] x s <|
  issue x {} (fun _ => needs (decide (imm.toNat < 64)) (cause 6)) (fun _ => false) (modRegs x.core (fun r => writeG rd ((gRead r rs1) >>> imm.toNat) 1 r)) none s

/-- SARI3 (R534): arithmetic shift right by imm20, which is below 64. -/
def execAmSari3 (x : Issue) (rd rs1 : BitVec 5) (imm : BitVec 20) (s : State) : Res :=
  fetched "SARI3" [rd.toNat, rs1.toNat, imm.toNat] x s <|
  issue x {} (fun _ => needs (decide (imm.toNat < 64)) (cause 6)) (fun _ => false) (modRegs x.core (fun r => writeG rd ((gRead r rs1).sshiftRight imm.toNat) 1 r)) none s

/-- RORI3 (R534): rotate right by imm20, which is below 64. -/
def execAmRori3 (x : Issue) (rd rs1 : BitVec 5) (imm : BitVec 20) (s : State) : Res :=
  fetched "RORI3" [rd.toNat, rs1.toNat, imm.toNat] x s <|
  issue x {} (fun _ => needs (decide (imm.toNat < 64)) (cause 6)) (fun _ => false) (modRegs x.core (fun r => writeG rd ((gRead r rs1).rotateRight imm.toNat) 1 r)) none s

/-- LI (R534): rd ← imm10, sign-extended. -/
def execAmLi (x : Issue) (rd : BitVec 5) (imm : BitVec 10) (s : State) : Res :=
  fetched "LI" [rd.toNat, imm.toNat] x s <|
  issueG x rd 1 (fun _ => sx imm) s

/-- LI3 (R534): rd ← imm25, sign-extended. -/
def execAmLi3 (x : Issue) (rd : BitVec 5) (imm : BitVec 25) (s : State) : Res :=
  fetched "LI3" [rd.toNat, imm.toNat] x s <|
  issueG x rd 1 (fun _ => sx imm) s

/-- LIH (R534): rd ← (rd << 25) OR imm25. -/
def execAmLih (x : Issue) (rd : BitVec 5) (imm : BitVec 25) (s : State) : Res :=
  fetched "LIH" [rd.toNat, imm.toNat] x s <|
  issueG x rd 1 (fun r => (gRead r rd) <<< 25 ||| zx imm) s

/-- A compare writes its predicate with latency 2 (R534, R539). -/
def issueP (x : Issue) (pd : BitVec 3) (f : CoreRegs → Bool) (s : State) : Res := issueRegs x (fun r => writeP pd (f r) r) s

/-- CMPEQ (R534): pd ← rs1 equal rs2. -/
def execAmCmpeq (x : Issue) (pd : BitVec 3) (rs1 rs2 : BitVec 5) (s : State) : Res :=
  fetched "CMPEQ" [pd.toNat, rs1.toNat, rs2.toNat] x s <|
  issueP x pd (fun r => decide (gRead r rs1 = gRead r rs2)) s

/-- CMPNE (R534): pd ← rs1 not equal rs2. -/
def execAmCmpne (x : Issue) (pd : BitVec 3) (rs1 rs2 : BitVec 5) (s : State) : Res :=
  fetched "CMPNE" [pd.toNat, rs1.toNat, rs2.toNat] x s <|
  issueP x pd (fun r => decide (gRead r rs1 ≠ gRead r rs2)) s

/-- CMPLT (R534): pd ← rs1 signed less rs2. -/
def execAmCmplt (x : Issue) (pd : BitVec 3) (rs1 rs2 : BitVec 5) (s : State) : Res :=
  fetched "CMPLT" [pd.toNat, rs1.toNat, rs2.toNat] x s <|
  issueP x pd (fun r => (gRead r rs1).slt (gRead r rs2)) s

/-- CMPGE (R534): pd ← rs1 signed greater or equal rs2. -/
def execAmCmpge (x : Issue) (pd : BitVec 3) (rs1 rs2 : BitVec 5) (s : State) : Res :=
  fetched "CMPGE" [pd.toNat, rs1.toNat, rs2.toNat] x s <|
  issueP x pd (fun r => !(gRead r rs1).slt (gRead r rs2)) s

/-- CMPLTU (R534): pd ← rs1 unsigned less rs2. -/
def execAmCmpltu (x : Issue) (pd : BitVec 3) (rs1 rs2 : BitVec 5) (s : State) : Res :=
  fetched "CMPLTU" [pd.toNat, rs1.toNat, rs2.toNat] x s <|
  issueP x pd (fun r => (gRead r rs1).ult (gRead r rs2)) s

/-- CMPGEU (R534): pd ← rs1 unsigned greater or equal rs2. -/
def execAmCmpgeu (x : Issue) (pd : BitVec 3) (rs1 rs2 : BitVec 5) (s : State) : Res :=
  fetched "CMPGEU" [pd.toNat, rs1.toNat, rs2.toNat] x s <|
  issueP x pd (fun r => !(gRead r rs1).ult (gRead r rs2)) s

/-- CMPEQI (R534): pd ← rs1 equal imm20, sign-extended. -/
def execAmCmpeqi (x : Issue) (pd : BitVec 3) (rs1 : BitVec 5) (imm : BitVec 20) (s : State) : Res :=
  fetched "CMPEQI" [pd.toNat, rs1.toNat, imm.toNat] x s <|
  issueP x pd (fun r => decide (gRead r rs1 = sx imm)) s

/-- CMPNEI (R534): pd ← rs1 not equal imm20, sign-extended. -/
def execAmCmpnei (x : Issue) (pd : BitVec 3) (rs1 : BitVec 5) (imm : BitVec 20) (s : State) : Res :=
  fetched "CMPNEI" [pd.toNat, rs1.toNat, imm.toNat] x s <|
  issueP x pd (fun r => decide (gRead r rs1 ≠ sx imm)) s

/-- CMPLTI (R534): pd ← rs1 signed less imm20, sign-extended. -/
def execAmCmplti (x : Issue) (pd : BitVec 3) (rs1 : BitVec 5) (imm : BitVec 20) (s : State) : Res :=
  fetched "CMPLTI" [pd.toNat, rs1.toNat, imm.toNat] x s <|
  issueP x pd (fun r => (gRead r rs1).slt (sx imm)) s

/-- CMPGEI (R534): pd ← rs1 signed greater or equal imm20, sign-extended. -/
def execAmCmpgei (x : Issue) (pd : BitVec 3) (rs1 : BitVec 5) (imm : BitVec 20) (s : State) : Res :=
  fetched "CMPGEI" [pd.toNat, rs1.toNat, imm.toNat] x s <|
  issueP x pd (fun r => !(gRead r rs1).slt (sx imm)) s

/-- CMPLTUI (R534): pd ← rs1 unsigned less imm20, sign-extended. -/
def execAmCmpltui (x : Issue) (pd : BitVec 3) (rs1 : BitVec 5) (imm : BitVec 20) (s : State) : Res :=
  fetched "CMPLTUI" [pd.toNat, rs1.toNat, imm.toNat] x s <|
  issueP x pd (fun r => (gRead r rs1).ult (sx imm)) s

/-- CMPGEUI (R534): pd ← rs1 unsigned greater or equal imm20, sign-extended. -/
def execAmCmpgeui (x : Issue) (pd : BitVec 3) (rs1 : BitVec 5) (imm : BitVec 20) (s : State) : Res :=
  fetched "CMPGEUI" [pd.toNat, rs1.toNat, imm.toNat] x s <|
  issueP x pd (fun r => !(gRead r rs1).ult (sx imm)) s

/-- Predicate logic: an operand with a failed mark raises vector 9 (R534, R547). -/
def issuePL (x : Issue) (pd ps1 ps2 : BitVec 3) (f : Bool → Bool → Bool) (s : State) : Res :=
  issue x {} (fun s => let r := (coreAt s x.core).regs; needs (!pFailed r ps1 && !pFailed r ps2) (cause 9)) (fun _ => false)
    (modRegs x.core (fun r => writeP pd (f (pRead r ps1) (pRead r ps2)) r)) none s

/-- PAND (R534): pd ← ps1 & ps2. -/
def execAmPand (x : Issue) (pd ps1 ps2 : BitVec 3) (s : State) : Res :=
  fetched "PAND" [pd.toNat, ps1.toNat, ps2.toNat] x s <|
  issuePL x pd ps1 ps2 (fun a b => a && b) s

/-- POR (R534): pd ← ps1 | ps2. -/
def execAmPor (x : Issue) (pd ps1 ps2 : BitVec 3) (s : State) : Res :=
  fetched "POR" [pd.toNat, ps1.toNat, ps2.toNat] x s <|
  issuePL x pd ps1 ps2 (fun a b => a || b) s

/-- PXOR (R534): pd ← ps1 ^ ps2. -/
def execAmPxor (x : Issue) (pd ps1 ps2 : BitVec 3) (s : State) : Res :=
  fetched "PXOR" [pd.toNat, ps1.toNat, ps2.toNat] x s <|
  issuePL x pd ps1 ps2 (fun a b => a != b) s

/-- PANDN (R534): pd ← ps1 & ~ ps2. -/
def execAmPandn (x : Issue) (pd ps1 ps2 : BitVec 3) (s : State) : Res :=
  fetched "PANDN" [pd.toNat, ps1.toNat, ps2.toNat] x s <|
  issuePL x pd ps1 ps2 (fun a b => a && !b) s

/-- What MFS reads under a code (R524): none where the code is not listed. -/
def specialReg (s : State) (n : Nat) (code : Nat) : Option (BitVec 64) :=
  let c := coreAt s n
  let r := c.regs
  match code with
  | 0 => some (BitVec.ofNat 64 (statusWord r))
  | 1 => some (zx r.pc)
  | 2 => some (zx r.loops.lc0)
  | 3 => some (zx r.loops.lc1)
  | 4 => some (zx r.loops.ls0)
  | 5 => some (zx r.loops.ls1)
  | 6 => some (zx r.loops.le0)
  | 7 => some (zx r.loops.le1)
  | 8 => some (BitVec.ofNat 64 n)
  | 9 => some s.sched.swath
  | 10 => some (zx s.sched.clock)
  | 11 => some (match c.running with | some i => BitVec.ofNat 64 (i.from_ + i.budget - s.sched.clock.toNat) | none => 0)
  | _ => none

/-- MFS (R524): rd ← special register; a code not listed raises vector 6. -/
def execAmMfs (x : Issue) (rd code : BitVec 5) (s : State) : Res :=
  fetched "MFS" [rd.toNat, code.toNat] x s <|
  issue x {} (fun s => needs (specialReg s x.core code.toNat).isSome (cause 6)) (fun _ => false)
    (fun s => modRegs x.core (fun r => writeG rd ((specialReg s x.core code.toNat).getD 0) 1 r) s) none s

/-- MTS (R524): a loop register ← rs; any other code raises vector 6. DESIGN CHOICE: log entry 51. -/
def execAmMts (x : Issue) (code rs : BitVec 5) (s : State) : Res :=
  fetched "MTS" [code.toNat, rs.toNat] x s <|
  issue x {} (fun _ => needs (decide (2 ≤ code.toNat ∧ code.toNat ≤ 7)) (cause 6)) (fun _ => false)
    (modRegs x.core (fun r =>
      let v := gRead r rs
      let l := r.loops
      { r with loops := match code.toNat with
        | 2 => { l with lc0 := v.setWidth 32 }
        | 3 => { l with lc1 := v.setWidth 32 }
        | 4 => { l with ls0 := v.setWidth 18 }
        | 5 => { l with ls1 := v.setWidth 18 }
        | 6 => { l with le0 := v.setWidth 18 }
        | _ => { l with le1 := v.setWidth 18 } })) none s

/-! ### Capability-forming instructions -/

/-- An instruction that forms a capability: no shadow may hold it (R544), and its causes are its own. -/
def issueC (x : Issue) (cd : BitVec 3) (causes : CoreRegs → List CoreCause) (f : CoreRegs → Cap) (s : State) : Res :=
  issue x { shadowBad := true } (fun s => causes (coreAt s x.core).regs) (fun _ => false) (modRegs x.core (fun r => writeC cd (f r) 1 r)) none s

/-- CCOPY (R567): cd ← cs with its tag. -/
def execAmCcopy (x : Issue) (cd cs : BitVec 3) (s : State) : Res :=
  fetched "CCOPY" [cd.toNat, cs.toNat] x s <|
  issueC x cd (fun _ => []) (fun r => cRead r cs) s

/-- CVOID (R567): the tag of cd is cleared. -/
def execAmCvoid (x : Issue) (cd : BitVec 3) (s : State) : Res :=
  fetched "CVOID" [cd.toNat] x s <|
  issueC x cd (fun _ => []) (fun r => { cRead r cd with tag := false }) s

/-- CTRIM (R567): cd ← cs less the permissions named by 1 bits of g[rs][15:0]. -/
def execAmCtrim (x : Issue) (cd cs : BitVec 3) (rs : BitVec 5) (s : State) : Res :=
  fetched "CTRIM" [cd.toNat, cs.toNat, rs.toNat] x s <|
  issueC x cd (fun r => needs (cRead r cs).tag (cause 5) ++ needs (!capSealed (cRead r cs)) (cause 3))
    (fun r => { cRead r cs with bits := (cRead r cs).bits &&& ~~~ (((gRead r rs).setWidth 16).setWidth 128 <<< 80) }) s

/-- CREAD (R567): rd ← base, length, permissions ‖ type ‖ flags, or tag of cs, tagged or not. -/
def execAmCread (x : Issue) (rd : BitVec 5) (cs : BitVec 3) (field : BitVec 2) (s : State) : Res :=
  fetched "CREAD" [rd.toNat, cs.toNat, field.toNat] x s <|
  issue x { shadowBad := true } (fun _ => []) (fun _ => false)
    (modRegs x.core (fun r =>
      let c := cRead r cs
      let v := match field.toNat with
        | 0 => capBase c
        | 1 => capLen c
        | 2 => 65536 * capPerms c + 16 * capType c + c.bits.toNat / 2 ^ 108 % 16
        | _ => b2n c.tag
      writeG rd (BitVec.ofNat 64 v) 1 r)) none s

/-- CWRAP (R568): cd ← cs sealed with the type of grant ct. -/
def execAmCwrap (x : Issue) (cd cs ct : BitVec 3) (s : State) : Res :=
  fetched "CWRAP" [cd.toNat, cs.toNat, ct.toNat] x s <|
  issueC x cd (fun r =>
      let c := cRead r cs
      let t := cRead r ct
      needs (c.tag && t.tag) (cause 5) ++ needs (!capSealed c && !capGrant c && capGrant t && holds t pSEAL && decide (1 ≤ capType t)) (cause 3))
    (fun r => let c := cRead r cs; mkCap (capBase c) (capLen c) (capPerms c) (capType (cRead r ct)) (holds c pEX) false) s

/-- CUNWRAP (R568): cd ← cs unsealed under grant ct of its type. -/
def execAmCunwrap (x : Issue) (cd cs ct : BitVec 3) (s : State) : Res :=
  fetched "CUNWRAP" [cd.toNat, cs.toNat, ct.toNat] x s <|
  issueC x cd (fun r =>
      let c := cRead r cs
      let t := cRead r ct
      needs (c.tag && t.tag) (cause 5) ++ needs (capSealed c && capGrant t && holds t pUNSEAL && decide (capType t = capType c)) (cause 3))
    (fun r => unsealed (cRead r cs)) s

/-- CGRANT (R568): cd ← a grant of type g[rs] from root grant cs. -/
def execAmCgrant (x : Issue) (cd cs : BitVec 3) (rs : BitVec 5) (s : State) : Res :=
  fetched "CGRANT" [cd.toNat, cs.toNat, rs.toNat] x s <|
  issueC x cd (fun r =>
      let c := cRead r cs
      needs c.tag (cause 5) ++ needs (capGrant c && decide (capType c = 0 ∧ 1 ≤ (gRead r rs).toNat ∧ (gRead r rs).toNat ≤ 4095)) (cause 3))
    (fun r => mkCap 0 0 (capPerms (cRead r cs)) (gRead r rs).toNat false true) s

/-- CCLIP (R567): cd ← cs with base cs.base + g[ro] and length g[rl]. -/
def execAmCclip (x : Issue) (cd cs : BitVec 3) (ro rl : BitVec 5) (s : State) : Res :=
  fetched "CCLIP" [cd.toNat, cs.toNat, ro.toNat, rl.toNat] x s <|
  issueC x cd (fun r =>
      let c := cRead r cs
      needs c.tag (cause 5) ++ needs (!capSealed c && !capGrant c) (cause 3)
        ++ needs (decide ((gRead r ro).toNat + (gRead r rl).toNat ≤ capLen c)) { cause 4 with addr := capBase c + (gRead r ro).toNat })
    (fun r => let c := cRead r cs; { mkCap (capBase c + (gRead r ro).toNat) (gRead r rl).toNat (capPerms c) (capType c) (capEntry c) false with tag := c.tag }) s

/-- NOP (R534): no operation. -/
def execAmNop (x : Issue) (s : State) : Res :=
  fetched "NOP" [] x s <|
  issueRegs x id s

end Sys2Proof.Machine
end

