-- ==== Sys2Proof/Machine/AmiesoMemory.lean ====
section
/-!
DEFINITION. Sys2Proof/Machine/AmiesoMemory.lean: the loads and stores of Amieso (R534 to R536, R545 to R548, R564 to R566) and its control
instructions (R542 to R552, R556, R573 to R576).
-/
namespace Sys2Proof.Machine
open Sys2Proof

/-- The effective address of a memory operation (R535). -/
def effective (r : CoreRegs) (rb : BitVec 5) (off : Int) : Nat := (gRead r rb + BitVec.ofInt 64 off).toNat

/-- What an access of `size` bytes under a capability can raise (R521, R535, R566, R598): `right` is the gate right it needs. -/
def accessCauses (s : State) (x : Issue) (cap : BitVec 3) (perms size right a : Nat) : List CoreCause :=
  let c := cRead (coreAt s x.core).regs cap
  (if ¬ c.tag then [cause 5]
   else if capSealed c ∨ ¬ holds c perms then [cause 3]
   else needs (decide (capBase c ≤ a ∧ a + size ≤ capBase c + capLen c)) { cause 4 with info := size, addr := if a < capBase c then a else max a (capBase c + capLen c) })
    ++ needs (decide (a % size = 0)) { cause 7 with info := size, addr := a }
    ++ (if spaceOf a = .nothing then [{ cause 8 with info := size, addr := a }]
        else needs (corePermits s x.core right a) { cause 8 with info := size, addr := a, gate := right })

/-- A local access outside the data memory (R536). -/
def localCause (size a : Nat) : List CoreCause := needs (decide (spaceOf a = .data)) { cause 4 with info := size, addr := a }

/-- A local data row that cannot be delivered: the operand says so, or what its stored row has taken (R23, R24, R27). -/
def dataCause (s : State) (x : Issue) (a : Nat) : List CoreCause := needs (!x.badData && !rowLost s x.core a) (rowCause (coreRow x.core a))

/-- A local load (R26, R534 to R536): the value has latency 4, and a corrected row is written back. -/
def issueLoad (x : Issue) (size : Nat) (signed : Bool) (rd rb : BitVec 5) (cap : BitVec 3) (off : Int) (s : State) : Res :=
  let at_ := fun (s : State) => effective (coreAt s x.core).regs rb off
  issue x { shadowBad := true } (fun s => accessCauses s x cap pLD size 55 (at_ s) ++ localCause size (at_ s) ++ dataCause s x (at_ s)) (fun _ => false)
    (fun s =>
      let v := leNat (loadBytes s x.core (at_ s) size)
      let e := if signed ∧ 2 ^ (8 * size - 1) ≤ v then 2 ^ 64 - 2 ^ (8 * size) + v else v
      modRegs x.core (writeG rd (BitVec.ofNat 64 e) 4) (mendRow x.core (at_ s) s)) none s

/-- A store to data memory takes effect at issue; a store to any other address enters the store buffer, and issue stalls while it is full (R548). -/
def issueStore (x : Issue) (size : Nat) (rs rb : BitVec 5) (cap : BitVec 3) (off : Int) (s : State) : Res :=
  let at_ := fun (s : State) => effective (coreAt s x.core).regs rb off
  issue x { shadowBad := true } (fun s => accessCauses s x cap pST size 56 (at_ s))
    (fun s => decide (spaceOf (at_ s) ≠ .data ∧ 8 ≤ (coreAt s x.core).stores.length))
    (fun s =>
      let v := gRead (coreAt s x.core).regs rs
      if spaceOf (at_ s) = .data then memWrite x.core (at_ s) (leBytes size v.toNat) s
      else modCore x.core (fun c => { c with stores := c.stores ++ [{ addr := at_ s, size := size, value := v.setWidth 128 }] }) s) none s

/-- A split load clears its landing predicate and is outstanding until it lands; it stalls while its predicate is named by another, or 7 are
outstanding (R545, R546). -/
def issueSplit (x : Issue) (size perms dest : Nat) (rb : BitVec 5) (cap pl : BitVec 3) (off : Int) (s : State) : Res :=
  let at_ := fun (s : State) => effective (coreAt s x.core).regs rb off
  issue x { shadowBad := true } (fun s => needs (decide (pl ≠ 0)) (cause 6) ++ accessCauses s x cap perms size 55 (at_ s))
    (fun s => let c := coreAt s x.core; decide (7 ≤ c.splits.length) || c.splits.any (fun e => decide (e.pl = pl)))
    (fun s => modRegs x.core (putReg (40 + pl.toNat) 0 false) (modCore x.core (fun c => { c with splits := c.splits ++ [{ dest := dest, addr := at_ s, pl := pl, older := c.stores.length }] }) s)) none s

/-- What storing a capability can raise beside the access itself: a target outside data memory and control SRAM, and a tagged capability without
GLOBAL outside the core's own data memory (R564, R565). -/
def capStoreCauses (s : State) (x : Issue) (cs : BitVec 3) (a : Nat) : List CoreCause :=
  let v := cRead (coreAt s x.core).regs cs
  needs (decide (spaceOf a = .data ∨ spaceOf a = .sram)) (cause 5) ++ needs (!v.tag || holds v pGLOBAL || decide (spaceOf a = .data)) (cause 3)

/-- A capability store (R564, R565): to the data memory at issue, to control SRAM through the store buffer. -/
def issueCapStore (x : Issue) (cs : BitVec 3) (rb : BitVec 5) (cap : BitVec 3) (off : Int) (s : State) : Res :=
  let at_ := fun (s : State) => effective (coreAt s x.core).regs rb off
  issue x { shadowBad := true } (fun s => accessCauses s x cap (pST + pSTC) 16 56 (at_ s) ++ capStoreCauses s x cs (at_ s))
    (fun s => decide (spaceOf (at_ s) ≠ .data ∧ 8 ≤ (coreAt s x.core).stores.length))
    (fun s =>
      let v := cRead (coreAt s x.core).regs cs
      if spaceOf (at_ s) = .data then memPutCap x.core (at_ s) v s
      else modCore x.core (fun c => { c with stores := c.stores ++ [{ addr := at_ s, size := 16, value := v.bits, tag := v.tag }] }) s) none s

/-- LD.B (R534, R536): local zero-extended byte load. -/
def execAmLdB (x : Issue) (rd rb : BitVec 5) (cap : BitVec 3) (off : Int) (s : State) : Res :=
  fetched "LD_B" [rd.toNat, rb.toNat, cap.toNat, off] x s <|
  issueLoad x 1 false rd rb cap off s

/-- LD.H (R534, R536): local zero-extended halfword load. -/
def execAmLdH (x : Issue) (rd rb : BitVec 5) (cap : BitVec 3) (off : Int) (s : State) : Res :=
  fetched "LD_H" [rd.toNat, rb.toNat, cap.toNat, off] x s <|
  issueLoad x 2 false rd rb cap off s

/-- LD.W (R534, R536): local zero-extended word load. -/
def execAmLdW (x : Issue) (rd rb : BitVec 5) (cap : BitVec 3) (off : Int) (s : State) : Res :=
  fetched "LD_W" [rd.toNat, rb.toNat, cap.toNat, off] x s <|
  issueLoad x 4 false rd rb cap off s

/-- LD.D (R534, R536): local doubleword load. -/
def execAmLdD (x : Issue) (rd rb : BitVec 5) (cap : BitVec 3) (off : Int) (s : State) : Res :=
  fetched "LD_D" [rd.toNat, rb.toNat, cap.toNat, off] x s <|
  issueLoad x 8 false rd rb cap off s

/-- LDS.B (R534, R536): local sign-extended byte load. -/
def execAmLdsB (x : Issue) (rd rb : BitVec 5) (cap : BitVec 3) (off : Int) (s : State) : Res :=
  fetched "LDS_B" [rd.toNat, rb.toNat, cap.toNat, off] x s <|
  issueLoad x 1 true rd rb cap off s

/-- LDS.H (R534, R536): local sign-extended halfword load. -/
def execAmLdsH (x : Issue) (rd rb : BitVec 5) (cap : BitVec 3) (off : Int) (s : State) : Res :=
  fetched "LDS_H" [rd.toNat, rb.toNat, cap.toNat, off] x s <|
  issueLoad x 2 true rd rb cap off s

/-- LDS.W (R534, R536): local sign-extended word load. -/
def execAmLdsW (x : Issue) (rd rb : BitVec 5) (cap : BitVec 3) (off : Int) (s : State) : Res :=
  fetched "LDS_W" [rd.toNat, rb.toNat, cap.toNat, off] x s <|
  issueLoad x 4 true rd rb cap off s

/-- ST.B (R534, R548): byte store. -/
def execAmStB (x : Issue) (rs rb : BitVec 5) (cap : BitVec 3) (off : Int) (s : State) : Res :=
  fetched "ST_B" [rs.toNat, rb.toNat, cap.toNat, off] x s <|
  issueStore x 1 rs rb cap off s

/-- ST.H (R534, R548): halfword store. -/
def execAmStH (x : Issue) (rs rb : BitVec 5) (cap : BitVec 3) (off : Int) (s : State) : Res :=
  fetched "ST_H" [rs.toNat, rb.toNat, cap.toNat, off] x s <|
  issueStore x 2 rs rb cap off s

/-- ST.W (R534, R548): word store. -/
def execAmStW (x : Issue) (rs rb : BitVec 5) (cap : BitVec 3) (off : Int) (s : State) : Res :=
  fetched "ST_W" [rs.toNat, rb.toNat, cap.toNat, off] x s <|
  issueStore x 4 rs rb cap off s

/-- ST.D (R534, R548): doubleword store. -/
def execAmStD (x : Issue) (rs rb : BitVec 5) (cap : BitVec 3) (off : Int) (s : State) : Res :=
  fetched "ST_D" [rs.toNat, rb.toNat, cap.toNat, off] x s <|
  issueStore x 8 rs rb cap off s

/-- LDX.D (R545): split shared load of 8 bytes. -/
def execAmLdxD (x : Issue) (rd rb : BitVec 5) (cap pl : BitVec 3) (off : Int) (s : State) : Res :=
  fetched "LDX_D" [rd.toNat, rb.toNat, cap.toNat, pl.toNat, off] x s <|
  issueSplit x 8 pLD rd.toNat rb cap pl off s

/-- LDC (R534, R536): local capability load with its tag, latency 5. -/
def execAmLdc (x : Issue) (cd : BitVec 3) (rb : BitVec 5) (cap : BitVec 3) (off : Int) (s : State) : Res :=
  fetched "LDC" [cd.toNat, rb.toNat, cap.toNat, off] x s <|
  let at_ := fun (s : State) => effective (coreAt s x.core).regs rb off
  issue x { shadowBad := true } (fun s => accessCauses s x cap (pLD + pLDC) 16 55 (at_ s) ++ localCause 16 (at_ s) ++ dataCause s x (at_ s)) (fun _ => false)
    (fun s => let v := loadCap s x.core (at_ s); modRegs x.core (writeC cd v 5) (mendRow x.core (at_ s) s)) none s

/-- STC (R564): capability store with its tag. DEDUCED: log entry 71. -/
def execAmStc (x : Issue) (cs : BitVec 3) (rb : BitVec 5) (cap : BitVec 3) (off : Int) (s : State) : Res :=
  fetched "STC" [cs.toNat, rb.toNat, cap.toNat, off] x s <|
  issueCapStore x cs rb cap off s

/-- LDCX (R545): split shared capability load. DEDUCED: log entry 71. -/
def execAmLdcx (x : Issue) (cd : BitVec 3) (rb : BitVec 5) (cap pl : BitVec 3) (off : Int) (s : State) : Res :=
  fetched "LDCX" [cd.toNat, rb.toNat, cap.toNat, pl.toNat, off] x s <|
  issueSplit x 16 (pLD + pLDC) (32 + cd.toNat) rb cap pl off s

/-- STCX (R565): buffered capability store. -/
def execAmStcx (x : Issue) (cs : BitVec 3) (rb : BitVec 5) (cap : BitVec 3) (off : Int) (s : State) : Res :=
  fetched "STCX" [cs.toNat, rb.toNat, cap.toNat, off] x s <|
  issueCapStore x cs rb cap off s

/-! ### Branches and loops -/

/-- A taken branch: pending until its delay slot has executed, and an armed loop level whose body does not hold the target is disarmed (R542,
R552). -/
def takeBranch (target : BitVec 18) (r : CoreRegs) : CoreRegs :=
  let l := r.loops
  let out0 : Bool := r.st.loop0 && !decide (l.ls0.toNat ≤ target.toNat ∧ target.toNat ≤ l.le0.toNat)
  let out1 : Bool := r.st.loop1 && !decide (l.ls1.toNat ≤ target.toNat ∧ target.toNat ≤ l.le1.toNat)
  { r with
    loops := { l with lc0 := if out0 then 0 else l.lc0, lc1 := if out1 then 0 else l.lc1 }
    st := { r.st with brPend := true, brTarget := target, loop0 := r.st.loop0 && !out0, loop1 := r.st.loop1 && !out1 } }

/-- The address after the delay slot of an instruction (R534). -/
def afterSlot (s : State) (x : Issue) : Nat :=
  let pc := (coreAt s x.core).regs.pc.toNat
  (pc + x.len + lengthAt s x.core (pc + x.len)) % 2 ^ 18

/-- A branch, with the write of g31 where it is a call (R534, R542). -/
def issueBranch (x : Issue) (call : Bool) (target : CoreRegs → BitVec 18) (s : State) : Res :=
  issue x { branch := true, shadowBad := true } (fun _ => []) (fun _ => false)
    (fun s => let back := BitVec.ofNat 64 (afterSlot s x); modRegs x.core (fun r => takeBranch (target r) (if call then writeG 31 back 1 r else r)) s) none s

/-- B (R542): branch by a displacement in syllables. -/
def execAmB (x : Issue) (disp : Int) (s : State) : Res :=
  fetched "B" [disp] x s <|
  issueBranch x false (fun r => r.pc + BitVec.ofInt 18 disp) s

/-- CALL (R542): branch, and g31 ← address after the delay slot. -/
def execAmCall (x : Issue) (disp : Int) (s : State) : Res :=
  fetched "CALL" [disp] x s <|
  issueBranch x true (fun r => r.pc + BitVec.ofInt 18 disp) s

/-- BR (R542): branch to the address in rs. -/
def execAmBr (x : Issue) (rs : BitVec 5) (s : State) : Res :=
  fetched "BR" [rs.toNat] x s <|
  issueBranch x false (fun r => (gRead r rs).setWidth 18) s

/-- CALLR (R542): as BR, and g31 ← address after the delay slot. -/
def execAmCallr (x : Issue) (rs : BitVec 5) (s : State) : Res :=
  fetched "CALLR" [rs.toNat] x s <|
  issueBranch x true (fun r => (gRead r rs).setWidth 18) s

/-- What LOOP can raise (R551). -/
def loopCauses (s : State) (x : Issue) (level : Bool) (endOff : Nat) : List CoreCause :=
  let r := (coreAt s x.core).regs
  let le := r.pc.toNat + endOff
  needs (decide (endOff ≠ x.len) && !(if level then r.st.loop1 else r.st.loop0) && (level || !r.st.loop1) && (!level || !r.st.loop0 || decide (le < r.loops.le0.toNat))) (cause 6)

/-- Arm a loop level (R550). -/
def armLoop (level : Bool) (count : BitVec 64) (ls le : BitVec 18) (r : CoreRegs) : CoreRegs :=
  if level then { r with loops := { r.loops with lc1 := count.setWidth 32, ls1 := ls, le1 := le }, st := { r.st with loop1 := true } }
  else { r with loops := { r.loops with lc0 := count.setWidth 32, ls0 := ls, le0 := le }, st := { r.st with loop0 := true } }

/-- LOOP (R550): arm a hardware loop level, or continue after its end where the count is 0. -/
def execAmLoop (x : Issue) (level : Bool) (rc : BitVec 5) (endOff : Nat) (s : State) : Res :=
  fetched "LOOP" [b2n level, rc.toNat, endOff] x s <|
  issue x { control := true, shadowBad := true } (fun s => loopCauses s x level endOff) (fun _ => false) id
    (some (fun s =>
      let r := (coreAt s x.core).regs
      let le := r.pc + BitVec.ofNat 18 endOff
      let r1 := advance x.len false r
      let count := gRead r rc
      let past := le + BitVec.ofNat 18 (lengthAt s x.core le.toNat)
      modRegs x.core (fun _ => if count = 0 then { r1 with pc := past } else armLoop level count r1.pc le r1) s)) s

/-! ### Switches -/

/-- GATE's requirements (R574). -/
def gateCauses (s : State) (x : Issue) (cd cs ct : BitVec 3) : List CoreCause :=
  let r := (coreAt s x.core).regs
  let e := cRead r cs
  let d := cRead r ct
  needs (decide (3 ≤ cd.toNat)) (cause 6) ++ needs (e.tag && d.tag) (cause 5)
    ++ needs (capSealed e && capEntry e && capSealed d && !capEntry d && decide (capType d = capType e)) (cause 3) ++ needs (decide (r.links.length < 8)) (cause 8)

/-- The call of R574: frame saved, c0 and cd unsealed, the other registers of c3 to c7 untagged. -/
def enterGate (x : Issue) (cd cs ct : BitVec 3) (r : CoreRegs) : CoreRegs :=
  let r1 := advance x.len false r
  let frame : GateFrame := { pc := r1.pc, st := r.st, loops := r.loops, c0 := cRead r 0, caps := (List.range 5).map (fun i => cRead r (BitVec.ofNat 3 (i + 3))) }
  let c0 := unsealed (cRead r cs)
  let cleared := (List.range 5).foldl (fun m i => mset {} m (i + 3) { cRead r (BitVec.ofNat 3 (i + 3)) with tag := false }) r1.c
  { r1 with
    c := mset {} (mset {} cleared 0 c0) cd.toNat (unsealed (cRead r ct))
    pc := BitVec.ofNat 18 (capBase c0), st := { r1.st with loop0 := false, loop1 := false, brPend := false }
    shadow := 2, links := .gate frame :: r.links }

/-- GATE (R574): call through the sealed entry capability in cs. -/
def execAmGate (x : Issue) (cd cs ct : BitVec 3) (s : State) : Res :=
  fetched "GATE" [cd.toNat, cs.toNat, ct.toNat] x s <|
  issue x { control := true, shadowBad := true } (fun s => gateCauses s x cd cs ct) (fun s => !drained (coreAt s x.core)) id
    (some (modRegs x.core (enterGate x cd cs ct))) s

/-- A capability of the register file from a frame in memory. -/
def frameCap (s : State) (n f i : Nat) : Cap := memCap s n (f + 0x40 + 16 * i)

/-- A pending write from a frame (R581). -/
def framePend (s : State) (n f i : Nat) : PendWrite :=
  let a := f + 0xC0 + 32 * i
  let v := memCap s n a
  let b := memRead s n (a + 16) 2
  { dest := byteAt 0 b % 48, value := v.bits, tag := v.tag, left := byteAt 1 b }

/-- The registers that RETC restores from an exception frame (R575, R580). What the handler wrote last takes effect by R538 in the resumed stream (DEDUCED, log
entry 71). -/
def restoreFrame (s : State) (n f : Nat) (links : List CoreLink) (r0 : CoreRegs) : CoreRegs :=
  let b := memRead s n f 0x40
  let st := statusOf n (leAt 8 8 b)
  let r := tick r0
  { r with
    pc := BitVec.ofNat 18 (leAt 0 8 b), st := st, delay := st.brPend, shadow := 2, returned := true, links := links
    p := BitVec.ofNat 8 (byteAt 0x13 b / 2 * 2), pfail := BitVec.ofNat 8 (byteAt 0x14 b / 2 * 2)
    loops := { lc0 := BitVec.ofNat 32 (leAt 0x28 4 b), lc1 := BitVec.ofNat 32 (leAt 0x2C 4 b), ls0 := BitVec.ofNat 18 (leAt 0x30 4 b), ls1 := BitVec.ofNat 18 (leAt 0x34 4 b), le0 := BitVec.ofNat 18 (leAt 0x38 4 b), le1 := BitVec.ofNat 18 (leAt 0x3C 4 b) }
    c := (List.range 8).foldl (fun m i => mset {} m i (frameCap s n f i)) []
    pending := (List.range (min 5 (byteAt 0x12 b))).map (framePend s n f) ++ r.pending }

/-- RETC pops the top link and restores from it (R575). -/
def popLink (x : Issue) (s : State) : State :=
  let r := (coreAt s x.core).regs
  match r.links with
  | [] => s
  | .gate g :: rest =>
    modRegs x.core (fun r => { tick r with
      pc := g.pc, st := g.st, loops := g.loops, links := rest, delay := false, shadow := 2, returned := true
      c := (g.caps.zipIdx).foldl (fun m e => mset {} m (e.2 + 3) e.1) (mset {} (tick r).c 0 g.c0) }) s
  | .exception _ f _ :: rest => modRegs x.core (restoreFrame s x.core f rest) s

/-- RETC (R575): return from a gate or an exception. -/
def execAmRetc (x : Issue) (s : State) : Res :=
  fetched "RETC" [] x s <|
  issue x { control := true, shadowBad := true }
    (fun s => match (coreAt s x.core).regs.links with
      | [] => [cause 3]
      | .gate _ :: _ => []
      | .exception _ f _ :: _ => dataCause s x f)
    (fun s => !drained (coreAt s x.core)) id (some (popLink x)) s

/-! ### Waits, breaks and the end of a tenant step -/

/-- WAIT (R546): stall while a split load that names pl is outstanding. -/
def execAmWait (x : Issue) (pl : BitVec 3) (s : State) : Res :=
  fetched "WAIT" [pl.toNat] x s <|
  issue x {} (fun s => needs (!pFailed (coreAt s x.core).regs pl) (cause 9))
    (fun s => (coreAt s x.core).splits.any (fun e => decide (e.pl = pl))) id none s

/-- FENCE.S (R548, R584): drain the store buffer. -/
def execAmFenceS (x : Issue) (s : State) : Res :=
  fetched "FENCE_S" [] x s <|
  issue x { shadowBad := true } (fun _ => []) (fun s => !(coreAt s x.core).stores.isEmpty) id none s

/-- BREAK (R577): vector 12, with the address after BREAK as saved pc. -/
def execAmBreak (x : Issue) (tag : BitVec 8) (s : State) : Res :=
  fetched "BREAK" [tag.toNat] x s <|
  issue x {} (fun _ => []) (fun s => !drained (coreAt s x.core)) id
    (some (fun s =>
      let s1 := modRegs x.core (advance x.len false) s
      takeException x.core 12 (coreAt s1 x.core).regs.pc.toNat 0 0 tag.toNat s1)) s

/-- The header of a tenant opcode's loaded image (R553). -/
def tenantHeader (s : State) (op : Nat) : Bytes := match mfind op s.tenants with | some t => t.header | none => []

/-- Round up to 64 bytes. -/
def up64 (n : Nat) : Nat := ceilDiv n 64 * 64

/-- Addresses of src, aux, dst and scratch in a context (R555). -/
def srcAt (ctx : Nat) : Nat := 0x20000 + 0x10000 * ctx
def auxAt (ctx src : Nat) : Nat := srcAt ctx + up64 src
def dstAt (ctx src aux : Nat) : Nat := auxAt ctx src + up64 aux

/-- The dst capacity of a step (R555): the smaller of dst_max and the region or out_len. -/
def dstCapacity (s : State) (j : Job) (i : Nat) : Nat :=
  min (leAt 28 2 (tenantHeader s (stepAt j i).step.opcode)) (if isChained j then (stepAt j i).step.dstCap else j.hdr.outLen)

/-- The path's last offset has been reached, or the next step would pass max_swaths (R556). -/
def lastStep (s : State) (v : Invocation) (j : Job) : Bool :=
  let h := tenantHeader s v.opcode
  if j.hdr.cls = 0 then decide (byteAt 30 h ≤ v.steps) else decide (leAt 36 4 h ≤ v.steps)

/-- Take the running engine step of a step off the cores (R556). -/
def leaveCore (slot i : Nat) (s : State) : State :=
  { s with sched := { s.sched with engines := mapTotal {} (fun key e => if key / 256 = 5 then { e with running := e.running.filter (fun b => decide (b.slot ≠ slot ∨ b.step ≠ i)) } else e) s.sched.engines } }

/-- YIELD ends the step and parks the context; the invocation resumes in a later swath (R556). A core that runs no invocation goes on. -/
def yieldStep (x : Issue) (s : State) : State :=
  let n := x.core
  let s1 := modRegs n (advance x.len false) s
  match (coreAt s n).running with
  | none => s1
  | some v =>
    match jobAt s v.slot with
    | none => s1
    | some j =>
      if lastStep s v j then takeException n 14 (coreAt s1 n).regs.pc.toNat 0 0 v.opcode s1
      else
        let s2 := leaveCore v.slot v.step (modCore n (fun c => { c with mode := .idle, running := none, parked := some (v, c.regs) }) s1)
        if j.hdr.cls = 0 then modStep v.slot v.step (fun y => { y with stage := .waiting, lastSwath := now s, work := y.work.drop 1 }) s2
        else
          modEng 5 n (fun e => { e with parked := some (v.slot, v.step) })
            (modStep v.slot v.step (fun y => { y with stage := .parked, lastSwath := now s, work := [[{ kind := 5, slices := byteAt 35 (tenantHeader s v.opcode) }]] }) s2)

/-- DONE ends the invocation with its output, or with RES_TENANT_FAILED (R556). -/
def doneStep (x : Issue) (rs rl : BitVec 5) (s : State) : State :=
  let n := x.core
  let s1 := modRegs n (advance x.len false) s
  match (coreAt s n).running with
  | none => s1
  | some v =>
    match jobAt s v.slot with
    | none => s1
    | some j =>
      let r := (coreAt s n).regs
      let ctx := r.st.ctx.toNat
      let len := (gRead r rl).toNat
      let ok : Bool := decide (gRead r rs = 0 ∧ len ≤ dstCapacity s j v.step)
      let h := tenantHeader s v.opcode
      let out := if ok then memRead s n (dstAt ctx (leAt 24 2 h) (leAt 26 2 h)) len else []
      endStep v.slot v.step { result := if ok then 0 else 0x0C05, bytes := out }
        (wipeContext n ctx (leaveCore v.slot v.step (modCore n (fun c => { c with mode := .idle, running := none }) s1)))

/-- YIELD (R556): end the tenant step and park the context. DEDUCED: log entry 72. -/
def execAmYield (x : Issue) (s : State) : Res :=
  fetched "YIELD" [] x s <|
  issue x { control := true, shadowBad := true } (fun _ => []) (fun s => !drained (coreAt s x.core)) id (some (yieldStep x)) s

/-- DONE (R556): end the tenant invocation. DEDUCED: log entry 72. -/
def execAmDone (x : Issue) (rs rl : BitVec 5) (s : State) : Res :=
  fetched "DONE" [rs.toNat, rl.toNat] x s <|
  issue x { control := true, shadowBad := true } (fun _ => []) (fun s => !drained (coreAt s x.core)) id (some (doneStep x rs rl)) s

end Sys2Proof.Machine
end

