-- ==== Sys2Proof/Machine/Requests.lean ====
section
/-!
DEFINITION. Sys2Proof/Machine/Requests.lean: ceremony requests and their queue (R648 to R650, R657): opening, the window, cancelling, expiry; and the
fold ports' frames and sessions as other parts end them (R690, R691, R696).
-/
namespace Sys2Proof.Machine
open Sys2Proof

/-- Swaths in `n` seconds (R37). -/
def seconds (n : Nat) : Nat := 50000 * n

/-- BND_CER_ROOT as read (R658). -/
def cerRootWord (s : State) : Nat :=
  let c := s.ceremony
  c.domain.toNat * 2 ^ 24 + c.n.toNat * 2 ^ 16 + c.m.toNat * 2 ^ 8 + b2n c.generate

/-- The roster held for an action: m and the identity digests; none where R656 applies or no roster is held (R647, R720). -/
def rosterFor (s : State) (action : Nat) : Option (Nat × List Bytes) :=
  let dom := if s.keys.roster = [] then none else some (s.keys.rosterM, s.keys.roster)
  if action = 0x01 then
    match s.keeper.record.state with
    | .factory | .transit => some (s.keeper.rosterM, s.keeper.roster)
    | .tampered => none
    | _ => dom
  else dom

/-- The actions whose cards must be on the roster (R648). -/
def rosterAction (action : Nat) : Bool := decide (action ≠ 0x02 ∧ action ≠ 0x03)

/-- Request digest of a request (R649). -/
def requestDigest (s : State) (r : Request) : Bytes :=
  sha384 (ascii "NQR1" ++ leBytes 8 (deviceSerial s) ++ leBytes 6 r.number ++ leBytes 1 r.action ++ leBytes 8 r.subject ++ r.digest)

/-- Bytes 40 to 47 of a ceremony record of chapter 16 (R657). -/
def ceremonyDetail (r : Request) (v : Nat) : Nat := r.number % 2 ^ 48 + r.action % 256 * 2 ^ 48 + v % 256 * 2 ^ 56

/-- Append a record of a request (R657). -/
def requestRecord (code result : Nat) (custodian : Bytes) (r : Request) (v : Nat) (s : State) : State :=
  ceremony code result r.subject custodian (ceremonyDetail r v) s

/-- The active request (R650). -/
def activeRequest (s : State) : Option Request := s.ceremony.queue.head?

/-- The request at the head becomes ACTIVE: its window of 300 s starts (R650). -/
def activate (s : State) : State :=
  match s.ceremony.queue with
  | [] => s
  | r :: rest =>
    if r.windowEnd.isSome then s
    else { s with ceremony := { s.ceremony with queue := { r with windowEnd := some (now s + seconds 300) } :: rest } }

/-- Change the active request. -/
def modActive (f : Request → Request) (s : State) : State :=
  match s.ceremony.queue with
  | [] => s
  | r :: rest => { s with ceremony := { s.ceremony with queue := f r :: rest } }

/-- The active request leaves the queue, with its shares and rebuilt root (R650, R654). -/
def dropActive (s : State) : State := activate { s with ceremony := { s.ceremony with queue := s.ceremony.queue.drop 1 } }

/-- The number M of a request when it opens (R648); 0 where the first valid record gives it (R656). -/
def requestM (s : State) (action quorum : Nat) : Nat :=
  if action = 0x02 then 0
  else if action = 0x03 then s.ceremony.n.toNat
  else if action = 0x08 then quorum
  else match rosterFor s action with
    | some r => r.1
    | none => 0

/-- A request that opens EXPIRED whatever the queue holds (R650). -/
def opensExpired (s : State) (action m : Nat) : Bool :=
  if action = 0x02 then decide (s.keeper.record.state ≠ .commission)
  else if action = 0x03 then decide (s.keeper.record.state ≠ .commission ∨ s.ceremony.domain = 0 ∨ s.ceremony.n.toNat < s.ceremony.m.toNat)
  else match rosterFor s action with
    | some r => decide (r.2.length < m)
    | none => decide (action ≠ 0x01)

/-- A job opens a request (R648 to R650, R657). `bytes` are those that R461 digests for the job. -/
def openRequest (action subject quorum opcode : Nat) (bytes input : Bytes) (s : State) : State :=
  let m := requestM s action quorum
  let root := cerRootWord s
  let r : Request := { number := s.ceremony.next, action := action, subject := subject, m := m, opcode := opcode, input := input, root := root,
                       digest := sha384 bytes ++ (if action = 0x02 ∨ action = 0x03 then leBytes 4 root else []) }
  let s1 := requestRecord 0x0101 0x0001 [] r m { s with ceremony := { s.ceremony with next := s.ceremony.next + 1 } }
  if opensExpired s action m ∨ 16 ≤ s.ceremony.queue.length then requestRecord 0x0104 0x0001 [] r 0 s1
  else raise keyPage 0x0523 action (activate { s1 with ceremony := { s1.ceremony with queue := s1.ceremony.queue ++ [r] } })

/-- The window of the active request ends (R650). -/
def expireActive (s : State) : State :=
  match activeRequest s with
  | none => s
  | some r => raise keyPage 0x0525 r.action (dropActive (requestRecord 0x0104 0x0001 [] r r.counted.length s))

/-- BND_CER_CTL.cancel (R650). -/
def cancelActive (s : State) : State :=
  match activeRequest s with
  | none => s
  | some r => dropActive (requestRecord 0x0105 0x0A01 [] r r.counted.length s)

/-- A life-cycle transition cancels every request (R650, R722). -/
def cancelAll (s : State) : State :=
  let s1 := forAll s.ceremony.queue (fun r t => requestRecord 0x0105 0x0A01 [] r r.counted.length t) s
  { s1 with ceremony := { s1.ceremony with queue := [] } }

/-- A reset or a loss of power loses every request without a record, and numbers start from 1 again (R649, R650). -/
def loseRequests (s : State) : State :=
  { s with ceremony := { s.ceremony with queue := [], next := 1, contact := none, reader := none } }

/-- The lamps of the panel, by position P23 to P30 from the least significant bit: ACT0 to ACT3, ACCEPT, BUSY, READY, ALARM (R651, R655,
R780, R781). -/
def panelLamps (s : State) : Nat :=
  let act := match activeRequest s with | some r => r.action % 16 | none => 0
  let asked := fun (p : Option Presentation) => match p with | some x => decide (x.step = 5) | none => false
  act + 16 * b2n (asked s.ceremony.contact || asked s.ceremony.reader) + 32 * b2n s.audit.stalled + 64 * b2n s.start.ready
    + 128 * b2n (s.keeper.alarm && s.power.good)

/-! ### Fold ports -/

/-- Codes of the frame types (R691). -/
def fHello : Nat := 0x01
def fFinish : Nat := 0x02
def fClose : Nat := 0x60

/-- Send a frame on a port: the 16-byte header with the next sequence number for its destination, then the body (R690). -/
def sendFold (p type dst : Nat) (body : Bytes) (s : State) : State :=
  let x := portAt s p
  let n := mget 0 x.sent dst + 1
  emit (.fold p s.fold.etype.toNat (leBytes 1 1 ++ leBytes 1 type ++ leBytes 1 ((selfIndex s).getD 0xFF) ++ leBytes 1 dst ++ leBytes 1 7 ++ zeros 3 ++ leBytes 8 n ++ body))
    (modPort p (fun x => { x with sent := mset 0 x.sent dst n }) s)

/-- A port goes DOWN: its SAK and the session's working values are wiped; leaving UP raises its event (R696). -/
def portDown (p : Nat) (s : State) : State :=
  let x := portAt s p
  let s1 := modPort p (fun x => { enable := x.enable, fec := x.fec, discards := x.discards }) s
  if x.state = .up then raise (foldPage p) (0x0609 + 2 * p) x.peer.toNat s1 else s1

/-- Both ports go DOWN (R696), sending CLOSE where the cause asks for it (R708). -/
def portsDown (close : Bool) (s : State) : State :=
  repeatIdx 2 (fun p t => portDown p (if close ∧ (portAt t p).state ≠ .down then sendFold p fClose 0xFF [] t else t)) s

end Sys2Proof.Machine
end

