-- ==== Sys2Proof/Machine/Replicate.lean ====
section
/-!
DEFINITION. Sys2Proof/Machine/Replicate.lean: what goes to the other members of a fold: where a member is reached (R692), sealed key blocks
(R269), domain entries, and the changes with their cursors (R702, R704).
-/
namespace Sys2Proof.Machine
open Sys2Proof

/-! ### Where members are -/

/-- The port to a member: the one whose neighbour it is, else the one whose ROUTE mask holds it (R690, R692). -/
def portTo (s : State) (m : Nat) : Option Nat :=
  let up := [0, 1].filter (fun p => decide ((portAt s p).state = .up))
  (up.find? (fun p => decide ((portAt s p).peer.toNat = m))).or (up.find? (fun p => (portAt s p).reach.getLsbD m))

/-- Send a frame to a member, where it can be reached. -/
def sendMember (type m : Nat) (body : Bytes) (s : State) : State :=
  match portTo s m with
  | some p => sendFold p type m body s
  | none => s

/-- The other members. -/
def otherMembers (s : State) : List Nat := (keys s.fold.members).filter (fun m => decide (some m ≠ selfIndex s))

/-! ### Changes -/

/-- Send one change to a member (R702): a key block resealed under the fold replication key, or a domain entry. A key that is gone is not sent. -/
def sendChange (m : Nat) (c : Change) (s : State) : State :=
  if c.what < 2 ^ 24 then
    match keyAt s c.what, mfind m s.fold.members with
    | some k, some e =>
      match takeNonce keyPage s with
      | some (n, s1) => sendMember 0x30 m (leavingBlock (foldKey s 0x90) n e.serial k) s1
      | none => s
    | _, _ => s
  else
    let d := c.what - 2 ^ 24
    sendMember 0x32 m (leBytes 2 d ++ mget (zeros 64) s.vault.domains d) s

/-- A change of this module is kept for the cursors and sent to the members it goes to that can be reached (R702). A module with no entry of its own
in the member table replicates nothing. -/
def noteChange (what mask : Nat) (s : State) : State :=
  if (selfIndex s).isNone then s
  else
    let c : Change := { seq := s.fold.nextChange, what := what, mask := mask }
    let s1 := { s with fold := { s.fold with changes := s.fold.changes ++ [c], nextChange := s.fold.nextChange + 1 } }
    forAll ((otherMembers s).filter (fun m => bit m mask)) (fun m t => sendChange m c t) s1

/-- A key block has changed: a zone root goes to every member (R702). -/
def keyChanged (b : Nat) (s : State) : State :=
  match keyAt s b with
  | some k => if k.cls = 4 then noteChange b 0xFF s else s
  | none => s

/-- The first change that a member has not acknowledged (R702, R704). -/
def nextFor (s : State) (m : Nat) : Option Change :=
  s.fold.changes.find? (fun c => bit m c.mask && decide (mget 0 s.fold.cursors m < c.seq))

/-- An acknowledgement moves the member's cursor to its earliest open change of that key or domain (R702). -/
def ackChange (m what : Nat) (s : State) : State :=
  match s.fold.changes.find? (fun c => bit m c.mask && decide (c.what = what ∧ mget 0 s.fold.cursors m < c.seq)) with
  | some c => configRecord (cfgKey 7 m) (leBytes 8 c.seq) { s with fold := { s.fold with cursors := mset 0 s.fold.cursors m c.seq } }
  | none => s

end Sys2Proof.Machine
end

