-- ==== Sys2Proof/Machine/Hedge.lean ====
section
/-!
DEFINITION. Sys2Proof/Machine/Hedge.lean: the Hedge keeper (R706 to R717), life-cycle transitions and what each wipes (R718 to R726), the status of
R665 and the HDG_ registers (R733).
-/
namespace Sys2Proof.Machine
open Sys2Proof

/-- The page that carries the keeper's port (R733). -/
def keeperPage : Nat := mkPage 4 2 0 0

/-! ### The tamper log -/

/-- Append a tamper log entry; a cause of a sensor raises its event, which the controller records while it is powered (R716). -/
def logTamper (cause detail value : Nat) (erased : Bool) (s : State) : State :=
  let k := s.keeper
  let r : TamperRec := { seq := k.entries.toNat + 1, seconds := k.seconds.toNat, cause := cause, detail := detail, before := k.record.state,
                         powered := s.power.good, erased := erased, value := BitVec.ofNat 16 value }
  let s1 := { s with keeper := { k with log := (r :: k.log).take 96, entries := k.entries + 1 } }
  if s.power.good ∧ 1 ≤ cause ∧ cause ≤ 8 then raise keeperPage (0x0800 + cause - 1) detail s1 else s1

/-- Write a state record (R715). -/
def writeRecord (state : Life) (pending : Bool) (cause request : Nat) (s : State) : State :=
  let k := s.keeper
  let r : StateRec := { seq := k.record.seq + 1, state := state, prev := k.record.state, pending := pending, cause := cause, seconds := k.seconds.toNat, request := request }
  { s with keeper := { k with older := some k.record, record := r } }

/-- The TAMPER_RESPONSE record of a tamper log entry (R708, R710, R723). -/
def tamperRecord (r : TamperRec) (s : State) : State :=
  appendReserved (.ceremony 0x0202 0 (lifeCode s.keeper.record.state) 0 []
      (r.cause + r.detail % 256 * 2 ^ 8 + r.seconds % 2 ^ 32 * 2 ^ 16 + lifeCode r.before * 2 ^ 48 + 7 * 2 ^ 56))
    { s with keeper := { s.keeper with recorded := r.seq } }

/-- The tamper response destroys the Stile key the keeper holds (R666, R725). -/
def destroyStileKey (s : State) : State :=
  if s.stile.key = 1 then { s with stile := { s.stile with key := 3, material := [] } } else s

/-- Without the battery-backed key the keeper secret, the key area and the vault can no longer be unsealed, and the keeper roster is erased (R252, R725). -/
def loseSecrets (s : State) : State :=
  { s with
    keys := { s.keys with keys := mapVals (fun _ k => { k with intact := false }) s.keys.keys }
    vault := { s.vault with records := mapVals (fun _ r => { r with intact := false }) s.vault.records }
    keeper := { s.keeper with secretGen := none, rosterM := 0, roster := [] } }

/-- A tamper cause is met: the response of R707 and R708, or a log entry alone in TAMPERED, DECOMMISSIONED and during a response (R709, R713). -/
def tamper (cause detail value : Nat) (s : State) : State :=
  let st := s.keeper.record.state
  if st = .tampered ∨ st = .decommissioned then logTamper cause detail value false s
  else
    let s1 := logTamper cause detail value true { s with keeper := { s.keeper with key := false, alarm := true, tampered := true } }
    let s2 := writeRecord .tampered false cause 0 (destroyStileKey (emit (.pin "HEDGE_ALARM_N" false) s1))
    let s3 := { s2 with start := { s2.start with erasing := false } }
    if s.power.good then
      match s3.keeper.log with
      | r :: _ => tamperRecord r { s3 with keeper := { s3.keeper with respond := true } }
      | [] => s3
    else loseSecrets s3

/-- Count a fault of R349; at 8 the tamper response begins with cause 0x08 (R711). -/
def countFault (s : State) : State :=
  let n := satInc s.keeper.faults
  let s1 := { s with keeper := { s.keeper with faults := n } }
  if n = 8 ∧ s.keeper.faults ≠ 8 then tamper 0x08 0 0 s1 else s1

/-! ### Wipes -/

/-- The volatile wipe of every transition and of the tamper response (R725): operand buffers, channel and job state, banks, bays, caches, core
memories, DRAM, sessions, tenant programs, open requests and the module root key (DEDUCED, log entry 21). -/
def wipeVolatile (s : State) : State :=
  { s with
    jobs := []
    chans := []
    cores := mapVals (fun n c => if n = 16 then c else {}) s.cores
    tenants := []
    sram := []
    sramTags := []
    dram := []
    ceremony := { s.ceremony with queue := [], contact := none, reader := none }
    sched := { s.sched with engines := [], ledger := [] }
    keys := { s.keys with cache := [], bays := [], fills := [], sessions := [], rebuild := s.keys.pins, mrk := none }
    boot := s.boot
    rowFaults := keptFaults s
    vault := { s.vault with panPages := [], leafCache := [], landed := [], reads := [], named := [], issues := [], ready := false, replaying := false } }

/-- A V(0) (R464, R719): the audit key's point, or 97 zero bytes in the states that hold none. -/
def chainStart (s : State) : Bytes :=
  let point := match mfind 0 s.keys.keys with
    | some k => if hasIdentity s.keeper.record.state then pointP384 k.material else zeros 97
    | none => zeros 97
  sha384 (ascii "NAC1" ++ leBytes 8 (deviceSerial s) ++ fit 97 point ++ leBytes 4 s.sched.epoch.toNat)

/-- Every NAND block and the configuration area are erased (R725, R726): the key area, the vault areas, the audit reserve, and the records of pins,
roster, signers, members and cursors; erase counts and retired marks stay. -/
def erasePersistent (s0 : State) : State :=
  let s := eraseConfig s0
  let k := s.keys
  let v := s.vault
  { s with
    keys := { pinLimit := k.pinLimit, baySel := k.baySel, sesFail := k.sesFail, failLimit := k.failLimit, otp := k.otp, identityNames := k.identityNames }
    vault := { blocks := mapVals (fun _ b => { erases := b.erases + 1, retired := b.retired }) v.blocks, planes := v.planes, today := v.today,
               ldpcMax := v.ldpcMax, decodes := v.decodes, mirrorTimeout := v.mirrorTimeout, dramHours := v.dramHours, nandDays := v.nandDays,
               planeRefused := v.planeRefused, readOnly := v.readOnly, spareWarn := v.spareWarn }
    audit := { s.audit with fresh := [], undelivered := [], held := [], ckpts := [], latest := 0, cosignWait := [], resetJobs := [] }
    fold := { s.fold with members := [], changes := [], nextChange := 1, cursors := [], cosigned := [] } }

/-- The Stile key is removed (R725). -/
def removeStileKey (s : State) : State := { s with stile := { s.stile with key := 0, material := [], handle := 0 } }

/-- A key block of a root key of the module itself (R238, R252, R253): one block, whose material is the scalar alone where the key is on P-384, since the blocks that
follow are other keys' (DEDUCED, log entry 22). -/
def ownKey (block cls alg : Nat) (material : Bytes) (s : State) : State :=
  let k : KeyBlock := { handle := mkHandle 0 cls (mget 0 s.keys.gens block) block, blocks := keyBlocks material.length, cls := cls, alg := alg,
                        usage := 0x40, generated := true, created := s.sched.epoch.toNat, material := material }
  storeKey block k s

/-- A P-384 scalar from 56 free bytes, 1 to n − 1 (R365). -/
def drawScalar (s : State) : Bytes × State :=
  let r := drawBytes 56 s
  (beBytes 48 (1 + beNat r.1 % (orderP384 - 1)), r.2)

/-- Begin a chain (R464): its first record has seq 1 and its first checkpoint number 1 (R457, R467). -/
def beginChain (s : State) : State :=
  { s with audit := { s.audit with next := 1, chain := chainStart s, nextCkpt := 1, latest := 0, ckpts := [], cosignWait := [] } }

/-- The module identity certificate of an identity point, signed by the device key (R255); the certificate's form is another standard's (DESIGN CHOICE, log entry 6). -/
def signedIdentity (point : Bytes) (s : State) : Bytes × State :=
  let r := drawBytes 32 s
  let body := std "module identity certificate" (leNat (std "module identity certificate length" 2 [point]) % 929) [point, devicePoint]
  (body ++ std "ECDSA signature" 96 [leBytes 2 0x0102, deviceScalar, r.1, sha384 body], r.2)

/-- The entry work of COMMISSION (R252, R253, R255, R256, R389, R464, R711): a keeper secret, with a battery-backed key where it was erased (DEDUCED, log entry 22), the
module root key it gives, the nonce prefix and mark, the audit and identity keys, the identity record and certificate, the name, the chain, and the fault
count. -/
def enterCommission (s : State) : State :=
  let k := s.keeper
  let s1 := formRoot { s with draws := s.draws + 1, keeper := { k with key := true, keyGen := if k.key then k.keyGen else k.keyGen + 1, secretGen := some s.draws, faults := 0, tampered := false } }
  let p := draw s1
  let prefix_ : BitVec 32 := p.1.setWidth 32
  let s2 := { p.2 with cip := { p.2.cip with noncePrefix := prefix_, nonceNext := 0, nonceMark := 0, markPending := none, holders := [] }, flash := { p.2.flash with mark := 0 } }
  let a := drawScalar (raise (mkPage 2 0 0 0) 0x030F prefix_.toNat (configRecord (cfgKey 4 0) (beBytes 4 prefix_.toNat) (appendCounters s2)))
  let d := drawBytes 32 a.2
  let i := drawScalar d.2
  let s3 := ownKey 2 0x03 0x0102 i.1 (ownKey 1 0x02 0x0132 d.1 (ownKey 0 0x02 0x0102 a.1 i.2))
  let c := signedIdentity (pointP384 i.1) s3
  let s4 := takeName (configRecord (cfgKey 1 0) (pointP384 i.1) c.2)
  beginChain { s4 with keys := { s4.keys with idCert := c.1 }, vault := { s4.vault with replaying := true } }

/-- The persistent erasure of the present state ends: pending bit 0 clears and the state's entry work runs (R722, R725). -/
def finishErasure (s : State) : State :=
  let s1 := erasePersistent s
  let s2 := { s1 with start := { s1.start with erasing := false }, keeper := { s1.keeper with record := { s1.keeper.record with pending := false } } }
  if s.keeper.record.state = .commission then enterCommission s2 else takeName (formRoot s2)

/-! ### Transitions -/

/-- The wipes of R725 that a target takes. -/
inductive Wipe where
  | v | c | t | d
deriving DecidableEq, Repr

/-- The wipe of a transition that R721 lists; none where the target is not listed from the state. -/
def transitionWipe (from_ target : Life) : Option Wipe :=
  match from_, target with
  | .factory, .transit => some .t
  | .transit, .commission => some .c
  | .commission, .operate => some .v
  | .operate, .maintain => some .v
  | .maintain, .operate => some .v
  | .maintain, .commission => some .c
  | .commission, .decommissioned => some .d
  | .operate, .decommissioned => some .d
  | .maintain, .decommissioned => some .d
  | .tampered, .commission => some .c
  | .tampered, .decommissioned => some .d
  | _, _ => none

/-- What a wipe does to the keeper's own memory at once (R725). -/
def keeperWipe (w : Wipe) (rosterM : Nat) (roster : List Bytes) (s : State) : State :=
  let k := s.keeper
  match w with
  | .v => s
  | .c => removeStileKey { s with keeper := { k with secretGen := none, rosterM := 0, roster := [], faults := 0 } }
  | .t => removeStileKey { s with draws := s.draws + 1, keeper := { k with secretGen := some s.draws, rosterM := rosterM, roster := roster } }
  | .d => removeStileKey { s with keeper := { k with key := false, secretGen := none, rosterM := 0, roster := [] } }

/-- The audit staging buffer and its trailer are programmed into the reserve (R466). -/
def programStaging (s : State) : State :=
  { s with audit := { s.audit with fresh := [], undelivered := s.audit.undelivered ++ s.audit.fresh, trailer := true } }

/-- HEDGE_ALARM_N is low only in TAMPERED (R707). -/
def releaseAlarm (s : State) : State :=
  if s.keeper.alarm then emit (.pin "HEDGE_ALARM_N" true) { s with keeper := { s.keeper with alarm := false } } else s

/-- A life-cycle transition (R721, R722). `rosterM` and `roster` are those of a request for TRANSIT. -/
def transition (target : Life) (request rosterM : Nat) (roster : List Bytes) (s : State) : State :=
  let before := s.keeper.record.state
  match transitionWipe before target with
  | none => s
  | some w =>
    let s1 := cancelAll s
    let s2 := programStaging (appendOrLose (.ceremony 0x0201 0 (lifeCode target) 0 [] (request % 2 ^ 48 + lifeCode before * 2 ^ 48 + lifeCode target * 2 ^ 56)) s1).2
    let s3 := logTamper 0x10 (lifeCode target) 0 (decide (w = .d) && s2.keeper.key) s2
    let s4 := writeRecord target (decide (w ≠ .v)) 0x10 request (releaseAlarm s3)
    let s5 := keeperWipe w rosterM roster (wipeVolatile (portsDown false s4))
    let s6 := if w = .v then formRoot { s5 with vault := { s5.vault with replaying := true } }
      else { s5 with start := { s5.start with erasing := true } }
    raise keeperPage 0x0522 (lifeCode target) s6

/-- R708 step 5: from the first clock after the close, the channels and the audit ring are DISABLED, the fold ports are DOWN and wipe X runs. -/
def tamperClose (s : State) : State :=
  if ¬ s.keeper.respond then s
  else
    let s1 := takeName (loseSecrets (wipeVolatile (portsDown true s)))
    { s1 with
      audit := { s1.audit with enable := false, disablePending := false }
      keeper := { s1.keeper with respond := false } }

/-! ### The status of R665 and the registers -/

/-- The 32-byte status (R665). -/
def hedgeStatus (s : State) : Bytes :=
  let k := s.keeper
  leBytes 1 (lifeCode k.record.state)
    ++ leBytes 1 (k.mesh.toNat + 16 * b2n k.closed + 32 * b2n k.dark + 64 * b2n k.tempOk + 128 * b2n k.supplyOk)
    ++ leBytes 1 (b2n s.power.good + 2 * b2n (decide (s.stile.material = [])) + 4 * b2n k.tampered)
    ++ [0] ++ leBytes 4 k.entries.toNat ++ leBytes 4 k.seconds.toNat
    ++ leBytes 2 (if k.extSupply then k.extMv.toNat else k.cellMv.toNat) ++ zeros 2 ++ leBytes 4 s.stile.seq ++ leBytes 8 (deviceSerial s)
    ++ (List.range 2).map (fun i => mget 0 s.stile.mem (0x0804 + i)) ++ zeros 2

/-- A tamper log entry (R716). -/
def tamperBytes (crc : Bytes → Bytes) (r : TamperRec) : Bytes :=
  let b := leBytes 4 r.seq ++ leBytes 4 r.seconds ++ leBytes 1 r.cause ++ leBytes 1 r.detail ++ leBytes 1 (lifeCode r.before)
    ++ leBytes 1 (b2n r.powered + 2 * b2n r.erased) ++ leBytes 2 r.value.toNat
  b ++ crc b

/-- CRC_A of ISO/IEC 14443-3: initial value 0x6363, reflected polynomial 0x8408, low byte first. -/
def crcA (bs : Bytes) : Bytes :=
  let one := fun (c : BitVec 16) (_ : Nat) => if c.getLsbD 0 then (c >>> 1) ^^^ 0x8408 else c >>> 1
  leBytes 2 (bs.foldl (fun (c : BitVec 16) b => (List.range 8).foldl one (c ^^^ b.setWidth 16)) 0x6363).toNat

/-- A state record (R715): its fields, 12 zero bytes and the CRC. -/
def stateRecordBytes (r : StateRec) : Bytes :=
  let b := leBytes 4 r.seq ++ leBytes 1 (lifeCode r.state) ++ leBytes 1 (lifeCode r.prev) ++ leBytes 1 (b2n r.pending) ++ leBytes 1 r.cause ++ leBytes 4 r.seconds
    ++ leBytes 6 r.request ++ zeros 12
  b ++ crcA b

/-- The keeper's part of the ferroelectric memory, 2,048 bytes (R714 to R716). An area whose secret is absent holds zeros (DESIGN CHOICE, log entry 22). -/
def keeperMemory (s : State) : Bytes :=
  let k := s.keeper
  let place := fun (n : Nat) => if k.record.seq % 2 = n then stateRecordBytes k.record else (k.older.map stateRecordBytes).getD (zeros 32)
  let slot := fun (n : Nat) => match k.log.find? (fun r => decide (r.seq % 96 = n)) with | some r => tamperBytes crcA r | none => zeros 16
  place 0 ++ place 1
    ++ (match k.secretGen with | some g => fit 40 (wrappedSecret s g) ++ leBytes 8 g | none => zeros 48)
    ++ (if s.stile.material = [] then zeros 48 else fit 40 (kwWrap (batteryKey k.keyGen) s.stile.material) ++ zeros 8)
    ++ (if k.key then aesE (batteryKey k.keyGen) (zeros 16) else zeros 16)
    ++ leBytes 1 k.faults.toNat ++ zeros 3 ++ leBytes 4 k.entries.toNat ++ zeros 8
    ++ leBytes 1 k.rosterM ++ leBytes 1 k.roster.length ++ zeros 14 ++ fit 256 (k.roster.flatMap (fit 16))
    ++ zeros 48
    ++ (List.range 96).flatMap slot

/-- The CRC-32 of ISO/IEC 3309, low byte first. -/
def crc32 (bs : Bytes) : Bytes :=
  let one := fun (c : BitVec 32) (_ : Nat) => if c.getLsbD 0 then (c >>> 1) ^^^ 0xEDB88320 else c >>> 1
  leBytes 4 (~~~ bs.foldl (fun (c : BitVec 32) b => (List.range 8).foldl one (c ^^^ b.setWidth 32)) 0xFFFFFFFF).toNat

/-- The HDG_ words of the Control cluster 1 page (R733). -/
def hdgWord (s : State) (off : Nat) : Nat :=
  let k := s.keeper
  match off with
  | 0x140 =>
    lifeCode k.record.state * 2 ^ 24 + 2 ^ 12 * b2n k.record.pending + 2 ^ 11 * b2n (!k.key) + 2 ^ 10 * b2n k.alarm + 2 ^ 9 * b2n k.extSupply
      + 2 ^ 8 * b2n k.batteryLow + 2 ^ 7 * b2n k.supplyOk + 2 ^ 6 * b2n k.tempOk + 2 ^ 5 * b2n k.dark + 2 ^ 4 * b2n k.closed + k.mesh.toNat
  | 0x144 => k.extMv.toNat * 2 ^ 16 + k.cellMv.toNat
  | 0x148 => k.seconds.toNat
  | 0x14C => 8 * 2 ^ 8 + k.faults.toNat
  | 0x150 => k.entries.toNat
  | _ => 0

/-! ### Commands -/

/-- What a sensor's trip shows in HDG_STAT (R706, R733). -/
def sensorBits (cause detail : Nat) (s : State) : State :=
  let k := s.keeper
  let k1 := match cause with
    | 0x01 | 0x02 => { k with mesh := k.mesh &&& ~~~ BitVec.ofNat 4 (2 ^ (detail % 4)) }
    | 0x03 => { k with closed := false }
    | 0x04 => { k with dark := false }
    | 0x05 => { k with tempOk := false }
    | 0x06 => if detail = 0 then { k with supplyOk := false } else k
    | _ => k
  { s with keeper := k1 }

/-- HEDGE_SENSOR_TRIP (R706 to R709): causes 0x01 to 0x07; those of the controller die only while it is powered, and its rails only before the
power-fail sequence. -/
def execHedgeSensorTrip (cause detail : Nat) (value : BitVec 16) (s : State) : Res :=
  .next <|
    if cause = 0 ∨ 7 < cause then s
    else if (cause = 7 ∨ (cause = 6 ∧ detail = 1)) ∧ (¬ s.power.good ∨ (cause = 6 ∧ s.power.failSeq)) then s
    else tamper cause detail value.toNat (sensorBits cause detail s)

/-- KEEPER_SECONDS_TICK (R712, R717, R733): the seconds count, with the readings of the supplies. -/
def execKeeperSecondsTick (extMv cellMv : BitVec 16) (s : State) : Res :=
  let ext := decide (2500 ≤ extMv.toNat ∧ extMv.toNat ≤ 3600)
  .next { s with keeper := { s.keeper with
    seconds := s.keeper.seconds + 1, extMv := extMv, cellMv := cellMv, extSupply := ext,
    batteryLow := decide ((if ext then extMv.toNat else cellMv.toNat) < 2600) } }

/-- PERSISTENT_ERASURE_DONE (R722, R726). -/
def execPersistentErasureDone (s : State) : Res := .next (if s.start.erasing then finishErasure s else s)

end Sys2Proof.Machine
end

