-- ==== Sys2Proof/Machine/Sched.lean ====
section
/-!
DEFINITION. Sys2Proof/Machine/Sched.lean: the admit phase (R39, R41 to R44, R48 to R51, R61, R67, R68, R72, R218, R230), parking and overrun at
the close (R42, R45, R355), and the maintenance activities (R77 to R83).
-/
namespace Sys2Proof.Machine
open Sys2Proof

/-! ### Capacity -/

/-- Slices an engine offers classes 1 to 3 in a swath: 29 while throttled (R750), 64 at the boosted clock (R331, R378), else 58 (R40). -/
def bulkCapacity (s : State) (kind idx : Nat) : Nat :=
  if throttled s kind idx then 29
  else if (kind = 0 ∧ s.sig.boosted) ∨ (kind = 1 ∧ s.cip.boosted) then 64 else 58

/-- Fabric clocks of engine time that an engine's work phase holds for classes 1 to 3: 18.2 µs at 1.25 GHz, at the boosted clock or at the
throttled half (R39, R331, R377, R750). -/
def phaseClocks (s : State) (kind idx : Nat) : Nat :=
  if throttled s kind idx then 11375
  else if (kind = 0 ∧ s.sig.boosted) ∨ (kind = 1 ∧ s.cip.boosted) then 25025 else 22750

/-- Eighths of a clock of a kind's work left at the present offset of a step (R40). -/
def eighthsLeft (x : StepRun) (kind : Nat) : Nat :=
  (((x.work.headD []).filter (fun w => decide (w.kind = kind))).map (fun w => w.slices * 3125 - w.spare)).sum

/-- A park that the spec places in an operation itself: the first engine step of OP_PAY_PIN_TRANSLATE_TDES_DUKPT is 53 slices and its second 8 (R314). The answer
is the eighths of a clock that are left after it. -/
def fixedPark (x : StepRun) : Option Nat := if x.step.opcode = 0x0303 then some (8 * 3125) else none

/-- A step's work at its present offset ends within some clocks of its engine (R42). -/
def fitsClocks (x : StepRun) (kind clocks : Nat) : Bool :=
  decide (eighthsLeft x kind ≤ 8 * clocks) && (match fixedPark x with | some n => decide (kind ≠ 1 ∨ eighthsLeft x kind ≤ n) | none => true)

/-- The engine step ends its work in the swath it is bound in; a class 0 step always does (R42, R57). -/
def endsHere (x : StepRun) (kind : Nat) (b : Bound) : Bool := b.class0 || (!b.multi) || fitsClocks x kind b.clocks

/-- Eighths of a clock of work that run before an operation parks: a cipher engine stops at a block boundary (R42, R314, R355, R383). -/
def ranEighths (x : StepRun) (kind alg clocks : Nat) : Nat :=
  match (if kind = 1 then fixedPark x else none) with
  | some n => eighthsLeft x kind - n
  | none => if kind = 1 then (let b := blockClocks alg; 8 * (clocks / b * b)) else 8 * clocks

/-- A part of a step's work after it has run for some eighths of a clock of its engine. -/
def runDown (kind eighths : Nat) (w : Work) : Work :=
  if w.kind ≠ kind then w
  else
    let left := w.slices * 3125 - w.spare - eighths
    let n := ceilDiv left 3125
    { w with slices := n, spare := n * 3125 - left }

/-- Slices of an engine already bound in this swath. -/
def usedSlices (s : State) (kind idx : Nat) : Nat := ((engAt s kind idx).running.map (fun b => b.slices)).sum

/-- An engine step of a class 1 to 3 operation: what runs now of `slices` left (R41, R42, R314). -/
def stepSlices (s : State) (x : StepRun) (kind idx slices : Nat) : Nat :=
  min (match (if kind = 1 then fixedPark x else none) with | some n => if n < eighthsLeft x kind then slices - n / 3125 else slices | none => slices) (bulkCapacity s kind idx)

/-- A tenant invocation runs in one swath (R555). -/
def singleSwath (h : Bytes) (cls : Nat) : Bool := if cls = 0 then decide (byteAt 30 h ≤ 1) else decide (leAt 36 4 h ≤ 1)

/-- A job whose input must be whole before its first step has it: a chained job (R793); an opcode that is not chained needs its input too. -/
def inputReady (j : Job) : Bool := j.hdr.inlineIn || decide (j.hdr.inLen ≤ j.input.length)

/-- A step's engine step may run on into a later swath on an engine: its work is longer than the swath, its input may make it wait, or its tenant program asks for
more than one swath (R42, R43, R385, R555). -/
def mayPark (s : State) (j : Job) (i kind idx : Nat) : Bool :=
  let x := stepAt j i
  !fitsClocks x kind (phaseClocks s kind idx) || !inputReady j
    || (decide (kind = 5) && (match mfind x.step.opcode s.tenants with | some t => !singleSwath t.header j.hdr.cls | none => false))

/-- The engine can take a new engine step: its unit can take work, a bank is free, no operation that goes on into later swaths runs on it, it has the capacity left, and
one that may go on finds no other parked there (R43, R44, R55, R354, R760). -/
def engineFits (s : State) (j : Job) (i : Nat) (class0 : Bool) (kind slices idx : Nat) : Bool :=
  let e := engAt s kind idx
  canBind s (enginePage kind idx) && decide (busyBanks e ≠ 3) && e.running.all (fun b => !b.multi)
    && (if class0 then decide (usedSlices s kind idx + slices ≤ min 58 (bulkCapacity s kind idx))
        else decide (usedSlices s kind idx + stepSlices s (stepAt j i) kind idx slices ≤ bulkCapacity s kind idx)
          && (decide (e.parked = none) || !mayPark s j i kind idx))

/-- The cluster key bay an engine uses: Signing 0 to 3, Cipher 4 to 7 (R246, R281). -/
def bayOf (kind idx : Nat) : Option Nat :=
  match kind with
  | 0 => some (idx / 16)
  | 1 => some (4 + idx / 64)
  | _ => none

/-! ### Class 3 and maintenance -/

/-- Supply-pressure level (R737). -/
def level (s : State) : Nat := s.power.pressure.toNat

/-- The relation of two activities (R78): 0 free, 1 throttle, 2 exclude. -/
def maintPair (a b : Nat) : Nat :=
  let rows : List (List Nat) := [
    [0, 2, 2, 2, 2, 1, 2, 0, 0, 0],
    [2, 0, 1, 1, 2, 0, 1, 0, 0, 1],
    [2, 1, 0, 1, 2, 0, 1, 0, 0, 1],
    [2, 1, 1, 0, 0, 0, 0, 0, 0, 0],
    [2, 2, 2, 0, 0, 1, 1, 0, 0, 0],
    [1, 0, 0, 0, 1, 0, 1, 0, 0, 0],
    [2, 1, 1, 0, 1, 1, 0, 0, 0, 0],
    [0, 0, 0, 0, 0, 0, 0, 0, 0, 0],
    [0, 0, 0, 0, 0, 0, 0, 0, 0, 0],
    [0, 1, 1, 0, 0, 0, 0, 0, 0, 0]]
  (rows.getD a []).getD b 0

/-- SCH_MAINT_STAT of an activity. -/
def maintAt (s : State) (a : Nat) : MaintState := mget .idle s.sched.maint a

/-- The activity runs, at full or reduced share. -/
def maintRuns (s : State) (a : Nat) : Bool := decide (maintAt s a = .running ∨ maintAt s a = .throttled)

/-- The share of the maintenance half of class 3 capacity that a running activity has, in eighths: halved for each running T partner, down to
1/8 (R79). -/
def maintShare (s : State) (a : Nat) : Nat :=
  let n := ((List.range 10).filter (fun b => decide (a ≠ b) && maintRuns s b && decide (maintPair a b = 1))).length
  if n = 0 then 8 else if n = 1 then 4 else if n = 2 then 2 else 1

/-- Slices that one step of an activity is charged, by kind (R77, R795): the record passes and NAND commands it makes; an activity of no engine kind has none. DESIGN
CHOICE: log entry 81. -/
def maintCost (a : Nat) : List (Nat × Nat) :=
  match a with
  | 0 => [(3, 5), (4, 2)]
  | 1 => [(3, 2)]
  | 2 => [(3, 2), (4, 1)]
  | 4 => [(4, 2)]
  | 5 => [(4, 1)]
  | 6 => [(4, 1)]
  | _ => []

/-- A running activity is charged to a kind. -/
def maintWants (s : State) (kind : Nat) : Bool := (List.range 10).any (fun a => maintRuns s a && (maintCost a).any (fun c => decide (c.1 = kind)))

/-- Half engines of a kind able to work: 2 for each, 1 where throttled (R50). -/
def workingHalves (s : State) (kind : Nat) : Nat :=
  ((List.range (kindCount kind)).map (fun i => if working s (enginePage kind i) then (if throttled s kind i then 1 else 2) else 0)).sum

/-- E × 58 slices of a kind as it stands now (R50). -/
def class3Capacity (s : State) (kind : Nat) : Nat := workingHalves s kind * 29

/-- A class 3 job waits for, or runs on, a kind. -/
def bulkWaits (s : State) (kind : Nat) : Bool :=
  s.jobs.any (fun e => decide (e.2.runClass = 3 ∧ e.2.stage ≠ .finished ∧ e.2.stage ≠ .outputting)
    && e.2.steps.any (fun x => (x.work.headD []).any (fun w => decide (w.kind = kind ∧ w.slices ≠ 0))))

/-- The maintenance half of a kind's class 3 capacity in this swath: all of it while no class 3 job uses the kind (R51). -/
def maintHalf (s : State) (kind : Nat) : Nat := if bulkWaits s kind then class3Capacity s kind / 2 else class3Capacity s kind

/-- Slices that the activities have taken of a kind in this swath. -/
def maintTaken (s : State) (kind : Nat) : Nat := ((s.sched.maintUsed.filter (fun e => decide (e.1 % 8 = kind))).map Prod.snd).sum

/-- Slices of a kind's engines that nothing is bound to in this swath. -/
def freeSlices (s : State) (kind : Nat) : Nat :=
  ((List.range (kindCount kind)).map (fun i => if working s (enginePage kind i) then bulkCapacity s kind i - usedSlices s kind i else 0)).sum

/-- An activity may make its next step (R51, R72, R77, R79, R795): it runs, the level lets it, and its share and the engines have room. -/
def maintGo (s : State) (a : Nat) : Bool :=
  maintRuns s a && decide (level s < 3) && (maintCost a).all (fun c =>
    decide (level s = 0) && decide (mget 0 s.sched.maintUsed (a * 8 + c.1) + c.2 ≤ maintHalf s c.1 * maintShare s a / 8)
      && decide (maintTaken s c.1 + c.2 ≤ freeSlices s c.1))

/-- An activity's step takes its slices (R77, R79). -/
def maintTake (a : Nat) (s : State) : State :=
  forAll (maintCost a) (fun c t => { t with sched := { t.sched with
    maintUsed := mupd 0 t.sched.maintUsed (a * 8 + c.1) (fun n => n + c.2)
    maintServed := mupd 0 t.sched.maintServed c.1 (fun n => n + c.2) } }) s

/-- One step of an activity: with the activity stopped, out of share or paused by the level it does nothing (R79, R83, R795). -/
def maintStep (a : Nat) (s : State) (f : State → State) : State := if maintGo s a then f (maintTake a s) else s

/-- Class 3 slices of jobs bound so far in the window: in the swaths before, and in this one (R50). -/
def bulkBound (s : State) (kind : Nat) : Nat :=
  let mine := fun (b : Bound) => match jobAt s b.slot with | some j => decide (j.runClass = 3) | none => false
  mget 0 s.sched.bulkServed kind
    + ((s.sched.engines.filter (fun e => decide (e.1 / 256 = kind))).map (fun e => ((e.2.running.filter mine).map (fun b => b.slices)).sum)).sum

/-- E × 58 slices of a kind, spread over the window of 64 swaths (R50; DESIGN CHOICE, log entry 15). -/
def windowDue (s : State) (kind : Nat) : Nat := mget (2 * kindCount kind) s.sched.bulkEngines kind * 58 * (now s % 64 + 1) / 128

/-- The share of class 3 jobs due by now: what maintenance has not taken of its half (R50, R51). -/
def bulkQuota (s : State) (kind : Nat) : Nat :=
  let full := windowDue s kind
  if ¬ s.sched.bulkWaited then 0 else full - min (full / 2) (mget 0 s.sched.maintServed kind)

/-- A kind's class 3 slices bound in this window fall short of its quota. -/
def bulkShort (s : State) (kind : Nat) : Bool := decide (bulkBound s kind < bulkQuota s kind)

/-- Slices of a kind that a binding leaves to maintenance (R50, R51): a class 3 job what maintenance took in the swath before, up to its half, a job of classes 1 and 2
what maintenance is owed in the window. -/
def leftToMaint (s : State) (runClass kind : Nat) : Nat :=
  if ¬ maintWants s kind ∨ level s ≠ 0 then 0
  else if runClass = 3 then min (class3Capacity s kind / 2) (mget 0 s.sched.maintLast kind)
  else min (class3Capacity s kind / 2) (windowDue s kind / 2 - mget 0 s.sched.maintServed kind)

/-! ### Placement -/

/-- Slices bound in this swath to the engines of a tile. -/
def tileUsed (s : State) (tile : Nat) : Nat :=
  ((s.sched.engines.filter (fun e => decide (parent (enginePage (e.1 / 256) (e.1 % 256)) = tile))).map (fun e => (e.2.running.map (fun b => b.slices)).sum)).sum

/-- The profile by which a kind's work is placed (R53, R74). -/
def placement (s : State) (kind : Nat) : Nat := (unitAt s (mkPage (kindPlane kind) 0 0 0)).profile.toNat

/-- Placement of class 1 to 3 work (R74): spread over the tiles by least work, then over a tile's engines, or packed onto the lowest engines; THERMAL takes the
coolest tiles (DESIGN CHOICE, log entry 14). -/
def placeCost (s : State) (kind idx : Nat) : Nat × Nat :=
  match placement s kind with
  | 3 => (0, 0)
  | 4 => (match sensorOf kind idx with | some k => ((mget {} s.power.sensors k).temp.toInt + 512).toNat | none => 0, 0)
  | _ => (tileUsed s (parent (enginePage kind idx)), usedSlices s kind idx)

/-- The best engine of a kind for a part of a step, among those that fit; where work is spread, of those whose bay holds its keys if one does (R74, R247). -/
def chooseEngine (s : State) (j : Job) (i : Nat) (class0 : Bool) (kind slices : Nat) (blocks : List Nat) : Option Nat :=
  let room : Bool := class0 || decide (leftToMaint s j.runClass kind = 0) || decide (leftToMaint s j.runClass kind + min slices 58 + maintTaken s kind ≤ freeSlices s kind)
  let fits := if room then (List.range (kindCount kind)).filter (engineFits s j i class0 kind slices) else []
  let holds := if placement s kind = 3 ∨ placement s kind = 4 then []
    else fits.filter (fun e => match bayOf kind e with | some b => blocks.all (fun k => bayHolds s b k) | none => true)
  (if holds = [] then fits else holds).foldl (fun best e =>
    match best with
    | none => some e
    | some b =>
      let x := placeCost s kind e
      let y := placeCost s kind b
      if x.1 < y.1 ∨ (x.1 = y.1 ∧ x.2 < y.2) then some e else some b) none

/-! ### Binding -/

/-- Work reaches a unit: a gated one wakes with its domain (R740, R760). -/
def wakeUnit (p : Nat) (s : State) : State :=
  let s1 := modUnit p (fun u => { u with lastWork := now s }) s
  if (unitAt s p).state = .off ∧ (unitAt s p).enable then
    let d := domainOf p
    let s2 := if d < 64 ∧ (mget {} s.power.domains d).state = .gated then
        { s1 with power := { s1.power with domains := mupd {} s1.power.domains d (fun x => { x with state := .waking }) } }
      else s1
    setUnitState p .waking .write s2
  else s1

/-- The bank an engine step takes: that of the operation it resumes, else bank 1 where it may run on into later swaths and bank 0 where it does not, if that is free
(R43, R44, R555; DEDUCED, log entry 42). -/
def bankFor (e : Engine) (resumes multi : Bool) : BitVec 1 :=
  if resumes then e.parkedBank
  else
    let want : BitVec 1 := if multi then 1 else 0
    if bankBit want &&& busyBanks e = 0 then want else ~~~ want

/-- PK engine time of an operation that is left, in slices (R40, R327). -/
def pkTime (x : StepRun) : Nat := (x.work.map (fun ws => ((ws.filter (fun w => decide (w.kind = 0))).map (fun w => w.slices)).sum)).sum

/-- The most rows of its bank that an operation writes: 256 where its engine time is at most 58 slices, else rows 0 to 479 (R327). -/
def rowLimit (x : StepRun) : Nat := if pkTime x ≤ 58 then 256 else 480

/-- An operation writes rows of its PK bank, how many is a free value within its limit (R327; DESIGN CHOICE, log entry 5); one that resumes restores its state from rows 480
to 511 (R355). -/
def writeRows (idx : Nat) (bank : BitVec 1) (x : StepRun) (s : State) : State :=
  let n := (Config.freeValue s.draws).toNat % (rowLimit x + 1)
  modEng 0 idx (fun e => { e with written := mupd 0 e.written bank.toNat (max n), saved := e.saved &&& ~~~ bankBit bank }) { s with draws := s.draws + 1 }

/-- Bind part of a step's work to an engine for this swath (R61). DEDUCED: log entry 42. -/
def bindOn (slot i kind idx slices : Nat) (class0 : Bool) (s : State) : State :=
  let e := engAt s kind idx
  let resumes := decide (e.parked = some (slot, i))
  let multi := !class0 && (resumes || (match jobAt s slot with | some j => mayPark s j i kind idx | none => false))
  let b : Bound := { slot := slot, step := i, slices := slices, class0 := class0, bank := bankFor e resumes multi, clocks := phaseClocks s kind idx, multi := multi }
  let s1 := modEng kind idx (fun e => { e with running := e.running ++ [b], parked := if resumes then none else e.parked,
                                               load := e.load + slices, load0 := e.load0 + (if class0 then slices else 0) })
    (if kind = 0 then (match jobAt s slot with | some j => writeRows idx b.bank (stepAt j i) s | none => s) else s)
  let s2 := modStep slot i (fun x => { x with stage := .bound, lastSwath := now s }) s1
  wakeUnit (enginePage kind idx) (modJob slot (fun j => { j with stage := if j.stage = .admitted then .running else j.stage }) s2)

/-- The step of a job's first ledger entry on an engine, with its swath (R58). -/
def firstEntry (s : State) (slot kind idx : Nat) : Option (Nat × Nat) :=
  (s.sched.ledger.flatMap (fun l => (l.entries.filter (fun x => decide (x.slot = slot ∧ x.kind = kind ∧ x.engine = idx))).map (fun x => (l.swath, x.step)))).foldl
    (fun m e => match m with | none => some e | some b => if e.1 < b.1 then some e else some b) none

/-- A job's first engine step on an engine that can no longer serve it, and every later one, takes the margin swath (R67, R762). -/
def marginOn (kind idx slot : Nat) (s : State) : State :=
  match firstEntry s slot kind idx with
  | some (w, i) => useMargin w (fun k => decide (k = i)) slot s
  | none => s

/-- Whole segments of 4 KiB of a long random output that the queue can give now (R213, R506). -/
def segmentsNow (s : State) (j : Job) (i : Nat) : Nat :=
  if (stepAt j i).step.opcode = 0x0601 ∧ ¬ isChained j ∧ rngRunning s then min ((s.rng.level.toNat - 32768) / 4096) (drawSize s j i / 4096) else 0

/-- A step that waits for random output remembers its first attempt (R508); a long output draws what segments it can, and its wait then begins
again (DEDUCED, log entry 46). -/
def noteRngWait (slot i : Nat) (s : State) : State :=
  match jobAt s slot with
  | some j =>
    if inputReady j ∧ needsRandom s j i ∧ ¬ rngCan false (drawSize s j i) s then
      let n := segmentsNow s j i
      if n = 0 then (if (stepAt j i).rngWait = 0 then modStep slot i (fun x => { x with rngWait := now s + 1 }) s else s)
      else modStep slot i (fun x => { x with rngWait := now s + 1, drawn := x.drawn + 4096 * n }) (rngTake (4096 * n) s)
    else s
  | none => s

/-- A step has failed. -/
def someFailed (j : Job) : Bool := j.steps.any (fun y => decide (y.stage = .ended) && !success y.result)

/-- R318, R319, R320, R323: when a step of the reference authorisation may be bound. Steps 0 to 2 are bound together, steps 3 and 4 in the swath of
step 1's last engine step or later, step 5 in a swath after those of steps 0, 2, 3 and 4. After a failure none is. -/
def compositeDue (s : State) (j : Job) (i : Nat) : Bool :=
  let x := stepAt j i
  let endedBefore := fun k => let y := stepAt j k; decide (y.stage = .ended) && success y.result && decide (y.lastSwath < now s)
  decide (x.stage = .waiting) && !someFailed j &&
    (if i ≤ 2 then true
     else if i ≤ 4 then (let y := stepAt j 1; decide (y.stage = .ended) || (decide (y.stage ≠ .waiting) && decide (y.work.length ≤ 1) && decide (y.lastSwath ≠ now s ∨ y.checked)))
     else endedBefore 0 && endedBefore 2 && endedBefore 3 && endedBefore 4)

/-- The opcodes that change a key (R276, R277). -/
def isKeyChange (op : Nat) : Bool := decide (op = 0x0506 ∨ op = 0x0507 ∨ op = 0x0508)

/-- A change to a key waits for those of jobs admitted earlier (R277). -/
def changeWaits (s : State) (j : Job) (i : Nat) : Bool :=
  let b := fun (j : Job) (x : StepRun) => handleBlock (selected j x.step.selA)
  isKeyChange (stepAt j i).step.opcode && s.jobs.any (fun e => decide (e.2.entered < j.entered ∧ e.2.stage ≠ .finished)
    && e.2.steps.any (fun x => decide (x.stage ≠ .ended) && isKeyChange x.step.opcode && decide (b e.2 x = b j (stepAt j i))))

/-- R218: a step may be bound when every earlier step ran its last engine step in an earlier swath; with_prev looks past the step before. After a failure no step begins,
and one that has begun runs to its end (R222). -/
def stepDue (s : State) (j : Job) (i : Nat) : Bool :=
  if j.hdr.opcode = 0x0380 then compositeDue s j i else
  let n := if (stepAt j i).step.withPrev then i - 1 else i
  decide ((stepAt j i).stage = .waiting) && !changeWaits s j i
    && ((stepAt j i).checked
      || ((List.range n).all (fun k => let x := stepAt j k; decide (x.stage = .ended) && success x.result && decide (x.lastSwath < now s)) && !someFailed j))

/-- What the checks at a binding say. -/
inductive BindAnswer where
  | go | failed (result : Nat) | later
  /-- Keys that the step's engines need are not in their bays: block and bay (R247). -/
  | noKeys (missing : List (Nat × Nat))
  /-- The engine waits for input that has not arrived; the checks that need it are made when it has (R385, R793). -/
  | awaitInput
deriving DecidableEq, Repr

/-- Keys that an engine step needs and that a bay lacks (R247). -/
def missingKeys (s : State) (j : Job) (i : Nat) (bays : List Nat) : List (Nat × Nat) :=
  bays.flatMap (fun b => ((stepBlocks s j i).filter (fun k => !bayHolds s b k)).map (fun k => (k, b)))

/-- The bays hold the keys of a step, or not yet. -/
def withKeys (s : State) (j : Job) (i : Nat) (bays : List Nat) (a : BindAnswer) : BindAnswer := let m := missingKeys s j i bays; if m = [] then a else .noKeys m

/-- The checks made when a step is bound (R230), the wait for random output (R508) and for keys (R247), for engine work in some bays. -/
def bindAnswer (s : State) (slot i : Nat) (bays : List Nat) : BindAnswer :=
  match jobAt s slot with
  | none => .later
  | some j =>
    if (stepAt j i).checked then withKeys s j i bays .go
    else if ¬ inputReady j then
      if isChained j then .later
      else if (stepAt j i).boundAt.isSome then .awaitInput
      else match blindChecks s j i with
        | some r => .failed r
        | none => withKeys s j i bays .awaitInput
    else
      let t := boundStore (stepAt j i) s
      match (if pastForm t j then some 0x0202 else if (stepAt j i).boundAt.isSome then lateChecks t j i else bindingChecks t j i) with
      | some r => .failed r
      | none =>
        if vaultWaits s j i then .later
        else if needsRandom s j i ∧ ¬ rngCan (decide (j.first ≠ none)) (drawSize s j i) s then
          (if j.first ≠ none then .failed 0x0701 else if rngHalted s then .failed 0x0702 else .later)
        else if (stepAt j i).boundAt.isSome then .go else withKeys s j i bays .go

/-- Note that a step passed its checks: random output it consumes leaves the queue (R506), and its keys, as they stood at its binding, count as used (R230, R246,
R283). -/
def passChecks (slot i : Nat) (bays : List Nat) (s : State) : State :=
  match jobAt s slot with
  | none => s
  | some j =>
    if (stepAt j i).checked then s
    else
      let kv := keyValues (boundStore (stepAt j i) s) j i
      let s1 := modStep slot i (fun x => { x with checked := true, keyA := kv.1, keyB := kv.2, rngWait := 0, boundKeys := [] }) s
      let s2 := if needsRandom s j i then rngTake (drawSize s j i) s1 else s1
      forAll bays (fun b t => forAll (stepBlocks s j i) (touchBay b) t) s2

/-- A step is bound with its input still to come: the key blocks of its positions are kept as they stand, and the next segment of input is asked for (R230, R385,
R793). -/
def bindWaiting (slot i : Nat) (s : State) : State :=
  askInput slot (match jobAt s slot with
    | some j =>
      if (stepAt j i).boundAt.isSome then s
      else modStep slot i (fun x => { x with boundAt := some (now s), boundKeys := (heldKeys s j i).foldl (fun m h => mput (handleBlock h.handle) (keyAt s (handleBlock h.handle)) m) [] }) s
    | none => s)

/-- Ask the key store for keys that bays lack (R247). -/
def askKeys (missing : List (Nat × Nat)) (s : State) : State := forAll missing (fun m t => askFill m.2 m.1 t) s

/-- Bind the ledger entries of one step for the swath that begins (R61): an engine that can no longer serve, or keys not in its bay, move the step to the
margin swath (R67). A step that is not due keeps its later entries out of the ledger and is bound when it is (DEDUCED, log entry 49). -/
def bindLedgerStep (slot i : Nat) (es : List LedgerEntry) (s : State) : State :=
  let moves := fun (k : Nat) => decide (k = i)
  match jobAt s slot with
  | none => s
  | some j =>
    if j.stage = .finished ∨ j.withdraw.isSome ∨ (stepAt j i).stage = .ended ∨ someFailed j then s
    else if es.any (fun x => !canBind s (enginePage x.kind x.engine) || throttled s x.kind x.engine) then useMargin (now s) moves slot s
    else if ¬ stepDue s j i then dropEntries slot (now s) s
    else
      let bays := (es.filterMap (fun x => bayOf x.kind x.engine)).eraseDups
      let all := fun (t : State) => forAll es (fun x u => bindOn slot i x.kind x.engine x.slices true u) t
      match bindAnswer s slot i bays with
      | .failed r => failStep slot i r s
      | .noKeys m => useMargin (now s) moves slot (askKeys m s)
      | .later => dropEntries slot (now s) s
      | .go => all (passChecks slot i bays s)
      | .awaitInput => bindWaiting slot i (all s)

/-- Bind the ledger entries of a swath, step by step (R61). -/
def bindLedger (entries : List LedgerEntry) (s : State) : State :=
  forAll ((entries.map (fun x => (x.slot, x.step))).eraseDups) (fun k t => bindLedgerStep k.1 k.2 (entries.filter (fun x => decide (x.slot = k.1 ∧ x.step = k.2))) t) s

/-- An engine for every part of a step's present offset, or none where some part finds no engine (R61, R247): kind, engine, slices. -/
def enginePlan (s : State) (j : Job) (i : Nat) (class0 : Bool) : List Work → Option (List (Nat × Nat × Nat))
  | [] => some []
  | w :: ws =>
    if w.slices = 0 then enginePlan s j i class0 ws
    else
      match chooseEngine s j i class0 w.kind w.slices (stepBlocks s j i), enginePlan s j i class0 ws with
      | some e, some l => some ((w.kind, e, if class0 then w.slices else stepSlices s (stepAt j i) w.kind e w.slices) :: l)
      | _, _ => none

/-- The first engine step of a job is bound (R234). -/
def nowRuns (slot : Nat) (s : State) : State := modJob slot (fun j => { j with stage := if j.stage = .admitted then .running else j.stage }) s

/-- Slices of a kind bound in this swath to classes 1 to 3 whose jobs run as class 1, and the capacity of the kind not held by class 0 (R72). -/
def class1Slices (s : State) (kind : Nat) : Nat :=
  let mine := fun (b : Bound) => !b.class0 && (match jobAt s b.slot with | some j => decide (j.runClass = 1) | none => false)
  ((s.sched.engines.filter (fun e => decide (e.1 / 256 = kind))).map (fun e => ((e.2.running.filter mine).map (fun b => b.slices)).sum)).sum
def openCapacity (s : State) (kind : Nat) : Nat :=
  ((List.range (kindCount kind)).map (fun i => if working s (enginePage kind i) then
    bulkCapacity s kind i - (((engAt s kind i).running.filter (fun b => b.class0)).map (fun b => b.slices)).sum else 0)).sum

/-- At level 2 and above class 1 takes at most half of the capacity that class 0 does not hold, class 2 none, and class 3 none above level 0 (R72): some slices of a
kind may be bound for a class. -/
def levelLets (s : State) (runClass kind slices : Nat) : Bool :=
  match runClass with
  | 0 => true
  | 1 => decide (level s < 2) || decide (2 * (class1Slices s kind + slices) ≤ openCapacity s kind)
  | 2 => decide (level s < 2)
  | _ => decide (level s = 0)

/-- Bind one step of a job on any engine with room (R61, R67, R218, R230). A class 0 job in its margin swath whose keys are not there meets its second event (R68). -/
def bindStep (slot i : Nat) (class0 : Bool) (s : State) : State :=
  match jobAt s slot with
  | none => s
  | some j =>
    let x := stepAt j i
    let bound := fun (t : State) => modStep slot i (fun x => { x with stage := .bound, lastSwath := now s }) (nowRuns slot t)
    if ¬ stepDue s j i ∨ j.stage = .finished ∨ j.withdraw.isSome then s
    else match x.work with
      | [] =>
        match bindAnswer s slot i [] with
        | .failed r => failStep slot i r s
        | .go => bound (passChecks slot i [] s)
        | .awaitInput => bindWaiting slot i (bound s)
        | _ => noteRngWait slot i s
      | [] :: rest =>
        let next := fun (t : State) => modStep slot i (fun x => { x with work := rest, lastSwath := now s }) t
        match bindAnswer s slot i [] with
        | .failed r => failStep slot i r s
        | .go => next (passChecks slot i [] s)
        | .awaitInput => bindWaiting slot i (next s)
        | _ => s
      | ws :: _ =>
        match enginePlan s j i class0 ws with
        | none => if (unitsGone s j i) then abortJob slot 0x0205 s else s
        | some plan =>
          let bays := (plan.filterMap (fun p => bayOf p.1 p.2.1)).eraseDups
          let all := fun (t : State) => forAll plan (fun p u => bindOn slot i p.1 p.2.1 p.2.2 class0 u) t
          match bindAnswer s slot i bays with
          | .failed r => failStep slot i r s
          | .later => noteRngWait slot i s
          | .noKeys m => if class0 ∧ j.margin then abortJob slot 0x0504 s else askKeys m s
          | .go => if class0 ∨ plan.all (fun p => levelLets s j.runClass p.1 p.2.2) then all (passChecks slot i bays s) else s
          | .awaitInput => if class0 ∨ plan.all (fun p => levelLets s j.runClass p.1 p.2.2) then bindWaiting slot i (all s) else s

/-- Bind the steps of a job that can be bound. -/
def bindJob (class0 : Bool) (slot : Nat) (s : State) : State :=
  match jobAt s slot with
  | none => s
  | some j => if j.stage = .finished ∨ j.stage = .outputting then s else repeatIdx j.steps.length (fun i s => bindStep slot i class0 s) s

/-! ### Input -/

/-- An operation of classes 1 to 3 that is not chained has the time of its operands once its input is whole, less what a cipher engine has run of it (R40, R213,
R377, R385). -/
def costInput (s : State) (j : Job) : Job :=
  if isChained j ∨ j.hdr.cls = 0 ∨ j.input.length < j.hdr.inLen then j
  else { j with steps := j.steps.zipIdx.map (fun e => if e.1.stage ≠ .ended ∧ ¬ e.1.checked then
      { e.1 with work := (match initialWork s j e.2 with | ws :: rest => ws.map (runDown 1 (8 * e.1.ran)) :: rest | [] => []) } else e.1) }

/-- A step that was bound while it waited for its input has it: the checks that needed it are made, and it runs, fails, or leaves its engine to be bound
again; one whose input first shows that it needs another engine is bound to it in the next swath (R230, R385, R793; DEDUCED, log entry 49). -/
def inputArrived (slot i : Nat) (s : State) : State :=
  match jobAt s slot with
  | none => s
  | some j =>
    let x := stepAt j i
    let on := fun (k : Nat) => s.sched.engines.any (fun e => decide (e.1 / 256 = k) && (e.2.running.any (fun b => decide (b.slot = slot ∧ b.step = i)) || decide (e.2.parked = some (slot, i))))
    let away := fun (t : State) => modStep slot i (fun x => { x with stage := .waiting }) (dropStep slot (some i) t)
    if ¬ (x.stage = .bound ∨ x.stage = .parked) ∨ x.checked ∨ ¬ inputReady j ∨ j.stage = .finished ∨ j.withdraw.isSome then s
    else match bindAnswer s slot i [] with
      | .failed r => failStep slot i r s
      | .go => if (x.work.headD []).all (fun w => decide (w.slices = 0) || on w.kind) then passChecks slot i [] s else away s
      | _ => noteRngWait slot i (away s)

/-- The mover that serves the jobs' input and output: that of Host cluster 1 (R15, R597; DESIGN CHOICE, log entry 82). -/
def jobMover : Nat := 18

/-- The module address of a job's operand buffer: 16 KiB for each job slot, from the start of DRAM (R213, R521, R729; DESIGN CHOICE, log entry 82). -/
def operandAddr (slot : Nat) : Nat := 0x800000000 + 0x4000 * slot

/-- The bytes of a read at in_ptr go through the mover's gate into the operand buffer, and those written reach the job and, for a chained job, its input area; the
next segment is asked for. A refusal stops the DMA job (R208, R213, R593, R594, R793). -/
def takeInput (slot : Nat) (data : Bytes) (s : State) : State :=
  match jobAt s slot with
  | none => s
  | some j =>
    let new := data.take (j.asked - j.input.length)
    let d := dmaWrite jobMover (operandAddr slot + j.input.length % 0x4000) new.length s
    let got := new.take d.1.written
    let s1 := modJob slot (fun j => costInput s { j with
      inputRead := j.inputRead || !new.isEmpty
      moved := j.moved + d.1.written
      refusedAt := d.1.refused
      buf := if isChained j then bufWrite j.buf j.input.length false got else j.buf
      input := j.input ++ got }) d.2
    if d.1.refused.isSome then s1 else askInput slot s1

/-- INPUT_READ_DONE (R127, R208, R235, R793): bytes that were asked for at in_ptr reach the job, or the read was poisoned and the job ends with
RES_INPUT_POISONED. A chained job's input goes to its input area (R213). -/
def execInputReadDone (slot : Nat) (data : Bytes) (status : ReadStatus) (s : State) : Res :=
  .next <|
    match jobAt s slot with
    | none => s
    | some j =>
      if j.stage = .finished ∨ j.stage = .outputting ∨ j.withdraw.isSome ∨ j.hdr.inlineIn ∨ j.asked ≤ j.input.length ∨ j.refusedAt.isSome then s
      else if status = .poisoned then
        abortJob slot 0x0406 (raise phyPage 0x0111 j.hdr.inPtr { s with link := { s.link with poisoned := satInc s.link.poisoned } })
      else repeatIdx j.steps.length (fun i t => inputArrived slot i t) (takeInput slot data s)

/-! ### The order of classes -/

/-- Insert by order of admission (R48); an aged job carries the order of its ageing (R49). -/
def insertByOrder (x : Nat × Job) : List (Nat × Job) → List (Nat × Job)
  | [] => [x]
  | y :: ys => if x.2.order < y.2.order then x :: y :: ys else y :: insertByOrder x ys

/-- Slots of the unfinished jobs of a running class, in order (R48, R49). -/
def queueOf (s : State) (cls : Nat) : List Nat :=
  ((s.jobs.filter (fun e => decide (e.2.runClass = cls ∧ e.2.first = none ∧ e.2.stage ≠ .finished ∧ e.2.stage ≠ .outputting))).foldl (fun acc x => insertByOrder x acc) []).map Prod.fst

/-- A class 3 job whose next engine work is of a kind that falls short (R50). -/
def bulkOwed (slot : Nat) (s : State) : Bool :=
  match jobAt s slot with
  | some j => j.steps.any (fun x => (x.work.headD []).any (fun w => decide (w.slices ≠ 0) && bulkShort s w.kind))
  | none => false

/-- A parked operation resumes on its engine where the engine has no other work this swath and the level lets it (R44, R72). -/
def resumeParked (key : Nat) (s : State) : State :=
  let kind := key / 256
  let idx := key % 256
  let e := engAt s kind idx
  match e.parked with
  | none => s
  | some (slot, i) =>
    let u := unitAt s (enginePage kind idx)
    if e.running ≠ [] ∨ ¬ (u.state = .on ∨ u.state = .off ∨ u.state = .waking ∨ (u.state = .quiescing ∧ ¬ u.withdrawing)) then s
    else
      match jobAt s slot with
      | none => s
      | some j =>
        match (stepAt j i).work.headD [] |>.find? (fun w => decide (w.kind = kind ∧ w.slices ≠ 0)) with
        | some w =>
          let n := stepSlices s (stepAt j i) kind idx w.slices
          if levelLets s j.runClass kind n then bindOn slot i kind idx n false s else s
        | none => s

/-- The engines on which a job is parked. -/
def parkedKeys (s : State) (slot : Nat) : List Nat :=
  (s.sched.engines.filter (fun e => match e.2.parked with | some (a, _) => decide (a = slot) | none => false)).map Prod.fst

/-- Bind the classes in order under the supply-pressure level: class 3's guaranteed share, its parked operations first, then class 1, class 2 and class 3 (R46, R50,
R61, R72). -/
def bindClasses (s : State) : State :=
  let owed := fun (k : Nat) (t : State) =>
    let t1 := if bulkOwed k t then forAll (parkedKeys t k) resumeParked t else t
    if bulkOwed k t1 then bindJob false k t1 else t1
  let s1 := if level s = 0 then forAll (queueOf s 3) owed s else s
  let s2 := forAll (queueOf s1 1) (bindJob false) s1
  let s3 := if level s2 < 2 then forAll (queueOf s2 2) (bindJob false) s2 else s2
  if level s3 = 0 then forAll (queueOf s3 3) (bindJob false) s3 else s3

/-! ### The swath -/

/-- The four swaths after the current one are in the ledger (R54, R76). -/
def fillLedger (s : State) : State :=
  let have_ := s.sched.ledger.filter (fun l => decide (now s < l.swath))
  let missing := ((List.range 4).map (fun i => now s + 1 + i)).filter (fun w => decide (¬ have_.any (fun l => decide (l.swath = w))))
  { s with sched := { s.sched with ledger := have_ ++ missing.map (fun w => enterLedger w s) } }

/-- Class 3 window bookkeeping: a new window at each multiple of 64 swaths, whether class 3 work has waited since it began, the smallest
engine count in it (R50), and what maintenance took in the swath before (R51). -/
def bulkWindow (s : State) : State :=
  let fresh := decide (now s % 64 = 0)
  let waits := s.jobs.any (fun e => decide (e.2.runClass = 3 ∧ e.2.stage ≠ .finished ∧ e.2.stage ≠ .outputting))
  let old := if fresh then [] else s.sched.bulkEngines
  let es := (List.range 6).foldl (fun m k => mset (2 * kindCount k) m k (min (mget (2 * kindCount k) old k) (workingHalves s k))) ([] : AMap Nat)
  { s with sched := { s.sched with bulkServed := if fresh then [] else s.sched.bulkServed
                                   bulkWaited := waits && (fresh || s.sched.bulkWaited)
                                   bulkEngines := if waits ∨ (List.range 6).any (maintWants s) then es else old
                                   maintLast := (List.range 6).foldl (fun m k => mset 0 m k (maintTaken s k)) []
                                   maintServed := if fresh then [] else s.sched.maintServed
                                   maintUsed := [] } }

/-- What class 3 was bound in this swath counts for its window (R50). -/
def countBulk (s : State) : State :=
  { s with sched := { s.sched with bulkServed := (List.range 6).foldl (fun m k => mset 0 m k (bulkBound s k)) s.sched.bulkServed } }

/-- The swath counter, the phase and the ledger move on; the admit phase ends at clock 1,250 (R37, R39, R54, R86). -/
def nextSwath (s : State) : State :=
  fillLedger { s with sched := { s.sched with swath := s.sched.swath + 1, phase := .work, clock := 1250 } }

/-- In its first work swath a class 0 job has the keys that its reserved engines' bays lack fetched (R56, R247, R249). -/
def fetchPath (s : State) : State :=
  forAll (s.jobs.filter (fun e => decide (e.2.first = some (now s)))) (fun e t =>
    forAll ((t.sched.ledger.flatMap (fun l => l.entries)).filter (fun x => decide (x.slot = e.1))) (fun x u =>
      askKeys (missingKeys u e.2 x.step (bayOf x.kind x.engine).toList) u) t) s

/-- A class 0 job has no engine step left in the ledger, and its steps are bound where there is room: it is in its margin swath or past it, has no engine work, or an
engine step of it could not be bound in its swath (R61, R67; DEDUCED, log entry 49). -/
def unledgered (s : State) (slot : Nat) (j : Job) : Bool :=
  match j.first with
  | none => false
  | some f => decide (f ≤ now s) && (if j.margin then decide (j.marginFrom ≤ now s) else !(s.sched.ledger.any (fun l => l.entries.any (fun x => decide (x.slot = slot)))))

/-- Segments of input that could not be asked for before are asked for now (R108, R793). -/
def askInputs (s : State) : State := forAll (s.jobs.filter (fun e => decide (isChained e.2 ∨ e.2.steps.any (fun x => x.boundAt.isSome)))) (fun e t => askInput e.1 t) s

/-- The admit phase (R61): the key fetches of class 0 paths that begin, ledger entries, class 0 work outside the ledger, classes 1 to 3, then parked
operations. -/
def admitPhase (s : State) (entries : List LedgerEntry) : State :=
  let s1 := bindLedger entries (fetchPath (askInputs s))
  let s2 := forAll ((s1.jobs.filter (fun e => unledgered s1 e.1 e.2)).map Prod.fst) (bindJob true) s1
  let s3 := bindClasses (bulkWindow s2)
  countBulk (forAll (keys s3.sched.engines) resumeParked s3)

/-! ### The close: parking and overruns -/

/-- Clocks that a cipher engine can have run of an operation whose input is not whole: the blocks that have arrived (R383, R385). -/
def arrivedClocks (s : State) (j : Job) (i : Nat) : Nat :=
  let alg := handleAlg s (selected j (stepAt j i).step.selA)
  j.input.length / blockSize alg * blockClocks alg

/-- Output bytes of a cipher operation whose blocks have ended, in whole segments of 4 KiB (R213, R385): none of an authenticated decryption or an unwrapping, which
hold their plaintext back. -/
def segmentsOut (j : Job) (i ran : Nat) : Bytes :=
  let x := stepAt j i
  let alg := match x.keyA with | some k => k.alg | none => 3
  let blocks := (ran - 64 - 2 * deriveClocks 0) / blockClocks alg - 2
  match x.delivered with
  | some d =>
    if isChained j ∨ d.secret ∨ d.result ≠ 0 ∨ j.hdr.outLen < d.bytes.length ∨ x.step.opcode / 256 ≠ 2 ∨ x.step.opcode = 0x0212 ∨ x.step.opcode = 0x0242 then []
    else d.bytes.take (blocks * blockSize alg / 4096 * 4096)
  | none => []

/-- Output segments that have filled are written to host memory, where requests may be made (R108, R210, R385). -/
def streamOut (slot i ran : Nat) (s : State) : State :=
  match jobAt s slot with
  | none => s
  | some j =>
    let bs := segmentsOut j i ran
    if bs.length ≤ j.written.length ∨ ¬ mayRequest s then s
    else writePieces (j.hdr.outPtr + j.written.length) (bs.drop j.written.length) (modJob slot (fun j => { j with written := bs }) s)

/-- An operation with work left parks in its bank (R42, R355, R383, R385). -/
def park (kind idx : Nat) (b : Bound) (j : Job) (s : State) : State :=
  let x := stepAt j b.step
  let alg := match x.keyA with | some k => k.alg | none => handleAlg s (selected j x.step.selA)
  let run := ranEighths x kind alg b.clocks
  let run := if x.checked then run else if kind = 1 then min run (8 * (arrivedClocks s j b.step - x.ran)) else 0
  let s1 := modEng kind idx (fun e => { e with running := e.running.filter (fun y => decide (y ≠ b)), parked := some (b.slot, b.step), parkedBank := b.bank,
                                               saved := if kind = 0 then e.saved ||| bankBit b.bank else e.saved }) s
  let s2 := if kind = 1 then { s1 with cip := { s1.cip with suspends := satInc s1.cip.suspends } } else s1
  let s3 := modStep b.slot b.step (fun x => { x with stage := .parked, lastSwath := now s, ran := x.ran + run / 8,
                                                     work := ((x.work.headD []).map (runDown kind run)) :: x.work.drop 1 }) s2
  if kind = 1 ∧ x.checked then streamOut b.slot b.step (x.ran + run / 8) s3
  else if kind = 1 ∧ ¬ inputReady j then raise (cipherMover (idx / 64)) (0x031C + idx / 64) b.slot s3 else s3

/-- What an engine's running steps become at the close: an operation with work left, or with input still to come, parks in its bank; an engine step that should have
ended has overrun (R42, R45, R355, R385). On a core an overrun is vector 14, which ends the job of the invocation it stops (R45, R556). A core's step that no
invocation runs for ends its job at the close (DESIGN CHOICE, log entry 47). -/
def closeEngine (key : Nat) (s : State) : State :=
  let kind := key / 256
  let idx := key % 256
  let e := engAt s kind idx
  let off := fun (b : Bound) (t : State) => modEng kind idx (fun e => { e with running := e.running.filter (fun x => decide (x ≠ b)) }) t
  forAll e.running (fun b s =>
    match jobAt s b.slot with
    | none => off b s
    | some j =>
      let y := stepAt j b.step
      if ¬ y.checked then
        if b.class0 ∨ (engAt s kind idx).parked.isSome then dropEntries b.slot (now s) (modStep b.slot b.step (fun x => { x with stage := .waiting }) (off b s))
        else park kind idx b j s
      else if ¬ endsHere y kind b then park kind idx b j s
      else if kind = 5 then
        let s1 := modCore idx (fun c => { c with overrun := if c.overrun.isSome then c.overrun else some (y.step.opcode % 65536) }) s
        if (coreAt s idx).running.any (fun v => decide (v.slot = b.slot ∧ v.step = b.step)) then s1 else abortJob b.slot (if isTenantOp y.step.opcode then 0x0C04 else 0x0502) (off b s1)
      else
        let p := enginePage kind idx
        failUnit p (raise p (commonCode p 5) y.step.opcode (abortJob b.slot 0x0502 { s with sched := { s.sched with overrun := satInc s.sched.overrun } }))) s

/-- A class 0 job that has not ended its steps by the close of its last swath, its margin swath, ends with RES_FAULT_MARGIN (R68, R69; DESIGN CHOICE, log entry
47). -/
def lateClass0 (s : State) : State :=
  forAll (s.jobs.filter (fun e => decide (e.2.first ≠ none ∧ e.2.last ≤ now s ∧ e.2.mirrorWait = none ∧ e.2.stage ≠ .outputting))) (fun e t => abortJob e.1 0x0504 t) s

/-- Every engine at the close (R39, R42, R45). -/
def closeEngines (s : State) : State := lateClass0 (forAll (keys s.sched.engines) closeEngine s)

/-! ### Maintenance activities -/


def setMaint (a : Nat) (st : MaintState) (s : State) : State := { s with sched := { s.sched with maint := mset .idle s.sched.maint a st } }

/-- Running activities are throttled exactly while a T partner runs (R78, R79). -/
def rethrottle (s : State) : State :=
  repeatIdx 10 (fun a t =>
    if maintRuns s a then setMaint a (if (List.range 10).any (fun b => decide (a ≠ b) && maintRuns s b && decide (maintPair a b = 1)) then .throttled else .running) t
    else t) s

/-- Starts pending and activities deferred take effect in precedence order (R77, R80 to R82). -/
def startActivities (s : State) : State :=
  let pend := s.sched.startPending
  let one := fun a (t : State) =>
    let asked := pend.getLsbD a
    let st := maintAt t a
    if (st = .idle ∧ asked) ∨ st = .deferred then
      if (List.range 10).any (fun b => decide (a ≠ b) && maintRuns t b && decide (maintPair a b = 2)) then
        (if st = .deferred then t else raise schedPage 0x012D a (setMaint a .deferred t))
      else
        let t1 := setMaint a .running t
        if a = 8 then { t1 with flash := { t1.flash with staging := t1.flash.targets } }
        else if a = 9 then { t1 with rng := { t1.rng with rebalance := 0 } } else t1
    else t
  rethrottle (repeatIdx 10 one { s with sched := { s.sched with startPending := 0 } })

/-- An activity ends or is cancelled (R80, R83). -/
def endActivity (a : Nat) (s : State) : State :=
  let t := setMaint a .idle s
  rethrottle { t with sched := { t.sched with stopPending := s.sched.stopPending &&& ~~~ BitVec.ofNat 10 (2 ^ a), stopAt := merase a s.sched.stopAt } }

/-- An activity has been asked to stop and is at a safe point: it ends, with its event (R83, R497). -/
def safePoint (a : Nat) (s : State) : State :=
  if s.sched.stopPending.getLsbD a then raise schedPage 0x012E a (endActivity a s) else s

/-- A stop that no safe point has taken within 64 swaths takes effect at the close (R83). -/
def forceStops (s : State) : State :=
  forAll (s.sched.stopAt.filter (fun e => decide (e.2 + 64 ≤ now s))) (fun e t => safePoint e.1 t) s

/-- SCH_MAINT_STOP: a deferred activity is cancelled, a running one ends at its next safe point (R83, R97). A cancelled one raises no EVT_HST_SCH_MAINT_STOPPED,
since R497 ties that event to R83 and R83 does not say which of the two it means (DESIGN CHOICE, log entry 80). -/
def stopActivities (bitsv : Nat) (s : State) : State :=
  repeatIdx 10 (fun a t =>
    if bit a bitsv then
      match maintAt t a with
      | .deferred => endActivity a t
      | .idle => t
      | _ => { t with sched := { t.sched with stopPending := t.sched.stopPending ||| BitVec.ofNat 10 (2 ^ a)
                                              stopAt := if (mfind a t.sched.stopAt).isSome then t.sched.stopAt else mput a (now t) t.sched.stopAt } }
    else t) s

/-- The bits of a SCH_MAINT_STOP write as the CONFIG record shows them: none where every activity named is idle (R97, R462, R789). -/
def stopTaken (v : Nat) (s : State) : Nat :=
  if (List.range 10).any (fun a => bit a v && decide (maintAt s a ≠ .idle)) then v % 1024 else 0

/-! ### Scheduler registers -/

/-- The 32-bit word at an offset of the scheduler page's own registers (R84 to R98). -/
def schWord (s : State) (off : Nat) : Nat :=
  let c := s.sched
  let sel := entryOf s c.selOpcode.toNat
  match off with
  | 0x100 => c.swath.toNat % 2 ^ 32
  | 0x104 => c.swath.toNat / 2 ^ 32
  | 0x108 => c.epoch.toNat
  | 0x10C => c.clock.toNat + 2 ^ 15 * (if c.phase = .close then 2 else if c.clock.toNat < 1250 then 0 else 1)
  | 0x110 => c.reservePk.toNat + 2 ^ 8 * c.reserveCipher.toNat + 2 ^ 16 * c.reserveDigest.toNat + 2 ^ 24 * c.reserveRecord.toNat
  | 0x114 => c.reserveNand.toNat + 2 ^ 8 * c.reserveCore.toNat
  | 0x118 => c.slotReserve.toNat
  | 0x120 => c.selOpcode.toNat + 2 ^ 16 * c.selKind.toNat + 2 ^ 24 * c.selOffset.toNat
  | 0x124 =>
    match sel with
    | none => 0
    | some e =>
      if c.selOffset = 3 then ((e.whole.filter (fun x => decide (x.1 = c.selKind.toNat))).map (fun x => x.2)).sum
      else if c.selOffset.toNat < e.path then costAt s e c.selOffset.toNat c.selKind.toNat else 0
  | 0x128 =>
    match sel with
    | none => 0
    | some e => 2 ^ 31 * b2n (c0Eligible s e) + 2 ^ 30 * b2n e.short + 2 ^ 20 * e.path
  | 0x12C =>
    match c.ledger.find? (fun l => decide (l.swath = now s + 1)) with
    | none => 0
    | some l =>
      let k := c.selKind.toNat
      2 ^ 16 * ((l.capacity.find? (fun x => decide (x.1 = k))).map Prod.snd).getD 0 + ((l.credits.filter (fun x => decide (x.kind = k))).map (fun x => x.free)).sum
  | 0x130 => c.admitted.toNat
  | 0x134 => c.spilled.toNat
  | 0x138 => c.refused.toNat
  | 0x13C => c.margin.toNat
  | 0x140 => c.overrun.toNat
  | 0x158 => (List.range 10).foldl (fun t a => t + 4 ^ a * (match maintAt s a with | .idle => 0 | .running => 1 | .throttled => 2 | .deferred => 3)) 0
  | _ => 0

/-- A reservation field takes 0 to 32 or 0xFF (R87). -/
def reserveTake (old : BitVec 8) (v : Nat) : BitVec 8 := if v % 256 ≤ 32 ∨ v % 256 = 0xFF then BitVec.ofNat 8 v else old

/-- A refused value raises the Host plane's WRITE_REFUSED code (R91, R497). -/
def schRefuse (off : Nat) (s : State) : State := raise schedPage 0x0106 off s

/-- The effect of a 32-bit write in the scheduler page (R53, R87 to R92, R96, R97). -/
def schWriteWord (off v : Nat) (s : State) : State :=
  let c := s.sched
  match off with
  | 0x110 =>
    let ok := fun i => decide (v / 256 ^ i % 256 ≤ 32 ∨ v / 256 ^ i % 256 = 0xFF)
    let s1 := { s with sched := { c with reservePk := reserveTake c.reservePk v, reserveCipher := reserveTake c.reserveCipher (v / 256), reserveDigest := reserveTake c.reserveDigest (v / 65536), reserveRecord := reserveTake c.reserveRecord (v / 16777216) } }
    if ok 0 && ok 1 && ok 2 && ok 3 then s1 else schRefuse off s1
  | 0x114 =>
    let ok := fun i => decide (v / 256 ^ i % 256 ≤ 32 ∨ v / 256 ^ i % 256 = 0xFF)
    let s1 := { s with sched := { c with reserveNand := reserveTake c.reserveNand v, reserveCore := reserveTake c.reserveCore (v / 256) } }
    if ok 0 && ok 1 then s1 else schRefuse off s1
  | 0x118 => if 1024 < v % 2048 then schRefuse off s else { s with sched := { c with slotReserve := BitVec.ofNat 11 v } }
  | 0x120 =>
    let k := bits 19 16 v
    let s1 := { s with sched := { c with selOpcode := BitVec.ofNat 16 v, selOffset := BitVec.ofNat 2 (v / 2 ^ 24), selKind := if k ≤ 5 then BitVec.ofNat 4 k else c.selKind } }
    if k ≤ 5 then s1 else schRefuse off s1
  | 0x124 =>
    match entryOf s c.selOpcode.toNat with
    | none => s
    | some e =>
      let o := c.selOffset.toNat
      if o = 3 then s
      else if e.path ≤ o then schRefuse off s
      else { s with sched := { c with raised := mset 0 c.raised (e.code * 64 + o * 16 + c.selKind.toNat) (v % 2 ^ 20) } }
  | 0x128 =>
    match entryOf s c.selOpcode.toNat with
    | none => s
    | some e =>
      if bit 31 v then (if e.eligible && meetsR57 s e then { s with sched := { c with c0Cleared := c.c0Cleared.filter (fun x => decide (x ≠ e.code)) } } else s)
      else if e.eligible && !decide (e.code ∈ c.c0Cleared) then { s with sched := { c with c0Cleared := e.code :: c.c0Cleared } } else s
  | 0x150 => { s with sched := { c with startPending := c.startPending ||| BitVec.ofNat 10 v } }
  | 0x154 => stopActivities v s
  | _ => s

/-- Offsets of the scheduler page with an audited field (R87 to R92, R96, R97). -/
def schAudited (off : Nat) : Bool := decide (off ∈ [0x110, 0x114, 0x118, 0x124, 0x128, 0x150, 0x154])

/-- What a read clears in the scheduler page (R94, R95). -/
def schReadEffect (off : Nat) (s : State) : State :=
  let c := s.sched
  match off with
  | 0x130 => { s with sched := { c with admitted := 0 } }
  | 0x134 => { s with sched := { c with spilled := 0 } }
  | 0x138 => { s with sched := { c with refused := 0 } }
  | 0x13C => { s with sched := { c with margin := 0 } }
  | 0x140 => { s with sched := { c with overrun := 0 } }
  | _ => s

/-- CLASS2_AGEING (R49): a class 2 job unbound for 256 swaths moves to the tail of the class 1 queue. -/
def execClass2Ageing (slot : Nat) (s : State) : Res :=
  .next <|
    match jobAt s slot with
    | none => s
    | some j =>
      if j.runClass = 2 ∧ j.stage = .admitted ∧ j.admitted + 256 ≤ now s ∧ j.steps.all (fun x => decide (x.stage = .waiting)) then
        modJob slot (fun j => { j with runClass := 1, aged := true, order := s.sched.nextOrder }) { s with sched := { s.sched with nextOrder := s.sched.nextOrder + 1 } }
      else s

/-- BAR0 address of a scheduler register. -/
def schAddr (off : Nat) : RegAddr := schedPage * 0x1000 + off

/-- MAINT_START (R77, R81, R96): a start is written, or module firmware starts the activity on its own schedule. -/
def execMaintStart (m : Option Master) (activity : Nat) (s : State) : Res :=
  .next <|
    match m with
    | some m => audited (schAddr 0x150) m 4 (fun s => schWord s 0x150) (fun _ => 2 ^ activity % 1024) (schWriteWord 0x150 (2 ^ activity)) s
    | none => schWriteWord 0x150 (2 ^ activity) s

/-- MAINT_STOP (R83, R97). -/
def execMaintStop (m : Master) (activity : Nat) (s : State) : Res :=
  .next (audited (schAddr 0x154) m 4 (fun s => schWord s 0x154) (stopTaken (2 ^ activity)) (schWriteWord 0x154 (2 ^ activity)) s)

end Sys2Proof.Machine
end

