-- ==== Sys2Proof/Machine/Run.lean ====
section
/-!
DEFINITION. Sys2Proof/Machine/Run.lean: how an operation runs on a bound step (R41, R42, R222, R234): its result is computed once its checks have passed and
delivered when its engine work has ended; engine steps that end, fail or leave suspicion (R23, R24, R27, R337, R342, R348 to R354, R386); and the mask
reseeds of the cipher engines (R380).
-/
namespace Sys2Proof.Machine
open Sys2Proof

/-- What an operation works on: the job, its step, the operands of R213 and R216, and the keys as they stood at binding (R230). -/
structure Call where
  slot : Nat
  i : Nat
  job : Job
  step : StepDef
  src : Bytes
  aux : Bytes
  keyA : Option KeyVal
  keyB : Option KeyVal

/-- A result with its bytes. -/
def ok (bytes : Bytes) : Delivered := { result := 0, bytes := bytes }
/-- A result whose bytes are secret (R219). -/
def okSecret (bytes : Bytes) : Delivered := { result := 0, bytes := bytes, secret := true }
/-- A failure. -/
def bad (result : Nat) : Delivered := { result := result }

/-- Material and algorithm of a key position. -/
def matA (c : Call) : Bytes := match c.keyA with | some k => k.material | none => []
def matB (c : Call) : Bytes := match c.keyB with | some k => k.material | none => []
def algA (c : Call) : Nat := match c.keyA with | some k => k.alg | none => 0
def algB (c : Call) : Nat := match c.keyB with | some k => k.alg | none => 0

/-- No engine work is left at any offset. -/
def workDone (w : List (List Work)) : Bool := w.all (fun l => l.all (fun x => decide (x.slices = 0)))

/-- A step whose result is computed and whose engine work is done ends, unless a mirror acknowledgement is awaited (R41, R434). -/
def tryEnd (slot i : Nat) (s : State) : State :=
  match jobAt s slot with
  | none => s
  | some j =>
    let x := stepAt j i
    match x.delivered with
    | some d => if workDone x.work ∧ x.stage ≠ .ended ∧ j.mirrorWait = none then endStep slot i d s else s
    | none => s

/-- The step of a job that an operation of this opcode may run on: one whose checks have passed and whose result is not computed yet (R41, R230). -/
def callAt (s : State) (op slot i : Nat) : Option Call :=
  match jobAt s slot with
  | none => none
  | some j =>
    let x := stepAt j i
    if j.steps.length ≤ i ∨ x.step.opcode ≠ op ∨ ¬ x.checked ∨ x.stage = .ended ∨ x.delivered.isSome ∨ j.stage = .finished ∨ j.withdraw.isSome then none
    else
      let o := operandsOf s j i
      some { slot := slot, i := i, job := j, step := x.step, src := o.1, aux := o.2, keyA := x.keyA, keyB := x.keyB }

/-- The step of a job runs its operation. The result waits until the engine work has ended; an operation of no engine work ends at once. `f` answers
none where the operation has to wait. -/
def tryStep (op slot i : Nat) (f : Call → State → Option (Delivered × State)) (s : State) : State :=
  match callAt s op slot i with
  | none => s
  | some c =>
    match f c s with
    | none => s
    | some r => tryEnd slot i (modStep slot i (fun x => { x with delivered := some r.1 }) r.2)

/-- An operation that need not wait. -/
def runStep (op slot i : Nat) (f : Call → State → Delivered × State) (s : State) : State := tryStep op slot i (fun c t => some (f c t)) s

/-- An operation that changes nothing but its step. -/
def runPure (op slot i : Nat) (f : Call → State → Delivered) (s : State) : State := runStep op slot i (fun c t => (f c t, t)) s

/-! ### Engine steps that end -/

/-- The engine of a kind that runs a step of a job, with what it runs. -/
def runningOn (s : State) (kind slot i : Nat) : Option (Nat × Bound) :=
  (s.sched.engines.filter (fun e => decide (e.1 / 256 = kind))).findSome? (fun e =>
    (e.2.running.find? (fun b => decide (b.slot = slot ∧ b.step = i))).map (fun b => (e.1 % 256, b)))

/-- A validation failure of R342, which ends the operation in its first engine step. -/
def earlyResult (r : Nat) : Bool := decide (0x0401 ≤ r ∧ r ≤ 0x0404)

/-- The step has no more work at this offset, or none bound (R67): it goes on to the next offset, or delivers its result (R41, R42, R56); where another
step has failed, the job may end with it (R222, R320). -/
def nextOffset (slot i : Nat) (s : State) : State :=
  match jobAt s slot with
  | none => s
  | some j =>
    let x := stepAt j i
    if (x.work.headD []).any (fun w => decide (w.slices ≠ 0)) then
      if x.stage = .bound ∧ ¬ s.sched.engines.any (fun e => e.2.running.any (fun b => decide (b.slot = slot ∧ b.step = i)) || decide (e.2.parked = some (slot, i))) then
        modStep slot i (fun x => { x with stage := .waiting }) s
      else s
    else
      let s1 := modStep slot i (fun x => { x with work := x.work.drop 1, lastSwath := now s, stage := if workDone (x.work.drop 1) then x.stage else .waiting }) s
      advanceJob slot (tryEnd slot i s1)

/-- The bank of an operation that ended normally holds zeros again (R354). -/
def cleanBank (kind : Nat) (bank : BitVec 1) (e : Engine) : Engine := if kind = 0 then { e with written := mset 0 e.written bank.toNat 0 } else e

/-- A PK engine's aborted banks have been overwritten, their save areas with them (R353, R354). -/
def wipedBanks (e : Engine) : Engine :=
  { e with wiping := 0, saved := e.saved &&& ~~~ e.wiping, written := e.written.filter (fun x => decide (bankBit (BitVec.ofNat 1 x.1) &&& e.wiping = 0)) }

/-- An engine step ends with its work done. -/
def stepEnds (slot i kind idx : Nat) (b : Bound) (s : State) : State :=
  match jobAt s slot with
  | none => s
  | some j =>
    let x := stepAt j i
    let s1 := modEng kind idx (fun e => cleanBank kind b.bank { e with running := e.running.filter (fun y => decide (y ≠ b)) }) s
    match x.delivered with
    | some d =>
      if kind = 0 ∧ earlyResult d.result then
        let s2 := { s1 with sig := { s1.sig with rejects := satInc s1.sig.rejects } }
        endStep slot i d (dropStep slot (some i) (raise (enginePage 0 idx) 0x0211 (idx + 2 ^ 16 * d.result) s2))
      else nextOffset slot i (modStep slot i (fun x => { x with work := ((x.work.headD []).map (fun w => if w.kind = kind then { w with slices := 0, spare := 0 } else w)) :: x.work.drop 1 }) s1)
    | none =>
      nextOffset slot i (modStep slot i (fun x => { x with work := ((x.work.headD []).map (fun w => if w.kind = kind then { w with slices := 0, spare := 0 } else w)) :: x.work.drop 1 }) s1)

/-- Work that ran on an engine besides the step that put it in quarantine goes back to be bound elsewhere; a class 0 job takes its margin swath
(R67, R349). -/
def sendBack (kind idx : Nat) (s : State) : State :=
  forAll (engAt s kind idx).running (fun b t =>
    let t1 := modEng kind idx (fun e => { e with running := e.running.filter (fun y => decide (y ≠ b)) }) t
    let t2 := modStep b.slot b.step (fun x => { x with stage := if x.stage = .bound then .waiting else x.stage }) t1
    if b.class0 then useMargin (now s) (fun k => decide (k = b.step)) b.slot t2 else t2) s

/-- R349: the result is withheld, the step fails with RES_FAULT_SUSPECTED, and the engine enters quarantine. -/
def quarantine (slot i idx : Nat) (s : State) : State :=
  let p := enginePage 0 idx
  let lost := heldBanks (engAt s 0 idx)
  let s1 := failStep slot i 0x0501 s
  let s2 := loseParked 0 idx (sendBack 0 idx s1)
  let s3 := isolateUnit p .quarantine (modEng 0 idx (fun e => { e with wiping := e.wiping ||| lost }) s2)
  let s4 := { s3 with sig := { s3.sig with faults := satInc s3.sig.faults, engines := mupd {} s3.sig.engines idx (fun e => { e with quarantined := true }) } }
  countFault (raise p (0x0220 + pkTile 0 idx) idx (raise p 0x0208 idx s4))

/-- A corrected row in the key bay of the engine's cluster has an event of its own (R497). -/
def bayRow (kind idx tag row : Nat) (s : State) : State :=
  match bayOf kind idx with
  | some b => if tag = 0x07 then raise (bayPage b) (if b < 4 then 0x0218 + b else 0x0314 + (b - 4)) row s else s
  | none => s

/-- The opcodes whose private-key result is checked before it is released (R348): signing, the RSA private operation, agreement, key-pair generation, and the imports and
sessions that use one of these. -/
def releaseChecked (op : Nat) : Bool :=
  decide (op ∈ [0x0111, 0x0114, 0x0121, 0x0131, 0x0141, 0x0144, 0x0151, 0x0501, 0x0503, 0x0511])

/-- ENGINE_STEP_END (R23, R24, R27, R41, R337, R342, R348, R349): an engine step ends before its swath closes. An operation with more work than the
swath holds, or whose input is still to come, goes on to the close and parks there (R42, R355, R383, R385). -/
def execEngineStepEnd (slot i kind : Nat) (outcome : StepEnd) (s : State) : Res :=
  .next <|
    match runningOn s kind slot i, jobAt s slot with
    | some (idx, b), some j =>
      let p := enginePage kind idx
      let ends := fun (t : State) => if ¬ (stepAt j i).checked ∨ ¬ endsHere (stepAt j i) kind b then t else settleUnit p (stepEnds slot i kind idx b t)
      match outcome with
      | .done => ends s
      | .corrected tag row => ends (bayRow kind idx tag row (raise p (commonCode p 3) (tag + 256 * row) s))
      | .rowBad tag row =>
        let s1 := abortJob slot 0x0503 (raise p (commonCode p 2) (tag + 256 * row) s)
        if tag = 0x09 ∧ (kind = 0 ∨ kind = 2) then failUnit p (raise p 0x020F idx s1) else settleUnit p s1
      | .suspected => if kind = 0 ∧ releaseChecked (stepAt j i).step.opcode then quarantine slot i idx s else s
    | _, _ => s

/-- MLDSA_CUTOFF (R350): an ML-DSA signing reaches its cut-off without a signature. -/
def execMldsaCutoff (slot i : Nat) (s : State) : Res :=
  .next <|
    match runningOn s 0 slot i, jobAt s slot with
    | some (idx, _), some j =>
      if (stepAt j i).step.opcode = 0x0151 then
        raise (enginePage 0 idx) 0x0209 idx (quarantine slot i idx { s with sig := { s.sig with cutoffs := satInc s.sig.cutoffs } })
      else s
    | _, _ => s

/-! ### Overwriting -/

/-- ABORT_WIPE_DONE (R353, R354): the overwrite of a PK engine's aborted banks ends. -/
def execAbortWipeDone (engine : Nat) (s : State) : Res :=
  .next (if engine < 64 ∧ (engAt s 0 engine).wiping ≠ 0 then raise (enginePage 0 engine) 0x0212 engine (modEng 0 engine wipedBanks s) else s)

/-- CIPHER_WIPE_DONE (R386, R387). -/
def execCipherWipeDone (engine : Nat) (s : State) : Res :=
  .next (if engine < 256 ∧ (engAt s 1 engine).wiping ≠ 0 then raise (enginePage 1 engine) 0x030E engine (modEng 1 engine (fun e => { e with wiping := 0 }) s) else s)

/-! ### Mask reseeds -/

/-- One cipher engine is reseeded, or misses it because the queue cannot supply it (R380). -/
def reseedMask (idx : Nat) (s : State) : State :=
  let owe := fun (v : Bool) (t : State) => { t with cip := { t.cip with engines := mupd {} t.cip.engines idx (fun e => { e with maskOwed := v }) } }
  if rngCan false 32 s then
    let s1 := owe false (rngTake 32 s)
    { s1 with cip := { s1.cip with maskReseeds := satInc s1.cip.maskReseeds } }
  else
    let s1 := owe false s
    { s1 with cip := { s1.cip with maskMissed := satInc s1.cip.maskMissed, missedNow := s1.cip.missedNow + 1 } }

/-- The reseeds of one admit phase: a gated or isolated engine owes its own until it works again (R380). -/
def reseedAll (s : State) : State :=
  repeatIdx 256 (fun idx t =>
    let p := enginePage 1 idx
    let owes := decide ((unitAt t p).state = .isolated) || decide ((mget {} t.power.domains (domainOf p)).state = .gated)
    if (unitAt t p).state = .failed then t
    else if owes then { t with cip := { t.cip with engines := mupd {} t.cip.engines idx (fun e => { e with maskOwed := true }) } }
    else reseedMask idx t) s

/-- Engines that owe a reseed and wake in this admit phase (R380). -/
def reseedOwed (s : State) : State :=
  forAll (keys s.cip.engines) (fun idx t =>
    let st := (unitAt t (enginePage 1 idx)).state
    if (mget {} t.cip.engines idx).maskOwed ∧ st ≠ .failed ∧ st ≠ .isolated ∧ (mget {} t.power.domains (domainOf (enginePage 1 idx))).state ≠ .gated then reseedMask idx t else t) s

/-- MASK_RESEED (R380): before the first admission, and once in the admit phase of every 64th swath. -/
def execMaskReseed (s : State) : Res :=
  .next (if ¬ s.start.service then reseedAll s
    else if s.sched.phase = .work ∧ now s % 64 = 0 ∧ s.cip.reseedSwath ≠ some (now s) then reseedAll { s with cip := { s.cip with reseedSwath := some (now s) } }
    else s)

/-- NONCE_BLOCK_REQUEST (R390, R391, R393): a holder with fewer than 2^16 values left asks for its next block. -/
def execNonceBlockRequest (holder : Nat) (s : State) : Res :=
  .next <|
    if 2 ^ 16 ≤ valuesLeft s holder then s else grantNonces holder s

end Sys2Proof.Machine
end

