-- ==== Sys2Proof/Machine/AuditOps.lean ====
section
/-!
DEFINITION. Sys2Proof/Machine/AuditOps.lean: checkpoints (R467 to R471), what a close does for the audit chain (R472 to R479, R788), the audit opcodes
(R480) and the AUD_ registers (R481 to R486).
-/
namespace Sys2Proof.Machine
open Sys2Proof

/-- The audit tile page (R481 to R486). -/
def auditTile : Nat := mkPage 4 2 5 0

/-! ### Checkpoints -/

/-- Material of the audit key with an index (R469): key block 0 holds P-384, key block 1 ML-DSA-65. -/
def auditKey (s : State) (index : Nat) : Bytes := match keyAt s index with | some k => k.material | none => []

/-- Bytes 0 to 127 of a checkpoint (R468). -/
def checkpointBody (s : State) (c : Checkpoint) : Bytes :=
  ascii "NCP1" ++ zeros 4 ++ leBytes 8 c.number ++ leBytes 8 c.count ++ leBytes 8 c.swath ++ leBytes 4 c.epoch ++ leBytes 8 (deviceSerial s)
    ++ zeros 4 ++ fit 48 c.chain ++ zeros 32

/-- Both signatures over a body by audit keys 0 and 1 (R468, R469). -/
def signBody (body : Bytes) (s : State) : (Bytes × Bytes) × State :=
  let r := drawBytes 64 s
  ((std "ECDSA signature" 96 [leBytes 2 0x0102, auditKey s 0, r.1.take 32, sha384 body],
    std "ML-DSA signature" 3309 [leBytes 2 0x0132, auditKey s 1, r.1.drop 32, leBytes 1 4 ++ ascii "NCP1", body]), r.2)

/-- The 8,192-byte slot (R468). -/
def checkpointSlot (s : State) (c : Checkpoint) : Bytes :=
  fit 8192 (checkpointBody s c ++ fit 96 c.ecdsa ++ fit 3309 c.mldsa ++ leBytes 1 (b2n c.cosigned) ++ zeros 2 ++ leBytes 8 c.peerSerial
    ++ fit 96 c.peerEcdsa ++ fit 3309 c.peerMldsa)

/-- Form a checkpoint with its CHECKPOINT record; the store keeps 32,768 slots (R467, R471). -/
def formCheckpoint (s : State) : State :=
  let a := s.audit
  let c : Checkpoint := { number := a.nextCkpt, count := a.next - 1, swath := now s, epoch := s.sched.epoch.toNat, chain := a.chain }
  let store := (mput c.number c a.ckpts).filter (fun e => decide (c.number < e.1 + 32768))
  (appendOrLose (.checkpoint c.number c.count c.chain) { s with audit := { a with nextCkpt := a.nextCkpt + 1, ckpts := store } }).2

/-- CHECKPOINT_SIGNED (R469, R470): both signatures are made and have passed their check, and the checkpoint is held; a signature that fails its check is
withheld with its event. -/
def execCheckpointSigned (number : Nat) (passed : Bool) (s : State) : Res :=
  .next <|
    match mfind number s.audit.ckpts with
    | none => s
    | some c =>
      if c.held then s
      else if ¬ passed then raise auditPage 0x051E number s
      else
        let r := signBody (checkpointBody s c) s
        let c1 := { c with held := true, ecdsa := r.1.1, mldsa := r.1.2 }
        let a := r.2.audit
        let s1 := { r.2 with audit := { a with ckpts := mput number c1 a.ckpts, latest := max a.latest number } }
        if a.cosign then
          sendMember 0x40 a.peer.toNat (checkpointBody s c)
            { s1 with audit := { s1.audit with cosignWait := mput number (now s + 4096) a.cosignWait } }
        else s1

/-- COSIGN_TIMEOUT (R470): no co-signature has arrived within 4,096 swaths. -/
def execCosignTimeout (number : Nat) (s : State) : Res :=
  .next <|
    match mfind number s.audit.cosignWait with
    | some w =>
      if w ≤ now s then raise (foldPage 0) 0x061F number { s with audit := { s.audit with cosignWait := merase number s.audit.cosignWait } } else s
    | none => s

/-! ### Delivery at a close -/

/-- The 64 bytes of an audit ring entry (R184). -/
def ringEntry (s : State) (r : AuditRec) : Bytes := encodeRec r ++ leBytes 1 (phaseBit s.audit.tail.toNat s.audit.log2.toNat) ++ zeros 15

/-- Free entries of the audit ring, 0 while delivery is not possible (R169, R472). -/
def ringRoom (s : State) : Nat :=
  if s.audit.enable && linkOpen s then 2 ^ s.audit.log2.toNat - (s.audit.tail - s.audit.head).toNat else 0

/-- Deliver one record to the ring: it starts at AUD_RING_BASE, and an entry is a whole line (R115, R165, R184, R185). -/
def deliver (r : AuditRec) (s : State) : State :=
  let a := s.audit
  emit (.auditEntry a.tail.toNat (a.base.toNat * 4096 + 64 * (a.tail.toNat % 2 ^ a.log2.toNat)) (if cacheActive s then .itoMWr else .posted) (ringEntry s r))
    { s with audit := { s.audit with tail := s.audit.tail + 1 } }

/-- The records of the reserve that a close delivers first, up to 512 (R472). -/
def deliverOld (s : State) : State :=
  let old := s.audit.undelivered
  let n := min (min 512 old.length) (ringRoom s)
  forAll (old.take n) deliver { s with audit := { s.audit with undelivered := old.drop n, held := s.audit.held ++ old.take n } }

/-- The reserve is a ring: where the compaction has not erased ahead, the writer erases the next block, with its 256 pages of 336 delivered records (R473). -/
def trimHeld (s : State) : State :=
  let surplus := s.audit.held.length + s.audit.undelivered.length - Config.reserveCapacity
  if surplus = 0 then s else { s with audit := { s.audit with held := s.audit.held.drop (ceilDiv surplus 86016 * 86016) } }

/-- The new records are delivered; a record goes to the reserve where the ring does not take it or an earlier one is undelivered (R185, R472). -/
def deliverFresh (s : State) : State :=
  let fresh := s.audit.fresh
  let m := if s.audit.undelivered = [] then min fresh.length (ringRoom s) else 0
  let s1 := forAll (fresh.take m) deliver { s with audit := { s.audit with fresh := [], undelivered := s.audit.undelivered ++ fresh.drop m } } |> trimHeld
  if m < fresh.length then raise audRingPage 0x0125 (undeliveredCount s1) s1 else s1

/-- What ends delivery at a close: a disable takes effect (R482), and a reserve that `before` held records is empty (R497). -/
def endDelivery (before : Bool) (s : State) : State :=
  let s1 := if s.audit.disablePending then { s with audit := { s.audit with enable := false, disablePending := false } } else s
  if before && decide (s1.audit.undelivered = []) then raise audRingPage 0x0126 0 s1 else s1

/-- CHECKPOINT_FORM (R463, R467, R475, R719): after the JOB records of the close of every 4,096th swath, unless the chain is stalled or the state gives the
module no audit key. Its record leaves in that swath's windrow (R185). -/
def execCheckpointForm (s : State) : Res :=
  .next <|
    let here := fun (c : Checkpoint) => decide (c.swath = now s ∧ c.epoch = s.sched.epoch.toNat)
    if s.sched.phase = .close ∧ now s % 4096 = 4095 ∧ ¬ s.audit.stalled ∧ hasIdentity s.keeper.record.state ∧ ¬ s.audit.ckpts.any (fun e => here e.2) then deliverFresh (formCheckpoint s) else s

/-- The reserve has room again: U ≤ C − 131,072 (R477, R478). -/
def reserveDrained (s : State) : Bool := decide (undeliveredCount s + 131072 ≤ Config.reserveCapacity) && !s.audit.mediaFull

/-- Append the GAP record of an open gap, from the records of R35 where `reserved`, counting the losses of R788 with it (R478, R479, R788). -/
def appendGap (reserved : Bool) (s : State) : State :=
  let a := s.audit
  let n := a.gapLost + a.lost788
  let first := if a.gapLost = 0 then a.lost788First else if a.lost788 = 0 then a.gapFirst else min a.gapFirst a.lost788First
  let last := max a.gapLast a.lost788Last
  let s1 := appendRec (.gap n first last)
    { s with audit := { a with gapOpen := false, gapLost := 0, gapFirst := 0, gapLast := 0, lost788 := 0, lost788First := 0, lost788Last := 0,
                               reserve64 := if reserved then a.reserve64 - 1 else a.reserve64 } }
  raise auditPage 0x051D n s1

/-- Stalls and gaps that a close ends, once it has delivered what it can of the reserve (R475, R477 to R479, R788): the 64 records of R35 are restored, and
a GAP record is the first record after. -/
def auditRecover (s : State) : State :=
  let a := s.audit
  if a.gapPolicy then
    let s1 := if a.stalled then { s with audit := { a with stalled := false, stallEndPending := false, reserve64 := 64 } } else s
    let s2 := if a.stalled then raise auditPage 0x051B (undeliveredCount s) s1 else s1
    if s2.audit.gapOpen ∧ (a.stalled ∨ reserveDrained s2) then
      appendGap (decide (s2.audit.gapLost = 0)) { s2 with audit := { s2.audit with reserve64 := 64 } }
    else s2
  else if a.stalled then
    if reserveDrained s then
      let s1 := raise auditPage 0x051B (undeliveredCount s) { s with audit := { a with stalled := false, reserve64 := 64 } }
      if s1.audit.lost788 ≠ 0 then appendGap true s1 else s1
    else s
  else if a.lost788 ≠ 0 ∧ reserveDrained s then appendGap true { s with audit := { a with reserve64 := 64 } }
  else s

/-- A reserve that counts as full stalls the chain under the STOP policy (R474, R475). -/
def auditFull (s : State) : State :=
  if ¬ s.audit.gapPolicy ∧ ¬ s.audit.stalled ∧ reserveFull s then raise auditPage 0x051A (undeliveredCount s) { s with audit := { s.audit with stalled := true } } else s

/-! ### Opcodes -/

/-- OP_AUD_CHECKPOINT (R471, R480): the slot of a held checkpoint, 0 naming the latest. -/
def execOpAudCheckpoint (slot i : Nat) (s : State) : Res :=
  .next (runPure 0x0701 slot i (fun c s =>
    let n := leAt 0 8 c.src
    match mfind (if n = 0 then s.audit.latest else n) s.audit.ckpts with
    | some k => if k.held then ok (checkpointSlot s k) else bad 0x0B02
    | none => bad 0x0B02) s)

/-- OP_AUD_SEGMENT (R480): records held in the reserve. -/
def execOpAudSegment (slot i : Nat) (s : State) : Res :=
  .next (runPure 0x0702 slot i (fun c s =>
    let first := leAt 0 8 c.src
    let count := leAt 8 4 c.src
    let found := (List.range count).filterMap (fun k => (s.audit.held ++ s.audit.undelivered).find? (fun r => decide (r.seq = first + k)))
    if count = 0 ∨ 21845 < count then bad 0x0401
    else if found.length = count then ok (found.flatMap encodeRec) else bad 0x0B02) s)

/-! ### Registers -/

/-- The 32-bit word at an offset of the audit tile page (R481 to R486). -/
def audWord (s : State) (off : Nat) : Nat :=
  let a := s.audit
  match off with
  | 0x100 => a.base.toNat * 4096 % 2 ^ 32
  | 0x104 => a.base.toNat * 4096 / 2 ^ 32
  | 0x108 => b2n a.enable + 256 * a.log2.toNat
  | 0x10C => a.tail.toNat
  | 0x110 => a.head.toNat
  | 0x114 => b2n a.gapPolicy
  | 0x118 => b2n a.enable + 2 * b2n a.stalled + 4 * b2n a.gapOpen + 8 * b2n a.chainBreak + 16 * b2n a.configError
  | 0x120 => a.next % 2 ^ 32
  | 0x124 => a.next / 2 ^ 32
  | 0x128 => undeliveredCount s
  | 0x12C => a.lost.toNat
  | 0x130 => a.latest % 2 ^ 32
  | 0x134 => a.latest / 2 ^ 32
  | 0x138 => a.peer.toNat + 256 * b2n a.cosign
  | _ => 0

/-- Enable delivery, where the configuration is valid (R482, R484). -/
def enableRing (s : State) : State :=
  let a := s.audit
  if a.enable then { s with audit := { a with disablePending := false } }
  else if a.base ≠ 0 ∧ 6 ≤ a.log2.toNat ∧ a.log2.toNat ≤ 20 ∧ a.head = a.tail then { s with audit := { a with enable := true, configError := false } }
  else raise audRingPage 0x0124 (undeliveredCount s) { s with audit := { a with configError := true } }

/-- The effect of a 32-bit write in the audit tile page (R479, R481 to R483, R486). -/
def audWriteWord (off v : Nat) (s : State) : State :=
  let a := s.audit
  match off with
  | 0x100 => if a.enable then raise auditTile 0x0506 off s else { s with audit := { a with base := baseWord a.base false v } }
  | 0x104 => if a.enable then raise auditTile 0x0506 off s else { s with audit := { a with base := baseWord a.base true v } }
  | 0x108 =>
    let l := BitVec.ofNat 5 (v / 256)
    let s1 := if l = a.log2 then s else if a.enable then raise auditTile 0x0506 off s else { s with audit := { a with log2 := l } }
    if bit 0 v then enableRing s1 else { s1 with audit := { s1.audit with disablePending := s1.audit.enable } }
  | 0x10C => if a.enable then s else { s with audit := { a with tail := BitVec.ofNat 32 v } }
  | 0x110 => if (BitVec.ofNat 32 v - a.head).toNat ≤ (a.tail - a.head).toNat then { s with audit := { a with head := BitVec.ofNat 32 v } } else s
  | 0x114 =>
    if bit 0 v then { s with audit := { a with gapPolicy := true, stallEndPending := a.stalled } }
    else if a.gapPolicy then
      let s1 := if a.gapOpen ∧ a.reserve64 ≠ 0 then appendGap true s else s
      { s1 with audit := { s1.audit with gapPolicy := false } }
    else s
  | 0x138 => { s with audit := { a with peer := BitVec.ofNat 3 v, cosign := bit 8 v } }
  | _ => s

/-- Offsets of the audit tile page whose register has an audited field. -/
def audAudited (off : Nat) : Bool := decide (off ∈ [0x100, 0x104, 0x108, 0x10C, 0x114, 0x138])

/-- What reading a word of the audit tile page clears: AUD_LOST (R485). -/
def audReadEffect (off : Nat) (s : State) : State := if off = 0x12C then { s with audit := { s.audit with lost := 0 } } else s

/-- BAR0 address of a register of a page (R462, R753). -/
def pageAddr (page off : Nat) : RegAddr := page * 0x1000 + off

/-- An audited 32-bit write to an AUD_ register. -/
def audAuditedWrite (m : Master) (off v : Nat) (s : State) : State :=
  audited (pageAddr auditTile off) m 4 (fun s => audWord s off) noSets (audWriteWord off v) s

/-- AUD_RING_ENABLE (R482): enable written 1 with a log2. -/
def execAudRingEnable (m : Master) (log2 : BitVec 5) (s : State) : Res := .next (audAuditedWrite m 0x108 (1 + 256 * log2.toNat) s)

/-- AUD_RING_DISABLE (R482): enable written 0, log2 unchanged. -/
def execAudRingDisable (m : Master) (s : State) : Res := .next (audAuditedWrite m 0x108 (256 * s.audit.log2.toNat) s)

/-- AUD_RING_HEAD (R133, R170, R185, R483). -/
def execAudRingHead (value : BitVec 32) (s : State) : Res := .next (hostWrite (audWriteWord 0x110 value.toNat) s)

/-- AUD_POLICY_TO_STOP (R479). -/
def execAudPolicyToStop (m : Master) (s : State) : Res := .next (audAuditedWrite m 0x114 0 s)

/-- AUD_POLICY_TO_GAP (R479). -/
def execAudPolicyToGap (m : Master) (s : State) : Res := .next (audAuditedWrite m 0x114 1 s)

end Sys2Proof.Machine
end

