-- ==== Sys2Proof/Machine/Pay.lean ====
section
/-!
DEFINITION. Sys2Proof/Machine/Pay.lean: the payment opcodes (R288 to R312). Their operand checks are made at binding (Checks.lean); the PIN block layouts are
those of ISO 9564-1 (PRESUMED, log entry 23).
-/
namespace Sys2Proof.Machine
open Sys2Proof

/-! ### PIN blocks -/

/-- The account field of formats 0 and 3: the 12 rightmost digits without the check digit, behind four zero nibbles (R295). -/
def accountBlock (account : List Nat) : Bytes :=
  let d := account.dropLast
  let r := d.drop (d.length - 12)
  ofNibbles ([0, 0, 0, 0] ++ List.replicate (12 - r.length) 0 ++ r)

/-- The PAN field of format 4 (R295). -/
def panField (account : List Nat) : Bytes := ofNibbles (([account.length - 12] ++ account ++ List.replicate 32 0).take 32)

/-- Decipher a PIN block under a working key (R295). -/
def pinPlain (format alg : Nat) (key block : Bytes) (account : List Nat) : Bytes :=
  match format with
  | 4 => blockD alg key (xorBytes (blockD alg key (block.take 16)) (panField account))
  | 1 => blockD alg key (block.take 8)
  | _ => xorBytes (blockD alg key (block.take 8)) (accountBlock account)

/-- The PIN of a deciphered block, where its decode does not fail (R296). -/
def pinDecode (format : Nat) (plain : Bytes) : Option (List Nat) :=
  let n := nibbles plain
  let len := n.getD 1 0
  let pin := (n.drop 2).take len
  let fill := ((n.take 16).drop (2 + len))
  let fillOk := match format with
    | 0 => fill.all (fun x => decide (x = 15))
    | 3 => fill.all (fun x => decide (10 ≤ x))
    | 4 => fill.all (fun x => decide (x = 10))
    | _ => true
  if n.getD 0 0 = format ∧ 4 ≤ len ∧ len ≤ 12 ∧ (pin.all (fun x => decide (x ≤ 9)) && fillOk) then some pin else none

/-- Build and encipher a PIN block with random fill (R295, R297). -/
def pinEncode (format alg : Nat) (key : Bytes) (account pin : List Nat) (random : Bytes) : Bytes :=
  let head := [format, pin.length] ++ pin
  let r := nibbles random
  match format with
  | 4 =>
    let field := ofNibbles ((head ++ List.replicate 16 10).take 16) ++ slice 8 8 random
    blockE alg key (xorBytes (blockE alg key field) (panField account))
  | 0 => blockE alg key (xorBytes (ofNibbles ((head ++ List.replicate 16 15).take 16)) (accountBlock account))
  | 3 => blockE alg key (xorBytes (ofNibbles ((head ++ r.map (fun x => 10 + x % 6)).take 16)) (accountBlock account))
  | _ => blockE alg key (ofNibbles ((head ++ r).take 16))

/-- The AES or TDES DUKPT PIN key of a base derivation key and a key serial number (R263; DESIGN CHOICE, log entry 6). -/
def dukptKey (aes : Bool) (bdk ksn : Bytes) : Bytes :=
  if aes then std "ANSI X9.24-3 PIN encryption key" bdk.length [bdk, ksn] else std "ANSI X9.24-1 PIN encryption key" 16 [bdk, ksn]

/-- A translation from a PIN key to the key in position B (R299 to R301). -/
def translatePin (inKey : Call → Bytes × Nat) (c : Call) (s : State) : Delivered × State :=
  let f := byteAt 0 c.src
  let g := byteAt 1 c.src
  let account := accountDigits (slice 16 10 c.src)
  let k := inKey c
  let r := drawBytes 16 s
  match pinDecode f (pinPlain f k.2 k.1 (slice 32 16 c.src) account) with
  | some pin => (ok (pinEncode g (algB c) (matB c) account pin r.1), r.2)
  | none => (bad 0x0405, r.2)

/-- OP_PAY_PIN_TRANSLATE (R298 to R301). -/
def execOpPayPinTranslate (slot i : Nat) (s : State) : Res := .next (runStep 0x0301 slot i (translatePin (fun c => (matA c, algA c))) s)

/-- The PIN key of an AES DUKPT translation. -/
def aesPinKey (c : Call) : Bytes × Nat := (dukptKey true (matA c) (slice 4 12 c.src), algA c)

/-- OP_PAY_PIN_TRANSLATE_AES_DUKPT (R263, R295, R301). -/
def execOpPayPinTranslateAesDukpt (slot i : Nat) (s : State) : Res := .next (runStep 0x0302 slot i (translatePin aesPinKey) s)

/-- OP_PAY_PIN_TRANSLATE_TDES_DUKPT (R263, R295, R301). -/
def execOpPayPinTranslateTdesDukpt (slot i : Nat) (s : State) : Res :=
  .next (runStep 0x0303 slot i (translatePin (fun c => (dukptKey false (matA c) (slice 4 10 c.src), 0x0011))) s)

/-- OP_PAY_PIN_VERIFY (R302 to R304): the natural PIN and the offset against the deciphered PIN. -/
def execOpPayPinVerify (slot i : Nat) (s : State) : Res :=
  .next (runPure 0x0311 slot i (fun c _ =>
    let a := c.aux
    let n := byteAt 65 a
    let account := accountDigits (panOf c.src)
    let v := ofNibbles ((account ++ List.replicate 16 (byteAt 66 a % 16)).take 16)
    let e := if isTdes (algB c) then tdesE (matB c) v else (aesE (matB c) (v ++ zeros 8)).take 8
    let natural := ((nibbles e).take n).map (fun x => (nibbles (slice 68 8 a)).getD x 0)
    let sum := (natural.zip ((nibbles (slice 76 6 a)).take n)).map (fun p => (p.1 + p.2) % 10)
    match pinDecode (byteAt 64 a) (pinPlain (byteAt 64 a) (algA c) (matA c) (slice 96 16 a) account) with
    | some pin => if n ≤ pin.length ∧ pin.take n = sum then ok [] else bad 0x0405
    | none => bad 0x0405) s)

/-! ### MACs -/

/-- The MAC that a parameter block asks for (R305). -/
def payMac (c : Call) : Bytes :=
  let a := c.aux
  let m := if byteAt 33 a = 2 then pad2 8 c.src else pad1 8 c.src
  (match byteAt 32 a with
   | 1 => mac1 (matA c) m
   | 3 => mac3 (matA c) m
   | _ => cmac (matA c) c.src).take (byteAt 34 a)

/-- OP_PAY_MAC_GENERATE (R305). -/
def execOpPayMacGenerate (slot i : Nat) (s : State) : Res := .next (runPure 0x0321 slot i (fun c _ => ok (payMac c)) s)

/-- OP_PAY_MAC_VERIFY (R294, R305). -/
def execOpPayMacVerify (slot i : Nat) (s : State) : Res :=
  .next (runPure 0x0322 slot i (fun c _ => if payMac c = slice 48 (byteAt 34 c.aux) c.aux then ok [] else bad 0x0405) s)

/-! ### Card verification values -/

/-- The value of R308 in the form of the value field (R307). -/
def cardValue (c : Call) : Bytes :=
  let a := c.aux
  let d := ((accountDigits (panOf c.src)) ++ nibbles (slice 2 2 a) ++ (nibbles (slice 4 2 a)).drop 1 ++ List.replicate 32 0).take 32
  let b := ofNibbles d
  let y := if byteAt 6 a = 0 then tdesE (matA c) (xorBytes (tdesE (matA c) (b.take 8)) (b.drop 8)) else (cmac (matA c) b).take 8
  let n := nibbles y
  let seq := n.filter (fun x => decide (x ≤ 9)) ++ (n.filter (fun x => decide (10 ≤ x))).map (fun x => x - 10)
  ofNibbles (if byteAt 7 a = 1 then seq.take 4 else 0 :: seq.take 3)

/-- OP_PAY_CVV_GENERATE (R307, R308). -/
def execOpPayCvvGenerate (slot i : Nat) (s : State) : Res := .next (runPure 0x0330 slot i (fun c _ => ok (cardValue c)) s)

/-- OP_PAY_CVV_VERIFY (R294, R307, R308). -/
def execOpPayCvvVerify (slot i : Nat) (s : State) : Res :=
  .next (runPure 0x0331 slot i (fun c _ => if cardValue c = slice 0 2 c.aux then ok [] else bad 0x0405) s)

/-! ### EMV cryptograms -/

/-- The ICC master key and the session key (R310; DESIGN CHOICE, log entry 6). -/
def iccKey (c : Call) (a : Bytes) : Bytes :=
  let args := [matA c, ofNibbles (let d := accountDigits (panOf c.src); if d.length % 2 = 0 then d else d ++ [15]), slice 33 1 a]
  if byteAt 32 a = 1 then std "EMV ICC master key option A" 16 args else std "EMV ICC master key option C" (matA c).length args
def emvSession (c : Call) (a : Bytes) : Bytes :=
  if byteAt 32 a = 1 then std "EMV common session key TDES" 16 [iccKey c a, slice 34 2 a] else std "EMV common session key AES" (matA c).length [iccKey c a, slice 34 2 a]

/-- The cryptogram over the transaction data (R310). -/
def arqcOf (c : Call) (a : Bytes) : Bytes :=
  if byteAt 32 a = 1 then mac3 (emvSession c a) (pad2 8 (a.drop 64)) else (cmac (emvSession c a) (a.drop 64)).take 8

/-- The 8 output bytes for an ARQC (R310): method 1 under the ICC master key, method 2 under the session key. -/
def arpcOf (c : Call) (a arqc : Bytes) : Bytes :=
  match byteAt 36 a with
  | 1 =>
    let x := xorBytes arqc (slice 38 2 a ++ zeros 6)
    if byteAt 32 a = 1 then tdesE (iccKey c a) x else (aesE (iccKey c a) (x ++ zeros 8)).take 8
  | 2 =>
    let x := arqc ++ slice 40 4 a ++ slice 44 (byteAt 37 a) a
    (if byteAt 32 a = 1 then mac3 (emvSession c a) (pad2 8 x) else cmac (emvSession c a) x).take 4 ++ zeros 4
  | _ => zeros 8

/-- ARQC verification, as a step of its own and as step 3 of the reference authorisation (R309, R310, R315). -/
def verifyArqc (c : Call) : Delivered := if arqcOf c c.aux = slice 52 8 c.aux then ok (arpcOf c c.aux (slice 52 8 c.aux)) else bad 0x0405

/-- OP_PAY_ARQC_VERIFY (R294, R309, R310). -/
def execOpPayArqcVerify (slot i : Nat) (s : State) : Res := .next (runPure 0x0341 slot i (fun c _ => verifyArqc c) s)

/-- OP_PAY_ARPC_GENERATE (R309, R310): the response to the cryptogram of the transaction data, since the presented one is ignored. -/
def execOpPayArpcGenerate (slot i : Nat) (s : State) : Res := .next (runPure 0x0342 slot i (fun c _ => ok (arpcOf c c.aux (arqcOf c c.aux))) s)

/-! ### Format-preserving tokens -/

/-- FF1 over the leading digits; the rightmost `keep` digits pass unchanged (R311). -/
def ff1Field (f : Bytes → Bytes → List Nat → List Nat) (c : Call) (operand : Bytes) : Bytes :=
  let a := c.aux
  let d := accountDigits operand
  let n := byteAt 32 a - byteAt 50 a
  accountField (f (matA c) (slice 34 (byteAt 33 a) a) (d.take n) ++ d.drop n)

/-- OP_PAY_FF1_ENCRYPT (R311). -/
def execOpPayFf1Encrypt (slot i : Nat) (s : State) : Res := .next (runPure 0x0351 slot i (fun c _ => ok (ff1Field ff1E c (panOf c.src))) s)

/-- OP_PAY_FF1_DECRYPT (R311, R312): its result is secret, so a job of its own fails. -/
def execOpPayFf1Decrypt (slot i : Nat) (s : State) : Res :=
  .next (runPure 0x0352 slot i (fun c _ => if isChained c.job then okSecret (ff1Field ff1D c c.src) else bad 0x0903) s)

end Sys2Proof.Machine
end

