-- ==== Sys2Proof/Machine/Pk.lean ====
section
/-!
DEFINITION. Sys2Proof/Machine/Pk.lean: the public-key opcodes (R339 to R348, R361 to R365, R794): public-input validation in the order of R342, and the
operations of other standards (DESIGN CHOICE, log entry 6). A check before release that fails ends the engine step in suspicion (Run.lean, R348, R349).
-/
namespace Sys2Proof.Machine
open Sys2Proof

/-! ### Curves -/

/-- The prime, the constant b and the order of a Weierstrass curve (FIPS 186-5). -/
def curveP (alg : Nat) : Nat :=
  match alg with
  | 0x0101 => 2 ^ 256 - 2 ^ 224 + 2 ^ 192 + 2 ^ 96 - 1
  | 0x0102 => 2 ^ 384 - 2 ^ 128 - 2 ^ 96 + 2 ^ 32 - 1
  | _ => 2 ^ 521 - 1
def curveB (alg : Nat) : Nat :=
  match alg with
  | 0x0101 => 0x5ac635d8aa3a93e7b3ebbd55769886bc651d06b0cc53b0f63bce3c3e27d2604b
  | 0x0102 => 0xb3312fa7e23ee7e4988e056be3f82d19181d9c6efe8141120314088f5013875ac656398d8a2ed19d2a85c8edd3ec2aef
  | _ => 0x0051953eb9618e1c9a1f929a21a0b68540eea2da725b99b315f3b8b489918ef109e156193951ec7e937b1652c0bd3bb1bf073573df883d2c34f1ef451fd46b503f00
def curveN (alg : Nat) : Nat :=
  match alg with
  | 0x0101 => 0xffffffff00000000ffffffffffffffffbce6faada7179e84f3b9cac2fc632551
  | 0x0102 => orderP384
  | _ => 0x1fffffffffffffffffffffffffffffffffffffffffffffffffffffffffffffffffa51868783bf2f966b7fcc0148f709a5d03bb5c9b8899c47aebb6fb71e91386409

/-- The prime and the subgroup order of an Edwards curve (RFC 8032). -/
def edP (alg : Nat) : Nat := if alg = 0x0111 then 2 ^ 255 - 19 else 2 ^ 448 - 2 ^ 224 - 1
def edL (alg : Nat) : Nat :=
  if alg = 0x0111 then 2 ^ 252 + 27742317777372353535851937790883648493
  else 2 ^ 446 - 13818066809895115352007386748515426880336692474882178609894547503885

def isWeierstrass (alg : Nat) : Bool := decide (0x0101 ≤ alg ∧ alg ≤ 0x0103)
def isEdwards (alg : Nat) : Bool := decide (alg = 0x0111 ∨ alg = 0x0112)
def isMontgomery (alg : Nat) : Bool := decide (alg = 0x0113 ∨ alg = 0x0114)
def isRsa (alg : Nat) : Bool := decide (0x0121 ≤ alg ∧ alg ≤ 0x0125)
def isMlDsa (alg : Nat) : Bool := decide (0x0131 ≤ alg ∧ alg ≤ 0x0133)
def isMlKem (alg : Nat) : Bool := decide (0x0141 ≤ alg ∧ alg ≤ 0x0143)
def isSlhDsa (alg : Nat) : Bool := decide (0x0151 ≤ alg ∧ alg ≤ 0x015C)

/-- The hash of ECDSA on a curve (R339), and of an RSA hash code (R362). -/
def sha512 (m : Bytes) : Bytes := std "SHA-512" 64 [m]
def curveHash (alg : Nat) (m : Bytes) : Bytes := match alg with | 0x0101 => sha256 m | 0x0102 => sha384 m | _ => sha512 m
def hashLen (h : Nat) : Nat := match h with | 1 => 32 | 2 => 48 | _ => 64

/-- An algorithm code as an argument of a standard's function. -/
def algArg (alg : Nat) : Bytes := leBytes 2 alg

/-! ### Validation (R342) -/

/-- The first failure of an ordered list of conditions. -/
def orElse (l : List (Bool × Nat)) : Option Nat := (l.find? (fun e => e.1)).map Prod.snd

/-- A Weierstrass point. -/
def pointError (alg : Nat) (b : Bytes) : Option Nat :=
  let n := (pointLen alg - 1) / 2
  let p := curveP alg
  let x := beNat (slice 1 n b)
  let y := beNat (slice (1 + n) n b)
  orElse [(decide (b.length ≠ pointLen alg), 0x0401), (decide (byteAt 0 b ≠ 4), 0x0404), (decide (x = 0 ∧ y = 0), 0x0402),
    (decide (p ≤ x ∨ p ≤ y), 0x0402), (decide ((y * y + 3 * x) % p ≠ (x * x * x + curveB alg) % p), 0x0402)]

/-- ECDSA r and s. -/
def ecdsaRange (alg : Nat) (sig : Bytes) : Option Nat :=
  let n := sigLen alg / 2
  let r := beNat (sig.take n)
  let t := beNat (sig.drop n)
  orElse [(decide (r = 0 ∨ curveN alg ≤ r ∨ t = 0 ∨ curveN alg ≤ t), 0x0403)]

/-- The encoded y of an Edwards value. -/
def edY (alg : Nat) (b : Bytes) : Nat := leNat b % 2 ^ (8 * pointLen alg - 1)

/-- An Edwards A or R: the encoding; for A also its order. -/
def edError (alg : Nat) (order : Bool) (b : Bytes) : Option Nat :=
  orElse [(decide (b.length ≠ pointLen alg), 0x0401), (decide (edP alg ≤ edY alg b), 0x0402),
    (!Config.accepts "RFC 8032 decoding" [algArg alg, b], 0x0402),
    (order && !Config.accepts "Edwards point of the prime-order subgroup" [algArg alg, b], 0x0402)]

/-- An X25519 or X448 u. -/
def uError (alg : Nat) (b : Bytes) : Option Nat :=
  orElse [(decide (b.length ≠ pointLen alg), 0x0401), (!Config.accepts "RFC 7748 u of no small order" [algArg alg, b], 0x0402)]

/-- n and e of an RSA key: two fields with 2-byte big-endian lengths (R340, R341). -/
def rsaParts (k : Bytes) : Bytes × Bytes :=
  let n := (k.drop 2).take (beNat (k.take 2))
  let r := k.drop (2 + n.length)
  (n, (r.drop 2).take (beNat (r.take 2)))
def rsaN (k : Bytes) : Nat := beNat (rsaParts k).1
def rsaLen (alg : Nat) : Nat := sigLen alg

/-- An RSA input or signature against its key. -/
def rsaError (alg : Nat) (key x : Bytes) : Option Nat :=
  orElse [(decide (x.length ≠ rsaLen alg), 0x0401), (decide (beNat x = 0 ∨ rsaN key ≤ beNat x), 0x0403)]

/-- An RSA public key in OP_PK_VALIDATE. -/
def rsaKeyError (alg : Nat) (k : Bytes) : Option Nat :=
  let p := rsaParts k
  let n := beNat p.1
  let e := beNat p.2
  orElse [(decide (k.length ≠ 4 + p.1.length + p.2.length ∨ p.1.length ≠ rsaLen alg), 0x0401),
    (decide (n % 2 = 0 ∨ n < 2 ^ (8 * rsaLen alg - 1) ∨ e % 2 = 0 ∨ e < 3), 0x0403),
    ((List.range 65536).any (fun d => decide (2 ≤ d ∧ n % d = 0)), 0x0403)]

/-- An ML-KEM encapsulation key: 12-bit coefficients of the vector before its 32-byte seed. -/
def kemError (alg : Nat) (k : Bytes) : Option Nat :=
  let t := k.take (kemKeyLen alg - 32)
  orElse [(decide (k.length ≠ kemKeyLen alg), 0x0401),
    ((chunks 3 t).any (fun b => decide (3329 ≤ leNat b % 4096 ∨ 3329 ≤ leNat b / 4096)), 0x0403)]

/-- Public key of an ML-DSA or SLH-DSA parameter set (FIPS 204, FIPS 205). -/
def pqKeyLen (alg : Nat) : Nat :=
  match alg with
  | 0x0131 => 1312 | 0x0132 => 1952 | 0x0133 => 2592
  | _ => if alg ≤ 0x0154 then 32 else if alg ≤ 0x0158 then 48 else 64

/-- Any public value under its algorithm code (R342, R364); a code of no public value is no input the operation has (DEDUCED, log entry 24). -/
def valueError (alg : Nat) (v : Bytes) : Option Nat :=
  if isWeierstrass alg then pointError alg v
  else if isEdwards alg then edError alg true v
  else if isMontgomery alg then uError alg v
  else if isRsa alg then rsaKeyError alg v
  else if isMlKem alg then kemError alg v
  else if isMlDsa alg ∨ isSlhDsa alg then orElse [(decide (v.length ≠ pqKeyLen alg), 0x0401)]
  else some 0x0404

/-- A failure, or what follows where nothing fails. -/
def unlessBad (e : Option Nat) (d : Delivered) : Delivered := match e with | some r => bad r | none => d

/-! ### Operations -/

/-- OP_PK_VALIDATE. -/
def execOpPkValidate (slot i : Nat) (s : State) : Res :=
  .next (runPure 0x0101 slot i (fun c _ => unlessBad (if c.aux.length < 2 then some 0x0401 else valueError (leAt 0 2 c.aux) (c.aux.drop 2)) (ok [])) s)

/-- An operation under a private key: it draws its blinding or nonce from the output queue (R346), 32 bytes at least. -/
def withRandom (op slot i n : Nat) (f : Call → Bytes → Delivered) (s : State) : State :=
  runStep op slot i (fun c t => let r := drawBytes n t; (f c r.1, r.2)) s

/-- The state between the two parts of a P-256 signature: r, then the inverse of k (R315, R365). -/
def presignState (c : Call) (r : Bytes) : Bytes := std "ECDSA P-256 presign state" 64 [matA c, r]
/-- A P-256 signature from that state over the hash of the message (R315, R365). -/
def finishSignature (c : Call) (state msg : Bytes) : Bytes := std "ECDSA P-256 signature from a presign state" 64 [matA c, state, sha256 msg]

/-- What passes from the first part of a signature to its second lies in bytes 0x3FC0 to 0x3FFF of the job's operand buffer, marked secret (R365). -/
def keepBetween (slot : Nat) (state : Bytes) (s : State) : State := modJob slot (fun j => { j with buf := bufWrite j.buf 0x3FC0 true state }) s

/-- OP_PK_ECDSA_SIGN: for P-256 a presign and a finish (R365). -/
def execOpPkEcdsaSign (slot i : Nat) (s : State) : Res :=
  .next (runStep 0x0111 slot i (fun c t =>
    let r := drawBytes 80 t
    let p := presignState c r.1
    if c.aux ≠ [] then (bad 0x0401, r.2)
    else if algA c = 0x0101 then (ok (finishSignature c p c.src), keepBetween slot p r.2)
    else (ok (std "ECDSA signature" (sigLen (algA c)) [algArg (algA c), matA c, r.1, curveHash (algA c) c.src]), r.2)) s)

/-- The curve, the public value and the signature of a verification (R794). -/
def verifyParts (op : Nat) (c : Call) : Nat × Bytes × Bytes × Bool :=
  match c.keyA with
  | some k => (k.alg, k.material, c.aux, false)
  | none => let a := inlineAlg op c.aux.length; (a, c.aux.take (pointLen a), c.aux.drop (pointLen a), true)

/-- ECDSA verification; its output is the message digest (R315, R364). -/
def verifyEcdsa (c : Call) : Delivered :=
  let v := verifyParts 0x0112 c
  let d := curveHash v.1 c.src
  unlessBad (((if v.2.2.1.length ≠ sigLen v.1 then some 0x0401 else none).or (if v.2.2.2 then pointError v.1 v.2.1 else none)).or (ecdsaRange v.1 v.2.2.1))
    (if Config.accepts "ECDSA verification" [algArg v.1, v.2.1, v.2.2.1, d] then ok d else bad 0x0405)

/-- OP_PK_ECDSA_VERIFY. -/
def execOpPkEcdsaVerify (slot i : Nat) (s : State) : Res := .next (runPure 0x0112 slot i (fun c _ => verifyEcdsa c) s)

/-- OP_PK_EDDSA_SIGN: for Ed25519 its nonce and R pass between its two parts (R365). -/
def execOpPkEddsaSign (slot i : Nat) (s : State) : Res :=
  .next (runStep 0x0121 slot i (fun c t =>
    let r := drawBytes 32 t
    if c.aux ≠ [] then (bad 0x0401, r.2)
    else (ok (std "EdDSA signature" (sigLen (algA c)) [algArg (algA c), matA c, c.src]),
      if algA c = 0x0111 then keepBetween slot (std "Ed25519 nonce and R" 64 [matA c, c.src]) r.2 else r.2)) s)

/-- OP_PK_EDDSA_VERIFY. -/
def execOpPkEddsaVerify (slot i : Nat) (s : State) : Res :=
  .next (runPure 0x0122 slot i (fun c _ =>
    let v := verifyParts 0x0122 c
    let n := pointLen v.1
    unlessBad ((((if v.2.2.1.length ≠ sigLen v.1 then some 0x0401 else none).or (if v.2.2.2 then edError v.1 true v.2.1 else none)).or
        (edError v.1 false (v.2.2.1.take n))).or (if edL v.1 ≤ leNat (v.2.2.1.drop n) then some 0x0403 else none))
      (if Config.accepts "EdDSA verification" [algArg v.1, v.2.1, v.2.2.1, c.src] then ok [] else bad 0x0405)) s)

/-- OP_PK_ECDH: the shared secret is the x-coordinate, or the RFC 7748 result (R339). -/
def execOpPkEcdh (slot i : Nat) (s : State) : Res :=
  .next (withRandom 0x0131 slot i 32 (fun c _ =>
    let a := algA c
    unlessBad (if isWeierstrass a then pointError a c.aux else uError a c.aux)
      (okSecret (std "key agreement" (if isWeierstrass a then (pointLen a - 1) / 2 else pointLen a) [algArg a, matA c, c.aux]))) s)

/-- OP_PK_RSA_SIGN (R362): PKCS #1 v1.5, or PSS with a random salt. -/
def execOpPkRsaSign (slot i : Nat) (s : State) : Res :=
  .next (withRandom 0x0141 slot i 64 (fun c r => unlessBad (orElse [(decide (c.aux.length ≠ 4), 0x0401)])
    (ok (std "RSA signature" (rsaLen (algA c)) [matA c, c.aux, if byteAt 0 c.aux = 2 then r.take (byteAt 2 c.aux) else [], c.src]))) s)

/-- OP_PK_RSA_VERIFY. -/
def execOpPkRsaVerify (slot i : Nat) (s : State) : Res :=
  .next (runPure 0x0142 slot i (fun c _ => unlessBad (rsaError (algA c) (matA c) (c.aux.drop 4))
    (if Config.accepts "RSA verification" [matA c, c.aux, c.src] then ok [] else bad 0x0405)) s)

/-- OP_PK_RSA_ENCRYPT: OAEP. -/
def execOpPkRsaEncrypt (slot i : Nat) (s : State) : Res :=
  .next (withRandom 0x0143 slot i 64 (fun c r =>
    unlessBad (orElse [(decide (c.aux.length ≠ 4 ∨ rsaLen (algA c) < c.src.length + 2 * hashLen (byteAt 1 c.aux) + 2), 0x0401)])
      (ok (std "RSAES-OAEP encryption" (rsaLen (algA c)) [matA c, c.aux, r, c.src]))) s)

/-- OP_PK_RSA_DECRYPT: OAEP; any decoding failure gives the one result RES_DECRYPT_AUTH. -/
def execOpPkRsaDecrypt (slot i : Nat) (s : State) : Res :=
  .next (withRandom 0x0144 slot i 32 (fun c _ =>
    let args := [matA c, c.aux, c.src]
    let n := beNat (std "RSAES-OAEP message length" 2 args) % (rsaLen (algA c) - 2 * hashLen (byteAt 1 c.aux) - 1)
    unlessBad ((if c.aux.length ≠ 4 then some 0x0401 else none).or (rsaError (algA c) (matA c) c.src))
      (if Config.accepts "RSAES-OAEP decoding" args then ok (std "RSAES-OAEP message" n args) else bad 0x0408)) s)

/-- The context of an ML-DSA or SLH-DSA operation: a length byte and the context; `rest` bytes follow it (R362). -/
def contextError (a : Bytes) (rest : Nat) : Option Nat := orElse [(decide (a = [] ∨ a.length ≠ 1 + byteAt 0 a + rest), 0x0401)]

/-- OP_PK_MLDSA_SIGN: hedged, with 32 random bytes (R346, R347). -/
def execOpPkMldsaSign (slot i : Nat) (s : State) : Res :=
  .next (withRandom 0x0151 slot i 32 (fun c r => unlessBad (contextError c.aux 0)
    (ok (std "ML-DSA signature" (sigLen (algA c)) [algArg (algA c), matA c, r, c.aux, c.src]))) s)

/-- OP_PK_MLDSA_VERIFY. -/
def execOpPkMldsaVerify (slot i : Nat) (s : State) : Res :=
  .next (runPure 0x0152 slot i (fun c _ => unlessBad (contextError c.aux (sigLen (algA c)))
    (if Config.accepts "ML-DSA verification" [algArg (algA c), matA c, c.aux, c.src] then ok [] else bad 0x0405)) s)

/-- The algorithm of an encapsulation key by its length (R339). -/
def kemAlg (n : Nat) : Nat := match n with | 800 => 0x0141 | 1184 => 0x0142 | 1568 => 0x0143 | _ => 0

/-- OP_PK_MLKEM_ENCAPS: the ciphertext, then the secret. -/
def execOpPkMlkemEncaps (slot i : Nat) (s : State) : Res :=
  .next (withRandom 0x0161 slot i 32 (fun c r =>
    let a := kemAlg c.aux.length
    unlessBad (if a = 0 then some 0x0401 else kemError a c.aux)
      { result := 0, secret := true, clear := kemCtLen a,
        bytes := std "ML-KEM ciphertext" (kemCtLen a) [algArg a, c.aux, r] ++ std "ML-KEM shared secret" 32 [algArg a, c.aux, r] }) s)

/-- OP_PK_MLKEM_DECAPS: implicit rejection. -/
def execOpPkMlkemDecaps (slot i : Nat) (s : State) : Res :=
  .next (withRandom 0x0162 slot i 32 (fun c _ => unlessBad (orElse [(decide (c.src.length ≠ kemCtLen (algA c)), 0x0401)])
    (okSecret (std "ML-KEM decapsulation" 32 [algArg (algA c), matA c, c.src]))) s)

/-- OP_PK_SLHDSA_VERIFY. -/
def execOpPkSlhdsaVerify (slot i : Nat) (s : State) : Res :=
  .next (runPure 0x0171 slot i (fun c _ => unlessBad (contextError c.aux (sigLen (algA c)))
    (if Config.accepts "SLH-DSA verification" [algArg (algA c), matA c, c.aux, c.src] then ok [] else bad 0x0405)) s)

/-- The first part of a P-256 signature: r and the inverse of k, secret (R315, R365). -/
def presign (slot i : Nat) (s : State) : State :=
  withRandom 0x0113 slot i 40 (fun c r => okSecret (presignState c r)) s

/-- The finish of a presigned signature over the message digest (R315, R365). -/
def finishPresigned (slot i : Nat) (s : State) : State :=
  runPure 0x0114 slot i (fun c _ => ok (finishSignature c c.src c.aux)) s

/-! ### Self-test -/

/-- A self-test start is not ignored: the engine is in quarantine and no self-test is running (R351). -/
def selftestTaken (engine : Nat) (s : State) : Bool := (mget {} s.sig.engines engine).quarantined && decide (s.sig.stBusy = none)

/-- Start the self-test of an engine, where the start is not ignored (R351). -/
def startSelftest (engine : Nat) (s : State) : State :=
  if selftestTaken engine s then { s with sig := { s.sig with stBusy := some engine } } else s

/-- The 32-bit word at an offset of the Signing plane page (R367 to R372). -/
def sigWord (s : State) (off : Nat) : Nat :=
  let g := s.sig
  let quar := fun (lo : Nat) => ((List.range 32).map (fun i => if (mget {} g.engines (lo + i)).quarantined then 2 ^ i else 0)).sum
  match off with
  | 0x100 => g.imageVersion.toNat + 2 ^ 16 * g.securityVersion.toNat + 2 ^ 31 * b2n g.verified
  | 0x104 => g.algs.toNat
  | 0x108 => b2n g.boostAllow + 2 * b2n g.boosted
  | 0x10C => quar 0
  | 0x110 => quar 32
  | 0x114 => g.stEngine.toNat + 2 ^ 16 * g.stLast.toNat + 2 ^ 29 * b2n g.stBusy.isSome + 2 ^ 30 * g.stResult.toNat
  | 0x118 => g.faults.toNat
  | 0x11C => g.rejects.toNat
  | 0x120 => g.cutoffs.toNat
  | _ => 0

/-- The effect of a 32-bit write in the Signing plane page (R351, R369, R371). -/
def sigWriteWord (off v : Nat) (s : State) : State :=
  match off with
  | 0x108 => { s with sig := { s.sig with boostAllow := bit 0 v } }
  | 0x114 =>
    let s1 := { s with sig := { s.sig with stEngine := BitVec.ofNat 6 v } }
    if bit 8 v then startSelftest (v % 64) s1 else s1
  | _ => s

/-- Offsets of the Signing plane page with an audited field (R369, R371). -/
def sigAudited (off : Nat) : Bool := decide (off = 0x108 ∨ off = 0x114)

/-- What a read clears in the Signing plane page (R372). -/
def sigReadEffect (off : Nat) (s : State) : State := if off = 0x11C then { s with sig := { s.sig with rejects := 0 } } else s

/-- SIG_SELFTEST_START (R351, R371): the CONFIG record shows the start written, as it is W1S, where it is not ignored (R462, R789). -/
def execSigSelftestStart (m : Master) (engine : Nat) (s : State) : Res :=
  let v := 256 + engine % 64
  .next (audited (mkPage 1 0 0 0 * 0x1000 + 0x114) m 4 (fun s => sigWord s 0x114) (fun t => 256 * b2n (selftestTaken (engine % 64) t)) (sigWriteWord 0x114 v) s)

/-- SIG_SELFTEST_END (R351): a pass releases the engine, a fail puts it in FAILED. -/
def execSigSelftestEnd (passed : Bool) (s : State) : Res :=
  .next <|
    match s.sig.stBusy with
    | none => s
    | some e =>
      let p := enginePage 0 e
      let s1 := { s with sig := { s.sig with stBusy := none, stLast := BitVec.ofNat 6 e, stResult := if passed then 1 else 2,
                                             engines := mupd {} s.sig.engines e (fun x => { x with quarantined := false }) } }
      if (unitAt s p).state ≠ .isolated then s1
      else if passed then raise p 0x020A e (releaseUnit p s1)
      else failUnit p (raise p 0x020B e s1)

end Sys2Proof.Machine
end

