-- ==== Sys2Proof/Machine/KeyOps.lean ====
section
/-!
DEFINITION. Sys2Proof/Machine/KeyOps.lean: the key management opcodes (R265 to R277), key fills, flushes and the rebuild (R247 to R250, R284), sessions
(R270, R271, R275) and the key store registers (R278 to R287).
-/
namespace Sys2Proof.Machine
open Sys2Proof

/-! ### Creating keys -/

/-- The policy template of R265: bytes 16 to 63 of R239 in slot 1 of the entry. -/
def templateOf (c : Call) : Bytes := slotAt 1 c.job.slots

/-- A template is well formed (R265). -/
def templateOk (t : Bytes) : Bool :=
  decide (leAt 0 4 t < 2 ^ 23 ∧ byteAt 7 t < 8 ∧ byteAt 4 t ≤ 3 ∧ byteAt 5 t ≤ 3 ∧ byteAt 6 t ≤ 16 ∧ leAt 10 2 t ≤ 1023) && allZero (slice 48 16 t)
    && (bit 0 (byteAt 7 t) || decide (leAt 10 2 t = 0))

/-- A key of a class, algorithm and material under a template (R239, R265): derive_only comes from the class. -/
def fromTemplate (t : Bytes) (cls alg usage exportTo : Nat) (generated : Bool) (material : Bytes) (epoch : Nat) : KeyBlock :=
  { blocks := keyBlocks material.length, cls := cls, alg := alg, usage := BitVec.ofNat 32 usage, ceiling := byteAt 4 t, exportTo := exportTo,
    quorum := byteAt 6 t, sessionBound := bit 0 (byteAt 7 t), deriveOnly := decide (cls = 1 ∨ cls = 4), generated := generated, zone := byteAt 8 t,
    version := byteAt 9 t, application := leAt 10 2 t, lastEpoch := leAt 12 4 t, partners := BitVec.ofNat 256 (leAt 16 32 t), created := epoch,
    material := material }

/-- Store a new key at a block number: its handle, its seal, and its replication where it is a zone root (R236, R239, R240, R702). Answers the
handle; none where no nonce is left to seal it with (R393). -/
def placeKey (b : Nat) (k : KeyBlock) (s : State) : Option (Nat × State) :=
  let h := mkHandle s.keys.domain k.cls (mget 0 s.keys.gens b) b
  (sealKey { k with handle := h } true s).map (fun r => (h, keyChanged b (intoCache b (putKey b r.1 r.2))))

/-- Create a key at the lowest run that fits it (R244) and answer its handle with more output bytes. -/
def createKey (c : Call) (k : KeyBlock) (more : Bytes) (s : State) : Delivered × State :=
  if c.job.hdr.outLen < 8 + more.length then (bad 0x0407, s)
  else match freeRun s k.blocks with
    | none => (bad 0x0309, s)
    | some b => match placeKey b k s with
      | some r => (ok (leBytes 8 r.1 ++ more), r.2)
      | none => (bad 0x0907, s)

/-- Bytes of a symmetric algorithm's key. -/
def symLen (alg : Nat) : Nat :=
  match alg with
  | 0x0001 => 16 | 0x0002 => 24 | 0x0003 => 32 | 0x0011 => 16 | 0x0012 => 24 | 0x0021 => 32 | _ => 48

/-- The classes that OP_KEY_GENERATE makes: zone roots, symmetric keys and private keys (DEDUCED, log entry 26). -/
def generable (cls : Nat) : Bool := decide (cls = 0x04 ∨ (0x10 ≤ cls ∧ cls ≤ 0x33)) && decide (cls ∈ keyClasses)

/-- A generated key pair: private material as R341 lays it out, and the public value (R340). -/
def keyPair (alg : Nat) (rand : Bytes) : Bytes × Bytes :=
  if isMlDsa alg then (rand.take 32, std "ML-DSA public key" (pqKeyLen alg) [algArg alg, rand.take 32])
  else if isMlKem alg then (rand.take 64, std "ML-KEM encapsulation key" (kemKeyLen alg) [algArg alg, rand.take 64])
  else if alg = 0x0160 then
    let d := beBytes 48 (1 + beNat (rand.take 56) % (orderP384 - 1))
    let seed := slice 56 64 (rand ++ rand)
    (d ++ seed, pointP384 d ++ std "ML-KEM encapsulation key" (kemKeyLen 0x0143) [algArg 0x0143, seed])
  else if isRsa alg then
    let n := rsaLen alg
    let part := fun (name : String) (len : Nat) => beBytes 2 len ++ std name len [algArg alg, rand]
    let e := beBytes 2 3 ++ beBytes 3 65537
    (part "RSA n" n ++ e ++ part "RSA p" (n / 2) ++ part "RSA q" (n / 2) ++ part "RSA dp" (n / 2) ++ part "RSA dq" (n / 2) ++ part "RSA qinv" (n / 2),
      part "RSA n" n ++ e)
  else
    let m := match alg with | 0x0101 => 32 | 0x0102 => 48 | 0x0103 => 66 | 0x0111 => 32 | 0x0112 => 57 | 0x0113 => 32 | _ => 56
    let secret := std "private key" m [algArg alg, rand]
    let pub := std "public value" (pointLen alg) [algArg alg, secret]
    (secret ++ pub, pub)

/-- OP_KEY_GENERATE (R276). -/
def execOpKeyGenerate (slot i : Nat) (s : State) : Res :=
  .next (runStep 0x0501 slot i (fun c t =>
    let cls := byteAt 0 c.src
    let alg := leAt 2 2 c.src
    let tm := templateOf c
    if byteAt 1 c.src ≠ 0 ∨ ¬ generable cls ∨ ¬ alg ∈ classAlgs cls ∨ ¬ templateOk tm then (bad 0x0404, t)
    else
      let r := drawBytes 128 t
      let pair := decide (0x30 ≤ cls)
      let m := if pair then keyPair alg r.1 else (r.1.take (symLen alg), [])
      createKey c (fromTemplate tm cls alg (leAt 0 4 tm) (byteAt 5 tm) true m.1 t.sched.epoch.toNat) m.2 r.2) s)

/-! ### Import -/

/-- Characters as numbers. -/
def decimalAt (o n : Nat) (b : Bytes) : Option Nat :=
  (slice o n b).foldl (fun r c => match r with | some v => if 0x30 ≤ c.toNat ∧ c.toNat ≤ 0x39 then some (10 * v + (c.toNat - 0x30)) else none | none => none) (some 0)
def hexDigit (c : Byte) : Option Nat :=
  let v := c.toNat
  if 0x30 ≤ v ∧ v ≤ 0x39 then some (v - 0x30) else if 0x41 ≤ v ∧ v ≤ 0x46 then some (v - 0x37) else none
def hexBytes (b : Bytes) : Option Bytes :=
  if b.length % 2 = 1 then none
  else match b.mapM hexDigit with | some ds => some (ofNibbles ds) | none => none

/-- An optional block with its content is well formed: KS carries hexadecimal digits, PB comes last, every other block is carried as it is (R266; PRESUMED, log
entry 27). -/
def optionalOk (id content : Bytes) (last : Bool) : Bool :=
  if id = ascii "KS" then (hexBytes content).isSome else if id = ascii "PB" then last else true

/-- Go past the optional blocks of an X9.143 key block: 2-character identifier, 2 hexadecimal digits of length, content (R266; PRESUMED, log entry 27). -/
def skipOptional : Nat → Bytes → Option Bytes
  | 0, b => some b
  | n + 1, b =>
    match hexBytes (slice 2 2 b) with
    | some [l] => if 4 ≤ l.toNat ∧ l.toNat ≤ b.length ∧ optionalOk (b.take 2) (slice 4 (l.toNat - 4) b) (decide (n = 0)) then skipOptional n (b.drop l.toNat) else none
    | _ => none

/-- TDES-CMAC, 8 bytes. -/
def cmacT (k m : Bytes) : Bytes :=
  let dbl := fun (x : BitVec 64) => (x <<< 1) ^^^ (if x.getLsbD 63 then 0x1B else 0)
  let k1 := dbl (BitVec.ofNat 64 (beNat (tdesE k (zeros 8))))
  let n := if m = [] then 1 else ceilDiv m.length 8
  let last := m.drop ((n - 1) * 8)
  let tail := if last.length = 8 then xorBytes last (beBytes 8 k1.toNat) else xorBytes (fit 8 (last ++ [0x80])) (beBytes 8 (dbl k1).toNat)
  tdesE k (xorBytes (cbcMac (tdesE k) 8 (m.take ((n - 1) * 8))) tail)

/-- The encryption (use 0) or authentication (use 1) key that a protecting key gives (X9.143; PRESUMED, log entry 27). -/
def blockKey (alg : Nat) (k : Bytes) (use : Nat) : Bytes :=
  let code := match alg with | 0x0001 => 2 | 0x0002 => 3 | 0x0003 => 4 | _ => 1
  let len := 8 * symLen alg
  let one := fun (i : Nat) => let d := leBytes 1 i ++ beBytes 2 use ++ [0] ++ beBytes 2 code ++ beBytes 2 len; if isTdes alg then cmacT k d else cmac k d
  ((List.range 3).flatMap (fun i => one (i + 1))).take (symLen alg)

/-- What R267 gives a key usage field: class and usage bits; none for any other. -/
def usageField (u : String) (aes : Bool) : Option (Nat × Nat) :=
  match u with
  | "B0" => some (0x24, 0x80000) | "C0" => some (0x21, 0x6000) | "D0" => some (if aes then 0x10 else 0x13, 0x3) | "E0" => some (0x22, 0x18000)
  | "K0" => some (0x11, 0x10000C) | "M1" => some (0x14, 0x30) | "M3" => some (0x14, 0x30) | "M6" => some (0x12, 0x30) | "P0" => some (0x20, 0xC00)
  | "V0" => some (0x23, 0x1000)
  | _ => none

/-- The usage bits that a mode of use removes (R267); none for any other mode. -/
def modeRemoves (m : Byte) : Option Nat :=
  match Char.ofNat m.toNat with
  | 'E' => some (0x2 + 0x8 + 0x20 + 0x4000 + 0x8000 + 0x400 + 0x100000)
  | 'G' => some (0x2 + 0x8 + 0x20 + 0x4000 + 0x8000 + 0x400 + 0x100000)
  | 'D' => some (0x1 + 0x4 + 0x10 + 0x2000 + 0x10000 + 0x800)
  | 'V' => some (0x1 + 0x4 + 0x10 + 0x2000 + 0x10000 + 0x800)
  | 'B' => some 0 | 'C' => some 0 | 'N' => some 0
  | _ => none

/-- The characters of bytes. -/
def chars (b : Bytes) : String := String.ofList (b.map (fun c => Char.ofNat c.toNat))

/-- An X9.143 key block opened (R266, R267): class, algorithm, usage bits, whether exportability is N, and the key; or the result it fails with. -/
def openX9143 (alg : Nat) (k block : Bytes) : Except Nat (Nat × Nat × Nat × Bool × Bytes) :=
  let tdes := isTdes alg
  let macLen := if tdes then 8 else 16
  let version := chars (block.take 1)
  let aes := decide (chars (slice 7 1 block) = "A")
  match usageField (chars (slice 5 2 block)) aes, modeRemoves (block.getD 8 0), decimalAt 1 4 block, decimalAt 12 2 block with
  | some (cls, usage), some removed, some len, some n =>
    match (if len = block.length ∧ 16 < len then skipOptional n (block.drop 16) else none) with
    | none => .error 0x0307
    | some body =>
      match hexBytes body with
      | none => .error 0x0307
      | some raw =>
        let ct := raw.take (raw.length - macLen)
        let mac := raw.drop (raw.length - macLen)
        let e := chars (slice 11 1 block)
        if version ≠ (if tdes then "B" else "D") ∨ raw.length < 2 * macLen ∨ ct.length % macLen ≠ 0 ∨ ¬ (e = "E" ∨ e = "S" ∨ e = "N") then .error 0x0307
        else
          let pt := cbcD alg (blockKey alg k 0) mac ct
          let header := block.take (block.length - body.length)
          let made := (if tdes then cmacT (blockKey alg k 1) (header ++ pt) else cmac (blockKey alg k 1) (header ++ pt))
          if made ≠ mac then .error 0x0308
          else
            let m := (pt.drop 2).take (beNat (pt.take 2) / 8)
            let code := match chars (slice 7 1 block), m.length with
              | "A", 16 => 0x0001 | "A", 24 => 0x0002 | "A", 32 => 0x0003 | "T", 16 => 0x0011 | "T", 24 => 0x0012 | _, _ => 0
            if code = 0 ∨ ¬ code ∈ classAlgs cls ∨ beNat (pt.take 2) % 8 ≠ 0 then .error 0x0307
            else .ok (cls, code, (usage &&& (2 ^ 23 - 1 - removed)), decide (e = "N"), m)
  | _, _, _, _ => .error 0x0307

/-- Import of a key block of at most 4,096 bytes under a protecting key (R266, R267). -/
def importBlock (c : Call) (alg : Nat) (k block : Bytes) (s : State) : Delivered × State :=
  let t := templateOf c
  if ¬ templateOk t then (bad 0x0404, s)
  else if 4096 < block.length then (bad 0x0307, s)
  else match openX9143 alg k block with
    | .error r => (bad r, s)
    | .ok (cls, code, usage, never, m) =>
      createKey c (fromTemplate t cls code (usage &&& leAt 0 4 t) (if never then 0 else byteAt 5 t) false m s.sched.epoch.toNat) [] s

/-- OP_KEY_IMPORT_X9143 (R266, R267). -/
def execOpKeyImportX9143 (slot i : Nat) (s : State) : Res :=
  .next (runStep 0x0502 slot i (fun c t => importBlock c (algA c) (matA c) c.src t) s)

/-- OP_KEY_IMPORT_RKL (R268). -/
def execOpKeyImportRkl (slot i : Nat) (s : State) : Res :=
  .next (runStep 0x0503 slot i (fun c t =>
    let x := c.src
    let b := leAt 1665 2 x
    let o := 1667 + b
    let n := leAt o 2 x
    let msg := x.take (o + 2)
    let point := x.take 97
    let checked := if algB c = 0x0102 then Config.accepts "ECDSA verification" [algArg 0x0102, matB c, x.drop (o + 2), sha384 msg]
      else Config.accepts "ML-DSA verification" [algArg (algB c), matB c, [0] ++ x.drop (o + 2), msg]
    if (pointError 0x0102 point).isSome then (bad 0x0402, t)
    else if x.length ≠ o + 2 + n then (bad 0x0307, t)
    else if ¬ checked then (bad 0x0405, t)
    else
      let z := std "key agreement" 48 [algArg 0x0102, (matA c).take 48, point] ++ std "ML-KEM decapsulation" 32 [algArg 0x0143, (matA c).drop 48, slice 97 1568 x]
      importBlock c 0x0003 ((sha384 (ascii "RKL1" ++ z ++ sha384 msg)).take 32) (slice 1667 b x) t) s)

/-- OP_KEY_IMPORT_PUBLIC (R276): class, 0, algorithm, public key (DEDUCED, log entry 25). -/
def execOpKeyImportPublic (slot i : Nat) (s : State) : Res :=
  .next (runStep 0x0504 slot i (fun c t =>
    let cls := byteAt 0 c.src
    let alg := leAt 2 2 c.src
    let v := c.src.drop 4
    let tm := templateOf c
    if byteAt 1 c.src ≠ 0 ∨ ¬ (cls = 5 ∨ cls = 6 ∨ (0x40 ≤ cls ∧ cls ≤ 0x43)) ∨ ¬ alg ∈ classAlgs cls ∨ ¬ templateOk tm then (bad 0x0404, t)
    else match valueError alg v with
      | some r => (bad r, t)
      | none => createKey c (fromTemplate tm cls alg (leAt 0 4 tm) (byteAt 5 tm) false v t.sched.epoch.toNat) [] t) s)

/-! ### Information and changes -/

/-- The key that a handle names as the store stands now: block number, generation and class agree (R236, R277). -/
def keyNamed (s : State) (h : Nat) : Option KeyBlock :=
  match keyAt s (handleBlock h) with
  | some k => if handleGen k.handle = handleGen h ∧ handleClass k.handle = handleClass h then some k else none
  | none => none

/-- The key an opcode acts on (R276). -/
def subjectOf (c : Call) (s : State) : Option KeyBlock := keyNamed s (selected c.job c.step.selA)

/-- Public material of a key (R276, R340, R341). -/
def publicOf (k : KeyBlock) : Bytes :=
  match k.cls with
  | 0x30 => k.material.drop (k.material.length - pointLen k.alg)
  | 0x02 => if k.alg = 0x0102 then pointP384 k.material else std "ML-DSA public key" (pqKeyLen k.alg) [algArg k.alg, k.material]
  | 0x03 => pointP384 k.material
  | 0x31 => let p := rsaParts k.material; k.material.take (4 + p.1.length + p.2.length)
  | 0x32 => std "ML-DSA public key" (pqKeyLen k.alg) [algArg k.alg, k.material]
  | 0x33 =>
    if k.alg = 0x0160 then pointP384 (k.material.take 48) ++ std "ML-KEM encapsulation key" (kemKeyLen 0x0143) [algArg 0x0143, k.material.drop 48]
    else std "ML-KEM encapsulation key" (kemKeyLen k.alg) [algArg k.alg, k.material]
  | _ => if 0x40 ≤ k.cls ∨ k.cls = 5 ∨ k.cls = 6 then k.material else []

/-- OP_KEY_INFO (R276): the check value of a key that is neither AES nor TDES is a free value (DESIGN CHOICE, log entry 29). -/
def execOpKeyInfo (slot i : Nat) (s : State) : Res :=
  .next (runStep 0x0505 slot i (fun c t =>
    match subjectOf c t with
    | none => (bad 0x0301, t)
    | some k =>
      let kcv := if isAes k.alg then (fit 8 ((cmac k.material (zeros 16)).take 5), t)
        else if isTdes k.alg then (fit 8 ((tdesE k.material (zeros 8)).take 3), t)
        else drawBytes 8 t
      (ok (blockHead k ++ kcv.1 ++ publicOf k), kcv.2)) s)

/-- The bytes that R461 digests for a job. -/
def digested (j : Job) : Bytes := unstamped j.slots ++ (if j.inputRead then j.input else [])

/-- Open a request for a job (R648) and answer RES_OK_PENDING. -/
def pendingRequest (c : Call) (action subject quorum : Nat) (input : Bytes) (s : State) : Delivered × State :=
  ({ result := 1 }, openRequest action subject quorum c.step.opcode (digested c.job) input s)

/-- A key's status is rewritten (R277). -/
def setStatus (b status : Nat) (s : State) : State := keyChanged b (dropFromBays b (reseal b (fun k => { k with status := status }) s))

/-- Send a key to the peers of a mask (R269, R702). -/
def replicateKey (b mask : Nat) (s : State) : State := noteChange b mask s

/-- What a change of R276 does when it takes effect: at the end of its step, or when its request is MET (R650); no step is bound between that end and the swath's
close (R277). `h` is the handle that the opcode named, `input` its input. Without a nonce nothing is resealed (R393; DESIGN CHOICE, log entry 85). -/
def keyChange (opcode h : Nat) (input : Bytes) (s : State) : Delivered × State :=
  let b := handleBlock h
  match keyNamed s h with
  | none => (bad 0x0301, s)
  | some k =>
    if (opcode = 0x0506 ∨ opcode = 0x0507) ∧ (takeNonce keyPage s).isNone then (bad 0x0907, s)
    else match opcode with
    | 0x0506 => if k.status = 2 then (bad 0x0306, s) else (ok [], setStatus b (byteAt 0 input) s)
    | 0x0507 => (ok [], setStatus b 2 s)
    | 0x0508 => (ok [], destroyKey b s)
    | _ => (ok [], replicateKey b (byteAt 0 input) s)

/-- A change of a key: checked, then pending where the key has a quorum, else made now (R276). -/
def changeKey (c : Call) (check : KeyBlock → Option Nat) (s : State) : Delivered × State :=
  let h := selected c.job c.step.selA
  match subjectOf c s with
  | none => (bad 0x0301, s)
  | some k =>
    match check k with
    | some r => (bad r, s)
    | none => if 0 < k.quorum then pendingRequest c 0x08 h k.quorum c.src s else keyChange c.step.opcode h c.src s

/-- OP_KEY_SET_STATUS (R276, R277). -/
def execOpKeySetStatus (slot i : Nat) (s : State) : Res :=
  .next (runStep 0x0506 slot i (fun c t => changeKey c (fun k => if 1 < byteAt 0 c.src then some 0x0404 else if k.status = 2 then some 0x0306 else none) t) s)

/-- OP_KEY_REVOKE (R276, R277). -/
def execOpKeyRevoke (slot i : Nat) (s : State) : Res := .next (runStep 0x0507 slot i (fun c t => changeKey c (fun _ => none) t) s)

/-- OP_KEY_DESTROY (R244, R277). -/
def execOpKeyDestroy (slot i : Nat) (s : State) : Res := .next (runStep 0x0508 slot i (fun c t => changeKey c (fun _ => none) t) s)

/-- OP_KEY_REPLICATE (R269): export 1 or 3 and usage replicate. -/
def execOpKeyReplicate (slot i : Nat) (s : State) : Res :=
  .next (runStep 0x0509 slot i (fun c t => changeKey c (fun k => if k.exportTo % 2 = 1 ∧ k.usage.getLsbD 21 then none else some 0x0905) t) s)

/-! ### Pins -/

/-- OP_KEY_PIN (R248): into the bays of all four clusters, within the limit. -/
def execOpKeyPin (slot i : Nat) (s : State) : Res :=
  .next (runStep 0x050A slot i (fun c t =>
    match subjectOf c t with
    | none => (bad 0x0301, t)
    | some k =>
      let b := handleBlock k.handle
      if b ∈ t.keys.pins then (ok [], t) else if pinFits t k then (ok [], pinKey b k t) else (bad 0x0309, t)) s)

/-- OP_KEY_UNPIN (R248): its entries stay, unpinned. -/
def execOpKeyUnpin (slot i : Nat) (s : State) : Res :=
  .next (runStep 0x050B slot i (fun c t => if (subjectOf c t).isNone then (bad 0x0301, t) else (ok [], unpinKey (handleBlock (selected c.job c.step.selA)) t)) s)

/-- The event of a bay that could not take a fill (R497). -/
def bayFull (bay handle : Nat) (s : State) : State :=
  if bay < 4 then raise (bayPage bay) (0x0214 + bay) handle s else raise (bayPage bay) (0x0310 + (bay - 4)) handle s

/-- KEY_FILL_DONE (R245, R247, R250): the key store has unsealed a key into a bay; a pinned key that was not reloaded yet is pinned there. -/
def execKeyFillDone (block bay : Nat) (s : State) : Res :=
  .next <|
    if ¬ (block, bay) ∈ s.keys.fills then s
    else
      let s1 := { s with keys := { s.keys with fills := s.keys.fills.filter (fun f => decide (f ≠ (block, bay))) } }
      match keyAt s block with
      | none => s1
      | some k =>
        let s2 := loadBay block k bay (intoCache block s1)
        if bayHolds s2 bay block then s2 else bayFull bay k.handle s2

/-- KEY_CACHE_REBUILD_BLOCK (R77, R83, R250): the rebuild reloads its next pinned key into its bays; with none left it has ended. -/
def execKeyCacheRebuildBlock (s : State) : Res :=
  .next <| maintStep 3 s fun s =>
    match s.keys.rebuild with
      | [] => raise keyPage 0x0518 0 (endActivity 3 s)
      | b :: rest =>
        let s1 := { s with keys := { s.keys with rebuild := rest } }
        let s2 := match keyAt s1 b with
          | some k => forAll (classBays k.cls) (loadBay b k) (intoCache b s1)
          | none => s1
        if rest = [] then raise keyPage 0x0518 0 (endActivity 3 s2) else safePoint 3 s2

/-! ### Root loading, tenant signers and sessions -/

/-- OP_KEY_ROOT_LOAD (R254, R648): JOIN or GENERATE, as BND_CER_ROOT.mode says. -/
def execOpKeyRootLoad (slot i : Nat) (s : State) : Res :=
  .next (runStep 0x050C slot i (fun c t => pendingRequest c (if t.ceremony.generate then 0x03 else 0x02) 0 0 [] t) s)

/-- OP_KEY_TENANT_SIGNER (R276, R648). -/
def execOpKeyTenantSigner (slot i : Nat) (s : State) : Res :=
  .next (runStep 0x050D slot i (fun c t => pendingRequest c 0x07 0 0 (leBytes 8 (selected c.job c.step.selA)) t) s)

/-- The block number of an application's key (R270). -/
def appBlock (n : Nat) : Nat := 0x0100 + n

/-- OP_SES_APP_ENROL (R270): the key replaces an earlier one and the application's sessions close. A number above 1,023 is out of range (DEDUCED, log
entry 28). -/
def execOpSesAppEnrol (slot i : Nat) (s : State) : Res :=
  .next (runStep 0x0510 slot i (fun c t =>
    let n := leAt 0 2 c.src
    let p := c.src.drop 2
    match (if 1023 < n then some 0x0403 else pointError 0x0102 p) with
    | some r => (bad r, t)
    | none =>
      let b := appBlock n
      let t0 := closeSessionsOf (some n) t
      let t1 := if (keyAt t b).isSome then destroyKey b t0 else t0
      match placeKey b { cls := 0x05, alg := 0x0102, usage := 0x80, created := t.sched.epoch.toNat, material := p } t1 with
      | some r => (ok (leBytes 8 r.1), r.2)
      | none => (bad 0x0907, t)) s)

/-- The lowest session number that is free, where one is (R271, R275). -/
def freeSession (s : State) : Option Nat := (List.range 1024).find? (fun n => (mfind n s.keys.sessions).isNone)

/-- OP_SES_OPEN (R271, R275). The application number must be that of the key in key_a (DEDUCED, log entry 28). -/
def execOpSesOpen (slot i : Nat) (s : State) : Res :=
  .next (runStep 0x0511 slot i (fun c t =>
    let x := c.src
    let n := leAt 0 2 x
    let point := slice 36 97 x
    let ek := slice 133 1184 x
    if 1023 < n ∨ (keyAt t (appBlock n)).isNone ∨ handleBlock (selected c.job c.step.selA) ≠ appBlock n then (bad 0x0806, t)
    else if leAt 2 2 x ≠ 0 then (bad 0x0404, t)
    else if ¬ Config.accepts "ECDSA verification" [algArg 0x0102, matA c, x.drop 1317, sha384 (x.take 1317)] then (bad 0x0405, t)
    else if (pointError 0x0102 point).isSome then (bad 0x0402, t)
    else if (kemError 0x0142 ek).isSome then (bad 0x0403, t)
    else match freeSession t with
      | none => (bad 0x0805, t)
      | some num =>
        let nonce := drawBytes 32 t
        let d := drawScalar nonce.2
        let r := drawBytes 112 d.2
        let out := leBytes 2 num ++ zeros 2 ++ nonce.1 ++ pointP384 d.1 ++ std "ML-KEM ciphertext" 1088 [algArg 0x0142, ek, r.1.take 32]
        let z := std "key agreement" 48 [algArg 0x0102, d.1, point] ++ std "ML-KEM shared secret" 32 [algArg 0x0142, ek, r.1.take 32]
        let tr := sha384 (x ++ out)
        let tag := (sha384 (ascii "SES1" ++ z ++ tr)).take 32
        (ok (out ++ std "ECDSA signature" 96 [algArg 0x0102, nameScalar t, r.1.drop 32, curveHash 0x0102 tr]),
          { r.2 with keys := { r.2.keys with opened := r.2.keys.opened + 1, sessions := mput num { application := n, tagKey := tag, opened := r.2.keys.opened + 1 } r.2.keys.sessions } })) s)

/-- OP_SES_CLOSE (R273, R275); without a session in the entry it fails with RES_SESSION_REQUIRED (DEDUCED, log entry 28). -/
def execOpSesClose (slot i : Nat) (s : State) : Res :=
  .next (runStep 0x0512 slot i (fun c t =>
    match c.job.session with
    | none => (bad 0x0801, t)
    | some n => if (jobSession t c.job).isNone then (bad 0x0802, t) else (ok [], closeSession n t)) s)

/-! ### Registers -/

/-- The page of the key store registers. -/
def keyTile : Nat := mkPage 4 2 4 0

/-- The 32-bit word at an offset of the key store tile page (R278 to R287). -/
def keyWord (s : State) (off : Nat) : Nat :=
  let k := s.keys
  let y := bayAt s k.baySel.toNat
  match off with
  | 0x100 => blocksInUse s
  | 0x104 => cacheHeld s
  | 0x108 => k.pinLimit.toNat
  | 0x10C => k.baySel.toNat
  | 0x110 => bayUsed y + 2 ^ 16 * bayPinned y
  | 0x114 => y.hits.toNat
  | 0x118 => y.misses.toNat
  | 0x120 => k.sessions.length
  | 0x124 => k.sesFail.toNat
  | 0x128 => k.failLimit.toNat
  | _ => 0

/-- A refused write raises the Control plane's WRITE_REFUSED code (R497). -/
def refuseWrite (page off : Nat) (s : State) : State := raise page (commonCode page 6) off s

/-- The effect of a 32-bit write in the key store tile page (R280, R281, R284, R287). -/
def keyWriteWord (off v : Nat) (s : State) : State :=
  let k := s.keys
  match off with
  | 0x108 =>
    let n := v % 2 ^ 13
    if 4096 < n ∨ (List.range 8).any (fun b => decide (n < bayPinned (bayAt s b))) then refuseWrite keyTile off s
    else { s with keys := { k with pinLimit := BitVec.ofNat 13 n } }
  | 0x10C => { s with keys := { k with baySel := BitVec.ofNat 3 v } }
  | 0x11C =>
    { s with keys := { k with bays := mapTotal {} (fun b y => if bit b (v % 256) then { y with entries := y.entries.filter (fun e => e.pinned) } else y) k.bays } }
  | 0x128 => if v % 256 = 0 then refuseWrite keyTile off s else { s with keys := { k with failLimit := BitVec.ofNat 8 v } }
  | _ => s

/-- What a read clears (R283, R286). -/
def keyReadEffect (off : Nat) (s : State) : State :=
  let k := s.keys
  match off with
  | 0x114 => modBay k.baySel.toNat (fun y => { y with hits := 0 }) s
  | 0x118 => modBay k.baySel.toNat (fun y => { y with misses := 0 }) s
  | 0x124 => { s with keys := { k with sesFail := 0 } }
  | _ => s

/-- Offsets with an audited field. -/
def keyAudited (off : Nat) : Bool := decide (off = 0x108 ∨ off = 0x11C ∨ off = 0x128)

/-- KEY_BAY_FLUSH (R284). -/
def execKeyBayFlush (m : Master) (bays : Nat) (s : State) : Res :=
  .next (audited (keyTile * 0x1000 + 0x11C) m 4 (fun s => keyWord s 0x11C) (fun _ => bays % 256) (keyWriteWord 0x11C bays) s)

end Sys2Proof.Machine
end

