-- ==== Sys2Proof/Machine/Vault.lean ====
section
/-!
DEFINITION. Sys2Proof/Machine/Vault.lean: the token vault at work: NAND reads, programs and erases (R425 to R430, R439 to R441), the journal
(R431 to R433), issues and their mirroring (R413 to R420, R434 to R436), the vault opcodes (R444 to R446), maintenance (R443) and the VLT_
registers (R448 to R456).
-/
namespace Sys2Proof.Machine
open Sys2Proof

/-- The Vault plane's page, and the holder of the record engines' nonce block (R390). -/
def vaultPage : Nat := mkPage 3 0 0 0
def recordHolder : Nat := mkPage 3 2 0 0

/-- Change the vault. -/
def modVault (f : Vault → Vault) (s : State) : State := { s with vault := f s.vault }

/-! ### Where things are -/

/-- What a step has to read before it can run (R424, R425). -/
def targetMissing (s : State) (step : Nat × Nat) : NandTarget → Bool
  | .quarter l q => quarterMissing s (l * 64 + q * 16) && !s.vault.landed.any (fun r => decide (r.job = some step ∧ r.target = .quarter l q))
  | .panPage p => !decide (p ∈ s.vault.panPages)

/-- Bring into a least-recently-used list of at most `n`. -/
def lruPut (n k : Nat) (l : List Nat) : List Nat := (k :: l.filter (fun x => decide (x ≠ k))).take n

/-- What was read: a quarter goes to the step that needs it; of PAN index pages the 2^20 last used are cached (R424, R425; DEDUCED, log entry 50). -/
def cacheTarget (r : NandRead) (s : State) : State :=
  match r.target with
  | .quarter _ _ => if r.job.isSome then modVault (fun v => { v with landed := v.landed ++ [r] }) s else s
  | .panPage p => modVault (fun v => { v with panPages := lruPut (2 ^ 20) p v.panPages }) s

/-- The block and plane of a read. -/
def readBlock (s : State) (t : NandTarget) : Nat := match t with | .quarter l _ => (leafBlock s l).getD 0 | .panPage _ => 0

/-- A read is for a class 0 job. -/
def readsClass0 (s : State) (job : Option (Nat × Nat)) : Bool :=
  match job with | some (k, _) => (match jobAt s k with | some j => decide (j.hdr.cls = 0) | none => false) | none => false

/-- The command for a read goes to its channel. -/
def sendRead (t : NandTarget) (s : State) : State :=
  match t with
  | .quarter l q => (match mfind l s.vault.homes with | some h => emit (.nand "read" (h / 1024) (h / 4 % 256 * 16 + h % 4 * 4 + q)) s | none => s)
  | .panPage p => emit (.nand "read index page" 0 p) s

/-- A class 0 read takes its plane: what is programmed or erased there is suspended, and a read of classes 1 to 3 there is aborted (R427). -/
def takePlane (p : Nat) (s : State) : State :=
  modVault (fun v => { v with
    planes := if (mget {} v.planes p).busy then mupd {} v.planes p (fun x => { x with suspended := true }) else v.planes
    reads := v.reads.map (fun r => match r.target with
      | .quarter _ _ => if planeOf (readBlock s r.target) = p ∧ ¬ readsClass0 s r.job then { r with aborted := true } else r
      | .panPage _ => r) }) s

/-- Issue a read (R425, R427). -/
def issueRead (job : Option (Nat × Nat)) (t : NandTarget) (s : State) : State :=
  if s.vault.reads.any (fun r => decide (r.job = job ∧ r.target = t)) then s
  else
    let s1 := match t with
      | .quarter l _ => if readsClass0 s job ∧ (mfind l s.vault.homes).isSome then takePlane (planeOf (readBlock s t)) s else s
      | .panPage _ => s
    sendRead t (modVault (fun v => { v with reads := v.reads ++ [{ job := job, target := t }] }) s1)

/-- A vault step runs once what it needs is at hand; else it asks for its reads and waits (R425). -/
def vaultStep (op slot i : Nat) (needs : Call → State → List NandTarget) (f : Call → State → Delivered × State) (s : State) : State :=
  match callAt s op slot i with
  | none => s
  | some c =>
    let missing := (needs c s).filter (targetMissing s (slot, i))
    if missing = [] then runStep op slot i f s else forAll missing (issueRead (some (slot, i))) s

/-! ### The journal -/

/-- Index pages of a change, numbered from 2^25: token index pages, then PAN index pages (R422, R433). -/
def tokenPage (h : Bytes) : Nat := 2 ^ 25 + hashB1 h / 64
def panIndexPage (h : Bytes) : Nat := 2 ^ 25 + 2 ^ 22 + hashB1 h / 64

/-- Mark a page changed by the entry of a seq. -/
def soil (page seq : Nat) (d : AMap Nat) : AMap Nat := if (mfind page d).isSome then d else mput page seq d

/-- Bytes 0 to 111 of a journal entry (R431). -/
def journalBytes (e : JournalEntry) : Bytes :=
  leBytes 8 e.seq ++ leBytes 8 e.swath ++ leBytes 4 e.epoch ++ leBytes 1 e.kind ++ zeros 3 ++ leBytes 4 e.target ++ leBytes 1 e.slot ++ zeros 3
    ++ (if e.kind = 1 then storedRecord (e.record.getD {}) else if e.kind = 5 then leBytes 8 e.checkpoint ++ zeros 56 else zeros 64) ++ zeros 16

/-- The mac of a journal entry under the journal key (R417, R431). -/
def journalMac (s : State) (e : JournalEntry) : Bytes := cmac (moduleKey s 0x86 3 0) (journalBytes e)

/-- An entry's mac passes (R438); an entry of a state set by hand without one counts as good. -/
def macPasses (s : State) (e : JournalEntry) : Bool := e.mac == [] || e.mac == journalMac s e

/-- Append a journal entry (R431); the event of R432 where 12 MiB are reached. -/
def appendJournal (kind target slot : Nat) (r : Option VaultRec) (ckpt : Nat) (s : State) : State :=
  let v := s.vault
  let e0 : JournalEntry := { seq := v.nextSeq, swath := now s, epoch := s.sched.epoch.toNat, kind := kind, target := target, slot := slot, record := r, checkpoint := ckpt }
  let e := { e0 with mac := journalMac s e0 }
  let s1 := { s with vault := { v with journal := v.journal ++ [e], nextSeq := v.nextSeq + 1, dirty := (if kind = 1 ∨ kind = 2 then soil target v.nextSeq v.dirty else v.dirty),
                                       leafCache := if kind = 1 ∨ kind = 2 then lruPut (2 ^ 20) target v.leafCache else v.leafCache } }
  if s1.vault.journal.length = 98304 then raise vaultPage 0x0412 v.nextSeq s1 else s1

/-- Put a version of a record in its slot, with its journal entry (R431). -/
def putVersion (k : Nat) (r : VaultRec) (s : State) : State :=
  appendJournal 1 (k / 64) (k % 64) (some r) 0 (modVault (fun v => { v with records := mset {} v.records k r }) s)

/-- A new sealed version of a record (R414, R431): a fresh nonce, the current record key, and its journal entry. Without a nonce nothing is sealed (R393). -/
def writeVersion (k : Nat) (r : VaultRec) (s : State) : State :=
  match takeNonce recordHolder s with
  | none => s
  | some n =>
    let r1 := { r with nonce := n.1, keyGen := n.2.vault.keyGen }
    putVersion k { r1 with sealed_ := sealRecord n.2 r1 } n.2

/-- A slot becomes empty (R413, R431). -/
def emptySlot (k : Nat) (s : State) : State := putVersion k {} s

/-- Records marked unmirrored (R448). -/
def unmirroredCount (s : State) : Nat := (s.vault.records.filter (fun e => e.2.unmirrored)).length

/-- The first unmirrored record raises its event (R497). -/
def noteUnmirrored (before : Nat) (s : State) : State :=
  if before = 0 ∧ 0 < unmirroredCount s then raise vaultPage 0x0411 (s.vault.nextSeq - 1) s else s

/-- An overflow table rises above 58,982 keys (R497). -/
def noteOverflow (before : Nat × Nat) (s : State) : State :=
  let t := s.vault.tokenOver.length
  let p := s.vault.panOver.length
  let s1 := if before.1 ≤ 58982 ∧ 58982 < t then raise vaultPage 0x0413 t s else s
  if before.2 ≤ 58982 ∧ 58982 < p then raise vaultPage 0x0413 p s1 else s1

/-! ### Placing a record -/

/-- A quarter can take a record with this pan_check: a free slot, and no equal pan_check (R413, R415). -/
def quarterTakes (s : State) (quarter check : Nat) : Option Nat :=
  let ks := (List.range 16).map (fun i => quarter * 16 + i)
  if ks.any (fun k => let r := recordAt s k; decide (r.status ≠ 0 ∧ r.panCheck = check)) then none
  else ks.find? (fun k => decide ((recordAt s k).status = 0))

/-- The slot for a new record, from the open quarter on (R415); none where no quarter is left. -/
def findPlace : Nat → State → Nat → Nat → Option Nat
  | 0, _, _, _ => none
  | n + 1, s, quarter, check =>
    if 2 ^ 27 ≤ quarter then none
    else match quarterTakes s quarter check with
      | some k => some k
      | none => findPlace n s (quarter + 1) check

/-- The open quarter moves on past full quarters. -/
def openNext : Nat → State → Nat → Nat
  | 0, _, q => q
  | n + 1, s, q => if (List.range 16).all (fun i => decide ((recordAt s (q * 16 + i)).status ≠ 0)) then openNext n s (q + 1) else q

/-- The place of a new record. -/
def placeFor (s : State) (check : Nat) : Option Nat := findPlace (s.vault.records.length + 1) s s.vault.openQuarter check

/-- The PAN check of R413. -/
def panCheckOf (s : State) (domain : Nat) (pan : Bytes) : Nat := leNat (slice 16 4 (panHash s domain pan))

/-- Enter a record of slot k into both indexes (R421 to R423); none where one is full. -/
def indexRecord (k : Nat) (r : VaultRec) (s : State) : Option State :=
  let th := tokenHash s r.domain r.token
  let ph := panHash s r.domain r.pan
  let leaf := k / 64
  let quarter := k % 64 / 16
  let t := indexInsert s.vault.tokenIndex s.vault.tokenOver (tokenKey r.domain r.token) th leaf quarter s
  match t.1 with
  | none => none
  | some (ti, tO) =>
    let p := indexInsert t.2.vault.panIndex t.2.vault.panOver ph ph leaf quarter t.2
    match p.1 with
    | none => none
    | some (pi, pO) =>
      some (modVault (fun v => { v with tokenIndex := ti, tokenOver := tO, panIndex := pi, panOver := pO,
                                        dirty := soil (panIndexPage ph) v.nextSeq (soil (tokenPage th) v.nextSeq v.dirty) }) p.2)

/-- Put a record with its index entries into the vault at slot k (R421 to R423, R431); none where an index is full. -/
def storeRecord (k : Nat) (r : VaultRec) (s : State) : Option State :=
  (indexRecord k r s).map (fun s1 =>
    let s2 := writeVersion k r s1
    noteOverflow (s.vault.tokenOver.length, s.vault.panOver.length) (modVault (fun v => { v with openQuarter := openNext (v.records.length + 1) s2 v.openQuarter }) s2))

/-- Take a record out of the indexes (garbage collection of deleted records, R443; DEDUCED, log entry 31). -/
def unindex (k : Nat) (r : VaultRec) (s : State) : State :=
  let th := tokenHash s r.domain r.token
  let ph := panHash s r.domain r.pan
  let leaf := k / 64
  let quarter := k % 64 / 16
  let drop := fun (h : Bytes) (ix : AMap (List IndexEntry)) =>
    let cut := fun (b : Nat) (m : AMap (List IndexEntry)) => mset [] m b ((bucketAt m b).filter (fun e => decide (¬ (e.tag = hashTag h ∧ e.leaf = leaf ∧ e.quarter = quarter))))
    cut (hashB2 h) (cut (hashB1 h) ix)
  modVault (fun v =>
    if v.tokenOver.any (fun e => decide (e.key = tokenKey r.domain r.token)) then { v with tokenOver := v.tokenOver.filter (fun e => decide (e.key ≠ tokenKey r.domain r.token)) }
    else { v with tokenIndex := drop th v.tokenIndex })
    (modVault (fun v => if v.panOver.any (fun e => decide (e.key = ph)) then { v with panOver := v.panOver.filter (fun e => decide (e.key ≠ ph)) } else { v with panIndex := drop ph v.panIndex }) s)

/-! ### Issues -/

/-- R230 for a domain's ff1_key at an FF1 issue (R446): its material, or the result it fails with. -/
def ff1Key (c : Call) (e : Bytes) (s : State) : Except Nat Bytes :=
  match findKey s (domKey e) with
  | .error r => .error r
  | .ok k =>
    let other : Bool := match c.job.session with | some n => (match mfind n s.keys.sessions with | some x => decide (x.application ≠ k.application) | none => true) | none => true
    if k.sessionBound ∧ other then .error 0x0801
    else if k.cls ≠ 0x16 then .error 0x0305
    else if ¬ isAes k.alg then .error 0x0304
    else if ¬ hasBits k.usage 0x20000 then .error 0x0305
    else if k.status ≠ 0 ∨ (k.lastEpoch ≠ 0 ∧ k.lastEpoch < s.sched.epoch.toNat) then .error 0x0306
    else if c.job.hdr.cls < k.ceiling then .error 0x0902
    else .ok k.material

/-- The kept digits in 2 bytes of packed BCD, right-justified (R420). -/
def keptBcd (d : List Nat) : Bytes := ofNibbles (List.replicate (4 - d.length) 0 ++ d)

/-- One draw of a random token (R420): the last random digit makes the token pass or fail the Luhn check. -/
def randomToken (e : Bytes) (kept : List Nat) (s : State) : List Nat × State :=
  let n := domDigits e - domPrefixLen e - domKeep e
  let r := draw s
  let ds := natDigits n (r.1.toNat % 10 ^ n)
  let whole := fun (x : Nat) => domPrefix e ++ ds.take (n - 1) ++ [x] ++ kept
  let good := (List.range 10).filter (fun x => luhnOk (whole x) == decide (domLuhn e = 1))
  if domLuhn e = 0 then (domPrefix e ++ ds ++ kept, r.2)
  else
    let q := draw r.2
    (whole (good.getD (q.1.toNat % good.length) 0), q.2)

/-- Draw until the token is free, at most so many draws; the token, the draws left and the state (R420, R701). -/
def drawToken : Nat → Nat → Bytes → List Nat → State → Option (List Nat) × Nat × State
  | 0, _, _, _, s => (none, 0, s)
  | n + 1, d, e, kept, s =>
    let r := randomToken e kept s
    if (findToken r.2 d (accountField r.1)).isSome then drawToken n d e kept r.2 else (some r.1, n, r.2)

/-- The MIRROR body of a record (R691): the record's 25 bytes, then its PAN sealed under the fold replication key. -/
def mirrorBody (seq : Nat) (r : VaultRec) (s : State) : Bytes × State :=
  let head := recordHead r ++ leBytes 4 r.panCheck
  let n := match takeNonce recordHolder s with | some x => x | none => ([], s)
  let c := gcmE (foldKey s 0x90) n.1 head (fit 10 r.pan)
  (leBytes 8 seq ++ leBytes 2 r.domain ++ head ++ leBytes 1 (b2n r.unmirrored) ++ fit 12 n.1 ++ c, n.2)

/-- Send the latest version of a record to the mirror peer, where it is a neighbour (R434, R700). -/
def sendMirror (seq : Nat) (r : VaultRec) (s : State) : State :=
  match mirrorPort s, mirrorPeer s with
  | some p, some m => let b := mirrorBody seq r s; sendFold p 0x20 m b.1 b.2
  | _, _ => s

/-- What a new record or a status change does about mirroring (R434, R435, R699): the job waits for the acknowledgement of entry `seq`, or with no
mirror peer completes with RES_VAULT_MIRROR. -/
def mirrorAfter (c : Call) (mode seq : Nat) (r : VaultRec) (d : Delivered) (s : State) : Delivered × State :=
  if mode = 0 then (d, s)
  else if (mirrorPeer s).isNone then (if mode = 2 then bad 0x0607 else d, s)
  else
    let s1 := sendMirror seq r s
    if mode = 1 then (d, s1)
    else
      let ends := if c.job.hdr.cls = 0 then (c.job.first.getD 0) + 1 else now s + s.vault.mirrorTimeout.toNat
      (d, modJob c.slot (fun j => { j with mirrorWait := some (seq, ends) }) s1)

/-- The output of a tokenise (R446). -/
def tokenOut (token : Bytes) (fresh : Bool) : Bytes := fit 10 token ++ leBytes 1 (b2n fresh) ++ [0]

/-- Issue a token for a PAN (R415, R420, R434, R436). -/
def issueToken (c : Call) (d : Nat) (pan : Bytes) (expiry : Nat) (token : List Nat) (s : State) : Delivered × State :=
  let e := domainAt s d
  let check := panCheckOf s d pan
  let r : VaultRec := { token := accountField token, domain := d, status := 1, expiry := expiry, created := s.sched.epoch.toNat, panCheck := check,
                        unmirrored := decide (domMirror e ≠ 0), pan := fit 10 pan }
  if (takeNonce recordHolder s).isNone then (bad 0x0907, s)
  else match placeFor s check with
  | none => (bad 0x0606, s)
  | some k =>
    match storeRecord k r s with
    | none => (bad 0x0606, s)
    | some s1 =>
      let s2 := noteUnmirrored (unmirroredCount s) (modVault (fun v => { v with issues := v.issues ++ [(c.slot, d, fit 10 pan)] }) s1)
      mirrorAfter c (domMirror e) (s1.vault.nextSeq - 1) (recordAt s2 k) (ok (tokenOut r.token true)) s2

/-- Draw a random token with so many draws left, and issue it (R420). -/
def drawIssue (c : Call) (d : Nat) (pan : Bytes) (expiry : Nat) (kept : List Nat) (left : Nat) (s : State) : Delivered × State :=
  let t := drawToken left d (domainAt s d) kept s
  let s1 := modJob c.slot (fun j => { j with drawsLeft := t.2.1 }) t.2.2
  match t.1 with
  | none => (bad 0x0606, s1)
  | some token => issueToken c d pan expiry token s1

/-- A record that cannot be read (R27, R414, R426). -/
def mediaFailed (k : Nat) (s : State) : Delivered × State :=
  (bad 0x0608, raise vaultPage 0x040F ((leafBlock s (k / 64)).getD 0) s)

/-- A tokenise (R434, R441, R446). DEDUCED: log entry 61. -/
def tokenise (c : Call) (s : State) : Delivered × State :=
  let d := leAt 0 2 c.aux
  let e := domainAt s d
  let pan := panOf c.src
  let digits := accountDigits pan
  let kept := digits.drop (digits.length - domKeep e)
  if s.vault.readOnly then (bad 0x0605, s)
  else match findPan s d pan with
    | some k =>
      let r := recordAt s k
      if ¬ readable s r then mediaFailed k s
      else if r.status = 3 then (bad 0x0604, s)
      else (ok (tokenOut r.token false), writeVersion k { r with usage := min 65535 (r.usage + 1) } s)
    | none =>
      if domState e = 2 then (bad 0x0603, s)
      else if domLimit e ≠ 0 ∧ domLimit e ≤ domainCount s d then (bad 0x0606, s)
      else
        let expiry := beNat (slice 2 2 c.aux)
        if domMethod e = 1 then
          match ff1Key c e s with
          | .error r => (bad r, s)
          | .ok k => issueToken c d pan expiry (ff1E k (domTweak e ++ keptBcd kept) (digits.take (digits.length - domKeep e)) ++ kept) s
        else
          drawIssue c d pan expiry kept 8 s

/-- The PAN index pages of a PAN, and the quarter of its one candidate (R423). -/
def panNeeds (d : Nat) (pan : Bytes) (s : State) : List NandTarget :=
  (panPair s d pan).eraseDups.map NandTarget.panPage ++ (match panCandidate s d pan with | some c => [.quarter c.1 c.2] | none => [])

/-- The quarter of a token request's one candidate (R423). -/
def tokenNeeds (c : Call) (s : State) : List NandTarget :=
  match tokenCandidate s (leAt 0 2 c.src) (requestToken s c.src) with
  | some q => [.quarter q.1 q.2]
  | none => []

/-- OP_VLT_TOKENISE (R446). -/
def execOpVltTokenise (slot i : Nat) (s : State) : Res :=
  .next (vaultStep 0x0401 slot i (fun c t => panNeeds (leAt 0 2 c.aux) (panOf c.src) t) tokenise s)

/-- What a token request answers, once its record is at hand. -/
def withToken (c : Call) (f : Nat → VaultRec → State → Delivered × State) (s : State) : Delivered × State :=
  match findToken s (leAt 0 2 c.src) (requestToken s c.src) with
  | none => (bad 0x0601, s)
  | some k => let r := recordAt s k; if readable s r then f k r s else mediaFailed k s

/-- The detokenised form of a token request's record, where its status allows it (R416, R445). -/
def detokenise (c : Call) (s : State) : Delivered × State :=
  withToken c (fun _ r t => if r.status ≠ 1 ∨ isExpired t r then (bad 0x0604, t) else (okSecret (detokenised r), t)) s

/-- OP_VLT_DETOKENISE (R416, R445, R446). -/
def execOpVltDetokenise (slot i : Nat) (s : State) : Res := .next (vaultStep 0x0402 slot i tokenNeeds detokenise s)

/-- OP_VLT_QUERY (R446). -/
def execOpVltQuery (slot i : Nat) (s : State) : Res :=
  .next (vaultStep 0x0403 slot i tokenNeeds (fun c t => withToken c (fun _ r u => (ok (recordHead r ++ zeros 3), u)) t) s)

/-- OP_VLT_LOOKUP (R446). -/
def execOpVltLookup (slot i : Nat) (s : State) : Res :=
  .next (vaultStep 0x0404 slot i (fun c t => panNeeds (leAt 0 2 c.aux) (panOf c.src) t) (fun c t =>
    match findPan t (leAt 0 2 c.aux) (panOf c.src) with
    | none => (bad 0x0602, t)
    | some k => let r := recordAt t k; if readable t r then (ok (fit 10 r.token), t) else mediaFailed k t) s)

/-- OP_VLT_STATUS_SET (R434, R441, R446). -/
def execOpVltStatusSet (slot i : Nat) (s : State) : Res :=
  .next (vaultStep 0x0405 slot i tokenNeeds (fun c t => withToken c (fun k r u =>
    let mode := domMirror (domainAt u r.domain)
    let x := beNat (slice 1 2 c.aux)
    if r.status = 3 then (bad 0x0604, u)
    else if u.vault.readOnly then (bad 0x0605, u)
    else
      let r1 := { r with status := if byteAt 0 c.aux = 0 then r.status else byteAt 0 c.aux, expiry := if x = 0xFFFF then r.expiry else x,
                         unmirrored := r.unmirrored || decide (mode ≠ 0) }
      let u1 := noteUnmirrored (unmirroredCount u) (writeVersion k r1 u)
      mirrorAfter c mode (u1.vault.nextSeq - 1) (recordAt u1 k) (ok []) u1) t) s)

/-- Write a domain entry into the configuration area (R418, R419, R617), with its event. -/
def writeDomain (d : Nat) (e : Bytes) (s : State) : State :=
  raise vaultPage 0x0417 d (configRecord (cfgKey 3 d) e <| modVault (fun v => { v with domains := mset (zeros 64) v.domains d e }) s)

/-- OP_VLT_DOMAIN_SET (R419, R446, R702). -/
def execOpVltDomainSet (slot i : Nat) (s : State) : Res :=
  .next (runStep 0x0410 slot i (fun c t =>
    let d := leAt 0 2 c.src
    let e := fit 64 (c.src.drop 2)
    if ¬ (domainOk e ∧ domainChangeOk (domainAt t d) e) then (bad 0x0603, t)
    else match (if domMethod e = 1 then (match ff1Key c e t with | .error r => some r | .ok _ => none) else none) with
      | some r => (bad r, t)
      | none => (ok [], noteChange (2 ^ 24 + d) 0xFF (writeDomain d e t))) s)

/-- OP_VLT_DOMAIN_INFO (R446). -/
def execOpVltDomainInfo (slot i : Nat) (s : State) : Res :=
  .next (runPure 0x0411 slot i (fun c t => let d := leAt 0 2 c.src; ok (domainAt t d ++ leBytes 4 (domainCount t d))) s)

/-! ### NAND operations that end -/

/-- Note a decode's iterations (R452). -/
def noteDecode (iterations : Nat) (s : State) : State :=
  modVault (fun v => { v with ldpcMax := if v.ldpcMax.toNat < iterations then BitVec.ofNat 8 (min 20 iterations) else v.ldpcMax,
                              decodes := (v.decodes.filter (fun e => decide (now s < e.1 + 4096))) ++ [(now s, min 20 iterations)] }) s

/-- Mark a block (R426, R443). -/
def modBlock (b : Nat) (f : NandBlock → NandBlock) (s : State) : State := modVault (fun v => { v with blocks := mupd {} v.blocks b f }) s

/-- Take a read off its list; a suspended program or erase in its plane goes on, and a read that was aborted there is issued again (R427). -/
def dropRead (r : NandRead) (s : State) : State :=
  let p := planeOf (readBlock s r.target)
  let again := s.vault.reads.filter (fun x => x.aborted && decide (x ≠ r ∧ planeOf (readBlock s x.target) = p))
  forAll again (fun x t => sendRead x.target t) (modVault (fun v => { v with
    reads := (v.reads.filter (fun x => decide (x ≠ r))).map (fun x => if x ∈ again then { x with aborted := false } else x)
    planes := mupd {} v.planes p (fun x => { x with suspended := false }) }) s)

/-- The swath of the engine step that a step's read is for: this one while the step runs, else that of its next ledger entry (R58, R319). -/
def neededIn (s : State) (slot i : Nat) : Nat :=
  let next := (s.sched.ledger.filter (fun l => l.entries.any (fun x => decide (x.slot = slot ∧ x.step = i)))).map (fun l => l.swath)
  let bound : Bool := match jobAt s slot with | some j => decide ((stepAt j i).stage = .bound ∧ (stepAt j i).lastSwath = now s) | none => false
  if bound ∨ next = [] then now s else next.foldl min (next.headD 0)

/-- The row of a place in a block's page (R21, R410): 2,048 blocks of 256 pages to a die (DEDUCED, log entry 30). -/
def nandPlace (page row : Nat) : RowPlace := .nand (page / 2 ^ 19) (page % 2 ^ 19) row

/-- The 32 rows of the codeword that a read of a leaf quarter takes (R410, R413). -/
def quarterRows (s : State) (t : NandTarget) : List RowPlace :=
  match t with
  | .quarter l q => (match mfind l s.vault.homes with | some h => (List.range 32).map (fun i => nandPlace (h / 4) (128 * (h % 4) + 32 * q + i)) | none => [])
  | .panPage _ => []

/-- What the row code finds in rows read from NAND: only those that have taken something matter, whatever their data, since the code is linear (R18, R23). -/
def nandSeen (s : State) (ps : List RowPlace) : List (RowPlace × RowRead) :=
  (ps.filter (fun p => (mfind p.address.toNat s.rowFaults).isSome)).map (fun p => (p, readPlace s p []))

/-- The NAND controller counts each corrected row and does not rewrite it (R26, R497). -/
def countNand (l : List (RowPlace × RowRead)) (s : State) : State := forAll l (fun e t => if e.2.mended then raise vaultPage 0x0403 e.1.detail t else t) s

/-- The rows of a programmed page are stored anew (R17). -/
def clearPage (page : Nat) (s : State) : State := clearRows (nandPlace page 0) 512 s

/-- NAND_READ_DONE (R23, R24, R26, R67, R68, R319, R426): the `n`-th read under way ends: it decodes after some iterations, in some time in µs, or fails. A failed
class 0 read is its margin event and is re-read once: in the reference authorisation steps 1 and 3 move, and step 4 stays; one of classes 1 to 3 is re-read up to 4
times. -/
def execNandReadDone (n : Nat) (decoded : Bool) (iterations micros : Nat) (s : State) : Res :=
  .next <|
    match s.vault.reads[n]? with
    | none => s
    | some r =>
      if r.aborted then s else
      let b := readBlock s r.target
      let chan := planeOf b / 16
      let s0 := if 30 < micros ∧ r.rereads = 0 then raise vaultPage (0x0428 + chan) micros s else s
      let rows := nandSeen s (quarterRows s r.target)
      if decoded && rows.all (fun e => e.2.delivers.isSome) then noteDecode iterations (cacheTarget r (dropRead r (countNand rows s0)))
      else
        let class0 := readsClass0 s r.job
        let again := fun (t : State) => raise vaultPage 0x040E b (modBlock b (fun x => { x with refresh := true })
          (modVault (fun v => { v with reads := v.reads.map (fun x => if x = r then { x with rereads := x.rereads + 1 } else x) }) t))
        if class0 then
          match r.job with
          | some (k, i) =>
            let w := neededIn s k i
            let auth : Bool := match jobAt s k with | some j => decide (j.hdr.opcode = 0x0380) | none => false
            let moves := fun (x : Nat) => decide (x = i ∨ (auth ∧ x = 3))
            if r.rereads = 0 then useMargin w moves k (again s0) else useMargin w moves k (dropRead r s0)
          | none => s0
        else if r.rereads < 4 then again s0
        else
          let s1 := raise vaultPage 0x040F b (dropRead r s0)
          match r.job with
          | some (k, i) => failStep k i 0x0608 s1
          | none => s1

/-- Retired blocks (R441). -/
def retiredBlocks (s : State) : Nat := (s.vault.blocks.filter (fun e => e.2.retired)).length

/-- A block is retired at its first failure (R440), with the limits of R441. -/
def retire (b : Nat) (s : State) : State :=
  if (mget {} s.vault.blocks b).retired then s
  else
    let s1 := raise vaultPage 0x040B b (modBlock b (fun x => { x with retired := true }) s)
    let n := retiredBlocks s1
    let s2 := if n = 7168 then raise vaultPage 0x040C n (modVault (fun v => { v with spareWarn := true }) s1) else s1
    let s3 := if n = 8960 then raise vaultPage 0x040D n (modVault (fun v => { v with readOnly := true }) s2) else s2
    let s4 := if n = 8960 + 193 then raise vaultPage 0x041E b s3 else s3
    if 9216 ≤ n then { s4 with audit := { s4.audit with mediaFull := true } } else s4

/-- A replayed entry takes effect on the records (R434, R438). -/
def applyEntry (m : AMap VaultRec) (e : JournalEntry) : AMap VaultRec :=
  let k := e.target * 64 + e.slot
  if e.kind = 1 then mset {} m k (e.record.getD {}) else if e.kind = 2 then mupd {} m k (fun r => { r with unmirrored := false }) else m

/-- A checkpoint is appended where every page changed by entries up to a later seq has been programmed, and those entries leave the ring (R433). -/
def checkpointJournal (s : State) : State :=
  let v := s.vault
  let upto := v.dirty.foldl (fun m e => min m (e.2 - 1)) (v.nextSeq - 1)
  if upto ≤ v.checkpoint ∨ (v.journal.filter (fun e => decide (e.seq ≤ upto ∧ e.kind ≠ 5))) = [] then s
  else
    let s1 := appendJournal 5 0 0 none upto s
    modVault (fun v => { v with
      checkpoint := upto
      base := (v.journal.filter (fun e => decide (e.seq ≤ upto))).foldl applyEntry v.base
      journal := v.journal.filter (fun e => decide (upto < e.seq)) }) s1

/-- The area of a write (R412). -/
def writeArea : NandWrite → Nat
  | .leaves _ => 1 | .index _ => 2 | .reserve => 3 | .keyArea => 4 | .journal _ => 5

/-- A page may be programmed: the next page of a block of the write's area, or the first of a free block that no free block has fewer erases than; a retired or
interrupted block takes none (R412, R439, R440). -/
def programTakes (s : State) (w : NandWrite) (block page : Nat) : Bool :=
  let b := mget {} s.vault.blocks block
  let free := s.vault.blocks.filter (fun e => decide (e.2.area = 0) && !e.2.retired && !e.2.interrupted)
  decide (block < 57344 ∧ page < 256 ∧ page = b.written) && !b.retired && !b.interrupted &&
    (decide (b.area = writeArea w) || (decide (b.area = 0) && free.all (fun e => decide (b.erases ≤ e.2.erases)) && decide (b.erases = 0 ∨ 57344 ≤ s.vault.blocks.length)))

/-- NAND_PROGRAM_DONE (R412, R432, R433, R440): a page program ends; on a failure the block is retired and the data stays in DRAM. -/
def execNandProgramDone (w : NandWrite) (block page : Nat) (passed : Bool) (s : State) : Res :=
  .next <|
    if ¬ programTakes s w block page then s else
    let s0 := modVault (fun v => { v with planes := mupd {} v.planes (planeOf block) (fun x => { x with busy := false, suspended := false }) }) s
    if ¬ passed then retire block (raise vaultPage 0x041F block s0)
    else
      let s1 := clearPage (block * 256 + page) (modBlock block (fun x => { x with area := writeArea w, written := x.written + 1, interrupted := false }) s0)
      match w with
      | .journal upto => modVault (fun v => { v with programmed := max v.programmed (min upto (v.nextSeq - 1)) }) s1
      | .leaves ls =>
        checkpointJournal (modVault (fun v => { v with
          homes := (ls.take 4).zipIdx.foldl (fun m e => mput e.1 ((block * 256 + page) * 4 + e.2) m) v.homes
          dirty := v.dirty.filter (fun e => decide (¬ e.1 ∈ ls.take 4)) }) s1)
      | .index ps => checkpointJournal (modVault (fun v => { v with dirty := v.dirty.filter (fun e => decide (¬ (2 ^ 25 ≤ e.1 ∧ (e.1 - 2 ^ 25) ∈ ps))) }) s1)
      | .reserve => s1
      | .keyArea => s1

/-- Begin the erase of a block: its kind 3 entry comes first (R439). -/
def beginErase (b : Nat) (s : State) : State :=
  emit (.nand "erase" b 0) (modVault (fun v => { v with planes := mupd {} v.planes (planeOf b) (fun x => { x with busy := true }) })
    (modBlock b (fun x => { x with interrupted := true }) (appendJournal 3 b 0 none 0 s)))

/-- NAND_ERASE_DONE (R439, R440): a kind 4 entry, or the block is retired. -/
def execNandEraseDone (block : Nat) (passed : Bool) (s : State) : Res :=
  .next <|
    if ¬ (mget {} s.vault.blocks block).interrupted ∨ ¬ (mget {} s.vault.planes (planeOf block)).busy then s
    else
      let s1 := modVault (fun v => { v with planes := mupd {} v.planes (planeOf block) (fun x => { x with busy := false, suspended := false }) }) s
      if passed then
        modBlock block (fun x => { erases := x.erases + 1, retired := x.retired }) (appendJournal 4 block 0 none 0 s1)
      else retire block s1

/-- No mirror acknowledgement came in time (R435): the job that waits for it ends with RES_VAULT_MIRROR (0x0607). -/
def mirrorLate (slot : Nat) (s : State) : State :=
  match jobAt s slot with
  | none => s
  | some j =>
    match j.mirrorWait with
    | none => s
    | some (seq, _) =>
      let s1 := raise vaultPage 0x0410 seq (modJob slot (fun j => { j with mirrorWait := none }) s)
      match j.steps.zipIdx.find? (fun e => e.1.delivered.isSome && decide (e.1.step.opcode = 0x0401 ∨ e.1.step.opcode = 0x0405)) with
      | some (_, i) => tryEnd slot i (modStep slot i (fun x => { x with delivered := some (bad 0x0607) }) s1)
      | none => s1

/-- MIRROR_TIMEOUT (R435): a class 1 to 3 job has waited VLT_MIRROR_CTL.timeout swaths. -/
def execMirrorTimeout (slot : Nat) (s : State) : Res :=
  .next <|
    match jobAt s slot with
    | some j => (match j.mirrorWait with | some (_, e) => if j.hdr.cls ≠ 0 ∧ e ≤ now s then mirrorLate slot s else s | none => s)
    | none => s

/-! ### Maintenance -/

/-- Records of a leaf in use. -/
def leafRecords (s : State) (leaf : Nat) : List (Nat × VaultRec) := s.vault.records.filter (fun e => decide (e.1 / 64 = leaf ∧ e.2.status ≠ 0))

/-- VAULT_REKEY_LEAF (R443): the next leaf is resealed under key_gen + 1; the activity ends after the last, and is refused at generation 255. -/
def execVaultRekeyLeaf (s : State) : Res :=
  .next <| maintStep 0 s fun s =>
      let v := s.vault
      if v.rekeyLeaf = 0 ∧ v.keyGen = 255 then endActivity 0 s
      else
        let s0 := if v.rekeyLeaf = 0 then modVault (fun v => { v with keyGen := v.keyGen + 1 }) s else s
        match (s0.vault.records.find? (fun e => decide (v.rekeyLeaf ≤ e.1 / 64))) with
        | none => raise vaultPage 0x0414 s0.vault.keyGen (endActivity 0 (modVault (fun v => { v with rekeyLeaf := 0 }) s0))
        | some (k, _) =>
          let leaf := k / 64
          let s1 := forAll (leafRecords s0 leaf) (fun e t => if e.2.keyGen = s0.vault.keyGen then t else writeVersion e.1 e.2 t) s0
          let s2 := modVault (fun v => { v with rekeyLeaf := leaf + 1 }) s1
          if s2.sched.stopPending.getLsbD 0 then safePoint 0 (modVault (fun v => { v with rekeyLeaf := 0 }) s2) else s2

/-- The leaves that a block holds (R412). -/
def leavesIn (s : State) (b : Nat) : List Nat := (s.vault.homes.filter (fun e => decide (e.2 / 1024 = b))).map Prod.fst

/-- Move a live record to a new place, with its index entries (R443). -/
def moveRecord (k : Nat) (r : VaultRec) (s : State) : State :=
  let s1 := emptySlot k (unindex k r s)
  match placeFor s1 r.panCheck with
  | some k2 => (storeRecord k2 r s1).getD s
  | none => s

/-- A class 0 job that has still to run reads a leaf of the block (R430). -/
def blockNamed (s : State) (b : Nat) : Bool :=
  s.vault.named.any (fun e => decide (e.1 = b) && (match jobAt s e.2 with | some j => decide (j.hdr.cls = 0 ∧ j.stage ≠ .outputting ∧ j.stage ≠ .finished) | none => false))

/-- VAULT_GC_STEP (R430, R439, R443): the live records of one leaf move and its deleted records go, or one block that holds no leaf is erased, as is one whose erase was
interrupted; no block of which a class 0 job still reads a leaf. -/
def execVaultGcStep (step : GcStep) (s : State) : Res :=
  .next <| maintStep 4 s fun s =>
    match step with
      | .move leaf =>
        if (mfind leaf s.vault.homes).isNone then s
        else
          let s0 := { s with vault := { s.vault with openQuarter := max s.vault.openQuarter (4 * (leaf + 1)) } }
          let s1 := forAll (leafRecords s leaf) (fun e t =>
            if e.2.status = 3 then emptySlot e.1 (unindex e.1 e.2 t) else moveRecord e.1 e.2 t) s0
          safePoint 4 (modVault (fun v => { v with homes := merase leaf v.homes, leafCache := v.leafCache.filter (fun x => decide (x ≠ leaf)), dirty := merase leaf v.dirty }) s1)
      | .erase b =>
        let x := mget {} s.vault.blocks b
        if leavesIn s b ≠ [] ∨ blockNamed s b ∨ (mget {} s.vault.planes (planeOf b)).busy ∨ x.retired ∨ (¬ x.interrupted ∧ x.area ≠ 1) then s
        else safePoint 4 (beginErase b s)
      | .finish => raise vaultPage 0x0415 0 (endActivity 4 s)

/-- A block is refreshed: its leaves are to be programmed anew elsewhere (R426, R443). -/
def refreshBlock (b : Nat) (s : State) : State :=
  raise vaultPage 0x0416 b (modVault (fun v => { v with dirty := (leavesIn s b).foldl (fun m l => soil l v.nextSeq m) v.dirty })
    (modBlock b (fun x => { x with refresh := false }) s))

/-- VAULT_PATROL_PAGE (R426, R443): one page is read; its block is refreshed where its mean exceeds 8 iterations or it needed a re-read. -/
def execVaultPatrolPage (block iterations : Nat) (s : State) : Res :=
  .next <| maintStep 6 s fun s =>
      let s1 := noteDecode iterations (modVault (fun v => { v with patrolPage := v.patrolPage + 1 }) s)
      let s2 := if 8 < iterations ∨ (mget {} s.vault.blocks block).refresh then refreshBlock block s1 else s1
      safePoint 6 s2

/-- What the DRAM patrol finds in a row (R23, R24, R443). -/
def patrolSeen (s : State) (row : Nat) : RowRead :=
  if (mfind (RowPlace.dram (32 * row)).address.toNat s.rowFaults).isNone then .good []
  else readPlace s (.dram (32 * row)) ((List.range 32).map (fun i => mget 0 s.dram (32 * row + i)))

/-- DRAM_PATROL_ROW (R26, R443): one row is read; a corrected row is written back and raises its channel's events, one that cannot be corrected its own; a full pass ends at
the last of 2^30 rows. -/
def execDramPatrolRow (channel : Nat) (corrected : Bool) (s : State) : Res :=
  .next <| maintStep 7 s fun s =>
      let row := s.vault.patrolRow
      let seen := patrolSeen s row
      let s1 := if corrected || seen.mended then raise vaultPage (0x041A + channel % 4) (32 * row) (raise vaultPage 0x0403 (1 + 256 * row) (clearRow (.dram (32 * row)) s))
        else if seen.delivers.isNone then raise vaultPage 0x0402 (1 + 256 * row) s else s
      let s2 := modVault (fun v => { v with patrolRow := (row + 1) % 2 ^ 30 }) s1
      safePoint 7 (if row + 1 = 2 ^ 30 then raise vaultPage 0x0419 0 s2 else s2)

/-- AUDIT_RESERVE_COMPACTION (R83, R473, R474): the oldest reserve block, of 256 pages of 336 records, is erased where all its records are
delivered. -/
def execAuditReserveCompaction (block : Nat) (s : State) : Res :=
  .next <| maintStep 5 s fun s =>
    if s.audit.held.length < 86016 then endActivity 5 s
    else if (mget {} s.vault.planes (planeOf block)).busy then s
    else
      let s1 := { s with audit := { s.audit with held := s.audit.held.drop 86016 } }
      safePoint 5 (beginErase block s1)

/-! ### Registers -/

/-- Free blocks (R451). -/
def freeBlocks (s : State) : Nat := min 9216 (57344 - (s.vault.blocks.filter (fun e => decide (e.2.area ≠ 0) || e.2.retired)).length)

/-- The 32-bit word at an offset of the Vault plane page (R448 to R456). -/
def vaultWord (s : State) (off : Nat) : Nat :=
  let v := s.vault
  match off with
  | 0x100 => b2n v.ready + 2 * b2n v.replaying + 4 * b2n (decide (unmirroredCount s ≠ 0)) + 8 * b2n v.spareWarn + 16 * b2n v.readOnly
  | 0x104 => v.today.toNat
  | 0x108 => (v.records.filter (fun e => decide (e.2.status = 1 ∨ e.2.status = 2))).length
  | 0x10C => retiredBlocks s + 2 ^ 16 * freeBlocks s
  | 0x110 =>
    let ds := v.decodes.filter (fun e => decide (now s < e.1 + 4096))
    (if ds = [] then 0 else 16 * (ds.map Prod.snd).sum / ds.length) + 2 ^ 16 * v.ldpcMax.toNat
  | 0x114 => v.journal.length
  | 0x118 => v.mirrorTimeout.toNat
  | 0x11C => v.nandDays.toNat + 256 * v.dramHours.toNat
  | 0x120 => v.panOver.length + 2 ^ 16 * v.tokenOver.length
  | 0x124 => v.planeRefused.toNat
  | _ => 0

/-- BCD YYMM with MM from 01 to 12, or 0 (R449). -/
def yymmOk (v : Nat) : Bool :=
  decide (v = 0) || (bcdOk (beBytes 2 v) && decide (1 ≤ v / 16 % 16 * 10 + v % 16 ∧ v / 16 % 16 * 10 + v % 16 ≤ 12))

/-- The effect of a 32-bit write in the Vault plane page (R449, R454, R455). -/
def vaultWriteWord (off w : Nat) (s : State) : State :=
  match off with
  | 0x104 => if yymmOk (w % 65536) then modVault (fun v => { v with today := BitVec.ofNat 16 w }) s else refuseWrite vaultPage off s
  | 0x118 => if w % 256 = 0 then refuseWrite vaultPage off s else modVault (fun v => { v with mirrorTimeout := BitVec.ofNat 8 w }) s
  | 0x11C =>
    let a := w % 256
    let b := w / 256 % 256
    let s1 := modVault (fun v => { v with nandDays := if a = 0 then v.nandDays else BitVec.ofNat 8 a, dramHours := if b = 0 then v.dramHours else BitVec.ofNat 8 b }) s
    if a = 0 ∨ b = 0 then refuseWrite vaultPage off s1 else s1
  | _ => s

/-- Offsets with an audited field, and what a read clears (R452, R456). -/
def vaultAudited (off : Nat) : Bool := decide (off = 0x104 ∨ off = 0x118 ∨ off = 0x11C)
def vaultReadEffect (off : Nat) (s : State) : State :=
  match off with
  | 0x110 => modVault (fun v => { v with ldpcMax := 0 }) s
  | 0x124 => modVault (fun v => { v with planeRefused := 0 }) s
  | _ => s

/-! ### Start-up -/

/-- The replay ends before the first entry whose mac fails: what comes after it has no effect, and the indexes follow (R438). -/
def stopReplay (s : State) : State :=
  let good := s.vault.journal.takeWhile (macPasses s)
  match s.vault.journal.drop good.length with
  | [] => s
  | e :: rest =>
    let ks := (((e :: rest).filter (fun x => decide (x.kind = 1))).map (fun x => x.target * 64 + x.slot)).eraseDups
    let s1 := forAll ks (fun k t => if (recordAt t k).status = 0 then t else unindex k (recordAt t k) t) s
    let s2 := modVault (fun v => { v with records := good.foldl applyEntry v.base, journal := good }) s1
    raise vaultPage 0x0409 e.seq (forAll ks (fun k t => if (recordAt t k).status = 0 then t else (indexRecord k (recordAt t k) t).getD t) s2)

/-- VAULT_REPLAY_END (R438, R439): the index load and the replay end; a block with a kind 3 entry and no later kind 4 is interrupted. -/
def execVaultReplayEnd (s : State) : Res :=
  .next <|
    if ¬ s.vault.replaying ∨ s.start.dramWiped < 4 then s
    else
      let s := stopReplay s
      let open_ := s.vault.journal.foldl (fun (l : List Nat) e => if e.kind = 3 then e.target :: l else if e.kind = 4 then l.filter (fun b => decide (b ≠ e.target)) else l) []
      let s1 := forAll open_ (fun b t => raise vaultPage 0x040A b (modBlock b (fun x => { x with interrupted := true }) t)) s
      raise vaultPage 0x0408 (s1.vault.nextSeq - 1) (modVault (fun v => { v with replaying := false, ready := true }) s1)

end Sys2Proof.Machine
end

