-- ==== Sys2Proof/Machine/AuthRef.lean ====
section
/-!
DEFINITION. Sys2Proof/Machine/AuthRef.lean: the steps of the reference authorisation (R315 to R323): verify the message, detokenise, translate the
PIN, verify the ARQC, presign, and sign.
-/
namespace Sys2Proof.Machine
open Sys2Proof

/-- OP_PAY_AUTH_REF (R315 to R319): step i of the composite runs its own operation. Step 3 does not run before step 1 has written the record. -/
def execOpPayAuthRef (slot i : Nat) (s : State) : Res :=
  .next <|
    match jobAt s slot with
    | none => s
    | some j =>
      if j.hdr.opcode ≠ 0x0380 then s
      else match i with
        | 0 => runPure 0x0112 slot i (fun c _ => verifyEcdsa c) s
        | 1 => vaultStep 0x0402 slot i tokenNeeds detokenise s
        | 2 => runStep 0x0302 slot i (translatePin aesPinKey) s
        | 3 => if (stepAt j 1).stage = .ended then runPure 0x0341 slot i (fun c _ => verifyArqc c) s else s
        | 4 => presign slot i s
        | _ => finishPresigned slot i s

end Sys2Proof.Machine
end

