-- ==== Sys2Proof/Machine/RngOps.lean ====
section
/-!
DEFINITION. Sys2Proof/Machine/RngOps.lean: the noise sources, the conditioner, the DRBG and its output queue (R499 to R515), re-balance (R516), the
random opcodes (R517, R518) and the RNG_ registers (R519).
-/
namespace Sys2Proof.Machine
open Sys2Proof

/-- The RNG tile page (R519). -/
def rngTile : Nat := mkPage 4 2 2 0

def modRng (f : Rng → Rng) (s : State) : State := { s with rng := f s.rng }
def sourceAt (s : State) (n : Nat) : Source := mget {} s.rng.sources n
def modSource (n : Nat) (f : Source → Source) (s : State) : State := modRng (fun r => { r with sources := mupd {} r.sources n f }) s

/-- Sources that are neither isolated nor failed, as bits and as a count (R512, R519). -/
def healthyBits (s : State) : Nat := ((List.range 16).map (fun n => if (sourceAt s n).healthy then 2 ^ n else 0)).sum
def healthyCount (s : State) : Nat := ((List.range 16).filter (fun n => (sourceAt s n).healthy)).length

/-! ### Generator states (R512 to R515) -/

/-- Entry to HALTED (R515): the sources stop, and the DRBG state and the queue are overwritten. DEDUCED: log entry 60. -/
def rngHalt (source : Nat) (s : State) : State :=
  raise rngPage 0x050F source (modRng (fun r => { r with state := .halted, level := 0, pool := [], drbg := none, given := 0, due := false }) s)

/-- Entry to STARTING by a restart or an enable (R512): the queue is flushed, the DRBG state wiped, and a full start-up begins. -/
def rngStart (s : State) : State := modRng (fun r => { r with state := .starting, level := 0, pool := [], drbg := none, given := 0, credited := 0, due := false }) s

/-- The generator stops working while its tile is disabled, isolated or failed (R512). -/
def rngTileOff (s : State) : State := if s.rng.state = .halted then s else rngHalt 0 s

/-- The tile works again (R512). -/
def rngTileOn (s : State) : State := if s.rng.state = .halted then rngStart s else s

/-- The RNG tile is enabled and in neither ISOLATED nor FAILED (R512). -/
def rngTileWorks (s : State) : Bool :=
  let u := unitAt s rngPage
  u.enable && (unitAt s rngTile).enable && !decide (u.state = .isolated ∨ u.state = .failed)

/-- One conditioned block: AES-256 CBC-MAC over a group of 2,048 raw bits, which are free values (R501, R502). -/
def conditionedBlock (s : State) : Bytes × State :=
  let g := drawBytes 256 s
  ((List.range 16).foldl (fun x i => aesE s.rng.macKey (xorBytes x (slice (16 * i) 16 g.1))) (zeros 16), g.2)

/-- CTR_DRBG's update of Key and V with 48 bytes, AES-256 and no derivation function (R503, NIST SP 800-90A). -/
def drbgUpdate (data kv : Bytes) : Bytes :=
  let v := beNat (kv.drop 32)
  xorBytes ((List.range 3).flatMap (fun i => aesE (kv.take 32) (beBytes 16 ((v + i + 1) % 2 ^ 128)))) data

/-- The DRBG after a generate request of 4 KiB (R503). -/
def drbgRequest (kv : Bytes) : Bytes :=
  drbgUpdate (zeros 48) (kv.take 32 ++ beBytes 16 ((beNat (kv.drop 32) + 256) % 2 ^ 128))

/-- The personalisation string: 8 bytes of SHA-384 over the device key's public point, the epoch, and zeros (R503). -/
def personalisation (s : State) : Bytes := (sha384 devicePoint).take 8 ++ leBytes 4 s.sched.epoch.toNat ++ zeros 36

/-- The DRBG is instantiated with 3 conditioned blocks, the first that the conditioner makes under the key it takes from the die secret (R502, R503; DESIGN CHOICE, log
entry 6: how the key follows from the secret). -/
def instantiate (s : State) : State :=
  let s0 := modRng (fun r => { r with macKey := std "conditioner key from the die secret" 32 [dieSecret] }) s
  let a := conditionedBlock s0
  let b := conditionedBlock a.2
  let c := conditionedBlock b.2
  modRng (fun r => { r with drbg := some (drbgUpdate (xorBytes (a.1 ++ b.1 ++ c.1) (personalisation s)) (zeros 48)), credited := 3072 }) c.2

/-- RNG_STARTUP_END (R512, R513): the known-answer tests and which sources passed the start-up test. -/
def execRngStartupEnd (tests : Bool) (passed : BitVec 16) (s : State) : Res :=
  .next <|
    if s.rng.state ≠ .starting then s
    else
      let s1 := repeatIdx 16 (fun n t => modSource n (fun x => { x with healthy := passed.getLsbD n, atEnd := 0 }) t) s
      if tests ∧ s.rng.min.toNat ≤ healthyCount s1 then
        raise rngPage 0x0510 0 (modRng (fun r => { r with state := .running, level := 65536, given := 65536, due := false, idle := 0, drbg := r.drbg.map (fun kv => (List.range 16).foldl (fun k _ => drbgRequest k) kv) }) (instantiate s1))
      else rngHalt 0 s1

/-- A running source fails (R512, R514, R515): it is isolated, and what it took part in is discarded. -/
def failSource (n : Nat) (repetition : Bool) (s : State) : State :=
  if (s.rng.state = .running ∨ s.rng.state = .reseeding) ∧ n < 16 ∧ (sourceAt s n).healthy then
    let s1 := modRng (fun r => if repetition then { r with rct := satInc r.rct } else { r with apt := satInc r.apt })
      (modSource n (fun x => { x with healthy := false }) s)
    let s2 := raise rngPage 0x050E n s1
    if s2.rng.min.toNat ≤ healthyCount s2 then modRng (fun r => { r with state := .reseeding, pool := [], level := 0 }) s2
    else rngHalt n s2
  else s

/-- RNG_SOURCE_FAIL (R509, R514): the repetition count test or the adaptive proportion test fails. -/
def execRngSourceFail (source : Nat) (repetition : Bool) (s : State) : Res := .next (failSource source repetition s)

/-- RNG_TRIM_BLOCK (R500): after 1,024 samples the trim code moves one step where the count of ones lies outside 512 ± 16, down where ones prevail. -/
def execRngTrimBlock (source ones : Nat) (s : State) : Res :=
  .next <|
    if 16 ≤ source ∨ s.rng.state = .halted then s
    else
      modSource source (fun x =>
        let t := x.trim.toInt
        let next := if 528 < ones then max (-128) (t - 1) else if ones < 496 then min 127 (t + 1) else t
        { x with trim := BitVec.ofInt 8 next, atEnd := if t = -128 ∨ t = 127 then x.atEnd + 1 else 0 }) s

/-- RNG_ESTIMATE_BLOCK (R510, R511): the estimates of a 4,096-sample block, and a trim code that stayed at an end fails the source. -/
def execRngEstimateBlock (source ones : Nat) (lags : BitVec 32) (s : State) : Res :=
  .next <|
    if 16 ≤ source ∨ s.rng.state = .halted then s
    else
      let stuck := decide (4 ≤ (sourceAt s source).atEnd)
      let s1 := modSource source (fun x => { x with ones := BitVec.ofNat 13 ones, lag1 := lags.setWidth 8, lag2 := (lags >>> 8).setWidth 8,
                                                    lag3 := (lags >>> 16).setWidth 8, lag4 := (lags >>> 24).setWidth 8, atEnd := 0 }) s
      if stuck then failSource source false s1 else s1

/-- Reseed from 3 blocks of the pool (R503). -/
def reseed (s : State) : State :=
  modRng (fun r => { r with pool := r.pool.drop 3, drbg := r.drbg.map (drbgUpdate (r.pool.take 3).flatten), given := 0, due := false }) s

/-- RNG_RESEED_COMPLETE (R512, R514): the DRBG is reseeded from 3 blocks conditioned afresh; output begins at this clock of the swath. -/
def execRngReseedComplete (s : State) : Res :=
  .next <|
    if s.rng.state = .reseeding ∧ 3 ≤ s.rng.pool.length then
      raise rngPage 0x0511 0 (modRng (fun r => { r with state := .running, reseeds := satInc r.reseeds, idle := s.sched.clock.toNat }) (reseed s))
    else s

/-- DRBG_SCHEDULED_RESEED (R503, R504): after 1,024 requests of 4 KiB; while the pool is short, generation pauses. -/
def execDrbgScheduledReseed (s : State) : Res :=
  .next <|
    if s.rng.state = .running ∧ 4194304 ≤ s.rng.given then (if 3 ≤ s.rng.pool.length then reseed s else modRng (fun r => { r with due := true }) s) else s

/-- The sources whose bits reach the conditioner: the healthy ones, but for the one that the re-balance has under test (R501, R516). -/
def creditedSources (s : State) : List Nat :=
  (List.range 16).filter (fun n => (sourceAt s n).healthy && !(maintRuns s 9 && decide (s.rng.rebalance = n)))

/-- Bits of min-entropy that a group of 2,048 raw bits is credited with, 0.5 for each (R501, R502). -/
def groupCredit : Nat := 1024

/-- CONDITIONED_BLOCK_READY (R501, R502, R504): a group of raw bits from the credited sources gives a block, which joins the pool of 8, and a scheduled reseed that
waits goes on. While the pool is full raw bits are discarded. Without a credited source, or before a start-up has ended, there is no group. -/
def execConditionedBlockReady (s : State) : Res :=
  .next <|
    if ¬ (s.rng.state = .running ∨ s.rng.state = .reseeding) ∨ creditedSources s = [] ∨ 8 ≤ s.rng.pool.length then s
    else
      let b := conditionedBlock s
      let s1 := modRng (fun r => { r with pool := r.pool ++ [b.1], credited := r.credited + groupCredit }) b.2
      if s1.rng.due ∧ 3 ≤ s1.rng.pool.length then modRng (fun r => { r with idle := s.sched.clock.toNat }) (reseed s1) else s1

/-- The output of the swath that has passed, at 2 GB/s for the clocks the DRBG gave any, with a step of the DRBG for each request of 4 KiB that ends (R503 to R505).
The bytes that consumers take from the queue are free values (DEDUCED, log entry 64). -/
def fillQueue (s : State) : State :=
  if s.rng.state = .running ∧ ¬ s.rng.due then
    let n := min (min (65536 - s.rng.level.toNat) ((25000 - s.rng.idle) * 8 / 5)) (4194304 - s.rng.given)
    let requests := (s.rng.given + n) / 4096 - s.rng.given / 4096
    modRng (fun r => { r with level := BitVec.ofNat 17 (r.level.toNat + n), given := r.given + n, idle := 0,
                              drbg := r.drbg.map (fun kv => (List.range requests).foldl (fun k _ => drbgRequest k) kv) }) s
  else s

/-- RNG_WAIT_EXPIRY (R235, R508): a step still unbound RNG_WAIT_LIMIT swaths after its first attempt; a withdrawn job takes no result of its own. -/
def execRngWaitExpiry (slot i : Nat) (s : State) : Res :=
  .next <|
    match jobAt s slot with
    | some j =>
      let x := stepAt j i
      if j.withdraw = none ∧ x.rngWait ≠ 0 ∧ x.stage = .waiting ∧ ¬ x.checked ∧ x.rngWait - 1 + s.rng.waitLimit.toNat ≤ now s then failStep slot i 0x0701 s else s
    | none => s

/-- Every step that waits for random output ends at the close after HALTED (R515). -/
def endWaiting (s : State) : State :=
  if s.rng.state ≠ .halted then s
  else
    forAll (keys s.jobs) (fun slot t =>
      match jobAt t slot with
      | some j => repeatIdx j.steps.length (fun i t => if j.withdraw = none ∧ (stepAt j i).rngWait ≠ 0 ∧ (stepAt j i).stage = .waiting then failStep slot i 0x0702 t else t) t
      | none => t) s

/-! ### Re-balance -/

/-- RNG_REBALANCE_SOURCE (R83, R516): the source whose turn it is ends its start-up test, with its trim code reset. -/
def execRngRebalanceSource (source : Nat) (passed : Bool) (s : State) : Res :=
  .next <|
    if 16 ≤ source ∨ source ≠ s.rng.rebalance then s
    else maintStep 9 s fun s =>
      let was := (sourceAt s source).healthy
      let s1 := modRng (fun r => { r with rebalance := source + 1 }) (modSource source (fun x => { x with trim := 0, atEnd := 0 }) s)
      let s2 :=
        if passed then (if s.rng.state = .running then modSource source (fun x => { x with healthy := true }) s1 else s1)
        else if was then failSource source false s1 else s1
      if source = 15 then endActivity 9 s2 else safePoint 9 s2

/-- RNG_REBALANCE_TIMER (R516): module firmware starts the activity every 24 hours. -/
def execRngRebalanceTimer (s : State) : Res := .next (schWriteWord 0x150 (2 ^ 9) s)

/-! ### Opcodes -/

/-- OP_RNG_GENERATE (R517). -/
def execOpRngGenerate (slot i : Nat) (s : State) : Res :=
  .next (runStep 0x0601 slot i (fun c t =>
    let n := min 65536 (if isChained c.job then c.step.dstCap else c.job.hdr.outLen)
    let r := drawBytes n t
    (ok r.1, r.2)) s)

/-- OP_RNG_RAW (R517, R518): bits of one source, which runs the start-up test before it rejoins. DEDUCED: log entry 64. -/
def execOpRngRaw (slot i : Nat) (passed : Bool) (s : State) : Res :=
  .next (runStep 0x0603 slot i (fun c t =>
    let n := byteAt 0 c.src
    if 16 ≤ n ∨ ¬ allZero (c.src.drop 1) then (bad 0x0404, t)
    else if t.rng.state = .halted then (bad 0x0702, t)
    else
      let r := drawBytes (min 131072 c.job.hdr.outLen) t
      (ok r.1, if passed then r.2 else failSource n false r.2)) s)

/-! ### Registers -/

/-- The 32-bit word at an offset of the RNG tile page (R519). -/
def rngWord (s : State) (off : Nat) : Nat :=
  let r := s.rng
  if 0x140 ≤ off ∧ off < 0x180 then let x := sourceAt s ((off - 0x140) / 4); x.ones.toNat + 65536 * x.trim.toNat
  else if 0x180 ≤ off ∧ off < 0x1C0 then
    let x := sourceAt s ((off - 0x180) / 4)
    x.lag1.toNat + 256 * x.lag2.toNat + 65536 * x.lag3.toNat + 2 ^ 24 * x.lag4.toNat
  else match off with
  | 0x100 => (match r.state with | .starting => 0 | .running => 1 | .reseeding => 2 | .halted => 3) + 65536 * healthyCount s
  | 0x108 => r.min.toNat
  | 0x10C => r.waitLimit.toNat
  | 0x110 => healthyBits s
  | 0x114 => r.apt.toNat + 65536 * r.rct.toNat
  | 0x118 => r.level.toNat
  | 0x11C => r.reseeds.toNat
  | _ => 0

/-- A restart written now is not ignored (R512). -/
def restartTaken (s : State) : Bool := (decide (s.rng.state = .running) || decide (s.rng.state = .halted)) && rngTileWorks s

/-- The effect of a 32-bit write in the RNG tile page (R512, R519). -/
def rngWriteWord (off v : Nat) (s : State) : State :=
  match off with
  | 0x104 => if bit 0 v && restartTaken s then rngStart s else s
  | 0x108 =>
    let n := v % 32
    if n < 4 ∨ 16 < n then raise rngTile 0x0506 off s
    else
      let s1 := modRng (fun r => { r with min := BitVec.ofNat 5 n }) s
      if (s.rng.state = .running ∨ s.rng.state = .reseeding) ∧ healthyCount s < n then rngHalt 0 s1 else s1
  | 0x10C => if v % 256 = 0 then raise rngTile 0x0506 off s else modRng (fun r => { r with waitLimit := BitVec.ofNat 8 v }) s
  | _ => s

/-- Offsets of the RNG tile page whose register has an audited field; RNG_CTL's is W1S. -/
def rngAudited (off : Nat) : Bool := decide (off ∈ [0x104, 0x108, 0x10C])

/-- What reading a word of the RNG tile page clears (R519). -/
def rngReadEffect (off : Nat) (s : State) : State :=
  match off with
  | 0x114 => modRng (fun r => { r with rct := 0, apt := 0 }) s
  | 0x11C => modRng (fun r => { r with reseeds := 0 }) s
  | _ => s

/-- RNG_RESTART (R512, R519): RNG_CTL.restart written 1. -/
def execRngRestart (m : Master) (s : State) : Res :=
  .next (audited (pageAddr rngTile 0x104) m 4 (fun s => rngWord s 0x104) (fun t => b2n (restartTaken t)) (rngWriteWord 0x104 1) s)

/-- RNG_MIN_SOURCES_WRITE (R512, R519). -/
def execRngMinSourcesWrite (m : Master) (value : BitVec 32) (s : State) : Res :=
  .next (audited (pageAddr rngTile 0x108) m 4 (fun s => rngWord s 0x108) noSets (rngWriteWord 0x108 value.toNat) s)

end Sys2Proof.Machine
end

