-- ==== Sys2Proof/Machine/Sym.lean ====
section
/-!
DEFINITION. Sys2Proof/Machine/Sym.lean: the symmetric opcodes (R388 to R401). Their operand checks are made at binding (Checks.lean).
-/
namespace Sys2Proof.Machine
open Sys2Proof

/-- The holder of nonces for a step: the cipher engine that runs it (R390). -/
def nonceHolder (s : State) (slot i : Nat) : Nat :=
  match runningOn s 1 slot i with
  | some (idx, _) => enginePage 1 idx
  | none => mkPage 2 0 0 0

/-- An encryption takes one nonce of its engine; it waits while a new mark is not durable (R391), and fails where the allocator is exhausted (R393). -/
def nonceFor (c : Call) (s : State) (f : Bytes → Delivered) : Option (Delivered × State) :=
  match takeNonce (nonceHolder s c.slot c.i) s with
  | some (n, s1) => some (f n, s1)
  | none => if nonceExhausted s then some (bad 0x0907, grantNonces (nonceHolder s c.slot c.i) s) else none

/-- An operation that takes one nonce. -/
def withNonce (op slot i : Nat) (f : Call → Bytes → Delivered) (s : State) : State := tryStep op slot i (fun c t => nonceFor c t (f c)) s

/-- XTS over the data units that the aux operand names (R400). -/
def xtsOf (enc : Bool) (c : Call) (a : Bytes) : Bytes := xts enc (matA c) (matB c) (leAt 0 4 a) (leAt 8 16 a) c.src

/-- OP_SYM_CBC_ENCRYPT (R400): CBC encryption under an initial value of the output queue (R394). -/
def execOpSymCbcEncrypt (slot i : Nat) (s : State) : Res :=
  .next (runStep 0x0201 slot i (fun c t =>
    let r := drawBytes (blockSize (algA c)) t
    (ok (r.1 ++ cbcE (algA c) (matA c) r.1 c.src), r.2)) s)

/-- OP_SYM_CBC_DECRYPT (R400): CBC decryption. -/
def execOpSymCbcDecrypt (slot i : Nat) (s : State) : Res :=
  .next (runPure 0x0202 slot i (fun c t => ok (cbcD (algA c) (matA c) (symAux t c.job i) c.src)) s)

/-- OP_SYM_CTR_ENCRYPT (R400): CTR encryption under a hardware nonce (R388). -/
def execOpSymCtrEncrypt (slot i : Nat) (s : State) : Res :=
  .next (withNonce 0x0203 slot i (fun c n => ok (n ++ zeros 4 ++ ctrX (matA c) (n ++ zeros 4) c.src)) s)

/-- OP_SYM_CTR_DECRYPT (R400): CTR decryption from a given counter block. -/
def execOpSymCtrDecrypt (slot i : Nat) (s : State) : Res :=
  .next (runPure 0x0204 slot i (fun c t => ok (ctrX (matA c) (symAux t c.job i) c.src)) s)

/-- OP_SYM_GCM_ENCRYPT (R400): GCM encryption under a hardware nonce (R388). -/
def execOpSymGcmEncrypt (slot i : Nat) (s : State) : Res :=
  .next (tryStep 0x0211 slot i (fun c t => nonceFor c t (fun n => ok (n ++ gcmE (matA c) n (symAux t c.job i) c.src))) s)

/-- OP_SYM_GCM_DECRYPT (R400): GCM decryption: nothing is released before the tag passes (R396). -/
def execOpSymGcmDecrypt (slot i : Nat) (s : State) : Res :=
  .next (runPure 0x0212 slot i (fun c t =>
    let a := symAux t c.job i
    match gcmD (matA c) (a.take 12) (a.drop 12) c.src with | some p => ok p | none => bad 0x0408) s)

/-- OP_SYM_CMAC (R400): CMAC, cut to mac_len. -/
def execOpSymCmac (slot i : Nat) (s : State) : Res :=
  .next (runPure 0x0224 slot i (fun c t =>
    let a := symAux t c.job i
    ok ((cmac (matA c) c.src).take (if a = [] then 16 else byteAt 0 a))) s)

/-- OP_SYM_CMAC_VERIFY (R400): CMAC verification. -/
def execOpSymCmacVerify (slot i : Nat) (s : State) : Res :=
  .next (runPure 0x0225 slot i (fun c t =>
    let a := symAux t c.job i
    if (cmac (matA c) c.src).take a.length = a then ok [] else bad 0x0405) s)

/-- OP_SYM_XTS_ENCRYPT (R400): XTS encryption. -/
def execOpSymXtsEncrypt (slot i : Nat) (s : State) : Res :=
  .next (runPure 0x0231 slot i (fun c t => ok (xtsOf true c (symAux t c.job i))) s)

/-- OP_SYM_XTS_DECRYPT (R400): XTS decryption. -/
def execOpSymXtsDecrypt (slot i : Nat) (s : State) : Res :=
  .next (runPure 0x0232 slot i (fun c t => ok (xtsOf false c (symAux t c.job i))) s)

/-- OP_SYM_KEY_WRAP (R400): KW and KWP. -/
def execOpSymKeyWrap (slot i : Nat) (s : State) : Res :=
  .next (runPure 0x0241 slot i (fun c t => ok (if byteAt 0 (symAux t c.job i) = 1 then kwWrap (matA c) c.src else kwpWrap (matA c) c.src)) s)

/-- OP_SYM_KEY_UNWRAP (R400): KW and KWP unwrapping: nothing is released where the check fails (R396). -/
def execOpSymKeyUnwrap (slot i : Nat) (s : State) : Res :=
  .next (runPure 0x0242 slot i (fun c t =>
    match (if byteAt 0 (symAux t c.job i) = 1 then kwUnwrap (matA c) c.src else kwpUnwrap (matA c) c.src) with
    | some p => ok p
    | none => bad 0x0408) s)

end Sys2Proof.Machine
end

