-- ==== Sys2Proof/Machine/TenantOps.lean ====
section
/-!
DEFINITION. Sys2Proof/Machine/TenantOps.lean: the start of a core (R569), tenant programs (R553 to R556, R558, R570), interrupts and step budgets (R556,
R582, R766), and the registers of cores and gates (R559, R560, R599 to R602).
-/
namespace Sys2Proof.Machine
open Sys2Proof

/-- A core starts as vector 0 (R569, R572). -/
def startRegs (n : Nat) : CoreRegs :=
  let sysAll := mkCap 0 0 0xFF00 0 false false
  { c := [(0, mkCap 0 (if n = 16 then 0x30000 else 0x20000) pEX 0 false false), (1, mkCap 0 (2 ^ 36) (pLD + pST + pLDC + pSTC + pGLOBAL) 0 false false),
          (2, mkCap 0 0 (pSEAL + pUNSEAL) 0 false true), (3, sysAll)],
    st := { mode := if n = 16 then 3 else 0, w := decide (n = 16) } }

/-- Start a core, unless it halted after a failed refuge (R569, R586). -/
def startCore (n : Nat) (s : State) : State :=
  if (coreAt s n).halted then s
  else modCore n (fun c => { c with regs := startRegs n, mode := .firmware, splits := [], stores := [], late := [], overrun := none, sinceTrace := 0 }) s

/-! ### Images -/

/-- The header of an image is as R553 lays it out. -/
def tenantHeaderOk (h : Bytes) : Bool :=
  let path := byteAt 30 h
  let rows := leAt 12 2 h
  decide (h.take 4 = ascii "NTP1" ∧ leAt 4 2 h = 1 ∧ isTenantOp (leAt 6 2 h) = true ∧ 1 ≤ rows ∧ rows ≤ 4096 ∧ leAt 14 2 h < rows * 16
      ∧ leAt 16 4 h ≤ 65536 ∧ leAt 24 2 h ≤ 16384 ∧ leAt 26 2 h ≤ 16384 ∧ leAt 28 2 h ≤ 16384 ∧ path ≤ 3 ∧ byteAt 31 h = 0)
    && (List.range 3).all (fun i => if i < path then decide (1 ≤ byteAt (32 + i) h ∧ byteAt (32 + i) h ≤ 54) else decide (byteAt (32 + i) h = 0))
    && decide (1 ≤ byteAt 35 h ∧ byteAt 35 h ≤ 58 ∧ 1 ≤ leAt 36 4 h ∧ leAt 36 4 h ≤ 1000000)
    && decide (leAt 40 2 h = 0x0102 ∨ leAt 40 2 h = 0x0132 ∨ leAt 40 2 h = 0x0133) && allZero (slice 42 214 h)
    && decide (up64 (leAt 24 2 h) + up64 (leAt 26 2 h) + up64 (leAt 28 2 h) + up64 (leAt 20 4 h) ≤ 65536)

/-- Rows of an image. -/
def tenantRows (t : Tenant) : Nat := leAt 12 2 t.header

/-- Tenant program rows free (R560). -/
def freeRows (s : State) : Nat := 4096 - (s.tenants.map (fun e => tenantRows e.2)).sum

/-- The lowest run of free tenant rows of a length, from row 4,096 up (R522, R554). -/
def placeRows (s : State) (n : Nat) : Option Nat :=
  let starts := 4096 :: s.tenants.map (fun e => e.2.firstRow + tenantRows e.2)
  let fits := fun a => decide (a + n ≤ 8192) && s.tenants.all (fun e => decide (e.2.firstRow + tenantRows e.2 ≤ a ∨ a + n ≤ e.2.firstRow))
  (starts.filter fits).foldl (fun b a => match b with | none => some a | some x => some (min x a)) none

/-- The lowest free place for rodata. -/
def placeRodata (s : State) : Option Nat := (List.range 240).find? (fun k => s.tenants.all (fun e => decide (e.2.place ≠ k)))

/-- Control SRAM address of a rodata place. -/
def rodataAt (place : Nat) : Nat := 0x10100000 + 0x10000 * place

/-- An unfinished job has a step of a tenant entry. -/
def tenantUsed (s : State) (op : Nat) : Bool := s.jobs.any (fun e => decide (e.2.stage ≠ .finished) && e.2.steps.any (fun x => decide (x.step.opcode = op)))

/-- The image of an opcode leaves its entry: jobs admitted earlier keep it under a key of their own, else its rows are free (R554). -/
def retireTenant (op : Nat) (s : State) : State :=
  match mfind op s.tenants with
  | none => s
  | some t =>
    if tenantUsed s op then
      let k := ((List.range 65536).map (fun i => op + 65536 * (i + 1))).find? (fun k => (mfind k s.tenants).isNone)
      match k with
      | some k =>
        let fix := fun (x : StepRun) => if x.step.opcode = op then { x with step := { x.step with opcode := k } } else x
        { s with tenants := mput k t (merase op s.tenants), jobs := mapVals (fun _ j => if j.stage = .finished then j else { j with steps := j.steps.map fix }) s.jobs }
      | none => s
    else { s with tenants := merase op s.tenants }

/-- Images kept for earlier jobs are freed when the last of them has ended (R554). -/
def pruneTenants (s : State) : State := { s with tenants := s.tenants.filter (fun e => decide (e.1 < 65536) || tenantUsed s e.1) }

/-- A row written through the sealing port with its seal (R528, R530). -/
def writeRow (n row : Nat) (code : Bytes) (s : State) : State :=
  let c := fit 28 code
  modCore n (fun x => { x with program := mput row { code := c, rowSeal := sealOfRow s n row c } x.program }) (clearRow (.program n row) s)

/-- The signature of an image verifies under a key (R553). -/
def tenantSigned (alg : Nat) (key signed sig : Bytes) : Bool :=
  if alg = 0x0102 then Config.accepts "ECDSA verification" [leBytes 2 alg, key, sig, sha384 signed]
  else Config.accepts "ML-DSA verification" [leBytes 2 alg, key, leBytes 1 4 ++ ascii "NTP1" ++ sig, signed]

/-- Load a checked image (R554). -/
def loadTenant (h code rodata : Bytes) (row place : Nat) (digest : Bytes) (s : State) : State :=
  let op := leAt 6 2 h
  let s1 := repeatIdx 16 (fun n t => repeatIdx (leAt 12 2 h) (fun r u => writeRow n (row + r) (slice (28 * r) 28 code) u) t) s
  let s2 := memWrite 0 (rodataAt place) rodata s1
  raise (corePage 0) 0x050B op { s2 with tenants := mput op { header := h, code := code, rodata := rodata, digest := digest, firstRow := row, place := place } s2.tenants }

/-- OP_TEN_LOAD (R553, R554, R558). -/
def execOpTenLoad (slot i : Nat) (s : State) : Res :=
  .next (runStep 0x0801 slot i (fun c t =>
    let x := c.src
    let h := x.take 256
    let alg := leAt 40 2 h
    let body := 28 * leAt 12 2 h
    let ro := leAt 16 4 h
    let signed := 256 + body + ro
    if ¬ tenantHeaderOk h ∨ alg ≠ algA c then (bad 0x0404, t)
    else if x.length ≠ signed + sigLen alg then (bad 0x0401, t)
    else if ¬ tenantSigned alg (matA c) (x.take signed) (x.drop signed) then (bad 0x0C02, raise (corePage 0) 0x050C (leAt 6 2 h) t)
    else
      let t1 := retireTenant (leAt 6 2 h) t
      match placeRows t1 (leAt 12 2 h), placeRodata t1 with
      | some row, some place => (ok [], loadTenant h (slice 256 body x) (slice (256 + body) ro x) row place (sha384 x) t1)
      | _, _ => (bad 0x0401, t)) s)

/-- OP_TEN_UNLOAD (R558). -/
def execOpTenUnload (slot i : Nat) (s : State) : Res :=
  .next (runStep 0x0802 slot i (fun c t =>
    let op := leAt 0 2 c.src
    if tenantLoaded t op then (ok [], retireTenant op t) else (bad 0x0C01, t)) s)

/-- OP_TEN_INFO (R558). -/
def execOpTenInfo (slot i : Nat) (s : State) : Res :=
  .next (runPure 0x0803 slot i (fun c s =>
    match mfind (leAt 0 2 c.src) s.tenants with
    | some t => ok (t.header.take 64 ++ fit 48 t.digest)
    | none => bad 0x0C01) s)

/-! ### Invocations -/

/-- Fabric clocks of a step's budget (R556). -/
def stepBudget (h : Bytes) (cls steps : Nat) : Nat := (if cls = 0 then byteAt (31 + steps) h else byteAt 35 h) * 3125 / 8

/-- The registers an invocation starts with (R555, R570). -/
def tenantRegs (t : Tenant) (ctx cls srcLen auxLen dstCap : Nat) : CoreRegs :=
  let h := t.header
  let src := srcAt ctx
  let aux := auxAt ctx (leAt 24 2 h)
  let dst := dstAt ctx (leAt 24 2 h) (leAt 26 2 h)
  let scratch := dst + up64 (leAt 28 2 h)
  let ro := rodataAt t.place
  let gs : List (Nat × Nat) := [(1, srcLen), (2, auxLen), (3, dstCap), (4, cls), (5, src), (6, aux), (7, dst), (16, scratch), (17, ro)]
  let code := t.firstRow * 16
  { g := gs.foldl (fun m e => mset 0 m e.1 (BitVec.ofNat 64 e.2)) [],
    c := [(0, mkCap code (tenantRows t * 16) pEX 0 false false), (1, mkCap src (leAt 24 2 h) pLD 0 false false), (2, mkCap aux (leAt 26 2 h) pLD 0 false false),
          (3, mkCap dst (leAt 28 2 h) (pLD + pST) 0 false false), (4, mkCap scratch (leAt 20 4 h) (pLD + pST) 0 false false),
          (5, mkCap ro (leAt 16 4 h) pLD 0 false false)],
    st := { ctx := BitVec.ofNat 2 ctx, mode := 1, ie := true }, pc := BitVec.ofNat 18 (code + leAt 14 2 h) }

/-- TENANT_PROGRAM_INVOKE (R555, R570): the step's invocation starts on its core, or a parked one goes on. -/
def execTenantProgramInvoke (slot i core : Nat) (s : State) : Res :=
  .next <|
    match runningOn s 5 slot i, jobAt s slot with
    | some (n, _), some j =>
      let op := (stepAt j i).step.opcode
      match callAt s op slot i, mfind op s.tenants with
      | some c, some t =>
        if n ≠ core ∨ ¬ isTenantOp op ∨ (coreAt s n).running.isSome ∨ (coreAt s n).halted then s
        else
          let clock := s.sched.clock.toNat
          let steps := match (coreAt s n).parked with | some (v, _) => if v.slot = slot ∧ v.step = i then v.steps + 1 else 1 | none => 1
          let v : Invocation := { slot := slot, step := i, opcode := op, budget := stepBudget t.header j.hdr.cls steps, from_ := clock, steps := steps }
          match (coreAt s n).parked, steps with
          | some (_, r), _ + 2 => modCore n (fun x => { x with regs := r, mode := .tenant, running := some v, parked := none }) s
          | _, _ =>
            let ctx := if singleSwath t.header j.hdr.cls then 0 else 1
            let s1 := wipeContext n ctx s
            let s2 := memWrite n (auxAt ctx (leAt 24 2 t.header)) c.aux (memWrite n (srcAt ctx) c.src s1)
            modCore n (fun x => { x with regs := tenantRegs t ctx j.hdr.cls c.src.length c.aux.length (dstCapacity s j i), mode := .tenant, running := some v }) s2
      | _, _ => s
    | _, _ => s

/-- STEP_BUDGET_EXPIRY (R556, R582): the budget of the running step is used up at this clock of the swath; vector 14 at the next boundary. -/
def execStepBudgetExpiry (core clock : Nat) (s : State) : Res :=
  .next <|
    let c := coreAt s core
    match c.running with
    | some v =>
      if clock < v.from_ + v.budget ∨ c.overrun.isSome then s
      else if ¬ c.regs.delay ∧ c.regs.shadow = 0 ∧ drained c then takeException core 14 c.regs.pc.toNat 0 0 (v.opcode % 65536) s
      else modCore core (fun c => { c with overrun := some (v.opcode % 65536) }) s
    | none => s

/-! ### Interrupts -/

/-- A page where bit b is pending and no child holds it: an event was raised there. -/
def raisedAt (s : State) (p b : Nat) : Bool := (unitAt s p).pend.getLsbD b && !(children p).any (fun c => (unitAt s c).pend.getLsbD b)

/-- Interrupt vectors requested of a core: a page's interrupt route holds a bit that stays pending (R765, R766). -/
def requested (s : State) (core : Nat) : List Nat :=
  let origins := (keys s.units).flatMap (fun p => ((List.range 9).filter (fun b => raisedAt s p b)).map (fun b => (p, b)))
  let vs := origins.filterMap (fun e =>
    match routePage 6 s e.1 e.2 with
    | some q => let u := unitAt s q; if u.routeCore.toNat = core ∧ u.routeInt ≠ 0 then some u.routeInt.toNat else none
    | none => none)
  vs.filter (fun v => decide (16 ≤ v ∧ v ≤ 47))

/-- INTERRUPT_ENTRY (R582, R766): the lowest requested vector is taken at a boundary while st.ie is 1 and no vector 14, 10 or 13 comes first. -/
def execInterruptEntry (core : Nat) (s : State) : Res :=
  .next <|
    let c := coreAt s core
    let r := c.regs
    match (requested s core).foldl (fun b v => match b with | none => some v | some x => some (min x v)) none with
    | some v =>
      if core < 16 ∧ coreRuns s core ∧ r.st.ie ∧ ¬ r.delay ∧ r.shadow = 0 ∧ c.overrun = none ∧ c.late = [] ∧ ¬ r.st.trace then
        (if drained c then takeException core v r.pc.toNat 0 0 0 s else stall core s)
      else s
    | none => s

/-- LATE_STORE_ERROR (R584): the oldest buffered store fails and is discarded. -/
def lateStore (core cause : Nat) (s : State) : State :=
  match (coreAt s core).stores with
  | w :: _ => modCore core (fun c => { c with late := c.late ++ [(0, cause, w)] }) (popStore core s)
  | [] => s

/-- LATE_STORE_ERROR (R584). -/
def execLateStoreError (core cause : Nat) (s : State) : Res := .next (if 1 ≤ cause ∧ cause ≤ 3 then lateStore core cause s else s)

/-! ### Registers -/

/-- The 32-bit word at an offset of a core's page (R559). -/
def coreWord (s : State) (n off : Nat) : Nat :=
  let c := coreAt s n
  let ctxCode := fun (k : Nat) =>
    if c.running.isSome ∧ c.regs.st.ctx.toNat = k then 1 else if k = 1 ∧ c.parked.isSome then 2 else 0
  match off with
  | 0x100 =>
    (match c.mode with | .idle => 0 | .firmware => 1 | .tenant => 2) + 4 * ctxCode 0 + 16 * ctxCode 1 + 64 * b2n c.halted
      + 128 * b2n (decide (n = 16) || c.regs.st.w) + 65536 * (match c.running with | some v => v.opcode % 65536 | none => 0)
  | 0x104 => c.issued.toNat
  | 0x108 => c.stalls.toNat
  | _ => 0

/-- What reading a word of a core's page clears (R559). -/
def coreReadEffect (n off : Nat) (s : State) : State :=
  match off with
  | 0x104 => modCore n (fun c => { c with issued := 0 }) s
  | 0x108 => modCore n (fun c => { c with stalls := 0 }) s
  | _ => s

/-- CTL_TEN_STAT (R560). -/
def tenantWord (s : State) : Nat := (s.tenants.filter (fun e => decide (e.1 < 65536))).length + 65536 * freeRows s

/-- The gate on a page (R597). -/
def gateOn (page : Nat) : Option Nat := (List.range 35).find? (fun m => decide (gatePage m = page))

/-- The 32-bit word at an offset 0x400 to 0x497 of a gate's page (R599 to R602). -/
def gateWord (s : State) (m off : Nat) : Nat :=
  let g := gateAt s m
  if 0x400 ≤ off ∧ off < 0x480 then
    let v := (mget 0 g.regions ((off - 0x400) / 8)).toNat
    if off % 8 = 0 then v % 2 ^ 32 else v / 2 ^ 32
  else match off with
  | 0x480 => 1
  | 0x488 => g.addr.toNat % 2 ^ 32
  | 0x48C => g.addr.toNat / 2 ^ 32
  | 0x490 => b2n g.r + 2 * b2n g.w + 4 * b2n g.x + 8 * b2n g.dma + 16 * b2n g.user + 65536 * g.count.toNat
  | _ => 0

/-- The fields a region register holds: bits [62:60] are reserved, and x reads 0 where the master is not a core (R599). -/
def regionFields (m : Nat) (v : BitVec 64) : BitVec 64 :=
  let w := v &&& ~~~ BitVec.ofNat 64 (7 * 2 ^ 60)
  if m ≤ 16 then w else w &&& ~~~ BitVec.ofNat 64 (2 ^ 57)

/-- Write a whole region register (R596, R599). -/
def writeRegion (m n : Nat) (v : BitVec 64) (s : State) : State := modGate m (fun g => { g with regions := mset 0 g.regions n (regionFields m v) }) s

/-- The effect of a 32-bit write at an offset of a gate's registers (R599). -/
def gateWriteWord (m off v : Nat) (s : State) : State :=
  if 0x400 ≤ off ∧ off < 0x480 then
    let n := (off - 0x400) / 8
    let old := (mget 0 (gateAt s m).regions n).toNat
    writeRegion m n (BitVec.ofNat 64 (if off % 8 = 0 then old / 2 ^ 32 * 2 ^ 32 + v % 2 ^ 32 else old % 2 ^ 32 + 2 ^ 32 * v)) s
  else s

/-- Region registers are audited (R599). -/
def gateAudited (off : Nat) : Bool := decide (0x400 ≤ off ∧ off < 0x480)

/-- What reading GATE_FAULT_INFO clears (R602). -/
def gateReadEffect (m off : Nat) (s : State) : State := if off = 0x490 then modGate m (fun g => { g with count := 0 }) s else s

end Sys2Proof.Machine
end

