-- ==== Sys2Proof/Machine/Chain.lean ====
section
/-!
DEFINITION. Sys2Proof/Machine/Chain.lean: the opcodes of family 0x0F that have engine work of their steps or none (R216 to R222, R227).
-/
namespace Sys2Proof.Machine
open Sys2Proof

/-- The operation of a chainable opcode on a bound step (R225). -/
def runChainable (op slot i : Nat) (s : State) : Res :=
  match op with
  | 0x0101 => execOpPkValidate slot i s
  | 0x0111 => execOpPkEcdsaSign slot i s
  | 0x0112 => execOpPkEcdsaVerify slot i s
  | 0x0121 => execOpPkEddsaSign slot i s
  | 0x0122 => execOpPkEddsaVerify slot i s
  | 0x0131 => execOpPkEcdh slot i s
  | 0x0141 => execOpPkRsaSign slot i s
  | 0x0142 => execOpPkRsaVerify slot i s
  | 0x0143 => execOpPkRsaEncrypt slot i s
  | 0x0144 => execOpPkRsaDecrypt slot i s
  | 0x0151 => execOpPkMldsaSign slot i s
  | 0x0152 => execOpPkMldsaVerify slot i s
  | 0x0161 => execOpPkMlkemEncaps slot i s
  | 0x0162 => execOpPkMlkemDecaps slot i s
  | 0x0171 => execOpPkSlhdsaVerify slot i s
  | 0x0201 => execOpSymCbcEncrypt slot i s
  | 0x0202 => execOpSymCbcDecrypt slot i s
  | 0x0203 => execOpSymCtrEncrypt slot i s
  | 0x0204 => execOpSymCtrDecrypt slot i s
  | 0x0211 => execOpSymGcmEncrypt slot i s
  | 0x0212 => execOpSymGcmDecrypt slot i s
  | 0x0224 => execOpSymCmac slot i s
  | 0x0225 => execOpSymCmacVerify slot i s
  | 0x0231 => execOpSymXtsEncrypt slot i s
  | 0x0232 => execOpSymXtsDecrypt slot i s
  | 0x0241 => execOpSymKeyWrap slot i s
  | 0x0242 => execOpSymKeyUnwrap slot i s
  | 0x0301 => execOpPayPinTranslate slot i s
  | 0x0302 => execOpPayPinTranslateAesDukpt slot i s
  | 0x0303 => execOpPayPinTranslateTdesDukpt slot i s
  | 0x0311 => execOpPayPinVerify slot i s
  | 0x0321 => execOpPayMacGenerate slot i s
  | 0x0322 => execOpPayMacVerify slot i s
  | 0x0330 => execOpPayCvvGenerate slot i s
  | 0x0331 => execOpPayCvvVerify slot i s
  | 0x0341 => execOpPayArqcVerify slot i s
  | 0x0342 => execOpPayArpcGenerate slot i s
  | 0x0351 => execOpPayFf1Encrypt slot i s
  | 0x0352 => execOpPayFf1Decrypt slot i s
  | 0x0401 => execOpVltTokenise slot i s
  | 0x0402 => execOpVltDetokenise slot i s
  | 0x0403 => execOpVltQuery slot i s
  | 0x0404 => execOpVltLookup slot i s
  | 0x0405 => execOpVltStatusSet slot i s
  | 0x0601 => execOpRngGenerate slot i s
  | _ =>
    if isTenantOp op then (match runningOn s 5 slot i with | some (core, _) => execTenantProgramInvoke slot i core s | none => .next s)
    else .next s

/-- OP_CHAIN (R216 to R222, R227): step i of a chained job runs its operation; the operand buffer, the chain report and the release of the output are
those of every step that ends (Jobs.lean). -/
def execOpChain (slot i : Nat) (s : State) : Res :=
  match jobAt s slot with
  | none => .next s
  | some j => if isChained j then runChainable (stepAt j i).step.opcode slot i s else .next s

/-- OP_NOP (R227): no engine work and no output. -/
def execOpNop (slot i : Nat) (s : State) : Res := .next (runPure 0x0F02 slot i (fun _ _ => ok []) s)

end Sys2Proof.Machine
end

