-- ==== Sys2Proof/Machine/Recorder.lean ====
section
/-!
DEFINITION. Sys2Proof/Machine/Recorder.lean: the event recorder's own doings (R487 to R495, R787) and its registers (R496).
-/
namespace Sys2Proof.Machine
open Sys2Proof

/-- The recorder tile page (R496). -/
def recTile : Nat := mkPage 4 2 6 0

/-- The 32 bytes of an event record (R487). -/
def eventBytes (r : EvRec) : Bytes :=
  leBytes 6 r.seq ++ leBytes 2 r.code ++ leBytes 4 r.epoch ++ leBytes 6 r.swath ++ leBytes 2 r.unit ++ leBytes 2 r.repeats
    ++ leBytes 1 (b2n r.summary + 2 * b2n r.flushed + 4 * b2n r.priv) ++ zeros 1 ++ leBytes 6 r.detail ++ zeros 1 ++ [0x5A]

/-- The unit whose UNIT_EVT_RATE limits the records of a unit field of R487. -/
def ratePage (unit : Nat) : Nat := if 0x8000 ≤ unit then chanPage else unit

/-- The summary record of a code that its rate limited in the window, none where every occurrence was recorded (R490). -/
def summaryOf (s : State) (key : Nat) (c : RateCount) : Option EvRec :=
  let limit := rateLimit (unitAt s (ratePage (key / 65536))).rate
  if limit < c.n then
    some { code := key % 65536, epoch := s.sched.epoch.toNat, swath := c.first, unit := key / 65536, repeats := min 65535 (c.n - limit),
           summary := true, detail := c.detail % 2 ^ 48 }
  else none

/-- EVT_RATE_WINDOW_END (R490): at the close of the last swath of a window, one summary record for each limited code, and the counts begin again. -/
def execEvtRateWindowEnd (s : State) : Res :=
  .next <|
    if now s % 4096 = 4095 then
      let rs := s.recorder.counts.filterMap (fun e => summaryOf s e.1 e.2)
      noteDropped s.recorder.dropped (enqueue rs { s with recorder := { s.recorder with counts := [] } })
    else s

/-- PRIVILEGED_RECORD_CLOSE (R491): the oldest open privileged record has been open for 16 swaths and enters the queue. -/
def execPrivilegedRecordClose (s : State) : Res :=
  .next <|
    match s.recorder.openPriv with
    | r :: rs => if 16 ≤ (now s + 2 ^ 48 - r.swath) % 2 ^ 48 then enqueue [r] { s with recorder := { s.recorder with openPriv := rs } } else s
    | [] => s

/-- Every tile's buffer is collected (R492). -/
def collectAll (flushed : Bool) (s : State) : State := forAll (keys s.recorder.buffers) (fun t s => collect t flushed s) s

/-- TILE_BUFFER_COLLECT (R492): at every 64th close. -/
def execTileBufferCollect (s : State) : Res :=
  .next (if s.sched.phase = .close ∧ now s % 64 = 63 then noteDropped s.recorder.dropped (collectAll false s) else s)

/-- A sector of the recorder region by its number in it (R494, R604). -/
def recSector (k : Nat) : Nat := 384 + k % 256

/-- Index of the code word at a place of the recorder region. -/
def recIndex (s : State) (sector word : Nat) : Nat := areaIndex s (recSector sector) word

/-- Writing enters a sector: one whose erase was interrupted is erased again, and the sector two ahead is erased, with the oldest records where it holds any; both erases
are in the ledger (R494, R621). -/
def enterSector (sector : Nat) (s : State) : State :=
  let n := s.recorder.stored.length
  let s0 := if (sectorAt s (recSector sector)).interrupted then ownErase appendLedger (recSector sector) s else s
  let s1 := ownErase appendLedger (recSector (sector + 2)) s0
  if 254 * 2048 ≤ n then raise recPage 0x0521 ((sector + 2) % 256) { s1 with recorder := { s1.recorder with stored := s1.recorder.stored.drop (n - 253 * 2048) } }
  else s1

/-- The record at the front of the queue is programmed, takes its seq and becomes readable (R487, R494). -/
def programNext (s : State) : State :=
  match s.recorder.queue with
  | [] => s
  | r :: rs =>
    let s1 := if s.recorder.word = 0 then enterSector s.recorder.sector s else s
    let c := s1.recorder
    let full := decide (c.word = 2047)
    let done := { r with seq := c.nextSeq }
    let c1 := { c with queue := rs ++ c.queue.drop (rs.length + 1), stored := c.stored ++ [done], nextSeq := c.nextSeq + 1,
                       word := if full then 0 else c.word + 1, sector := if full then (c.sector + 1) % 256 else c.sector }
    { putWord (recIndex s1 c.sector c.word) (some (eventBytes done)) s1 with recorder := c1 }

/-- What the scan at start-up finds in the recorder region: a word that cannot be read, or has no mark, is no record and counts as cut short (R488, R496). -/
def scanRecords (s : State) : State :=
  let lost := s.flash.words.filter (fun e => let n := namedSector s (e.1 / 2048)
    decide (384 ≤ n ∧ n < 640) && (match e.2 with | some w => !((flashRead s e.1 w).delivers.any (fun d => decide (d.getD 31 0 = 0x5A))) | none => true))
  { s with recorder := { s.recorder with
      torn := BitVec.ofNat 16 (min 65535 lost.length)
      stored := s.recorder.stored.filter (fun r => !lost.any (fun e => decide (e.2 = some (eventBytes r)))) } }

/-- REC_PROGRAM_DONE (R487, R493, R494, R787). -/
def execRecProgramDone (s : State) : Res := .next (programNext s)

/-! ### The cursor -/

/-- The oldest and newest readable records, 0 where none is (R494, R496). -/
def recOldest (s : State) : Nat := match s.recorder.stored.head? with | some r => r.seq | none => 0
def recNewest (s : State) : Nat := match s.recorder.stored.getLast? with | some r => r.seq | none => 0

/-- A command begins to load the window; one that runs is replaced (R495). -/
def cursor (command : Nat) (s : State) : State :=
  if 1 ≤ command ∧ command ≤ 5 then { s with recorder := { s.recorder with busy := true, command := command } } else s

/-- The sequence number a command asks for (R495). -/
def cursorAsks (s : State) : Nat :=
  let r := s.recorder
  match r.command with
  | 1 => recOldest s
  | 2 => max (recOldest s) (recNewest s - 7)
  | 3 => r.seek.toNat
  | 4 => r.first + r.count
  | _ => r.first - 8

/-- REC_CURSOR commands 1 to 5 (R495, R496). -/
def execRecCursorOldest (s : State) : Res := .next (cursor 1 s)
def execRecCursorNewest (s : State) : Res := .next (cursor 2 s)
def execRecCursorSeek (s : State) : Res := .next (cursor 3 s)
def execRecCursorNext (s : State) : Res := .next (cursor 4 s)
def execRecCursorPrevious (s : State) : Res := .next (cursor 5 s)

/-- REC_WINDOW_LOADED (R495): the window holds a copy of up to 8 consecutive records, the sequence clamped to the readable range. -/
def execRecWindowLoaded (s : State) : Res :=
  .next <|
    let r := s.recorder
    if ¬ r.busy then s
    else
      let a := cursorAsks s
      let b := min (max a (recOldest s)) (recNewest s)
      let below := decide (r.command = 5 ∧ r.first < 8 + recOldest s)
      let w := (r.stored.filter (fun e => decide (b ≤ e.seq ∧ e.seq < b + 8)))
      { s with recorder := { r with busy := false, window := w, count := w.length, first := b, clamped := decide (a ≠ b) || below } }

/-! ### Registers -/

/-- The 32-bit word at an offset of the recorder tile page (R496). -/
def recWord (s : State) (off : Nat) : Nat :=
  let r := s.recorder
  if 0x200 ≤ off ∧ off < 0x300 then leAt ((off - 0x200) % 32) 4 (match r.window[(off - 0x200) / 32]? with | some e => eventBytes e | none => [])
  else match off with
  | 0x100 => recNewest s % 2 ^ 32
  | 0x104 => recNewest s / 2 ^ 32 % 65536
  | 0x108 => recOldest s % 2 ^ 32
  | 0x10C => recOldest s / 2 ^ 32 % 65536
  | 0x110 => r.count + 128 * b2n r.clamped + 256 * b2n r.busy
  | 0x118 => r.seek.toNat % 2 ^ 32
  | 0x11C => r.seek.toNat / 2 ^ 32
  | 0x120 => r.torn.toNat + 65536 * r.dropped.toNat
  | _ => 0

/-- The effect of a 32-bit write in the recorder tile page (R496). -/
def recWriteWord (off v : Nat) (s : State) : State :=
  match off with
  | 0x110 => cursor (v / 2 ^ 29 % 8) s
  | 0x118 => { s with recorder := { s.recorder with seek := BitVec.ofNat 48 (s.recorder.seek.toNat / 2 ^ 32 * 2 ^ 32 + v) } }
  | 0x11C => { s with recorder := { s.recorder with seek := BitVec.ofNat 48 (s.recorder.seek.toNat % 2 ^ 32 + v % 65536 * 2 ^ 32) } }
  | _ => s

/-- What reading a word of the recorder tile page clears: REC_COUNTS.dropped (R496). -/
def recReadEffect (off : Nat) (s : State) : State := if off = 0x120 then { s with recorder := { s.recorder with dropped := 0 } } else s

end Sys2Proof.Machine
end

