-- ==== Sys2Proof/Machine/SysCall.lean ====
section
/-!
DEFINITION. Sys2Proof/Machine/SysCall.lean: what every SYS function shares (R539, R544, R557, R571).
-/
namespace Sys2Proof.Machine
open Sys2Proof

/-- What a SYS of a group can raise (R571). -/
def sysCauses (group : Nat) (cap : BitVec 3) (r : CoreRegs) : List CoreCause :=
  let c := cRead r cap
  let any := (List.range 8).any (fun i => let k := cRead r (BitVec.ofNat 3 i); k.tag && !capSealed k && decide (256 ≤ capPerms k))
  if ¬ any then [cause 2] else needs (c.tag && !capSealed c && holds c (2 ^ (8 + group))) (cause 3)

/-- A SYS function (R544, R557): its argument comes from g[rs], its result goes to g[rs] with the latency of a local load (R539). -/
def sysCall (x : Issue) (group : Nat) (cap : BitVec 3) (rs : BitVec 5) (wait : Nat → State → Bool) (f : Nat → State → Nat × State) (s : State) : Res :=
  let arg := fun (s : State) => (gRead (coreAt s x.core).regs rs).toNat
  issue x { shadowBad := true } (fun s => sysCauses group cap (coreAt s x.core).regs) (fun s => wait (arg s) s)
    (fun s =>
      let r := f (arg s) s
      modRegs x.core (writeG rs (BitVec.ofNat 64 r.1) 4) r.2) none s

/-- A function whose result the spec does not state: a free value. -/
def unstated (s : State) : Nat × State := let r := draw s; (r.1.toNat % 2 ^ 64, r.2)

/-- The 64-byte block of control SRAM that an argument names (R557). -/
def sysBlock (s : State) (n a : Nat) : Bytes := if spaceOf a = .sram then memRead s n a 64 else zeros 64

/-- The master that a core is to registers (R462). -/
def coreMaster (s : State) (n : Nat) : Master :=
  if n = 16 then .boot
  else match (coreAt s n).running with
    | some v => if (coreAt s n).regs.st.mode = 1 then .tenant n (v.opcode % 65536) else .core n
    | none => .core n

end Sys2Proof.Machine
end

