-- ==== Sys2Proof/Machine/FlashOps.lean ====
section
/-!
DEFINITION. Sys2Proof/Machine/FlashOps.lean: code flash: its commands (R607 to R612), what a loss of power leaves (R606, R622), staging and its opcodes (R624 to
R626) and the FLS_ registers (R627 to R631).
-/
namespace Sys2Proof.Machine
open Sys2Proof

/-- The code flash tile page (R627). -/
def flashTile : Nat := mkPage 4 2 3 0

/-! ### Commands -/

/-- The partition of a byte address (R603, R607). -/
def partitionOf (addr : Nat) : Nat := addr / 0x2000000 % 2

/-- The final status of a command goes to its command block and to FLS_STAT (R607, R627). -/
def flsStatus (block : Option (Nat × Nat)) (status : Nat) (s : State) : State :=
  let s1 := modFlash (fun x => { x with lastStatus := BitVec.ofNat 8 status }) s
  match block with
  | some (n, a) => memWrite n (a + 1) (leBytes 1 status) s1
  | none => s1

/-- An accepted command that is not yet complete (R607). -/
def flsAccept (block : Option (Nat × Nat)) (s : State) : State :=
  match block with
  | some (n, a) => memWrite n (a + 1) (leBytes 1 0xFF) s
  | none => s

/-- The sector of a partition's erase, running or suspended. -/
def eraseSector (s : State) (addr : Nat) : Option Nat := (partAt s (partitionOf addr)).sector

/-- READ (R23, R24, R26, R605 to R607): a corrected row is counted and not rewritten. -/
def flsRead (block : Option (Nat × Nat)) (addr : Nat) (corrected : Bool) (s : State) : Nat × State :=
  let sec := addr / 0x10000
  let deliver := fun (status : Nat) (data : Bytes) (t : State) =>
    let t1 := match block with | some (n, a) => memWrite n (a + 32) (fit 32 data) t | none => t
    (0, flsStatus block status t1)
  if addr % 32 ≠ 0 ∨ 0x4000000 ≤ addr then (0x08, s)
  else if eraseSector s addr = some (servedBy s sec) then (0x02, s)
  else if (sectorAt s sec).failed then (0x06, s)
  else if (sectorAt s sec).interrupted then let r := drawBytes 32 s; deliver 0x04 r.1 r.2
  else match wordAt s (wordIndex s addr) with
    | none => deliver 0x0B (List.replicate 32 0xFF) s
    | some none => (0, flsStatus block 0x0C s)
    | some (some w) =>
      let seen := flashRead s (wordIndex s addr) w
      if seen.delivers.isNone then (0, flsStatus block 0x0C s)
      else deliver 0 (seen.delivers.getD w) (if corrected || seen.mended then noteCorrected addr w s else s)

/-- PROGRAM (R605, R607, R608, R611, R622); module firmware reaches the inactive slots alone. -/
def flsProgram (block : Option (Nat × Nat)) (addr : Nat) (word : Bytes) (s : State) : Nat × State :=
  let sec := addr / 0x10000
  let p := partitionOf addr
  let x := partAt s p
  if addr % 32 ≠ 0 ∨ 0x4000000 ≤ addr then (0x08, s)
  else if block.isSome ∧ (inactiveTarget s sec).isNone then (0x07, s)
  else if ¬ (x.state = .idle ∨ x.state = .suspended) ∨ (x.state = .suspended ∧ x.sector = some (servedBy s sec)) then (0x02, s)
  else if (sectorAt s sec).failed then (0x06, s)
  else if (sectorAt s sec).interrupted then (0x04, s)
  else if (sec = 130 ∨ sec = 131) ∧ ¬ countersOk s (fit 32 word) then (0x03, s)
  else if (wordAt s (wordIndex s addr)).isSome then (0, flsStatus block 0x01 s)
  else
    let s1 := modPart p (fun y => { y with state := if x.state = .idle then .program else .suspendedProgram, program := some (wordIndex s addr, fit 32 word), programBlock := block }) s
    let s2 := match inactiveTarget s sec with
      | some t => modFlash (fun f => { f with verified := f.verified &&& ~~~ BitVec.ofNat 3 (2 ^ t) }) s1
      | none => s1
    (0, flsAccept block s2)

/-- ERASE (R607, R611, R621): the ledger's started word first. -/
def flsErase (block : Option (Nat × Nat)) (addr : Nat) (s : State) : Nat × State :=
  let sec := addr / 0x10000
  let p := partitionOf addr
  let x := partAt s p
  if s.power.failSeq then (0x0A, s)
  else if addr % 0x10000 ≠ 0 ∨ 0x4000000 ≤ addr then (0x08, s)
  else if block.isSome ∧ (inactiveTarget s sec).isNone then (0x07, s)
  else if x.state = .suspended then (0x03, s)
  else if x.state ≠ .idle then (0x02, s)
  else if (sectorAt s sec).failed then (0x06, s)
  else
    let e := sectorAt s sec
    let s1 := appendLedger (ledgerBody 1 0 sec (e.erases + 1) e.pulses 0 0 s.sched.epoch.toNat) sec s
    let s2 := modPart p (fun y => { y with state := .erase, sector := some (servedBy s sec), eraseBlock := block }) s1
    let s3 := match inactiveTarget s sec with
      | some t => modFlash (fun f => { f with verified := f.verified &&& ~~~ BitVec.ofNat 3 (2 ^ t) }) s2
      | none => s2
    (0, flsAccept block s3)

/-- SUSPEND (R611, R612). -/
def flsSuspend (block : Option (Nat × Nat)) (addr : Nat) (s : State) : Nat × State :=
  let p := partitionOf addr
  match (partAt s p).state with
  | .erase => (0, flsAccept block (modPart p (fun y => { y with state := .suspending, suspendBlock := block }) s))
  | .suspended | .suspendedProgram => (0, flsStatus block 0 s)
  | _ => (0x03, s)

/-- RESUME (R611); an erase that the power-fail sequence suspended is never resumed. -/
def flsResume (block : Option (Nat × Nat)) (addr : Nat) (s : State) : Nat × State :=
  let p := partitionOf addr
  match (partAt s p).state with
  | .suspended => if s.power.failSeq then (0x0A, s) else (0, flsStatus block 0 (modPart p (fun y => { y with state := .erase, resumed := some (now s) }) s))
  | .suspending | .suspendedProgram => (0x02, s)
  | _ => (0x03, s)

/-- A command by its number, any other number being illegal (R607). -/
def flsCommand (cmd : Nat) (block : Option (Nat × Nat)) (addr : Nat) (word : Bytes) (corrected : Bool) (s : State) : Nat × State :=
  match cmd with
  | 1 => flsRead block addr corrected s
  | 2 => flsProgram block addr word s
  | 3 => flsErase block addr s
  | 4 => flsSuspend block addr s
  | 5 => flsResume block addr s
  | _ => (0x09, s)

/-- A READ of the word being programmed waits for the program to end (R605). -/
def flsWaits (s : State) (cmd addr : Nat) : Bool :=
  decide (cmd = 1) && (match (partAt s (partitionOf addr)).program with | some (i, _) => decide (i = wordIndex s addr) | none => false)

/-- A command from its source (R557, R607): of a core, by the command byte of its block; of a unit, by the row's own number. -/
def flsFrom (cmd : Nat) (src : FlsSource) (corrected : Bool) (s : State) : Res :=
  match src with
  | .unit addr word => .next (if flsWaits s cmd addr then s else (flsCommand cmd none addr word corrected s).2)
  | .sys x cap rs =>
    if ¬ flsSpelled x cap rs s then .next s else
    sysCall x 6 cap rs (fun a s => let b := sysBlock s x.core a; flsWaits s (byteAt 0 b) (leAt 4 4 b))
      (fun a s =>
        let b := sysBlock s x.core a
        flsCommand (byteAt 0 b) (some (x.core, a)) (leAt 4 4 b) (slice 32 32 b) corrected s) s

/-- FLS_READ (R605 to R607). -/
def execFlsRead (src : FlsSource) (corrected : Bool) (s : State) : Res := flsFrom 1 src corrected s
/-- FLS_PROGRAM (R607, R608, R611). -/
def execFlsProgram (src : FlsSource) (s : State) : Res := flsFrom 2 src false s
/-- FLS_ERASE (R607, R611, R621). -/
def execFlsErase (src : FlsSource) (s : State) : Res := flsFrom 3 src false s
/-- FLS_SUSPEND (R607, R611, R612). -/
def execFlsSuspend (src : FlsSource) (s : State) : Res := flsFrom 4 src false s
/-- FLS_RESUME (R607, R611). -/
def execFlsResume (src : FlsSource) (s : State) : Res := flsFrom 5 src false s

/-- FLS_PROGRAM_END (R609, R611): the word is programmed. -/
def execFlsProgramEnd (partition : Nat) (s : State) : Res :=
  .next <|
    let x := partAt s partition
    match x.program with
    | none => s
    | some (i, w) =>
      let s1 := modPart partition (fun y => { y with state := if y.state = .program then .idle else .suspended, program := none, programBlock := none }) s
      flsStatus x.programBlock 0 (putWord i (some w) s1)

/-- A sector whose erase failed is replaced by the lowest free spare; the answer is the command's status (R611, R622). -/
def remap (sec : Nat) (s : State) : Nat × State :=
  match freeSpares s with
  | k :: _ => (0x05, modSector sec (fun e => { e with spare := some k, interrupted := false }) (appendLedger (ledgerBody 4 0 sec 0 0 0 k s.sched.epoch.toNat) sec s))
  | [] => (0x06, modSector sec (fun e => { e with failed := true }) s)

/-- The end of an erase (R611, R621 to R623, R629): the done word, the counts, the words erased or the sector remapped. `sec` is the sector named. -/
def finishErase (sec served pulses : Nat) (passed : Bool) (s : State) : Nat × State :=
  let epoch := s.sched.epoch.toNat
  let e := sectorAt s sec
  let s1 := appendLedger (ledgerBody 2 (b2n (!passed)) sec 0 0 pulses 0 epoch) sec s
  let s2 := modFlash (fun f => { f with pulseSector := BitVec.ofNat 10 sec, pulseCount := BitVec.ofNat 7 pulses })
    (modSector sec (fun e => { e with erases := e.erases + 1, pulses := e.pulses + pulses }) s1)
  let s3 := if 40 < pulses then raise flashPage 0x0512 sec s2 else s2
  let s4 := if e.erases + 1 = 100000 then raise flashPage 0x0513 sec s3 else s3
  if passed then (0, modSector sec (fun e => { e with interrupted := false }) (clearSector served s4))
  else remap sec (raise flashPage 0x0514 sec s4)

/-- FLS_ERASE_END (R611): an erase verifies, or fails at its 80th pulse. -/
def execFlsEraseEnd (partition pulses : Nat) (passed : Bool) (s : State) : Res :=
  .next <|
    let x := partAt s partition
    match x.state, x.sector with
    | .erase, some k =>
      let sec := namedSector s k
      let s1 := modPart partition (fun y => { y with state := .idle, sector := none, eraseBlock := none, resumed := none }) s
      let r := finishErase sec k (if passed then pulses else 80) passed s1
      flsStatus x.eraseBlock r.1 r.2
    | _, _ => s

/-- After a RESUME the erase has run for the 0.5 ms, 25 swaths, that it runs at least (R612). -/
def pulseRan (s : State) (x : FlsPart) : Bool := match x.resumed with | some r => decide (r + 25 ≤ now s) | none => true

/-- FLS_SUSPEND_DONE (R611, R612): the pulse has stopped. -/
def execFlsSuspendDone (partition : Nat) (s : State) : Res :=
  .next <|
    let x := partAt s partition
    if x.state = .suspending ∧ pulseRan s x then flsStatus x.suspendBlock 0 (modPart partition (fun y => { y with state := .suspended, suspendBlock := none }) s) else s

/-- The power-fail sequence stops every erase (R611, R747). -/
def flsPowerFail (s : State) : State := modFlash (fun x => { x with parts := mapTotal {} (fun _ y => if y.state = .erase then { y with state := .suspending } else y) x.parts }) s

/-- What a loss of power leaves, and what the tile finds at start-up (R606, R613, R622): a program cut short is uncorrectable, a sector with a started erase is interrupted, with its event and
count. -/
def flsPowerUp (s : State) : State :=
  let parts := s.flash.parts.map Prod.snd
  let torn := parts.filterMap (fun y => y.program.map Prod.fst)
  let open_ := parts.filterMap (fun y => y.sector)
  let s1 := forAll torn (fun i t => putWord i none t) s
  let s2 := forAll open_ (fun k t =>
    let sec := namedSector t k
    raise flashPage 0x0515 sec (modSector sec (fun e => { e with interrupted := true }) t)) s1
  let s3 := modFlash (fun x => { x with
    parts := []
    verified := 0
    interrupted := BitVec.ofNat 16 (x.sectors.filter (fun e => e.2.interrupted)).length
    sectors := mapTotal {} (fun _ e => { e with corrected := 0 }) x.sectors }) s2
  scanRecords (readAreas (noteArea 128 4 s3))

/-! ### Staging -/

/-- A sector of a target slot is still to be erased by code flash staging (R624). -/
def stagingLeft (s : State) : Bool :=
  (List.range 1024).any (fun n => match inactiveTarget s n with | some t => s.flash.staging.getLsbD t && !sectorErased s n && !(sectorAt s n).failed | none => false)

/-- Code flash staging at a safe point: it goes on while a sector is left (R83, R624). -/
def stagingPoint (s : State) : State := if stagingLeft s ∨ s.sched.stopPending.getLsbD 8 then safePoint 8 s else endActivity 8 s

/-- CODE_FLASH_STAGING_SECTOR (R83, R624): one sector of an inactive slot among the targets, with its ledger words; with no sector left the activity has ended. -/
def execCodeFlashStagingSector (sector pulses : Nat) (passed : Bool) (s : State) : Res :=
  .next <| maintStep 8 s fun s =>
    match inactiveTarget s sector with
    | none => stagingPoint s
    | some t =>
      let p := sector / 512
      if ¬ s.flash.staging.getLsbD t ∨ sectorErased s sector ∨ (sectorAt s sector).failed ∨ (partAt s p).state ≠ .idle ∨ s.power.failSeq then stagingPoint s
      else
        let e := sectorAt s sector
        let s1 := appendLedger (ledgerBody 1 0 sector (e.erases + 1) e.pulses 0 0 s.sched.epoch.toNat) sector
          (modFlash (fun f => { f with verified := f.verified &&& ~~~ BitVec.ofNat 3 (2 ^ t) }) s)
        stagingPoint (finishErase sector (servedBy s sector) (if passed then pulses else 80) passed s1).2

/-- Program one word of a slot for a staging job; none where R625 refuses it. -/
def stageWord (addr : Nat) (word : Bytes) (s : State) : Option State :=
  let sec := addr / 0x10000
  if (wordAt s (wordIndex s addr)).isSome ∨ (sectorAt s sec).interrupted ∨ (sectorAt s sec).failed ∨ eraseSector s addr = some (servedBy s sec) then none
  else some (putWord (wordIndex s addr) (some word) s)

/-- Program words in order; the words before a refusal stay programmed. DEDUCED: log entry 66. -/
def stageWords : Nat → Bytes → Nat → State → Bool × State
  | _, _, 0, s => (true, s)
  | addr, data, n + 1, s =>
    match stageWord addr (data.take 32) s with
    | some t => stageWords (addr + 32) (data.drop 32) n t
    | none => (false, s)

/-- OP_FLS_STAGE_WRITE (R609, R625, R626). -/
def execOpFlsStageWrite (slot i : Nat) (s : State) : Res :=
  .next (runStep 0x0F10 slot i (fun c t =>
    let n := c.src.length - 8
    let target := byteAt 0 c.src
    let off := leAt 4 4 c.src
    if c.src.length < 40 ∨ 4096 < n ∨ n % 32 ≠ 0 then (bad 0x0401, t)
    else if 2 < target ∨ ¬ allZero (slice 1 3 c.src) ∨ off % 32 ≠ 0 ∨ slotSize target < off + n then (bad 0x0403, t)
    else
      let t1 := modFlash (fun f => { f with verified := f.verified &&& ~~~ BitVec.ofNat 3 (2 ^ target) }) t
      let r := stageWords (inactiveBase t target + off) (c.src.drop 8) (n / 32) t1
      (if r.1 then ok [] else bad 0x0403, r.2)) s)

/-- OP_FLS_STAGE_READ (R625). -/
def execOpFlsStageRead (slot i : Nat) (s : State) : Res :=
  .next (runStep 0x0F11 slot i (fun c s =>
    let target := byteAt 0 c.src
    let off := leAt 4 4 c.src
    let n := leAt 8 4 c.src
    if c.src.length ≠ 12 then (bad 0x0401, s)
    else if 2 < target ∨ ¬ allZero (slice 1 3 c.src) ∨ n < 32 ∨ 4096 < n ∨ slotSize target < off + n then (bad 0x0403, s)
    else
      let base := inactiveBase s target + off / 32 * 32
      if (List.range (off % 32 + n)).any (fun k => decide (eraseSector s (base + k) = some (servedBy s ((base + k) / 0x10000)))) then (bad 0x0403, s)
      else
        let m := ceilDiv (off % 32 + n) 32
        match readWords s base m with
        | some b => (ok ((b.drop (off % 32)).take n), noteRead base m s)
        | none => (bad 0x0503, s)) s)

/-- OP_FLS_STAGE_VERIFY (R334, R625, R626). -/
def execOpFlsStageVerify (slot i : Nat) (s : State) : Res :=
  .next (runStep 0x0F12 slot i (fun c t =>
    let target := byteAt 0 c.src
    if c.src.length ≠ 4 ∨ 2 < target ∨ ¬ allZero (slice 1 3 c.src) then (bad 0x0404, t)
    else match acceptedImage t target (inactiveBase t target), imageIn t target (inactiveBase t target) with
      | some x, some y => (ok (x.take 64 ++ sha384 (y.1 ++ y.2)), modFlash (fun f => { f with verified := f.verified ||| BitVec.ofNat 3 (2 ^ target) }) t)
      | _, _ => (bad 0x0405, t)) s)

/-- OP_FLS_ACTIVATE (R625, R626): one selector word that names the inactive slot for each bit set. -/
def execOpFlsActivate (slot i : Nat) (s : State) : Res :=
  .next (runStep 0x0F13 slot i (fun c t =>
    let mask := byteAt 0 c.src
    let good := fun k => !bit k mask || (t.flash.verified.getLsbD k && (match readSlot t (inactiveBase t k) 32 with | some h => decide (floorOf t k ≤ byteAt 8 h) | none => false))
    if c.src.length ≠ 1 ∨ 8 ≤ mask then (bad 0x0404, t)
    else if ¬ [0, 1, 2].all good then (bad 0x0405, t)
    else
      let u := t.flash.inUse
      let seq := (match t.flash.selectors.head? with | some x => x.seq | none => u.seq) + 1
      let x : Selector := { seq := seq, boot := u.boot != bit 0 mask, firmware := u.firmware != bit 1 mask, microcode := u.microcode != bit 2 mask, epoch := t.sched.epoch.toNat }
      (ok [], raise flashPage 0x0516 mask (appendSelector x t))) s)

/-- R620: the first ready with an image above its floor raises the floor in a counters word. -/
def raiseFloors (s : State) : State :=
  let f := s.flash
  let b := max f.floorBoot.toNat f.bootVersion.toNat
  let w := max f.floorFirmware.toNat f.firmwareVersion.toNat
  let m := if s.sig.verified then max f.floorMicrocode.toNat s.sig.securityVersion.toNat else f.floorMicrocode.toNat
  if b = f.floorBoot.toNat ∧ w = f.floorFirmware.toNat ∧ m = f.floorMicrocode.toNat then s
  else appendCounters (modFlash (fun f => { f with floorBoot := BitVec.ofNat 8 b, floorFirmware := BitVec.ofNat 8 w, floorMicrocode := BitVec.ofNat 8 m }) s)

/-! ### Registers -/

/-- FLS_STAT's state fields (R627). -/
def flsStateCode : FlsState → Nat
  | .idle => 0 | .program => 1 | .erase => 2 | .suspending => 3 | .suspended => 4 | .suspendedProgram => 5

/-- The 32-bit word at an offset of the code flash tile page (R627 to R631). -/
def flsWord (s : State) (off : Nat) : Nat :=
  let f := s.flash
  match off with
  | 0x100 => flsStateCode (partAt s 0).state + 16 * flsStateCode (partAt s 1).state + 256 * f.lastStatus.toNat
  | 0x104 => b2n f.inUse.boot + 2 * b2n f.inUse.firmware + 4 * b2n f.inUse.microcode + 256 * (f.inUse.seq % 2 ^ 24)
  | 0x108 => f.floorMicrocode.toNat + 256 * f.floorBoot.toNat + 65536 * f.floorFirmware.toNat
  | 0x10C => f.pulseCount.toNat + 65536 * f.pulseSector.toNat
  | 0x110 => f.sel.toNat
  | 0x114 =>
    let e := sectorAt s f.sel.toNat
    min e.erases 262143 + 2 ^ 20 * e.corrected.toNat + 2 ^ 29 * (if e.spare.isSome ∨ e.failed then 3 else if e.interrupted then 1 else if 100000 ≤ e.erases then 2 else 0)
  | 0x118 => f.corrected.toNat
  | 0x11C => f.targets.toNat + 16 * f.verified.toNat
  | 0x120 => (freeSpares s).length + 65536 * f.interrupted.toNat
  | _ => 0

/-- The effect of a 32-bit write in the code flash tile page (R630, R631). -/
def flsWriteWord (off v : Nat) (s : State) : State :=
  match off with
  | 0x110 => modFlash (fun f => { f with sel := BitVec.ofNat 10 v }) s
  | 0x11C => modFlash (fun f => { f with targets := BitVec.ofNat 3 v }) s
  | _ => s

/-- FLS_STAGE_CTL has the one audited field. -/
def flsAudited (off : Nat) : Bool := decide (off = 0x11C)

/-- What reading a word of the code flash tile page clears (R631). -/
def flsReadEffect (off : Nat) (s : State) : State := if off = 0x118 then modFlash (fun f => { f with corrected := 0 }) s else s

end Sys2Proof.Machine
end

