-- ==== Sys2Proof/Machine/Restore.lean ====
section
/-!
DEFINITION. Sys2Proof/Machine/Restore.lean: key blocks, domain entries and vault records that come from another module or a backup set (R237, R437, R683,
R700, R702).
-/
namespace Sys2Proof.Machine
open Sys2Proof

/-- Write a key block at its own block number, sealed under this module's storage key (R237, R683, R702). -/
def receiveKey (k : KeyBlock) (s : State) : State :=
  let b := handleBlock k.handle
  let s1 := storeKey b k (dropFromBays b s)
  { s1 with keys := { s1.keys with gens := mset 0 s1.keys.gens b (handleGen k.handle) } }

/-- Append a record resealed under this module's record key: over the record of the same token where there is one, else in a new place; the latest
version wins (R414, R437, R683). -/
def receiveRecord (x : VaultRec) (s : State) : State :=
  let r := { x with panCheck := panCheckOf s x.domain x.pan }
  match findToken s r.domain r.token with
  | some k => writeVersion k r s
  | none =>
    match placeFor s (panCheckOf s r.domain r.pan) with
    | some k => (storeRecord k r s).getD s
    | none => s

/-- A record from its head (R413: bytes 0 to 20), its PAN check, its flags and its PAN account field. -/
def recordFrom (head : Bytes) (check flags : Nat) (pan : Bytes) : VaultRec :=
  { token := slice 0 10 head, domain := leAt 10 2 head % 4096, status := leAt 10 2 head / 4096, expiry := beNat (slice 12 2 head), usage := leAt 14 2 head,
    created := leAt 16 4 head, keyGen := byteAt 20 head, panCheck := check, unmirrored := bit 0 flags, pan := pan }

end Sys2Proof.Machine
end

