-- ==== Sys2Proof/Machine/Measure.lean ====
section
/-!
DEFINITION. Sys2Proof/Machine/Measure.lean: the measurements of R123, and signatures by the key that names the module (R255, R256).
-/
namespace Sys2Proof.Machine
open Sys2Proof

/-- Header and body of the image in use of a target; empty where none can be read. -/
def imageInUse (s : State) (target : Nat) : Bytes :=
  match imageIn s target (slotBase target (slotInUse s target)) with
  | some x => x.1
  | none => []

/-- The enrolled tenant signers' public keys, in enrolment order (R123, R276). -/
def signerKeys (s : State) : Bytes := s.keys.signers.flatMap (fun b => match keyAt s b with | some k => k.material | none => [])

/-- Measurement block `n` of R123: digests of the mask ROM, the boot bank, the firmware and the microcode image in use, the life-cycle state, and the digest
of the enrolled signers' keys. -/
def measurement (s : State) (n : Nat) : Bytes :=
  match n with
  | 1 => std "mask ROM digest" 48 []
  | 2 => sha384 (imageInUse s 0)
  | 3 => sha384 (imageInUse s 1)
  | 4 => sha384 (imageInUse s 2)
  | 5 => leBytes 1 (lifeCode s.keeper.record.state)
  | 6 => sha384 (signerKeys s)
  | _ => []

/-- An ECDSA P-384 signature with SHA-384 by the identity key, or by the device key in states without one (R255, R256, R663). -/
def nameSign (body : Bytes) (s : State) : Bytes × State :=
  let r := drawBytes 32 s
  (std "ECDSA signature" 96 [leBytes 2 0x0102, nameScalar s, r.1, sha384 body], r.2)

end Sys2Proof.Machine
end

