-- ==== Sys2Proof/Machine/Stile.lean ====
section
/-!
DEFINITION. Sys2Proof/Machine/Stile.lean: the Stile tag: its memory (R659, R667), states and frames (R660, R661), commands (R662, R665), statement
(R663, R664), key (R666), tap log (R669, R670) and the STL_ registers (R684).
-/
namespace Sys2Proof.Machine
open Sys2Proof

def modStile (f : Stile → Stile) (s : State) : State := { s with stile := f s.stile }

/-! ### The ferroelectric memory -/

/-- Bytes of the Stile region; an unlisted byte is 0 (R659). -/
def tagRead (s : State) (addr n : Nat) : Bytes := (List.range n).map (fun i => mget 0 s.stile.mem (addr + i))

/-- Write bytes of the Stile region; bytes outside 0x0800 to 0x1C1F are the keeper's own, reserved or absent and keep their value (R659). -/
def tagWrite (addr : Nat) (bs : Bytes) (s : State) : State :=
  modStile (fun t => { t with mem := (bs.zipIdx).foldl (fun m e => if 0x800 ≤ addr + e.2 ∧ addr + e.2 < 0x1C20 then mset 0 m (addr + e.2) e.1 else m) t.mem }) s

/-- Address of tap log slot `q` mod 257 and of header `q` mod 2 (R659, R669). -/
def slotAddr (q : Nat) : Nat := 0x0C10 + 16 * (q % 257)
def headerAddr (q : Nat) : Nat := 0x0C00 + 8 * (q % 2)

/-- Header `h` names an entry: its mark and CRC_A are good and the slot of its seq passes its record check; the seq, else 0 (R670). -/
def headerSeq (s : State) (h : Nat) : Nat :=
  let b := tagRead s (headerAddr h) 8
  let q := leAt 0 4 b
  let slot := tagRead s (slotAddr q) 16
  if byteAt 7 b = 0xB4 ∧ crcA (b.take 4) = slice 4 2 b ∧ crc32 (leBytes 2 (q % 257) ++ slot.take 12) = slot.drop 12 then q else 0

/-- The latest log seq found in memory (R670). -/
def latestSeq (s : State) : Nat := max (headerSeq s 0) (headerSeq s 1)

/-- Append the session's tap-log entry, as far as the field lasts: 1 the body, 2 its check, 3 the header without its mark, 4 the mark (R669). -/
def tapEntry (written : Nat) (s : State) : State :=
  let q := s.stile.seq + 1
  let body := leBytes 4 q ++ leBytes 4 s.keeper.seconds.toNat ++ slice 1 3 s.stile.uid ++ leBytes 1 (b2n s.power.good + 2 * b2n (decide (s.stile.lock = 1)))
  let s1 := if 1 ≤ written then tagWrite (slotAddr q) body s else s
  let s2 := if 2 ≤ written then tagWrite (slotAddr q + 12) (crc32 (leBytes 2 (q % 257) ++ body)) s1 else s1
  let s3 := if 3 ≤ written then tagWrite (headerAddr q) (leBytes 4 q ++ crcA (leBytes 4 q) ++ [0]) s2 else s2
  if 4 ≤ written then
    modStile (fun t => { t with seq := q, logged := true, sessions := satInc t.sessions }) (tagWrite (headerAddr q + 7) [0xB4] s3)
  else s3

/-! ### States of the tag -/

/-- The tag sends a frame. -/
def tagSend (bs : Bytes) (s : State) : State := emit (.stile bs) s

/-- A frame not listed for the tag's state, or with an error (R661). -/
def otherFrame (s : State) : State :=
  match s.stile.tag with
  | .ready => modStile (fun t => { t with tag := .idle }) s
  | .active => if s.stile.rats then s else modStile (fun t => { t with tag := .idle }) s
  | _ => s

/-- Field loss: the session ends and no state is kept (R661). -/
def fieldGone (s : State) : State :=
  modStile (fun t => { seq := t.seq, mem := t.mem, handle := t.handle, key := t.key, material := t.material, wtx := t.wtx, sessions := t.sessions, lock := t.lock }) s

/-- STILE_FIELD_ENTRY (R660, R661, R670). -/
def execStileFieldEntry (s : State) : Res :=
  .next <|
    if s.stile.field then s
    else
      let r := drawBytes 3 (fieldGone s)
      modStile (fun t => { t with field := true, uid := 0x08 :: r.1, seq := latestSeq s }) r.2

/-- STILE_FIELD_LOSS (R661). -/
def execStileFieldLoss (s : State) : Res := .next (fieldGone s)

/-- The answer to a request of ISO/IEC 14443-3. -/
def tagWake (s : State) : State := tagSend [0x04, 0x00] (modStile (fun t => { t with tag := .ready, rats := false, selected := false }) s)

/-- STILE_REQA (R660, R661). -/
def execStileReqa (s : State) : Res :=
  .next (if ¬ s.stile.field then s else if s.stile.tag = .idle then tagWake s else otherFrame s)

/-- STILE_WUPA (R660, R661). -/
def execStileWupa (s : State) : Res :=
  .next (if ¬ s.stile.field then s else if s.stile.tag = .idle ∨ s.stile.tag = .halt then tagWake s else otherFrame s)

/-- Bits of a byte string, least significant bit of each byte first, as they go over the air. -/
def airBits (bs : Bytes) : List Bool := bs.flatMap (fun b => (List.range 8).map (fun i => b.getLsbD i))

/-- The exclusive or of the UID bytes: BCC. -/
def bccOf (uid : Bytes) : Byte := uid.foldl (fun a b => a ^^^ b) 0

/-- STILE_ANTICOLLISION (R661): the remaining UID bits and the BCC, one bit to an output byte. -/
def execStileAnticollision (known : List Bool) (s : State) : Res :=
  .next <|
    let all := airBits s.stile.uid
    if s.stile.field ∧ s.stile.tag = .ready ∧ known.length ≤ all.length ∧ all.take known.length = known then
      tagSend (((all ++ airBits [bccOf s.stile.uid]).drop known.length).map (fun b => if b then 1 else 0)) s
    else if s.stile.field then otherFrame s else s

/-- STILE_SELECT_FRAME (R660, R661). -/
def execStileSelectFrame (uid : Bytes) (bcc : BitVec 8) (s : State) : Res :=
  .next <|
    if s.stile.field ∧ s.stile.tag = .ready ∧ uid = s.stile.uid ∧ bcc = bccOf s.stile.uid then
      tagSend [0x20] (modStile (fun t => { t with tag := .active, rats := false }) s)
    else if s.stile.field then otherFrame s else s

/-- STILE_RATS (R660, R661). -/
def execStileRats (s : State) : Res :=
  .next <|
    if s.stile.field ∧ s.stile.tag = .active ∧ ¬ s.stile.rats then
      tagSend [0x05, 0x75, 0x00, 0x10, 0x00] (modStile (fun t => { t with rats := true, blockNo := true, lastBlock := [] }) s)
    else if s.stile.field then otherFrame s else s

/-- STILE_HLTA (R661). -/
def execStileHlta (s : State) : Res :=
  .next <|
    if s.stile.field ∧ s.stile.tag = .active ∧ ¬ s.stile.rats then modStile (fun t => { t with tag := .halt }) s
    else if s.stile.field then otherFrame s else s

/-- After RATS, blocks of ISO/IEC 14443-4 are served (R661). -/
def tagServes (s : State) : Bool := s.stile.field && decide (s.stile.tag = .active) && s.stile.rats

/-- STILE_R_BLOCK (R661): a repeat of the last block where the number is the tag's own, an R(ACK) where an R(NAK) is not (ISO/IEC 14443-4). PRESUMED: log entry 67. -/
def execStileRBlock (ack number : Bool) (s : State) : Res :=
  .next <|
    if ¬ tagServes s then (if s.stile.field then otherFrame s else s)
    else if number = s.stile.blockNo then (if s.stile.lastBlock = [] then s else tagSend s.stile.lastBlock s)
    else if ack then s
    else tagSend [0xA2 + (if s.stile.blockNo then 1 else 0)] s

/-- STILE_WTX_RESPONSE (R661, R668): the reader grants the extension and the tag goes on with its response. -/
def execStileWtxResponse (s : State) : Res := .next (if tagServes s then s else if s.stile.field then otherFrame s else s)

/-- STILE_DESELECT (R661). -/
def execStileDeselect (s : State) : Res :=
  .next <|
    if tagServes s then tagSend [0xC2] (modStile (fun t => { t with tag := .halt, rats := false, selected := false }) s)
    else if s.stile.field then otherFrame s else s

/-! ### Commands -/

/-- An I-block is served: the block number toggles and the response goes in an I-block that an R-block can ask for again (ISO/IEC 14443-4). -/
def tagAnswer (data : Bytes) (sw : Nat) (s : State) : State :=
  let n := !s.stile.blockNo
  let b : Bytes := (if n then 0x03 else 0x02) :: data ++ beBytes 2 sw
  tagSend b (modStile (fun t => { t with blockNo := n, lastBlock := b, lock := 0 }) s)

/-- An APDU at the tag: `f` answers data and status word; a frame outside the served state is another frame (R661, R662). -/
def tagServe (f : State → Bytes × Nat × State) (s : State) : State :=
  if tagServes s then let r := f s; tagAnswer r.1 r.2.1 r.2.2 else if s.stile.field then otherFrame s else s

/-- A command that needs a successful SELECT in the session (R662). -/
def tagCommand (f : State → Bytes × Nat) (s : State) : State :=
  tagServe (fun t => if t.stile.selected then let r := f t; (r.1, r.2, t) else ([], 0x6985, t)) s

/-- The Stile AID (R662). -/
def stileAid : Bytes := [0xF0, 0x4E, 0x53, 0x54, 0x01]

/-- STILE_APDU_SELECT (R662, R669). `written` counts the writes of R669 that the field lasted for: with fewer than 4 on a first SELECT, the field is lost. -/
def execStileApduSelect (aid : Bytes) (written : Nat) (s : State) : Res :=
  .next <|
    if tagServes s ∧ aid = stileAid ∧ ¬ s.stile.logged ∧ written < 4 then fieldGone (tapEntry written s)
    else tagServe (fun t =>
      if aid ≠ stileAid then ([], 0x6A82, t)
      else
        let t1 := modStile (fun x => { x with selected := true }) (if t.stile.logged then t else tapEntry 4 t)
        (leBytes 2 0x0001 ++ leBytes 4 t1.stile.seq, 0x9000, t1)) s

/-- STILE_READ_STATEMENT (R662). -/
def execStileReadStatement (offset le : Nat) (s : State) : Res :=
  .next (tagCommand (fun t =>
    if le = 0 ∨ 256 < le then ([], 0x6700)
    else if 0x3FF < offset then ([], 0x6B00)
    else (tagRead t (0x800 + offset) (min le (0x400 - offset)), 0x9000)) s)

/-- STILE_GET_STATUS (R662, R665). -/
def execStileGetStatus (challenge : Bytes) (s : State) : Res :=
  .next (tagCommand (fun t =>
    if challenge.length ≠ 16 then ([], 0x6700)
    else
      let st := hedgeStatus t
      let tag := if t.stile.material = [] then zeros 16 else cmac t.stile.material (ascii "NST1" ++ st ++ challenge ++ t.stile.uid)
      (st ++ tag, 0x9000)) s)

/-- STILE_READ_LOG (R662, R670). -/
def execStileReadLog (back le : Nat) (s : State) : Res :=
  .next (tagCommand (fun t =>
    if le = 0 ∨ le % 16 ≠ 0 ∨ 256 < le then ([], 0x6700)
    else
      let q := t.stile.seq
      ((List.range (le / 16)).flatMap (fun k => if back + k < min q 256 then tagRead t (slotAddr (q - back - k)) 16 else zeros 16), 0x9000)) s)

/-- STILE_UNLISTED_FRAME (R661, R662): a frame with an error or not listed for the state, or an APDU outside the command table. Status words for a listed
command's other parameters are free values. -/
def execStileUnlistedFrame (apdu : Option Bytes) (s : State) : Res :=
  .next <|
    match apdu with
    | none => if s.stile.field then otherFrame s else s
    | some a =>
      tagServe (fun t =>
        if byteAt 0 a ≠ 0 ∧ byteAt 0 a ≠ 0x80 then ([], 0x6E00, t)
        else if ¬ (byteAt 1 a ∈ [0xA4, 0xB0, 0xCA, 0xB2]) then ([], 0x6D00, t)
        else if byteAt 1 a ≠ 0xA4 ∧ ¬ t.stile.selected then ([], 0x6985, t)
        else let r := draw t; ([], r.1.toNat % 65536, r.2)) s

/-- STILE_WTX_TIMER (R668): while the wire side holds the lock, a waiting response is extended by S(WTX) with WTXM 1. -/
def execStileWtxTimer (s : State) : Res :=
  .next <|
    if tagServes s ∧ s.stile.lock = 1 then
      tagSend [0xF2, 0x01] (modStile (fun t => { t with wtx := satInc t.wtx, lastBlock := [0xF2, 0x01] }) s)
    else s

/-- STILE_WIRE_WRITE (R667): a whole write through the keeper's port; `held` says that the wire side still holds the lock. -/
def execStileWireWrite (addr : Nat) (data : Bytes) (held : Bool) (s : State) : Res :=
  .next (modStile (fun t => { t with lock := if held then 1 else 0 }) (tagWrite addr data s))

/-! ### The statement and the key -/

/-- Bytes 0 to 231 of the next statement (R663). DEDUCED: log entry 68. -/
def statementBody (s : State) : Bytes :=
  ascii "NSS1" ++ leBytes 2 (leNat (tagRead s 0x804 2) + 1) ++ leBytes 2 328 ++ leBytes 8 (deviceSerial s) ++ leBytes 1 (lifeCode s.keeper.record.state)
    ++ leBytes 1 s.keys.domain ++ zeros 2 ++ leBytes 4 s.sched.epoch.toNat ++ leBytes 8 (now s)
    ++ measurement s 2 ++ measurement s 3 ++ measurement s 4 ++ measurement s 6
    ++ leBytes 1 s.flash.floorMicrocode.toNat ++ leBytes 1 s.flash.floorBoot.toNat ++ leBytes 1 s.flash.floorFirmware.toNat ++ zeros 5

/-- Module firmware signs and writes a new statement through the keeper's port (R663, R664, R667). -/
def refreshStatement (s : State) : State :=
  let body := statementBody s
  let r := nameSign body s
  tagWrite 0x800 (fit 1024 (body ++ r.1)) r.2

/-- STILE_STATEMENT_REFRESH (R664): module firmware runs once its images are verified. -/
def execStileStatementRefresh (s : State) : Res := .next (if s.power.good ∧ s.start.bootOk then refreshStatement s else s)

/-- R666: the key a handle names is accepted as the Stile key. -/
def stileKeyOf (s : State) (h : Nat) : Option Bytes :=
  match findKey s h with
  | .ok k =>
    if k.cls = 0x12 ∧ k.alg = 0x0003 ∧ k.usage.getLsbD 5 ∧ ¬ k.usage.getLsbD 4 ∧ k.status = 0 ∧ ¬ k.sessionBound then some k.material else none
  | .error _ => none

/-- The keeper takes the key that a new handle names, or keeps none (R666). -/
def takeStileKey (h : BitVec 64) (s : State) : State :=
  modStile (fun t =>
    if h = 0 then { t with handle := 0, key := 0, material := [] }
    else match stileKeyOf s h.toNat with
      | some m => { t with handle := h, key := 1, material := m }
      | none => { t with handle := h, key := 2, material := [] }) s

/-- STL_KEY_HANDLE_WRITE (R32, R666, R684). -/
def execStlKeyHandleWrite (m : Master) (handle : BitVec 64) (s : State) : Res :=
  .next (audited (keeperPage * 0x1000 + 0x108) m 8 (fun t => t.stile.handle.toNat) noSets (takeStileKey handle) s)

/-! ### Registers -/

/-- The tag's state as a number (R684). -/
def tagCode (s : State) : Nat :=
  if ¬ s.stile.field then 0 else match s.stile.tag with | .idle => 0 | .ready => 1 | .active => 2 | .halt => 3

/-- The 32-bit word at an offset of the Control cluster 1 page (R684, R733). -/
def keeperWord (s : State) (off : Nat) : Nat :=
  let t := s.stile
  match off with
  | 0x100 => leNat (tagRead s 0x804 2) * 2 ^ 16 + t.lock.toNat * 2 ^ 6 + t.key.toNat * 2 ^ 4 + tagCode s * 2 ^ 2 + 2 * b2n t.field
  | 0x104 => (if t.field then t.seq else latestSeq s) % 2 ^ 32
  | 0x108 => t.handle.toNat % 2 ^ 32
  | 0x10C => t.handle.toNat / 2 ^ 32
  | 0x110 => t.wtx.toNat * 2 ^ 16 + t.sessions.toNat
  | _ => hdgWord s off

/-- STL_KEY_HANDLE is audited, and 64 bits wide (R684). -/
def keeperAudited (off : Nat) : Bool := decide (off = 0x108 ∨ off = 0x10C)

/-- The effect of a 32-bit write of half of STL_KEY_HANDLE: the register's new value names the key (R666, R684). -/
def keeperWriteWord (off v : Nat) (s : State) : State :=
  let h := s.stile.handle.toNat
  match off with
  | 0x108 => takeStileKey (BitVec.ofNat 64 (h / 2 ^ 32 * 2 ^ 32 + v % 2 ^ 32)) s
  | 0x10C => takeStileKey (BitVec.ofNat 64 (v % 2 ^ 32 * 2 ^ 32 + h % 2 ^ 32)) s
  | _ => s

/-- What reading a word of the page clears (R684). -/
def keeperReadEffect (off : Nat) (s : State) : State := if off = 0x110 then modStile (fun t => { t with wtx := 0, sessions := 0 }) s else s

end Sys2Proof.Machine
end

