-- ==== Sys2Proof/Machine/FoldOps.lean ====
section
/-!
DEFINITION. Sys2Proof/Machine/FoldOps.lean: fold links: ports (R685, R696), the handshake (R694, R695), frames and forwarding (R690 to R693), round trips
(R697), mirroring, replication and co-signing (R699 to R703), resync (R704), membership (R687, R688) and the FOLD_ registers (R705).
-/
namespace Sys2Proof.Machine
open Sys2Proof

def modFold (f : Fold → Fold) (s : State) : State := { s with fold := f s.fold }

/-- The fold replication key (R253). -/
def replicationKey (s : State) : Bytes := foldKey s 0x90

/-- The module's own member index as a frame field (R690). -/
def selfByte (s : State) : Nat := (selfIndex s).getD 0xFF

/-! ### Ports -/

/-- Ports may leave DOWN in this life-cycle state (R696). -/
def foldAllowed (s : State) : Bool := decide (s.keeper.record.state ≠ .tampered ∧ s.keeper.record.state ≠ .decommissioned)

/-- A port enters a state of R696 in this swath: its time limit there runs from it. -/
def enterPort (s : State) (st : PortState) (x : FoldPort) : FoldPort := { x with state := st, since := now s }

/-- A valid frame has come in this swath (R696). -/
def hear (p : Nat) (s : State) : State := modPort p (fun x => { x with heard := now s }) s

/-- A DOWN port that is enabled begins to seek block lock (R696). -/
def trainPort (p : Nat) (s : State) : State :=
  if (portAt s p).state = .down ∧ (portAt s p).enable ∧ foldAllowed s then modPort p (enterPort s .training) s else s

/-- A handshake is refused (R696). -/
def refusePeer (p peer : Nat) (s : State) : State :=
  raise (foldPage p) 0x060C peer (modPort p (fun x => { enable := x.enable, state := .refused, since := now s, fec := x.fec, discards := x.discards }) s)

/-- Members reachable through this module besides those of a port, itself included (R691 ROUTE). -/
def routeMask (s : State) (p : Nat) : Nat :=
  let other := portAt s (1 - p)
  let own := match selfIndex s with | some i => 2 ^ i | none => 0
  Nat.lor own (if other.state = .up then Nat.lor other.reach.toNat (if other.peer.toNat < 8 then 2 ^ other.peer.toNat else 0) else 0)

/-- A port's session begins: UP with its ROUTE, event and resync (R696, R704). DESIGN CHOICE: log entry 34. -/
def portUp (p peer : Nat) (s : State) : State :=
  let s1 := modPort p (fun x => { enterPort s .up x with peer := BitVec.ofNat 8 peer, samples := [] }) s
  let s2 := sendFold p 0x18 0xFF (leBytes 1 (routeMask s1 p)) s1
  let s3 := raise (foldPage p) (0x0608 + 2 * p) peer s2
  { s3 with sched := { s3.sched with startPending := s3.sched.startPending ||| 2 } }

/-- FOLD_PORT_CTL's address. -/
def portCtlAddr (p : Nat) : RegAddr := mkPage 5 1 (p + 1) 0 * 0x1000 + 0x100

/-- The effect of a write of FOLD_PORT_CTL.enable (R696): CLOSE is sent where the write takes the port DOWN. -/
def setPort (p : Nat) (on : Bool) (s : State) : State :=
  if on then trainPort p (modPort p (fun x => { x with enable := true }) s)
  else
    let x := portAt s p
    let s1 := modPort p (fun x => { x with enable := false }) s
    if x.state = .down then s1
    else if x.state = .refused then s1
    else portDown p (sendFold p fClose 0xFF [] s1)

/-- FOLD_PORT_ENABLE (R696, R705). -/
def execFoldPortEnable (m : Master) (port : Nat) (s : State) : Res :=
  .next (if 1 < port then s else audited (portCtlAddr port) m 4 (fun t => b2n (portAt t port).enable) noSets (setPort port true) s)

/-- FOLD_PORT_DISABLE (R696, R705). -/
def execFoldPortDisable (m : Master) (port : Nat) (s : State) : Res :=
  .next (if 1 < port then s else audited (portCtlAddr port) m 4 (fun t => b2n (portAt t port).enable) noSets (setPort port false) s)

/-- A port with a session or on the way to one goes DOWN; an enabled port then trains again (R696). -/
def loseLink (p : Nat) (s : State) : State :=
  let st := (portAt s p).state
  if p ≤ 1 ∧ (st = .training ∨ st = .handshake ∨ st = .up) then portDown p s else s

/-- FOLD_BLOCK_LOCK_LOST (R696). -/
def execFoldBlockLockLost (port : Nat) (s : State) : Res := .next (loseLink port s)
/-- FOLD_IDLE_TIMEOUT (R696): 8 swaths with no valid frame since the state began. -/
def execFoldIdleTimeout (port : Nat) (s : State) : Res :=
  .next (if max (portAt s port).since (portAt s port).heard + 8 ≤ now s then loseLink port s else s)
/-- FOLD_CLOSE (R691, R696). -/
def execFoldClose (port : Nat) (s : State) : Res := .next (loseLink port s)

/-- FOLD_HANDSHAKE_TIMEOUT (R696): 100 ms in HANDSHAKE. -/
def execFoldHandshakeTimeout (port : Nat) (s : State) : Res :=
  .next (if port ≤ 1 ∧ (portAt s port).state = .handshake ∧ (portAt s port).since + 5000 ≤ now s then refusePeer port 0xFF s else s)

/-- FOLD_REFUSED_RETRY (R696): 1 s in REFUSED. -/
def execFoldRefusedRetry (port : Nat) (s : State) : Res :=
  .next (if port ≤ 1 ∧ (portAt s port).state = .refused ∧ (portAt s port).since + 50000 ≤ now s then modPort port (enterPort s .training) s else s)

/-! ### The handshake -/

/-- An ephemeral key pair of HELLO: P-384 scalar and ML-KEM-768 seed (R694). -/
def ephemeral (s : State) : Bytes × State :=
  let a := drawScalar s
  let b := drawBytes 64 a.2
  (a.1 ++ b.1, b.2)

/-- The body of a HELLO (R694): `kem` is the encapsulation key or the ciphertext. -/
def helloBody (scalar kem : Bytes) (s : State) : Bytes × State :=
  let n := drawBytes 32 s
  let body := leBytes 8 (deviceSerial s) ++ leBytes 1 s.keys.domain ++ n.1 ++ pointP384 scalar ++ kem ++ tagRead s 0x800 328
  let g := nameSign body n.2
  (body ++ g.1, g.2)

/-- Parts of a HELLO body. -/
def helloSerial (b : Bytes) : Nat := leAt 0 8 b
def helloPoint (b : Bytes) : Bytes := slice 41 97 b
def helloKem (b : Bytes) : Bytes := (b.drop 138).take (b.length - 138 - 424)
def helloStatement (b : Bytes) : Bytes := (b.drop (b.length - 424)).take 328
def isInitiatorHello (b : Bytes) : Bool := decide (b.length = 1746)
def isResponderHello (b : Bytes) : Bool := decide (b.length = 1650)

/-- The member that a HELLO names and whose keys signed it and its statement (R696; DEDUCED, log entry 35). -/
def helloMember (s : State) (b : Bytes) : Option Nat :=
  let st := helloStatement b
  match s.fold.members.find? (fun e => decide (e.2.serial = helloSerial b)) with
  | none => none
  | some (i, e) =>
    let signed := fun (m sig : Bytes) => Config.accepts "ECDSA verification by identity digest" [e.digest, sig, sha384 m]
    if signed (b.take (b.length - 96)) (b.drop (b.length - 96)) && signed (st.take 232) (st.drop 232) && decide (leAt 8 8 st = e.serial)
      && decide (byteAt 17 st = s.keys.domain) && decide (byteAt 16 st = 4 ∨ byteAt 16 st = 5) then some i else none

/-- SAK and finish key of a session (R695): K from Z and the two HELLO bodies. -/
def sessionKeys (s : State) (z first second : Bytes) : Bytes :=
  let t := sha384 (first ++ second)
  sha384 (ascii "FLK1" ++ z ++ cmac (replicationKey s) t ++ t)

/-- The tag of a FINISH (R695). -/
def finishTag (keys : Bytes) (role : Byte) (t : Bytes) : Bytes := cmac (slice 32 16 keys) (role :: t)

/-- Whether this side of a port's handshake is the initiator: its HELLO is the initiator's (R694). -/
def isInitiator (x : FoldPort) : Bool := isInitiatorHello x.hello

/-- The transcript digest T of a port's handshake (R695). -/
def transcript (x : FoldPort) : Bytes := sha384 (if isInitiator x then x.hello ++ x.peerHello else x.peerHello ++ x.hello)

/-- FOLD_BLOCK_LOCK (R694, R696): a module that may be the initiator sends its HELLO. -/
def execFoldBlockLock (port : Nat) (s : State) : Res :=
  .next <|
    if port ≤ 1 ∧ (portAt s port).state = .training then
      let s1 := modPort port (enterPort s .handshake) s
      if s.fold.members.any (fun e => decide (deviceSerial s < e.2.serial)) then
        let k := ephemeral s1
        let h := helloBody (k.1.take 48) (std "ML-KEM encapsulation key" 1184 [leBytes 2 0x0142, k.1.drop 48]) k.2
        sendFold port fHello 0xFF h.1 (modPort port (fun x => { x with keys := k.1, hello := h.1 }) h.2)
      else s1
    else s

/-- Send FINISH for this side (R695). -/
def sendFinish (p : Nat) (s : State) : State :=
  let x := portAt s p
  sendFold p fFinish 0xFF (finishTag x.keys (if isInitiator x then 0x49 else 0x52) (transcript x)) s

/-- FOLD_HELLO (R694 to R696): an initiator's HELLO from a lower serial is answered; the responder's answer is checked. A HELLO that does not fit the roles
of the two serials is ignored. -/
def execFoldHello (port : Nat) (body : Bytes) (s : State) : Res :=
  .next <|
    let x := portAt s port
    if 1 < port ∨ x.state ≠ .handshake ∨ x.peerHello ≠ [] then s
    else if isInitiatorHello body ∧ helloSerial body < deviceSerial s then
      match helloMember s body with
      | none => refusePeer port 0xFF s
      | some _ =>
        let k := ephemeral s
        let r := (k.1.drop 48).take 32
        let ek := [leBytes 2 0x0142, helloKem body, r]
        let z := std "key agreement" 48 [leBytes 2 0x0102, k.1.take 48, helloPoint body] ++ std "ML-KEM shared secret" 32 ek
        let h := helloBody (k.1.take 48) (std "ML-KEM ciphertext" 1088 ek) k.2
        let s1 := modPort port (fun x => { x with hello := h.1, peerHello := body, keys := sessionKeys s z body h.1, heard := now s }) h.2
        sendFinish port (sendFold port fHello 0xFF h.1 s1)
    else if isResponderHello body ∧ deviceSerial s < helloSerial body ∧ isInitiator x then
      match helloMember s body with
      | none => refusePeer port 0xFF s
      | some _ =>
        let z := std "key agreement" 48 [leBytes 2 0x0102, x.keys.take 48, helloPoint body] ++ std "ML-KEM decapsulation" 32 [leBytes 2 0x0142, x.keys.drop 48, helloKem body]
        sendFinish port (modPort port (fun x => { x with peerHello := body, keys := sessionKeys s z x.hello body, heard := now s }) s)
    else s

/-- FOLD_FINISH (R695, R696). -/
def execFoldFinish (port : Nat) (tag : Bytes) (s : State) : Res :=
  .next <|
    let x := portAt s port
    if 1 < port ∨ x.state ≠ .handshake ∨ x.peerHello = [] then s
    else
      match helloMember s x.peerHello with
      | none => refusePeer port 0xFF s
      | some i => if tag = finishTag x.keys (if isInitiator x then 0x52 else 0x49) (transcript x) then portUp port i s else refusePeer port i s

/-! ### Frames -/

/-- A frame is discarded and counted (R686, R691 to R693). -/
def discardFrame (p : Nat) (s : State) : State := modPort p (fun x => { x with discards := satInc x.discards }) s

/-- FOLD_FRAME_DISCARDED (R685, R686, R690, R691, R693): one that fails MACsec raises its event; codewords that RS-FEC could not correct are counted. -/
def execFoldFrameDiscarded (port : Nat) (macsec : Bool) (codewords : Nat) (s : State) : Res :=
  .next <|
    if 1 < port then s
    else
      let s1 := modPort port (fun x => { x with fec := satAdd x.fec codewords }) (discardFrame port s)
      if macsec then raise (foldPage port) 0x060D (portAt s port).peer.toNat s1 else s1

/-- Forward a frame on the other port with one hop less (R692). -/
def forwardFrame (f : FoldFrame) (type : Nat) (s : State) : State :=
  let q := 1 - f.port
  let x := portAt s q
  if x.state = .up ∧ f.dst < 8 ∧ x.reach.getLsbD f.dst ∧ 0 < f.hops then
    emit (.fold q s.fold.etype.toNat (leBytes 1 1 ++ leBytes 1 type ++ leBytes 1 f.src ++ leBytes 1 f.dst ++ leBytes 1 (f.hops - 1) ++ zeros 3 ++ leBytes 8 f.seq ++ f.body)) s
  else discardFrame f.port s

/-- A frame arrives: one with no session is discarded, one for another member is forwarded where its type may be, and one for this module is served
(R692, R693). -/
def receive (f : FoldFrame) (type : Nat) (s : State) (serve : State → State) : State :=
  if 1 < f.port then s
  else if (portAt s f.port).state ≠ .up then discardFrame f.port s
  else if f.dst = 0xFF ∨ some f.dst = selfIndex s then serve (hear f.port s)
  else if type = 0x20 ∨ type = 0x21 then discardFrame f.port (hear f.port s)
  else forwardFrame f type (hear f.port s)

/-- FOLD_ECHO (R697). -/
def execFoldEcho (f : FoldFrame) (s : State) : Res := .next (receive f 0x10 s (sendFold f.port 0x11 0xFF f.body))

/-- FOLD_ECHO_REPLY (R697): a sample in ns; the event when the highest of the last 16 rises above 20,000. -/
def execFoldEchoReply (f : FoldFrame) (ns : Nat) (s : State) : Res :=
  .next (receive f 0x11 s (fun t =>
    let before := rttNs (portAt t f.port)
    let t1 := modPort f.port (fun x => { x with samples := (min ns 0xFFFFF :: x.samples).take 16 }) t
    let after := rttNs (portAt t1 f.port)
    if before ≤ 20000 ∧ 20000 < after then raise (foldPage f.port) 0x060E after t1 else t1))

/-- FOLD_ROUTE (R691, R692). -/
def execFoldRoute (f : FoldFrame) (s : State) : Res :=
  .next (receive f 0x18 s (modPort f.port (fun x => { x with reach := BitVec.ofNat 8 (byteAt 0 f.body) })))

/-! ### Mirroring -/

/-- A record of a MIRROR body with its journal seq (R691), none where the PAN's tag fails. -/
def openMirror (s : State) (b : Bytes) : Option (Nat × VaultRec) :=
  let head := slice 10 25 b
  match gcmD (replicationKey s) (slice 36 12 b) head (slice 48 26 b) with
  | some pan => if b.length = 74 then some (leAt 0 8 b, recordFrom (head.take 21) (leAt 21 4 head) (byteAt 35 b) pan) else none
  | none => none

/-- Put a record in place of the one in slot `k` (R701). -/
def replaceRecord (k : Nat) (r : VaultRec) (s : State) : State :=
  let old := recordAt s k
  let r1 := { r with usage := old.usage, panCheck := panCheckOf s r.domain r.pan, unmirrored := false }
  if old.token = r.token then writeVersion k r1 s else (storeRecord k r1 (unindex k old s)).getD s

/-- The job that waits for the mirror acknowledgement of a journal seq (R434): slot and step. -/
def mirrorJob (s : State) (seq : Nat) : Option (Nat × Nat) :=
  match s.jobs.find? (fun e => match e.2.mirrorWait with | some (q, _) => decide (q = seq) | none => false) with
  | some (slot, j) => (j.steps.zipIdx.find? (fun e => e.1.delivered.isSome && decide (e.1.step.opcode = 0x0401 ∨ e.1.step.opcode = 0x0405))).map (fun e => (slot, e.2))
  | none => none

/-- A waiting job ends with a result (R434, R701). -/
def endMirrorJob (slot i : Nat) (d : Option Delivered) (s : State) : State :=
  let s1 := modVault (fun v => { v with issues := v.issues.filter (fun e => decide (e.1 ≠ slot)) }) (modJob slot (fun j => { j with mirrorWait := none }) s)
  tryEnd slot i (modStep slot i (fun x => match d with | some d => { x with delivered := some d } | none => x) s1)

/-- The job of this module whose issue for a PAN is pending: slot, step and journal seq (R436, R701). -/
def pendingIssue (s : State) (domain : Nat) (pan : Bytes) : Option (Nat × Nat) :=
  match s.vault.issues.find? (fun e => decide (e.2.1 = domain ∧ e.2.2 = fit 10 pan)) with
  | some (slot, _) =>
    match jobAt s slot with
    | some j => (match j.mirrorWait with | some (q, _) => mirrorJob s q | none => none)
    | none => none
  | none => none

/-- A mirrored record that this domain does not hold is appended, unless its token is held for another PAN (R700). -/
def takeNew (r : VaultRec) (s : State) : Nat × Bytes × State :=
  match findToken s r.domain r.token with
  | some _ => (2, zeros 10, s)
  | none => (0, zeros 10, receiveRecord { r with usage := 0, unmirrored := false } s)

/-- What a peer does with a mirrored record (R700, R701): the status, the held token and the state. -/
def takeMirror (src : Nat) (r : VaultRec) (s : State) : Nat × Bytes × State :=
  match findPan s r.domain r.pan with
  | some k =>
    let own := recordAt s k
    if own.status = 1 ∧ own.token ≠ r.token then
      match pendingIssue s r.domain r.pan with
      | some (slot, i) =>
        if src < (selfIndex s).getD 0 then (0, zeros 10, endMirrorJob slot i (some (ok (tokenOut r.token false))) (replaceRecord k r s))
        else (1, own.token, s)
      | none => (1, own.token, s)
    else if own.token = r.token then (0, zeros 10, replaceRecord k r s)
    else takeNew r s
  | none => takeNew r s

/-- FOLD_MIRROR (R692, R700, R701). -/
def execFoldMirror (f : FoldFrame) (s : State) : Res :=
  .next (receive f 0x20 s (fun t =>
    match openMirror t f.body with
    | none => discardFrame f.port t
    | some (seq, r) =>
      if ¬ t.vault.ready then t
      else
        let a := takeMirror f.src r t
        sendFold f.port 0x21 f.src (leBytes 8 seq ++ leBytes 1 a.1 ++ fit 10 a.2.1) a.2.2))

/-- The record a journal seq stands for; resync names a record whose entry is released by 2^56 plus its number (DESIGN CHOICE, log entry 36). -/
def seqRecord (s : State) (seq : Nat) : Option Nat :=
  if 2 ^ 56 ≤ seq then some (seq - 2 ^ 56)
  else (s.vault.journal.find? (fun e => decide (e.seq = seq))).map (fun e => e.target * 64 + e.slot)

/-- The peer holds a record: its flag clears through a kind 2 entry (R434, R704). -/
def markMirrored (k : Nat) (s : State) : State :=
  if (recordAt s k).unmirrored then
    appendJournal 2 (k / 64) (k % 64) none 0 (modVault (fun v => { v with records := mupd {} v.records k (fun r => { r with unmirrored := false }) }) s)
  else s

/-- The issuer discards its record and issues again with the draws left (R420, R701). -/
def reissue (slot i : Nat) (k : Nat) (s : State) : State :=
  let r := recordAt s k
  let s1 := modVault (fun v => { v with records := mset {} v.records k {}, issues := v.issues.filter (fun e => decide (e.1 ≠ slot)) }) (unindex k r s)
  let s2 := appendJournal 1 (k / 64) (k % 64) (some {}) 0 (modJob slot (fun j => { j with mirrorWait := none }) s1)
  match jobAt s2 slot with
  | none => s2
  | some j =>
    let x := stepAt j i
    let o := operandsOf s2 j i
    let c : Call := { slot := slot, i := i, job := j, step := x.step, src := o.1, aux := o.2, keyA := x.keyA, keyB := x.keyB }
    let e := domainAt s2 r.domain
    let digits := accountDigits r.pan
    let a := if domMethod e = 2 then drawIssue c r.domain r.pan r.expiry (digits.drop (digits.length - domKeep e)) j.drawsLeft s2 else (bad 0x0606, s2)
    tryEnd slot i (modStep slot i (fun x => { x with delivered := some a.1 }) a.2)

/-- FOLD_MIRROR_ACK (R434, R701, R704). -/
def execFoldMirrorAck (f : FoldFrame) (s : State) : Res :=
  .next (receive f 0x21 s (fun t =>
    let seq := leAt 0 8 f.body
    let status := byteAt 8 f.body
    let token := slice 9 10 f.body
    let job := mirrorJob t seq
    match seqRecord t seq with
    | none => (match job with | some (slot, i) => if status = 0 then endMirrorJob slot i none t else t | none => t)
    | some k =>
      let t1 := match status with
        | 0 => (match job with | some (slot, i) => endMirrorJob slot i none (markMirrored k t) | none => markMirrored k t)
        | 1 =>
          let u := replaceRecord k { recordAt t k with token := token } t
          (match job with | some (slot, i) => endMirrorJob slot i (some (ok (tokenOut token false))) u | none => u)
        | 2 => (match job with | some (slot, i) => reissue slot i k t | none => t)
        | _ => t
      safePoint 1 t1))

/-! ### Replication -/

/-- The block number holds another key, or the run would cover part of one (R702). -/
def holdsOther (s : State) (k : KeyBlock) : Bool :=
  let b := handleBlock k.handle
  s.keys.keys.any (fun e => if e.1 = b then decide (e.2.handle ≠ k.handle) else decide (e.1 < b + k.blocks ∧ b < e.1 + e.2.blocks))

/-- FOLD_KEY_REPL (R269, R702). -/
def execFoldKeyRepl (f : FoldFrame) (s : State) : Res :=
  .next (receive f 0x30 s (fun t =>
    match openBlock (replicationKey t) (deviceSerial t) f.body with
    | none => discardFrame f.port t
    | some k =>
      let other := holdsOther t k
      sendMember 0x31 f.src (leBytes 8 k.handle ++ leBytes 1 (b2n other)) (if other then t else receiveKey k t)))

/-- FOLD_KEY_ACK (R702). -/
def execFoldKeyAck (f : FoldFrame) (s : State) : Res :=
  .next (receive f 0x31 s (fun t =>
    let h := leAt 0 8 f.body
    let t1 := ackChange f.src (handleBlock h) t
    safePoint 1 (if byteAt 8 f.body = 1 then raise (foldPage f.port) 0x060F h t1 else t1)))

/-- FOLD_DOMAIN_REPL (R418, R702). -/
def execFoldDomainRepl (f : FoldFrame) (s : State) : Res :=
  .next (receive f 0x32 s (fun t =>
    let d := leAt 0 2 f.body
    let e := fit 64 (f.body.drop 2)
    let good := decide (d < 4096) && domainOk e
    sendMember 0x33 f.src (leBytes 2 d ++ leBytes 1 (b2n (!good))) (if good then writeDomain d e t else t)))

/-- FOLD_DOMAIN_ACK (R702). -/
def execFoldDomainAck (f : FoldFrame) (s : State) : Res :=
  .next (receive f 0x33 s (fun t => safePoint 1 (ackChange f.src (2 ^ 24 + leAt 0 2 f.body) t)))

/-! ### Co-signing -/

/-- FOLD_COSIGN_REQ (R703): answered once for each number of a member, in rising order. -/
def execFoldCosignReq (f : FoldFrame) (s : State) : Res :=
  .next (receive f 0x40 s (fun t =>
    let serial := leAt 36 8 f.body
    let number := leAt 8 8 f.body
    match t.fold.members.find? (fun e => decide (e.2.serial = serial)) with
    | none => t
    | some (m, _) =>
      if number ≤ mget 0 t.fold.cosigned m then t
      else
        let g := signBody (fit 128 f.body) (modFold (fun x => { x with cosigned := mset 0 x.cosigned m number }) t)
        sendMember 0x41 f.src (leBytes 8 (deviceSerial t) ++ fit 96 g.1.1 ++ fit 3309 g.1.2) g.2))

/-- FOLD_COSIGN_RESP (R468, R470): the co-signature of the earliest checkpoint that waits for one. DEDUCED: log entry 65. -/
def execFoldCosignResp (f : FoldFrame) (s : State) : Res :=
  .next (receive f 0x41 s (fun t =>
    match t.audit.cosignWait with
    | [] => t
    | (n, until_) :: rest =>
      if f.src ≠ t.audit.peer.toNat ∨ until_ < now t then t
      else
        let put := fun (c : Checkpoint) =>
          { c with cosigned := true, peerSerial := leAt 0 8 f.body, peerEcdsa := slice 8 96 f.body, peerMldsa := slice 104 3309 f.body }
        { t with audit := { t.audit with cosignWait := rest, ckpts := t.audit.ckpts.map (fun e => if e.1 = n then (n, put e.2) else e) } }))

/-! ### Resync -/

/-- FOLD_RESYNC_STATE (R704). -/
def execFoldResyncState (f : FoldFrame) (s : State) : Res :=
  .next (receive f 0x50 s (modFold (fun x => { x with peerCursors := mset 0 x.peerCursors f.src (leAt 0 8 f.body) })))

/-- Members that can be reached over a port that is UP (R692, R704). -/
def upMembers (s : State) : List Nat := (otherMembers s).filter (fun m => (portTo s m).isSome)

/-- The first record marked unmirrored, where the mirror peer can be sent it (R699, R704). -/
def nextUnmirrored (s : State) : Option (Nat × VaultRec) :=
  if (mirrorPort s).isSome then s.vault.records.find? (fun e => e.2.unmirrored) else none

/-- Nothing is left to send to a member (R704). -/
def resyncedTo (s : State) (m : Nat) : Bool :=
  (nextFor s m).isNone && (decide (some m ≠ mirrorPeer s) || (nextUnmirrored s).isNone)

/-- The seq under which a record is mirrored again: that of its latest entry in the journal, else 2^56 plus its number (DESIGN CHOICE, log entry 36). -/
def resyncSeq (s : State) (k : Nat) : Nat :=
  match s.vault.journal.reverse.find? (fun e => decide (e.kind = 1 ∧ e.target * 64 + e.slot = k)) with
  | some e => e.seq
  | none => 2 ^ 56 + k

/-- FOLD_RESYNC_ITEM (R704): RESYNC_STATE first, then one change after the member's cursor, or one unmirrored record for the mirror peer; with nothing left
for any member that is UP the activity ends. -/
def execFoldResyncItem (member : Nat) (s : State) : Res :=
  .next <| maintStep 1 s fun s =>
    if (upMembers s).all (resyncedTo s) then
      raise (foldPage 0) 0x060F 0 (endActivity 1 (modFold (fun x => { x with told := [] }) s))
    else if ¬ member ∈ upMembers s then s
    else
      let s1 := if member ∈ s.fold.told then s
        else sendMember 0x50 member (leBytes 8 (mget 0 s.fold.cursors member)) (modFold (fun x => { x with told := member :: x.told }) s)
      match nextFor s1 member with
      | some c => sendChange member c s1
      | none =>
        if some member = mirrorPeer s1 then
          match nextUnmirrored s1 with
          | some (k, r) => sendMirror (resyncSeq s1 k) r s1
          | none => s1
        else s1

/-- At each admit phase a port that is UP sends ECHO with the fabric clock count, and one that is DOWN and enabled trains (R696, R697). -/
def foldAdmit (s : State) : State :=
  repeatIdx 2 (fun p t =>
    if (portAt t p).state = .up then sendFold p 0x10 0xFF (leBytes 8 (now t * 25000 + t.sched.clock.toNat)) t else trainPort p t) s

/-! ### Membership -/

/-- OP_FOLD_ENROL (R648, R688). -/
def execOpFoldEnrol (slot i : Nat) (s : State) : Res :=
  .next (runStep 0x0F70 slot i (fun c t =>
    let x := c.src
    let taken := t.fold.members.any (fun e => decide (e.1 = byteAt 0 x ∨ e.2.serial = leAt 4 8 x ∨ e.2.noncePrefix = leAt 109 4 x))
    if ¬ foldRootLoaded t then (bad 0x0204, t)
    else if taken ∨ 7 < byteAt 0 x then (bad 0x0403, t)
    else if (pointError 0x0102 (slice 12 97 x)).isSome then (bad 0x0402, t)
    else pendingRequest c 0x04 0 0 x t) s)

/-- OP_FOLD_REMOVE (R648, R688). -/
def execOpFoldRemove (slot i : Nat) (s : State) : Res :=
  .next (runStep 0x0F71 slot i (fun c t =>
    if ¬ foldRootLoaded t then (bad 0x0204, t)
    else if (mfind (byteAt 0 c.src) t.fold.members).isNone then (bad 0x0403, t)
    else pendingRequest c 0x04 0 0 c.src t) s)

/-- A member table entry (R687, R688; its places are DESIGN CHOICE, log entry 37). -/
def memberBytes (i : Nat) (m : Member) : Bytes := leBytes 1 i ++ zeros 3 ++ leBytes 8 m.serial ++ fit 48 m.digest ++ leBytes 4 m.noncePrefix

/-- OP_FOLD_INFO (R688). -/
def execOpFoldInfo (slot i : Nat) (s : State) : Res :=
  .next (runPure 0x0F72 slot i (fun _ s =>
    ok ((List.range 8).flatMap (fun i => match mfind i s.fold.members with | some m => memberBytes i m | none => zeros 64))) s)

/-- Action 0x04 takes effect (R617, R687, R688): an enrolment's input is 113 bytes, a removal's one. -/
def changeMembers (input : Bytes) (s : State) : State :=
  let i := byteAt 0 input
  if input.length = 1 then configRecord (cfgKey 6 i) [] (modFold (fun f => { f with members := merase i f.members }) s)
  else configRecord (cfgKey 6 i) input <| modFold (fun f => { f with members := mput i { serial := leAt 4 8 input, digest := sha384 (slice 12 97 input), noncePrefix := leAt 109 4 input } f.members }) s

/-! ### Registers -/

/-- The Boundary cluster 0 page (R705). -/
def foldBase : Nat := mkPage 5 1 0 0

/-- FOLD_PORT_STAT.state (R705). -/
def portCode : PortState → Nat
  | .down => 0 | .training => 1 | .handshake => 2 | .up => 3 | .refused => 4

/-- The 32-bit word at an offset of a fold-link tile page (R705). -/
def portWord (s : State) (p off : Nat) : Nat :=
  let x := portAt s p
  match off with
  | 0x100 => b2n x.enable
  | 0x104 => x.peer.toNat * 2 ^ 16 + x.reach.toNat * 2 ^ 8 + portCode x.state
  | 0x108 => b2n (rttValid x) * 2 ^ 31 + rttNs x
  | 0x10C => x.fec.toNat * 2 ^ 16 + x.discards.toNat
  | _ => 0

/-- The effect of a 32-bit write in a fold-link tile page (R705). -/
def portWriteWord (p off v : Nat) (s : State) : State := if off = 0x100 then setPort p (bit 0 v) s else s
def portAudited (off : Nat) : Bool := decide (off = 0x100)
def portReadEffect (p off : Nat) (s : State) : State := if off = 0x10C then modPort p (fun x => { x with fec := 0, discards := 0 }) s else s

/-- The 32-bit word at an offset of the Boundary cluster 0 page (R705). -/
def foldWord (s : State) (off : Nat) : Nat :=
  match off with
  | 0x110 => s.fold.etype.toNat
  | 0x114 =>
    let port := match mirrorPeer s with | some m => (match portTo s m with | some p => p + 1 | none => 0) | none => 0
    (s.fold.members.map (fun e => 2 ^ e.1)).sum * 2 ^ 16 + (selfIndex s).getD 15 * 2 ^ 8 + port
  | 0x118 => s.fold.mirrorPeer.toNat
  | _ => 0

/-- The effect of a 32-bit write in the Boundary cluster 0 page, or its refusal (R705). -/
def foldWriteWord (off v : Nat) (s : State) : State :=
  let refuse := raise foldBase 0x0606 off s
  match off with
  | 0x110 => if [0, 1].all (fun p => decide ((portAt s p).state = .down)) then modFold (fun f => { f with etype := BitVec.ofNat 16 v }) s else refuse
  | 0x118 =>
    let m := v % 8
    if (mfind m s.fold.members).isNone ∨ selfIndex s = some m then refuse else modFold (fun f => { f with mirrorPeer := BitVec.ofNat 3 m }) s
  | _ => s

def foldAudited (off : Nat) : Bool := decide (off = 0x110 ∨ off = 0x118)

end Sys2Proof.Machine
end

