-- ==== Sys2Proof/Machine/LifeOps.lean ====
section
/-!
DEFINITION. Sys2Proof/Machine/LifeOps.lean: the opcodes of the life cycle (R721, R724).
-/
namespace Sys2Proof.Machine
open Sys2Proof

/-- The life-cycle state of an encoding (R718). -/
def lifeOf : Nat → Option Life
  | 1 => some .factory | 2 => some .transit | 3 => some .commission | 4 => some .operate | 5 => some .maintain | 6 => some .decommissioned
  | 7 => some .tampered | _ => none

/-- The input of OP_LC_REQUEST is well formed (R724): a target TRANSIT brings m, n and n identity digests, any other target nothing. -/
def lifeInputOk (x : Bytes) : Bool :=
  allZero (slice 1 3 x) &&
    (if byteAt 0 x = 2 then
      let m := byteAt 4 x
      let n := byteAt 5 x
      decide (8 ≤ x.length ∧ 1 ≤ m ∧ m ≤ n ∧ n ≤ 16 ∧ x.length = 8 + 16 * n) && allZero (slice 6 2 x)
    else decide (x.length = 4))

/-- OP_LC_REQUEST (R648, R650, R721, R724). -/
def execOpLcRequest (slot i : Nat) (s : State) : Res :=
  .next (runStep 0x0F30 slot i (fun c t =>
    match lifeOf (byteAt 0 c.src) with
    | none => (bad 0x0204, t)
    | some target =>
      if (transitionWipe t.keeper.record.state target).isNone ∨ (target = .operate ∧ ¬ foldRootLoaded t) then (bad 0x0204, t)
      else if ¬ lifeInputOk c.src then (bad 0x0404, t)
      else pendingRequest c 0x01 0 0 c.src t) s)

/-- OP_LC_STATUS (R665, R724). -/
def execOpLcStatus (slot i : Nat) (s : State) : Res :=
  .next (runPure 0x0F31 slot i (fun _ s =>
    let b := hedgeStatus s
    ok (overlay 2 [(b.getD 2 0) ||| 1] b)) s)

/-- OP_HDG_LOG_READ (R716, R724). -/
def execOpHdgLogRead (slot i : Nat) (s : State) : Res :=
  .next (runPure 0x0F32 slot i (fun c s =>
    let back := leAt 0 2 c.src
    let n := leAt 2 2 c.src
    if n = 0 ∨ 96 < n then bad 0x0403
    else ok ((List.range n).flatMap (fun k => match s.keeper.log[back + k]? with | some r => tamperBytes crcA r | none => zeros 16))) s)

/-- OP_SELFTEST (R335, R351, R513, R724): the units whose known-answer tests fail enter FAILED, and the answer names their kinds. -/
def execOpSelftest (slot i : Nat) (failed : List Nat) (rng rows : Bool) (s : State) : Res :=
  .next (runStep 0x0F40 slot i (fun _ t =>
    let kinds := (List.range 6).filter (fun k => failed.any (fun p => match engineOf p with | some (x, _) => decide (x = k) | none => false))
    let v := (kinds.map (fun k => 2 ^ k)).sum + 64 * b2n rng + 128 * b2n rows
    let t1 := forAll (failed.filter (fun p => (engineOf p).isSome)) failUnit t
    let t2 := if rng then rngTileOff (failUnit rngPage t1) else t1
    (ok (leBytes 8 v), raise keeperPage 0x0526 v t2)) s)

end Sys2Proof.Machine
end

