-- ==== Sys2Proof/Machine/Sdc.lean ====
section
/-!
DEFINITION. Sys2Proof/Machine/Sdc.lean: the backup card: modes and tuning (R671 to R674), label, sets and directory (R675 to R678, R680), the backup
activity (R679), protection and restore (R681, R683), the opcodes (R682) and the SDC_ registers (R684).
-/
namespace Sys2Proof.Machine
open Sys2Proof

/-- The backup card tile page (R684). -/
def sdcTile : Nat := mkPage 5 1 5 0

def modSdc (f : Sdc → Sdc) (s : State) : State := { s with sdc := f s.sdc }

/-- The fold backup key (R253). -/
def backupKey (s : State) : Bytes := foldKey s 0x91

/-- Send an SD command, which stays known until the next (R673). -/
def sdSend (command arg : Nat) (data : Bytes) (s : State) : State :=
  emit (.sd command arg data) (modSdc (fun c => { c with command := some (command, arg, data) }) s)

/-- A command that failed its CRC is issued once more (R673). -/
def sdAgain (s : State) : State := match s.sdc.command with | some (n, a, d) => emit (.sd n a d) s | none => s

/-! ### Tuning -/

/-- The longest run of passing taps, earliest first: first tap and length (R672). -/
def longestRun (taps : Nat) : Nat × Nat :=
  ((List.range 64).foldl (fun (acc : (Nat × Nat) × Nat) i =>
    if bit i taps then
      let n := acc.2 + 1
      (if acc.1.2 < n then (i + 1 - n, n) else acc.1, n)
    else (acc.1, 0)) ((0, 0), 0)).1

/-- The centre of a run, the lower tap of an even one (R672). -/
def runCentre (r : Nat × Nat) : Nat := r.1 + (r.2 - 1) / 2

/-- SDR104 is given up until the card is removed (R672, R673). -/
def fallBack (s : State) : State :=
  raise sdcPage 0x061B s.sdc.latest (modSdc (fun c => { c with mode := 4, reissued := false }) s)

/-- Tune the sample point with CMD19 once at each of the 64 taps (R672). -/
def tuneCard (taps : Nat) (s : State) : State :=
  let r := longestRun taps
  let s1 := repeatIdx 64 (fun _ t => emit (.sd 19 0 []) t) s
  if r.2 < 8 then fallBack s1 else modSdc (fun c => { c with tunedAt := now s, tap := BitVec.ofNat 6 (runCentre r), mode := 5 }) s1

/-! ### Blocks of the card -/

/-- Blocks of the data ring (R675). -/
def ringLen (s : State) : Nat := s.sdc.lastBlock + 1 - 2048

/-- The ring block that lies `n` blocks after block `b`, wrapping (R676). -/
def ringAfter (s : State) (b n : Nat) : Nat := 2048 + (b - 2048 + n) % ringLen s

/-- A block with its CMAC under the fold backup key, filled with zeros to 512 bytes (R675, R677, R678). -/
def maced (key body : Bytes) : Bytes := fit 512 (body ++ cmac key body)

/-- The label (R675; its places are DESIGN CHOICE, log entry 33). -/
def labelBody (s : State) (id : Bytes) : Bytes :=
  ascii "NBC1" ++ fit 16 id ++ leBytes 1 s.keys.domain ++ zeros 3 ++ leBytes 8 (deviceSerial s) ++ leBytes 4 2048 ++ leBytes 4 s.sdc.lastBlock ++ zeros 8

/-- A directory copy (R678; its places are DESIGN CHOICE, log entry 33). -/
def dirBody (d : SdDir) : Bytes := leBytes 8 d.seq ++ leBytes 8 d.set ++ leBytes 4 d.first ++ leBytes 4 d.count ++ zeros 24

/-- A journal block (R677). -/
def journalBlock (key : Bytes) (set kind index : Nat) (value : Bytes) : Bytes :=
  maced key (ascii "NBJ1" ++ leBytes 8 set ++ leBytes 1 kind ++ leBytes 4 index ++ value)

/-- Nothing may be written to the card (R674, R681). -/
def cardLocked (s : State) : Bool := s.sdc.wpSwitch || s.sdc.permWp

/-- Write the directory with its next seq into copy seq mod 2 (R678). -/
def writeDir (set first count : Nat) (s : State) : State :=
  let d : SdDir := { seq := (match s.sdc.dir with | some x => x.seq + 1 | none => 1), set := set, first := first, count := count }
  sdSend 24 (1 + d.seq % 2) (maced (backupKey s) (dirBody d)) (modSdc (fun c => { c with dir := some d, latest := set }) s)

/-! ### Insertion and removal -/

/-- SDC_STAT.card of a card (R671, R675, R684): 1 usable, 2 no label, 3 foreign, 4 unsupported. -/
def cardCode (s : State) (c : SdCard) : BitVec 3 :=
  let body := c.label.take 48
  if ¬ c.supported then 4
  else if c.label.take 4 = ascii "NBC1" ∧ byteAt 20 c.label ≠ s.keys.domain then 3
  else if c.label.take 4 = ascii "NBC1" ∧ slice 48 16 c.label = cmac (backupKey s) body then 1
  else 2

/-- A valid set that follows the one the directory names is adopted, and a set without a closing entry is discarded (R680). -/
def adoptSets (s : State) : State :=
  let named := match s.sdc.dir with | some d => d.set | none => 0
  let s1 := forAll (s.sdc.sets.filter (fun x => !x.valid && decide (named < x.number))) (fun x t => raise sdcPage 0x061A x.number t) s
  let s2 := modSdc (fun c => { c with latest := named, sets := c.sets.filter (fun x => x.valid) }) s1
  match (s2.sdc.sets.filter (fun x => decide (named < x.number))).getLast? with
  | some x => if cardLocked s then modSdc (fun c => { c with latest := x.number }) s2 else writeDir x.number x.first x.blocks s2
  | none => s2

/-- SDC_INSERTED (R671, R672, R674, R675, R680). -/
def execSdcInserted (card : SdCard) (s : State) : Res :=
  .next <|
    if s.sdc.card ≠ 0 then s
    else
      let code := cardCode s card
      let dir := card.dirs.foldl (fun (a : Option SdDir) d => match a with | some x => if x.seq < d.seq then some d else a | none => some d) none
      let most := min (min card.offers 5) s.sdc.modeMax.toNat
      let s1 := modSdc (fun c => { c with card := code, permWp := card.permWp, tmpWp := card.tmpWp, wpSwitch := card.wpSwitch, offers := BitVec.ofNat 3 (min card.offers 5),
                                          lastBlock := card.lastBlock, label := card.label, reissued := false }) s
      let s2 := raise sdcPage 0x0618 s1.sdc.latest s1
      if code = 4 then s2
      else
        let s3 := if most = 5 then tuneCard card.taps s2 else modSdc (fun c => { c with mode := BitVec.ofNat 3 most }) s2
        if code = 1 then adoptSets (modSdc (fun c => { c with dir := dir, sets := card.sets }) s3) else s3

/-- The backup in progress ends with a result (R684). -/
def endBackup (result : BitVec 4) (s : State) : State :=
  endActivity 2 (modSdc (fun c => { c with backup := none, lastResult := result }) s)

/-- SDC_REMOVED (R674). -/
def execSdcRemoved (s : State) : Res :=
  .next <|
    if s.sdc.card = 0 then s
    else
      let s1 := if s.sdc.backup.isSome then endBackup 3 s else s
      raise sdcPage 0x0619 s.sdc.latest
        (forAll ["SD_CLK", "SD_CMD", "SD_DAT0", "SD_DAT1", "SD_DAT2", "SD_DAT3"] (fun p t => emit (.pin p false) t) (modSdc (fun c => { modeMax := c.modeMax, lastResult := c.lastResult, crc := c.crc, retunes := c.retunes }) s1))

/-- The card signals busy after a write. -/
def cardBusy (s : State) : Bool := match s.sdc.backup with | some b => b.busy | none => false

/-- SDC_RETUNE_TIMER (R673): once per second in SDR104, never while the card signals busy. -/
def execSdcRetuneTimer (taps : Nat) (s : State) : Res :=
  .next (if s.sdc.mode = 5 ∧ ¬ cardBusy s ∧ s.sdc.tunedAt + seconds 1 ≤ now s then tuneCard taps (modSdc (fun c => { c with retunes := satInc c.retunes }) s) else s)

/-- SDC_COMMAND_DONE (R673): a CRC error is counted; in SDR104 the module tunes again and issues the command once more, and a second error in the
same command falls back. -/
def execSdcCommandDone (crcOk : Bool) (taps : Nat) (s : State) : Res :=
  .next <|
    if s.sdc.mode = 7 then s
    else if crcOk then modSdc (fun c => { c with reissued := false }) s
    else
      let s1 := modSdc (fun c => { c with crc := satInc c.crc }) s
      if s.sdc.mode ≠ 5 then s1
      else if s.sdc.reissued then fallBack s1
      else
        let s2 := tuneCard taps (modSdc (fun c => { c with retunes := satInc c.retunes }) s1)
        sdAgain (modSdc (fun c => { c with reissued := decide (c.mode = 5) }) s2)

/-! ### Section data -/

/-- A section preceded by its length (DESIGN CHOICE, log entry 33). -/
def section_ (bs : Bytes) : Bytes := leBytes 8 bs.length ++ bs

/-- A key block goes into a backup set: its export and usage let it, and its tag passes (R269). -/
def backsUp (s : State) (k : KeyBlock) : Bool := decide (2 ≤ k.exportTo) && k.usage.getLsbD 22 && k.intact && imageOpens s k

/-- The key blocks of a backup set, each resealed under the fold backup key with a nonce of its own (R269); without a nonce no further one is sealed (R393). -/
def backupKeys (s : State) : Bytes × State :=
  (s.keys.keys.filter (fun e => backsUp s e.2)).foldl (fun r e => match takeNonce sdcPage r.2 with
    | some n => (r.1 ++ leavingBlock (backupKey s) n.1 0 e.2, n.2)
    | none => r) ([], s)

/-- The section data of a backup set (R269, R676). -/
def backupData (s : State) : Bytes × State :=
  let ks := backupKeys s
  let rs := s.vault.records.filter (fun e => decide (e.2.status = 1 ∨ e.2.status = 2) && readable s e.2)
  (section_ ks.1 ++ section_ (s.vault.domains.flatMap (fun e => leBytes 2 e.1 ++ fit 64 e.2))
    ++ section_ (rs.flatMap (fun e => recordHead e.2 ++ leBytes 4 e.2.panCheck ++ leBytes 1 (b2n e.2.unmirrored) ++ fit 10 e.2.pan)), ks.2)

/-- Bytes of section data in a chunk (R676). -/
def chunkBytes : Nat := 1048064

/-- Chunks and blocks of a set (R676). -/
def chunkCount (data : Bytes) : Nat := ceilDiv data.length chunkBytes
def setBlocks (data : Bytes) : Nat := 2 + 2049 * chunkCount data

/-- Where the next set begins: directly after the latest valid set, or none where it would overlap it (R679). -/
def placeSet (s : State) (blocks : Nat) : Option Nat :=
  match s.sdc.dir with
  | some d => if blocks + d.count ≤ ringLen s then some (ringAfter s d.first d.count) else none
  | none => if blocks ≤ ringLen s then some 2048 else none

/-- A card with no valid label is written one (R675). -/
def ensureLabel (s : State) : State :=
  if s.sdc.card ≠ 2 then s
  else
    let r := drawBytes 16 s
    let body := labelBody s r.1
    let b := maced (backupKey s) body
    sdSend 24 0 b (modSdc (fun c => { c with card := 1, label := b.take 64 }) r.2)

/-- Steps 1 to 3 of R679 and the opening journal block, or the reason why nothing is written. -/
def openSet (s : State) : State :=
  if s.sdc.card = 3 then endBackup 5 s
  else if s.sdc.card = 0 then endBackup 3 s
  else if s.sdc.card = 4 ∨ ¬ foldRootLoaded s then endBackup 8 s
  else if cardLocked s then endBackup 4 s
  else
    let made := backupData s
    let data := made.1
    match placeSet s (setBlocks data) with
    | none => endBackup 2 s
    | some first =>
      let n := s.sdc.latest + 1
      let s1 := ensureLabel (modSdc (fun c => { c with tmpWp := false }) (sdSend 27 0 [] made.2))
      sdSend 24 first (journalBlock (backupKey s) n 1 0 [])
        (modSdc (fun c => { c with backup := some { number := n, first := first, blocks := setBlocks data, data := data } }) s1)

/-- Write the chunk that is next: its blocks with the trailer, encrypted under the fold backup key with a hardware nonce (R388, R676). -/
def writeChunk (s : State) : State :=
  match s.sdc.backup with
  | none => s
  | some b =>
    if b.busy ∨ chunkCount b.data ≤ b.chunk then s
    else
      match takeNonce sdcPage s with
      | none => s
      | some (n, s1) =>
        let part := (b.data.drop (b.chunk * chunkBytes)).take chunkBytes
        let aad := leBytes 8 b.number ++ leBytes 4 b.chunk ++ leBytes 4 part.length
        let c := gcmE (backupKey s) n aad (fit chunkBytes part)
        let tag := c.drop chunkBytes
        sdSend 25 (ringAfter s b.first (1 + 2049 * b.chunk)) (c.take chunkBytes ++ fit 512 (n ++ tag ++ aad))
          (modSdc (fun x => { x with backup := some { b with busy := true, tags := b.tags ++ [tag] } }) s1)

/-- BACKUP_CHUNK (R679): the activity opens its set, and writes a chunk. -/
def execBackupChunk (s : State) : Res :=
  .next <| maintStep 2 s fun s =>
    if s.sdc.backup.isNone then writeChunk (openSet s)
    else writeChunk s

/-- The closing journal block, the directory, TMP_WRITE_PROTECT and the event end the set (R676 to R679). -/
def closeSet (b : Backup) (s : State) : State :=
  let n := chunkCount b.data
  let s1 := sdSend 24 (ringAfter s b.first (b.blocks - 1)) (journalBlock (backupKey s) b.number 3 n (leBytes 4 n ++ sha384 b.tags.flatten)) s
  let set : SdSet := { number := b.number, first := b.first, blocks := b.blocks, valid := true, intact := true, data := b.data }
  let s2 := writeDir b.number b.first b.blocks (modSdc (fun c => { c with sets := c.sets ++ [set] }) s1)
  endBackup 1 (raise sdcPage 0x061C b.number (modSdc (fun c => { c with tmpWp := true }) (sdSend 27 1 [] s2)))

/-- SDC_BUSY_END (R679): the busy phase of a chunk's last write ends and CMD13 answers; the chunk's journal block follows, then the next safe point or the
closing block. -/
def execSdcBusyEnd (error : Bool) (s : State) : Res :=
  .next <|
    match s.sdc.backup with
    | none => s
    | some b =>
      if ¬ b.busy then s
      else if error then endBackup 8 s
      else
        let b1 := { b with busy := false, chunk := b.chunk + 1 }
        let s1 := sdSend 24 (ringAfter s b.first (2049 * b1.chunk)) (journalBlock (backupKey s) b.number 2 b.chunk (b.tags.getD b.chunk []))
          (modSdc (fun c => { c with backup := some b1 }) s)
        let s2 := safePoint 2 s1
        if ¬ maintRuns s2 2 then modSdc (fun c => { c with backup := none }) s2
        else if b1.chunk < chunkCount b1.data then s2
        else closeSet b1 s2

/-! ### Restore and archive -/

/-- The set a restore names: 0 the latest valid one (R682). -/
def setNamed (s : State) (n : Nat) : Option SdSet :=
  s.sdc.sets.find? (fun x => x.valid && decide (x.number = (if n = 0 then s.sdc.latest else n)))

/-- The three sections of a set's data (R676; DESIGN CHOICE, log entry 33). -/
def sectionsOf (data : Bytes) : Bytes × Bytes × Bytes :=
  let a := leAt 0 8 data
  let r1 := data.drop (8 + a)
  let b := leAt 0 8 r1
  let r2 := r1.drop (8 + b)
  ((data.drop 8).take a, (r1.drop 8).take b, (r2.drop 8).take (leAt 0 8 r2))

/-- Key blocks one after the other, each of 256 bytes for a block of its count; none where one fails its tag. -/
def openBlocks (key : Bytes) : Nat → Bytes → Option (List KeyBlock)
  | 0, _ => some []
  | fuel + 1, b =>
    if b = [] then some []
    else
      let n := 256 * max 1 (byteAt 9 b)
      match openBlock key 0 (b.take n), openBlocks key fuel (b.drop n) with
      | some k, some l => some (k :: l)
      | _, _ => none

/-- A restore that reached MET (R683): the first pass verifies the set, the second applies it. Its result. -/
def restoreSet (n : Nat) (s : State) : Nat × State :=
  let fails := (0x0405, modSdc (fun c => { c with lastResult := 7 }) s)
  match setNamed s n with
  | none => fails
  | some x =>
    let p := sectionsOf x.data
    match openBlocks (backupKey s) p.1.length p.1 with
    | none => fails
    | some ks =>
      if ¬ x.intact then fails
      else
        let s1 := forAll ks receiveKey s
        let s2 := forAll (chunks 66 p.2.1) (fun e t => writeDomain (leAt 0 2 e) (fit 64 (e.drop 2)) t) s1
        let s3 := forAll (chunks 36 p.2.2) (fun e t => receiveRecord (recordFrom (e.take 21) (leAt 21 4 e) (byteAt 25 e) (slice 26 10 e)) t) s2
        (0, modSdc (fun c => { c with lastResult := 6 }) s3)

/-- An archive request that reached MET sets PERM_WRITE_PROTECT and reads the CSD back (R681), unless the socket's switch forbids every write (R674). -/
def archiveCard (s : State) : State :=
  if s.sdc.card = 0 ∨ cardLocked s then s
  else raise sdcPage 0x061D s.sdc.latest (modSdc (fun c => { c with permWp := true }) (sdSend 9 0 [] (sdSend 27 2 [] s)))

/-- A card with a valid label of this fold key domain is in the slot (R682). -/
def cardUsable (s : State) : Bool := decide (s.sdc.card = 1)

/-- OP_SDC_RESTORE (R648, R682). -/
def execOpSdcRestore (slot i : Nat) (s : State) : Res :=
  .next (runStep 0x0F60 slot i (fun c t =>
    if ¬ foldRootLoaded t then (bad 0x0204, t)
    else if ¬ cardUsable t ∨ (setNamed t (leAt 0 8 c.src)).isNone then (bad 0x0403, t)
    else pendingRequest c 0x05 0 0 (fit 8 c.src) t) s)

/-- OP_SDC_ARCHIVE (R648, R681, R682). -/
def execOpSdcArchive (slot i : Nat) (s : State) : Res :=
  .next (runStep 0x0F61 slot i (fun c t => if ¬ cardUsable t ∨ t.sdc.permWp then (bad 0x0403, t) else pendingRequest c 0x06 0 0 [] t) s)

/-- OP_SDC_INFO (R682). -/
def execOpSdcInfo (slot i : Nat) (s : State) : Res :=
  .next (runPure 0x0F62 slot i (fun _ s =>
    if s.sdc.card = 0 then bad 0x0403
    else ok (fit 64 s.sdc.label ++ (match s.sdc.dir with | some d => (maced (backupKey s) (dirBody d)).take 64 | none => zeros 64))) s)

/-! ### Registers -/

/-- The 32-bit word at an offset of the backup card tile page (R684). -/
def sdcWord (s : State) (off : Nat) : Nat :=
  let c := s.sdc
  match off with
  | 0x100 => c.modeMax.toNat
  | 0x104 =>
    c.lastResult.toNat * 2 ^ 28 + c.tap.toNat * 2 ^ 22 + c.mode.toNat * 2 ^ 19 + c.card.toNat * 2 ^ 16 + 4 * b2n c.permWp + 2 * b2n c.tmpWp + b2n c.wpSwitch
  | 0x108 => c.latest % 2 ^ 32
  | 0x10C => c.crc.toNat * 2 ^ 16 + c.retunes.toNat
  | _ => 0

/-- The effect of a 32-bit write (R684): mode codes 6 and 7 are refused; a lower limit takes effect on the card in use at once. -/
def sdcWriteWord (off v : Nat) (s : State) : State :=
  if off ≠ 0x100 then s
  else if 6 ≤ v % 8 then raise sdcPage 0x0606 off s
  else modSdc (fun c => { c with modeMax := BitVec.ofNat 3 v, mode := if c.mode ≤ 5 ∧ v % 8 < c.mode.toNat then BitVec.ofNat 3 v else c.mode }) s

def sdcAudited (off : Nat) : Bool := decide (off = 0x100)

/-- What reading a word clears (R684). -/
def sdcReadEffect (off : Nat) (s : State) : State := if off = 0x10C then modSdc (fun c => { c with crc := 0, retunes := 0 }) s else s

end Sys2Proof.Machine
end

