-- ==== Sys2Proof/Machine/Present.lean ====
section
/-!
DEFINITION. Sys2Proof/Machine/Present.lean: ceremonies: shares of the fold domain root (R645 to R647), what a met request does (R654, R656), the decision
of a presentation (R652, R653), the custody applet's commands under secure messaging (R640 to R644) and the steps of a presentation (R651).
-/
namespace Sys2Proof.Machine
open Sys2Proof

/-! ### Shares -/

/-- Multiplication in GF(2^8) with the polynomial 0x11B (R645). -/
def gf8Mul (a b : Byte) : Byte :=
  ((List.range 8).foldl (fun (acc : Byte × Byte) i =>
    let z := if b.getLsbD i then acc.1 ^^^ acc.2 else acc.1
    (z, if acc.2.getLsbD 7 then (acc.2 <<< 1) ^^^ 0x1B else acc.2 <<< 1)) (0, a)).1

/-- The inverse in GF(2^8): the 254th power. -/
def gf8Inv (a : Byte) : Byte := (List.range 254).foldl (fun r _ => gf8Mul r a) 1

/-- The check of a root for a domain (R646). -/
def rootCheck (domain : Nat) (root : Bytes) : Bytes := (sha384 (ascii "NRC1" ++ leBytes 1 domain ++ root)).take 8

/-- The y bytes of a share: the polynomials, one byte string per degree, evaluated at x (R645). -/
def shareAt (polys : List Bytes) (x : Byte) : Bytes :=
  polys.reverse.foldl (fun (acc : Bytes) c => List.zipWith (fun a b => gf8Mul a x ^^^ b) acc c) (zeros 32)

/-- A share record (R646). -/
def shareRecord (domain m : Nat) (epoch : Nat) (polys : List Bytes) (roster : List Bytes) (slot : Nat) : Bytes :=
  leBytes 1 domain ++ leBytes 1 m ++ leBytes 1 roster.length ++ leBytes 1 (slot + 1) ++ leBytes 4 epoch ++ rootCheck domain (polys.headD [])
    ++ shareAt polys (BitVec.ofNat 8 (slot + 1)) ++ roster.flatten

/-- Lagrange interpolation at 0 of share records (R645). -/
def combine (records : List Bytes) : Bytes :=
  let xs := records.map (fun r => BitVec.ofNat 8 (byteAt 3 r))
  records.foldl (fun (acc : Bytes) r =>
    let x : Byte := BitVec.ofNat 8 (byteAt 3 r)
    let w := (xs.filter (fun y => decide (y ≠ x))).foldl (fun (p : Byte) y => gf8Mul p (gf8Mul y (gf8Inv (y ^^^ x)))) 1
    xorBytes acc ((slice 16 32 r).map (fun b => gf8Mul b w))) (zeros 32)

/-- The fields of a share record lie within R646, for the domain asked for. -/
def shareOk (domain : Nat) (r : Bytes) : Bool :=
  decide (byteAt 0 r = domain ∧ 1 ≤ byteAt 1 r ∧ byteAt 1 r ≤ byteAt 2 r ∧ byteAt 2 r ≤ 16 ∧ 1 ≤ byteAt 3 r ∧ byteAt 3 r ≤ byteAt 2 r ∧ r.length = 48 + 16 * byteAt 2 r)

/-- Two share records agree in domain, m, n, epoch, check and roster, and differ in x (R652, outcome 11). -/
def sharesAgree (a b : Bytes) : Bool :=
  decide (a.take 3 = b.take 3 ∧ slice 4 12 a = slice 4 12 b ∧ a.drop 48 = b.drop 48 ∧ byteAt 3 a ≠ byteAt 3 b)

/-- The roster of a share record: its identity digests (R646). -/
def rosterOf (r : Bytes) : List Bytes := chunks 16 (r.drop 48)

/-- The roster as a record of the configuration area, sealed under the storage key (R647); its layout is DESIGN CHOICE, log entry 84. -/
def keepRoster (m : Nat) (roster : List Bytes) (s : State) : State :=
  match takeNonce keyPage s with
  | some (n, s1) => configRecord (cfgKey 5 0) (n ++ gcmE (storageKey s1) n [] (leBytes 1 m ++ leBytes 1 roster.length ++ roster.flatten)) s1
  | none => s

/-- The fold domain root becomes key block 3, the fold key domain is set and the roster kept (R253, R254, R647, R654). -/
def loadRoot (domain m : Nat) (roster : List Bytes) (root : Bytes) (s : State) : State :=
  let k : KeyBlock := { handle := mkHandle domain 0x01 (mget 0 s.keys.gens 3) 3, cls := 0x01, alg := 0x0003, usage := 0x100, deriveOnly := true,
                        created := s.sched.epoch.toNat, material := root }
  let s1 := storeKey 3 k (dropFromBays 3 s)
  keepRoster m roster { s1 with keys := { s1.keys with domain := domain, rosterM := m, roster := roster } }

/-! ### Actions -/

/-- The request asks for RELEASE SHARE: action 0x02, and 0x01 while no roster is held (R648, R656). -/
def releasesShare (s : State) (action : Nat) : Bool := decide (action = 0x02) || (decide (action = 0x01) && (rosterFor s 0x01).isNone)

/-- The root rebuilt from the records collected, where its check matches (R645, R654). -/
def rebuilt (r : Request) : Option Bytes :=
  let first := r.shares.headD []
  let root := combine r.shares
  if slice 8 8 first = rootCheck (byteAt 0 first) root then some root else none

/-- A life-cycle change that reached MET (R721, R722, R724). -/
def lifeAction (r : Request) (s : State) : Nat × State :=
  let x := r.input
  match lifeOf (byteAt 0 x) with
  | some target =>
    if (transitionWipe s.keeper.record.state target).isNone then (0x0204, s)
    else (0, transition target r.number (byteAt 4 x) (chunks 16 (x.drop 8)) s)
  | none => (0x0404, s)

/-- The action of a met request, and its result (R654, R656). -/
def performAction (r : Request) (release : Bool) (s : State) : Nat × State :=
  match r.action with
  | 0x01 => if release ∧ (rebuilt r).isNone then (0x0405, s) else lifeAction r s
  | 0x02 =>
    match rebuilt r with
    | some root =>
      let first := r.shares.headD []
      (0, loadRoot (byteAt 0 first) (byteAt 1 first) (rosterOf first) root s)
    | none => (0x0405, s)
  | 0x03 => (0, loadRoot (bits 31 24 r.root) (bits 12 8 r.root) r.roster (r.polys.headD []) s)
  | 0x04 => (0, changeMembers r.input s)
  | 0x05 => restoreSet (leAt 0 8 r.input) s
  | 0x06 => if s.sdc.card = 0 ∨ cardLocked s then (0x0403, s) else (0, archiveCard s)
  | 0x07 =>
    let b := handleBlock (leAt 0 8 r.input)
    match findKey s (leAt 0 8 r.input) with
    | .ok _ => (0, if b ∈ s.keys.signers then s else configRecord (cfgKey 8 b) [1] { s with keys := { s.keys with signers := s.keys.signers ++ [b] } })
    | .error e => (e, s)
  | _ => let d := keyChange r.opcode r.subject r.input s; (d.1.result, d.2)

/-- A request reaches MET: its action, its record, its event, and the next request becomes ACTIVE (R650, R654). -/
def meet (r : Request) (s : State) : State :=
  let release := releasesShare s r.action
  let a := performAction r release { s with ceremony := { s.ceremony with queue := s.ceremony.queue.drop 1 } }
  activate (raise keyPage 0x0524 r.action (requestRecord 0x0103 a.1 [] r r.counted.length a.2))

/-- Pass 1 of GENERATE is complete: the root and the other coefficients are drawn, and pass 2 begins with a new window (R645, R650, R654). -/
def beginPass2 (s : State) : State :=
  match activeRequest s with
  | none => s
  | some r =>
    let d := drawBytes (32 * bits 12 8 r.root) s
    modActive (fun r => { r with pass := 2, roster := r.counted, counted := [], polys := chunks 32 d.1, windowEnd := some (now s + seconds 300) }) d.2

/-! ### Decision -/

/-- The identity digest of a card (R640). -/
def identityDigest (identity : Bytes) : Bytes := (sha384 identity).take 16

def presentationAt (s : State) (reader : Bool) : Option Presentation := if reader then s.ceremony.reader else s.ceremony.contact

def setPresentation (reader : Bool) (p : Option Presentation) (s : State) : State :=
  { s with ceremony := if reader then { s.ceremony with reader := p } else { s.ceremony with contact := p } }

/-- The outcome of a presentation whose step 6 succeeded, at its step 7 (R652, R653). -/
def decide_ (s : State) (p : Presentation) : Nat :=
  match p.request, activeRequest s with
  | none, _ => 10
  | some _, none => if p.late then 9 else 10
  | some (number, _, pass, _), some r =>
    let d := identityDigest p.identity
    if p.late then 9
    else if number ≠ r.number ∨ pass ≠ r.pass then 4
    else if d ∈ r.counted then 1
    else if (rosterAction r.action ∧ ¬ releasesShare s r.action ∧ ¬ d ∈ (match rosterFor s r.action with | some x => x.2 | none => [])) ∨ (r.pass = 2 ∧ ¬ d ∈ r.roster) then 2
    else if releasesShare s r.action ∧ ¬ (shareOk (bits 31 24 r.root) p.record && r.shares.all (sharesAgree p.record)) then 11
    else 0

/-- The request that a presentation's record names: the one its card was asked for, else the active one (R657). -/
def recordRequest (s : State) (p : Presentation) : Request :=
  match p.request with
  | some (number, action, _, _) => { number := number, action := action, m := 0, opcode := 0, subject := match activeRequest s with | some r => if r.number = number then r.subject else 0 | none => 0 }
  | none => match activeRequest s with | some r => r | none => { number := 0, action := 0, m := 0, opcode := 0 }

/-- Count a presentation toward the active request (R650, R654, R656). -/
def countPresentation (p : Presentation) (s : State) : State :=
  let release : Bool := match activeRequest s with | some r => releasesShare s r.action | none => false
  let s1 := modActive (fun r =>
    { r with counted := r.counted ++ [identityDigest p.identity], shares := if release then r.shares ++ [p.record] else r.shares,
             m := if release && decide (r.m = 0) then byteAt 1 p.record else r.m }) s
  match activeRequest s1 with
  | none => s1
  | some r =>
    if r.counted.length < r.m then s1
    else if r.action = 0x03 ∧ r.pass = 1 then beginPass2 s1
    else meet r s1

def modContact (f : Contact → Contact) (s : State) : State := { s with contact := f s.contact }

/-- Deactivation in the order of ISO/IEC 7816-3 (R633). -/
def deactivate (s : State) : State :=
  emit (.pin "CC_VCC" false) (emit (.pin "CC_IO" false) (emit (.pin "CC_CLK" false) (emit (.pin "CC_RST" false)
    (modContact (fun c => { c with active := false, clock := 0, protocol := 0, cls := 0 }) s))))

/-- The card is deactivated, or deselected (R651 step 7). -/
def releaseCard (reader : Bool) (s : State) : State :=
  if reader then emit (.card true [0xC2]) { s with reader := { s.reader with card := 0, stage := .deselect } }
  else deactivate s

/-- A presentation ends with an outcome: its record, and its count (R652, R653, R657). -/
def endWith (reader : Bool) (outcome : Nat) (s : State) : State :=
  match presentationAt s reader with
  | none => s
  | some p =>
    let s1 := setPresentation reader none s
    let custodian := if p.identity = [] then [] else identityDigest p.identity
    let s2 := requestRecord 0x0102 (if outcome = 0 then 0 else 0x0405) custodian (recordRequest s p) outcome s1
    if outcome = 0 then countPresentation p s2 else s2

/-- A presentation ends and its card is released. -/
def endPresentation (reader : Bool) (outcome : Nat) (s : State) : State := endWith reader outcome (releaseCard reader s)

/-! ### Commands to the card -/

/-- A command of the applet as header and data; its transport is not shown (R632, R641; DESIGN CHOICE, log entry 38). -/
def apdu (reader : Bool) (cla ins p1 p2 : Byte) (data : Bytes) (s : State) : State := emit (.card reader ([cla, ins, p1, p2] ++ data)) s

/-- A data field under secure messaging (R642). -/
def protect (key : Bytes) (dir : Byte) (counter : Nat) (aad data : Bytes) : Bytes :=
  beBytes 4 counter ++ gcmE key (dir :: zeros 7 ++ beBytes 4 counter) aad data

/-- A protected response opened (R642); none where its tag or its counter is wrong. -/
def unprotect (key : Bytes) (counter : Nat) (field : Bytes) : Option Bytes :=
  if beNat (field.take 4) ≠ counter ∨ field.length < 20 then none else gcmD key (0x01 :: zeros 7 ++ beBytes 4 counter) [] (field.drop 4)

/-- The Naron device certificate, of up to 1,024 bytes, as the one-time-programmable area holds it (R255; DESIGN CHOICE, log entry 83). -/
def deviceCert (s : State) : Bytes := std "Naron device certificate" (leNat (s.keys.otp.take 2) % 1025) [s.keys.otp]

/-- The certificate of the key that names the module, of up to 1,024 bytes: the module identity certificate that the device key signed, or the device certificate
in its place (R641, R255, R256). -/
def identityCert (s : State) : Bytes := if s.keys.identityNames then s.keys.idCert else deviceCert s

/-- T of an AUTHENTICATE exchange, over the command data and the card's ephemeral point (R642; DEDUCED, log entry 39). -/
def authDigest (auth point : Bytes) : Bytes := sha384 (auth ++ point)

/-- The AUTHENTICATE command data and the module's ephemeral scalar (R641). -/
def authData (cardSerial : Nat) (s : State) : (Bytes × Bytes) × State :=
  let e := drawScalar s
  let n := drawBytes 32 e.2
  let c := identityCert s
  let head := pointP384 e.1 ++ n.1 ++ leBytes 2 c.length ++ c
  let g := nameSign (head ++ leBytes 8 cardSerial) n.2
  ((head ++ g.1, e.1), g.2)

/-- The command of step 6: INS and data (R641, R648, R656). -/
def stepSix (s : State) (r : Request) (p : Presentation) : Byte × Bytes :=
  let digest := requestDigest s r
  if r.action = 0x03 ∧ r.pass = 2 then
    (0xD2, shareRecord (bits 31 24 r.root) (bits 12 8 r.root) s.sched.epoch.toNat r.polys r.roster (r.roster.idxOf (identityDigest p.identity)))
  else if releasesShare s r.action then (0xD4, leBytes 1 (bits 31 24 r.root) ++ digest)
  else (0xDA, leBytes 1 r.action ++ digest)

/-- ACCEPT at step 5: the command the action requires is sent (R651, R652). -/
def askCard (reader : Bool) (s : State) : State :=
  match presentationAt s reader with
  | none => s
  | some p =>
    match activeRequest s with
    | none => endPresentation reader (if p.late then 9 else 10) s
    | some r =>
      let d := identityDigest p.identity
      if p.late then endPresentation reader 9 s
      else if r.pass = 2 ∧ ¬ d ∈ r.roster then endPresentation reader 2 s
      else if r.pass = 2 ∧ d ∈ r.counted then endPresentation reader 1 s
      else
        let c := stepSix s r p
        let n := p.counter + 1
        apdu reader 0x84 c.1 0 0 (protect p.session 0x00 n [0x84, c.1, 0, 0] c.2)
          (setPresentation reader (some { p with step := 6, counter := n, record := if c.1 = 0xD2 then c.2 else [], request := some (r.number, r.action, r.pass, requestDigest s r) }) s)

/-! ### Steps -/

/-- The card is activated or selected: its presentation begins with SELECT (R640, R651), unless the chain is stalled (R655). -/
def beginPresentation (reader : Bool) (s : State) : State :=
  if s.audit.stalled then s
  else apdu reader 0x00 0xA4 0x04 0x00 [0xF0, 0x4E, 0x43, 0x41, 0x01] (setPresentation reader (some { step := 2, begun := now s }) s)

/-- A certificate response is checked and AUTHENTICATE sent (R641, R651 steps 3 and 4). -/
def afterIdentity (reader : Bool) (p : Presentation) (data : Bytes) (s : State) : State :=
  let point := slice 8 97 data
  if data.length ≠ 233 then endPresentation reader 3 s
  else if ¬ Config.accepts "Tergil custody certificate" [data.take 137, data.drop 137] then
    endPresentation reader 3 (setPresentation reader (some { p with identity := point }) s)
  else
    let a := authData (leAt 0 8 data) s
    apdu reader 0x80 0x88 0 0 a.1.1
      (setPresentation reader (some { p with step := 4, serial := leAt 0 8 data, identity := point, label := slice 105 32 data, auth := a.1.1, ephemeral := a.1.2 }) a.2)

/-- The card's signature over T is checked and the session key formed; the panel then asks for a button where a request is ACTIVE (R642, R651 steps 4 and
5, R652). -/
def afterAuth (reader : Bool) (p : Presentation) (data : Bytes) (s : State) : State :=
  let t := authDigest p.auth (data.take 97)
  if data.length ≠ 193 ∨ ¬ Config.accepts "ECDSA verification" [leBytes 2 0x0102, p.identity, data.drop 97, sha384 t] then endPresentation reader 4 s
  else
    let z := std "key agreement" 48 [leBytes 2 0x0102, p.ephemeral, data.take 97]
    let p1 := { p with session := (sha384 (ascii "CSK1" ++ z ++ t)).take 32, ephemeral := [] }
    match activeRequest s with
    | none => endPresentation reader 10 (setPresentation reader (some p1) s)
    | some r => setPresentation reader (some { p1 with step := 5, asked := now s, request := some (r.number, r.action, r.pass, requestDigest s r) }) s

/-- The answer to step 6 is opened and checked, and the outcome decided (R641, R642, R651 steps 6 and 7, R652). -/
def afterAction (reader : Bool) (p : Presentation) (field : Bytes) (s : State) : State :=
  match unprotect p.session p.counter field, p.request with
  | some x, some (_, action, pass, digest) =>
    let s1 := releaseCard reader s
    let share := decide (action = 0x03 ∧ pass = 2)
    let released := releasesShare s action
    let good := if share then decide (x = (sha384 p.record).take 16)
      else if released then true
      else decide (x.length = 96) && Config.accepts "ECDSA verification" [leBytes 2 0x0102, p.identity, x, sha384 (ascii "NCK1" ++ leBytes 8 (deviceSerial s) ++ digest)]
    let p1 := if released then { p with record := x } else p
    let s2 := setPresentation reader (some p1) s1
    if good then endWith reader (decide_ s2 p1) s2 else endWith reader 4 s2
  | _, _ => endPresentation reader 4 s

/-- An applet's answer (R643, R651). -/
def cardAnswers (reader : Bool) (data : Bytes) (sw : Nat) (s : State) : State :=
  match presentationAt s reader with
  | none => s
  | some p =>
    if p.step < 2 ∨ p.step = 5 then s
    else if sw ≠ 0x9000 then endPresentation reader 8 s
    else
      match p.step with
      | 2 => apdu reader 0x80 0xCA 0 0 [] (setPresentation reader (some { p with step := 3 }) s)
      | 3 => afterIdentity reader p data s
      | 4 => afterAuth reader p data s
      | _ => afterAction reader p data s

end Sys2Proof.Machine
end

