-- ==== Sys2Proof/Machine/Custody.lean ====
section
/-!
DEFINITION. Sys2Proof/Machine/Custody.lean: the contact card interface (R632 to R635), the contactless reader (R636 to R639), the panel's buttons and the
windows (R650 to R652), and the CARD_, RDR_ and BND_CER_ registers (R658).
-/
namespace Sys2Proof.Machine
open Sys2Proof

/-- The contact card, reader and panel I/O tile pages (R658). -/
def contactTile : Nat := mkPage 5 1 3 0
def readerTile : Nat := mkPage 5 1 4 0
def panelTile : Nat := mkPage 5 1 6 0

def modReader (f : Reader → Reader) (s : State) : State := { s with reader := f s.reader }

/-! ### The contact card -/

/-- Classes in the order of activation: C, B, A, those allowed (R632). -/
def allowedClasses (s : State) : List (BitVec 2) :=
  [3, 2, 1].filter (fun k => s.contact.classAllow.getLsbD (k.toNat - 1))

/-- Cold reset in a class: 4 MHz until PPS (R632). -/
def applyClass (k : BitVec 2) (s : State) : State :=
  emit (.pin "CC_RST" true) (emit (.pin "CC_VCC" true) (modContact (fun c => { c with active := true, clock := 4, protocol := 0, cls := k }) s))

/-- Activation begins with the first class allowed (R632, R634). -/
def activateCard (s : State) : State :=
  match allowedClasses s with
  | k :: _ => applyClass k s
  | [] => s

/-- The card is given up until it is reinserted or CARD_CTL.retry is written (R635). -/
def cardProtocol (s : State) : State :=
  endWith false 7 (raise contactPage 0x0613 0 (modContact (fun c => { c with bar := .protocol }) (deactivate s)))

/-- The next class in order, after the one in use (R632). -/
def nextClass (s : State) : State :=
  match (allowedClasses s).filter (fun k => decide (k.toNat < s.contact.cls.toNat)) with
  | k :: _ => applyClass k (deactivate s)
  | [] => cardProtocol s

/-- CARD_INSERTED (R634, R655): activation begins, unless the chain is stalled. -/
def execCardInserted (s : State) : Res :=
  .next <|
    if s.contact.present then s
    else
      let s1 := raise contactPage 0x0610 0 (modContact (fun c => { c with present := true, bar := .none }) s)
      if s.audit.stalled then s1 else activateCard s1

/-- CARD_REMOVED (R634, R652): deactivation at once. -/
def execCardRemoved (s : State) : Res :=
  .next <|
    if ¬ s.contact.present then s
    else
      let s1 := if s.contact.active then deactivate s else s
      endWith false 7 (raise contactPage 0x0611 0 (modContact (fun c => { c with present := false, bar := .none }) s1))

/-- CARD_SHORT (R633, R652). -/
def execCardShort (s : State) : Res :=
  .next (if ¬ s.contact.active then s else endWith false 7 (raise contactPage 0x0612 0 (modContact (fun c => { c with bar := .short }) (deactivate s))))

/-- The card is powered and its ATR is awaited. -/
def awaitsAtr (s : State) : Bool := s.contact.active && decide (s.contact.protocol = 0)

/-- CARD_ATR_TIMEOUT (R632). -/
def execCardAtrTimeout (s : State) : Res := .next (if awaitsAtr s then nextClass s else s)

/-- CARD_ATR (R632, R635, R651): a malformed ATR ends the activation, one that excludes the class leads to the next, and after PPS the presentation begins. -/
def execCardAtr (malformed : Bool) (classes : BitVec 3) (t0 t1 : Bool) (fmax : Nat) (s : State) : Res :=
  .next <|
    if ¬ awaitsAtr s then s
    else if malformed ∨ (¬ t0 ∧ ¬ t1) then cardProtocol s
    else if ¬ classes.getLsbD (s.contact.cls.toNat - 1) then nextClass s
    else
      let f := max 1 (min (min fmax 20) s.contact.clkMax.toNat)
      beginPresentation false (modContact (fun c => { c with protocol := if t1 then 2 else 1, clock := BitVec.ofNat 8 f }) s)

/-- What CARD_CTL.retry does (R633, R635, R658). -/
def retryCard (s : State) : State :=
  let s1 := modContact (fun c => { c with bar := .none }) s
  if s.contact.present ∧ ¬ s.contact.active ∧ ¬ s.audit.stalled then activateCard s1 else s1

/-- CARD_CTL as read (R658). -/
def cardCtl (s : State) : Nat := s.contact.clkMax.toNat * 2 ^ 8 + s.contact.classAllow.toNat * 2 ^ 4

/-- A retry written now has an effect: a latch stands, or a card is present and not active (R633, R789). -/
def retryTaken (s : State) : Nat :=
  b2n (decide (s.contact.bar ≠ .none) || (s.contact.present && !s.contact.active && !s.audit.stalled))

/-- CARD_RETRY (R633, R658): the CONFIG record shows the 1 written where it has an effect (R462, R789). -/
def execCardRetry (m : Master) (s : State) : Res :=
  .next (audited (contactTile * 0x1000 + 0x100) m 4 cardCtl retryTaken retryCard s)

/-- CARD_PROTOCOL_TIMEOUT (R635). -/
def execCardProtocolTimeout (s : State) : Res :=
  .next (if s.contact.active then cardProtocol (modContact (fun c => { c with timeouts := satInc c.timeouts }) s) else s)

/-! ### The reader -/

/-- A frame of the reader. -/
def rdrSend (bs : Bytes) (s : State) : State := emit (.card true bs) s

/-- The field goes off and low-power detection resumes (R637). -/
def fieldOff (s : State) : State := modReader (fun r => { r with stage := .off, card := 0, known := [], level := 0, slotsB := 1 }) s

/-- Polling: REQA where Type A is polled, else REQB (R636, R658). -/
def pollA (s : State) : State := rdrSend [0x26] (modReader (fun r => { r with stage := .reqa, known := [], level := 0 }) s)
def pollB (s : State) : State :=
  rdrSend [0x05, 0x00, BitVec.ofNat 8 (match s.reader.slotsB with | 1 => 0 | 2 => 1 | 4 => 2 | 8 => 3 | _ => 4)] (modReader (fun r => { r with stage := .reqb }) s)
def poll (s : State) : State := if s.reader.typeA then pollA s else if s.reader.typeB then pollB s else fieldOff s

/-- A protocol failure ends the session (R639, R652). -/
def rdrProtocol (s : State) : State := endWith true 7 (fieldOff (raise readerPage 0x0617 0 s))

/-- Open or short (R638). -/
def antennaFault (code : BitVec 2) (s : State) : State :=
  let s1 := fieldOff (modReader (fun r => { r with antenna := code }) s)
  endWith true 7 (if s.reader.antenna = 0 then raise readerPage 0x0615 code.toNat s1 else s1)

/-- The baseline moves 1/16 of the way toward an amplitude, the step rounded toward zero (R637; DEDUCED, log entry 40). -/
def moveBaseline (base amp : BitVec 8) : BitVec 8 :=
  let b := base.toNat
  let a := amp.toNat
  BitVec.ofNat 8 (if b ≤ a then b + (a - b) / 16 else b - (b - a) / 16)

/-- The ping period of RDR_LPCD.period × 10 ms, 500 swaths each, has run since the latest ping (R637). -/
def pingDue (s : State) : Bool := match s.reader.pingAt with | some a => decide (a + 500 * s.reader.period.toNat ≤ now s) | none => true

/-- RDR_PING (R637, R638, R655). -/
def execRdrPing (amplitude : BitVec 8) (antenna : BitVec 2) (s : State) : Res :=
  .next <|
    if s.reader.stage ≠ .off ∨ ¬ pingDue s then s
    else
      let s1 := modReader (fun r => { r with last := amplitude, pingAt := some (now s) }) s
      if antenna = 1 ∨ antenna = 2 then antennaFault antenna s1
      else if s.reader.antenna ≠ 0 then modReader (fun r => { r with antenna := 0 }) s1
      else
        let b := s.reader.baseline.toNat
        let a := amplitude.toNat
        if s.reader.threshold.toNat ≤ (if b ≤ a then a - b else b - a) then
          let s2 := raise readerPage 0x0614 0 s1
          if s.audit.stalled then s2 else poll s2
        else modReader (fun r => { r with baseline := moveBaseline s.reader.baseline amplitude }) s1

/-- RDR_ANTENNA_FAULT (R638): while the field is on. -/
def execRdrAntennaFault (short : Bool) (s : State) : Res := .next (if s.reader.stage = .off then s else antennaFault (if short then 2 else 1) s)

/-- Select code of a cascade level (ISO/IEC 14443-3). -/
def selCode (level : Nat) : Byte := match level with | 0 => 0x93 | 1 => 0x95 | _ => 0x97

/-- Bytes of a list of bits, first bit least significant. -/
def packBits (l : List Bool) : Bytes :=
  (List.range (ceilDiv l.length 8)).map (fun i => BitVec.ofNat 8 (((l.drop (8 * i)).take 8).zipIdx.foldl (fun a e => a + (if e.1 then 2 ^ e.2 else 0)) 0))

/-- Identifier bits arrive (R639): at a collision the bit takes the value 1, at the end the BCC is checked and the card selected. -/
def takeBits (more : List Bool) (collision : Bool) (s : State) : State :=
  let k := s.reader.known ++ more
  if collision then
    let k1 := k ++ [true]
    let n := k1.length
    rdrSend ([selCode s.reader.level, BitVec.ofNat 8 ((2 + n / 8) * 16 + n % 8)] ++ packBits k1)
      (raise readerPage 0x0616 (leNat (packBits k1)) (modReader (fun r => { r with known := k1 }) s))
  else
    let b := packBits k
    if k.length = 40 ∧ bccOf (b.take 4) = b.getD 4 0 then
      rdrSend ([selCode s.reader.level, 0x70] ++ b) (modReader (fun r => { r with known := k, stage := .select }) s)
    else rdrProtocol s

/-- The bit rate after RATS or ATTRIB (R636): the highest both directions and RDR_CTL.max_rate allow; a PPS asks for it. -/
def raiseRate (rates : Nat) (s : State) : State :=
  let r := min rates s.reader.maxRate.toNat
  if r = 0 then s else rdrSend [0xD0, 0x11, BitVec.ofNat 8 (r + 4 * r)] s

/-- RDR_FRAME_RECEIVED (R636, R639, R651). -/
def execRdrFrameReceived (frame : RdrFrame) (s : State) : Res :=
  .next <|
    match s.reader.stage, frame with
    | .off, _ => s
    | .reqa, .atqa => rdrSend [0x93, 0x20] (modReader (fun r => { r with stage := .anticollision, known := [], level := 0 }) s)
    | .reqb, .atqb => rdrSend [0x1D] (modReader (fun r => { r with stage := .attrib }) s)
    | .reqb, .collisionB => pollB (modReader (fun r => { r with slotsB := min 16 (2 * r.slotsB) }) s)
    | .anticollision, .uid more collision => takeBits more collision s
    | .select, .sak v =>
      if bit 2 v ∧ s.reader.level < 2 then
        rdrSend [selCode (s.reader.level + 1), 0x20] (modReader (fun r => { r with stage := .anticollision, known := [], level := r.level + 1 }) s)
      else if bit 5 v then rdrSend [0xE0, 0x80] (modReader (fun r => { r with stage := .rats }) s)
      else rdrProtocol s
    | .rats, .ats rates => beginPresentation true (raiseRate rates (modReader (fun r => { r with stage := .session, card := 1 }) s))
    | .attrib, .attrib rates => beginPresentation true (raiseRate rates (modReader (fun r => { r with stage := .session, card := 2 }) s))
    | .deselect, .deselected => poll s
    | _, _ => rdrProtocol s

/-- RDR_RESPONSE_TIMEOUT (R636, R637, R639). -/
def execRdrResponseTimeout (s : State) : Res :=
  .next <|
    match s.reader.stage with
    | .off => s
    | .reqa => if s.reader.typeB then pollB s else fieldOff s
    | .reqb => fieldOff s
    | _ => rdrProtocol s

/-! ### Presentations -/

/-- CARD_RESPONSE (R635, R639, R643, R651). -/
def execCardResponse (reader : Bool) (reply : CardReply) (s : State) : Res :=
  .next <|
    match reply with
    | .apdu data sw => cardAnswers reader data sw s
    | .parityError =>
      if reader then (if s.reader.stage = .off then s else rdrProtocol s)
      else if s.contact.active then cardProtocol (modContact (fun c => { c with parity := satInc c.parity }) s)
      else s

/-- The presentation that a button answers: the one that was asked first (R651, R653). -/
def askedFirst (s : State) : Option Bool :=
  let waits := fun (p : Option Presentation) => match p with | some x => if x.step = 5 then some x.asked else none | none => none
  match waits s.ceremony.contact, waits s.ceremony.reader with
  | some a, some b => some (decide (b < a))
  | some _, none => some false
  | none, some _ => some true
  | none, none => none

/-- BTN_ACCEPT (R651). DEDUCED: log entry 41. -/
def execBtnAccept (s : State) : Res :=
  .next (let s1 := raise panelPage 0x061E 1 s; match askedFirst s1 with | some r => askCard r s1 | none => s1)

/-- BTN_REJECT (R651, R652). -/
def execBtnReject (s : State) : Res :=
  .next (let s1 := raise panelPage 0x061E 2 s; match askedFirst s1 with | some r => endPresentation r 5 s1 | none => s1)

/-- PRESENTATION_BUTTON_TIMEOUT (R651, R652): 30 s at step 5. -/
def execPresentationButtonTimeout (reader : Bool) (s : State) : Res :=
  .next <|
    match presentationAt s reader with
    | some p => if p.step = 5 ∧ p.asked + seconds 30 ≤ now s then endPresentation reader 6 s else s
    | none => s

/-- PRESENTATION_ABANDON (R651, R652): 60 s after step 1. -/
def execPresentationAbandon (reader : Bool) (s : State) : Res :=
  .next <|
    match presentationAt s reader with
    | some p => if p.begun + seconds 60 ≤ now s then endPresentation reader 7 s else s
    | none => s

/-- The presentations asked for a request whose window has ended are too late (R652). -/
def markLate (number : Nat) (s : State) : State :=
  let mark := fun (p : Option Presentation) => p.map (fun x => match x.request with | some (n, _) => if n = number then { x with late := true } else x | none => x)
  { s with ceremony := { s.ceremony with contact := mark s.ceremony.contact, reader := mark s.ceremony.reader } }

/-- CEREMONY_WINDOW_END (R650): 300 s after the request, or its pass, became ACTIVE. -/
def execCeremonyWindowEnd (s : State) : Res :=
  .next <|
    match activeRequest s with
    | some r => (match r.windowEnd with | some e => if e ≤ now s then markLate r.number (expireActive s) else s | none => s)
    | none => s

/-- A cancel written now has an effect: a request is ACTIVE (R650, R789). -/
def cancelTaken (s : State) : Nat := b2n (activeRequest s).isSome

/-- CEREMONY_CANCEL (R650, R658, R789). -/
def execCeremonyCancel (m : Master) (s : State) : Res :=
  .next (audited (panelTile * 0x1000 + 0x110) m 4 (fun _ => 0) cancelTaken cancelActive s)

/-! ### Registers -/

/-- The 32-bit word at an offset of the contact card tile page (R658). -/
def contactWord (s : State) (off : Nat) : Nat :=
  let c := s.contact
  match off with
  | 0x100 => cardCtl s
  | 0x104 =>
    c.clock.toNat * 2 ^ 16 + c.protocol.toNat * 2 ^ 10 + c.cls.toNat * 2 ^ 8 + 4 * b2n (decide (c.bar = .short)) + 2 * b2n c.active + b2n c.present
  | 0x108 => c.parity.toNat * 2 ^ 16 + c.timeouts.toNat
  | _ => 0

/-- The effect of a 32-bit write: refused values leave their field (R658). -/
def contactWriteWord (off v : Nat) (s : State) : State :=
  if off ≠ 0x100 then s
  else
    let k := bits 12 8 v
    let a := bits 6 4 v
    let s1 := if 1 ≤ k ∧ k ≤ 20 then modContact (fun c => { c with clkMax := BitVec.ofNat 5 k }) s else raise contactPage 0x0606 off s
    let s2 := if a = 0 then raise contactPage 0x0606 off s1 else modContact (fun c => { c with classAllow := BitVec.ofNat 3 a }) s1
    if bit 0 v then retryCard s2 else s2

def contactAudited (off : Nat) : Bool := decide (off = 0x100)
def contactReadEffect (off : Nat) (s : State) : State := if off = 0x108 then modContact (fun c => { c with parity := 0, timeouts := 0 }) s else s

/-- The 32-bit word at an offset of the reader tile page (R658). -/
def readerWord (s : State) (off : Nat) : Nat :=
  let r := s.reader
  match off with
  | 0x100 => r.maxRate.toNat * 2 ^ 8 + 2 * b2n r.typeB + b2n r.typeA
  | 0x104 => r.baseline.toNat * 2 ^ 16 + r.threshold.toNat * 2 ^ 8 + r.period.toNat
  | 0x108 => r.last.toNat * 2 ^ 8 + r.card.toNat * 2 ^ 4 + 4 * b2n (decide (r.stage ≠ .off)) + r.antenna.toNat
  | _ => 0

def readerWriteWord (off v : Nat) (s : State) : State :=
  match off with
  | 0x100 => modReader (fun r => { r with maxRate := BitVec.ofNat 2 (bits 9 8 v), typeB := bit 1 v, typeA := bit 0 v }) s
  | 0x104 =>
    let t := bits 15 8 v
    let p := v % 128
    let s1 := if t = 0 then raise readerPage 0x0606 off s else modReader (fun r => { r with threshold := BitVec.ofNat 8 t }) s
    if 10 ≤ p ∧ p ≤ 100 then modReader (fun r => { r with period := BitVec.ofNat 7 p }) s1 else raise readerPage 0x0606 off s1
  | _ => s

def readerAudited (off : Nat) : Bool := decide (off = 0x100 ∨ off = 0x104)

/-- The 32-bit word at an offset of the panel I/O tile page (R658). -/
def panelWord (s : State) (off : Nat) : Nat :=
  let r := activeRequest s
  match off with
  | 0x100 => cerRootWord s
  | 0x104 =>
    let left := match r with | some x => (match x.windowEnd with | some e => ceilDiv (e - now s) 50000 | none => 0) | none => 0
    s.ceremony.queue.length * 2 ^ 27 + (match r with | some x => x.action * 2 ^ 19 + x.counted.length * 2 ^ 14 + x.m * 2 ^ 9 | none => 0) + left
  | 0x108 => (match r with | some x => x.number | none => 0) % 2 ^ 32
  | 0x10C => (match r with | some x => x.number | none => 0) / 2 ^ 32 % 2 ^ 16
  | 0x114 => s.keys.roster.length * 2 ^ 16 + s.keys.rosterM * 2 ^ 8 + b2n (decide (s.keys.roster ≠ []))
  | _ => 0

/-- The effect of a 32-bit write (R658): n and m are taken as a pair, and refused as a pair where it is out of order (DEDUCED, log entry 41). -/
def panelWriteWord (off v : Nat) (s : State) : State :=
  match off with
  | 0x100 =>
    let n := bits 20 16 v
    let m := bits 12 8 v
    let s1 := { s with ceremony := { s.ceremony with domain := BitVec.ofNat 8 (bits 31 24 v), generate := bit 0 v } }
    if 1 ≤ m ∧ m ≤ n ∧ n ≤ 16 then { s1 with ceremony := { s1.ceremony with n := BitVec.ofNat 5 n, m := BitVec.ofNat 5 m } } else raise panelPage 0x0606 off s1
  | 0x110 => if bit 0 v then cancelActive s else s
  | _ => s

def panelAudited (off : Nat) : Bool := decide (off = 0x100 ∨ off = 0x110)

end Sys2Proof.Machine
end

