-- ==== Sys2Proof/Machine/Reset.lean ====
section
/-!
DEFINITION. Sys2Proof/Machine/Reset.lean: the flushes of the power-fail sequence and of R130 (R466, R492, R747), what a conventional reset leaves
(R130, R131), and FLR, CXL Reset, hot reset and link down (R129, R131 to R134).
-/
namespace Sys2Proof.Machine
open Sys2Proof

/-! ### Flushing -/

/-- The vault journal, and the audit staging buffer with its trailer, are programmed to NAND; after a tamper response nothing sealed can be read again and
they are not (R466, R708, R709, R747). -/
def flushJournals (s : State) : State :=
  if s.keeper.record.state = .tampered then s
  else
    programStaging { s with vault := { s.vault with programmed := s.vault.journal.length } }

/-- Code flash at the power-fail sequence: a word being programmed is completed, an erase stops (R611, R747). -/
def flushFlash (s : State) : State :=
  let s1 := forAll s.flash.parts (fun e t =>
    match e.2.program with
    | some (i, w) =>
      putWord i (some w) (modPart e.1 (fun y => { y with program := none, programBlock := none, state := if y.state = .program then .idle else .suspended }) t)
    | none => t) s
  flsPowerFail s1

/-- The recorder's flush (R492, R747): tile buffers and open records are collected; privileged records, then the rest, are programmed, up to 1,800 words;
EVT_PWR_FAIL_START comes last, with PWR_IN at the start and the number of records not programmed. DEDUCED: log entry 57. -/
def flushRecorder (mv : Nat) (s : State) : State :=
  let s1 := collectAll true s
  let all := s1.recorder.queue ++ s1.recorder.openPriv.map (fun r => { r with flushed := true })
  let s2 := { s1 with recorder := { s1.recorder with openPriv := [], queue := all.filter (fun r => r.priv) ++ all.filter (fun r => !r.priv) } }
  let s3 := repeatIdx (min 1800 all.length) (fun _ t => programNext t) s2
  let s4 := raise modulePage 0x0700 (mv % 65536 + 65536 * (all.length - 1800)) { s3 with recorder := { s3.recorder with queue := [] } }
  programNext { s4 with recorder := { s4.recorder with openPriv := [], queue := s4.recorder.openPriv.map (fun r => { r with flushed := true }) } }

/-- The keeper writes a fresh state record (R715, R747). -/
def freshRecord (s : State) : State :=
  let k := s.keeper
  { s with keeper := { k with older := some k.record, record := { k.record with seq := k.record.seq + 1, seconds := k.seconds.toNat } } }

/-! ### Jobs at a reset -/

/-- The JOB records of the jobs and refusals that a reset reaches: RES_WITHDRAWN, or the own result of one already finished (R132); RES_AUDIT_STALLED has
none (R233). -/
def resetRecords (s : State) : List AuditBody :=
  (s.jobs.filter (fun e => decide (e.2.stage ≠ .finished ∨ e.2.result ≠ 0x0B01))).map (fun e => jobRecord e.2 (if e.2.stage = .finished then e.2.result else 0x0A01))
    ++ s.chans.flatMap (fun e => (e.2.refusals.filter (fun w => decide (w.result ≠ 0x0B01))).map (refusalRecord e.1))

/-- Jobs in flight that have not finished (R131). -/
def inFlight (s : State) : Nat := (s.jobs.filter (fun e => decide (e.2.stage ≠ .finished))).length

/-- A core gives up the invocations it runs and parks, and their contexts are wiped (R131, R556). -/
def dropInvocations (s : State) : State :=
  forAll (keys s.cores) (fun n t =>
    let c := coreAt t n
    if c.running.isNone ∧ c.parked.isNone then t
    else
      let t1 := wipeContext n 1 (wipeContext n 0 t)
      modCore n (fun c => { c with running := none, parked := none, overrun := none, mode := .idle, regs := startRegs0 c }) t1) s
where
  /-- The registers of a core that runs nothing: cleared, as an ended invocation leaves them. -/
  startRegs0 (c : Core) : CoreRegs := { st := { c.regs.st with ctx := 0, mode := 0 } }

/-- Jobs, buffers, channel pages and ring settings at a reset that keeps the module running (R131, R132): jobs are withdrawn and their records wait for
the next close, banks are overwritten, ring lines evicted, channel pages and audit ring settings return to their reset values. -/
def resetFunction (s : State) : State :=
  let s1 := evictAll s
  let bank := fun (key : Nat) (e : Engine) => if e.running = [] ∧ e.parked = none then e else { e with running := [], parked := none, wiping := if key / 256 ≤ 1 then e.wiping ||| heldBanks e else e.wiping }
  gateCache <| dropInvocations
    { s1 with
      jobs := []
      chans := []
      sched := { s1.sched with engines := mapTotal {} bank s1.sched.engines, ledger := s1.sched.ledger.map (fun l => { l with entries := [] }) }
      vault := { s1.vault with issues := [], reads := s1.vault.reads.map (fun r => { r with job := none }) }
      flash := { s1.flash with verified := 0 }
      audit := { s1.audit with resetJobs := s1.audit.resetJobs ++ resetRecords s, base := 0, log2 := 8, enable := false, disablePending := false, tail := 0, head := 0 }
      link := { s1.link with cacheEnable := false } }

/-- Resets are ignored once the power-fail sequence has started (R134, R748). -/
def resetIgnored (s : State) : Bool := s.power.failSeq

/-- FLR (R131 to R134): configuration space, the BARs and the MSI-X table return to their reset values. One that is absorbed into a CXL Reset or a hot reset in
progress is neither counted nor shown in HST_RESET_STAT.last (R140; DESIGN CHOICE, log entry 80). -/
def execFlr (s : State) : Res :=
  .next <|
    if resetIgnored s ∨ s.link.inReset = .cxl ∨ s.link.inReset = .hot then s
    else
      let s1 := resetFunction s
      raise phyPage 0x0113 (inFlight s)
        { s1 with msix := {}, link := { s1.link with bme := false, d3hot := false, bar0 := 0, bar2 := 0, doeError := false, inReset := .flr,
                                                     flrCount := satInc s1.link.flrCount, last := 1 } }

/-- What every CXL Reset, hot reset and link down does (R129, R131). -/
def cxlActions (kind : ResetKind) (last : BitVec 2) (event : Nat) (s : State) : State :=
  let s1 := resetFunction s
  raise phyPage event (inFlight s)
    { s1 with link := { s1.link with cacheState := 0, ideKeys := s1.link.ideKeys.filter (fun k => decide (k ≠ 1)), inReset := kind,
                                     cxlResetCount := satInc s1.link.cxlResetCount, last := last } }

/-- CXL_RESET by DVSEC (R131 to R134). -/
def execCxlReset (s : State) : Res := .next (if resetIgnored s then s else cxlActions .cxl 2 0x0114 s)

/-- The link goes down (R129, R135): no request can be made, and the coherency cache counts as empty. -/
def linkGoesDown (s : State) : State :=
  raise phyPage 0x0108 (s.link.rate.toNat + 256 * s.link.width.toNat) (dropLines { s with link := { s.link with mode := 0, width := 0, rate := 0 } })

/-- HOT_RESET_OR_LINK_DOWN (R129, R131): as a CXL Reset; IDE streams and SPDM sessions end. Once the power-fail sequence has started only the link
itself goes down (R134). -/
def execHotResetOrLinkDown (linkDown : Bool) (s : State) : Res :=
  .next <|
    let s0 := if linkDown then linkGoesDown s else s
    if resetIgnored s then s0
    else
      let s1 := cxlActions .hot 3 0x0115 s0
      { s1 with link := { s1.link with ioState := 0, selective := [], ideKeys := [], sessions := [], spdmStage := 0, spdmVersion := 0 } }

/-! ### The conventional reset -/

/-- What a conventional reset or a loss of power leaves (R130, R131): every register at its reset value, and what is held in persistent form: the chain and
the reserve, the recorder's region, the keeper's memory, the key area and its configuration records, the vault, code flash, the fold's
records, the tag's memory and the nonce prefix. An open gap's losses wait for the next restoring close (R788). DESIGN CHOICE: log entry 56. -/
def afterReset (s : State) : State :=
  let a := s.audit
  let k := s.keys
  let v := s.vault
  let f := s.flash
  { State.reset with
    out := s.out
    draws := s.draws
    pending := s.pending
    power := { State.reset.power with good := s.power.good, reverseFlag := s.power.reverseFlag, mv := s.power.mv, ma := s.power.ma }
    keeper := { s.keeper with respond := false }
    start := { State.reset.start with bootKeys := s.start.bootKeys }
    boot := { generation := s.boot.generation }
    rowFaults := keptFaults s
    sched := { State.reset.sched with epoch := f.epoch }
    audit := { State.reset.audit with
      next := a.next, chain := a.chain, undelivered := a.undelivered ++ a.fresh, held := a.held, ckpts := a.ckpts.filter (fun e => e.2.held), nextCkpt := a.nextCkpt, latest := a.latest,
      trailer := a.trailer, mediaFull := a.mediaFull, stalled := a.stalled, reserve64 := a.reserve64, gapOpen := a.gapOpen,
      lost788 := a.lost788 + a.gapLost, lost788First := if a.gapLost = 0 then a.lost788First else if a.lost788 = 0 then a.gapFirst else min a.gapFirst a.lost788First,
      lost788Last := max a.gapLast a.lost788Last }
    recorder := { State.reset.recorder with nextSeq := s.recorder.nextSeq, stored := s.recorder.stored, sector := s.recorder.sector, word := s.recorder.word }
    keys := { State.reset.keys with domain := k.domain, keys := k.keys, gens := k.gens, pins := k.pins, rebuild := k.pins, signers := k.signers, rosterM := k.rosterM, roster := k.roster,
                                        otp := k.otp, idCert := k.idCert, identityNames := k.identityNames }
    cip := { State.reset.cip with noncePrefix := s.cip.noncePrefix, nonceMark := f.mark }
    vault := { State.reset.vault with
      records := v.records, tokenIndex := v.tokenIndex, panIndex := v.panIndex, tokenOver := v.tokenOver, panOver := v.panOver, openQuarter := v.openQuarter,
      homes := v.homes, journal := v.journal, nextSeq := v.nextSeq, checkpoint := v.checkpoint, base := v.base, dirty := v.dirty, programmed := v.programmed, domains := v.domains,
      keyGen := v.keyGen, blocks := v.blocks, readOnly := v.readOnly, spareWarn := v.spareWarn, rekeyLeaf := v.rekeyLeaf }
    fold := { State.reset.fold with members := s.fold.members, changes := s.fold.changes, nextChange := s.fold.nextChange, cursors := s.fold.cursors, cosigned := s.fold.cosigned }
    flash := { State.reset.flash with
      words := f.words, parts := f.parts, sectors := f.sectors, selectors := f.selectors, inUse := f.inUse, selNext := f.selNext, cntSeq := f.cntSeq, cntNext := f.cntNext,
      epoch := f.epoch, mark := f.mark, floorMicrocode := f.floorMicrocode, floorBoot := f.floorBoot, floorFirmware := f.floorFirmware, ledSeq := f.ledSeq, ledNext := f.ledNext, cfgSecond := f.cfgSecond, cfgNext := f.cfgNext, cfgSeq := f.cfgSeq, cfgLive := f.cfgLive }
    stile := { s.stile with handle := 0, wtx := 0, sessions := 0 } }

/-- The records of jobs that a conventional reset withdraws go to the reserve at once (R131, R132). -/
def recordResetJobs (s : State) : State := forAll (s.audit.resetJobs ++ resetRecords s) (fun b t => (appendOrLose b t).2) s

/-- CONVENTIONAL_RESET (R130, R131, R134, R736): PERST_N is asserted with power present. Admission stops, jobs are withdrawn, the journal, the staging buffer
and the event buffers are flushed as in the power-fail sequence, and the module wipes. A power-fail sequence that has started runs to its end. -/
def execConventionalReset (s : State) : Res :=
  .next (if s.power.failSeq ∨ ¬ s.power.good then s else afterReset (freshRecord (flushRecorder s.power.mv.toNat (flushFlash (flushJournals (recordResetJobs s))))))

end Sys2Proof.Machine
end

