-- ==== Sys2Proof/Machine/Link.lean ====
section
/-!
DEFINITION. Sys2Proof/Machine/Link.lean: the host link: training, Bus Master Enable and D3hot, the coherency cache, link encryption, the DOE mailbox,
the SPDM responder, CDAT and correctable errors (R99 to R125), and the HST_ registers (R135 to R141).
-/
namespace Sys2Proof.Machine
open Sys2Proof

/-- The Host plane's page, which carries the HST_ registers. -/
def hostPage : Nat := mkPage 0 0 0 0

def modLink (f : Link → Link) (s : State) : State := { s with link := f s.link }

/-- Output that waited until memory requests may be made is written (R108, R210). -/
def sendUnsent (s : State) : State := forAll (keys s.jobs) sendOutput s

/-- Requests may be made again: output that waited is written, lines are settled, kept pushes and doorbells are acted on (R108, R111, R160); held messages go
with the next close (R790). -/
def reopen (before s : State) : State :=
  let s1 := if !mayRequest before && mayRequest s then settleAll (sendUnsent s) else s
  if !linkOpen before && linkOpen s then resumeKept s1 else s1

/-- R120 begins to hold work, with its event once for each hold, or ceases to. -/
def ideChanged (before s : State) : State :=
  if ideOk s then reopen before (modLink (fun l => { l with ideWait := false }) s)
  else if s.link.ideWait then s
  else raise phyPage 0x010F (if s.link.requireIo && decide (s.link.ioState ≠ 1) then 0 else 1) (modLink (fun l => { l with ideWait := true }) s)

/-- The coherency cache tile follows the mode and Cache_Enable (R102): it is power-gated and holds nothing while either keeps it disabled, and wakes and asks for
the windows once both allow it. -/
def cacheFollows (before s : State) : State :=
  if cacheActive s then (if cacheActive before then s else settleAll (wakeUnit cachePage s))
  else if cacheActive before then gateCache (dropLines s) else s

/-- LINK_TRAINED (R100, R101, R102): mode, width and rate; CXL mode needs alternate protocol negotiation and 8 GT/s or more. DEDUCED: log entry 60. -/
def execLinkTrained (cxl : Bool) (width rate : Nat) (eqFailed : Bool) (s : State) : Res :=
  .next <|
    if ¬ width ∈ [1, 2, 4, 8] ∨ rate = 0 ∨ 5 < rate then s
    else
      let mode : BitVec 2 := if cxl ∧ 3 ≤ rate then 1 else 2
      let t := modLink (fun l => { l with mode := mode, width := BitVec.ofNat 4 width, rate := BitVec.ofNat 3 rate }) s
      let d := rate + 256 * width
      let s1 := raise phyPage 0x0109 d t
      let s2 := if width < 8 ∨ rate < 5 then raise phyPage 0x010A d s1 else s1
      let s3 := if eqFailed then raise phyPage 0x012A rate s2 else s2
      let s4 := if mode = 2 then raise phyPage 0x012B rate s3 else s3
      cacheFollows s (reopen s s4)

/-- BUS_MASTER_ENABLE_CLEAR (R108). -/
def execBusMasterEnableClear (s : State) : Res := .next (if s.link.bme then raise phyPage 0x0128 0 (modLink (fun l => { l with bme := false }) s) else s)

/-- BUS_MASTER_ENABLE_SET (R108, R160, R790). -/
def execBusMasterEnableSet (s : State) : Res := .next (reopen s (modLink (fun l => { l with bme := true }) s))

/-- D3HOT_ENTRY (R108). -/
def execD3hotEntry (s : State) : Res := .next (if s.link.d3hot then s else raise phyPage 0x0129 0 (modLink (fun l => { l with d3hot := true }) s))

/-- D0_ENTRY (R108). -/
def execD0Entry (s : State) : Res := .next (reopen s (modLink (fun l => { l with d3hot := false }) s))

/-- CACHE_ENABLE_CHANGE (R102, R111): in CXL mode the coherency cache tile is enabled and asks for its windows; disabled, it gives up every line and is
power-gated. -/
def execCacheEnableChange (on : Bool) (s : State) : Res :=
  .next <|
    if s.link.cacheEnable = on then s
    else if on then
      cacheFollows s (raise cachePage 0x011A 1 (modLink (fun l => { l with cacheEnable := true }) s))
    else raise cachePage 0x011A 0 (cacheFollows s (modLink (fun l => { l with cacheEnable := false }) (evictAll s)))

/-! ### Link encryption -/

/-- State of a stream: 0 the CXL.io link IDE stream, 1 CXL.cache IDE, 2 to 5 the selective streams (R118, R139). -/
def ideStream (s : State) (k : Nat) : BitVec 2 := if k = 0 then s.link.ioState else if k = 1 then s.link.cacheState else mget 0 s.link.selective (k - 2)

def setStream (k : Nat) (v : BitVec 2) (s : State) : State :=
  modLink (fun l => if k = 0 then { l with ioState := v } else if k = 1 then { l with cacheState := v } else { l with selective := mset 0 l.selective (k - 2) v }) s

/-- IDE_INTEGRITY_FAIL (R119, R120): the traffic is discarded and the stream goes insecure. -/
def execIdeIntegrityFail (stream : Nat) (s : State) : Res :=
  .next (if stream < 6 ∧ ideStream s stream ≠ 0 then ideChanged s (raise phyPage 0x010E stream (setStream stream 2 s)) else s)

/-! ### The DOE mailbox -/

/-- What the mailbox serves once DOE Busy has cleared (R121). -/
def doeServe (f : State → State) (s : State) : State := if s.link.doeBusy then s else f s

/-- The protocols of the mailbox, in the order DOE discovery shows them (R121). -/
def doeProtocols : List (Nat × Nat) := [(0x0001, 0), (0x0001, 1), (0x0001, 2), (0x1E98, 2)]

/-- DOE_DISCOVERY (R121): vendor ID, type and next index; 0xFFFF past the last. PRESUMED: log entry 55. -/
def execDoeDiscovery (index : Nat) (s : State) : Res :=
  .next (doeServe (fun s =>
    emit (.doe 0x0001 0 (match doeProtocols[index]? with
      | some (v, t) => leBytes 2 v ++ leBytes 1 t ++ leBytes 1 ((index + 1) % 4)
      | none => leBytes 2 0xFFFF ++ zeros 2)) s) s)

/-- CDAT_TABLE_ACCESS (R124): the CDAT header and no structures: length 16, revision 1, its checksum, sequence 0. PRESUMED: log entry 55. -/
def execCdatTableAccess (handle : Nat) (s : State) : Res :=
  .next (doeServe (fun s =>
    emit (.doe 0x1E98 2 ([0, 0] ++ leBytes 2 0xFFFF ++ (if handle = 0 then leBytes 4 16 ++ [1, 0xEF] ++ zeros 10 else []))) s) s)

/-- DOE_UNSERVED_REQUEST (R121): discarded, and DOE Error is set. -/
def execDoeUnservedRequest (vendor type : Nat) (s : State) : Res :=
  .next (doeServe (fun s => if (vendor, type) ∈ doeProtocols then s
    else raise phyPage 0x0119 (vendor % 65536 + 65536 * type) (modLink (fun l => { l with doeError := true }) s)) s)

/-- The mailbox accepts data objects of up to 16 KiB (R121): a request with so many bytes beside its object header and SPDM header fits. PRESUMED: log entry
55. -/
def objectFits (n : Nat) : Bool := decide (8 + 4 + n ≤ 16384)

/-! ### The SPDM responder -/

/-- An SPDM ERROR response, with its event (R122, R497). -/
def spdmError (code : Nat) (s : State) : State := raise phyPage 0x0118 code (emit (.spdm "ERROR" (leBytes 1 code)) s)

/-- Serve a request: after start-up has stopped, every request but GET_VERSION is answered with ERROR Unspecified (R731); before the connection has reached the
stage the request needs, with ERROR UnexpectedRequest. -/
def spdmServe (stage : Nat) (f : State → State) (s : State) : State :=
  doeServe (fun s => if s.start.halted then spdmError 0x05 s else if s.link.spdmStage < stage then spdmError 0x04 s else f s) s

/-- The request needs SPDM 1.1 or later. -/
def spdmFrom11 (f : State → State) (s : State) : State := if s.link.spdmVersion = 0x10 then spdmError 0x07 s else f s

/-- The certificate chain of slot 0 (R122, R255): Tergil root, Naron device-model and device certificates, and the identity certificate in the states with an
identity key. -/
def certChain (s : State) : Bytes :=
  let id := if s.keys.identityNames then s.keys.idCert else []
  let n := leNat (std "certificate chain length" 2 [s.keys.otp, id])
  std "certificate chain" n [s.keys.otp, id]

/-- Serve a request that carries data: an object of more than 16 KiB is not accepted, and nothing answers it (R121; DESIGN CHOICE, log entry 80). -/
def spdmServeData (stage : Nat) (data : Bytes) (f : State → State) (s : State) : State := if objectFits data.length then spdmServe stage f s else s

/-- SPDM_GET_VERSION (R122): a new connection begins and open sessions end. PRESUMED: log entry 55. -/
def execSpdmGetVersion (s : State) : Res :=
  .next (doeServe (fun s => emit (.spdm "VERSION" [0x10, 0x11, 0x12]) (modLink (fun l => { l with spdmStage := 1, spdmVersion := 0, sessions := [] }) s)) s)

/-- SPDM_GET_CAPABILITIES (R122): versions 1.0, 1.1 and 1.2; certificates, challenges, signed measurements, encrypted sessions with key exchange, heartbeat
and key update. -/
def execSpdmGetCapabilities (version : BitVec 8) (s : State) : Res :=
  .next (spdmServe 1 (fun s =>
    if version = 0x10 ∨ version = 0x11 ∨ version = 0x12 then emit (.spdm "CAPABILITIES" (leBytes 4 25302)) (modLink (fun l => { l with spdmStage := 2, spdmVersion := version }) s)
    else spdmError 0x41 s) s)

/-- SPDM_NEGOTIATE_ALGORITHMS (R122): ECDSA P-384, SHA-384, ECDHE secp384r1 and AES-256-GCM, where the requester supports them. -/
def execSpdmNegotiateAlgorithms (supported : Bool) (s : State) : Res :=
  .next (spdmServe 2 (fun s =>
    if supported then emit (.spdm "ALGORITHMS" (leBytes 4 0x80 ++ leBytes 4 2 ++ leBytes 2 0x10 ++ leBytes 2 2)) (modLink (fun l => { l with spdmStage := 3 }) s)
    else spdmError 0x01 s) s)

/-- SPDM_GET_DIGESTS (R122): slot 0 only. -/
def execSpdmGetDigests (s : State) : Res := .next (spdmServe 3 (fun s => emit (.spdm "DIGESTS" ([1] ++ sha384 (certChain s))) s) s)

/-- SPDM_GET_CERTIFICATE (R122): a portion of the slot 0 chain, with the length that remains. -/
def execSpdmGetCertificate (slot off len : Nat) (s : State) : Res :=
  .next (spdmServe 3 (fun s =>
    let c := certChain s
    if slot ≠ 0 ∨ c.length ≤ off then spdmError 0x01 s
    else
      let p := (c.drop off).take len
      emit (.spdm "CERTIFICATE" ([0] ++ leBytes 2 p.length ++ leBytes 2 (c.length - off - p.length) ++ p)) s) s)

/-- SPDM_CHALLENGE (R122): the chain's digest, a nonce, the measurement summary and a signature by the identity key or the device key. -/
def execSpdmChallenge (slot : Nat) (nonce : Bytes) (s : State) : Res :=
  .next (spdmServeData 3 nonce (fun s =>
    if slot ≠ 0 then spdmError 0x01 s
    else
      let n := drawBytes 32 s
      let body := sha384 (certChain s) ++ n.1 ++ sha384 ((List.range 6).flatMap (fun i => measurement s (i + 1)))
      let g := nameSign (fit 32 nonce ++ body) n.2
      emit (.spdm "CHALLENGE_AUTH" (body ++ g.1)) g.2) s)

/-- A measurement block with its index (R123). -/
def measurementBlock (s : State) (i : Nat) : Bytes := let m := measurement s i; leBytes 1 i ++ leBytes 2 m.length ++ m

/-- SPDM_GET_MEASUREMENTS (R123): index 0 asks for the number of blocks, 255 for all, 1 to 6 for one; signed on request. -/
def execSpdmGetMeasurements (index : Nat) (sign : Bool) (nonce : Bytes) (s : State) : Res :=
  .next (spdmServeData 3 nonce (fun s =>
    let blocks := if index = 0 then some [] else if index = 255 then some ((List.range 6).map (fun i => i + 1)) else if index ≤ 6 then some [index] else none
    match blocks with
    | none => spdmError 0x01 s
    | some l =>
      let body := leBytes 1 (if index = 0 then 6 else l.length) ++ l.flatMap (measurementBlock s)
      if sign then
        let n := drawBytes 32 s
        let g := nameSign (fit 32 nonce ++ body ++ n.1) n.2
        emit (.spdm "MEASUREMENTS" (body ++ n.1 ++ g.1)) g.2
      else emit (.spdm "MEASUREMENTS" body) s) s)

/-- SPDM_KEY_EXCHANGE (R122): ECDHE on secp384r1; a fifth session is answered with ERROR Busy. -/
def execSpdmKeyExchange (session : Nat) (exchange : Bytes) (s : State) : Res :=
  .next (spdmServeData 3 exchange (spdmFrom11 (fun s =>
    if 4 ≤ s.link.sessions.length then spdmError 0x03 s
    else if (mfind session s.link.sessions).isSome then spdmError 0x01 s
    else
      let e := drawScalar s
      let secret := std "key agreement" 48 [leBytes 2 0x0102, e.1, exchange]
      let body := leBytes 4 session ++ pointP384 e.1
      let g := nameSign (fit 97 exchange ++ body) e.2
      emit (.spdm "KEY_EXCHANGE_RSP" (body ++ g.1)) (modLink (fun l => { l with sessions := mput session { secret := secret } l.sessions }) g.2))) s)

/-- Serve a request of a session that is in a phase; a session that is not there is answered with ERROR InvalidRequest. -/
def inSession (session : Nat) (phase : SpdmPhase) (f : SpdmSession → State → State) (s : State) : State :=
  match mfind session s.link.sessions with
  | some x => if x.phase = phase then f x s else spdmError 0x04 s
  | none => spdmError 0x01 s

/-- SPDM_FINISH (R122): the handshake's check passes and the session is open, or the session ends with ERROR DecryptError. -/
def execSpdmFinish (session : Nat) (verified : Bool) (s : State) : Res :=
  .next (spdmServe 3 (inSession session .handshake (fun x s =>
    if verified then
      raise phyPage 0x0116 session (emit (.spdm "FINISH_RSP" []) (modLink (fun l => { l with sessions := mput session { x with phase := .established } l.sessions }) s))
    else spdmError 0x06 (modLink (fun l => { l with sessions := merase session l.sessions }) s))) s)

/-- SPDM_HEARTBEAT (R122). -/
def execSpdmHeartbeat (session : Nat) (s : State) : Res := .next (spdmServe 3 (inSession session .established (fun _ s => emit (.spdm "HEARTBEAT_ACK" []) s)) s)

/-- SPDM_KEY_UPDATE (R122): the session's keys move on. -/
def execSpdmKeyUpdate (session : Nat) (s : State) : Res :=
  .next (spdmServe 3 (inSession session .established (fun x s =>
    emit (.spdm "KEY_UPDATE_ACK" []) (modLink (fun l => { l with sessions := mput session { x with secret := std "SPDM key update" 48 [x.secret] } l.sessions }) s))) s)

/-- SPDM_END_SESSION (R122). -/
def execSpdmEndSession (session : Nat) (s : State) : Res :=
  .next (spdmServe 3 (inSession session .established (fun _ s =>
    raise phyPage 0x0117 session (emit (.spdm "END_SESSION_ACK" []) (modLink (fun l => { l with sessions := merase session l.sessions }) s)))) s)

/-- SPDM_UNSUPPORTED_REQUEST (R122): ERROR UnsupportedRequest names the request. -/
def execSpdmUnsupportedRequest (code : Nat) (s : State) : Res :=
  .next (doeServe (fun s =>
    if s.start.halted then spdmError 0x05 s else raise phyPage 0x0118 0x07 (emit (.spdm "ERROR" (leBytes 1 0x07 ++ leBytes 1 code)) s)) s)

/-- IDE_KM_REQUEST (R118): keys are programmed and put to use only inside a secured session. PRESUMED: log entry 55. -/
def execIdeKmRequest (session stream : Nat) (km : IdeKm) (s : State) : Res :=
  .next (spdmServe 3 (inSession session .established (fun _ s =>
    if 6 ≤ stream then spdmError 0x01 s
    else match km with
      | .query => emit (.doe 0x0001 2 (ascii "QUERY_RESP" ++ leBytes 1 stream)) s
      | .keyProg =>
        emit (.doe 0x0001 2 (ascii "KP_ACK" ++ leBytes 1 stream)) (modLink (fun l => { l with ideKeys := if stream ∈ l.ideKeys then l.ideKeys else stream :: l.ideKeys }) s)
      | .setGo =>
        if stream ∈ s.link.ideKeys then
          ideChanged s (emit (.doe 0x0001 2 (ascii "K_GOSTOP_ACK" ++ leBytes 1 stream))
            (setStream stream 1 (modLink (fun l => { l with ideKeys := l.ideKeys.filter (fun k => decide (k ≠ stream)) }) s)))
        else spdmError 0x01 s
      | .setStop => ideChanged s (emit (.doe 0x0001 2 (ascii "K_GOSTOP_ACK" ++ leBytes 1 stream)) (setStream stream 0 s)))) s)

/-! ### Errors and registers -/

/-- CORRECTABLE_LINK_ERROR (R125): reported through AER and counted, with no effect on work. -/
def execCorrectableLinkError (status : Nat) (s : State) : Res :=
  .next (raise phyPage 0x010B status (emit (.aer true) (modLink (fun l => { l with aerCorrectable := l.aerCorrectable + 1 }) s)))

/-- Lines the coherency cache holds (R137). -/
def linesHeld (s : State) : Nat :=
  if cacheActive s then (s.chans.map (fun e => e.2.held.length)).sum else 0

/-- The 32-bit word at an offset of the Host plane's page (R135 to R141). -/
def hostWord (s : State) (off : Nat) : Nat :=
  let l := s.link
  match off with
  | 0x100 => l.mode.toNat + 2 ^ 4 * l.width.toNat + 2 ^ 8 * l.rate.toNat + 2 ^ 11 * b2n (cacheActive s)
  | 0x104 => l.depth.toNat
  | 0x108 => linesHeld s % 2 ^ 13 + 2 ^ 16 * l.snoops.toNat
  | 0x10C => b2n l.requireIo + 2 * b2n l.requireCache
  | 0x110 => l.ioState.toNat + 4 * l.cacheState.toNat + 16 * (l.selective.filter (fun e => decide (e.2 = 1))).length
  | 0x114 => l.last.toNat + 2 ^ 16 * l.cxlResetCount.toNat + 2 ^ 24 * l.flrCount.toNat
  | 0x118 => l.badAccess.toNat + 2 ^ 16 * l.poisoned.toNat
  | _ => 0

/-- A new HST_CACHE_CTL.depth applies to every window (R111, R136): lines beyond it are given up, missing ones asked for. DEDUCED: log entry 69. -/
def setDepth (d : BitVec 7) (s : State) : State := settleAll (modLink (fun l => { l with depth := d }) s)

/-- The effect of a 32-bit write in the Host plane's page (R136, R138). -/
def hostWriteWord (off v : Nat) (s : State) : State :=
  match off with
  | 0x104 => if v % 128 = 0 ∨ 64 < v % 128 then raise hostPage 0x0106 off s else setDepth (BitVec.ofNat 7 v) s
  | 0x10C => ideChanged s (modLink (fun l => { l with requireIo := bit 0 v, requireCache := bit 1 v }) s)
  | _ => s

/-- Offsets of the Host plane's page with an audited field (R136, R138). -/
def hostAudited (off : Nat) : Bool := decide (off = 0x104 ∨ off = 0x10C)

/-- What a read clears in the Host plane's page (R137, R141). -/
def hostReadEffect (off : Nat) (s : State) : State :=
  if off = 0x108 then modLink (fun l => { l with snoops := 0 }) s
  else if off = 0x118 then modLink (fun l => { l with poisoned := 0, badAccess := 0 }) s
  else s

end Sys2Proof.Machine
end

