-- ==== Sys2Proof/Machine/Power.lean ====
section
/-!
DEFINITION. Sys2Proof/Machine/Power.lean: the power stage (R734 to R752): the input and supply pressure, the switched domains, the power-fail sequence,
the holdup bank, the junction sensors and the PWR_ registers.
-/
namespace Sys2Proof.Machine
open Sys2Proof

def modPower (f : Power → Power) (s : State) : State := { s with power := f s.power }
def domainAtP (s : State) (d : Nat) : Domain := mget {} s.power.domains d

/-! ### Supply pressure -/

/-- The condition of level 1 (R737). -/
def pressure1 (p : Power) : Bool :=
  decide (p.mv.toNat < 7000) || decide (p.budget ≠ 0 ∧ p.budget.toNat * 1000000 < p.mv.toNat * p.ma.toNat) || decide (p.holdupUf.toNat < 900)

/-- The condition of level 2 (R737). -/
def pressure2 (p : Power) : Bool := decide (p.mv.toNat < 6000) || p.cond2

/-- The level whose condition holds: 3 once the power-fail sequence has started (R737). -/
def pressureOf (p : Power) : Nat := if p.failSeq then 3 else if pressure2 p then 2 else if pressure1 p then 1 else 0

/-- The level is broadcast, with its event, where it changes (R737). -/
def setLevel (n : Nat) (s : State) : State :=
  if s.power.pressure.toNat = n then s else raise modulePage 0x0709 n (modPower (fun p => { p with pressure := BitVec.ofNat 2 n, levelSince := now s }) s)

/-- Readings of the input; PWR_IN below 5.5 V raises its event as it falls there (R734). -/
def readInput (mv ma : Nat) (s : State) : State :=
  let low := decide (mv < 5500 ∧ ¬ s.power.mv.toNat < 5500)
  let s1 := modPower (fun p => { p with mv := BitVec.ofNat 16 mv, ma := BitVec.ofNat 16 ma, currentLimit := p.currentLimit && decide (18000 ≤ ma) }) s
  if low then raise modulePage 0x0701 mv s1 else s1

/-- A level rises at once (R737). -/
def raiseLevel (s : State) : State := setLevel (max s.power.pressure.toNat (pressureOf s.power)) s

/-- CURRENT_LIMIT_HOLD (R735): the limiter has held for 10 ms. -/
def execCurrentLimitHold (s : State) : Res :=
  .next (if s.power.good ∧ ¬ s.power.cond2 then raiseLevel (raise modulePage 0x0704 s.power.mv.toNat (modPower (fun p => { p with currentLimit := true, cond2 := true }) s)) else s)

/-! ### The power-fail sequence -/

/-- The power-fail sequence starts: level 3, admission stops, and every open request is lost (R650, R736, R737, R747 step 1). -/
def powerFail (s : State) : State :=
  if s.power.failSeq ∨ ¬ s.power.good then s
  else setLevel 3 (loseRequests (modPower (fun p => { p with failSeq := true, failMv := p.mv.toNat, failStep := 1 }) s))

/-- PRESSURE_RISE (R734, R736, R737): the readings meet the condition of a higher level; below 5.0 V the power-fail sequence starts. -/
def execPressureRise (mv ma : Nat) (s : State) : Res :=
  .next <|
    if s.power.good then
      let s1 := raiseLevel (readInput mv ma s)
      if mv < 5000 then powerFail s1 else s1
    else s

/-- PRESSURE_FALL (R737): the conditions above the lower level have been absent for 64 swaths, at most since the level came into force; the current limiter no
longer holds. -/
def execPressureFall (mv ma : Nat) (s : State) : Res :=
  .next <|
    if ¬ s.power.good ∨ s.power.failSeq ∨ now s < s.power.levelSince + 64 then s
    else
      let s1 := modPower (fun p => { p with cond2 := p.cond2 && p.currentLimit, overvoltage := p.overvoltage && decide (42000 < mv) }) (readInput mv ma s)
      setLevel (min s1.power.pressure.toNat (pressureOf s1.power)) s1

/-- POWER_FAIL_START (R734, R736): the input is lost or falls fast, or a rail of the root domain is out of range. -/
def execPowerFailStart (mv : Nat) (rail : Bool) (s : State) : Res :=
  .next <|
    if s.power.failSeq ∨ ¬ s.power.good then s
    else
      let s1 := readInput mv s.power.ma.toNat s
      powerFail (if rail then raise modulePage 0x0708 mv s1 else s1)

/-- OVERVOLTAGE_CLAMP (R734): above 42 V, up to 60 V, the input is clamped and operation goes on. -/
def execOvervoltageClamp (mv : Nat) (s : State) : Res :=
  .next (if s.power.good ∧ 42000 < mv ∧ ¬ s.power.overvoltage then raise modulePage 0x0702 mv (modPower (fun p => { p with overvoltage := true, mv := BitVec.ofNat 16 mv }) s) else s)

/-- OVERVOLTAGE_TIMEOUT (R734, R736): after 100 ms, or above 60 V, the input switch opens. -/
def execOvervoltageTimeout (s : State) : Res :=
  .next <|
    if ¬ s.power.good ∨ s.power.switchOpen then s
    else
      let s1 := modPower (fun p => { p with switchOpen := true }) s
      powerFail (if s.power.overvoltage then s1 else raise modulePage 0x0702 s.power.mv.toNat s1)

/-- REVERSE_INPUT (R734): the unpowered module blocks the input; a flag in the Hedge domain keeps the event for the next start-up. -/
def execReverseInput (s : State) : Res := .next (if s.power.good then s else modPower (fun p => { p with reverseFlag := true }) s)

/-- POWER_FAIL_FLUSH_DONE (R747 steps 3 to 5, R709): journal, staging buffer, recorder and code flash are flushed and the keeper writes its record. -/
def execPowerFailFlushDone (s : State) : Res :=
  .next <|
    if s.power.failSeq ∧ s.power.failStep = 2 then
      modPower (fun p => { p with failStep := 5 }) (freshRecord (flushRecorder s.power.failMv (flushFlash (flushJournals s))))
    else s

/-- RAILS_OFF (R747 step 6, R748): the rails switch off; with the input present, power good is reached again. -/
def execRailsOff (input : Bool) (s : State) : Res :=
  .next <|
    if s.power.failSeq ∧ s.power.failStep = 5 then
      modPower (fun p => { p with good := input, switchOpen := !input && s.power.switchOpen, mv := if input then p.mv else 0, ma := 0 }) (afterReset s)
    else s

/-! ### Power domains -/

/-- Idle swaths after which a unit lets its domain gate: its own threshold, or its profile's, at most 4 at pressure 1 and 2 (R74, R738, R740). -/
def gateThreshold (s : State) (p : Nat) : Nat :=
  let own := (unitAt s p).threshold.toNat
  let t := if own ≠ 0 then own else match (profileOf s p).toNat with | 0 => 16 | 1 => 64 | 2 => 64 | _ => 4
  if level s = 1 ∨ level s = 2 then min 4 t else t

/-- A reserved engine in LATENCY (R54, R74, R740). -/
def latencyReserved (s : State) (kind idx : Nat) : Bool :=
  decide (profileOf s (enginePage kind idx) = 2) && s.sched.ledger.any (fun l => l.credits.any (fun c => decide (c.kind = kind ∧ c.engine = idx)))

/-- What keeps a unit's domain on besides its threshold (R740): work, a parked operation, a ledger entry for the current or next swath, a reservation in
LATENCY; a fill of its key bay, a link, a card or a backup in use. -/
def unitBusy (s : State) (p : Nat) : Bool :=
  match engineOf p with
  | some (k, i) =>
    !unitIdle s p || latencyReserved s k i
      || s.sched.ledger.any (fun l => decide (l.swath ≤ now s + 1) && l.entries.any (fun e => decide (e.kind = k ∧ e.engine = i)))
  | none =>
    if tileF p = 15 ∧ engineF p = 2 then
      let b := if planeF p = 1 then clusterF p - 1 else 3 + clusterF p
      s.keys.fills.any (fun f => decide (f.2 = b))
    else if p = foldPage 0 ∨ p = foldPage 0 + 1 then decide ((portAt s 0).state ≠ .down)
    else if p = foldPage 1 ∨ p = foldPage 1 + 1 then decide ((portAt s 1).state ≠ .down)
    else if p = contactPage then s.contact.active
    else if p = readerPage then decide (s.reader.stage ≠ .off)
    else if p = sdcPage ∨ p = sdcPage + 1 then s.sdc.backup.isSome
    else if p = cachePage then cacheActive s
    else false

/-- A domain may gate: every unit in it is idle and has been for its threshold (R740). -/
def mayGate (s : State) (d : Nat) : Bool :=
  (domainUnits d).all (fun p => !unitBusy s p && decide ((unitAt s p).state ≠ .quiescing ∧ (unitAt s p).lastWork + gateThreshold s p ≤ now s))

/-- A domain switches off with its contents retained; its units in ON and QUIESCED enter OFF (R740, R760). -/
def gateDomain (d : Nat) (s : State) : State :=
  forAll (domainUnits d) (fun p t =>
    let u := (unitAt t p).state
    if u = .on ∨ u = .waking ∨ u = .quiesced then setUnitState p .off .write t else t)
    (modDomain d (fun x => { x with state := .gated }) s)

/-- DOMAIN_IDLE_GATE (R740). -/
def execDomainIdleGate (d : Nat) (s : State) : Res := .next (if d < 64 ∧ (domainAtP s d).state = .on ∧ mayGate s d then gateDomain d s else s)

/-- A waking domain is powered and its waking units are ON (R740, R760). -/
def wakeDomain (d : Nat) (s : State) : State :=
  forAll (domainUnits d) (fun p t => if (unitAt t p).state = .waking then setUnitState p .on .write t else t)
    (modDomain d (fun x => if x.state = .waking then { x with state := .on } else x) s)

/-- DOMAIN_WAKE_DONE (R740, R760). -/
def execDomainWakeDone (d : Nat) (s : State) : Res :=
  .next (if d < 64 ∧ ((domainAtP s d).state = .waking ∨ (domainAtP s d).state = .on) then wakeDomain d s else s)

/-- What a domain's units hold is lost when it switches off without retention (R741, R742): engines, key bays, cores, fold sessions, the card and reader
sessions and the backup in progress. -/
def loseContents (d : Nat) (s : State) : State :=
  let kinds := (domainUnits d).filterMap engineOf
  let s1 := forAll kinds (fun e t =>
    let js := jobsHeld t e.1 e.2
    let later := (t.sched.ledger.flatMap (fun l => (l.entries.filter (fun x => decide (x.kind = e.1 ∧ x.engine = e.2))).map (fun x => x.slot))).eraseDups
    let t1 := modEng e.1 e.2 (fun y => { y with running := [], parked := none, wiping := 0, written := [], saved := 0 }) (forAll js (withdrawJob 0x0505) t)
    forAll (later.filter (fun k => !js.contains k)) (marginOn e.1 e.2) t1) s
  let s2 := if 49 ≤ d ∧ d ≤ 56 then { s1 with keys := { s1.keys with bays := merase (d - 49) s1.keys.bays, fills := s1.keys.fills.filter (fun f => decide (f.2 ≠ d - 49)) } } else s1
  let s3 := if d = 60 ∨ d = 61 then forAll (List.range 8) (fun i t => { t with cores := mset {} t.cores (8 * (d - 60) + i) {} }) s2 else s2
  let s4 := if d = 62 then portsDown false s3 else s3
  let s5 := if d = 63 then
      let t := if s4.contact.active then deactivate (endWith false 7 s4) else s4
      let t1 := if t.reader.stage ≠ .off then fieldOff (endWith true 7 t) else t
      modSdc (fun c => { c with backup := none }) t1
    else s4
  if d = 48 then dropLines s5 else s5

/-- A domain latches off on a short (R741), or shuts down on its sensor (R751): its event, its units ISOLATED with cause 2, its work lost. -/
def latchDomain (d : Nat) (thermal : Bool) (detail : Nat) (s : State) : State :=
  let s1 := raise modulePage (if thermal then 0x0707 else 0x0705) detail s
  let s2 := modDomain d (fun x => { x with state := .latched, thermal := thermal, latches := if thermal then x.latches else x.latches + 1 }) s1
  forAll (domainUnits d) (isolateUnit · .fault) (loseContents d s2)

/-- DOMAIN_SHORT_LATCH (R741). -/
def execDomainShortLatch (d : Nat) (s : State) : Res :=
  .next (if d < 64 ∧ s.power.good ∧ (domainAtP s d).state ≠ .latched then latchDomain d false d s else s)

/-- A latched domain is energised again: its memories are wiped and its units leave ISOLATED cause 2 (R742, R751, R760). -/
def clearDomain (d : Nat) (s : State) : State :=
  forAll (domainUnits d) (fun p t => let u := unitAt t p; if u.state = .isolated ∧ u.cause = .fault then releaseUnit p t else t)
    (modDomain d (fun x => { x with state := .on, thermal := false }) s)

/-- A clear of the domain is not ignored: it is latched, for the third time neither, nor held off by its sensor (R742, R751). -/
def mayClear (s : State) (d : Nat) : Bool :=
  let x := domainAtP s d
  decide (x.state = .latched) && decide (x.latches < 3) && !x.thermal

/-- Bits of one word of PWR_DOMAIN_CLEAR: a domain that latched a third time stays latched, and one that its sensor holds off waits for R751 (R742). -/
def clearDomains (high : Bool) (mask : Nat) (s : State) : State :=
  repeatIdx 32 (fun i t =>
    let d := i + (if high then 32 else 0)
    if bit i mask && mayClear t d then clearDomain d t else t) s

/-- The bits of a PWR_DOMAIN_CLEAR write as the CONFIG record shows them: none where every clear is ignored (R462, R742, R789). -/
def clearTaken (high : Bool) (mask : Nat) (s : State) : Nat :=
  if (List.range 32).any (fun i => bit i mask && mayClear s (i + (if high then 32 else 0))) then (if high then 2 ^ 32 * mask else mask) else 0

/-! ### The holdup bank -/

/-- HOLDUP_TEST (R737, R746): the bank's capacitance is measured; under 750 µF or 45 V the module takes no work. -/
def execHoldupTest (uf mv : Nat) (s : State) : Res :=
  .next <|
    if ¬ s.power.good ∨ s.power.failSeq then s
    else
      let fine := decide (750 ≤ uf ∧ 45000 ≤ mv)
      let s1 := raise modulePage 0x070F uf (modPower (fun p => { p with holdupUf := BitVec.ofNat 16 uf, holdupMv := BitVec.ofNat 16 mv, holdupOk := fine }) s)
      raiseLevel (if fine then s1 else raise modulePage 0x0706 uf s1)

/-! ### Thermal -/

def sensorAt (s : State) (k : Nat) : Sensor := mget {} s.power.sensors k
def modSensor (k : Nat) (f : Sensor → Sensor) (s : State) : State := modPower (fun p => { p with sensors := mupd {} p.sensors k f }) s

/-- The plane a sensor watches: PK tiles, pairs of cipher tiles, then 4 of the Vault, Control and Host planes, 2 of the Boundary plane and 2 of the power
stage (R749). -/
def sensorPlane (k : Nat) : Option Nat :=
  if k < 16 then some 1 else if k < 32 then some 2 else if k < 36 then some 3 else if k < 40 then some 4 else if k < 44 then some 0 else if k < 46 then some 5 else none

/-- The switched domains whose units a sensor watches; none for a sensor of the root domain (R739, R749). -/
def sensorDomains (k : Nat) : List Nat :=
  if k < 16 then [k] else if k < 32 then [16 + 2 * (k - 16), 17 + 2 * (k - 16)]
  else match k with | 32 => [57] | 33 => [58] | 34 => [59] | 36 => [60] | 37 => [61] | 40 => [48] | 44 => [62] | 45 => [63] | _ => []

/-- A plane enters THERMAL: requested takes the profile in force (R75). -/
def enterThermal (plane : Nat) (s : State) : State :=
  let p := mkPage plane 0 0 0
  let u := unitAt s p
  if u.profile = 4 then modUnit p (fun u => { u with coolSwaths := 0 }) s
  else raise modulePage 0x070C plane (raise schedPage 0x012C (plane + 256 * 4) (modUnit p (fun u => { u with profile := 4, requested := u.profile, entryProfile := u.profile, coolSwaths := 0 }) s))

/-- A sensor reaches 105 °C: throttling starts, with the plane's throttle code, and the plane enters THERMAL (R750). -/
def startThrottle (k : Nat) (s : State) : State :=
  let degrees := ((sensorAt s k).temp.toInt / 2).toNat
  let s1 := raise modulePage 0x070A k (modSensor k (fun x => { x with throttled := true, cool := 0 }) s)
  let s2 := if k < 16 then raise (mkPage 1 (k / 4 + 1) 0 0) (0x021C + k / 4) degrees s1
    else if k < 32 then raise (mkPage 2 ((k - 16) / 4 + 1) 0 0) (0x0318 + (k - 16) / 4) degrees s1 else s1
  match sensorPlane k with
  | some p => enterThermal p s2
  | none => s2

/-- A sensor reaches 120 °C: its domains shut down, or the power-fail sequence starts (R751). -/
def shutDown (k : Nat) (s : State) : State :=
  let s1 := modSensor k (fun x => { x with shut := true, cold := 0 }) s
  match sensorDomains k with
  | [] => powerFail s1
  | ds => forAll (ds.filter (fun d => decide ((domainAtP s1 d).state ≠ .latched))) (fun d t => latchDomain d true k t) s1

/-- One sensor's sample, in units of 0.5 °C (R749 to R751). `odd`: it differs from its neighbours by more than 15 °C. A sensor that reaches 120 °C has reached
105 °C too. -/
def sampleSensor (k : Nat) (temp : BitVec 10) (odd : Bool) (s : State) : State :=
  let t := temp.toInt
  let old := sensorAt s k
  let s1 := modSensor k (fun x => { x with temp := temp, max := if x.seen ∧ t < x.max.toInt then x.max else temp, seen := true }) s
  if odd ∨ t < -100 ∨ 300 < t then
    let s2 := modSensor k (fun x => { x with faulty := true, cool := 0, cold := 0 }) s1
    if old.faulty then s2 else raise modulePage 0x070E k s2
  else
    let s2 := modSensor k (fun x => { x with faulty := false, cool := if x.throttled ∧ t < 200 then x.cool + 1 else 0,
                                             cold := if x.shut ∧ t < 190 then x.cold + 1 else 0 }) s1
    let s3 := if 210 ≤ t ∧ ¬ old.throttled then startThrottle k s2 else s2
    if 240 ≤ t ∧ ¬ old.shut then shutDown k s3 else s3

/-- Planes in THERMAL count the swaths in which every sensor of theirs reads below 100 °C (R75). -/
def coolPlanes (s : State) : State :=
  repeatIdx 6 (fun plane t =>
    let p := mkPage plane 0 0 0
    if (unitAt t p).profile = 4 then
      let cool := (List.range 48).all (fun k => decide (sensorPlane k ≠ some plane ∨ (sensorAt t k).temp.toInt < 200))
      modUnit p (fun u => { u with coolSwaths := if cool then u.coolSwaths + 1 else 0 }) t
    else t) s

/-- THERMAL_SAMPLE (R749 to R751): once per swath the 48 junction sensors are read. DEDUCED: log entry 58. -/
def execThermalSample (temps : List (BitVec 10)) (odd : List Nat) (s : State) : Res :=
  .next <|
    if ¬ s.power.good then s
    else coolPlanes (repeatIdx 48 (fun k t => match temps[k]? with | some v => sampleSensor k v (odd.contains k) t | none => t) s)

/-- THROTTLE_END (R750): a throttling sensor has stayed below 100 °C for 64 swaths. -/
def execThrottleEnd (sensor : Nat) (s : State) : Res :=
  .next <|
    let x := sensorAt s sensor
    if sensor < 48 ∧ x.throttled ∧ 64 ≤ x.cool then
      raise modulePage 0x070B sensor (modSensor sensor (fun x => { x with throttled := false, cool := 0 }) s)
    else s

/-- THERMAL_PROFILE_EXIT (R75): the profile in requested applies. -/
def execThermalProfileExit (plane : Nat) (s : State) : Res :=
  .next <|
    let p := mkPage plane 0 0 0
    let u := unitAt s p
    if plane < 6 ∧ u.profile = 4 ∧ 4096 ≤ u.coolSwaths then
      raise modulePage 0x070D plane (raise schedPage 0x012C (plane + 256 * u.requested.toNat) (modUnit p (fun u => { u with profile := u.requested, coolSwaths := 0 }) s))
    else s

/-- The sensor that shut a domain down. -/
def domainSensor (d : Nat) : Option Nat := (List.range 48).find? (fun k => (sensorDomains k).contains d)

/-- THERMAL_SHUTDOWN_RECOVER (R751): the domain's sensor has stayed below 95 °C for 4,096 swaths; a domain whose switch has latched a third time stays off. -/
def execThermalShutdownRecover (d : Nat) (s : State) : Res :=
  .next <|
    match domainSensor d with
    | none => s
    | some k =>
      let x := domainAtP s d
      if x.state = .latched ∧ x.thermal ∧ 4096 ≤ (sensorAt s k).cold then
        let s1 := clearDomain d s
        if (sensorDomains k).any (fun e => (domainAtP s1 e).thermal) then s1
        else modSensor k (fun y => { y with shut := false, cold := 0 }) s1
      else s

/-! ### Registers -/

/-- The hottest sensor, the lowest number where several tie (R752). -/
def hottest (s : State) : Nat := (List.range 48).foldl (fun b k => if (sensorAt s b).temp.toInt < (sensorAt s k).temp.toInt then k else b) 0

/-- One bit for each domain of half of a 64-bit register. -/
def domainBits (s : State) (high : Bool) (f : Domain → Bool) : Nat :=
  ((List.range 32).map (fun i => if f (domainAtP s (i + (if high then 32 else 0))) then 2 ^ i else 0)).sum

/-- The 32-bit word at an offset of the PWR_ registers (R752). -/
def pwrWord (s : State) (off : Nat) : Nat :=
  let p := s.power
  let powered := fun (x : Domain) => decide (x.state = .on ∨ x.state = .waking)
  match off with
  | 0x300 => p.pressure.toNat + 4 * b2n p.failSeq + 8 * b2n p.currentLimit + 16 * b2n p.overvoltage + 32 * b2n p.holdupOk
  | 0x304 => p.mv.toNat + 2 ^ 16 * p.ma.toNat
  | 0x308 => p.energy.toNat % 2 ^ 32
  | 0x30C => p.energy.toNat / 2 ^ 32
  | 0x310 => p.holdupUf.toNat + 2 ^ 16 * p.holdupMv.toNat
  | 0x314 => domainBits s false powered
  | 0x318 => domainBits s true powered
  | 0x31C => domainBits s false (fun x => decide (x.state = .latched))
  | 0x320 => domainBits s true (fun x => decide (x.state = .latched))
  | 0x32C => p.budget.toNat
  | 0x330 => p.sel.toNat
  | 0x334 =>
    let x := sensorAt s p.sel.toNat
    x.temp.toNat + 2 ^ 16 * x.max.toNat + 2 ^ 30 * (if x.faulty then 3 else if x.shut then 2 else if x.throttled then 1 else 0)
  | 0x338 => let k := hottest s; (sensorAt s k).temp.toNat + 2 ^ 10 * k
  | _ => 0

/-- The effect of a 32-bit write in the PWR_ registers (R742, R752). PWR_THERM_SEL.sensor names a sensor, 0 to 47: a write of 48 to 63, which the
spec does not speak of, is ignored (DESIGN CHOICE, log entry 80). -/
def pwrWriteWord (off v : Nat) (s : State) : State :=
  match off with
  | 0x324 => clearDomains false v s
  | 0x328 => clearDomains true v s
  | 0x32C =>
    let w := v % 256
    if (1 ≤ w ∧ w ≤ 24) ∨ 120 < w then raise modulePage 0x0106 off s else modPower (fun p => { p with budget := BitVec.ofNat 8 w }) s
  | 0x330 => if v % 64 < 48 then modPower (fun p => { p with sel := BitVec.ofNat 6 v }) s else s
  | _ => s

/-- Offsets of the PWR_ registers with an audited field (R752). -/
def pwrAudited (off : Nat) : Bool := decide (off = 0x324 ∨ off = 0x328 ∨ off = 0x32C)

/-- What a read clears: PWR_THERM.max (R752). -/
def pwrReadEffect (off : Nat) (s : State) : State :=
  if off = 0x334 then modSensor s.power.sel.toNat (fun x => { x with max := 0, seen := false }) s else s

/-- PWR_DOMAIN_CLEAR (R742, R752). -/
def execPwrDomainClear (m : Master) (high : Bool) (mask : BitVec 32) (s : State) : Res :=
  .next (audited (modulePage * 0x1000 + 0x324) m 4 (fun _ => 0) (clearTaken high mask.toNat) (pwrWriteWord (if high then 0x328 else 0x324) mask.toNat) s)

end Sys2Proof.Machine
end

