-- ==== Sys2Proof/Machine/StartUp.lean ====
section
/-!
DEFINITION. Sys2Proof/Machine/StartUp.lean: start-up from power good to ready (R710, R713, R727 to R732), with the boot bank, the microcode image (R333 to
R336, R619, R620), the DRAM wipe (R729), the START record (R465, R719) and the module page's fields (R768).
-/
namespace Sys2Proof.Machine
open Sys2Proof

def modStart (f : StartUp → StartUp) (s : State) : State := { s with start := f s.start }

/-- The step shown never goes back within a start-up. -/
def atStep (n : Nat) (s : State) : State := modStart (fun x => { x with step := BitVec.ofNat 8 (max x.step.toNat n) }) s

/-- POWER_GOOD (R727, R772). -/
def execPowerGood (s : State) : Res := .next (if s.power.good then s else modPower (fun p => { p with good := true, switchOpen := false }) s)

/-- The key check fails: the keeper lost all supply at once (R713, R721). A DECOMMISSIONED module stays so. -/
def keyCheckFails (s : State) : State :=
  let s0 := loseSecrets s
  let s1 := logTamper 0x06 2 0 true { s0 with keeper := { s0.keeper with key := false } }
  if s.keeper.record.state = .decommissioned then s1
  else writeRecord .tampered false 0x06 0 (destroyStileKey (emit (.pin "HEDGE_ALARM_N" false) { s1 with keeper := { s1.keeper with alarm := true, tampered := true } }))

/-- The keeper's noise source gives the per-boot mask key, whose generation number counts on, and the two halves of the DRAM key (R19, R20, R28, R727 step 1). -/
def drawBootKeys (s : State) : State :=
  let mask := drawBytes 32 s
  let dram := drawBytes 64 mask.2
  { dram.2 with boot := { mask := mask.1, generation := s.boot.generation + 1, dram := dram.1 } }

/-- PERST_RELEASE (R20, R28, R528, R713, R727, R734): start-up begins at step 1 with the keeper's report: its record, the key check and four values from its
noise source. At step 2 the module takes its name (R256). -/
def execPerstRelease (keyOk : Bool) (s : State) : Res :=
  .next <|
    if ¬ s.power.good ∨ s.power.failSeq ∨ s.start.begun then s
    else
      let n := s.start.bootKeys + 1
      let s1 := modCore 16 (fun c => { c with sealKey := n }) (modLink (fun l => { l with doeBusy := true }) (modStart (fun x => { x with begun := true, step := 1, bootKeys := n }) (drawBootKeys (flsPowerUp s))))
      let s2 := if s1.power.reverseFlag then raise modulePage 0x0703 0 (modPower (fun p => { p with reverseFlag := false }) s1) else s1
      takeName (if s2.keeper.key ∧ ¬ keyOk then keyCheckFails s2 else s2)

/-! ### Boot bank and firmware -/

/-- Units of the root domain are brought to ON (R739, R760). -/
def rootUnitsOn (s : State) : State :=
  forAll ((leaves modulePage).filter (fun p => decide (domainOf p = 0xFE))) (fun p t => if (unitAt t p).state = .off then setUnitState p .on .write t else t) s

/-- The selector words are tried from the latest down (R619): the first whose images pass, at or above their floors, is taken; each that fails raises its
event. DEDUCED: log entry 59. -/
def tryBoot : List (Selector × BootTry) → Bool → State → State
  | [], _, s => modLink (fun l => { l with doeBusy := false }) (modCore 16 (fun c => { c with halted := true }) (modStart (fun x => { x with halted := true, step := 3 }) s))
  | (x, r) :: rest, fell, s =>
    match r with
    | .failed firmware => tryBoot rest true (raise bootPage 0x0517 (b2n (if firmware then x.firmware else x.boot)) s)
    | .passed b w =>
      let holds := fun (target : Nat) (second : Bool) (v : BitVec 8) => slotAgrees s target (slotBase target second) (fun h => decide (byteAt 8 h = v.toNat))
      if ¬ holds 0 x.boot b ∨ b < s.flash.floorBoot then tryBoot rest true (raise bootPage 0x0517 (b2n x.boot) s)
      else if ¬ holds 1 x.firmware w ∨ w < s.flash.floorFirmware then tryBoot rest true (raise bootPage 0x0517 (b2n x.firmware) s)
      else
        rootUnitsOn (atStep 4 (modLink (fun l => { l with doeBusy := false }) (modStart (fun y => { y with bootOk := true, fallback := fell })
          (modFlash (fun f => { f with inUse := x, bootVersion := b, firmwareVersion := w }) s))))

/-- BOOT_VERIFY_DONE (R121, R619, R731). -/
def execBootVerifyDone (tries : List BootTry) (s : State) : Res :=
  .next (if s.start.begun ∧ ¬ s.start.bootOk ∧ ¬ s.start.halted then tryBoot (s.flash.selectors.zip tries) false s else s)

/-! ### Microcode -/

/-- The Signing plane's page. -/
def sigPage : Nat := mkPage 1 0 0 0

/-- PK engines and digest units are brought to ON; those that fail their known-answer tests enter FAILED (R335). -/
def testUnits (kind count : Nat) (event : Nat) (failing : List Nat) (s : State) : State :=
  repeatIdx count (fun i t =>
    let p := enginePage kind i
    if i ∈ failing then raise p event i (failUnit p t)
    else if (unitAt t p).state = .off then setUnitState p .on .write t else t) s

/-- UCODE_LOAD_DONE (R334 to R336): an image below the floor is refused; one accepted is loaded into every store and each unit runs its tests. DEDUCED: log entry 59. -/
def execUcodeLoadDone (load : UcodeLoad) (s : State) : Res :=
  .next <|
    if ¬ s.start.bootOk ∨ s.start.service ∨ s.sig.verified then s
    else
      let refuse := fun (check : Nat) => testUnits 0 64 0 [] (testUnits 2 16 0 [] (raise sigPage 0x020D check (atStep 5 s)))
      match load with
      | .refused check => refuse check
      | .loaded version security algs engines digests =>
        let base := slotBase 2 s.flash.inUse.microcode
        if ¬ slotAgrees s 2 base (fun h => decide (leAt 6 2 h = version.toNat ∧ byteAt 8 h = security.toNat ∧ leAt 10 2 h = algs.toNat)) then refuse (max 1 (imageCheck s 2 base))
        else if security < s.flash.floorMicrocode then refuse 4
        else
          let s1 := atStep 5 { s with sig := { s.sig with verified := true, imageVersion := version, securityVersion := security, algs := algs } }
          testUnits 0 64 0x020E engines (testUnits 2 16 0x0213 digests (raise sigPage 0x020C version.toNat s1))

/-! ### DRAM and service start -/

/-- Step 10 begins once region 4 is wiped and the replay is to run (R727, R729). -/
def replayStep (s : State) : State := if s.vault.replaying ∧ 4 ≤ s.start.dramWiped then atStep 10 s else s

/-- DRAM_WIPE_REGION_DONE (R729): the four regions in order. -/
def execDramWipeRegionDone (s : State) : Res :=
  .next (if s.start.bootOk ∧ s.start.dramWiped < 4 then replayStep (atStep 6 (modStart (fun x => { x with dramWiped := x.dramWiped + 1 }) s)) else s)

/-- Step 10 is skipped (R730). -/
def noReplay (s : State) : Bool := noRootKey s || decide (s.keeper.record.state = .factory ∨ s.keeper.record.state = .transit)

/-- SCH_EPOCH and the nonce mark are programmed in one counters word (R38, R392, R616). -/
def bootCounters (s : State) : State :=
  let mark := s.flash.mark + BitVec.ofNat 64 (2 ^ 32)
  let s1 := appendCounters (modFlash (fun f => { f with epoch := f.epoch + 1, mark := mark }) s)
  { s1 with sched := { s1.sched with epoch := s1.flash.epoch }, cip := { s1.cip with nonceMark := mark, nonceNext := mark, markPending := none, holders := [] } }

/-- The START record (R465, R719): the chain goes on from the trailer, or a new one begins whose numbering continues. DEDUCED: log entry 59. -/
def startRecord (trailerOk : Bool) (s : State) : State :=
  let broken := !hasIdentity s.keeper.record.state || !(s.audit.trailer && trailerOk)
  let found := ((s.audit.held ++ s.audit.undelivered).map (fun r => r.seq)).foldl max 0
  let s1 := if broken then { s with audit := { s.audit with chain := chainStart s, next := found + 1, chainBreak := true } } else s
  let s2 := if broken then raise auditPage 0x051F (undeliveredCount s1) s1 else s1
  appendReserved (.start s.sched.epoch.toNat broken (measurement s 3)) { s2 with audit := { s2.audit with trailer := false } }

/-- R710: a TAMPER_RESPONSE record for each sensor's entry of the unpowered module that has none yet, oldest first. -/
def unpoweredTampers (s : State) : State :=
  forAll ((s.keeper.log.filter (fun r => decide (s.keeper.recorded < r.seq ∧ 1 ≤ r.cause ∧ r.cause ≤ 8) && !r.powered)).reverse) tamperRecord s

/-- Every unit that start-up has not put out of service is brought to ON, and the switched domains are powered; the coherency cache tile only where it is
active (R102, R760). -/
def unitsOn (s : State) : State :=
  let s1 := repeatIdx 64 (fun d t => modDomain d (fun x => if x.state = .gated ∨ x.state = .waking then { x with state := .on } else x) t) s
  let s2 := forAll (leaves modulePage) (fun p t =>
    modUnit p (fun u => { u with lastWork := now s }) (if (unitAt t p).state = .off ∨ (unitAt t p).state = .waking then setUnitState p .on .write t else t)) s1
  if cacheActive s then s2 else gateCache s2

/-- Module firmware lets the mover of the jobs reach the operand buffers in user context: region 15 of its gate covers them, readable and writable (R592, R599; DESIGN
CHOICE, log entry 82). -/
def openBuffers (s : State) : State :=
  let region := 2 ^ 63 + 2 ^ 59 + 2 ^ 56 + 2 ^ 55 + (16384 - 1) * 2 ^ 28 + operandAddr 0 / 4096
  modGate jobMover (fun g => { g with regions := mset 0 g.regions 15 (BitVec.ofNat 64 region) }) s

/-- SERVICE_START (R38, R251, R392, R465, R528, R710, R727 steps 8 and 9, R728, R729): once regions 1 and 2 are wiped. An erasure that was pending goes on
(R722, R732). -/
def execServiceStart (trailerOk : Bool) (s : State) : Res :=
  .next <|
    if ¬ s.start.bootOk ∨ s.start.service ∨ s.start.dramWiped < 2 then s
    else
      let s1 := unpoweredTampers (startRecord trailerOk (bootCounters (openBuffers (formRoot s))))
      let s2 := repeatIdx 16 (fun n t => modCore n (fun c => { c with sealKey := t.start.bootKeys }) t) s1
      let s3 := unitsOn { s2 with vault := { s2.vault with replaying := !noReplay s2 } }
      fillLedger (replayStep (atStep 9 (modStart (fun x => { x with service := true, erasing := s.keeper.record.pending }) s3)))

/-- MODULE_READY (R250, R620, R664, R727 step 11, R730): after the replay, or after the DRAM wipe where nothing is replayed. -/
def execModuleReady (ms : Nat) (s : State) : Res :=
  .next <|
    if ¬ s.start.service ∨ s.start.ready ∨ s.start.dramWiped < 4 ∨ (¬ noReplay s ∧ ¬ s.vault.ready) then s
    else
      let s1 := modStart (fun x => { x with ready := true, readyMs := BitVec.ofNat 32 ms }) (atStep 11 s)
      schWriteWord 0x150 (2 ^ 3) (refreshStatement (raiseFloors s1))

/-! ### The module page -/

/-- Units without children in a state (R768). -/
def unitsIn (s : State) (st : UState) : Nat := ((leaves modulePage).filter (fun p => decide ((unitAt s p).state = st))).length

/-- The 32-bit word at an offset of the module page's own fields (R768). -/
def modWord (s : State) (off : Nat) : Nat :=
  let x := s.start
  match off with
  | 0x100 =>
    b2n x.ready + 2 * b2n x.service + 4 * b2n (rngRunning s) + 8 * b2n s.sig.verified + 16 * b2n (decide (0 < unitsIn s .failed + unitsIn s .isolated))
      + 32 * b2n x.fallback + 64 * b2n x.halted + 2 ^ 8 * x.step.toNat + 2 ^ 24 * lifeCode s.keeper.record.state
  | 0x108 => deviceSerial s % 2 ^ 32
  | 0x10C => deviceSerial s / 2 ^ 32
  | 0x110 => x.energy.toNat % 2 ^ 32
  | 0x114 => x.energy.toNat / 2 ^ 32
  | 0x118 => x.readyMs.toNat
  | 0x11C => unitsIn s .failed + 2 ^ 16 * unitsIn s .isolated
  | _ => 0

end Sys2Proof.Machine
end

