-- ==== Sys2Proof/Machine/Close.lean ====
section
/-!
DEFINITION. Sys2Proof/Machine/Close.lean: the first clock of a swath (R37, R39, R61, R330, R378, R391) and its close phase (R39, R45, R71, R171, R176,
R177, R463, R515, R556, R708, R737, R743, R747, R756, R766).
-/
namespace Sys2Proof.Machine
open Sys2Proof

/-- The Cipher plane's page. -/
def cipherPage : Nat := mkPage 2 0 0 0

/-! ### The first clock of a swath -/

/-- A plane runs at 1.375 GHz in THROUGHPUT while its boost_allow is 1 (R330, R378). -/
def setClocks (s : State) : State :=
  let pk : Bool := decide ((unitAt s sigPage).profile = 1) && s.sig.boostAllow
  let ci : Bool := decide ((unitAt s cipherPage).profile = 1) && s.cip.boostAllow
  let s1 := if pk = s.sig.boosted then s else raise sigPage 0x0210 (b2n pk) { s with sig := { s.sig with boosted := pk } }
  if ci = s1.cip.boosted then s1 else raise cipherPage 0x0308 (b2n ci) { s1 with cip := { s1.cip with boosted := ci } }

/-- The new nonce mark is programmed and read back (R391, R616). -/
def completeMark (s : State) : State :=
  match s.cip.markPending with
  | none => s
  | some m => appendCounters (modFlash (fun f => { f with mark := m }) { s with cip := { s.cip with nonceMark := m, markPending := none } })

/-- Ledger entries of the swath that begins. -/
def entriesNext (s : State) : List LedgerEntry :=
  match s.sched.ledger.find? (fun l => decide (l.swath = now s + 1)) with
  | some l => l.entries
  | none => []

/-- What the first clock of a swath does besides binding work. -/
def beginSwath (s : State) : State := foldAdmit (reseedOwed (completeMark (fillQueue (setClocks (nextSwath s)))))

/-- SWATH_START (R37, R39, R61): the swath counter increments and the admit phase binds work. It follows the close of the swath before. DESIGN CHOICE: log entry 10. -/
def execSwathStart (s : State) : Res :=
  .next (if s.power.good ∧ s.sched.phase = .close then admitPhase (beginSwath s) (entriesNext s) else s)

/-! ### What the close ends -/

/-- End every unfinished job that `f` gives a result; its operands are wiped (R71, R132, R143, R214, R708, R747). -/
def endJobs (f : Job → Option Nat) (s : State) : State :=
  forAll (keys s.jobs) (fun slot t =>
    match jobAt t slot with
    | some j => (match f j with | some r => endWithdrawn slot r t | none => t)
    | none => t) s

/-- The result a close gives a job in flight: a tamper response, the power-fail sequence, then a withdrawal. -/
def closeResult (s : State) (j : Job) : Option Nat :=
  if s.keeper.respond then some 0x0A01 else if s.power.failSeq ∧ s.power.failStep = 1 then some 0x0A02 else j.withdraw

/-- Class 0 jobs whose mirror acknowledgement has not come by the close of swath f + 1 (R435). -/
def lateMirrors (s : State) : State :=
  forAll (keys s.jobs) (fun slot t =>
    match jobAt t slot with
    | some j => (match j.first, j.mirrorWait with | some f, some _ => if f + 1 ≤ now t then mirrorLate slot t else t | _, _ => t)
    | none => t) s

/-- Contexts of invocations whose jobs are gone are overwritten, and an overrun of theirs goes with them (R556). -/
def sweepInvocations (s : State) : State :=
  forAll (keys s.cores) (fun n t =>
    let c := coreAt t n
    let gone : Invocation → Bool := fun i => match jobAt t i.slot with | some j => decide (j.stage = .finished) | none => true
    let t1 := match c.running with
      | some i => if gone i then modCore n (fun c => { c with running := none, mode := .idle, overrun := none }) (wipeContext n c.regs.st.ctx.toNat t) else t
      | none => t
    match c.parked with
    | some (i, _) => if gone i then modCore n (fun c => { c with parked := none }) (wipeContext n 1 t1) else t1
    | none => t1) s

/-- Quiescing units whose last work has ended (R760, R762). -/
def settleUnits (s : State) : State := forAll (keys s.units) settleUnit s

/-- UNIT_LOAD of the swath that ends (R756). DEDUCED: log entry 32. -/
def closeLoad (s : State) : State :=
  let s1 := { s with units := mapTotal {} (fun _ (u : UnitRec) => { u with busy := 0, loadClass0 := 0 }) s.units }
  let s2 := forAll s.sched.engines (fun e t =>
    modUnit (enginePage (e.1 / 256) (e.1 % 256)) (fun u => { u with busy := BitVec.ofNat 16 e.2.load, loadClass0 := BitVec.ofNat 16 e.2.load0 }) t) s1
  { s2 with sched := { s2.sched with engines := mapTotal {} (fun _ (e : Engine) => { e with load := 0, load0 := 0 }) s2.sched.engines } }

/-! ### What the close posts -/

/-- JOB records of jobs that a reset withdrew (R131, R132). -/
def closeResetJobs (s : State) : State :=
  forAll s.audit.resetJobs (fun b t => (appendOrLose b t).2) { s with audit := { s.audit with resetJobs := [] } }

/-- Every channel's windrow, while posting is open (R70, R108, R120, R171). -/
def closeWindrows (s : State) : State := if linkOpen s then repeatIdx 64 windrow s else s

/-- CHN_ALERT bits whose cause persists: halted and slot_limit (R178, R200). DEDUCED: log entry 60. -/
def closeAlert (n : Nat) (s : State) : State :=
  let c := chanAt s n
  let s1 := if c.state = .halted then alert n 0 s else s
  let h := heldSlots s n
  if c.slotLimit.toNat ≤ h ∧ unposted s n = h ∧ ¬ c.alert.getLsbD 2 then raiseChan n 0x011E h (alert n 2 s1) else s1

/-- The completion message of a channel (R176). -/
def closeMessage (n : Nat) (s : State) : State :=
  let c := chanAt s n
  let due := decide (c.minCount.toNat ≤ c.posted ∧ 0 < c.posted) || (c.class0Now && c.postedClass0) || decide (0 < c.posted ∧ c.postedFirst + c.maxWait.toNat ≤ now s)
  if c.irqEnable && due then sendMsg n (modChan n (fun c => { c with posted := 0, postedClass0 := false, postedFirst := 0 }) s) else s

/-- The alert message of a channel (R177). A bit that rose and was cleared again before the close still counts, and the mask is the one of the close (DESIGN CHOICE, log
entry 80). -/
def closeAlertMessage (n : Nat) (s : State) : State :=
  let c := chanAt s n
  let s1 := modChan n (fun c => { c with alertRose := 0 }) s
  if c.alertRose &&& ~~~ c.alertMask = 0 then s1 else sendMsg (64 + n) s1

/-- The event vectors that fell due in this swath (R766). -/
def closeVectors (s : State) : State := forAll s.msix.due sendMsg { s with msix := { s.msix with due := [] } }

/-- Mask reseeds missed since the last close (R380). -/
def closeMissed (s : State) : State :=
  if s.cip.missedNow = 0 then s else raise cipherPage 0x0309 s.cip.missedNow { s with cip := { s.cip with missedNow := 0 } }

/-- Step 2 of the power-fail sequence: every switched domain gates (R747). -/
def closePowerFail (s : State) : State :=
  if s.power.failSeq ∧ s.power.failStep = 1 then modPower (fun p => { p with failStep := 2 }) 
    (repeatIdx 64 (fun d t => if (domainAtP t d).state = .on ∨ (domainAtP t d).state = .waking then gateDomain d t else t) s) else s

/-- The energy of the swath: of each unit without children, in µJ, and at PWR_IN (R10, R743, R768). -/
def closeEnergy (energies : List (Nat × Nat)) (inputUj : Nat) (s : State) : State :=
  let s1 := forAll (energies.filter (fun e => decide (e.1 ∈ leaves modulePage))) (fun e t => modUnit e.1 (fun u => { u with energy := u.energy + BitVec.ofNat 64 e.2 }) t) s
  let s2 := modPower (fun p => { p with energy := p.energy + BitVec.ofNat 64 inputUj }) s1
  { s2 with start := { s2.start with energy := energyOf s2 modulePage } }

/-- Work ends: jobs that this close ends are withdrawn from their engines, and the engines park. -/
def closeWork (s : State) : State :=
  let s1 := endJobs (closeResult s) { s with sched := { s.sched with phase := .close, clock := 24000 } }
  settleUnits (sweepInvocations (lateMirrors (endWaiting (closeEngines s1))))

/-- The windrow of the swath (R39, R171, R185, R186, R463, R472, R788): reserve records first, a GAP record before any other, then the completions with their
records. -/
def closeEntries (s : State) : State :=
  let before := decide (s.audit.undelivered ≠ [])
  endDelivery before (deliverFresh (closeWindrows (closeResetJobs (auditRecover (deliverOld s)))))

/-- The messages of a swath, after its windrow and at most one for each vector (R115, R176, R177, R766, R790). -/
def closeMessages (s : State) : State := sendHeld (closeVectors (repeatIdx 64 closeAlertMessage (repeatIdx 64 closeMessage s)))

/-- What the close posts (R39, R115, R176, R177, R766). -/
def closePost (s : State) : State := closeMessages (auditFull (repeatIdx 64 closeAlert (repeatIdx 64 tryQuiesce (closeEntries s))))

/-- What follows the windrow: activities, the tamper response and the power-fail sequence. -/
def closeAfter (s : State) : State :=
  let s1 := closeMissed (startActivities (forceStops s))
  let s2 := closePowerFail (tamperClose s1)
  pruneTenants { s2 with
    link := { s2.link with inReset := .none }
    vault := { s2.vault with
      issues := s2.vault.issues.filter (fun e => (jobAt s2 e.1).isSome)
      named := s2.vault.named.filter (fun e => (jobAt s2 e.2).isSome)
      landed := s2.vault.landed.filter (fun r => match r.job with
        | some (k, i) => (match jobAt s2 k with | some j => decide ((stepAt j i).stage ≠ .ended) | none => false)
        | none => false) } }

/-- CLOSE_PHASE (R39): engines park, the swath's windrow is posted, and what the spec ties to a close happens. It comes once in a swath. DESIGN CHOICE: log entry 10. -/
def execClosePhase (energies : List (Nat × Nat)) (inputUj : Nat) (s : State) : Res :=
  .next (if s.power.good ∧ s.sched.phase ≠ .close then closeEnergy energies inputUj (closeAfter (closePost (closeLoad (closeWork s)))) else s)

end Sys2Proof.Machine
end

