-- ==== Sys2Proof/Machine/ConfigSpace.lean ====
section
/-!
DEFINITION. Sys2Proof/Machine/ConfigSpace.lean: the function's configuration space: what it advertises (R99, R104), its identifiers (R103), its BARs (R105,
R131) and the answer to a configuration request (R133). No command reads it; the fields that commands change stand in State.link and State.msix.
-/
namespace Sys2Proof.Machine
open Sys2Proof

/-! ### What the function supports -/

/-- The parts of CXL 2.0 and PCIe 5.0 that R99 lists. -/
inductive Feature where
  | cxlIo | cxlCacheType1 | cxlMem | multiLogicalDevice | behindSwitch | pcie5Endpoint | ratesAndWidths | laneReversal | aspmL1 | aspmL0s | d0D3hot | d1D2D3cold
  | msix | msiIntx | atsPasidPriSriovAcs | ide | doeCmaCdat
deriving DecidableEq, Repr

/-- The supported parts; the module implements and advertises none of the others (R99). -/
def supported : Feature → Bool
  | .cxlMem | .multiLogicalDevice | .aspmL0s | .d1D2D3cold | .msiIntx | .atsPasidPriSriovAcs => false
  | .cxlIo | .cxlCacheType1 | .behindSwitch | .pcie5Endpoint | .ratesAndWidths | .laneReversal | .aspmL1 | .d0D3hot | .msix | .ide | .doeCmaCdat => true

/-- Link widths, and rates as HST_LINK_STAT codes them, that the module trains to (R99, R100, R135). -/
def linkWidths : List Nat := [1, 2, 4, 8]
def linkRates : List Nat := [1, 2, 3, 4, 5]

/-! ### Capabilities -/

/-- A capability of the function with its content (R104). -/
inductive Capability where
  | powerManagement (d3hot noSoftReset : Bool)
  | pciExpress (endpoint flrCapable : Bool)
  | msix (vectors tableBir tableOffset pbaBir pbaOffset : Nat) (enable functionMask : Bool)
  | advancedErrorReporting (correctable uncorrectable : Nat)
  | deviceSerialNumber (serial : Nat)
  | dataLinkFeature (scaledFlowControl : Bool)
  | physicalLayer16 | physicalLayer32 | laneMargining
  | cxlDevice (cacheCapable ioCapable memCapable : Bool) (hdmCount : Nat) (cxlResetCapable : Bool) (cxlResetTimeoutMs : Nat) (writebackCapable cacheEnable : Bool)
  | flexBusPort (cache io mem : Bool)
  | registerLocator (bir offset : Nat)
  | dataObjectExchange (busy error : Bool)
  | integrityAndDataEncryption
deriving DecidableEq, Repr

/-- The capabilities that the function carries, and no others, with the fields that commands change as they stand (R104, R121). -/
def capabilities (s : State) : List Capability :=
  [ .powerManagement s.link.d3hot true
  , .pciExpress true true
  , .msix 256 0 0x00700000 0 0x00701000 s.msix.enable s.msix.functionMask
  , .advancedErrorReporting s.link.aerCorrectable s.link.aerUncorrectable
  , .deviceSerialNumber (deviceSerial s)
  , .dataLinkFeature true
  , .physicalLayer16
  , .physicalLayer32
  , .laneMargining
  , .cxlDevice true true false 0 true 100 true s.link.cacheEnable
  , .flexBusPort true true false
  , .registerLocator 0 0x00600000
  , .dataObjectExchange s.link.doeBusy s.link.doeError
  , .integrityAndDataEncryption ]

/-! ### BARs -/

/-- A memory BAR (R105). -/
structure Bar where
  number : Nat
  size : Nat
  wide : Bool
  prefetchable : Bool
  base : BitVec 64
deriving DecidableEq, Repr

/-- The two BARs, each of 64 bits and not prefetchable; the base is what the host has written, 0 after a reset (R105, R131). -/
def bars (s : State) : List Bar :=
  [ { number := 0, size := 0x4000000, wide := true, prefetchable := false, base := s.link.bar0 }
  , { number := 2, size := 0x80000, wide := true, prefetchable := false, base := s.link.bar2 } ]

/-- The low word of a BAR as read: type 64-bit, not prefetchable, and the base (R105). -/
def barLow (b : Bar) : Nat := b.base.toNat % 2 ^ 32 / 16 * 16 + (if b.wide then 4 else 0) + (if b.prefetchable then 8 else 0)

/-! ### The header -/

/-- R103's identifiers. -/
def vendorId : Nat := 0x1F1A
def deviceId : Nat := 0x4801
def revisionId : Nat := 0x00
def classCode : Nat := 0x108000
def subsystemVendorId : Nat := 0x1F1A
def subsystemId : Nat := 0x4801
def headerType : Nat := 0
def interruptPin : Nat := 0

/-- A 32-bit word of the function's header of type 0 (R103, R105), in the PCI base specification's layout (PRESUMED, log entry 87): memory space stays enabled
(DESIGN CHOICE, log entry 79), and a word that R103 and R105 do not give reads 0. -/
def headerWord (s : State) (off : Nat) : Nat :=
  match off with
  | 0x00 => vendorId + 2 ^ 16 * deviceId
  | 0x04 => 2 + 4 * b2n s.link.bme
  | 0x08 => revisionId + 2 ^ 8 * classCode
  | 0x0C => 2 ^ 16 * headerType
  | 0x2C => subsystemVendorId + 2 ^ 16 * subsystemId
  | 0x3C => 2 ^ 8 * interruptPin
  | _ =>
    match (bars s).find? (fun b => decide (off = 0x10 + 4 * b.number ∨ off = 0x14 + 4 * b.number)) with
    | some b => if off = 0x10 + 4 * b.number then barLow b else b.base.toNat / 2 ^ 32
    | none => 0

/-- Configuration space answers from 40 ms after PERST_N release (R131). -/
def configAnswers (s : State) (msSinceRelease : Nat) : Bool := s.start.begun && decide (40 ≤ msSinceRelease)

/-- The answer to a configuration read of the header: none is Configuration Request Retry Status (R133). -/
def configRead (s : State) (msSinceRelease off : Nat) : Option Nat := if configAnswers s msSinceRelease then some (headerWord s off) else none

end Sys2Proof.Machine
end

