-- ==== Sys2Proof/Machine/UnitRegs.lean ====
section
/-!
DEFINITION. Sys2Proof/Machine/UnitRegs.lean: the unit page header (R756 to R759), UNIT_CTL and the UNIT_STATE machine (R12, R13, R760 to R762), profiles
(R73 to R75), and the pending, mask and route fields (R764, R765).
-/
namespace Sys2Proof.Machine
open Sys2Proof

/-! ### UNIT_CTL -/

/-- Jobs with a ledger entry on an engine. -/
def ledgerOn (s : State) (kind idx : Nat) : List Nat :=
  (s.sched.ledger.flatMap (fun l => (l.entries.filter (fun x => decide (x.kind = kind ∧ x.engine = idx))).map (fun x => x.slot))).eraseDups

/-- The ledger entries on a disabled unit move to the margin swath (R762). -/
def drainLedger (p : Nat) (s : State) : State :=
  match engineOf p with
  | none => s
  | some (k, i) => forAll (ledgerOn s k i) (marginOn k i) s

/-- The RNG tile's function engine stops or starts working, and the generator with it (R512). DEDUCED: log entry 74. -/
def unitStops (p : Nat) (s : State) : State := if p = rngPage then rngTileOff s else s
def unitStarts (p : Nat) (s : State) : State := if p = rngPage ∧ rngTileWorks s then rngTileOn s else s

/-- The memories of a unit that returns from ISOLATED are wiped: an engine's banks, a core's memories, a key bay (R760). -/
def wipeUnit (p : Nat) (s : State) : State :=
  match engineOf p with
  | some (5, i) => { s with cores := mset {} s.cores i {} }
  | some (k, i) => modEng k i (fun e => { e with running := [], parked := none, wiping := 0, written := [], saved := 0 }) s
  | none =>
    if tileF p = 15 ∧ engineF p = 2 then
      let b := if planeF p = 1 then clusterF p - 1 else 3 + clusterF p
      { s with keys := { s.keys with bays := merase b s.keys.bays, fills := s.keys.fills.filter (fun f => decide (f.2 ≠ b)) } }
    else s

/-- isolate written to a unit without children (R760, R761). DEDUCED: log entry 52. -/
def writeIsolate (p : Nat) (iso : Bool) (s : State) : State :=
  let u := unitAt s p
  let s1 := modUnit p (fun u => { u with isolate := iso }) s
  if iso then
    if u.state = .isolated then s1 else isolateUnit p .write (unitStops p (withdrawUnitJobs p s1))
  else if u.state = .isolated ∧ u.cause = .write then
    let s2 := releaseUnit p (wipeUnit p s1)
    if u.enable then unitStarts p s2 else s2
  else s1

/-- enable and disable_mode written to a unit without children (R760, R762). DEDUCED: log entry 52. -/
def writeEnable (p : Nat) (en dm : Bool) (s : State) : State :=
  let u := unitAt s p
  let store := fun (t : State) => modUnit p (fun u => { u with enable := en, disableMode := dm }) t
  match u.state with
  | .isolated => store s
  | .failed => s
  | .off =>
    let s1 := store s
    if en ∧ ¬ u.enable then unitStarts p s1
    else if ¬ en ∧ u.enable then unitStops p (drainLedger p s1)
    else s1
  | .quiescing =>
    if en then raise p (commonCode p 6) 0x014 (modUnit p (fun u => { u with disableMode := dm }) s)
    else if dm ∧ ¬ u.withdrawing then settleUnit p (withdrawUnitJobs p (modUnit p (fun u => { u with disableMode := true, withdrawing := true }) s))
    else s
  | .quiesced =>
    let s1 := store s
    if en then unitStarts p (setUnitState p .on .write s1) else s1
  | _ =>
    if en then store s
    else
      let s1 := setUnitState p .quiescing .write (modUnit p (fun u => { u with withdrawing := dm, withdrawn := 0 }) (store s))
      unitStops p (settleUnit p (if dm then withdrawUnitJobs p s1 else drainLedger p s1))

/-- A UNIT_CTL value reaches one page: a unit without children acts on it, isolate first; a group keeps the value last written (R5, R12, R760, R761). -/
def ctlPage (v p : Nat) (s : State) : State :=
  if levelOf p = 1 then
    if (unitAt s p).state = .failed then s else writeEnable p (bit 0 v) (bit 1 v) (writeIsolate p (bit 2 v) s)
  else modUnit p (fun u => { u with enable := bit 0 v, disableMode := bit 1 v, isolate := bit 2 v }) s

/-- A write to UNIT_CTL acts on the page and on every descendant that does not refuse it (R12, R759). DEDUCED: log entry 52. -/
def ctlWrite (p v : Nat) (s : State) : State :=
  if fixedUnit p then raise p (commonCode p 6) 0x014 s
  else forAll ((descendants p).filter (fun q => !fixedUnit q)) (ctlPage v) s

/-- UNIT_CTL as read (R756). -/
def ctlWord (s : State) (p : Nat) : Nat :=
  let u := unitAt s p
  b2n u.enable + 2 * b2n u.disableMode + 4 * b2n u.isolate

/-! ### UNIT_PROFILE -/

/-- A write to a plane's profile field (R73, R75): 4 to 15 are refused; in THERMAL the value is kept in requested. DEDUCED: log entry 60. -/
def profileWrite (p v : Nat) (s : State) : State :=
  let u := unitAt s p
  if levelOf p ≠ 4 then s
  else if 3 < v then raise p (commonCode p 6) 0x018 s
  else if u.profile = 4 then modUnit p (fun u => { u with requested := BitVec.ofNat 4 v }) s
  else
    let s1 := modUnit p (fun u => { u with profile := BitVec.ofNat 4 v, requested := BitVec.ofNat 4 v }) s
    if u.profile = BitVec.ofNat 4 v then s1 else raise schedPage 0x012C (planeF p + 256 * v) s1

/-! ### The header's words -/

/-- Bit i: a child at index i of the next level; a shared block's children stand at index 14, the scheduler at 7 (R756, R786). -/
def presentBits (p : Nat) : Nat :=
  if p = modulePage then 0xBF
  else match levelOf p with
  | 4 => 2 ^ clusterCount (planeF p) - 1
  | 3 => 2 ^ tileCount (planeF p) (clusterF p - 1) - 1 + 2 ^ 14
  | 2 => 2 ^ engineCount (planeF p) (clusterF p - 1) (tileF p - 1) - 1
  | _ => 0

/-- UNIT_PWR_STAT.state of a unit without children: that of its domain; the root domain is on (R740, R756). -/
def domainCode (s : State) (p : Nat) : Nat :=
  let d := domainOf p
  if d < 64 then (match (mget {} s.power.domains d).state with | .gated => 0 | .waking => 1 | .on => 2 | .latched => 3) else 2

/-- UNIT_PWR_STAT.state as read (R756). -/
def powerCode (s : State) (p : Nat) : Nat :=
  if levelOf p = 1 then domainCode s p
  else
    let cs := (leaves p).map (domainCode s)
    if cs.any (fun c => decide (c = 3)) then 3 else if cs.any (fun c => decide (c = 1 ∨ c = 2)) then 2 else 0

/-- UNIT_STATE.cause as read: in a group, that of the first unit below that is in the group's state (R756). DEDUCED: log entry 52. -/
def causeOf (s : State) (p : Nat) : Nat :=
  let st := stateOf s p
  if st = .isolated ∨ st = .failed then
    match (leaves p).find? (fun q => decide ((unitAt s q).state = st)) with
    | some q => (match (unitAt s q).cause with | .write => 0 | .quarantine => 1 | .fault => 2)
    | none => 0
  else 0

/-- UNIT_LOAD as read, summed in groups (R756). DEDUCED: log entry 74. -/
def loadWord (s : State) (p : Nat) : Nat :=
  let busy := ((leaves p).map (fun q => (unitAt s q).busy.toNat)).sum
  let c0 := ((leaves p).map (fun q => (unitAt s q).loadClass0.toNat)).sum
  c0 % 65536 + 65536 * (busy % 65536)

/-- The 32-bit word at an offset 0x000 to 0x0FF of a unit page (R756). -/
def headWord (s : State) (p off : Nat) : Nat :=
  let u := unitAt s p
  match off with
  | 0x000 => p + 2 ^ 16 * kindCode p + 2 ^ 29 * levelOf p
  | 0x004 => 1
  | 0x008 => presentBits p + 2 ^ 16 * (children p).length
  | 0x010 => stateCode (stateOf s p) + 2 ^ 4 * causeOf s p
  | 0x014 => ctlWord s p
  | 0x018 => (profileOf s p).toNat + 2 ^ 4 * (if levelOf p = 4 ∧ u.profile = 4 then u.requested.toNat else (profileOf s p).toNat)
  | 0x020 => u.threshold.toNat
  | 0x024 => powerCode s p + 2 ^ 8 * (if levelOf p = 1 then domainOf p else 0xFF)
  | 0x028 => (energyOf s p).toNat % 2 ^ 32
  | 0x02C => (energyOf s p).toNat / 2 ^ 32
  | 0x030 => u.pend.toNat + 2 ^ 16 * u.last.toNat
  | 0x034 => u.mask.toNat
  | 0x038 => u.routeVec.toNat + 2 ^ 16 * u.routeInt.toNat + 2 ^ 24 * u.routeCore.toNat
  | 0x03C => u.rate.toNat
  | 0x040 => u.captSwath.toNat + 2 ^ 16 * u.captCode.toNat
  | 0x044 => u.captDetail.toNat % 2 ^ 32
  | 0x048 => u.captDetail.toNat / 2 ^ 32
  | 0x04C => u.captCount.toNat
  | 0x060 => u.stamp.toNat % 2 ^ 32
  | 0x064 => u.stamp.toNat / 2 ^ 32
  | 0x080 => loadWord s p
  | 0x0F0 => u.scratch.toNat
  | _ => 0

/-- A write of 1 to pending bits clears them in the page and in every descendant (R764). -/
def clearPend (p : Nat) (mask : BitVec 9) (s : State) : State :=
  forAll (descendants p) (fun q t => modUnit q (fun u => { u with pend := u.pend &&& ~~~mask }) t) s

/-- Pending bits that a page's mask lets through show in its parent, and so on upward (R9). -/
def showAbove : Nat → Nat → BitVec 9 → State → State
  | 0, _, _, s => s
  | n + 1, p, b, s =>
    let through := b &&& ~~~(unitAt s p).mask
    if p = modulePage ∨ through = 0 then s else showAbove n (parent p) through (modUnit (parent p) (fun u => { u with pend := u.pend ||| through }) s)

/-- A UNIT_EVT_MASK write: an event that is pending and no longer masked shows in the groups above (R9). A bit that a group shows stays until a
write of 1 clears it (R764; DEDUCED, log entry 86). -/
def maskWrite (p v : Nat) (s : State) : State :=
  let s1 := modUnit p (fun u => { u with mask := BitVec.ofNat 9 v }) s
  showAbove 6 p (unitAt s1 p).pend s1

/-- A UNIT_EVT_ROUTE write: interrupt 16 to 47 or 0 and vector 128 to 255 or 0; another value is refused and its field kept (R756). -/
def routeWrite (p v : Nat) (s : State) : State :=
  let int_ := bits 21 16 v
  let vec := bits 7 0 v
  let okInt : Bool := decide (int_ = 0 ∨ (16 ≤ int_ ∧ int_ ≤ 47))
  let okVec : Bool := decide (vec = 0 ∨ 128 ≤ vec)
  let s1 := modUnit p (fun u => { u with
    routeCore := BitVec.ofNat 4 (bits 27 24 v)
    routeInt := if okInt then BitVec.ofNat 6 int_ else u.routeInt
    routeVec := if okVec then BitVec.ofNat 8 vec else u.routeVec }) s
  if okInt && okVec then s1 else raise p (commonCode p 6) 0x038 s1

/-- The effect of a 32-bit write at an offset 0x000 to 0x0FF of a unit page (R756, R758, R764). -/
def headWriteWord (p off v : Nat) (s : State) : State :=
  match off with
  | 0x014 => ctlWrite p v s
  | 0x018 => profileWrite p (v % 16) s
  | 0x020 => forAll (descendants p) (fun q t => modUnit q (fun u => { u with threshold := BitVec.ofNat 16 v }) t) s
  | 0x030 => clearPend p (BitVec.ofNat 9 v) s
  | 0x034 => maskWrite p v s
  | 0x038 => routeWrite p v s
  | 0x03C => forAll (descendants p) (fun q t => modUnit q (fun u => { u with rate := BitVec.ofNat 4 v }) t) s
  | 0x0F0 => modUnit p (fun u => { u with scratch := BitVec.ofNat 32 v }) s
  | _ => s

/-- Offsets of a unit page's header with an audited field; the profile is one in a plane page only (R756). -/
def headAudited (p off : Nat) : Bool :=
  decide (off = 0x014 ∨ (off = 0x018 ∧ levelOf p = 4) ∨ off = 0x020 ∨ off = 0x034 ∨ off = 0x038 ∨ off = 0x03C)

/-- What reading a word of the header clears: UNIT_ERR_CAPT3, which re-arms the capture (R756). -/
def headReadEffect (p off : Nat) (s : State) : State :=
  if off = 0x04C then modUnit p (fun u => { u with captCount := 0 }) s else s

/-! ### Meanings -/

/-- An audited 32-bit write to a header field. -/
def headAuditedWrite (m : Master) (p off v : Nat) (s : State) : State :=
  if pageExists p then audited (pageAddr p off) m 4 (fun s => headWord s p off) noSets (headWriteWord p off v) s else s

/-- UNIT_ENABLE (R12, R760): enable written 1, the other fields as they read. -/
def execUnitEnable (m : Master) (page : Nat) (s : State) : Res :=
  .next (headAuditedWrite m page 0x014 (ctlWord s page / 2 * 2 + 1) s)

/-- UNIT_DISABLE_DRAIN (R12, R760, R762): enable written 0 with DRAIN, isolate as it reads. -/
def execUnitDisableDrain (m : Master) (page : Nat) (s : State) : Res :=
  .next (headAuditedWrite m page 0x014 (ctlWord s page / 4 * 4) s)

/-- UNIT_DISABLE_WITHDRAW (R12, R71, R760, R762): enable written 0 with WITHDRAW, isolate as it reads. -/
def execUnitDisableWithdraw (m : Master) (page : Nat) (s : State) : Res :=
  .next (headAuditedWrite m page 0x014 (ctlWord s page / 4 * 4 + 2) s)

/-- UNIT_ISOLATE (R760, R761): isolate written 1, the other fields as they read. -/
def execUnitIsolate (m : Master) (page : Nat) (s : State) : Res :=
  .next (headAuditedWrite m page 0x014 (ctlWord s page % 4 + 4) s)

/-- UNIT_UNISOLATE (R760): isolate written 0, the other fields as they read. -/
def execUnitUnisolate (m : Master) (page : Nat) (s : State) : Res :=
  .next (headAuditedWrite m page 0x014 (ctlWord s page % 4) s)

/-- UNIT_PROFILE_WRITE (R73, R75, R76). -/
def execUnitProfileWrite (m : Master) (plane : Nat) (value : BitVec 4) (s : State) : Res :=
  .next (if plane < 6 then headAuditedWrite m (mkPage plane 0 0 0) 0x018 value.toNat s else s)

/-- UNIT_EVT_PEND_CLEAR (R764). -/
def execUnitEvtPendClear (page : Nat) (mask : BitVec 9) (s : State) : Res := .next (if pageExists page then hostWrite (clearPend page mask) s else s)

/-- UNIT_ERR_CAPT3_READ (R756): the count is returned and cleared. -/
def execUnitErrCapt3Read (m : Master) (page : Nat) (s : State) : Res :=
  .next <|
    if ¬ pageExists page then s
    else if m = .host ∧ s.link.inReset ≠ .none then emit (.regRead (masterCode m) 4 (2 ^ 32 - 1)) s
    else headReadEffect page 0x04C (emit (.regRead (masterCode m) 4 (headWord s page 0x04C)) s)

end Sys2Proof.Machine
end

