-- ==== Sys2Proof/Machine/Registers.lean ====
section
/-!
DEFINITION. Sys2Proof/Machine/Registers.lean: the address map (R105 to R107, R753 to R755, R769): what each address reads, what a write to it does, which
registers are audited, 64 bits wide or cleared by a read (R2, R462), the MSI-X table (R106, R790), the cipher plane's registers
(R404 to R409), the state of the PK and cipher engines (R373, R409), and the SMBus subset (R767).
-/
namespace Sys2Proof.Machine
open Sys2Proof

/-! ### Signing and cipher engines -/

/-- The algorithm of the operation that runs on an engine now, 0 when idle (R373, R409). -/
def engineAlgorithm (s : State) (kind idx : Nat) : Nat :=
  match (engAt s kind idx).running with
  | [] => 0
  | b :: _ => match jobAt s b.slot with
    | some j => (match (stepAt j b.step).keyA with | some k => k.alg | none => pkAlg s j b.step)
    | none => 0

/-- The state of one of an engine's two banks: 1 active, 2 parked, 3 being overwritten (R373, R409). -/
def bankCode (e : Engine) (b : BitVec 1) : Nat :=
  if e.running.any (fun x => decide (x.bank = b)) then 1
  else if e.parked.isSome ∧ e.parkedBank = b then 2
  else if e.wiping &&& bankBit b ≠ 0 then 3 else 0

/-- The states of an engine's two banks (R373, R409). -/
def bankBits (s : State) (kind idx : Nat) : Nat :=
  let e := engAt s kind idx
  bankCode e 0 + 4 * bankCode e 1

/-- SIG_ENG_STAT (R373). -/
def sigEngineWord (s : State) (idx : Nat) : Nat :=
  bankBits s 0 idx + 16 * b2n (mget {} s.sig.engines idx).quarantined + 2 ^ 16 * engineAlgorithm s 0 idx

/-- A key slot's state for the step whose key it holds: 1 a stored key, 2 one derived from a zone root (R409). -/
def slotCode (s : State) (slot step : Nat) : Nat :=
  match jobAt s slot with
  | some j => let h := selected j (stepAt j step).step.selA; if h = 0 then 0 else if isRoot h then 2 else 1
  | none => 0

/-- CIP_ENG_STAT (R409): a key slot goes with each bank. -/
def cipEngineWord (s : State) (idx : Nat) : Nat :=
  let e := engAt s 1 idx
  let key := fun (b : BitVec 1) =>
    match e.running.find? (fun x => decide (x.bank = b)) with
    | some x => slotCode s x.slot x.step
    | none => match e.parked with
      | some (a, i) => if e.parkedBank = b then slotCode s a i else if e.wiping &&& bankBit b ≠ 0 then 3 else 0
      | none => if e.wiping &&& bankBit b ≠ 0 then 3 else 0
  bankBits s 1 idx + 16 * key 0 + 64 * key 1 + 2 ^ 16 * engineAlgorithm s 1 idx

/-- The Cipher plane page. -/
def cipPage : Nat := mkPage 2 0 0 0

/-- The 32-bit word at an offset of the Cipher plane page (R404 to R408). -/
def cipWord (s : State) (off : Nat) : Nat :=
  let c := s.cip
  match off with
  | 0x100 => b2n c.boostAllow + 2 * b2n c.boosted
  | 0x104 => c.noncePrefix.toNat
  | 0x108 => c.nonceNext.toNat % 2 ^ 32
  | 0x10C => c.nonceNext.toNat / 2 ^ 32
  | 0x110 => c.nonceMark.toNat % 2 ^ 32
  | 0x114 => c.nonceMark.toNat / 2 ^ 32
  | 0x118 => c.maskReseeds.toNat + 2 ^ 16 * c.maskMissed.toNat
  | 0x11C => c.suspends.toNat
  | _ => 0

/-- The effect of a 32-bit write in the Cipher plane page (R404). -/
def cipWriteWord (off v : Nat) (s : State) : State := if off = 0x100 then { s with cip := { s.cip with boostAllow := bit 0 v } } else s

/-- CIP_CLOCK is audited (R404). -/
def cipAudited (off : Nat) : Bool := decide (off = 0x100)

/-- What a read clears in the Cipher plane page (R407, R408). -/
def cipReadEffect (off : Nat) (s : State) : State :=
  if off = 0x118 then { s with cip := { s.cip with maskReseeds := 0, maskMissed := 0 } }
  else if off = 0x11C then { s with cip := { s.cip with suspends := 0 } }
  else s

/-! ### The MSI-X table and PBA -/

/-- The pages of the MSI-X table and of the PBA (R106, R753). -/
def msixPage : Nat := 0x700
def pbaPage : Nat := 0x701

/-- A vector-control word is masked at reset, any other word 0 (PRESUMED, log entry 9). -/
def msixDefault (i : Nat) : BitVec 32 := if i % 4 = 3 then 1 else 0

def msixWord (s : State) (off : Nat) : Nat := (mget (msixDefault (off / 4)) s.msix.table (off / 4)).toNat

/-- A write to the table; unmasking a vector sends the message held on it, once posting is open (R790). PRESUMED: log entry 54. -/
def msixWriteWord (off v : Nat) (s : State) : State :=
  let i := off / 4
  let w : BitVec 32 := if i % 4 = 3 then BitVec.ofNat 32 (v % 2) else if i % 4 = 0 then BitVec.ofNat 32 (v / 4 * 4) else BitVec.ofNat 32 v
  let s1 := { s with msix := { s.msix with table := mset (msixDefault i) s.msix.table i w } }
  let n := i / 4
  if i % 4 = 3 ∧ vectorMasked n s ∧ ¬ vectorMasked n s1 ∧ n ∈ s1.msix.held ∧ linkOpen s1 then
    emit (.msix n) { s1 with msix := { s1.msix with held := s1.msix.held.filter (fun x => decide (x ≠ n)) } }
  else s1

/-- The PBA: one bit for each of the 256 vectors. -/
def pbaWord (s : State) (off : Nat) : Nat :=
  ((List.range 32).map (fun i => if s.msix.held.contains (8 * off + i) then 2 ^ i else 0)).sum

/-- The CXL component registers' 64 KiB, whose contents are those of the CXL specification (R753; DESIGN CHOICE, log entry 43). -/
def componentPage (p : Nat) : Bool := decide (p / 16 = 0x60)

/-! ### Pages of BAR0 -/

/-- Which registers beyond the header a page carries (R769). -/
inductive PageKind where
  | module | sched | host | sig | pkEngine (n : Nat) | cip | cipEngine (n : Nat) | vault | tenants | keeper | core (n : Nat) | rng | flash | key | audit
  | recorder | fold | port (n : Nat) | contact | reader | sdc | panel | msix | pba | component | header | none
deriving DecidableEq, Repr

/-- The kind of a page (R753, R769). -/
def pageKind (p : Nat) : PageKind :=
  if p = msixPage then .msix
  else if p = pbaPage then .pba
  else if componentPage p then .component
  else if ¬ pageExists p then .none
  else if p = modulePage then .module
  else if p = schedPage then .sched
  else if p = hostPage then .host
  else if p = sigPage then .sig
  else if p = cipPage then .cip
  else if p = vaultPage then .vault
  else if p = mkPage 4 1 0 0 then .tenants
  else if p = keeperPage then .keeper
  else if p = rngTile then .rng
  else if p = flashTile then .flash
  else if p = keyTile then .key
  else if p = auditTile then .audit
  else if p = recTile then .recorder
  else if p = foldBase then .fold
  else if p = mkPage 5 1 1 0 then .port 0
  else if p = mkPage 5 1 2 0 then .port 1
  else if p = contactTile then .contact
  else if p = readerTile then .reader
  else if p = sdcTile then .sdc
  else if p = panelTile then .panel
  else if p = bootPage then .core 16
  else match engineOf p with
  | some (0, n) => .pkEngine n
  | some (1, n) => .cipEngine n
  | some (5, n) => .core n
  | _ => .header

/-- The 32-bit word at an offset from 0x100 of a page; an offset that no register occupies reads 0 (R755, R769). -/
def pageWord (s : State) (p o : Nat) : Nat :=
  match pageKind p, gateOn p with
  | .module, _ => if o < 0x300 then modWord s o else pwrWord s o
  | .sched, _ => schWord s o
  | .host, _ => hostWord s o
  | .sig, _ => sigWord s o
  | .pkEngine n, _ => if o = 0x100 then sigEngineWord s n else 0
  | .cip, _ => cipWord s o
  | .cipEngine n, _ => if o = 0x100 then cipEngineWord s n else 0
  | .vault, _ => vaultWord s o
  | .tenants, _ => if o = 0x100 then tenantWord s else 0
  | .keeper, _ => keeperWord s o
  | .core n, _ => if o < 0x400 then coreWord s n o else gateWord s n o
  | .rng, _ => rngWord s o
  | .flash, _ => flsWord s o
  | .key, _ => keyWord s o
  | .audit, _ => audWord s o
  | .recorder, _ => recWord s o
  | .fold, _ => foldWord s o
  | .port n, _ => portWord s n o
  | .contact, _ => contactWord s o
  | .reader, _ => readerWord s o
  | .sdc, _ => sdcWord s o
  | .panel, _ => panelWord s o
  | _, some g => gateWord s g o
  | _, none => 0

/-- The effect of a 32-bit write at an offset from 0x100 of a page (R755). -/
def pageWriteWord (p o v : Nat) (s : State) : State :=
  match pageKind p, gateOn p with
  | .module, _ => if o < 0x300 then s else pwrWriteWord o v s
  | .sched, _ => schWriteWord o v s
  | .host, _ => hostWriteWord o v s
  | .sig, _ => sigWriteWord o v s
  | .cip, _ => cipWriteWord o v s
  | .vault, _ => vaultWriteWord o v s
  | .keeper, _ => keeperWriteWord o v s
  | .core n, _ => gateWriteWord n o v s
  | .rng, _ => rngWriteWord o v s
  | .flash, _ => flsWriteWord o v s
  | .key, _ => keyWriteWord o v s
  | .audit, _ => audWriteWord o v s
  | .recorder, _ => recWriteWord o v s
  | .fold, _ => foldWriteWord o v s
  | .port n, _ => portWriteWord n o v s
  | .contact, _ => contactWriteWord o v s
  | .reader, _ => readerWriteWord o v s
  | .sdc, _ => sdcWriteWord o v s
  | .panel, _ => panelWriteWord o v s
  | _, some g => gateWriteWord g o v s
  | _, none => s

/-- The register at an offset from 0x100 of a page has an audited field. -/
def pageAudited (p o : Nat) : Bool :=
  match pageKind p, gateOn p with
  | .module, _ => decide (0x300 ≤ o) && pwrAudited o
  | .sched, _ => schAudited o
  | .host, _ => hostAudited o
  | .sig, _ => sigAudited o
  | .cip, _ => cipAudited o
  | .vault, _ => vaultAudited o
  | .keeper, _ => keeperAudited o
  | .core _, _ => gateAudited o
  | .rng, _ => rngAudited o
  | .flash, _ => flsAudited o
  | .key, _ => keyAudited o
  | .audit, _ => audAudited o
  | .fold, _ => foldAudited o
  | .port _, _ => portAudited o
  | .contact, _ => contactAudited o
  | .reader, _ => readerAudited o
  | .sdc, _ => sdcAudited o
  | .panel, _ => panelAudited o
  | _, some _ => gateAudited o
  | _, none => false

/-- What a read of a word from 0x100 of a page clears: its RC fields (R2). -/
def pageReadEffect (p o : Nat) (s : State) : State :=
  match pageKind p, gateOn p with
  | .module, _ => if o < 0x300 then s else pwrReadEffect o s
  | .sched, _ => schReadEffect o s
  | .host, _ => hostReadEffect o s
  | .sig, _ => sigReadEffect o s
  | .cip, _ => cipReadEffect o s
  | .vault, _ => vaultReadEffect o s
  | .keeper, _ => keeperReadEffect o s
  | .core n, _ => if o < 0x400 then coreReadEffect n o s else gateReadEffect n o s
  | .rng, _ => rngReadEffect o s
  | .flash, _ => flsReadEffect o s
  | .key, _ => keyReadEffect o s
  | .audit, _ => audReadEffect o s
  | .recorder, _ => recReadEffect o s
  | .port n, _ => portReadEffect n o s
  | .contact, _ => contactReadEffect o s
  | .sdc, _ => sdcReadEffect o s
  | _, some g => gateReadEffect g o s
  | _, none => s

/-! ### Addresses -/

/-- A channel and an offset of its page, from an address of BAR2 as R462 codes it. -/
def chanOf (a : RegAddr) : Nat × Nat := ((a - 2 ^ 31) / 0x1000, a % 0x1000)

/-- The address lies in a channel page (R105). -/
def isChan (a : RegAddr) : Bool := decide (2 ^ 31 ≤ a ∧ a < 2 ^ 31 + 0x40000)

/-- The 32-bit word at an address as R462 codes it, bit 31 set for BAR2; an address with no register reads 0 (R755). -/
def regWord (s : State) (a : RegAddr) : Nat :=
  let p := a / 0x1000
  let o := a % 0x1000
  if isChan a then chanWord s (chanOf a).1 (chanOf a).2
  else if 2 ^ 31 ≤ a then 0
  else match pageKind p with
  | .msix => msixWord s o
  | .pba => if o < 32 then pbaWord s o else 0
  | .component => (Config.freeValue s.draws).toNat % 2 ^ 32
  | .none => 0
  | _ => if o < 0x100 then headWord s p o else pageWord s p o

/-- The effect of a 32-bit write at an address; an address with no register ignores it (R755). -/
def regWriteWord (a : RegAddr) (v : Nat) (s : State) : State :=
  let p := a / 0x1000
  let o := a % 0x1000
  if isChan a then chanWriteWord (chanOf a).1 (chanOf a).2 v s
  else if 2 ^ 31 ≤ a then s
  else match pageKind p with
  | .msix => msixWriteWord o v s
  | .pba => s
  | .component => s
  | .none => s
  | _ => if o < 0x100 then headWriteWord p o v s else pageWriteWord p o v s

/-- The register at an address has an audited field. -/
def regAudited (a : RegAddr) : Bool :=
  let p := a / 0x1000
  let o := a % 0x1000
  if isChan a then chanAudited (chanOf a).2
  else if 2 ^ 31 ≤ a ∨ pageKind p = .none ∨ pageKind p = .msix ∨ pageKind p = .pba ∨ pageKind p = .component then false
  else if o < 0x100 then headAudited p o else pageAudited p o

/-- What a read of a word at an address changes: its RC fields are cleared (R2), and a component register's free value is drawn. -/
def regReadEffect (a : RegAddr) (s : State) : State :=
  let p := a / 0x1000
  let o := a % 0x1000
  if isChan a then chanReadEffect (chanOf a).1 (chanOf a).2 s
  else if 2 ^ 31 ≤ a then s
  else match pageKind p with
  | .component => (draw s).2
  | .msix => s
  | .pba => s
  | .none => s
  | _ => if o < 0x100 then headReadEffect p o s else pageReadEffect p o s

/-- Low words of the 64-bit registers that are written as a whole (R189, R193, R462, R481, R496, R599, R684, R752). -/
def wideLow (a : RegAddr) : Bool :=
  let p := a / 0x1000
  let o := a % 0x1000
  if isChan a then chanWide o
  else match pageKind p, gateOn p with
  | .audit, _ => decide (o = 0x100)
  | .keeper, _ => decide (o = 0x108)
  | .recorder, _ => decide (o = 0x118)
  | .module, _ => decide (o = 0x324)
  | .none, _ => false
  | _, some _ => decide (0x400 ≤ o ∧ o < 0x480 ∧ o % 8 = 0)
  | _, none => false

/-- The low word's address of the register at an address (R462). -/
def regBase (a : RegAddr) : RegAddr := if 4 ≤ a ∧ wideLow (a - 4) then a - 4 else a

/-- A whole register's value (R462). -/
def regWhole (s : State) (a : RegAddr) : Nat :=
  let b := regBase a
  if wideLow b then regWord s b + 2 ^ 32 * regWord s (b + 4) else regWord s b

/-- The bits that a write of `v` at an address gives to W1S fields, as the CONFIG record shows them: none where the write is ignored or the
register has no such field (R462, R789). -/
def regTaken (a : RegAddr) (v : Nat) (s : State) : Nat :=
  let o := a % 0x1000
  if 2 ^ 31 ≤ a then 0
  else match pageKind (a / 0x1000) with
  | .sched => if o = 0x150 then v % 1024 else if o = 0x154 then stopTaken v s else 0
  | .key => if o = 0x11C then v % 256 else 0
  | .sig => if o = 0x114 ∧ bit 8 v then 256 * b2n (selftestTaken (v % 64) s) else 0
  | .rng => if o = 0x104 ∧ bit 0 v then b2n (restartTaken s) else 0
  | .panel => if o = 0x110 ∧ bit 0 v then cancelTaken s else 0
  | .module => if o = 0x324 then clearTaken false v s else if o = 0x328 then clearTaken true v s else 0
  | .contact => if o = 0x100 ∧ bit 0 v then retryTaken s else 0
  | _ => 0

/-- A register whose low word's read latches its high word (R84, R406, R485, R496, R601, R658, R684, R752, R756, R768). -/
def latchLow (a : RegAddr) : Bool :=
  let p := a / 0x1000
  let o := a % 0x1000
  if 2 ^ 31 ≤ a ∨ ¬ pageExists p then false
  else if o = 0x028 ∨ o = 0x060 then true
  else match pageKind p, gateOn p with
  | .module, _ => decide (o = 0x108 ∨ o = 0x110 ∨ o = 0x308)
  | .sched, _ => decide (o = 0x100)
  | .cip, _ => decide (o = 0x108 ∨ o = 0x110)
  | .audit, _ => decide (o = 0x120 ∨ o = 0x130)
  | .recorder, _ => decide (o = 0x100 ∨ o = 0x108)
  | .keeper, _ => decide (o = 0x108)
  | .panel, _ => decide (o = 0x108)
  | _, some _ => decide (o = 0x488)
  | _, none => false

/-! ### Reads -/

/-- A read of one word by a master: a low word latches its high word, and a high word latched for this master is what it reads (R2, R84, R756). -/
def readWordBy (m : Master) (a : RegAddr) (s : State) : Nat × State :=
  let key := fun (x : Nat) => masterCode m * 2 ^ 32 + x
  if latchLow a then (regWord s a, { regReadEffect a s with latches := mput (key (a + 4)) (BitVec.ofNat 32 (regWord s (a + 4))) s.latches })
  else match mfind (key a) s.latches with
  | some v => if 4 ≤ a ∧ latchLow (a - 4) then (v.toNat, { s with latches := merase (key a) s.latches }) else (regWord s a, regReadEffect a s)
  | none => (regWord s a, regReadEffect a s)

/-- A read of 4 or 8 bytes: the two words of 8 bytes are read at once (R107). -/
def readBy (m : Master) (a : RegAddr) (width : Nat) (s : State) : Nat × State :=
  if width = 8 then (regWord s a + 2 ^ 32 * regWord s (a + 4), regReadEffect (a + 4) (regReadEffect a s)) else readWordBy m a s

/-- An aligned 32-bit or 64-bit access (R107). -/
def goodAccess (off width : Nat) : Bool := decide ((width = 4 ∨ width = 8) ∧ off % width = 0)

/-- An address of a BAR as R462 codes it. -/
def barAddr (bar2 : Bool) (off : Nat) : RegAddr := if bar2 then 2 ^ 31 + off else off

/-- REGISTER_READ (R2, R107, R133, R755). -/
def execRegisterRead (m : Master) (bar2 : Bool) (off width : Nat) (s : State) : Res :=
  .next <|
    let answer := fun (v : Nat) (s : State) => emit (.regRead (masterCode m) width v) s
    if m = .host ∧ s.link.inReset ≠ .none then answer (2 ^ (8 * width) - 1) s
    else if bar2 && decide (0x40000 ≤ off) then answer 0 s
    else if goodAccess off width then
      let r := readBy m (barAddr bar2 off) width s
      answer r.1 r.2
    else answer (2 ^ (8 * width) - 1) (badAccess (barAddr bar2 off) s)

/-! ### Writes -/

/-- Both words of a 64-bit register written at once. DEDUCED: log entry 53. -/
def writeWide (a : RegAddr) (v : Nat) (s : State) : State :=
  let both := fun (s : State) => regWriteWord (a + 4) (v / 2 ^ 32 % 2 ^ 32) (regWriteWord a (v % 2 ^ 32) s)
  if isChan a then (if (chanAt s (chanOf a).1).state = .disabled then both s else chanRefuse (chanOf a).1 (chanOf a).2 s)
  else match pageKind (a / 0x1000) with
  | .keeper => takeStileKey (BitVec.ofNat 64 v) s
  | .audit => if s.audit.enable then refuseWrite auditTile (a % 0x1000) s else both s
  | _ => both s

/-- A write to a register is audited now: AUD_RING_TAIL is RO, and so not an audited field, while the ring is enabled (R32, R483). -/
def auditedNow (s : State) (a : RegAddr) : Bool := regAudited a && !(decide (a = pageAddr auditTile 0x10C) && s.audit.enable)

/-- A write of one 32-bit word, audited where its register is (R3, R32, R462). -/
def writeWordBy (m : Master) (a : RegAddr) (width v : Nat) (s : State) : State :=
  if auditedNow s a then
    let b := regBase a
    audited b m width (fun s => regWhole s a) (regTaken a v) (regWriteWord a v) s
  else regWriteWord a v s

/-- A write of 4 or 8 bytes: 8 bytes are one write of a 64-bit register, or one of each of two registers (R107, R462). -/
def writeBy (m : Master) (a : RegAddr) (width v : Nat) (s : State) : State :=
  if width = 8 then
    if wideLow a then
      (if regAudited a then audited a m 8 (fun s => regWhole s a) noSets (writeWide a (v % 2 ^ 64)) s else writeWide a (v % 2 ^ 64) s)
    else writeWordBy m (a + 4) 8 (v / 2 ^ 32 % 2 ^ 32) (writeWordBy m a 8 (v % 2 ^ 32) s)
  else writeWordBy m a 4 (v % 2 ^ 32) s

/-- REGISTER_WRITE (R3, R31 to R34, R107, R133, R159, R755, R789). -/
def execRegisterWrite (m : Master) (bar2 : Bool) (off width value : Nat) (s : State) : Res :=
  if m = .host ∧ s.link.inReset ≠ .none then .next s
  else if bar2 ∧ 0x44000 ≤ off then .next s
  else if bar2 ∧ 0x40000 ≤ off then execPushWrite ((off - 0x40000) / 0x100) (off % 0x100) (leBytes width value) s
  else .next (if goodAccess off width then writeBy m (barAddr bar2 off) width value s else badAccess (barAddr bar2 off) s)

/-! ### SMBus -/

/-- The SMBus target answers: with power good, until step 6 of the power-fail sequence (R767). -/
def smbusAnswers (s : State) : Bool := s.power.good && decide (s.power.failStep < 6)

/-- Offsets that an SMBus read is served for (R767). -/
def smbusServes (off : Nat) : Bool :=
  let p := off / 0x1000
  let o := off % 0x1000
  decide (off % 4 = 0 ∧ (p = modulePage ∨ (pageExists p = true ∧ levelOf p = 4 ∧ o < 0x100) ∨ (p = keeperPage ∧ (o = 0x100 ∨ (0x140 ≤ o ∧ o < 0x154)))))

/-- SMBUS_READ (R767). DESIGN CHOICE: log entry 73. -/
def execSmbusRead (off : Nat) (s : State) : Res :=
  .next <|
    if ¬ smbusAnswers s then s
    else if smbusServes off then
      let r := readWordBy .smbus off s
      emit (.smbus r.1) r.2
    else emit (.smbus 0xFFFFFFFF) s

/-- SMBUS_WRITE (R462, R767): PWR_BUDGET, and UNIT_SCRATCH of the module page. -/
def execSmbusWrite (off value : Nat) (s : State) : Res :=
  .next <|
    if smbusAnswers s ∧ (off = modulePage * 0x1000 + 0x32C ∨ off = modulePage * 0x1000 + 0x0F0) then writeBy .smbus off 4 value s else s

end Sys2Proof.Machine
end

