-- ==== Sys2Proof/Machine/CoreAsync.lean ====
section
/-!
DEFINITION. Sys2Proof/Machine/CoreAsync.lean: what reaches a core between instructions from the fabric: split loads that land (R545 to R549) and buffered
stores that complete (R548, R584), with the registers of BAR0 as their target (R521).
-/
namespace Sys2Proof.Machine
open Sys2Proof

/-- Offset in BAR0 of a data address (R521). -/
def bar0Off (a : Nat) : Nat := a - 0x100000000

/-- What a split load brings: the bits with their tag. A load from the BAR0 image reads registers as the core's master (R107, R521); 16 bytes are no
size that a register has, so they read all ones with a bad access. -/
def splitValue (n : Nat) (e : Split) (s : State) : (BitVec 128 × Bool) × State :=
  if spaceOf e.addr = .bar0 then
    if e.dest < 32 then (let r := readBy (coreMaster s n) (bar0Off e.addr) 8 s; ((BitVec.ofNat 128 r.1, false), r.2))
    else ((BitVec.allOnes 128, false), badAccess (bar0Off e.addr) s)
  else if e.dest < 32 then ((BitVec.ofNat 128 (leNat (loadBytes s n e.addr 8)), false), mendRow n e.addr s)
  else (let c := loadCap s n e.addr; ((c.bits, c.tag), mendRow n e.addr s))

/-- SPLIT_LOAD_LANDING (R23 to R27, R545 to R548): the oldest split load lands, once no older buffered store to its 32-byte row is left; data that is
uncorrectable leaves the destination and marks the predicate failed, with the row's event. -/
def execSplitLoadLanding (core : Nat) (ok : Bool) (s : State) : Res :=
  .next <|
    match (coreAt s core).splits with
    | [] => s
    | e :: rest =>
      if ((coreAt s core).stores.take e.older).any (fun w => decide (w.addr / 32 = e.addr / 32)) then s
      else
        let s1 := modCore core (fun c => { c with splits := rest }) s
        let mark := BitVec.ofNat 8 (2 ^ e.pl.toNat)
        if ok ∧ ¬ rowLost s1 core e.addr then
          let v := splitValue core e s1
          modRegs core (fun r => putReg (40 + e.pl.toNat) 1 false (putReg e.dest v.1.1 v.1.2 r)) v.2
        else modRegs core (fun r => let q := putReg (40 + e.pl.toNat) 1 false r; { q with pfail := q.pfail ||| mark })
          (match coreRow core e.addr with | some p => raise (corePage core) 0x0502 p.detail s1 | none => s1)

/-- The effect of a buffered store at its target (R107, R548, R564): a BAR0 write of less than 4 bytes is discarded and fails late with cause 3. -/
def storeEffect (n : Nat) (w : StoreEntry) (s : State) : State :=
  if spaceOf w.addr = .bar0 then
    if goodAccess (bar0Off w.addr) w.size then writeBy (coreMaster s n) (bar0Off w.addr) w.size (w.value.toNat % 2 ^ (8 * w.size)) s
    else modCore n (fun c => { c with late := c.late ++ [(0, 3, w)] }) (badAccess (bar0Off w.addr) s)
  else if w.size = 16 then memPutCap n w.addr { bits := w.value, tag := w.tag } s
  else memWrite n w.addr (leBytes w.size w.value.toNat) s

/-- BUFFERED_STORE_DONE (R548): the oldest buffered store takes effect and leaves the buffer. -/
def execBufferedStoreDone (core : Nat) (s : State) : Res :=
  .next <|
    match (coreAt s core).stores with
    | [] => s
    | w :: _ => storeEffect core w (popStore core s)

end Sys2Proof.Machine
end

