-- ==== Sys2Proof/Machine/CoreSys.lean ====
section
/-!
DEFINITION. Sys2Proof/Machine/CoreSys.lean: the SYS functions of groups 0 to 5 and 7 (R530, R557, R569, R577, R596). The table of R557 names the functions and
the rules name their effects; how an argument is coded is the model's choice (DESIGN CHOICE, log entry 44), and where no rule states a result it is a free
value (DESIGN CHOICE, log entry 45).
-/
namespace Sys2Proof.Machine
open Sys2Proof

/-- A function that stalls for nothing. -/
def noWait (_ : Nat) (_ : State) : Bool := false

/-- A function with an effect and no stated result. -/
def effectOnly (f : Nat → State → State) (a : Nat) (s : State) : Nat × State := unstated (f a s)

/-- The 64-byte block of control SRAM at an argument (R557). -/
def blockArg (x : Issue) (a : Nat) (s : State) : Bytes := sysBlock s x.core a

/-! ### Group 0: the scheduler -/

/-- Bind a step: job slot in bits [15:0], step in [19:16] (R61). -/
def sysBind (a : Nat) (s : State) : State :=
  match jobAt s (bits 15 0 a) with
  | some j => bindStep (bits 15 0 a) (bits 19 16 a) (decide (j.runClass = 0)) s
  | none => s

/-- An engine step ends with its work done: job slot in bits [15:0], step in [19:16], kind in [27:24] (R41). -/
def sysEnd (a : Nat) (s : State) : State :=
  let slot := bits 15 0 a
  let i := bits 19 16 a
  let kind := bits 27 24 a
  match runningOn s kind slot i, jobAt s slot with
  | some (idx, b), some j => if ¬ (stepAt j i).checked ∨ ¬ endsHere (stepAt j i) kind b then s else settleUnit (enginePage kind idx) (stepEnds slot i kind idx b s)
  | _, _ => s

/-- Class 0 slices still free in a ledger swath: kind in bits [3:0], swaths after the next in [5:4] (R54, R93). -/
def ledgerFree (a : Nat) (s : State) : Nat :=
  match s.sched.ledger.find? (fun l => decide (l.swath = now s + 1 + bits 5 4 a)) with
  | some l => ((l.credits.filter (fun x => decide (x.kind = bits 3 0 a))).map (fun x => x.free)).sum
  | none => 0

/-- SYS STEP_BIND (R61, R557). -/
def execSysStepBind (x : Issue) (cap : BitVec 3) (rs : BitVec 5) (s : State) : Res :=
  fetched "SYS_STEP_BIND" [cap.toNat, rs.toNat] x s <|
  sysCall x 0 cap rs noWait (effectOnly sysBind) s

/-- SYS STEP_END (R41, R557). -/
def execSysStepEnd (x : Issue) (cap : BitVec 3) (rs : BitVec 5) (s : State) : Res :=
  fetched "SYS_STEP_END" [cap.toNat, rs.toNat] x s <|
  sysCall x 0 cap rs noWait (effectOnly sysEnd) s

/-- SYS WINDROW_POST (R171, R186, R557): the windrow of the channel in g[rs] is posted with its records, where posting is open (R70). -/
def execSysWindrowPost (x : Issue) (cap : BitVec 3) (rs : BitVec 5) (s : State) : Res :=
  fetched "SYS_WINDROW_POST" [cap.toNat, rs.toNat] x s <|
  sysCall x 0 cap rs noWait (effectOnly (fun a s => if a < 64 ∧ linkOpen s then deliverFresh (windrow a s) else s)) s

/-- SYS LEDGER_READ (R54, R557). -/
def execSysLedgerRead (x : Issue) (cap : BitVec 3) (rs : BitVec 5) (s : State) : Res :=
  fetched "SYS_LEDGER_READ" [cap.toNat, rs.toNat] x s <|
  sysCall x 0 cap rs noWait (fun a s => (ledgerFree a s, s)) s

/-! ### Group 1: keys -/

/-- Pin a key into the bays of its clusters, within the limit (R248). -/
def pinBlock (b : Nat) (s : State) : State :=
  match keyAt s b with
  | none => s
  | some k =>
    if b ∈ s.keys.pins ∨ ¬ pinFits s k then s else pinKey b k s

/-- SYS KEY_FETCH (R247, R283, R557): the key at block [23:0] is fetched for bay [26:24]. -/
def execSysKeyFetch (x : Issue) (cap : BitVec 3) (rs : BitVec 5) (s : State) : Res :=
  fetched "SYS_KEY_FETCH" [cap.toNat, rs.toNat] x s <|
  sysCall x 1 cap rs noWait (effectOnly (fun a s => if (keyAt s (bits 23 0 a)).isSome then fetchKey (bits 26 24 a) (bits 23 0 a) s else s)) s

/-- SYS KEY_SEAL (R239, R557): the key at a block is sealed again. -/
def execSysKeySeal (x : Issue) (cap : BitVec 3) (rs : BitVec 5) (s : State) : Res :=
  fetched "SYS_KEY_SEAL" [cap.toNat, rs.toNat] x s <|
  sysCall x 1 cap rs noWait (effectOnly (fun a s => reseal (bits 23 0 a) id s)) s

/-- SYS KEY_PIN (R248, R557). -/
def execSysKeyPin (x : Issue) (cap : BitVec 3) (rs : BitVec 5) (s : State) : Res :=
  fetched "SYS_KEY_PIN" [cap.toNat, rs.toNat] x s <|
  sysCall x 1 cap rs noWait (effectOnly (fun a s => pinBlock (bits 23 0 a) s)) s

/-- SYS SESSION_CHECK (R271, R557): 1 while the session is open. -/
def execSysSessionCheck (x : Issue) (cap : BitVec 3) (rs : BitVec 5) (s : State) : Res :=
  fetched "SYS_SESSION_CHECK" [cap.toNat, rs.toNat] x s <|
  sysCall x 1 cap rs noWait (fun a s => (b2n (mfind a s.keys.sessions).isSome, s)) s

/-! ### Group 2: power -/

/-- A gated domain begins to wake (R740). -/
def startWake (d : Nat) (s : State) : State :=
  if d < 64 ∧ (domainAtP s d).state = .gated then
    forAll (domainUnits d) (fun p t => let u := unitAt t p; if u.state = .off ∧ u.enable then setUnitState p .waking .write t else t)
      (modDomain d (fun x => { x with state := .waking }) s)
  else s

/-- SYS DOMAIN_WAKE (R557, R740). -/
def execSysDomainWake (x : Issue) (cap : BitVec 3) (rs : BitVec 5) (s : State) : Res :=
  fetched "SYS_DOMAIN_WAKE" [cap.toNat, rs.toNat] x s <|
  sysCall x 2 cap rs noWait (effectOnly startWake) s

/-- SYS DOMAIN_GATE (R557, R740): a domain gates only where R740 lets it. -/
def execSysDomainGate (x : Issue) (cap : BitVec 3) (rs : BitVec 5) (s : State) : Res :=
  fetched "SYS_DOMAIN_GATE" [cap.toNat, rs.toNat] x s <|
  sysCall x 2 cap rs noWait (effectOnly (fun d s => if d < 64 ∧ (domainAtP s d).state = .on ∧ mayGate s d then gateDomain d s else s)) s

/-- SYS PRESSURE_READ (R557, R737): the pressure level. -/
def execSysPressureRead (x : Issue) (cap : BitVec 3) (rs : BitVec 5) (s : State) : Res :=
  fetched "SYS_PRESSURE_READ" [cap.toNat, rs.toNat] x s <|
  sysCall x 2 cap rs noWait (fun _ s => (level s, s)) s

/-! ### Group 3: events -/

/-- SYS EVT_RAISE (R489, R557): code in bits [15:0] and detail in [63:16], at the core's own page. -/
def execSysEvtRaise (x : Issue) (cap : BitVec 3) (rs : BitVec 5) (s : State) : Res :=
  fetched "SYS_EVT_RAISE" [cap.toNat, rs.toNat] x s <|
  sysCall x 3 cap rs noWait (effectOnly (fun a s => raise (corePage x.core) (bits 15 0 a) (bits 63 16 a) s)) s

/-- SYS EVT_ROUTE (R557, R756, R765): UNIT_EVT_ROUTE of the page in bits [13:0] takes bits [63:32], with its CONFIG record. -/
def execSysEvtRoute (x : Issue) (cap : BitVec 3) (rs : BitVec 5) (s : State) : Res :=
  fetched "SYS_EVT_ROUTE" [cap.toNat, rs.toNat] x s <|
  sysCall x 3 cap rs noWait (effectOnly (fun a s => headAuditedWrite (coreMaster s x.core) (bits 13 0 a) 0x038 (bits 63 32 a) s)) s

/-! ### Group 4: access gates -/

/-- Write a region register with its CONFIG record (R596): the block holds the master index in bytes 0 and 1, the region in byte 2 and its value in
bytes 8 to 15. -/
def sysRegion (m : Master) (b : Bytes) (s : State) : State :=
  let g := leAt 0 2 b
  let n := byteAt 2 b
  if g ≤ 34 ∧ n < 16 then writeBy m (gatePage g * 0x1000 + 0x400 + 8 * n) 8 (leAt 8 8 b) s else s

/-- SYS GATE_WRITE (R557, R596, R599). -/
def execSysGateWrite (x : Issue) (cap : BitVec 3) (rs : BitVec 5) (s : State) : Res :=
  fetched "SYS_GATE_WRITE" [cap.toNat, rs.toNat] x s <|
  sysCall x 4 cap rs noWait (effectOnly (fun a s => sysRegion (coreMaster s x.core) (blockArg x a s) s)) s

/-- SYS GATE_SYNC (R557, R596): every access checked under earlier rules has completed at once, so done reads 1 and 1 is written to g[rs]. -/
def execSysGateSync (x : Issue) (cap : BitVec 3) (rs : BitVec 5) (s : State) : Res :=
  fetched "SYS_GATE_SYNC" [cap.toNat, rs.toNat] x s <|
  sysCall x 4 cap rs noWait (fun _ s => (1, s)) s

/-! ### Group 5: cores -/

/-- SYS CORE_START (R557, R569): the core in g[rs] starts as vector 0. -/
def execSysCoreStart (x : Issue) (cap : BitVec 3) (rs : BitVec 5) (s : State) : Res :=
  fetched "SYS_CORE_START" [cap.toNat, rs.toNat] x s <|
  sysCall x 5 cap rs noWait (effectOnly (fun a s => if a ≤ 16 ∧ a ≠ x.core then startCore a s else s)) s

/-- SYS CORE_STOP (R557): the core in g[rs] stops. -/
def execSysCoreStop (x : Issue) (cap : BitVec 3) (rs : BitVec 5) (s : State) : Res :=
  fetched "SYS_CORE_STOP" [cap.toNat, rs.toNat] x s <|
  sysCall x 5 cap rs noWait (effectOnly (fun a s => if a ≤ 16 then modCore a (fun c => { c with mode := .idle }) s else s)) s

/-- SYS PM_WRITE (R530, R557): the block holds 28 bytes of syllables, the row in bytes 28 and 29 and the core in byte 30. -/
def execSysPmWrite (x : Issue) (cap : BitVec 3) (rs : BitVec 5) (s : State) : Res :=
  fetched "SYS_PM_WRITE" [cap.toNat, rs.toNat] x s <|
  sysCall x 5 cap rs noWait (effectOnly (fun a s =>
    let b := blockArg x a s
    if (byteAt 30 b < 16 ∧ leAt 28 2 b < 8192) ∨ (byteAt 30 b = 16 ∧ 4096 ≤ leAt 28 2 b ∧ leAt 28 2 b < 12288) then writeRow (byteAt 30 b) (leAt 28 2 b) (b.take 28) s else s)) s

/-- SYS HALT (R557): the core stops. -/
def execSysHalt (x : Issue) (cap : BitVec 3) (rs : BitVec 5) (s : State) : Res :=
  fetched "SYS_HALT" [cap.toNat, rs.toNat] x s <|
  sysCall x 5 cap rs noWait (effectOnly (fun _ s => modCore x.core (fun c => { c with mode := .idle }) s)) s

/-! ### Group 7: debug -/

/-- SYS TRACE_ON (R557, R572): st.trace of the core becomes 1. DEDUCED: log entry 72. -/
def execSysTraceOn (x : Issue) (cap : BitVec 3) (rs : BitVec 5) (s : State) : Res :=
  fetched "SYS_TRACE_ON" [cap.toNat, rs.toNat] x s <|
  sysCall x 7 cap rs noWait (effectOnly (fun _ s => modRegs x.core (fun r => { r with st := { r.st with trace := true } }) s)) s

/-- SYS TRACE_OFF (R557, R572). -/
def execSysTraceOff (x : Issue) (cap : BitVec 3) (rs : BitVec 5) (s : State) : Res :=
  fetched "SYS_TRACE_OFF" [cap.toNat, rs.toNat] x s <|
  sysCall x 7 cap rs noWait (effectOnly (fun _ s => modRegs x.core (fun r => { r with st := { r.st with trace := false } }) s)) s

/-- SYS BREAK_SET (R557, R577): a breakpoint at the program address in bits [17:0]; bit 63 takes it away. -/
def execSysBreakSet (x : Issue) (cap : BitVec 3) (rs : BitVec 5) (s : State) : Res :=
  fetched "SYS_BREAK_SET" [cap.toNat, rs.toNat] x s <|
  sysCall x 7 cap rs noWait (effectOnly (fun a s =>
    let b := BitVec.ofNat 18 a
    modCore x.core (fun c => { c with breaks := c.breaks.filter (fun y => decide (y ≠ b)) ++ (if bit 63 a then [] else [b]) }) s)) s

end Sys2Proof.Machine
end

