-- ==== Sys2Proof/Machine/Dispatch.lean ====
section
/-!
DEFINITION. Sys2Proof/Machine/Dispatch.lean: one arm for each command.
-/
namespace Sys2Proof.Machine
open Sys2Proof

/-- The effect of a command on everything but the queue. -/
def exec (i : Instr) (s : State) : Host.Outcome State Fault Refusal :=
  match i with
  | .powerGood => Sys2Proof.Machine.execPowerGood s
  | .perstRelease keyOk => Sys2Proof.Machine.execPerstRelease keyOk s
  | .bootVerifyDone tries => Sys2Proof.Machine.execBootVerifyDone tries s
  | .ucodeLoadDone load => Sys2Proof.Machine.execUcodeLoadDone load s
  | .dramWipeRegionDone => Sys2Proof.Machine.execDramWipeRegionDone s
  | .serviceStart trailerOk => Sys2Proof.Machine.execServiceStart trailerOk s
  | .vaultReplayEnd => Sys2Proof.Machine.execVaultReplayEnd s
  | .moduleReady ms => Sys2Proof.Machine.execModuleReady ms s
  | .persistentErasureDone => Sys2Proof.Machine.execPersistentErasureDone s
  | .conventionalReset => Sys2Proof.Machine.execConventionalReset s
  | .flr => Sys2Proof.Machine.execFlr s
  | .cxlReset => Sys2Proof.Machine.execCxlReset s
  | .hotResetOrLinkDown linkDown => Sys2Proof.Machine.execHotResetOrLinkDown linkDown s
  | .linkTrained cxl width rate eqFailed => Sys2Proof.Machine.execLinkTrained cxl width rate eqFailed s
  | .busMasterEnableClear => Sys2Proof.Machine.execBusMasterEnableClear s
  | .busMasterEnableSet => Sys2Proof.Machine.execBusMasterEnableSet s
  | .d3hotEntry => Sys2Proof.Machine.execD3hotEntry s
  | .d0Entry => Sys2Proof.Machine.execD0Entry s
  | .cacheEnableChange on => Sys2Proof.Machine.execCacheEnableChange on s
  | .ideIntegrityFail stream => Sys2Proof.Machine.execIdeIntegrityFail stream s
  | .ideKmRequest session stream km => Sys2Proof.Machine.execIdeKmRequest session stream km s
  | .doeDiscovery index => Sys2Proof.Machine.execDoeDiscovery index s
  | .cdatTableAccess handle => Sys2Proof.Machine.execCdatTableAccess handle s
  | .spdmGetVersion => Sys2Proof.Machine.execSpdmGetVersion s
  | .spdmGetCapabilities version => Sys2Proof.Machine.execSpdmGetCapabilities version s
  | .spdmNegotiateAlgorithms supported => Sys2Proof.Machine.execSpdmNegotiateAlgorithms supported s
  | .spdmGetDigests => Sys2Proof.Machine.execSpdmGetDigests s
  | .spdmGetCertificate slot off len => Sys2Proof.Machine.execSpdmGetCertificate slot off len s
  | .spdmChallenge slot nonce => Sys2Proof.Machine.execSpdmChallenge slot nonce s
  | .spdmGetMeasurements index sign nonce => Sys2Proof.Machine.execSpdmGetMeasurements index sign nonce s
  | .spdmKeyExchange session exchange => Sys2Proof.Machine.execSpdmKeyExchange session exchange s
  | .spdmFinish session verified => Sys2Proof.Machine.execSpdmFinish session verified s
  | .spdmHeartbeat session => Sys2Proof.Machine.execSpdmHeartbeat session s
  | .spdmKeyUpdate session => Sys2Proof.Machine.execSpdmKeyUpdate session s
  | .spdmEndSession session => Sys2Proof.Machine.execSpdmEndSession session s
  | .smbusRead off => Sys2Proof.Machine.execSmbusRead off s
  | .smbusWrite off value => Sys2Proof.Machine.execSmbusWrite off value s
  | .registerWrite m bar2 off width value => Sys2Proof.Machine.execRegisterWrite m bar2 off width value s
  | .swathStart => Sys2Proof.Machine.execSwathStart s
  | .closePhase energies inputUj => Sys2Proof.Machine.execClosePhase energies inputUj s
  | .checkpointForm => Sys2Proof.Machine.execCheckpointForm s
  | .checkpointSigned number passed => Sys2Proof.Machine.execCheckpointSigned number passed s
  | .cosignTimeout number => Sys2Proof.Machine.execCosignTimeout number s
  | .class2Ageing slot => Sys2Proof.Machine.execClass2Ageing slot s
  | .ringLineReadDone ch index data status why => Sys2Proof.Machine.execRingLineReadDone ch index data status why s
  | .snoopInv ch line => Sys2Proof.Machine.execSnoopInv ch line s
  | .snoopData ch line => Sys2Proof.Machine.execSnoopData ch line s
  | .pushWrite ch off data => Sys2Proof.Machine.execPushWrite ch off data s
  | .pushAssemblyTimeout ch => Sys2Proof.Machine.execPushAssemblyTimeout ch s
  | .chnSqDoorbell ch value => Sys2Proof.Machine.execChnSqDoorbell ch value s
  | .chnCqHead ch value => Sys2Proof.Machine.execChnCqHead ch value s
  | .chnEnable m ch => Sys2Proof.Machine.execChnEnable m ch s
  | .chnDisableDrain m ch => Sys2Proof.Machine.execChnDisableDrain m ch s
  | .chnDisableWithdraw m ch => Sys2Proof.Machine.execChnDisableWithdraw m ch s
  | .jobAdmission ch delay => Sys2Proof.Machine.execJobAdmission ch delay s
  | .inputReadDone slot data status => Sys2Proof.Machine.execInputReadDone slot data status s
  | .engineStepEnd slot step kind outcome => Sys2Proof.Machine.execEngineStepEnd slot step kind outcome s
  | .mldsaCutoff slot step => Sys2Proof.Machine.execMldsaCutoff slot step s
  | .outputConfirmed slot accepted => Sys2Proof.Machine.execOutputConfirmed slot accepted s
  | .keyFillDone block bay => Sys2Proof.Machine.execKeyFillDone block bay s
  | .abortWipeDone engine => Sys2Proof.Machine.execAbortWipeDone engine s
  | .cipherWipeDone engine => Sys2Proof.Machine.execCipherWipeDone engine s
  | .nonceBlockRequest holder => Sys2Proof.Machine.execNonceBlockRequest holder s
  | .maskReseed => Sys2Proof.Machine.execMaskReseed s
  | .opSkip ch => Sys2Proof.Machine.execOpSkip ch s
  | .opChain slot step => Sys2Proof.Machine.execOpChain slot step s
  | .opNop slot step => Sys2Proof.Machine.execOpNop slot step s
  | .opPkValidate slot step => Sys2Proof.Machine.execOpPkValidate slot step s
  | .opPkEcdsaSign slot step => Sys2Proof.Machine.execOpPkEcdsaSign slot step s
  | .opPkEcdsaVerify slot step => Sys2Proof.Machine.execOpPkEcdsaVerify slot step s
  | .opPkEddsaSign slot step => Sys2Proof.Machine.execOpPkEddsaSign slot step s
  | .opPkEddsaVerify slot step => Sys2Proof.Machine.execOpPkEddsaVerify slot step s
  | .opPkEcdh slot step => Sys2Proof.Machine.execOpPkEcdh slot step s
  | .opPkRsaSign slot step => Sys2Proof.Machine.execOpPkRsaSign slot step s
  | .opPkRsaVerify slot step => Sys2Proof.Machine.execOpPkRsaVerify slot step s
  | .opPkRsaEncrypt slot step => Sys2Proof.Machine.execOpPkRsaEncrypt slot step s
  | .opPkRsaDecrypt slot step => Sys2Proof.Machine.execOpPkRsaDecrypt slot step s
  | .opPkMldsaSign slot step => Sys2Proof.Machine.execOpPkMldsaSign slot step s
  | .opPkMldsaVerify slot step => Sys2Proof.Machine.execOpPkMldsaVerify slot step s
  | .opPkMlkemEncaps slot step => Sys2Proof.Machine.execOpPkMlkemEncaps slot step s
  | .opPkMlkemDecaps slot step => Sys2Proof.Machine.execOpPkMlkemDecaps slot step s
  | .opPkSlhdsaVerify slot step => Sys2Proof.Machine.execOpPkSlhdsaVerify slot step s
  | .opSymCbcEncrypt slot step => Sys2Proof.Machine.execOpSymCbcEncrypt slot step s
  | .opSymCbcDecrypt slot step => Sys2Proof.Machine.execOpSymCbcDecrypt slot step s
  | .opSymCtrEncrypt slot step => Sys2Proof.Machine.execOpSymCtrEncrypt slot step s
  | .opSymCtrDecrypt slot step => Sys2Proof.Machine.execOpSymCtrDecrypt slot step s
  | .opSymGcmEncrypt slot step => Sys2Proof.Machine.execOpSymGcmEncrypt slot step s
  | .opSymGcmDecrypt slot step => Sys2Proof.Machine.execOpSymGcmDecrypt slot step s
  | .opSymCmac slot step => Sys2Proof.Machine.execOpSymCmac slot step s
  | .opSymCmacVerify slot step => Sys2Proof.Machine.execOpSymCmacVerify slot step s
  | .opSymXtsEncrypt slot step => Sys2Proof.Machine.execOpSymXtsEncrypt slot step s
  | .opSymXtsDecrypt slot step => Sys2Proof.Machine.execOpSymXtsDecrypt slot step s
  | .opSymKeyWrap slot step => Sys2Proof.Machine.execOpSymKeyWrap slot step s
  | .opSymKeyUnwrap slot step => Sys2Proof.Machine.execOpSymKeyUnwrap slot step s
  | .opPayPinTranslate slot step => Sys2Proof.Machine.execOpPayPinTranslate slot step s
  | .opPayPinTranslateAesDukpt slot step => Sys2Proof.Machine.execOpPayPinTranslateAesDukpt slot step s
  | .opPayPinTranslateTdesDukpt slot step => Sys2Proof.Machine.execOpPayPinTranslateTdesDukpt slot step s
  | .opPayPinVerify slot step => Sys2Proof.Machine.execOpPayPinVerify slot step s
  | .opPayMacGenerate slot step => Sys2Proof.Machine.execOpPayMacGenerate slot step s
  | .opPayMacVerify slot step => Sys2Proof.Machine.execOpPayMacVerify slot step s
  | .opPayCvvGenerate slot step => Sys2Proof.Machine.execOpPayCvvGenerate slot step s
  | .opPayCvvVerify slot step => Sys2Proof.Machine.execOpPayCvvVerify slot step s
  | .opPayArqcVerify slot step => Sys2Proof.Machine.execOpPayArqcVerify slot step s
  | .opPayArpcGenerate slot step => Sys2Proof.Machine.execOpPayArpcGenerate slot step s
  | .opPayFf1Encrypt slot step => Sys2Proof.Machine.execOpPayFf1Encrypt slot step s
  | .opPayFf1Decrypt slot step => Sys2Proof.Machine.execOpPayFf1Decrypt slot step s
  | .opPayAuthRef slot step => Sys2Proof.Machine.execOpPayAuthRef slot step s
  | .opVltTokenise slot step => Sys2Proof.Machine.execOpVltTokenise slot step s
  | .opVltDetokenise slot step => Sys2Proof.Machine.execOpVltDetokenise slot step s
  | .opVltQuery slot step => Sys2Proof.Machine.execOpVltQuery slot step s
  | .opVltLookup slot step => Sys2Proof.Machine.execOpVltLookup slot step s
  | .opVltStatusSet slot step => Sys2Proof.Machine.execOpVltStatusSet slot step s
  | .opVltDomainSet slot step => Sys2Proof.Machine.execOpVltDomainSet slot step s
  | .opVltDomainInfo slot step => Sys2Proof.Machine.execOpVltDomainInfo slot step s
  | .opKeyGenerate slot step => Sys2Proof.Machine.execOpKeyGenerate slot step s
  | .opKeyImportX9143 slot step => Sys2Proof.Machine.execOpKeyImportX9143 slot step s
  | .opKeyImportRkl slot step => Sys2Proof.Machine.execOpKeyImportRkl slot step s
  | .opKeyImportPublic slot step => Sys2Proof.Machine.execOpKeyImportPublic slot step s
  | .opKeyInfo slot step => Sys2Proof.Machine.execOpKeyInfo slot step s
  | .opKeySetStatus slot step => Sys2Proof.Machine.execOpKeySetStatus slot step s
  | .opKeyRevoke slot step => Sys2Proof.Machine.execOpKeyRevoke slot step s
  | .opKeyDestroy slot step => Sys2Proof.Machine.execOpKeyDestroy slot step s
  | .opKeyReplicate slot step => Sys2Proof.Machine.execOpKeyReplicate slot step s
  | .opKeyPin slot step => Sys2Proof.Machine.execOpKeyPin slot step s
  | .opKeyUnpin slot step => Sys2Proof.Machine.execOpKeyUnpin slot step s
  | .opKeyRootLoad slot step => Sys2Proof.Machine.execOpKeyRootLoad slot step s
  | .opKeyTenantSigner slot step => Sys2Proof.Machine.execOpKeyTenantSigner slot step s
  | .opSesAppEnrol slot step => Sys2Proof.Machine.execOpSesAppEnrol slot step s
  | .opSesOpen slot step => Sys2Proof.Machine.execOpSesOpen slot step s
  | .opSesClose slot step => Sys2Proof.Machine.execOpSesClose slot step s
  | .opRngGenerate slot step => Sys2Proof.Machine.execOpRngGenerate slot step s
  | .opRngRaw slot step passed => Sys2Proof.Machine.execOpRngRaw slot step passed s
  | .opAudCheckpoint slot step => Sys2Proof.Machine.execOpAudCheckpoint slot step s
  | .opAudSegment slot step => Sys2Proof.Machine.execOpAudSegment slot step s
  | .opTenLoad slot step => Sys2Proof.Machine.execOpTenLoad slot step s
  | .opTenUnload slot step => Sys2Proof.Machine.execOpTenUnload slot step s
  | .opTenInfo slot step => Sys2Proof.Machine.execOpTenInfo slot step s
  | .tenantProgramInvoke slot step core => Sys2Proof.Machine.execTenantProgramInvoke slot step core s
  | .opFlsStageWrite slot step => Sys2Proof.Machine.execOpFlsStageWrite slot step s
  | .opFlsStageRead slot step => Sys2Proof.Machine.execOpFlsStageRead slot step s
  | .opFlsStageVerify slot step => Sys2Proof.Machine.execOpFlsStageVerify slot step s
  | .opFlsActivate slot step => Sys2Proof.Machine.execOpFlsActivate slot step s
  | .opLcRequest slot step => Sys2Proof.Machine.execOpLcRequest slot step s
  | .opLcStatus slot step => Sys2Proof.Machine.execOpLcStatus slot step s
  | .opHdgLogRead slot step => Sys2Proof.Machine.execOpHdgLogRead slot step s
  | .opSelftest slot step failed rng rows => Sys2Proof.Machine.execOpSelftest slot step failed rng rows s
  | .opSdcRestore slot step => Sys2Proof.Machine.execOpSdcRestore slot step s
  | .opSdcArchive slot step => Sys2Proof.Machine.execOpSdcArchive slot step s
  | .opSdcInfo slot step => Sys2Proof.Machine.execOpSdcInfo slot step s
  | .opFoldEnrol slot step => Sys2Proof.Machine.execOpFoldEnrol slot step s
  | .opFoldRemove slot step => Sys2Proof.Machine.execOpFoldRemove slot step s
  | .opFoldInfo slot step => Sys2Proof.Machine.execOpFoldInfo slot step s
  | .maintStart m activity => Sys2Proof.Machine.execMaintStart m activity s
  | .maintStop m activity => Sys2Proof.Machine.execMaintStop m activity s
  | .vaultRekeyLeaf => Sys2Proof.Machine.execVaultRekeyLeaf s
  | .vaultGcStep step => Sys2Proof.Machine.execVaultGcStep step s
  | .vaultPatrolPage block iterations => Sys2Proof.Machine.execVaultPatrolPage block iterations s
  | .dramPatrolRow channel corrected => Sys2Proof.Machine.execDramPatrolRow channel corrected s
  | .keyCacheRebuildBlock => Sys2Proof.Machine.execKeyCacheRebuildBlock s
  | .auditReserveCompaction block => Sys2Proof.Machine.execAuditReserveCompaction block s
  | .codeFlashStagingSector sector pulses passed => Sys2Proof.Machine.execCodeFlashStagingSector sector pulses passed s
  | .rngRebalanceSource source passed => Sys2Proof.Machine.execRngRebalanceSource source passed s
  | .rngRebalanceTimer => Sys2Proof.Machine.execRngRebalanceTimer s
  | .backupChunk => Sys2Proof.Machine.execBackupChunk s
  | .foldResyncItem member => Sys2Proof.Machine.execFoldResyncItem member s
  | .nandReadDone n decoded iterations micros => Sys2Proof.Machine.execNandReadDone n decoded iterations micros s
  | .nandProgramDone w block page passed => Sys2Proof.Machine.execNandProgramDone w block page passed s
  | .nandEraseDone block passed => Sys2Proof.Machine.execNandEraseDone block passed s
  | .mirrorTimeout slot => Sys2Proof.Machine.execMirrorTimeout slot s
  | .evtRateWindowEnd => Sys2Proof.Machine.execEvtRateWindowEnd s
  | .privilegedRecordClose => Sys2Proof.Machine.execPrivilegedRecordClose s
  | .tileBufferCollect => Sys2Proof.Machine.execTileBufferCollect s
  | .recProgramDone => Sys2Proof.Machine.execRecProgramDone s
  | .recCursorOldest => Sys2Proof.Machine.execRecCursorOldest s
  | .recCursorNewest => Sys2Proof.Machine.execRecCursorNewest s
  | .recCursorSeek => Sys2Proof.Machine.execRecCursorSeek s
  | .recCursorNext => Sys2Proof.Machine.execRecCursorNext s
  | .recCursorPrevious => Sys2Proof.Machine.execRecCursorPrevious s
  | .recWindowLoaded => Sys2Proof.Machine.execRecWindowLoaded s
  | .audRingEnable m log2 => Sys2Proof.Machine.execAudRingEnable m log2 s
  | .audRingDisable m => Sys2Proof.Machine.execAudRingDisable m s
  | .audRingHead value => Sys2Proof.Machine.execAudRingHead value s
  | .audPolicyToStop m => Sys2Proof.Machine.execAudPolicyToStop m s
  | .audPolicyToGap m => Sys2Proof.Machine.execAudPolicyToGap m s
  | .rngStartupEnd tests passed => Sys2Proof.Machine.execRngStartupEnd tests passed s
  | .rngTrimBlock source ones => Sys2Proof.Machine.execRngTrimBlock source ones s
  | .rngEstimateBlock source ones lags => Sys2Proof.Machine.execRngEstimateBlock source ones lags s
  | .rngSourceFail source repetition => Sys2Proof.Machine.execRngSourceFail source repetition s
  | .rngReseedComplete => Sys2Proof.Machine.execRngReseedComplete s
  | .drbgScheduledReseed => Sys2Proof.Machine.execDrbgScheduledReseed s
  | .rngWaitExpiry slot step => Sys2Proof.Machine.execRngWaitExpiry slot step s
  | .rngRestart m => Sys2Proof.Machine.execRngRestart m s
  | .rngMinSourcesWrite m value => Sys2Proof.Machine.execRngMinSourcesWrite m value s
  | .sigSelftestStart m engine => Sys2Proof.Machine.execSigSelftestStart m engine s
  | .sigSelftestEnd passed => Sys2Proof.Machine.execSigSelftestEnd passed s
  | .keyBayFlush m bays => Sys2Proof.Machine.execKeyBayFlush m bays s
  | .stlKeyHandleWrite m handle => Sys2Proof.Machine.execStlKeyHandleWrite m handle s
  | .amMovS x rd rs => Sys2Proof.Machine.execAmMovS x rd rs s
  | .amAddS x rd rs => Sys2Proof.Machine.execAmAddS x rd rs s
  | .amSubS x rd rs => Sys2Proof.Machine.execAmSubS x rd rs s
  | .amNopS x => Sys2Proof.Machine.execAmNopS x s
  | .amIncS x rd => Sys2Proof.Machine.execAmIncS x rd s
  | .amDecS x rd => Sys2Proof.Machine.execAmDecS x rd s
  | .amNotS x rd => Sys2Proof.Machine.execAmNotS x rd s
  | .amNegS x rd => Sys2Proof.Machine.execAmNegS x rd s
  | .amShl1S x rd => Sys2Proof.Machine.execAmShl1S x rd s
  | .amShr1S x rd => Sys2Proof.Machine.execAmShr1S x rd s
  | .amClrS x rd => Sys2Proof.Machine.execAmClrS x rd s
  | .amAdd x rd rs1 rs2 => Sys2Proof.Machine.execAmAdd x rd rs1 rs2 s
  | .amSub x rd rs1 rs2 => Sys2Proof.Machine.execAmSub x rd rs1 rs2 s
  | .amAnd x rd rs1 rs2 => Sys2Proof.Machine.execAmAnd x rd rs1 rs2 s
  | .amOr x rd rs1 rs2 => Sys2Proof.Machine.execAmOr x rd rs1 rs2 s
  | .amXor x rd rs1 rs2 => Sys2Proof.Machine.execAmXor x rd rs1 rs2 s
  | .amAndn x rd rs1 rs2 => Sys2Proof.Machine.execAmAndn x rd rs1 rs2 s
  | .amShl x rd rs1 rs2 => Sys2Proof.Machine.execAmShl x rd rs1 rs2 s
  | .amShr x rd rs1 rs2 => Sys2Proof.Machine.execAmShr x rd rs1 rs2 s
  | .amSar x rd rs1 rs2 => Sys2Proof.Machine.execAmSar x rd rs1 rs2 s
  | .amRol x rd rs1 rs2 => Sys2Proof.Machine.execAmRol x rd rs1 rs2 s
  | .amRor x rd rs1 rs2 => Sys2Proof.Machine.execAmRor x rd rs1 rs2 s
  | .amMin x rd rs1 rs2 => Sys2Proof.Machine.execAmMin x rd rs1 rs2 s
  | .amMax x rd rs1 rs2 => Sys2Proof.Machine.execAmMax x rd rs1 rs2 s
  | .amMinu x rd rs1 rs2 => Sys2Proof.Machine.execAmMinu x rd rs1 rs2 s
  | .amMaxu x rd rs1 rs2 => Sys2Proof.Machine.execAmMaxu x rd rs1 rs2 s
  | .amClz x rd rs1 => Sys2Proof.Machine.execAmClz x rd rs1 s
  | .amPopc x rd rs1 => Sys2Proof.Machine.execAmPopc x rd rs1 s
  | .amBswap x rd rs1 => Sys2Proof.Machine.execAmBswap x rd rs1 s
  | .amMul x rd rs1 rs2 => Sys2Proof.Machine.execAmMul x rd rs1 rs2 s
  | .amMulh x rd rs1 rs2 => Sys2Proof.Machine.execAmMulh x rd rs1 rs2 s
  | .amMulhu x rd rs1 rs2 => Sys2Proof.Machine.execAmMulhu x rd rs1 rs2 s
  | .amMac x rd rs1 rs2 => Sys2Proof.Machine.execAmMac x rd rs1 rs2 s
  | .amAddi x rd rs1 imm => Sys2Proof.Machine.execAmAddi x rd rs1 imm s
  | .amAndi x rd rs1 imm => Sys2Proof.Machine.execAmAndi x rd rs1 imm s
  | .amOri x rd rs1 imm => Sys2Proof.Machine.execAmOri x rd rs1 imm s
  | .amXori x rd rs1 imm => Sys2Proof.Machine.execAmXori x rd rs1 imm s
  | .amShli x rd rs1 imm => Sys2Proof.Machine.execAmShli x rd rs1 imm s
  | .amShri x rd rs1 imm => Sys2Proof.Machine.execAmShri x rd rs1 imm s
  | .amSari x rd rs1 imm => Sys2Proof.Machine.execAmSari x rd rs1 imm s
  | .amRori x rd rs1 imm => Sys2Proof.Machine.execAmRori x rd rs1 imm s
  | .amLi x rd imm => Sys2Proof.Machine.execAmLi x rd imm s
  | .amAddi3 x rd rs1 imm => Sys2Proof.Machine.execAmAddi3 x rd rs1 imm s
  | .amAndi3 x rd rs1 imm => Sys2Proof.Machine.execAmAndi3 x rd rs1 imm s
  | .amOri3 x rd rs1 imm => Sys2Proof.Machine.execAmOri3 x rd rs1 imm s
  | .amXori3 x rd rs1 imm => Sys2Proof.Machine.execAmXori3 x rd rs1 imm s
  | .amShli3 x rd rs1 imm => Sys2Proof.Machine.execAmShli3 x rd rs1 imm s
  | .amShri3 x rd rs1 imm => Sys2Proof.Machine.execAmShri3 x rd rs1 imm s
  | .amSari3 x rd rs1 imm => Sys2Proof.Machine.execAmSari3 x rd rs1 imm s
  | .amRori3 x rd rs1 imm => Sys2Proof.Machine.execAmRori3 x rd rs1 imm s
  | .amLi3 x rd imm => Sys2Proof.Machine.execAmLi3 x rd imm s
  | .amLih x rd imm => Sys2Proof.Machine.execAmLih x rd imm s
  | .amCmpeq x pd rs1 rs2 => Sys2Proof.Machine.execAmCmpeq x pd rs1 rs2 s
  | .amCmpne x pd rs1 rs2 => Sys2Proof.Machine.execAmCmpne x pd rs1 rs2 s
  | .amCmplt x pd rs1 rs2 => Sys2Proof.Machine.execAmCmplt x pd rs1 rs2 s
  | .amCmpge x pd rs1 rs2 => Sys2Proof.Machine.execAmCmpge x pd rs1 rs2 s
  | .amCmpltu x pd rs1 rs2 => Sys2Proof.Machine.execAmCmpltu x pd rs1 rs2 s
  | .amCmpgeu x pd rs1 rs2 => Sys2Proof.Machine.execAmCmpgeu x pd rs1 rs2 s
  | .amCmpeqi x pd rs1 imm => Sys2Proof.Machine.execAmCmpeqi x pd rs1 imm s
  | .amCmpnei x pd rs1 imm => Sys2Proof.Machine.execAmCmpnei x pd rs1 imm s
  | .amCmplti x pd rs1 imm => Sys2Proof.Machine.execAmCmplti x pd rs1 imm s
  | .amCmpgei x pd rs1 imm => Sys2Proof.Machine.execAmCmpgei x pd rs1 imm s
  | .amCmpltui x pd rs1 imm => Sys2Proof.Machine.execAmCmpltui x pd rs1 imm s
  | .amCmpgeui x pd rs1 imm => Sys2Proof.Machine.execAmCmpgeui x pd rs1 imm s
  | .amPand x pd ps1 ps2 => Sys2Proof.Machine.execAmPand x pd ps1 ps2 s
  | .amPor x pd ps1 ps2 => Sys2Proof.Machine.execAmPor x pd ps1 ps2 s
  | .amPxor x pd ps1 ps2 => Sys2Proof.Machine.execAmPxor x pd ps1 ps2 s
  | .amPandn x pd ps1 ps2 => Sys2Proof.Machine.execAmPandn x pd ps1 ps2 s
  | .amMfs x rd code => Sys2Proof.Machine.execAmMfs x rd code s
  | .amMts x code rs => Sys2Proof.Machine.execAmMts x code rs s
  | .amLdB x rd rb cap off => Sys2Proof.Machine.execAmLdB x rd rb cap off s
  | .amLdH x rd rb cap off => Sys2Proof.Machine.execAmLdH x rd rb cap off s
  | .amLdW x rd rb cap off => Sys2Proof.Machine.execAmLdW x rd rb cap off s
  | .amLdD x rd rb cap off => Sys2Proof.Machine.execAmLdD x rd rb cap off s
  | .amLdsB x rd rb cap off => Sys2Proof.Machine.execAmLdsB x rd rb cap off s
  | .amLdsH x rd rb cap off => Sys2Proof.Machine.execAmLdsH x rd rb cap off s
  | .amLdsW x rd rb cap off => Sys2Proof.Machine.execAmLdsW x rd rb cap off s
  | .amStB x rs rb cap off => Sys2Proof.Machine.execAmStB x rs rb cap off s
  | .amStH x rs rb cap off => Sys2Proof.Machine.execAmStH x rs rb cap off s
  | .amStW x rs rb cap off => Sys2Proof.Machine.execAmStW x rs rb cap off s
  | .amStD x rs rb cap off => Sys2Proof.Machine.execAmStD x rs rb cap off s
  | .amLdxD x rd rb cap pl off => Sys2Proof.Machine.execAmLdxD x rd rb cap pl off s
  | .amLdc x cd rb cap off => Sys2Proof.Machine.execAmLdc x cd rb cap off s
  | .amStc x cs rb cap off => Sys2Proof.Machine.execAmStc x cs rb cap off s
  | .amLdcx x cd rb cap pl off => Sys2Proof.Machine.execAmLdcx x cd rb cap pl off s
  | .amStcx x cs rb cap off => Sys2Proof.Machine.execAmStcx x cs rb cap off s
  | .amB x disp => Sys2Proof.Machine.execAmB x disp s
  | .amCall x disp => Sys2Proof.Machine.execAmCall x disp s
  | .amBr x rs => Sys2Proof.Machine.execAmBr x rs s
  | .amCallr x rs => Sys2Proof.Machine.execAmCallr x rs s
  | .amLoop x level rc endOff => Sys2Proof.Machine.execAmLoop x level rc endOff s
  | .amGate x cd cs ct => Sys2Proof.Machine.execAmGate x cd cs ct s
  | .amRetc x => Sys2Proof.Machine.execAmRetc x s
  | .amCcopy x cd cs => Sys2Proof.Machine.execAmCcopy x cd cs s
  | .amCtrim x cd cs rs => Sys2Proof.Machine.execAmCtrim x cd cs rs s
  | .amCread x rd cs field => Sys2Proof.Machine.execAmCread x rd cs field s
  | .amCwrap x cd cs ct => Sys2Proof.Machine.execAmCwrap x cd cs ct s
  | .amCunwrap x cd cs ct => Sys2Proof.Machine.execAmCunwrap x cd cs ct s
  | .amCvoid x cd => Sys2Proof.Machine.execAmCvoid x cd s
  | .amCgrant x cd cs rs => Sys2Proof.Machine.execAmCgrant x cd cs rs s
  | .amCclip x cd cs ro rl => Sys2Proof.Machine.execAmCclip x cd cs ro rl s
  | .amWait x pl => Sys2Proof.Machine.execAmWait x pl s
  | .amFenceS x => Sys2Proof.Machine.execAmFenceS x s
  | .amYield x => Sys2Proof.Machine.execAmYield x s
  | .amDone x rs rl => Sys2Proof.Machine.execAmDone x rs rl s
  | .amBreak x tag => Sys2Proof.Machine.execAmBreak x tag s
  | .amNop x => Sys2Proof.Machine.execAmNop x s
  | .sysStepBind x cap rs => Sys2Proof.Machine.execSysStepBind x cap rs s
  | .sysStepEnd x cap rs => Sys2Proof.Machine.execSysStepEnd x cap rs s
  | .sysWindrowPost x cap rs => Sys2Proof.Machine.execSysWindrowPost x cap rs s
  | .sysLedgerRead x cap rs => Sys2Proof.Machine.execSysLedgerRead x cap rs s
  | .sysKeyFetch x cap rs => Sys2Proof.Machine.execSysKeyFetch x cap rs s
  | .sysKeySeal x cap rs => Sys2Proof.Machine.execSysKeySeal x cap rs s
  | .sysKeyPin x cap rs => Sys2Proof.Machine.execSysKeyPin x cap rs s
  | .sysSessionCheck x cap rs => Sys2Proof.Machine.execSysSessionCheck x cap rs s
  | .sysDomainWake x cap rs => Sys2Proof.Machine.execSysDomainWake x cap rs s
  | .sysDomainGate x cap rs => Sys2Proof.Machine.execSysDomainGate x cap rs s
  | .sysPressureRead x cap rs => Sys2Proof.Machine.execSysPressureRead x cap rs s
  | .sysEvtRaise x cap rs => Sys2Proof.Machine.execSysEvtRaise x cap rs s
  | .sysEvtRoute x cap rs => Sys2Proof.Machine.execSysEvtRoute x cap rs s
  | .sysGateWrite x cap rs => Sys2Proof.Machine.execSysGateWrite x cap rs s
  | .sysGateSync x cap rs => Sys2Proof.Machine.execSysGateSync x cap rs s
  | .sysCoreStart x cap rs => Sys2Proof.Machine.execSysCoreStart x cap rs s
  | .sysCoreStop x cap rs => Sys2Proof.Machine.execSysCoreStop x cap rs s
  | .sysPmWrite x cap rs => Sys2Proof.Machine.execSysPmWrite x cap rs s
  | .sysHalt x cap rs => Sys2Proof.Machine.execSysHalt x cap rs s
  | .sysTraceOn x cap rs => Sys2Proof.Machine.execSysTraceOn x cap rs s
  | .sysTraceOff x cap rs => Sys2Proof.Machine.execSysTraceOff x cap rs s
  | .sysBreakSet x cap rs => Sys2Proof.Machine.execSysBreakSet x cap rs s
  | .flsRead src corrected => Sys2Proof.Machine.execFlsRead src corrected s
  | .flsProgram src => Sys2Proof.Machine.execFlsProgram src s
  | .flsErase src => Sys2Proof.Machine.execFlsErase src s
  | .flsSuspend src => Sys2Proof.Machine.execFlsSuspend src s
  | .flsResume src => Sys2Proof.Machine.execFlsResume src s
  | .flsProgramEnd partition => Sys2Proof.Machine.execFlsProgramEnd partition s
  | .flsEraseEnd partition pulses passed => Sys2Proof.Machine.execFlsEraseEnd partition pulses passed s
  | .flsSuspendDone partition => Sys2Proof.Machine.execFlsSuspendDone partition s
  | .splitLoadLanding core ok => Sys2Proof.Machine.execSplitLoadLanding core ok s
  | .lateStoreError core cause => Sys2Proof.Machine.execLateStoreError core cause s
  | .interruptEntry core => Sys2Proof.Machine.execInterruptEntry core s
  | .stepBudgetExpiry core clock => Sys2Proof.Machine.execStepBudgetExpiry core clock s
  | .unitEnable m page => Sys2Proof.Machine.execUnitEnable m page s
  | .unitDisableDrain m page => Sys2Proof.Machine.execUnitDisableDrain m page s
  | .unitDisableWithdraw m page => Sys2Proof.Machine.execUnitDisableWithdraw m page s
  | .unitIsolate m page => Sys2Proof.Machine.execUnitIsolate m page s
  | .unitUnisolate m page => Sys2Proof.Machine.execUnitUnisolate m page s
  | .unitProfileWrite m plane value => Sys2Proof.Machine.execUnitProfileWrite m plane value s
  | .unitEvtPendClear page mask => Sys2Proof.Machine.execUnitEvtPendClear page mask s
  | .unitErrCapt3Read m page => Sys2Proof.Machine.execUnitErrCapt3Read m page s
  | .domainIdleGate d => Sys2Proof.Machine.execDomainIdleGate d s
  | .domainWakeDone d => Sys2Proof.Machine.execDomainWakeDone d s
  | .domainShortLatch d => Sys2Proof.Machine.execDomainShortLatch d s
  | .pwrDomainClear m high mask => Sys2Proof.Machine.execPwrDomainClear m high mask s
  | .powerFailStart mv rail => Sys2Proof.Machine.execPowerFailStart mv rail s
  | .powerFailFlushDone => Sys2Proof.Machine.execPowerFailFlushDone s
  | .railsOff input => Sys2Proof.Machine.execRailsOff input s
  | .overvoltageClamp mv => Sys2Proof.Machine.execOvervoltageClamp mv s
  | .overvoltageTimeout => Sys2Proof.Machine.execOvervoltageTimeout s
  | .reverseInput => Sys2Proof.Machine.execReverseInput s
  | .currentLimitHold => Sys2Proof.Machine.execCurrentLimitHold s
  | .pressureRise mv ma => Sys2Proof.Machine.execPressureRise mv ma s
  | .pressureFall mv ma => Sys2Proof.Machine.execPressureFall mv ma s
  | .holdupTest uf mv => Sys2Proof.Machine.execHoldupTest uf mv s
  | .thermalSample temps odd => Sys2Proof.Machine.execThermalSample temps odd s
  | .throttleEnd sensor => Sys2Proof.Machine.execThrottleEnd sensor s
  | .thermalProfileExit plane => Sys2Proof.Machine.execThermalProfileExit plane s
  | .thermalShutdownRecover d => Sys2Proof.Machine.execThermalShutdownRecover d s
  | .hedgeSensorTrip cause detail value => Sys2Proof.Machine.execHedgeSensorTrip cause detail value s
  | .keeperSecondsTick extMv cellMv => Sys2Proof.Machine.execKeeperSecondsTick extMv cellMv s
  | .cardInserted => Sys2Proof.Machine.execCardInserted s
  | .cardRemoved => Sys2Proof.Machine.execCardRemoved s
  | .cardShort => Sys2Proof.Machine.execCardShort s
  | .cardAtrTimeout => Sys2Proof.Machine.execCardAtrTimeout s
  | .cardRetry m => Sys2Proof.Machine.execCardRetry m s
  | .cardResponse reader reply => Sys2Proof.Machine.execCardResponse reader reply s
  | .btnAccept => Sys2Proof.Machine.execBtnAccept s
  | .btnReject => Sys2Proof.Machine.execBtnReject s
  | .presentationButtonTimeout reader => Sys2Proof.Machine.execPresentationButtonTimeout reader s
  | .presentationAbandon reader => Sys2Proof.Machine.execPresentationAbandon reader s
  | .ceremonyWindowEnd => Sys2Proof.Machine.execCeremonyWindowEnd s
  | .ceremonyCancel m => Sys2Proof.Machine.execCeremonyCancel m s
  | .rdrPing amplitude antenna => Sys2Proof.Machine.execRdrPing amplitude antenna s
  | .rdrAntennaFault short => Sys2Proof.Machine.execRdrAntennaFault short s
  | .rdrFrameReceived frame => Sys2Proof.Machine.execRdrFrameReceived frame s
  | .stileFieldEntry => Sys2Proof.Machine.execStileFieldEntry s
  | .stileFieldLoss => Sys2Proof.Machine.execStileFieldLoss s
  | .stileReqa => Sys2Proof.Machine.execStileReqa s
  | .stileWupa => Sys2Proof.Machine.execStileWupa s
  | .stileAnticollision known => Sys2Proof.Machine.execStileAnticollision known s
  | .stileSelectFrame uid bcc => Sys2Proof.Machine.execStileSelectFrame uid bcc s
  | .stileRats => Sys2Proof.Machine.execStileRats s
  | .stileHlta => Sys2Proof.Machine.execStileHlta s
  | .stileRBlock ack number => Sys2Proof.Machine.execStileRBlock ack number s
  | .stileWtxResponse => Sys2Proof.Machine.execStileWtxResponse s
  | .stileDeselect => Sys2Proof.Machine.execStileDeselect s
  | .stileApduSelect aid written => Sys2Proof.Machine.execStileApduSelect aid written s
  | .stileReadStatement offset le => Sys2Proof.Machine.execStileReadStatement offset le s
  | .stileGetStatus challenge => Sys2Proof.Machine.execStileGetStatus challenge s
  | .stileReadLog back le => Sys2Proof.Machine.execStileReadLog back le s
  | .stileWtxTimer => Sys2Proof.Machine.execStileWtxTimer s
  | .stileWireWrite addr data held => Sys2Proof.Machine.execStileWireWrite addr data held s
  | .stileStatementRefresh => Sys2Proof.Machine.execStileStatementRefresh s
  | .sdcInserted card => Sys2Proof.Machine.execSdcInserted card s
  | .sdcRemoved => Sys2Proof.Machine.execSdcRemoved s
  | .sdcRetuneTimer taps => Sys2Proof.Machine.execSdcRetuneTimer taps s
  | .sdcCommandDone crcOk taps => Sys2Proof.Machine.execSdcCommandDone crcOk taps s
  | .sdcBusyEnd error => Sys2Proof.Machine.execSdcBusyEnd error s
  | .foldPortEnable m port => Sys2Proof.Machine.execFoldPortEnable m port s
  | .foldPortDisable m port => Sys2Proof.Machine.execFoldPortDisable m port s
  | .foldBlockLock port => Sys2Proof.Machine.execFoldBlockLock port s
  | .foldBlockLockLost port => Sys2Proof.Machine.execFoldBlockLockLost port s
  | .foldHandshakeTimeout port => Sys2Proof.Machine.execFoldHandshakeTimeout port s
  | .foldRefusedRetry port => Sys2Proof.Machine.execFoldRefusedRetry port s
  | .foldIdleTimeout port => Sys2Proof.Machine.execFoldIdleTimeout port s
  | .foldHello port body => Sys2Proof.Machine.execFoldHello port body s
  | .foldFinish port tag => Sys2Proof.Machine.execFoldFinish port tag s
  | .foldEcho f => Sys2Proof.Machine.execFoldEcho f s
  | .foldEchoReply f ns => Sys2Proof.Machine.execFoldEchoReply f ns s
  | .foldRoute f => Sys2Proof.Machine.execFoldRoute f s
  | .foldMirror f => Sys2Proof.Machine.execFoldMirror f s
  | .foldMirrorAck f => Sys2Proof.Machine.execFoldMirrorAck f s
  | .foldKeyRepl f => Sys2Proof.Machine.execFoldKeyRepl f s
  | .foldKeyAck f => Sys2Proof.Machine.execFoldKeyAck f s
  | .foldDomainRepl f => Sys2Proof.Machine.execFoldDomainRepl f s
  | .foldDomainAck f => Sys2Proof.Machine.execFoldDomainAck f s
  | .foldCosignReq f => Sys2Proof.Machine.execFoldCosignReq f s
  | .foldCosignResp f => Sys2Proof.Machine.execFoldCosignResp f s
  | .foldResyncState f => Sys2Proof.Machine.execFoldResyncState f s
  | .foldClose port => Sys2Proof.Machine.execFoldClose port s
  | .registerRead m bar2 off width => Sys2Proof.Machine.execRegisterRead m bar2 off width s
  | .doeUnservedRequest vendor type => Sys2Proof.Machine.execDoeUnservedRequest vendor type s
  | .spdmUnsupportedRequest code => Sys2Proof.Machine.execSpdmUnsupportedRequest code s
  | .correctableLinkError status => Sys2Proof.Machine.execCorrectableLinkError status s
  | .foldFrameDiscarded port macsec codewords => Sys2Proof.Machine.execFoldFrameDiscarded port macsec codewords s
  | .cardAtr malformed classes t0 t1 fmax => Sys2Proof.Machine.execCardAtr malformed classes t0 t1 fmax s
  | .cardProtocolTimeout => Sys2Proof.Machine.execCardProtocolTimeout s
  | .rdrResponseTimeout => Sys2Proof.Machine.execRdrResponseTimeout s
  | .stileUnlistedFrame apdu => Sys2Proof.Machine.execStileUnlistedFrame apdu s
  | .bufferedStoreDone core => Sys2Proof.Machine.execBufferedStoreDone core s
  | .conditionedBlockReady => Sys2Proof.Machine.execConditionedBlockReady s

end Sys2Proof.Machine
end

