-- ==== Sys2Proof/Safety.lean ====
section
/-!
DEFINITION. Sys2Proof/Safety.lean: what counts as a step that went on, and the canonical form of the memories.
-/
namespace Sys2Proof.Machine

/-- The outcome is a next state. -/
def goesOn (o : Host.Outcome State Fault Refusal) : Bool :=
  match o with
  | .next _ => true
  | _ => false

/-- The memories are in canonical form: rising addresses, and no entry equal to what an unlisted address reads as (0, and a clear tag): control SRAM with its tags,
DRAM, the tag's ferroelectric memory, and every core's data memory with its tags. -/
def Memory.wf (s : State) : Bool :=
  canonical 0 s.sram && canonical false s.sramTags && canonical 0 s.dram && canonical 0 s.stile.mem && s.cores.all (fun e => canonical 0 e.2.data && canonical false e.2.tags)

end Sys2Proof.Machine
end

