-- ==== Sys2Proof/Certificates/Slice0/Obligations.lean ====
section
/-!
DEFINITION. Sys2Proof/Certificates/Slice0/Obligations.lean: the statements for the provers. A statement that a command completes gives the next state by the
named operations of the model that the cited rules describe; what those operations do is stated beside it. Hypotheses speak of the state and the operands.
-/
namespace Sys2Proof.Statements
open Sys2Proof Sys2Proof.Machine

/-! ### Instructions of the cores -/

/-- The state in which an instruction is examined: the fabric clock within the swath is the one it issues at (R524, code 10). -/
def atIssue (x : Issue) (s : State) : State := if x.clock < 25000 then { s with sched := { s.sched with clock := BitVec.ofNat 15 x.clock } } else s

/-- The registers of the core that issues. -/
def regsOf (x : Issue) (s : State) : CoreRegs := (coreAt s x.core).regs

/-- The instruction issues, its guard holds and it raises nothing (R525, R526, R543, R544, R566, R577, R582): the core runs, no exception waits at this
boundary, and neither its fetch, its encoding and placement, its guard predicate, its own operands nor a breakpoint is a cause. -/
structure TakesEffect (s : State) (x : Issue) (sh : Shape) (own : List CoreCause) : Prop where
  runs : coreRuns s x.core = true
  calm : (!(regsOf x s).delay && decide ((regsOf x s).shadow = 0)) = true →
    (coreAt s x.core).overrun = none ∧ (coreAt s x.core).late = [] ∧ (regsOf x s).st.trace = false
  fetched : fetchCauses s x = []
  placed : placementCauses s x sh = []
  guardKnown : pFailed (regsOf x s) x.guard = false
  guardOn : guardOn (regsOf x s) x = true
  allowed : own = []
  unbroken : (regsOf x s).pc ∉ (coreAt s x.core).breaks ∨ (regsOf x s).returned = true

/-- The instruction `i` answers the next state `t` wherever the program row at the core's pc spells it, or nothing has written that row (R525, R527, R532 to R534;
DESIGN CHOICE, log entry 70). -/
def Issued (i : Instr) (x : Issue) (s t : State) : Prop := spelledBy i x s = true → exec i s = .next t

/-- The state after an instruction whose effect on registers is `f`: the instruction is counted, delayed writes come one nearer and the program address
moves on. -/
def afterRegs (x : Issue) (f : CoreRegs → CoreRegs) (s : State) : State :=
  modRegs x.core (advance x.len false) (counted x.core (modRegs x.core f s))

/-- The state after an instruction whose one result is a general register, with its latency. -/
def gives (x : Issue) (rd : BitVec 5) (latency : Nat) (v : BitVec 64) (s : State) : State := afterRegs x (writeG rd v latency) s

/-- The state after an instruction whose one result is a predicate. -/
def givesP (x : Issue) (pd : BitVec 3) (v : Bool) (s : State) : State := afterRegs x (writeP pd v) s

/-- The state after an instruction whose one result is a capability register, with its latency. -/
def givesC (x : Issue) (cd : BitVec 3) (latency : Nat) (v : Cap) (s : State) : State := afterRegs x (writeC cd v latency) s

end Sys2Proof.Statements

open Sys2Proof Sys2Proof.Machine Sys2Proof.Statements

/-! ## Amieso -/

/-- R525, R527 to R530, R532 to R534: what the payloads of one to three syllables spell, the length in bits [9:8] of the head; a row that the sealing port has written
passes its seal; and a command for an instruction that the row at the pc does not spell has no effect (DESIGN CHOICE, log entry 70). -/
def Sys2Proof.Statements.RowsSpellInstructions : Prop :=
  (∀ rd rs : BitVec 3, decodePayload 1 (rd.toNat * 8 + rs.toNat) = some ("MOV_S", [(rd.toNat : Int), rs.toNat])) ∧ decodePayload 1 0xC0 = some ("NOP_S", []) ∧
  (∀ rd a b : BitVec 5, decodePayload 2 (0x1B * 2 ^ 15 + rd.toNat * 2 ^ 10 + a.toNat * 2 ^ 5 + b.toNat) = some ("MAC", [(rd.toNat : Int), a.toNat, b.toNat])) ∧
  (∀ (rd rb : BitVec 5) (cap : BitVec 3) (k : BitVec 2),
    decodePayload 2 (0x43 * 2 ^ 15 + rd.toNat * 2 ^ 10 + rb.toNat * 2 ^ 5 + cap.toNat * 2 ^ 2 + k.toNat) = some ("LD_D", [(rd.toNat : Int), rb.toNat, cap.toNat, 8 * k.toNat])) ∧
  (∀ d : BitVec 30, decodePayload 3 (0x30 * 2 ^ 30 + d.toNat) = some ("B", [d.toInt])) ∧
  (∀ (rd : BitVec 5) (i : BitVec 25), decodePayload 3 (0x08 * 2 ^ 30 + rd.toNat * 2 ^ 25 + i.toNat) = some ("LI3", [(rd.toNat : Int), i.toNat])) ∧
  (∀ (s : State) (n row : Nat) (code : Bytes), sealFails (writeRow n row code s) n row = false ∧
    ∀ i < 16, syllableAt (writeRow n row code s) n (16 * row + i) = some (bits 13 0 (leNat (fit 28 code) / 2 ^ (14 * i)))) ∧
  (∀ (s : State) (x : Issue) (rd rs1 rs2 : BitVec 5), spelledBy (.amAdd x rd rs1 rs2) x s = false → exec (.amAdd x rd rs1 rs2) s = .next s)

/-- R523, R533, R539: each one-syllable operation issues, and its result reaches g8 to g15 with latency 1. -/
def Sys2Proof.Statements.ShortFormsWriteTheirResult : Prop :=
  ∀ (s0 : State) (x : Issue) (rd rs : BitVec 3), TakesEffect (atIssue x s0) x {} [] →
    let s := atIssue x s0
    let d := lowReg rd
    let a := gRead (regsOf x s) d
    let b := gRead (regsOf x s) (lowReg rs)
    Issued (.amMovS x rd rs) x s0 (gives x d 1 b s) ∧
    Issued (.amAddS x rd rs) x s0 (gives x d 1 (a + b) s) ∧
    Issued (.amSubS x rd rs) x s0 (gives x d 1 (a - b) s) ∧
    Issued (.amIncS x rd) x s0 (gives x d 1 (a + 1) s) ∧
    Issued (.amDecS x rd) x s0 (gives x d 1 (a - 1) s) ∧
    Issued (.amNotS x rd) x s0 (gives x d 1 (~~~ a) s) ∧
    Issued (.amNegS x rd) x s0 (gives x d 1 (-a) s) ∧
    Issued (.amShl1S x rd) x s0 (gives x d 1 (a <<< 1) s) ∧
    Issued (.amShr1S x rd) x s0 (gives x d 1 (a >>> 1) s) ∧
    Issued (.amClrS x rd) x s0 (gives x d 1 0 s) ∧
    Issued (.amNopS x) x s0 (afterRegs x id s) ∧
    Issued (.amNop x) x s0 (afterRegs x id s)

/-- R534, R539: the three-register operations, the bit counts and byte reversal write their results with latency 1, the multiplies with latency 3. -/
def Sys2Proof.Statements.RegisterFormsWriteTheirResult : Prop :=
  ∀ (s0 : State) (x : Issue) (rd rs1 rs2 : BitVec 5), TakesEffect (atIssue x s0) x {} [] →
    let s := atIssue x s0
    let a := gRead (regsOf x s) rs1
    let b := gRead (regsOf x s) rs2
    Issued (.amAdd x rd rs1 rs2) x s0 (gives x rd 1 (a + b) s) ∧
    Issued (.amSub x rd rs1 rs2) x s0 (gives x rd 1 (a - b) s) ∧
    Issued (.amAnd x rd rs1 rs2) x s0 (gives x rd 1 (a &&& b) s) ∧
    Issued (.amOr x rd rs1 rs2) x s0 (gives x rd 1 (a ||| b) s) ∧
    Issued (.amXor x rd rs1 rs2) x s0 (gives x rd 1 (a ^^^ b) s) ∧
    Issued (.amAndn x rd rs1 rs2) x s0 (gives x rd 1 (a &&& ~~~ b) s) ∧
    Issued (.amShl x rd rs1 rs2) x s0 (gives x rd 1 (a <<< (b.toNat % 64)) s) ∧
    Issued (.amShr x rd rs1 rs2) x s0 (gives x rd 1 (a >>> (b.toNat % 64)) s) ∧
    Issued (.amSar x rd rs1 rs2) x s0 (gives x rd 1 (a.sshiftRight (b.toNat % 64)) s) ∧
    Issued (.amRol x rd rs1 rs2) x s0 (gives x rd 1 (a.rotateLeft (b.toNat % 64)) s) ∧
    Issued (.amRor x rd rs1 rs2) x s0 (gives x rd 1 (a.rotateRight (b.toNat % 64)) s) ∧
    Issued (.amMin x rd rs1 rs2) x s0 (gives x rd 1 (BitVec.ofInt 64 (min a.toInt b.toInt)) s) ∧
    Issued (.amMax x rd rs1 rs2) x s0 (gives x rd 1 (BitVec.ofInt 64 (max a.toInt b.toInt)) s) ∧
    Issued (.amMinu x rd rs1 rs2) x s0 (gives x rd 1 (BitVec.ofNat 64 (min a.toNat b.toNat)) s) ∧
    Issued (.amMaxu x rd rs1 rs2) x s0 (gives x rd 1 (BitVec.ofNat 64 (max a.toNat b.toNat)) s) ∧
    Issued (.amClz x rd rs1) x s0 (gives x rd 1 (BitVec.ofNat 64 (if a = 0 then 64 else 63 - a.toNat.log2)) s) ∧
    Issued (.amPopc x rd rs1) x s0 (gives x rd 1 (BitVec.ofNat 64 ((List.range 64).filter (fun i => a.toNat.testBit i)).length) s) ∧
    Issued (.amBswap x rd rs1) x s0 (gives x rd 1 (BitVec.ofNat 64 (beNat (leBytes 8 a.toNat))) s) ∧
    Issued (.amMul x rd rs1 rs2) x s0 (gives x rd 3 (BitVec.ofNat 64 (a.toNat * b.toNat)) s) ∧
    Issued (.amMulh x rd rs1 rs2) x s0 (gives x rd 3 (BitVec.ofInt 64 (a.toInt * b.toInt / 2 ^ 64)) s) ∧
    Issued (.amMulhu x rd rs1 rs2) x s0 (gives x rd 3 (BitVec.ofNat 64 (a.toNat * b.toNat / 2 ^ 64)) s) ∧
    Issued (.amMac x rd rs1 rs2) x s0 (gives x rd 3 (gRead (regsOf x s) rd + BitVec.ofNat 64 (a.toNat * b.toNat)) s)

/-- R534, R539: the immediate forms of 5, 10, 20 and 25 bits; arithmetic takes its immediate sign-extended, logic zero-extended, and LIH shifts its
destination left by 25. -/
def Sys2Proof.Statements.ImmediateFormsWriteTheirResult : Prop :=
  ∀ (s0 : State) (x : Issue) (rd rs1 : BitVec 5) (i5 : BitVec 5) (i10 : BitVec 10) (i20 : BitVec 20) (i25 : BitVec 25), TakesEffect (atIssue x s0) x {} [] →
    let s := atIssue x s0
    let a := gRead (regsOf x s) rs1
    Issued (.amAddi x rd rs1 i5) x s0 (gives x rd 1 (BitVec.ofInt 64 (a.toInt + i5.toInt)) s) ∧
    Issued (.amAndi x rd rs1 i5) x s0 (gives x rd 1 (a &&& BitVec.ofNat 64 i5.toNat) s) ∧
    Issued (.amOri x rd rs1 i5) x s0 (gives x rd 1 (a ||| BitVec.ofNat 64 i5.toNat) s) ∧
    Issued (.amXori x rd rs1 i5) x s0 (gives x rd 1 (a ^^^ BitVec.ofNat 64 i5.toNat) s) ∧
    Issued (.amShli x rd rs1 i5) x s0 (gives x rd 1 (a <<< i5.toNat) s) ∧
    Issued (.amShri x rd rs1 i5) x s0 (gives x rd 1 (a >>> i5.toNat) s) ∧
    Issued (.amSari x rd rs1 i5) x s0 (gives x rd 1 (a.sshiftRight i5.toNat) s) ∧
    Issued (.amRori x rd rs1 i5) x s0 (gives x rd 1 (a.rotateRight i5.toNat) s) ∧
    Issued (.amLi x rd i10) x s0 (gives x rd 1 (BitVec.ofInt 64 i10.toInt) s) ∧
    Issued (.amAddi3 x rd rs1 i20) x s0 (gives x rd 1 (BitVec.ofInt 64 (a.toInt + i20.toInt)) s) ∧
    Issued (.amAndi3 x rd rs1 i20) x s0 (gives x rd 1 (a &&& BitVec.ofNat 64 i20.toNat) s) ∧
    Issued (.amOri3 x rd rs1 i20) x s0 (gives x rd 1 (a ||| BitVec.ofNat 64 i20.toNat) s) ∧
    Issued (.amXori3 x rd rs1 i20) x s0 (gives x rd 1 (a ^^^ BitVec.ofNat 64 i20.toNat) s) ∧
    (i20.toNat < 64 →
      Issued (.amShli3 x rd rs1 i20) x s0 (gives x rd 1 (a <<< i20.toNat) s) ∧
      Issued (.amShri3 x rd rs1 i20) x s0 (gives x rd 1 (a >>> i20.toNat) s) ∧
      Issued (.amSari3 x rd rs1 i20) x s0 (gives x rd 1 (a.sshiftRight i20.toNat) s) ∧
      Issued (.amRori3 x rd rs1 i20) x s0 (gives x rd 1 (a.rotateRight i20.toNat) s)) ∧
    Issued (.amLi3 x rd i25) x s0 (gives x rd 1 (BitVec.ofInt 64 i25.toInt) s) ∧
    Issued (.amLih x rd i25) x s0 (gives x rd 1 (gRead (regsOf x s) rd <<< 25 ||| BitVec.ofNat 64 i25.toNat) s)

/-- R534, R539: compares and predicate logic write a predicate with latency 2; signed compares compare the numbers, and immediates are sign-extended. -/
def Sys2Proof.Statements.ComparesAndPredicateLogic : Prop :=
  ∀ (s0 : State) (x : Issue) (pd ps1 ps2 : BitVec 3) (rs1 rs2 : BitVec 5) (i20 : BitVec 20), TakesEffect (atIssue x s0) x {} [] →
    let s := atIssue x s0
    let a := gRead (regsOf x s) rs1
    let b := gRead (regsOf x s) rs2
    let i : BitVec 64 := BitVec.ofInt 64 i20.toInt
    Issued (.amCmpeq x pd rs1 rs2) x s0 (givesP x pd (decide (a = b)) s) ∧
    Issued (.amCmpne x pd rs1 rs2) x s0 (givesP x pd (decide (a ≠ b)) s) ∧
    Issued (.amCmplt x pd rs1 rs2) x s0 (givesP x pd (decide (a.toInt < b.toInt)) s) ∧
    Issued (.amCmpge x pd rs1 rs2) x s0 (givesP x pd (decide (b.toInt ≤ a.toInt)) s) ∧
    Issued (.amCmpltu x pd rs1 rs2) x s0 (givesP x pd (decide (a.toNat < b.toNat)) s) ∧
    Issued (.amCmpgeu x pd rs1 rs2) x s0 (givesP x pd (decide (b.toNat ≤ a.toNat)) s) ∧
    Issued (.amCmpeqi x pd rs1 i20) x s0 (givesP x pd (decide (a = i)) s) ∧
    Issued (.amCmpnei x pd rs1 i20) x s0 (givesP x pd (decide (a ≠ i)) s) ∧
    Issued (.amCmplti x pd rs1 i20) x s0 (givesP x pd (decide (a.toInt < i20.toInt)) s) ∧
    Issued (.amCmpgei x pd rs1 i20) x s0 (givesP x pd (decide (i20.toInt ≤ a.toInt)) s) ∧
    Issued (.amCmpltui x pd rs1 i20) x s0 (givesP x pd (decide (a.toNat < i.toNat)) s) ∧
    Issued (.amCmpgeui x pd rs1 i20) x s0 (givesP x pd (decide (i.toNat ≤ a.toNat)) s) ∧
    (pFailed (regsOf x s) ps1 = false → pFailed (regsOf x s) ps2 = false →
      Issued (.amPand x pd ps1 ps2) x s0 (givesP x pd (pRead (regsOf x s) ps1 && pRead (regsOf x s) ps2) s) ∧
      Issued (.amPor x pd ps1 ps2) x s0 (givesP x pd (pRead (regsOf x s) ps1 || pRead (regsOf x s) ps2) s) ∧
      Issued (.amPxor x pd ps1 ps2) x s0 (givesP x pd (xor (pRead (regsOf x s) ps1) (pRead (regsOf x s) ps2)) s) ∧
      Issued (.amPandn x pd ps1 ps2) x s0 (givesP x pd (pRead (regsOf x s) ps1 && !pRead (regsOf x s) ps2) s))

/-- R524: MFS reads the listed special registers; MTS writes the loop registers, at once (the model's choice, log entry 51). -/
def Sys2Proof.Statements.SpecialRegisterMoves : Prop :=
  ∀ (s0 : State) (x : Issue) (rd rs code : BitVec 5), TakesEffect (atIssue x s0) x {} [] →
    let s := atIssue x s0
    let r := regsOf x s
    let v := gRead r rs
    (∀ w : BitVec 64, specialReg s x.core code.toNat = some w → Issued (.amMfs x rd code) x s0 (gives x rd 1 w s)) ∧
    specialReg s x.core 8 = some (BitVec.ofNat 64 x.core) ∧ specialReg s x.core 9 = some s.sched.swath ∧
    specialReg s x.core 10 = some (s.sched.clock.setWidth 64) ∧ specialReg s x.core 1 = some (r.pc.setWidth 64) ∧
    Issued (.amMts x 2 rs) x s0 (afterRegs x (fun q => { q with loops := { q.loops with lc0 := v.setWidth 32 } }) s) ∧
    Issued (.amMts x 3 rs) x s0 (afterRegs x (fun q => { q with loops := { q.loops with lc1 := v.setWidth 32 } }) s) ∧
    Issued (.amMts x 4 rs) x s0 (afterRegs x (fun q => { q with loops := { q.loops with ls0 := v.setWidth 18 } }) s) ∧
    Issued (.amMts x 5 rs) x s0 (afterRegs x (fun q => { q with loops := { q.loops with ls1 := v.setWidth 18 } }) s) ∧
    Issued (.amMts x 6 rs) x s0 (afterRegs x (fun q => { q with loops := { q.loops with le0 := v.setWidth 18 } }) s) ∧
    Issued (.amMts x 7 rs) x s0 (afterRegs x (fun q => { q with loops := { q.loops with le1 := v.setWidth 18 } }) s)

/-- R523, R538: the L instructions after a write of latency L read the old value, and those after them the new one; g0 discards it. -/
def Obligations.DelayedWritesBecomeVisible : Prop :=
  ∀ (r : CoreRegs) (rd : BitVec 5) (v : BitVec 64) (l n : Nat), r.pending = [] →
    gRead (Nat.repeat tick n (writeG rd v l r)) rd = if n ≤ l then gRead r rd else if rd = 0 then 0 else v

namespace Sys2Proof.Statements

/-- The effective address of a memory operation (R535). -/
def addrOf (x : Issue) (s : State) (rb : BitVec 5) (off : Int) : Nat := (gRead (regsOf x s) rb + BitVec.ofInt 64 off).toNat

/-- An access of `size` bytes at `a` is permitted under capability register `cap` (R521, R535, R566, R592): tag, seal, permissions and bounds, alignment, an
address that exists, and the core's gate. -/
def Reaches (s : State) (x : Issue) (cap : BitVec 3) (perms size right a : Nat) : Prop :=
  let c := cRead (regsOf x s) cap
  c.tag = true ∧ capSealed c = false ∧ holds c perms = true ∧ capBase c ≤ a ∧ a + size ≤ capBase c + capLen c ∧ a % size = 0 ∧ spaceOf a ≠ .nothing ∧
    corePermits s x.core right a = true

/-- The state after an instruction whose effect is `f` on memory or the store buffer. -/
def afterMem (x : Issue) (f : State → State) (s : State) : State := modRegs x.core (advance x.len false) (counted x.core (f s))

/-- A store enters the store buffer. -/
def buffered (x : Issue) (e : StoreEntry) (s : State) : State := modCore x.core (fun c => { c with stores := c.stores ++ [e] }) s

/-- A store of `size` bytes: to data memory at issue, elsewhere into the store buffer while it has room (R548). -/
def Stores (x : Issue) (size : Nat) (rs rb : BitVec 5) (cap : BitVec 3) (off : Int) (c : Instr) (s0 : State) : Prop :=
  let s := atIssue x s0
  let a := addrOf x s rb off
  let v := gRead (regsOf x s) rs
  Reaches s x cap pST size 56 a →
    (spaceOf a = .data → Issued c x s0 (afterMem x (memWrite x.core a (leBytes size v.toNat)) s)) ∧
    (spaceOf a ≠ .data → (coreAt s x.core).stores.length < 8 →
      Issued c x s0 (afterMem x (buffered x { addr := a, size := size, value := v.setWidth 128 }) s))

/-- A capability store: as a store of 16 bytes with the tag, to data memory or control SRAM; a tagged capability needs GLOBAL outside data memory
(R564, R565). -/
def StoresCap (x : Issue) (cs : BitVec 3) (rb : BitVec 5) (cap : BitVec 3) (off : Int) (c : Instr) (s0 : State) : Prop :=
  let s := atIssue x s0
  let a := addrOf x s rb off
  let v := cRead (regsOf x s) cs
  Reaches s x cap (pST + pSTC) 16 56 a →
    (spaceOf a = .data → Issued c x s0 (afterMem x (memPutCap x.core a v) s)) ∧
    (spaceOf a = .sram → (v.tag = true → holds v pGLOBAL = true) → (coreAt s x.core).stores.length < 8 →
      Issued c x s0 (afterMem x (buffered x { addr := a, size := 16, value := v.bits, tag := v.tag }) s))

/-- A split load of `size` bytes: its landing predicate is cleared at once and it is outstanding (R545, R546). -/
def SplitLoads (x : Issue) (size perms dest : Nat) (rb : BitVec 5) (cap pl : BitVec 3) (off : Int) (c : Instr) (s0 : State) : Prop :=
  let s := atIssue x s0
  let a := addrOf x s rb off
  Reaches s x cap perms size 55 a → (coreAt s x.core).splits.length < 7 → (∀ e ∈ (coreAt s x.core).splits, e.pl ≠ pl) →
    Issued c x s0 (afterMem x (fun t => modRegs x.core (putReg (40 + pl.toNat) 0 false)
      (modCore x.core (fun c => { c with splits := c.splits ++ [{ dest := dest, addr := a, pl := pl, older := c.stores.length }] }) t)) s)

end Sys2Proof.Statements

/-- R26, R534 to R536, R539: a permitted local load of a row that is delivered writes its register with latency 4, LDC a capability register with latency 5;
a row that was corrected is written back, and one that has taken nothing is read as it is. -/
def Sys2Proof.Statements.LocalLoadsReadDataMemory : Prop :=
  ∀ (s0 : State) (x : Issue) (rd rb : BitVec 5) (cd cap : BitVec 3) (off : Int), TakesEffect (atIssue x s0) x { shadowBad := true } [] → x.badData = false →
    let s := atIssue x s0
    let a := addrOf x s rb off
    let m := fun (n : Nat) => leNat (loadBytes s x.core a n)
    let t := mendRow x.core a s
    spaceOf a = .data → rowLost s x.core a = false →
      (Reaches s x cap pLD 1 55 a →
        Issued (.amLdB x rd rb cap off) x s0 (gives x rd 4 (BitVec.ofNat 64 (m 1)) t) ∧
        Issued (.amLdsB x rd rb cap off) x s0 (gives x rd 4 ((BitVec.ofNat 8 (m 1)).signExtend 64) t)) ∧
      (Reaches s x cap pLD 2 55 a →
        Issued (.amLdH x rd rb cap off) x s0 (gives x rd 4 (BitVec.ofNat 64 (m 2)) t) ∧
        Issued (.amLdsH x rd rb cap off) x s0 (gives x rd 4 ((BitVec.ofNat 16 (m 2)).signExtend 64) t)) ∧
      (Reaches s x cap pLD 4 55 a →
        Issued (.amLdW x rd rb cap off) x s0 (gives x rd 4 (BitVec.ofNat 64 (m 4)) t) ∧
        Issued (.amLdsW x rd rb cap off) x s0 (gives x rd 4 ((BitVec.ofNat 32 (m 4)).signExtend 64) t)) ∧
      (Reaches s x cap pLD 8 55 a → Issued (.amLdD x rd rb cap off) x s0 (gives x rd 4 (BitVec.ofNat 64 (m 8)) t)) ∧
      (Reaches s x cap (pLD + pLDC) 16 55 a → Issued (.amLdc x cd rb cap off) x s0 (givesC x cd 5 (memCap s x.core a) s))

/-- R534, R548, R564, R565: a permitted store writes its bytes to data memory at issue, and enters the store buffer for any other address. -/
def Sys2Proof.Statements.StoresReachMemoryOrTheBuffer : Prop :=
  ∀ (s0 : State) (x : Issue) (rs rb : BitVec 5) (cs cap : BitVec 3) (off : Int), TakesEffect (atIssue x s0) x { shadowBad := true } [] →
    Stores x 1 rs rb cap off (.amStB x rs rb cap off) s0 ∧ Stores x 2 rs rb cap off (.amStH x rs rb cap off) s0 ∧
    Stores x 4 rs rb cap off (.amStW x rs rb cap off) s0 ∧ Stores x 8 rs rb cap off (.amStD x rs rb cap off) s0 ∧
    StoresCap x cs rb cap off (.amStc x cs rb cap off) s0 ∧ StoresCap x cs rb cap off (.amStcx x cs rb cap off) s0

/-- R521, R564: what is written at an address is read there, every byte elsewhere is as it was, and the granules written lose their tags. -/
def Obligations.MemoryReadsWhatWasWritten : Prop :=
  ∀ (s : State) (n a : Nat) (bs : Bytes), (∀ i < bs.length, spaceOf (a + i) = .data ∨ spaceOf (a + i) = .sram ∨ spaceOf (a + i) = .dram) →
    memRead (memWrite n a bs s) n a bs.length = bs ∧
    (∀ b, b < a ∨ a + bs.length ≤ b → memByte (memWrite n a bs s) n b = memByte s n b) ∧
    (∀ i < bs.length, memTag (memWrite n a bs s) n (a + i) = false) ∧
    (∀ m, m ≠ n → ∀ b, spaceOf b = .data → memByte (memWrite n a bs s) m b = memByte s m b)

/-- R27, R545 to R548: a split load is outstanding from its issue; it lands in issue order with its destination and its predicate written together, or, where its
data is uncorrectable, with the predicate marked failed and the row's event; a buffered store takes effect in order, and one that fails late is kept for vector 10 (R584). -/
def Sys2Proof.Statements.SplitLoadsAndBufferedStoresComplete : Prop :=
  (∀ (s0 : State) (x : Issue) (rd rb : BitVec 5) (cd cap pl : BitVec 3) (off : Int), TakesEffect (atIssue x s0) x { shadowBad := true } [] → pl ≠ 0 →
    SplitLoads x 8 pLD rd.toNat rb cap pl off (.amLdxD x rd rb cap pl off) s0 ∧
    SplitLoads x 16 (pLD + pLDC) (32 + cd.toNat) rb cap pl off (.amLdcx x cd rb cap pl off) s0) ∧
  (∀ (s : State) (core : Nat) (e : Split) (rest : List Split), (coreAt s core).splits = e :: rest →
    (∀ w ∈ (coreAt s core).stores.take e.older, w.addr / 32 ≠ e.addr / 32) → spaceOf e.addr ≠ .bar0 →
    let s1 := modCore core (fun c => { c with splits := rest }) s
    let v := if e.dest < 32 then (BitVec.ofNat 128 (leNat (loadBytes s1 core e.addr 8)), false) else ((loadCap s1 core e.addr).bits, (loadCap s1 core e.addr).tag)
    (rowLost s1 core e.addr = false →
      exec (.splitLoadLanding core true) s
        = .next (modRegs core (fun r => putReg (40 + e.pl.toNat) 1 false (putReg e.dest v.1 v.2 r)) (mendRow core e.addr s1))) ∧
    (∀ ok p, ok = false ∨ rowLost s1 core e.addr = true → coreRow core e.addr = some p →
      exec (.splitLoadLanding core ok) s
        = .next (modRegs core (fun r => { putReg (40 + e.pl.toNat) 1 false r with pfail := (putReg (40 + e.pl.toNat) 1 false r).pfail ||| BitVec.ofNat 8 (2 ^ e.pl.toNat) })
            (raise (corePage core) 0x0502 p.detail s1)))) ∧
  (∀ (s : State) (core cause : Nat) (w : StoreEntry) (rest : List StoreEntry), (coreAt s core).stores = w :: rest → spaceOf w.addr ≠ .bar0 →
    (w.size ≠ 16 → exec (.bufferedStoreDone core) s = .next (memWrite core w.addr (leBytes w.size w.value.toNat) (popStore core s))) ∧
    (w.size = 16 → exec (.bufferedStoreDone core) s = .next (memPutCap core w.addr { bits := w.value, tag := w.tag } (popStore core s))) ∧
    (1 ≤ cause → cause ≤ 3 →
      exec (.lateStoreError core cause) s = .next (modCore core (fun c => { c with late := c.late ++ [(0, cause, w)] }) (popStore core s))))

/-- R542, R552: a branch leaves its target pending until the delay slot has run, and a call's g31 takes the address after the slot with latency 1; the
instruction after the slot is at the target. -/
def Sys2Proof.Statements.BranchesHaveOneDelaySlot : Prop :=
  (∀ (s0 : State) (x : Issue) (disp : Int) (rs : BitVec 5), TakesEffect (atIssue x s0) x { branch := true, shadowBad := true } [] →
    let s := atIssue x s0
    let r := regsOf x s
    let link := writeG 31 (BitVec.ofNat 64 (afterSlot s x)) 1
    let near := r.pc + BitVec.ofInt 18 disp
    let far := (gRead r rs).setWidth 18
    let t := fun (f : CoreRegs → CoreRegs) => modRegs x.core (advance x.len true) (counted x.core (modRegs x.core f s))
    Issued (.amB x disp) x s0 (t (takeBranch near)) ∧
    Issued (.amCall x disp) x s0 (t (fun q => takeBranch near (link q))) ∧
    Issued (.amBr x rs) x s0 (t (takeBranch far)) ∧
    Issued (.amCallr x rs) x s0 (t (fun q => takeBranch far (link q)))) ∧
  (∀ (r : CoreRegs) (len : Nat) (target : BitVec 18), r.st.loop0 = false → r.st.loop1 = false → r.st.brPend = false →
    let r1 := advance len true (takeBranch target r)
    r1.pc = r.pc + BitVec.ofNat 18 len ∧ r1.delay = true ∧
    (advance len false r1).pc = target ∧ (advance len false r1).delay = false ∧ (advance len false r1).st.brPend = false)

/-- R550: LOOP arms a level that runs its body from the next instruction to its end, or, where the count is 0, goes on after the end; at the end of the body
an armed level counts down and goes back to its start until its count is used up. -/
def Sys2Proof.Statements.LoopsRepeatTheirBody : Prop :=
  (∀ (s0 : State) (x : Issue) (level : Bool) (rc : BitVec 5) (endOff : Nat), TakesEffect (atIssue x s0) x { control := true, shadowBad := true } [] →
    loopCauses (atIssue x s0) x level endOff = [] →
    let s := atIssue x s0
    let r := regsOf x s
    let le := r.pc + BitVec.ofNat 18 endOff
    (gRead r rc = 0 → Issued (.amLoop x level rc endOff) x s0
      (counted x.core (modRegs x.core (fun q => { advance x.len false q with pc := le + BitVec.ofNat 18 (lengthAt s x.core le.toNat) }) s))) ∧
    (gRead r rc ≠ 0 → Issued (.amLoop x level rc endOff) x s0
      (counted x.core (modRegs x.core (fun q => armLoop level (gRead r rc) (advance x.len false q).pc le (advance x.len false q)) s)))) ∧
  (∀ (r : CoreRegs) (len : Nat), r.st.brPend = false → r.st.loop1 = false → r.st.loop0 = true → r.loops.le0 = r.pc →
    (2 ≤ r.loops.lc0.toNat → (advance len false r).pc = r.loops.ls0 ∧ (advance len false r).loops.lc0 = r.loops.lc0 - 1) ∧
    (r.loops.lc0 = 1 → (advance len false r).pc = r.pc + BitVec.ofNat 18 len ∧ (advance len false r).st.loop0 = false))

/-- R574, R575: GATE enters at the base of its unsealed entry capability, with the sealed data capability unsealed in cd, the other registers of c3 to c7
untagged and a link pushed; RETC of a gate link restores what the call saved. -/
def Sys2Proof.Statements.GateCallsAndReturns : Prop :=
  (∀ (s0 : State) (x : Issue) (cd cs ct : BitVec 3), TakesEffect (atIssue x s0) x { control := true, shadowBad := true } [] →
    gateCauses (atIssue x s0) x cd cs ct = [] → drained (coreAt (atIssue x s0) x.core) = true →
    let r := regsOf x (atIssue x s0)
    spelledBy (.amGate x cd cs ct) x s0 = true → ∃ t, exec (.amGate x cd cs ct) s0 = .next t ∧ (regsOf x t).pc = BitVec.ofNat 18 (capBase (cRead r cs)) ∧ (regsOf x t).shadow = 2 ∧
      cRead (regsOf x t) 0 = unsealed (cRead r cs) ∧ cRead (regsOf x t) cd = unsealed (cRead r ct) ∧
      (∀ i : BitVec 3, 3 ≤ i.toNat → i ≠ cd → (cRead (regsOf x t) i).tag = false) ∧
      (regsOf x t).st.loop0 = false ∧ (regsOf x t).st.loop1 = false ∧
      ∃ g, (regsOf x t).links = .gate g :: r.links ∧ g.c0 = cRead r 0 ∧ g.st = r.st ∧ g.loops = r.loops) ∧
  (∀ (s0 : State) (x : Issue) (g : GateFrame) (rest : List CoreLink), TakesEffect (atIssue x s0) x { control := true, shadowBad := true } [] →
    drained (coreAt (atIssue x s0) x.core) = true → (regsOf x (atIssue x s0)).links = .gate g :: rest → g.caps.length = 5 →
    spelledBy (.amRetc x) x s0 = true → ∃ t, exec (.amRetc x) s0 = .next t ∧ (regsOf x t).pc = g.pc ∧ (regsOf x t).st = g.st ∧ (regsOf x t).loops = g.loops ∧ (regsOf x t).links = rest ∧
      (regsOf x t).shadow = 2 ∧ cRead (regsOf x t) 0 = g.c0 ∧ ∀ i : Nat, i < 5 → g.caps[i]? = some (cRead (regsOf x t) (BitVec.ofNat 3 (i + 3))))

/-- R563, R567, R568: the capability-forming instructions write their result with latency 1, where their operands allow it. -/
def Sys2Proof.Statements.CapabilityFormingInstructions : Prop :=
  ∀ (s0 : State) (x : Issue) (cd cs ct : BitVec 3) (rd rs ro rl : BitVec 5), TakesEffect (atIssue x s0) x { shadowBad := true } [] →
    let s := atIssue x s0
    let r := regsOf x s
    let c := cRead r cs
    let k := cRead r ct
    Issued (.amCcopy x cd cs) x s0 (givesC x cd 1 c s) ∧
    Issued (.amCvoid x cd) x s0 (givesC x cd 1 { cRead r cd with tag := false } s) ∧
    Issued (.amCread x rd cs 0) x s0 (gives x rd 1 (BitVec.ofNat 64 (capBase c)) s) ∧
    Issued (.amCread x rd cs 1) x s0 (gives x rd 1 (BitVec.ofNat 64 (capLen c)) s) ∧
    Issued (.amCread x rd cs 3) x s0 (gives x rd 1 (if c.tag then 1 else 0) s) ∧
    (c.tag = true → capSealed c = false →
      Issued (.amCtrim x cd cs rs) x s0 (givesC x cd 1 { c with bits := c.bits &&& ~~~ (((gRead r rs).setWidth 16).setWidth 128 <<< 80) } s)) ∧
    (c.tag = true → k.tag = true → capSealed c = false → capGrant c = false → capGrant k = true → holds k pSEAL = true → 1 ≤ capType k →
      Issued (.amCwrap x cd cs ct) x s0 (givesC x cd 1 (mkCap (capBase c) (capLen c) (capPerms c) (capType k) (holds c pEX) false) s)) ∧
    (c.tag = true → k.tag = true → capSealed c = true → capGrant k = true → holds k pUNSEAL = true → capType k = capType c →
      Issued (.amCunwrap x cd cs ct) x s0 (givesC x cd 1 (unsealed c) s)) ∧
    (c.tag = true → capGrant c = true → capType c = 0 → 1 ≤ (gRead r rs).toNat → (gRead r rs).toNat ≤ 4095 →
      Issued (.amCgrant x cd cs rs) x s0 (givesC x cd 1 (mkCap 0 0 (capPerms c) (gRead r rs).toNat false true) s)) ∧
    (c.tag = true → capSealed c = false → capGrant c = false → (gRead r ro).toNat + (gRead r rl).toNat ≤ capLen c →
      Issued (.amCclip x cd cs ro rl) x s0
        (givesC x cd 1 (mkCap (capBase c + (gRead r ro).toNat) (gRead r rl).toNat (capPerms c) (capType c) (capEntry c) false) s))

/-- R546, R548, R556, R577: WAIT and FENCE.S go on once there is nothing to wait for; YIELD parks a tenant invocation that has a further step; DONE ends it with
its output; BREAK takes vector 12 with the address after it.
Completes: amWait, amFenceS, amYield, amDone, amBreak. -/
def Obligations.WaitsBreaksAndTenantEnds : Prop :=
  (∀ (s0 : State) (x : Issue) (pl : BitVec 3), TakesEffect (atIssue x s0) x {} [] → pFailed (regsOf x (atIssue x s0)) pl = false →
    (∀ e ∈ (coreAt (atIssue x s0) x.core).splits, e.pl ≠ pl) → Issued (.amWait x pl) x s0 (afterRegs x id (atIssue x s0))) ∧
  (∀ (s0 : State) (x : Issue), TakesEffect (atIssue x s0) x { shadowBad := true } [] → (coreAt (atIssue x s0) x.core).stores = [] →
    Issued (.amFenceS x) x s0 (afterRegs x id (atIssue x s0))) ∧
  (∀ (s0 : State) (x : Issue) (tag : BitVec 8), TakesEffect (atIssue x s0) x {} [] → drained (coreAt (atIssue x s0) x.core) = true →
    let s1 := modRegs x.core (advance x.len false) (atIssue x s0)
    Issued (.amBreak x tag) x s0 (counted x.core (takeException x.core 12 (regsOf x s1).pc.toNat 0 0 tag.toNat s1))) ∧
  (∀ (s0 : State) (x : Issue) (v : Invocation) (j : Job), TakesEffect (atIssue x s0) x { control := true, shadowBad := true } [] →
    let s := atIssue x s0
    drained (coreAt s x.core) = true → (coreAt s x.core).running = some v → jobAt s v.slot = some j → lastStep s v j = false →
    spelledBy (.amYield x) x s0 = true → ∃ t, exec (.amYield x) s0 = .next t ∧ (coreAt t x.core).running = none ∧ (coreAt t x.core).mode = .idle ∧
      (coreAt t x.core).parked = some (v, advance x.len false (regsOf x s))) ∧
  (∀ (s0 : State) (x : Issue) (rs rl : BitVec 5) (v : Invocation) (j : Job), TakesEffect (atIssue x s0) x { control := true, shadowBad := true } [] →
    let s := atIssue x s0
    let r := regsOf x s
    let h := tenantHeader s v.opcode
    let s1 := leaveCore v.slot v.step (modCore x.core (fun c => { c with mode := .idle, running := none }) (modRegs x.core (advance x.len false) s))
    let out := memRead s x.core (dstAt r.st.ctx.toNat (leAt 24 2 h) (leAt 26 2 h)) (gRead r rl).toNat
    drained (coreAt s x.core) = true → (coreAt s x.core).running = some v → jobAt s v.slot = some j → gRead r rs = 0 →
    (gRead r rl).toNat ≤ dstCapacity s j v.step →
    Issued (.amDone x rs rl) x s0 (counted x.core (endStep v.slot v.step { result := 0, bytes := out } (wipeContext x.core r.st.ctx.toNat s1))))

namespace Sys2Proof.Statements

/-- A SYS of a function group is allowed by the capability register it names (R571). -/
def Allows (s : State) (x : Issue) (cap : BitVec 3) (group : Nat) : Prop :=
  let c := cRead (regsOf x s) cap
  c.tag = true ∧ capSealed c = false ∧ holds c (2 ^ (8 + group)) = true

/-- The state after a SYS whose function answered `r`: the result goes to g[rs] with latency 4 (R539). -/
def sysDone (x : Issue) (rs : BitVec 5) (r : Nat × State) : State := afterRegs x (writeG rs (BitVec.ofNat 64 r.1) 4) r.2

/-- A SYS with an effect on the state; its result is a value the spec does not state (DESIGN CHOICE, log entry 45). -/
def sysEffect (x : Issue) (rs : BitVec 5) (s : State) : State := sysDone x rs (unstated s)

end Sys2Proof.Statements

/-- R557, R571, R596: each SYS function that its capability allows has its effect, and its result is in g[rs] with latency 4.
Completes: sysStepBind, sysStepEnd, sysWindrowPost, sysLedgerRead, sysKeyFetch, sysKeySeal, sysKeyPin, sysSessionCheck, sysDomainWake, sysDomainGate,
sysPressureRead, sysEvtRaise, sysEvtRoute, sysGateWrite, sysGateSync, sysCoreStart, sysCoreStop, sysPmWrite, sysHalt, sysTraceOn, sysTraceOff, sysBreakSet. -/
def Obligations.SysFunctionsTakeEffect : Prop :=
  ∀ (s0 : State) (x : Issue) (cap : BitVec 3) (rs : BitVec 5), TakesEffect (atIssue x s0) x { shadowBad := true } [] →
    let s := atIssue x s0
    let a := (gRead (regsOf x s) rs).toNat
    let n := x.core
    let block := blockArg x a s
    (Allows s x cap 0 →
      (∀ j, jobAt s (bits 15 0 a) = some j →
        Issued (.sysStepBind x cap rs) x s0 (sysEffect x rs (bindStep (bits 15 0 a) (bits 19 16 a) (decide (j.runClass = 0)) s))) ∧
      (∀ idx b j, runningOn s (bits 27 24 a) (bits 15 0 a) (bits 19 16 a) = some (idx, b) → jobAt s (bits 15 0 a) = some j →
        (stepAt j (bits 19 16 a)).checked = true → endsHere (stepAt j (bits 19 16 a)) (bits 27 24 a) b = true →
        Issued (.sysStepEnd x cap rs) x s0
          (sysEffect x rs (settleUnit (enginePage (bits 27 24 a) idx) (stepEnds (bits 15 0 a) (bits 19 16 a) (bits 27 24 a) idx b s)))) ∧
      (a < 64 → linkOpen s = true → Issued (.sysWindrowPost x cap rs) x s0 (sysEffect x rs (deliverFresh (windrow a s)))) ∧
      Issued (.sysLedgerRead x cap rs) x s0 (sysDone x rs (ledgerFree a s, s))) ∧
    (Allows s x cap 1 →
      (∀ k, keyAt s (bits 23 0 a) = some k → Issued (.sysKeyFetch x cap rs) x s0 (sysEffect x rs (fetchKey (bits 26 24 a) (bits 23 0 a) s))) ∧
      Issued (.sysKeySeal x cap rs) x s0 (sysEffect x rs (reseal (bits 23 0 a) id s)) ∧
      Issued (.sysKeyPin x cap rs) x s0 (sysEffect x rs (pinBlock (bits 23 0 a) s)) ∧
      Issued (.sysSessionCheck x cap rs) x s0 (sysDone x rs (if (mfind a s.keys.sessions).isSome then 1 else 0, s))) ∧
    (Allows s x cap 2 →
      Issued (.sysDomainWake x cap rs) x s0 (sysEffect x rs (startWake a s)) ∧
      (a < 64 → (domainAtP s a).state = .on → mayGate s a = true → Issued (.sysDomainGate x cap rs) x s0 (sysEffect x rs (gateDomain a s))) ∧
      Issued (.sysPressureRead x cap rs) x s0 (sysDone x rs (level s, s))) ∧
    (Allows s x cap 3 →
      Issued (.sysEvtRaise x cap rs) x s0 (sysEffect x rs (raise (corePage n) (bits 15 0 a) (bits 63 16 a) s)) ∧
      Issued (.sysEvtRoute x cap rs) x s0 (sysEffect x rs (headAuditedWrite (coreMaster s n) (bits 13 0 a) 0x038 (bits 63 32 a) s))) ∧
    (Allows s x cap 4 →
      (leAt 0 2 block ≤ 34 → byteAt 2 block < 16 →
        Issued (.sysGateWrite x cap rs) x s0
          (sysEffect x rs (writeBy (coreMaster s n) (gatePage (leAt 0 2 block) * 0x1000 + 0x400 + 8 * byteAt 2 block) 8 (leAt 8 8 block) s))) ∧
      Issued (.sysGateSync x cap rs) x s0 (sysDone x rs (1, s))) ∧
    (Allows s x cap 5 →
      (a ≤ 16 → a ≠ n → Issued (.sysCoreStart x cap rs) x s0 (sysEffect x rs (startCore a s))) ∧
      (a ≤ 16 → Issued (.sysCoreStop x cap rs) x s0 (sysEffect x rs (modCore a (fun c => { c with mode := .idle }) s))) ∧
      (byteAt 30 block < 16 → leAt 28 2 block < 8192 →
        Issued (.sysPmWrite x cap rs) x s0 (sysEffect x rs (writeRow (byteAt 30 block) (leAt 28 2 block) (block.take 28) s))) ∧
      Issued (.sysHalt x cap rs) x s0 (sysEffect x rs (modCore n (fun c => { c with mode := .idle }) s))) ∧
    (Allows s x cap 7 →
      Issued (.sysTraceOn x cap rs) x s0 (sysEffect x rs (modRegs n (fun r => { r with st := { r.st with trace := true } }) s)) ∧
      Issued (.sysTraceOff x cap rs) x s0 (sysEffect x rs (modRegs n (fun r => { r with st := { r.st with trace := false } }) s)) ∧
      Issued (.sysBreakSet x cap rs) x s0
        (sysEffect x rs (modCore n (fun c => { c with breaks := c.breaks.filter (fun y => decide (y ≠ BitVec.ofNat 18 a)) ++ (if a.testBit 63 then [] else [BitVec.ofNat 18 a]) }) s)))

/-! ## Operations on the steps of jobs -/

namespace Sys2Proof.Statements

/-- The step of a job takes the result of its operation: it is held until the step's engine work has ended, and a step whose work has ended ends with it
(R41, R222). -/
def delivers (slot i : Nat) (d : Delivered) (s : State) : State := tryEnd slot i (modStep slot i (fun x => { x with delivered := some d }) s)

/-- An operation of opcode `op` whose result needs nothing but its step, where `cond` holds of the step. -/
def Runs (c : Instr) (op slot i : Nat) (cond : Call → State → Prop) (d : Call → State → Delivered) : Prop :=
  ∀ (s : State) (k : Call), callAt s op slot i = some k → cond k s → exec c s = .next (delivers slot i (d k s) s)

/-- As `Runs`, with `n` bytes drawn from the random output queue (R346, R394). -/
def RunsWithRandom (c : Instr) (op slot i : Nat) (n : Call → Nat) (cond : Call → State → Prop) (d : Call → Bytes → Delivered) : Prop :=
  ∀ (s : State) (k : Call), callAt s op slot i = some k → cond k s →
    exec c s = .next (delivers slot i (d k (drawBytes (n k) s).1) (drawBytes (n k) s).2)

/-- A verification succeeds with an output, and fails with RES_VERIFY_FAILED (0x0405). -/
def verdict (accepted : Bool) (out : Bytes) : Delivered := if accepted then ok out else bad 0x0405

end Sys2Proof.Statements

/-- R230, R234, R235, R209: an operation that ends a job of its own, with no engine work left, gives the job its result: a failure finishes it with no output; a
success with output writes it to out_ptr in pieces that end at 4 KiB boundaries, with the zero-length read that confirms it after them, as soon as memory
requests may be made; all other jobs are as they were. -/
def Obligations.ResultsReachTheJob : Prop :=
  ∀ (s : State) (slot : Nat) (j : Job) (x : StepRun), jobAt s slot = some j → isChained j = false → j.steps = [x] → x.stage ≠ .ended →
    j.stage ≠ .outputting → j.stage ≠ .finished → workDone x.work = true → j.mirrorWait = none → j.written = [] →
    (∀ d : Delivered, success d.result = false →
      ∃ j1, jobAt (delivers slot 0 d s) slot = some j1 ∧ j1.stage = .finished ∧ j1.result = d.result ∧ j1.out = j.out ∧ j1.finished = now s) ∧
    (∀ d : Delivered, d.result = 0 → d.secret = false → d.bytes ≠ [] → d.bytes.length ≤ j.hdr.outLen →
      ∃ j1, jobAt (delivers slot 0 d s) slot = some j1 ∧ j1.stage = .outputting ∧ j1.result = 0 ∧ j1.out = d.bytes ∧
        (mayRequest s = true → j1.unsent = false ∧ j1.written = d.bytes ∧
          (delivers slot 0 d s).out = .hostRead j.hdr.outPtr 0
            :: (((pieces (d.bytes.length / 4096 + 2) j.hdr.outPtr d.bytes).map (fun p => Output.hostWrite p.1 p.2)).reverse ++ s.out)) ∧
        (mayRequest s = false → j1.unsent = true ∧ (delivers slot 0 d s).out = s.out)) ∧
    (∀ (d : Delivered) (n : Nat), n ≠ slot → jobAt (delivers slot 0 d s) n = jobAt s n)

/-- R339, R342, R346, R359, R362, R364: the public-key operations. A verification tells a valid signature from any other by its result; a private operation
draws the randomness of R346; secret results are marked (R219).
Completes: opPkValidate, opPkEcdsaSign, opPkEcdsaVerify, opPkEddsaSign, opPkEddsaVerify, opPkEcdh, opPkRsaSign, opPkRsaVerify, opPkRsaEncrypt, opPkRsaDecrypt,
opPkMldsaSign, opPkMldsaVerify, opPkMlkemEncaps, opPkMlkemDecaps, opPkSlhdsaVerify. -/
def Obligations.PublicKeyOperationsRun : Prop :=
  ∀ slot i : Nat,
    Runs (.opPkValidate slot i) 0x0101 slot i (fun k _ => 2 ≤ k.aux.length)
      (fun k _ => match valueError (leAt 0 2 k.aux) (k.aux.drop 2) with | some r => bad r | none => ok []) ∧
    (∀ s k, callAt s 0x0111 slot i = some k → k.aux = [] → algA k = 0x0101 →
      let p := presignState k (drawBytes 80 s).1
      exec (.opPkEcdsaSign slot i) s = .next (delivers slot i (ok (finishSignature k p k.src)) (keepBetween slot p (drawBytes 80 s).2))) ∧
    RunsWithRandom (.opPkEcdsaSign slot i) 0x0111 slot i (fun _ => 80) (fun k _ => k.aux = [] ∧ algA k ≠ 0x0101)
      (fun k r => ok (std "ECDSA signature" (sigLen (algA k)) [algArg (algA k), matA k, r, curveHash (algA k) k.src])) ∧
    Runs (.opPkEcdsaVerify slot i) 0x0112 slot i
      (fun k _ => k.keyA.isSome = true ∧ k.aux.length = sigLen (algA k) ∧ ecdsaRange (algA k) k.aux = none)
      (fun k _ => verdict (Config.accepts "ECDSA verification" [algArg (algA k), matA k, k.aux, curveHash (algA k) k.src]) (curveHash (algA k) k.src)) ∧
    (∀ s k, callAt s 0x0121 slot i = some k → k.aux = [] →
      exec (.opPkEddsaSign slot i) s = .next (delivers slot i (ok (std "EdDSA signature" (sigLen (algA k)) [algArg (algA k), matA k, k.src]))
        (if algA k = 0x0111 then keepBetween slot (std "Ed25519 nonce and R" 64 [matA k, k.src]) (drawBytes 32 s).2 else (drawBytes 32 s).2))) ∧
    Runs (.opPkEddsaVerify slot i) 0x0122 slot i
      (fun k _ => k.keyA.isSome = true ∧ k.aux.length = sigLen (algA k) ∧ edError (algA k) false (k.aux.take (pointLen (algA k))) = none ∧
        leNat (k.aux.drop (pointLen (algA k))) < edL (algA k))
      (fun k _ => verdict (Config.accepts "EdDSA verification" [algArg (algA k), matA k, k.aux, k.src]) []) ∧
    RunsWithRandom (.opPkEcdh slot i) 0x0131 slot i (fun _ => 32) (fun k _ => isWeierstrass (algA k) = true ∧ pointError (algA k) k.aux = none)
      (fun k _ => okSecret (std "key agreement" ((pointLen (algA k) - 1) / 2) [algArg (algA k), matA k, k.aux])) ∧
    RunsWithRandom (.opPkRsaSign slot i) 0x0141 slot i (fun _ => 64) (fun k _ => k.aux.length = 4)
      (fun k r => ok (std "RSA signature" (rsaLen (algA k)) [matA k, k.aux, if byteAt 0 k.aux = 2 then r.take (byteAt 2 k.aux) else [], k.src])) ∧
    Runs (.opPkRsaVerify slot i) 0x0142 slot i (fun k _ => rsaError (algA k) (matA k) (k.aux.drop 4) = none)
      (fun k _ => verdict (Config.accepts "RSA verification" [matA k, k.aux, k.src]) []) ∧
    RunsWithRandom (.opPkRsaEncrypt slot i) 0x0143 slot i (fun _ => 64)
      (fun k _ => k.aux.length = 4 ∧ k.src.length + 2 * hashLen (byteAt 1 k.aux) + 2 ≤ rsaLen (algA k))
      (fun k r => ok (std "RSAES-OAEP encryption" (rsaLen (algA k)) [matA k, k.aux, r, k.src])) ∧
    RunsWithRandom (.opPkRsaDecrypt slot i) 0x0144 slot i (fun _ => 32)
      (fun k _ => k.aux.length = 4 ∧ rsaError (algA k) (matA k) k.src = none ∧ Config.accepts "RSAES-OAEP decoding" [matA k, k.aux, k.src] = false)
      (fun _ _ => bad 0x0408) ∧
    RunsWithRandom (.opPkRsaDecrypt slot i) 0x0144 slot i (fun _ => 32)
      (fun k _ => k.aux.length = 4 ∧ rsaError (algA k) (matA k) k.src = none ∧ Config.accepts "RSAES-OAEP decoding" [matA k, k.aux, k.src] = true)
      (fun k _ => ok (std "RSAES-OAEP message"
        (beNat (std "RSAES-OAEP message length" 2 [matA k, k.aux, k.src]) % (rsaLen (algA k) - 2 * hashLen (byteAt 1 k.aux) - 1)) [matA k, k.aux, k.src])) ∧
    RunsWithRandom (.opPkMldsaSign slot i) 0x0151 slot i (fun _ => 32) (fun k _ => k.aux ≠ [] ∧ k.aux.length = 1 + byteAt 0 k.aux)
      (fun k r => ok (std "ML-DSA signature" (sigLen (algA k)) [algArg (algA k), matA k, r, k.aux, k.src])) ∧
    Runs (.opPkMldsaVerify slot i) 0x0152 slot i (fun k _ => k.aux ≠ [] ∧ k.aux.length = 1 + byteAt 0 k.aux + sigLen (algA k))
      (fun k _ => verdict (Config.accepts "ML-DSA verification" [algArg (algA k), matA k, k.aux, k.src]) []) ∧
    RunsWithRandom (.opPkMlkemEncaps slot i) 0x0161 slot i (fun _ => 32) (fun k _ => kemAlg k.aux.length ≠ 0 ∧ kemError (kemAlg k.aux.length) k.aux = none)
      (fun k r => let a := kemAlg k.aux.length
        { result := 0, secret := true, clear := kemCtLen a,
          bytes := std "ML-KEM ciphertext" (kemCtLen a) [algArg a, k.aux, r] ++ std "ML-KEM shared secret" 32 [algArg a, k.aux, r] }) ∧
    RunsWithRandom (.opPkMlkemDecaps slot i) 0x0162 slot i (fun _ => 32) (fun k _ => k.src.length = kemCtLen (algA k))
      (fun k _ => okSecret (std "ML-KEM decapsulation" 32 [algArg (algA k), matA k, k.src])) ∧
    Runs (.opPkSlhdsaVerify slot i) 0x0171 slot i (fun k _ => k.aux ≠ [] ∧ k.aux.length = 1 + byteAt 0 k.aux + sigLen (algA k))
      (fun k _ => verdict (Config.accepts "SLH-DSA verification" [algArg (algA k), matA k, k.aux, k.src]) [])

/-- R388 to R401: the symmetric operations. An encryption's initial value comes from the random queue or from the hardware nonces, and nothing is released
where an authentication check fails (R396). -/
def Sys2Proof.Statements.SymmetricOperationsRun : Prop :=
  ∀ slot i : Nat,
    let aux := fun (k : Call) (s : State) => symAux s k.job i
    RunsWithRandom (.opSymCbcEncrypt slot i) 0x0201 slot i (fun k => blockSize (algA k)) (fun _ _ => True)
      (fun k iv => ok (iv ++ cbcE (algA k) (matA k) iv k.src)) ∧
    Runs (.opSymCbcDecrypt slot i) 0x0202 slot i (fun _ _ => True) (fun k s => ok (cbcD (algA k) (matA k) (aux k s) k.src)) ∧
    (∀ s k n s1, callAt s 0x0203 slot i = some k → takeNonce (nonceHolder s slot i) s = some (n, s1) →
      exec (.opSymCtrEncrypt slot i) s = .next (delivers slot i (ok (n ++ zeros 4 ++ ctrX (matA k) (n ++ zeros 4) k.src)) s1)) ∧
    Runs (.opSymCtrDecrypt slot i) 0x0204 slot i (fun _ _ => True) (fun k s => ok (ctrX (matA k) (aux k s) k.src)) ∧
    (∀ s k n s1, callAt s 0x0211 slot i = some k → takeNonce (nonceHolder s slot i) s = some (n, s1) →
      exec (.opSymGcmEncrypt slot i) s = .next (delivers slot i (ok (n ++ gcmE (matA k) n (aux k s) k.src)) s1)) ∧
    Runs (.opSymGcmDecrypt slot i) 0x0212 slot i (fun _ _ => True)
      (fun k s => match gcmD (matA k) ((aux k s).take 12) ((aux k s).drop 12) k.src with | some p => ok p | none => bad 0x0408) ∧
    Runs (.opSymCmac slot i) 0x0224 slot i (fun _ _ => True)
      (fun k s => ok ((cmac (matA k) k.src).take (if aux k s = [] then 16 else byteAt 0 (aux k s)))) ∧
    Runs (.opSymCmacVerify slot i) 0x0225 slot i (fun _ _ => True) (fun k s => verdict (decide ((cmac (matA k) k.src).take (aux k s).length = aux k s)) []) ∧
    Runs (.opSymXtsEncrypt slot i) 0x0231 slot i (fun _ _ => True)
      (fun k s => ok (xts true (matA k) (matB k) (leAt 0 4 (aux k s)) (leAt 8 16 (aux k s)) k.src)) ∧
    Runs (.opSymXtsDecrypt slot i) 0x0232 slot i (fun _ _ => True)
      (fun k s => ok (xts false (matA k) (matB k) (leAt 0 4 (aux k s)) (leAt 8 16 (aux k s)) k.src)) ∧
    Runs (.opSymKeyWrap slot i) 0x0241 slot i (fun _ _ => True)
      (fun k s => ok (if byteAt 0 (aux k s) = 1 then kwWrap (matA k) k.src else kwpWrap (matA k) k.src)) ∧
    Runs (.opSymKeyUnwrap slot i) 0x0242 slot i (fun _ _ => True)
      (fun k s => match (if byteAt 0 (aux k s) = 1 then kwUnwrap (matA k) k.src else kwpUnwrap (matA k) k.src) with | some p => ok p | none => bad 0x0408)

/-- R390: values of one holder do not repeat: while its block lasts, the nonce taken next is the holder's counter, and the counter moves on. -/
def Sys2Proof.Statements.NoncesAreTakenInOrder : Prop :=
  ∀ (s : State) (holder next top : Nat) (rest : List (Nat × Nat)), holderBlocks s holder = (next, top) :: rest →
    ∃ n t, takeNonce holder s = some (n, t) ∧ mfind holder t.cip.holders = some ((next + 1, top) :: rest) ∧ n.length = 12 ∧ n.drop 4 = beBytes 8 next

/-- R298 to R312: the payment operations. A verification's result tells agreement from disagreement, and a translation never gives the PIN out. -/
def Sys2Proof.Statements.PaymentOperationsRun : Prop :=
  ∀ slot i : Nat,
    let account := fun (k : Call) => accountDigits (slice 16 10 k.src)
    let translates := fun (c : Instr) (op : Nat) (key : Call → Bytes × Nat) =>
      ∀ pin : List Nat, RunsWithRandom c op slot i (fun _ => 16)
        (fun k _ => pinDecode (byteAt 0 k.src) (pinPlain (byteAt 0 k.src) (key k).2 (key k).1 (slice 32 16 k.src) (account k)) = some pin)
        (fun k r => ok (pinEncode (byteAt 1 k.src) (algB k) (matB k) (account k) pin r))
    translates (.opPayPinTranslate slot i) 0x0301 (fun k => (matA k, algA k)) ∧
    translates (.opPayPinTranslateAesDukpt slot i) 0x0302 (fun k => (dukptKey true (matA k) (slice 4 12 k.src), algA k)) ∧
    translates (.opPayPinTranslateTdesDukpt slot i) 0x0303 (fun k => (dukptKey false (matA k) (slice 4 10 k.src), 0x0011)) ∧
    Runs (.opPayPinVerify slot i) 0x0311 slot i
      (fun k _ => pinDecode (byteAt 64 k.aux) (pinPlain (byteAt 64 k.aux) (algA k) (matA k) (slice 96 16 k.aux) (accountDigits (panOf k.src))) = none)
      (fun _ _ => bad 0x0405) ∧
    (∀ pin : List Nat, Runs (.opPayPinVerify slot i) 0x0311 slot i
      (fun k _ => pinDecode (byteAt 64 k.aux) (pinPlain (byteAt 64 k.aux) (algA k) (matA k) (slice 96 16 k.aux) (accountDigits (panOf k.src))) = some pin)
      (fun k _ =>
        let n := byteAt 65 k.aux
        let v := ofNibbles ((accountDigits (panOf k.src) ++ List.replicate 16 (byteAt 66 k.aux % 16)).take 16)
        let e := if isTdes (algB k) then tdesE (matB k) v else (aesE (matB k) (v ++ zeros 8)).take 8
        let natural := ((nibbles e).take n).map (fun x => (nibbles (slice 68 8 k.aux)).getD x 0)
        let sum := (natural.zip ((nibbles (slice 76 6 k.aux)).take n)).map (fun p => (p.1 + p.2) % 10)
        verdict (decide (n ≤ pin.length ∧ pin.take n = sum)) [])) ∧
    Runs (.opPayMacGenerate slot i) 0x0321 slot i (fun _ _ => True) (fun k _ => ok (payMac k)) ∧
    Runs (.opPayMacVerify slot i) 0x0322 slot i (fun _ _ => True) (fun k _ => verdict (decide (payMac k = slice 48 (byteAt 34 k.aux) k.aux)) []) ∧
    Runs (.opPayCvvGenerate slot i) 0x0330 slot i (fun _ _ => True) (fun k _ => ok (cardValue k)) ∧
    Runs (.opPayCvvVerify slot i) 0x0331 slot i (fun _ _ => True) (fun k _ => verdict (decide (cardValue k = slice 0 2 k.aux)) []) ∧
    Runs (.opPayArqcVerify slot i) 0x0341 slot i (fun _ _ => True)
      (fun k _ => verdict (decide (arqcOf k k.aux = slice 52 8 k.aux)) (arpcOf k k.aux (slice 52 8 k.aux))) ∧
    Runs (.opPayArpcGenerate slot i) 0x0342 slot i (fun _ _ => True) (fun k _ => ok (arpcOf k k.aux (arqcOf k k.aux))) ∧
    Runs (.opPayFf1Encrypt slot i) 0x0351 slot i (fun _ _ => True) (fun k _ => ok (ff1Field ff1E k (panOf k.src))) ∧
    Runs (.opPayFf1Decrypt slot i) 0x0352 slot i (fun k _ => isChained k.job = true) (fun k _ => okSecret (ff1Field ff1D k k.src)) ∧
    (∀ s j k, jobAt s slot = some j → j.hdr.opcode = 0x0380 → callAt s 0x0112 slot 0 = some k →
      exec (.opPayAuthRef slot 0) s = .next (delivers slot 0 (verifyEcdsa k) s)) ∧
    (∀ s j, jobAt s slot = some j → j.hdr.opcode = 0x0380 → (stepAt j 1).stage ≠ .ended → exec (.opPayAuthRef slot 3) s = .next s)

/-- R216 to R222, R227: a chained step runs the operation of its opcode; OP_NOP succeeds with no output. -/
def Sys2Proof.Statements.ChainsAndNop : Prop :=
  (∀ (s : State) (slot i : Nat) (j : Job), jobAt s slot = some j → isChained j = true →
    let op := (stepAt j i).step.opcode
    (op = 0x0224 → exec (.opChain slot i) s = exec (.opSymCmac slot i) s) ∧
    (op = 0x0112 → exec (.opChain slot i) s = exec (.opPkEcdsaVerify slot i) s) ∧
    (op = 0x0402 → exec (.opChain slot i) s = exec (.opVltDetokenise slot i) s) ∧
    (op = 0x0301 → exec (.opChain slot i) s = exec (.opPayPinTranslate slot i) s) ∧
    (∀ k, op = 0x0211 → callAt s 0x0211 slot i = some k → ∀ n s1, takeNonce (nonceHolder s slot i) s = some (n, s1) →
      exec (.opChain slot i) s = .next (delivers slot i (ok (n ++ gcmE (matA k) n (symAux s k.job i) k.src)) s1))) ∧
  (∀ slot i : Nat, Runs (.opNop slot i) 0x0F02 slot i (fun _ _ => True) (fun _ _ => ok []))

/-- NIST SP 800-38D as R396 uses it: GCM decryption of an encryption under the same key, nonce and additional data gives the plaintext. -/
def Obligations.GcmDecryptionUndoesEncryption : Prop :=
  ∀ (key nonce aad plain : Bytes), nonce.length = 12 → gcmD key nonce aad (gcmE key nonce aad plain) = some plain

namespace Sys2Proof.Statements

/-- An operation of opcode `op` with an effect on the state besides its step, where `cond` holds. -/
def RunsTo (c : Instr) (op slot i : Nat) (cond : Call → State → Prop) (d : Call → State → Delivered) (t : Call → State → State) : Prop :=
  ∀ (s : State) (k : Call), callAt s op slot i = some k → cond k s → exec c s = .next (delivers slot i (d k s) (t k s))

/-- What a vault step needs is at hand: no read is outstanding for it (R425). -/
def AtHand (s : State) (slot i : Nat) (needs : List NandTarget) : Prop := needs.filter (targetMissing s (slot, i)) = []

/-- The record of the token that a request names, under slot `n`: its index entry leads to it and it can be read. -/
def Found (k : Call) (s : State) (slot i n : Nat) : Prop :=
  AtHand s slot i (tokenNeeds k s) ∧ findToken s (leAt 0 2 k.src) (requestToken s k.src) = some n ∧ readable s (recordAt s n) = true

/-- The subject of a key opcode: its block number and its record. -/
def subjectBlock (k : Call) : Nat := handleBlock (selected k.job k.step.selA)

end Sys2Proof.Statements

/-- R412 to R420, R434, R441, R446: the vault operations on records that are at hand. A tokenise of a PAN that has a record gives that record's token again
and counts its use; one of a new PAN issues a token; a detokenise gives a secret PAN, only of an active record; a status change writes a new version. -/
def Sys2Proof.Statements.VaultOperationsRun : Prop :=
  ∀ (slot i n : Nat),
    RunsTo (.opVltTokenise slot i) 0x0401 slot i
      (fun k s => let d := leAt 0 2 k.aux; AtHand s slot i (panNeeds d (panOf k.src) s) ∧ s.vault.readOnly = false ∧
        findPan s d (panOf k.src) = some n ∧ readable s (recordAt s n) = true ∧ (recordAt s n).status ≠ 3)
      (fun _ s => ok (tokenOut (recordAt s n).token false)) (fun _ s => writeVersion n { recordAt s n with usage := min 65535 ((recordAt s n).usage + 1) } s) ∧
    RunsTo (.opVltTokenise slot i) 0x0401 slot i
      (fun k s => let d := leAt 0 2 k.aux; AtHand s slot i (panNeeds d (panOf k.src) s) ∧ s.vault.readOnly = false ∧
        findPan s d (panOf k.src) = none ∧ domState (domainAt s d) ≠ 2 ∧ domLimit (domainAt s d) = 0 ∧ domMethod (domainAt s d) ≠ 1)
      (fun k s => let a := accountDigits (panOf k.src); let d := leAt 0 2 k.aux
        (drawIssue k d (panOf k.src) (beNat (slice 2 2 k.aux)) (a.drop (a.length - domKeep (domainAt s d))) 8 s).1)
      (fun k s => let a := accountDigits (panOf k.src); let d := leAt 0 2 k.aux
        (drawIssue k d (panOf k.src) (beNat (slice 2 2 k.aux)) (a.drop (a.length - domKeep (domainAt s d))) 8 s).2) ∧
    RunsTo (.opVltDetokenise slot i) 0x0402 slot i (fun k s => Found k s slot i n ∧ (recordAt s n).status = 1 ∧ isExpired s (recordAt s n) = false)
      (fun _ s => okSecret (detokenised (recordAt s n))) (fun _ s => s) ∧
    RunsTo (.opVltQuery slot i) 0x0403 slot i (fun k s => Found k s slot i n) (fun _ s => ok (recordHead (recordAt s n) ++ zeros 3)) (fun _ s => s) ∧
    RunsTo (.opVltLookup slot i) 0x0404 slot i
      (fun k s => let d := leAt 0 2 k.aux; AtHand s slot i (panNeeds d (panOf k.src) s) ∧ findPan s d (panOf k.src) = some n ∧ readable s (recordAt s n) = true)
      (fun _ s => ok (fit 10 (recordAt s n).token)) (fun _ s => s) ∧
    RunsTo (.opVltStatusSet slot i) 0x0405 slot i
      (fun k s => Found k s slot i n ∧ (recordAt s n).status ≠ 3 ∧ s.vault.readOnly = false ∧ domMirror (domainAt s (recordAt s n).domain) = 0 ∧
        byteAt 0 k.aux ≠ 0 ∧ beNat (slice 1 2 k.aux) ≠ 0xFFFF)
      (fun _ _ => ok [])
      (fun k s => noteUnmirrored (unmirroredCount s) (writeVersion n { recordAt s n with status := byteAt 0 k.aux, expiry := beNat (slice 1 2 k.aux) } s)) ∧
    RunsTo (.opVltDomainSet slot i) 0x0410 slot i
      (fun k s => let e := fit 64 (k.src.drop 2); domainOk e = true ∧ domainChangeOk (domainAt s (leAt 0 2 k.src)) e = true ∧ domMethod e ≠ 1)
      (fun _ _ => ok []) (fun k s => let d := leAt 0 2 k.src; noteChange (2 ^ 24 + d) 0xFF (writeDomain d (fit 64 (k.src.drop 2)) s)) ∧
    RunsTo (.opVltDomainInfo slot i) 0x0411 slot i (fun _ _ => True)
      (fun k s => let d := leAt 0 2 k.src; ok (domainAt s d ++ leBytes 4 (domainCount s d))) (fun _ s => s)

/-- R414, R431, R432: a new version of a record is stored under the record's slot with a journal entry of the next seq; every other record is as it was. -/
def Sys2Proof.Statements.RecordVersionsAreJournalled : Prop :=
  ∀ (s : State) (n : Nat) (r : VaultRec), r ≠ {} → r.status ≠ 0 → (takeNonce recordHolder s).isSome = true →
    (∃ x : VaultRec, recordAt (writeVersion n r s) n = x ∧ x.token = r.token ∧ x.pan = r.pan ∧ x.status = r.status ∧ x.usage = r.usage ∧ x.expiry = r.expiry ∧ x.domain = r.domain) ∧
    (∀ m, m ≠ n → recordAt (writeVersion n r s) m = recordAt s m) ∧
    (writeVersion n r s).vault.nextSeq = s.vault.nextSeq + 1 ∧
    (∃ e, (writeVersion n r s).vault.journal = s.vault.journal ++ [e] ∧ e.seq = s.vault.nextSeq ∧ e.kind = 1 ∧ e.target = n / 64 ∧ e.slot = n % 64 ∧
      e.record = some (recordAt (writeVersion n r s) n) ∧ e.mac = journalMac (writeVersion n r s) { e with mac := [] }) ∧
    (let x := recordAt (writeVersion n r s) n
     x.sealed_ = gcmE (moduleKey s 0x82 3 s.vault.keyGen) x.nonce (recordAad { r with keyGen := s.vault.keyGen }) (fit 10 r.pan))

/-- R236, R239, R244, R265 to R269, R276, R277: the operations that make and change keys. A new key takes the lowest run of free blocks that fits it, and its
handle names it; a change takes effect at once where the key has no quorum, and waits for its request where it has one. -/
def Sys2Proof.Statements.KeyOperationsRun : Prop :=
  ∀ (slot i : Nat),
    (let m := fun (k : Call) (s : State) =>
        if 0x30 ≤ byteAt 0 k.src then keyPair (leAt 2 2 k.src) (drawBytes 128 s).1 else ((drawBytes 128 s).1.take (symLen (leAt 2 2 k.src)), [])
      let made := fun (k : Call) (s : State) => createKey k (fromTemplate (templateOf k) (byteAt 0 k.src) (leAt 2 2 k.src) (leAt 0 4 (templateOf k))
        (byteAt 5 (templateOf k)) true (m k s).1 s.sched.epoch.toNat) (m k s).2 (drawBytes 128 s).2
      RunsTo (.opKeyGenerate slot i) 0x0501 slot i
        (fun k _ => byteAt 1 k.src = 0 ∧ generable (byteAt 0 k.src) = true ∧ leAt 2 2 k.src ∈ classAlgs (byteAt 0 k.src) ∧ templateOk (templateOf k) = true)
        (fun k s => (made k s).1) (fun k s => (made k s).2)) ∧
    RunsTo (.opKeyImportX9143 slot i) 0x0502 slot i (fun k _ => templateOk (templateOf k) = true)
      (fun k s => (importBlock k (algA k) (matA k) k.src s).1) (fun k s => (importBlock k (algA k) (matA k) k.src s).2) ∧
    (∀ (s : State) (k : Call) (m : Bytes), callAt s 0x0503 slot i = some k →
      let x := k.src
      let o := 1667 + leAt 1665 2 x
      (pointError 0x0102 (x.take 97)).isNone = true → x.length = o + 2 + leAt o 2 x →
      (if algB k = 0x0102 then Config.accepts "ECDSA verification" [algArg 0x0102, matB k, x.drop (o + 2), sha384 (x.take (o + 2))]
        else Config.accepts "ML-DSA verification" [algArg (algB k), matB k, [0] ++ x.drop (o + 2), x.take (o + 2)]) = true →
      m = (sha384 (ascii "RKL1" ++ (std "key agreement" 48 [algArg 0x0102, (matA k).take 48, x.take 97]
        ++ std "ML-KEM decapsulation" 32 [algArg 0x0143, (matA k).drop 48, slice 97 1568 x]) ++ sha384 (x.take (o + 2)))).take 32 →
      exec (.opKeyImportRkl slot i) s
        = .next (delivers slot i (importBlock k 0x0003 m (slice 1667 (leAt 1665 2 x) x) s).1 (importBlock k 0x0003 m (slice 1667 (leAt 1665 2 x) x) s).2)) ∧
    RunsTo (.opKeyImportPublic slot i) 0x0504 slot i
      (fun k _ => byteAt 1 k.src = 0 ∧ (byteAt 0 k.src = 5 ∨ byteAt 0 k.src = 6 ∨ (0x40 ≤ byteAt 0 k.src ∧ byteAt 0 k.src ≤ 0x43)) ∧ leAt 2 2 k.src ∈ classAlgs (byteAt 0 k.src) ∧
        templateOk (templateOf k) = true ∧ valueError (leAt 2 2 k.src) (k.src.drop 4) = none)
      (fun k s => (createKey k (fromTemplate (templateOf k) (byteAt 0 k.src) (leAt 2 2 k.src) (leAt 0 4 (templateOf k)) (byteAt 5 (templateOf k)) false
        (k.src.drop 4) s.sched.epoch.toNat) [] s).1)
      (fun k s => (createKey k (fromTemplate (templateOf k) (byteAt 0 k.src) (leAt 2 2 k.src) (leAt 0 4 (templateOf k)) (byteAt 5 (templateOf k)) false
        (k.src.drop 4) s.sched.epoch.toNat) [] s).2) ∧
    (∀ (s : State) (k : Call) (x : KeyBlock), callAt s 0x0505 slot i = some k → subjectOf k s = some x →
      (isAes x.alg = true → exec (.opKeyInfo slot i) s = .next (delivers slot i (ok (blockHead x ++ fit 8 ((cmac x.material (zeros 16)).take 5) ++ publicOf x)) s)) ∧
      (isAes x.alg = false → isTdes x.alg = true →
        exec (.opKeyInfo slot i) s = .next (delivers slot i (ok (blockHead x ++ fit 8 ((tdesE x.material (zeros 8)).take 3) ++ publicOf x)) s))) ∧
    (∀ (x : KeyBlock),
      let plain := fun (k : Call) (s : State) => subjectOf k s = some x ∧ x.quorum = 0
      let sealable := fun (s : State) => (takeNonce keyPage s).isSome = true
      RunsTo (.opKeySetStatus slot i) 0x0506 slot i (fun k s => plain k s ∧ k.step.opcode = 0x0506 ∧ byteAt 0 k.src ≤ 1 ∧ x.status ≠ 2 ∧ sealable s)
        (fun _ _ => ok []) (fun k s => setStatus (subjectBlock k) (byteAt 0 k.src) s) ∧
      RunsTo (.opKeyRevoke slot i) 0x0507 slot i (fun k s => plain k s ∧ k.step.opcode = 0x0507 ∧ sealable s)
        (fun _ _ => ok []) (fun k s => setStatus (subjectBlock k) 2 s) ∧
      RunsTo (.opKeyDestroy slot i) 0x0508 slot i (fun k s => plain k s ∧ k.step.opcode = 0x0508)
        (fun _ _ => ok []) (fun k s => destroyKey (subjectBlock k) s) ∧
      RunsTo (.opKeyReplicate slot i) 0x0509 slot i (fun k s => plain k s ∧ k.step.opcode = 0x0509 ∧ x.exportTo % 2 = 1 ∧ x.usage.getLsbD 21 = true)
        (fun _ _ => ok []) (fun k s => noteChange (subjectBlock k) (byteAt 0 k.src) s) ∧
      RunsTo (.opKeyDestroy slot i) 0x0508 slot i (fun k s => subjectOf k s = some x ∧ 0 < x.quorum)
        (fun _ _ => { result := 1 })
        (fun k s => openRequest 0x08 (selected k.job k.step.selA) x.quorum k.step.opcode (digested k.job) k.src s) ∧
      RunsTo (.opKeyPin slot i) 0x050A slot i
        (fun k s => subjectOf k s = some x ∧ handleBlock x.handle ∉ s.keys.pins ∧ pinFits s x = true)
        (fun _ _ => ok [])
        (fun _ s => pinKey (handleBlock x.handle) x s) ∧
      RunsTo (.opKeyPin slot i) 0x050A slot i
        (fun k s => subjectOf k s = some x ∧ handleBlock x.handle ∉ s.keys.pins ∧ pinFits s x = false) (fun _ _ => bad 0x0309) (fun _ s => s)) ∧
    (∀ (s : State) (k : Call), callAt s 0x050B slot i = some k → (subjectOf k s).isSome = true →
      ∃ t, exec (.opKeyUnpin slot i) s = .next (delivers slot i (ok []) t) ∧ subjectBlock k ∉ t.keys.pins ∧ subjectBlock k ∉ t.keys.rebuild ∧
        (∀ b, b ≠ subjectBlock k → (b ∈ t.keys.pins ↔ b ∈ s.keys.pins)) ∧ t.keys.keys = s.keys.keys) ∧
    RunsTo (.opKeyRootLoad slot i) 0x050C slot i (fun _ _ => True) (fun _ _ => { result := 1 })
      (fun k s => openRequest (if s.ceremony.generate then 0x03 else 0x02) 0 0 k.step.opcode (digested k.job) [] s) ∧
    RunsTo (.opKeyTenantSigner slot i) 0x050D slot i (fun _ _ => True) (fun _ _ => { result := 1 })
      (fun k s => openRequest 0x07 0 0 k.step.opcode (digested k.job) (leBytes 8 (selected k.job k.step.selA)) s)

/-- R236, R239, R240, R244: a created key stands at the run of free blocks that R244 finds, its output is its 64-bit handle, and every other key is as it
was; where no run fits, the result is RES_KEY_STORE_FULL (0x0309), where no nonce is left to seal it with, RES_POLICY_MODE (0x0907), and nothing is
stored. -/
def Sys2Proof.Statements.CreatedKeysAreStored : Prop :=
  ∀ (s : State) (k : Call) (x : KeyBlock), 8 ≤ k.job.hdr.outLen →
    (freeRun s x.blocks = none → createKey k x [] s = (bad 0x0309, s)) ∧
    (∀ b, freeRun s x.blocks = some b → takeNonce keyPage s = none → createKey k x [] s = (bad 0x0907, s)) ∧
    (∀ b, freeRun s x.blocks = some b → (takeNonce keyPage s).isSome = true →
      ∃ h t, createKey k x [] s = (ok (leBytes 8 h), t) ∧ h = mkHandle s.keys.domain x.cls (mget 0 s.keys.gens b) b ∧
        (∃ y, keyAt t b = some y ∧ y.handle = h ∧ y.material = x.material ∧ y.cls = x.cls ∧ y.usage = x.usage) ∧
        ∀ m, m ≠ b → keyAt t m = keyAt s m)

/-- R270 to R275: an application's key is enrolled at block 0x0100 + n; a session takes the lowest free number; a closed session is gone and the others stay.
Completes: opSesAppEnrol, opSesOpen, opSesClose. -/
def Obligations.SessionOperationsRun : Prop :=
  ∀ (slot i : Nat),
    (∀ (s : State) (k : Call), callAt s 0x0510 slot i = some k → leAt 0 2 k.src ≤ 1023 → pointError 0x0102 (k.src.drop 2) = none →
      keyAt s (appBlock (leAt 0 2 k.src)) = none →
      ∀ h t, placeKey (appBlock (leAt 0 2 k.src)) { cls := 0x05, alg := 0x0102, usage := 0x80, created := s.sched.epoch.toNat, material := k.src.drop 2 }
        (closeSessionsOf (some (leAt 0 2 k.src)) s) = some (h, t) →
      exec (.opSesAppEnrol slot i) s = .next (delivers slot i (ok (leBytes 8 h)) t)) ∧
    (∀ (s : State) (k : Call) (h : Nat) (t : State), callAt s 0x0510 slot i = some k → leAt 0 2 k.src ≤ 1023 → pointError 0x0102 (k.src.drop 2) = none →
      (keyAt s (appBlock (leAt 0 2 k.src))).isSome = true →
      placeKey (appBlock (leAt 0 2 k.src)) { cls := 0x05, alg := 0x0102, usage := 0x80, created := s.sched.epoch.toNat, material := k.src.drop 2 }
        (destroyKey (appBlock (leAt 0 2 k.src)) (closeSessionsOf (some (leAt 0 2 k.src)) s)) = some (h, t) →
      exec (.opSesAppEnrol slot i) s = .next (delivers slot i (ok (leBytes 8 h)) t)) ∧
    (∀ (s : State) (k : Call) (num : Nat), callAt s 0x0511 slot i = some k → leAt 0 2 k.src ≤ 1023 → (keyAt s (appBlock (leAt 0 2 k.src))).isSome = true →
      handleBlock (selected k.job k.step.selA) = appBlock (leAt 0 2 k.src) → leAt 2 2 k.src = 0 →
      Config.accepts "ECDSA verification" [algArg 0x0102, matA k, k.src.drop 1317, sha384 (k.src.take 1317)] = true →
      pointError 0x0102 (slice 36 97 k.src) = none → kemError 0x0142 (slice 133 1184 k.src) = none → freeSession s = some num →
      ∃ d t tag, exec (.opSesOpen slot i) s = .next (delivers slot i d t) ∧ d.result = 0 ∧ d.bytes.take 2 = leBytes 2 num ∧
        t.keys.opened = s.keys.opened + 1 ∧
        t.keys.sessions = mput num { application := leAt 0 2 k.src, tagKey := tag, opened := s.keys.opened + 1 } s.keys.sessions) ∧
    (∀ (s : State) (k : Call) (n : Nat), callAt s 0x0512 slot i = some k → k.job.session = some n → (jobSession s k.job).isSome = true →
      exec (.opSesClose slot i) s = .next (delivers slot i (ok []) (closeSession n s)) ∧ mfind n (closeSession n s).keys.sessions = none ∧
        ∀ m, m ≠ n → mfind m (closeSession n s).keys.sessions = mfind m s.keys.sessions)

/-- R471, R480, R517, R518: random bytes, raw noise, checkpoints and audit segments. A raw read of a source that fails its start-up test takes it out. -/
def Sys2Proof.Statements.RandomAndAuditOperationsRun : Prop :=
  ∀ slot i : Nat,
    (∀ s k, callAt s 0x0601 slot i = some k →
      let n := min 65536 (if isChained k.job then k.step.dstCap else k.job.hdr.outLen)
      exec (.opRngGenerate slot i) s = .next (delivers slot i (ok (drawBytes n s).1) (drawBytes n s).2) ∧ (drawBytes n s).1.length = n) ∧
    (∀ passed : Bool, RunsTo (.opRngRaw slot i passed) 0x0603 slot i
      (fun k s => byteAt 0 k.src < 16 ∧ allZero (k.src.drop 1) = true ∧ s.rng.state ≠ .halted)
      (fun k s => ok (drawBytes (min 131072 k.job.hdr.outLen) s).1)
      (fun k s => let t := (drawBytes (min 131072 k.job.hdr.outLen) s).2; if passed then t else failSource (byteAt 0 k.src) false t)) ∧
    (∀ c : Checkpoint, Runs (.opAudCheckpoint slot i) 0x0701 slot i
      (fun k s => mfind (if leAt 0 8 k.src = 0 then s.audit.latest else leAt 0 8 k.src) s.audit.ckpts = some c ∧ c.held = true)
      (fun _ s => ok (checkpointSlot s c))) ∧
    (∀ rs : List AuditRec, Runs (.opAudSegment slot i) 0x0702 slot i
      (fun k s => 1 ≤ leAt 8 4 k.src ∧ leAt 8 4 k.src ≤ 21845 ∧ rs.length = leAt 8 4 k.src ∧
        ∀ n < rs.length, (s.audit.held ++ s.audit.undelivered).find? (fun r => decide (r.seq = leAt 0 8 k.src + n)) = rs[n]?)
      (fun _ _ => ok (rs.flatMap encodeRec)))

/-- R553 to R556, R558, R570: a signed image is loaded under its opcode, unloaded, and described; an invocation starts a core in tenant mode at the
program's entry with the capabilities of the step alone, and a parked one goes on with its registers.
Completes: opTenLoad, opTenUnload, opTenInfo, tenantProgramInvoke. -/
def Obligations.TenantOperationsRun : Prop :=
  ∀ slot i : Nat,
    (∀ (s : State) (k : Call) (row place : Nat), callAt s 0x0801 slot i = some k →
      let x := k.src
      let h := x.take 256
      let signed := 256 + 28 * leAt 12 2 h + leAt 16 4 h
      tenantHeaderOk h = true → leAt 40 2 h = algA k → x.length = signed + sigLen (algA k) →
      tenantSigned (algA k) (matA k) (x.take signed) (x.drop signed) = true → tenantLoaded s (leAt 6 2 h) = false →
      placeRows s (leAt 12 2 h) = some row → placeRodata s = some place →
      ∃ t, exec (.opTenLoad slot i) s = .next (delivers slot i (ok []) t) ∧
        mfind (leAt 6 2 h) t.tenants = some
          { header := h, code := slice 256 (28 * leAt 12 2 h) x, rodata := slice (256 + 28 * leAt 12 2 h) (leAt 16 4 h) x,
            digest := sha384 x, firstRow := row, place := place }) ∧
    RunsTo (.opTenUnload slot i) 0x0802 slot i (fun k s => tenantLoaded s (leAt 0 2 k.src) = true) (fun _ _ => ok []) (fun k s => retireTenant (leAt 0 2 k.src) s) ∧
    (∀ y : Tenant, Runs (.opTenInfo slot i) 0x0803 slot i (fun k s => mfind (leAt 0 2 k.src) s.tenants = some y)
      (fun _ _ => ok (y.header.take 64 ++ fit 48 y.digest))) ∧
    (∀ (s : State) (core op : Nat) (b : Bound) (k : Call) (y : Tenant), runningOn s 5 slot i = some (core, b) → isTenantOp op = true →
      callAt s op slot i = some k → mfind op s.tenants = some y → (coreAt s core).running = none → (coreAt s core).halted = false → core ≤ 16 →
      ((coreAt s core).parked = none → ∃ t, exec (.tenantProgramInvoke slot i core) s = .next t ∧ (coreAt t core).mode = .tenant ∧
        (coreAt t core).regs.pc = BitVec.ofNat 18 (y.firstRow * 16 + leAt 14 2 y.header) ∧ (coreAt t core).regs.st.w = false ∧
        ∃ v, (coreAt t core).running = some v ∧ v.slot = slot ∧ v.step = i ∧ v.opcode = op) ∧
      (∀ v r, (coreAt s core).parked = some (v, r) → v.slot = slot → v.step = i → 1 ≤ v.steps →
        ∃ t, exec (.tenantProgramInvoke slot i core) s = .next t ∧ (coreAt t core).mode = .tenant ∧ (coreAt t core).regs = r ∧ (coreAt t core).parked = none))

/-- R334, R609, R625, R626: staging of firmware images. A word is programmed once; a slot is verified by its signatures; only verified slots at or above their
floor are activated, by one selector word. -/
def Sys2Proof.Statements.StagingOperationsRun : Prop :=
  ∀ slot i : Nat,
    RunsTo (.opFlsStageWrite slot i) 0x0F10 slot i
      (fun k s => let n := k.src.length - 8; let target := byteAt 0 k.src; let off := leAt 4 4 k.src
        40 ≤ k.src.length ∧ n ≤ 4096 ∧ n % 32 = 0 ∧ target ≤ 2 ∧ allZero (slice 1 3 k.src) = true ∧ off % 32 = 0 ∧ off + n ≤ slotSize target ∧
        (stageWords (inactiveBase s target + off) (k.src.drop 8) (n / 32)
          (modFlash (fun f => { f with verified := f.verified &&& ~~~ BitVec.ofNat 3 (2 ^ target) }) s)).1 = true)
      (fun _ _ => ok [])
      (fun k s => (stageWords (inactiveBase s (byteAt 0 k.src) + leAt 4 4 k.src) (k.src.drop 8) ((k.src.length - 8) / 32)
          (modFlash (fun f => { f with verified := f.verified &&& ~~~ BitVec.ofNat 3 (2 ^ byteAt 0 k.src) }) s)).2) ∧
    (∀ b : Bytes, Runs (.opFlsStageRead slot i) 0x0F11 slot i
      (fun k s => let n := leAt 8 4 k.src; let target := byteAt 0 k.src; let off := leAt 4 4 k.src; let base := inactiveBase s target + off / 32 * 32
        k.src.length = 12 ∧ target ≤ 2 ∧ allZero (slice 1 3 k.src) = true ∧ 32 ≤ n ∧ n ≤ 4096 ∧ off + n ≤ slotSize target ∧
        (∀ j < off % 32 + n, eraseSector s (base + j) ≠ some (servedBy s ((base + j) / 0x10000))) ∧ readWords s base (ceilDiv (off % 32 + n) 32) = some b)
      (fun k _ => ok ((b.drop (leAt 4 4 k.src % 32)).take (leAt 8 4 k.src)))) ∧
    (∀ (x a b : Bytes), RunsTo (.opFlsStageVerify slot i) 0x0F12 slot i
      (fun k s => let target := byteAt 0 k.src
        k.src.length = 4 ∧ target ≤ 2 ∧ allZero (slice 1 3 k.src) = true ∧ acceptedImage s target (inactiveBase s target) = some x ∧
        imageIn s target (inactiveBase s target) = some (a, b))
      (fun _ _ => ok (x.take 64 ++ sha384 (a ++ b))) (fun k s => modFlash (fun f => { f with verified := f.verified ||| BitVec.ofNat 3 (2 ^ byteAt 0 k.src) }) s)) ∧
    (∀ (s : State) (k : Call), callAt s 0x0F13 slot i = some k → k.src.length = 1 → byteAt 0 k.src < 8 →
      (∀ n < 3, bit n (byteAt 0 k.src) = true → s.flash.verified.getLsbD n = true ∧
        ∃ h, readSlot s (inactiveBase s n) 32 = some h ∧ floorOf s n ≤ byteAt 8 h) →
      ∃ x, exec (.opFlsActivate slot i) s = .next (delivers slot i (ok []) (raise flashPage 0x0516 (byteAt 0 k.src) (appendSelector x s))) ∧
        x.boot = (s.flash.inUse.boot != bit 0 (byteAt 0 k.src)) ∧ x.firmware = (s.flash.inUse.firmware != bit 1 (byteAt 0 k.src)) ∧
        x.microcode = (s.flash.inUse.microcode != bit 2 (byteAt 0 k.src)))

/-- R335, R351, R513, R648, R650, R665, R716, R721, R724: the life cycle, the tamper log and the self-test. A request opens for a transition that R721 lists, and any
other is refused with 0x0204; the units that fail their known-answer tests fail. -/
def Sys2Proof.Statements.LifeOperationsRun : Prop :=
  ∀ slot i : Nat,
    (∀ (target : Life) (w : Wipe), RunsTo (.opLcRequest slot i) 0x0F30 slot i
      (fun k s => lifeOf (byteAt 0 k.src) = some target ∧ transitionWipe s.keeper.record.state target = some w ∧ (target = .operate → foldRootLoaded s = true) ∧
        lifeInputOk k.src = true)
      (fun _ _ => { result := 1 }) (fun k s => openRequest 0x01 0 0 k.step.opcode (digested k.job) k.src s)) ∧
    (∀ target : Life, Runs (.opLcRequest slot i) 0x0F30 slot i (fun k s => lifeOf (byteAt 0 k.src) = some target ∧ transitionWipe s.keeper.record.state target = none)
      (fun _ _ => bad 0x0204)) ∧
    Runs (.opLcStatus slot i) 0x0F31 slot i (fun _ _ => True) (fun _ s => ok (overlay 2 [((hedgeStatus s).getD 2 0) ||| 1] (hedgeStatus s))) ∧
    Runs (.opHdgLogRead slot i) 0x0F32 slot i (fun k _ => 1 ≤ leAt 2 2 k.src ∧ leAt 2 2 k.src ≤ 96)
      (fun k s => ok ((List.range (leAt 2 2 k.src)).flatMap (fun n =>
        match s.keeper.log[leAt 0 2 k.src + n]? with | some r => tamperBytes crcA r | none => zeros 16))) ∧
    (∀ (failed : List Nat) (rows : Bool), (∀ p ∈ failed, engineOf p ≠ none) → ∃ v : Nat,
      RunsTo (.opSelftest slot i failed false rows) 0x0F40 slot i (fun _ _ => True) (fun _ _ => ok (leBytes 8 v))
        (fun _ s => raise keeperPage 0x0526 v (forAll failed failUnit s)) ∧ (failed = [] → v = 128 * b2n rows))

/-- R648, R681, R682, R687, R688: the operations on the backup card and on the fold. What changes the card or the fold opens a request; what only reads answers. -/
def Sys2Proof.Statements.CardAndFoldOperationsRun : Prop :=
  ∀ slot i : Nat,
    RunsTo (.opSdcRestore slot i) 0x0F60 slot i (fun k s => foldRootLoaded s = true ∧ s.sdc.card = 1 ∧ (setNamed s (leAt 0 8 k.src)).isSome = true)
      (fun _ _ => { result := 1 }) (fun k s => openRequest 0x05 0 0 k.step.opcode (digested k.job) (fit 8 k.src) s) ∧
    RunsTo (.opSdcArchive slot i) 0x0F61 slot i (fun _ s => s.sdc.card = 1 ∧ s.sdc.permWp = false)
      (fun _ _ => { result := 1 }) (fun k s => openRequest 0x06 0 0 k.step.opcode (digested k.job) [] s) ∧
    Runs (.opSdcInfo slot i) 0x0F62 slot i (fun _ s => s.sdc.card ≠ 0)
      (fun _ s => ok (fit 64 s.sdc.label ++ (match s.sdc.dir with | some d => (maced (backupKey s) (dirBody d)).take 64 | none => zeros 64))) ∧
    RunsTo (.opFoldEnrol slot i) 0x0F70 slot i
      (fun k s => foldRootLoaded s = true ∧ byteAt 0 k.src ≤ 7 ∧ pointError 0x0102 (slice 12 97 k.src) = none ∧
        ∀ e ∈ s.fold.members, e.1 ≠ byteAt 0 k.src ∧ e.2.serial ≠ leAt 4 8 k.src ∧ e.2.noncePrefix ≠ leAt 109 4 k.src)
      (fun _ _ => { result := 1 }) (fun k s => openRequest 0x04 0 0 k.step.opcode (digested k.job) k.src s) ∧
    RunsTo (.opFoldRemove slot i) 0x0F71 slot i (fun k s => foldRootLoaded s = true ∧ (mfind (byteAt 0 k.src) s.fold.members).isSome = true)
      (fun _ _ => { result := 1 }) (fun k s => openRequest 0x04 0 0 k.step.opcode (digested k.job) k.src s) ∧
    Runs (.opFoldInfo slot i) 0x0F72 slot i (fun _ _ => True)
      (fun _ s => ok ((List.range 8).flatMap (fun n => match mfind n s.fold.members with | some m => memberBytes n m | none => zeros 64)))

namespace Sys2Proof.Statements

/-- An audited write can have its effect: no reset discards the host's writes and the audit chain takes its record (R34, R133, R476). -/
def WriteOpen (addr : RegAddr) (m : Master) (s : State) : Prop := (m = .host → s.link.inReset = .none) ∧ writeDiscarded addr s = false

/-- The effect of a 32-bit write with the CONFIG record of the register's old and new value after it (R32, R462). -/
def recorded (addr : RegAddr) (m : Master) (reg : State → Nat) (apply : State → State) (s : State) : State :=
  appendConfig addr m 4 (reg s) (reg (apply s)) (apply s)

/-- As `recorded`, for a register with a write-1-to-set field: the record holds the value `v` (R462, R789). -/
def recordedAs (addr : RegAddr) (m : Master) (reg : State → Nat) (v : Nat) (apply : State → State) (s : State) : State :=
  appendConfig addr m 4 (reg s) v (apply s)

/-- It is the channel's turn, and the parser takes the entry at its head in time: the channel runs, the entry is not a SKIP and there is room for its
outcome (R48). -/
structure Decides (s : State) (ch : Nat) (e : Entry) : Prop where
  atHead : (chanAt s ch).head = some e
  turn : nextTurn s = some ch
  runs : (chanAt s ch).state = .running
  real : (parseHeader e.slots).opcode ≠ 0x0F00
  room : roomToTake s ch (parseHeader e.slots) = true

end Sys2Proof.Statements

/-- R48, R62, R63, R65, R149, R155, R203, R227, R229: in its channel's turn, an entry that passes every check of R63 becomes a job in a free slot, one that fails the first gives a refusal with
its result, a SKIP gives neither; each of them moves the consumer index past the entry's slots.
Completes: jobAdmission, opSkip. -/
def Obligations.EntriesAreAdmittedRefusedOrSkipped : Prop :=
  ∀ (s : State) (ch delay : Nat) (e : Entry),
    let c := chanAt s ch
    let h := parseHeader e.slots
    let past := c.sqHead + BitVec.ofNat 32 (e.slots.length / 64)
    (Decides s ch e → delay ≤ 500 →
      (∀ first l, verdict s ch e.visible h e.slots = .admitAt first l →
        ∃ t j, exec (.jobAdmission ch delay) s = .next t ∧ jobAt t (freeSlot s) = some j ∧ j.hdr = h ∧ j.chan = ch ∧ j.runClass = h.cls ∧ j.first = first ∧
          j.stage = .admitted ∧ (chanAt t ch).sqHead = past ∧ ∀ k, k ≠ freeSlot s → jobAt t k = jobAt s k) ∧
      (∀ r counted, verdict s ch e.visible h e.slots = .refuseWith r counted →
        ∃ t w, exec (.jobAdmission ch delay) s = .next t ∧ (chanAt t ch).refusals = c.refusals ++ [w] ∧ w.result = r ∧ w.cookie = h.cookie ∧ w.opcode = h.opcode ∧
          (chanAt t ch).sqHead = past ∧ t.jobs = s.jobs)) ∧
    (c.head = some e → nextTurn s = some ch → h.opcode = 0x0F00 → ∃ t, exec (.opSkip ch) s = .next t ∧ (chanAt t ch).sqHead = past ∧ t.jobs = s.jobs ∧ t.audit = s.audit)

/-- R49: a class 2 job that has waited 256 swaths with no engine step bound goes to the tail of class 1 and runs as class 1; its completion and its audit record still carry
class 2.
Completes: class2Ageing. -/
def Obligations.WaitingClass2JobsAge : Prop :=
  ∀ (s : State) (slot : Nat) (j : Job), jobAt s slot = some j → j.hdr.cls = 2 → j.runClass = 2 → j.stage = .admitted → j.admitted + 256 ≤ now s →
    (∀ x ∈ j.steps, x.stage = .waiting) → (∀ k x, jobAt s k = some x → x.order < s.sched.nextOrder) →
    ∃ t j1, exec (.class2Ageing slot) s = .next t ∧ jobAt t slot = some j1 ∧ j1.runClass = 1 ∧ (∀ k x, k ≠ slot → jobAt t k = some x → x.order < j1.order) ∧
      j1.steps = j.steps ∧ j1.input = j.input ∧ (jobItem slot j1).cls = 2 ∧ (jobItem slot j1).flags / 16 % 4 = 2 ∧
      (∀ result ch op r info key i o, jobRecord j1 result = .job ch op r info key i o → info % 4 = 2) ∧ (∀ k, k ≠ slot → jobAt t k = jobAt s k)

/-- R127, R128, R208, R210, R235, R594, R793: input that a job asked for arrives as far as its mover's gate permits it, or is poisoned, and its output is
confirmed.
Completes: inputReadDone, outputConfirmed. -/
def Obligations.JobsProgress : Prop :=
  ∀ (s : State) (slot : Nat) (j : Job), jobAt s slot = some j →
    (j.stage ≠ .finished → j.stage ≠ .outputting → j.withdraw = none → j.hdr.inlineIn = false → j.input.length < j.asked → j.refusedAt = none →
      (∀ data : Bytes, (∀ x ∈ j.steps, x.stage ≠ .bound ∧ x.stage ≠ .parked) → data ≠ [] → j.input.length + data.length ≤ j.asked →
        let d := (dmaWrite jobMover (operandAddr slot + j.input.length % 0x4000) data.length s).1
        ∃ t j1, exec (.inputReadDone slot data .good) s = .next t ∧ jobAt t slot = some j1 ∧ j1.inputRead = true ∧ j1.stage = j.stage ∧
          j1.refusedAt = d.refused ∧ j1.input = j.input ++ data.take d.written ∧ j1.moved = j.moved + d.written ∧ (d.refused = none → d.written = data.length)) ∧
      (∀ data : Bytes, ∃ t j1, exec (.inputReadDone slot data .poisoned) s = .next t ∧ jobAt t slot = some j1 ∧ j1.stage = .finished ∧ j1.result = 0x0406 ∧
        t.link.poisoned = satInc s.link.poisoned)) ∧
    (j.stage = .outputting → j.withdraw = none → ∀ accepted : Bool,
      ∃ t j1, exec (.outputConfirmed slot accepted) s = .next t ∧ jobAt t slot = some j1 ∧ j1.stage = .finished ∧ j1.finished = now s ∧ j1.result = j.result ∧
        j1.outIncomplete = (j.outIncomplete || !accepted))

/-- R133, R142 to R145, R163, R170, R187, R192, R195, R792: enabling a channel with a valid configuration runs it; disabling it quiesces it, and ends there with nothing in
flight; a producer index too far ahead halts it; a consumer index outside the posted entries raises its alert. -/
def Sys2Proof.Statements.ChannelsRunHaltAndStop : Prop :=
  ∀ (s : State) (ch : Nat),
    let c := chanAt s ch
    (∀ m, WriteOpen (chanAddr ch 0x000) m s → c.state = .disabled → configOk c = true →
      ∃ t, exec (.chnEnable m ch) s = .next t ∧ (chanAt t ch).state = .running ∧ (chanAt t ch).enable = true ∧ ∀ n, n ≠ ch → chanAt t n = chanAt s n) ∧
    (∀ m, WriteOpen (chanAddr ch 0x000) m s → c.state = .running → heldSlots s ch ≠ 0 →
      (∃ t, exec (.chnDisableDrain m ch) s = .next t ∧ (chanAt t ch).state = .quiescing ∧ (chanAt t ch).enable = false ∧ t.jobs = s.jobs) ∧
      (∃ t, exec (.chnDisableWithdraw m ch) s = .next t ∧ (chanAt t ch).state = .quiescing ∧ (chanAt t ch).enable = false ∧
        ∀ k j, jobAt s k = some j → j.stage ≠ .finished → j.withdraw = none →
          jobAt t k = some (if j.chan = ch then { j with withdraw := some 0x0A01 } else j))) ∧
    (∀ m, WriteOpen (chanAddr ch 0x000) m s → c.state = .running → heldSlots s ch = 0 → c.refusals = [] → c.head = none → c.haltNotice = none →
      ∃ t, exec (.chnDisableDrain m ch) s = .next t ∧ (chanAt t ch).state = .disabled ∧ (chanAt t ch).alert.getLsbD 4 = true) ∧
    (∀ p : BitVec 32, s.link.inReset = .none → c.state = .running →
      (linkOpen s = true → sqSize c < (p - c.sqHead).toNat → (p - c.sqHead).toNat < 2 ^ 31 →
        ∃ t, exec (.chnSqDoorbell ch p) s = .next t ∧ (chanAt t ch).state = .halted ∧ (chanAt t ch).haltResult = 0x0101 ∧ (chanAt t ch).alert.getLsbD 0 = true) ∧
      (linkOpen s = true → (p = c.sqHead ∨ 2 ^ 31 ≤ (p - c.sqHead).toNat) → exec (.chnSqDoorbell ch p) s = .next s) ∧
      (linkOpen s = false → ∃ t, exec (.chnSqDoorbell ch p) s = .next t ∧ (chanAt t ch).keptDoorbell = some p)) ∧
    (∀ v : BitVec 32, s.link.inReset = .none → c.state ≠ .disabled →
      ((v - c.cqHead).toNat ≤ (c.cqTail - c.cqHead).toNat → ∃ t, exec (.chnCqHead ch v) s = .next t ∧ (chanAt t ch).cqHead = v ∧ t.jobs = s.jobs) ∧
      ((c.cqTail - c.cqHead).toNat < (v - c.cqHead).toNat →
        ∃ t, exec (.chnCqHead ch v) s = .next t ∧ (chanAt t ch).cqHead = c.cqHead ∧ (chanAt t ch).alert.getLsbD 3 = true)) ∧
    (∀ v : BitVec 32, (s.link.inReset = .none → c.state = .disabled → exec (.chnCqHead ch v) s = .next (alert ch 3 s)) ∧
      (s.link.inReset ≠ .none → exec (.chnCqHead ch v) s = .next s ∧ exec (.chnSqDoorbell ch v) s = .next s))

/-- R111 to R113, R126, R158 to R162: a ring slot that was read reaches its channel, which looks at it; a line that the module holds is snooped, and a push is
assembled, taken or dropped, one not complete 1 swath after its first write too. -/
def Sys2Proof.Statements.RingLinesAndPushes : Prop :=
  ∀ (s : State) (ch : Nat),
    let c := chanAt s ch
    (∀ (index : Nat) (data : Bytes) (status : ReadStatus) (why : LineRead), c.state ≠ .disabled →
      (c.head = none ∨ index % sqSize c ≠ c.sqHead.toNat % sqSize c) →
      let bad := decide (status = .poisoned)
      let line : LineData := { data := fit 64 data, why := match why with | .window => .acquired | .doorbell => .doorbell, poisoned := bad }
      exec (.ringLineReadDone ch index data status why) s = .next (examine ch (takeLine ch (index % sqSize c) line
        (if bad then raise phyPage 0x0112 (c.sqBase.toNat * 4096 + 64 * (index % sqSize c)) { s with link := { s.link with poisoned := satInc s.link.poisoned } } else s)))) ∧
    (∀ (pos : Nat) (line : LineData), (∀ x, mfind pos c.lines = some x → x.why ≠ .pushed) → (line.why = .acquired → pos ∈ windowOf s c) →
      (chanAt (takeLine ch pos line s) ch).lines = mput pos line c.lines ∧
      (line.why = .acquired → line.poisoned = false → cacheActive s = true → pos ∈ (chanAt (takeLine ch pos line s) ch).held)) ∧
    (∀ (off : Nat) (data : Bytes), s.link.inReset = .none → 4 ≤ data.length → data.length ≤ 64 → data.length % 4 = 0 → off % 4 = 0 →
      off / 64 = (off + data.length - 1) / 64 → c.pushKept = false → regionFull c.push (off / 64) = false →
      let written := data.zipIdx.foldl (fun m e => mput (off + e.2) e.1 m) c.push
      let t := modChan ch (fun x => { x with push := written, pushFirst := if c.push = [] then now s else x.pushFirst }) s
      let h := parseHeader (regionBytes written 0)
      (pushComplete written = false → exec (.pushWrite ch off data) s = .next t) ∧
      (pushComplete written = true → linkOpen s = true → c.state = .running → h.stamp = c.sqHead.toNat → c.head = none →
        exec (.pushWrite ch off data) s = .next (examine ch (modChan ch (fun x => { x with
          push := [], pushKept := false
          lines := (List.range (min 4 h.slots)).foldl
            (fun m i => mput (c.sqHead.toNat % sqSize c + i) { data := regionBytes written i, why := .pushed, poisoned := false } m) c.lines }) t))) ∧
      (pushComplete written = true → linkOpen s = true → c.state = .running → (h.stamp ≠ c.sqHead.toNat ∨ c.head ≠ none) →
        ∃ u, exec (.pushWrite ch off data) s = .next u ∧ (chanAt u ch).push = [] ∧ (chanAt u ch).ignored = satInc c.ignored ∧ (chanAt u ch).lines = c.lines) ∧
      (pushComplete written = true → linkOpen s = false → c.state ≠ .disabled →
        exec (.pushWrite ch off data) s = .next (modChan ch (fun x => { x with pushKept := true }) t))) ∧
    (c.push ≠ [] → c.pushKept = false → c.pushFirst + 1 ≤ now s →
      ∃ t, exec (.pushAssemblyTimeout ch) s = .next t ∧ (chanAt t ch).push = [] ∧ (chanAt t ch).ignored = satInc c.ignored) ∧
    (∀ line : Nat, line ∈ c.held → cacheActive s = true →
      (∃ t, exec (.snoopInv ch line) s = .next t ∧ (chanAt t ch).held = c.held.filter (fun l => decide (l ≠ line)) ∧ t.link.snoops = satInc s.link.snoops ∧
        (mayRead s = true → (chanAt t ch).asked = c.asked ++ [line] ∧ t.out = .cache "RdShared" ch line :: .cache "RspIHitSE" ch line :: s.out) ∧
        (mayRead s = false → (chanAt t ch).asked = c.asked ∧ t.out = .cache "RspIHitSE" ch line :: s.out)) ∧
      exec (.snoopData ch line) s = .next { s with out := .cache "RspSHitSE" ch line :: s.out }) ∧
    (∀ line : Nat, line ∉ c.held →
      exec (.snoopInv ch line) s = .next { s with out := .cache "RspIHitI" ch line :: s.out } ∧
      exec (.snoopData ch line) s = .next { s with out := .cache "RspIHitI" ch line :: s.out })

/-- R23, R27, R41, R337, R348 to R350, R353, R354, R386, R387: an engine step that ends is taken off its engine, one under suspicion withholds its result and puts the
engine in quarantine, and an overwrite that ends frees the banks. -/
def Sys2Proof.Statements.EngineStepsEnd : Prop :=
  (∀ (s : State) (slot i kind idx : Nat) (b : Bound) (j : Job), runningOn s kind slot i = some (idx, b) → jobAt s slot = some j →
    ((stepAt j i).checked = true → endsHere (stepAt j i) kind b = true →
      exec (.engineStepEnd slot i kind .done) s = .next (settleUnit (enginePage kind idx) (stepEnds slot i kind idx b s)) ∧
      ∀ tag row, exec (.engineStepEnd slot i kind (.corrected tag row)) s = .next (settleUnit (enginePage kind idx)
        (stepEnds slot i kind idx b (bayRow kind idx tag row (raise (enginePage kind idx) (commonCode (enginePage kind idx) 3) (tag + 256 * row) s))))) ∧
    (kind = 0 → releaseChecked (stepAt j i).step.opcode = true → exec (.engineStepEnd slot i kind .suspected) s = .next (quarantine slot i idx s)) ∧
    (∀ tag row, tag ≠ 0x09 → exec (.engineStepEnd slot i kind (.rowBad tag row)) s
      = .next (settleUnit (enginePage kind idx) (abortJob slot 0x0503 (raise (enginePage kind idx) (commonCode (enginePage kind idx) 2) (tag + 256 * row) s)))) ∧
    (kind = 0 → (stepAt j i).step.opcode = 0x0151 →
      exec (.mldsaCutoff slot i) s
        = .next (raise (enginePage 0 idx) 0x0209 idx (quarantine slot i idx { s with sig := { s.sig with cutoffs := satInc s.sig.cutoffs } })))) ∧
  (∀ (s : State) (n : Nat), n < 64 → (engAt s 0 n).wiping ≠ 0 → ∃ t, exec (.abortWipeDone n) s = .next t ∧ (engAt t 0 n).wiping = 0 ∧
    (engAt t 0 n).running = (engAt s 0 n).running ∧ (engAt t 0 n).parked = (engAt s 0 n).parked ∧ ∀ k x, engKey k x ≠ engKey 0 n → engAt t k x = engAt s k x) ∧
  (∀ (s : State) (n : Nat), n < 256 → (engAt s 1 n).wiping ≠ 0 → ∃ t, exec (.cipherWipeDone n) s = .next t ∧ (engAt t 1 n).wiping = 0 ∧
    (engAt t 1 n).running = (engAt s 1 n).running ∧ (engAt t 1 n).parked = (engAt s 1 n).parked ∧ ∀ k x, engKey k x ≠ engKey 1 n → engAt t k x = engAt s k x)

/-- R247, R249, R380, R390, R391: what keeps the engines supplied: a fetched key reaches its bay, a holder with fewer than 2^16 nonces left gets its next block of 2^20 values
below the durable mark, and the cipher engines get their masks before the first admission and once in the admit phase of every 64th swath. -/
def Sys2Proof.Statements.EnginesAreSupplied : Prop :=
  (∀ (s : State) (block bay : Nat) (k : KeyBlock), (block, bay) ∈ s.keys.fills → keyAt s block = some k →
    let t := loadBay block k bay (intoCache block
      { s with keys := { s.keys with fills := s.keys.fills.filter (fun f => decide (f ≠ (block, bay))) } })
    exec (.keyFillDone block bay) s = .next (if bayHolds t bay block then t else bayFull bay k.handle t)) ∧
  (∀ (s : State) (holder : Nat), valuesLeft s holder < 2 ^ 16 → nonceExhausted s = false →
    s.cip.nonceNext.toNat + 2 ^ 20 ≤ s.cip.nonceMark.toNat + 2 ^ 32 →
    ∃ t, exec (.nonceBlockRequest holder) s = .next t ∧
      mfind holder t.cip.holders = some (holderBlocks s holder ++ [(s.cip.nonceNext.toNat, s.cip.nonceNext.toNat + 2 ^ 20)]) ∧
      t.cip.nonceNext.toNat = s.cip.nonceNext.toNat + 2 ^ 20 ∧ ∀ h, h ≠ holder → mfind h t.cip.holders = mfind h s.cip.holders) ∧
  (∀ s : State, s.start.service = false → exec .maskReseed s = .next (reseedAll s)) ∧
  (∀ s : State, s.start.service = true → s.sched.phase = .work → now s % 64 = 0 → s.cip.reseedSwath ≠ some (now s) →
    exec .maskReseed s = .next (reseedAll { s with cip := { s.cip with reseedSwath := some (now s) } }))

/-- R37, R39, R61: with power good the swaths alternate between an admit phase and a close; the counter moves on by one at the first clock of each, and a swath
command out of turn changes nothing. A swath command leaves the clock at the end of the admit phase (the model's choice, log entry 10).
Completes: swathStart, closePhase. -/
def Obligations.SwathsBeginAndClose : Prop :=
  ∀ s : State,
    (s.power.good = true → s.sched.phase = .close →
      exec .swathStart s = .next (admitPhase (beginSwath s) (entriesNext s)) ∧ (nextSwath s).sched.swath = s.sched.swath + 1 ∧ (nextSwath s).sched.phase = .work ∧
        (nextSwath s).sched.clock = 1250) ∧
    (∀ (energies : List (Nat × Nat)) (uj : Nat), s.power.good = true → s.sched.phase ≠ .close →
      exec (.closePhase energies uj) s = .next (closeEnergy energies uj (closeAfter (closePost (closeLoad (closeWork s)))))) ∧
    (s.sched.phase ≠ .close → exec .swathStart s = .next s) ∧
    (∀ (energies : List (Nat × Nat)) (uj : Nat), s.sched.phase = .close → exec (.closePhase energies uj) s = .next s)

/-- R165 to R167, R171, R233, R234, R457, R463: posting a completion writes one entry at the producer index, moves that index on, appends the job's audit record and frees
the job slot. -/
def Obligations.CompletionsAreRecordedAndReleased : Prop :=
  ∀ (s : State) (n k : Nat) (x : Item), x.slot = some k → x.result ≠ 0x0B01 → gapLoses s = false →
    let t := postItem n x s
    let c := chanAt s n
    (chanAt t n).cqTail = c.cqTail + 1 ∧ (chanAt t n).posted = c.posted + 1 ∧ jobAt t k = none ∧ (∀ m, m ≠ k → jobAt t m = jobAt s m) ∧
      t.out = .completion n c.cqTail.toNat (entryAddr c) .wowrInv (completionBytes c n x.cookie x.sqIndex x.result x.flags x.outLen (now s) s.audit.next) :: s.out ∧
      t.audit.next = s.audit.next + 1 ∧ t.audit.fresh = s.audit.fresh ++ [{ seq := s.audit.next, swath := now s % 2 ^ 48, body := x.record }] ∧
      ∀ m, m ≠ n → chanAt t m = chanAt s m

/-- R457 to R460, R464: every record takes 48 bytes whatever its kind, and the chain steps over them in the order of the sequence numbers. -/
def Obligations.AuditRecordsFormAChain : Prop :=
  (∀ r : AuditRec, (encodeRec r).length = 48) ∧
  (∀ (b : AuditBody) (s : State), ∃ r : AuditRec, r.seq = s.audit.next ∧ r.body = b ∧ r.swath = now s % 2 ^ 48 ∧
    appendRec b s = { s with audit := { s.audit with next := s.audit.next + 1, chain := sha384 (s.audit.chain ++ encodeRec r), fresh := s.audit.fresh ++ [r] } })

/-- R467 to R471, R475: a checkpoint fixes the chain and the count at the close of every 4,096th swath; it is held once both signatures have passed their check; a
co-signature that does not come within 4,096 swaths raises its event.
Completes: checkpointForm, checkpointSigned, cosignTimeout. -/
def Obligations.CheckpointsAreFormedAndSigned : Prop :=
  ∀ s : State,
    (s.sched.phase = .close → now s % 4096 = 4095 → s.audit.stalled = false → hasIdentity s.keeper.record.state = true →
      (∀ e ∈ s.audit.ckpts, e.2.swath ≠ now s ∨ e.2.epoch ≠ s.sched.epoch.toNat) →
      ∃ t c, exec .checkpointForm s = .next t ∧ mfind s.audit.nextCkpt t.audit.ckpts = some c ∧ c.number = s.audit.nextCkpt ∧ c.count = s.audit.next - 1 ∧
        c.chain = s.audit.chain ∧ c.swath = now s ∧ c.held = false ∧ t.audit.nextCkpt = s.audit.nextCkpt + 1) ∧
    (∀ (n : Nat) (c : Checkpoint), mfind n s.audit.ckpts = some c → c.held = false →
      (exec (.checkpointSigned n false) s = .next (raise auditPage 0x051E n s)) ∧
      (s.audit.cosign = false → ∃ t d, exec (.checkpointSigned n true) s = .next t ∧ mfind n t.audit.ckpts = some d ∧ d.held = true ∧ d.number = c.number ∧
        d.chain = c.chain ∧ d.ecdsa = (signBody (checkpointBody s c) s).1.1 ∧ d.mldsa = (signBody (checkpointBody s c) s).1.2 ∧
        t.audit.latest = max s.audit.latest n)) ∧
    (∀ n w : Nat, mfind n s.audit.cosignWait = some w → w ≤ now s →
      ∃ t, exec (.cosignTimeout n) s = .next t ∧ mfind n t.audit.cosignWait = none ∧ t.audit.ckpts = s.audit.ckpts)

/-- R38, R251, R334 to R336, R392, R438, R619, R620, R710, R713, R727 to R732, R772: start-up from power good to ready, in the order of R727.
Completes: powerGood, perstRelease, bootVerifyDone, ucodeLoadDone, dramWipeRegionDone, serviceStart, vaultReplayEnd, moduleReady, persistentErasureDone. -/
def Obligations.StartUpRuns : Prop :=
  ∀ s : State,
    (s.power.good = false → ∃ t, exec .powerGood s = .next t ∧ t.power.good = true ∧ t.power.switchOpen = false ∧ t.start = s.start ∧ t.keeper = s.keeper) ∧
    (s.power.good = true → s.power.failSeq = false → s.start.begun = false →
      ∃ t, exec (.perstRelease true) s = .next t ∧ t.start.begun = true ∧ t.start.step = 1 ∧ t.start.bootKeys = s.start.bootKeys + 1 ∧
        (coreAt t 16).sealKey = s.start.bootKeys + 1 ∧ t.boot.generation = s.boot.generation + 1 ∧ t.link.doeBusy = true ∧ t.keeper = s.keeper) ∧
    (s.start.begun = true → s.start.bootOk = false → s.start.halted = false →
      (∀ x xs b w ys, s.flash.selectors = x :: xs → s.flash.floorBoot ≤ b → s.flash.floorFirmware ≤ w →
        slotAgrees s 0 (slotBase 0 x.boot) (fun h => decide (byteAt 8 h = b.toNat)) = true →
        slotAgrees s 1 (slotBase 1 x.firmware) (fun h => decide (byteAt 8 h = w.toNat)) = true →
        ∃ t, exec (.bootVerifyDone (.passed b w :: ys)) s = .next t ∧ t.start.bootOk = true ∧ t.start.fallback = false ∧ t.flash.inUse = x ∧
          t.flash.bootVersion = b ∧ t.flash.firmwareVersion = w) ∧
      (∀ tries : List BootTry, (∀ r ∈ tries, ∃ f, r = .failed f) →
        ∃ t, exec (.bootVerifyDone tries) s = .next t ∧ t.start.bootOk = false ∧ t.start.halted = true ∧ t.start.step = 3 ∧ (coreAt t 16).halted = true)) ∧
    (s.start.bootOk = true → s.start.service = false → s.sig.verified = false → ∀ version security algs engines digests, s.flash.floorMicrocode ≤ security →
      slotAgrees s 2 (slotBase 2 s.flash.inUse.microcode)
        (fun h => decide (leAt 6 2 h = version.toNat ∧ byteAt 8 h = security.toNat ∧ leAt 10 2 h = algs.toNat)) = true →
      ∃ t, exec (.ucodeLoadDone (.loaded version security algs engines digests)) s = .next t ∧ t.sig.verified = true ∧ t.sig.imageVersion = version ∧
        t.sig.securityVersion = security ∧ t.sig.algs = algs) ∧
    (s.start.bootOk = true → s.start.dramWiped < 4 → ∃ t, exec .dramWipeRegionDone s = .next t ∧ t.start.dramWiped = s.start.dramWiped + 1) ∧
    (s.start.bootOk = true → s.start.service = false → 2 ≤ s.start.dramWiped → ∀ trailerOk : Bool,
      ∃ t, exec (.serviceStart trailerOk) s = .next t ∧ t.start.service = true ∧ t.sched.epoch = s.flash.epoch + 1 ∧
        t.cip.nonceNext = s.flash.mark + BitVec.ofNat 64 (2 ^ 32) ∧ t.cip.holders = []) ∧
    (s.vault.replaying = true → 4 ≤ s.start.dramWiped → (∀ e ∈ s.vault.journal, macPasses s e = true) → ∃ t, exec .vaultReplayEnd s = .next t ∧ t.vault.replaying = false ∧ t.vault.ready = true ∧
      t.vault.records = s.vault.records ∧ t.vault.journal = s.vault.journal) ∧
    (s.start.service = true → s.start.ready = false → 4 ≤ s.start.dramWiped → (noReplay s = true ∨ s.vault.ready = true) → ∀ ms : Nat,
      ∃ t, exec (.moduleReady ms) s = .next t ∧ t.start.ready = true ∧ t.start.readyMs = BitVec.ofNat 32 ms) ∧
    (s.start.erasing = true → exec .persistentErasureDone s = .next (finishErasure s))

/-- R129 to R134, R736: the four resets. Each withdraws the jobs, whose records wait for the next close or are appended at once, and returns the channels to their reset
values; what each keeps of the link differs, and the audit chain goes on.
Completes: conventionalReset, flr, cxlReset, hotResetOrLinkDown. -/
def Obligations.ResetsKeepWhatTheSpecKeeps : Prop :=
  ∀ s : State, s.power.failSeq = false →
    (s.link.inReset = .none → ∃ t, exec .flr s = .next t ∧ t.jobs = [] ∧ t.chans = [] ∧ t.link.bme = false ∧ t.link.d3hot = false ∧ t.link.inReset = .flr ∧
      t.link.last = 1 ∧ t.msix.table = [] ∧ t.link.ioState = s.link.ioState ∧ t.audit.chain = s.audit.chain ∧ t.audit.next = s.audit.next ∧
      t.audit.resetJobs = s.audit.resetJobs ++ resetRecords s) ∧
    (∃ t, exec .cxlReset s = .next t ∧ t.jobs = [] ∧ t.chans = [] ∧ t.link.cacheState = 0 ∧ t.link.bme = s.link.bme ∧ t.link.ioState = s.link.ioState ∧
      t.link.inReset = .cxl ∧ t.link.last = 2 ∧ t.audit.chain = s.audit.chain ∧ t.audit.resetJobs = s.audit.resetJobs ++ resetRecords s) ∧
    (∀ down : Bool, ∃ t, exec (.hotResetOrLinkDown down) s = .next t ∧ t.jobs = [] ∧ t.chans = [] ∧ t.link.ioState = 0 ∧ t.link.sessions = [] ∧ t.link.ideKeys = [] ∧
      t.link.inReset = .hot ∧ t.link.last = 3 ∧ t.audit.chain = s.audit.chain ∧ (down = true → t.link.mode = 0)) ∧
    (s.power.good = true → ∃ t, exec .conventionalReset s = .next t ∧ t.jobs = [] ∧ t.chans = [] ∧ t.start.begun = false ∧ t.start.service = false ∧ t.cores = State.reset.cores ∧
      t.link = State.reset.link ∧ t.units = State.reset.units ∧ t.pending = s.pending ∧ t.power.good = true)

/-- R100 to R102, R108, R111, R119, R120, R125: events of the link. Bus Master Enable and the power state open and close posting, the coherency cache follows
Cache_Enable in CXL mode, a failed integrity check makes its stream insecure, and a correctable error is counted. Jobs keep everything but what they have written
of their output.
Completes: linkTrained, busMasterEnableClear, busMasterEnableSet, d3hotEntry, d0Entry, cacheEnableChange, ideIntegrityFail, correctableLinkError. -/
def Obligations.LinkEventsTakeEffect : Prop :=
  ∀ s : State,
    let kept := fun (t : State) => ∀ k, (jobAt t k).map (fun j => { j with written := [], unsent := false }) = (jobAt s k).map (fun j => { j with written := [], unsent := false })
    (∀ (cxl eqFailed : Bool) (width rate : Nat), width ∈ [1, 2, 4, 8] → 1 ≤ rate → rate ≤ 5 →
      ∃ t, exec (.linkTrained cxl width rate eqFailed) s = .next t ∧ t.link.mode = (if cxl = true ∧ 3 ≤ rate then 1 else 2) ∧ t.link.width = BitVec.ofNat 4 width ∧
        t.link.rate = BitVec.ofNat 3 rate ∧ kept t) ∧
    (s.link.bme = true → ∃ t, exec .busMasterEnableClear s = .next t ∧ t.link.bme = false ∧ linkOpen t = false ∧ t.jobs = s.jobs) ∧
    (∃ t, exec .busMasterEnableSet s = .next t ∧ t.link.bme = true ∧ kept t) ∧
    (s.link.d3hot = false → ∃ t, exec .d3hotEntry s = .next t ∧ t.link.d3hot = true ∧ linkOpen t = false ∧ t.jobs = s.jobs) ∧
    (∃ t, exec .d0Entry s = .next t ∧ t.link.d3hot = false ∧ kept t) ∧
    (∀ on : Bool, s.link.cacheEnable ≠ on → ∃ t, exec (.cacheEnableChange on) s = .next t ∧ t.link.cacheEnable = on ∧ t.link.mode = s.link.mode ∧ t.jobs = s.jobs) ∧
    (∀ n : Nat, n < 6 → ideStream s n ≠ 0 → ∃ t, exec (.ideIntegrityFail n) s = .next t ∧ ideStream t n = 2 ∧ ∀ k, k < 6 → k ≠ n → ideStream t k = ideStream s k) ∧
    (∀ status : Nat, ∃ t, exec (.correctableLinkError status) s = .next t ∧ t.link.aerCorrectable = s.link.aerCorrectable + 1 ∧ t.out = .aer true :: s.out ∧
      t.jobs = s.jobs ∧ t.chans = s.chans)

/-- R118, R121, R122, R124: the DOE mailbox once DOE Busy has cleared, and link key management inside a secured session. -/
def Sys2Proof.Statements.MailboxAnswers : Prop :=
  ∀ s : State, s.link.doeBusy = false →
    (∀ i v y : Nat, doeProtocols[i]? = some (v, y) → exec (.doeDiscovery i) s = .next (emit (.doe 0x0001 0 (leBytes 2 v ++ leBytes 1 y ++ leBytes 1 ((i + 1) % 4))) s)) ∧
    exec (.cdatTableAccess 0) s = .next (emit (.doe 0x1E98 2 ([0, 0] ++ leBytes 2 0xFFFF ++ leBytes 4 16 ++ [1, 0xEF] ++ zeros 10)) s) ∧
    (∀ v y : Nat, (v, y) ∉ doeProtocols → ∃ t, exec (.doeUnservedRequest v y) s = .next t ∧ t.link.doeError = true ∧ t.out = s.out ∧ t.jobs = s.jobs) ∧
    (∀ (n stream : Nat) (x : SpdmSession), s.start.halted = false → 3 ≤ s.link.spdmStage → mfind n s.link.sessions = some x → x.phase = .established → stream < 6 →
      exec (.ideKmRequest n stream .query) s = .next (emit (.doe 0x0001 2 (ascii "QUERY_RESP" ++ leBytes 1 stream)) s) ∧
      (∃ t, exec (.ideKmRequest n stream .keyProg) s = .next t ∧ stream ∈ t.link.ideKeys ∧ ideStream t stream = ideStream s stream) ∧
      (stream ∈ s.link.ideKeys → ∃ t, exec (.ideKmRequest n stream .setGo) s = .next t ∧ ideStream t stream = 1 ∧ stream ∉ t.link.ideKeys) ∧
      (stream ∉ s.link.ideKeys → exec (.ideKmRequest n stream .setGo) s = .next (spdmError 0x01 s)) ∧
      (∃ t, exec (.ideKmRequest n stream .setStop) s = .next t ∧ ideStream t stream = 0))

/-- R122, R123, R731: the SPDM responder. A new GET_VERSION starts over; requests come in the order of R122; sessions open, update their keys and end. -/
def Sys2Proof.Statements.SpdmAnswers : Prop :=
  ∀ s : State, s.link.doeBusy = false → s.start.halted = false →
    (∃ t, exec .spdmGetVersion s = .next t ∧ t.out = .spdm "VERSION" [0x10, 0x11, 0x12] :: s.out ∧ t.link.spdmStage = 1 ∧ t.link.sessions = []) ∧
    (∀ v : BitVec 8, 1 ≤ s.link.spdmStage → v = 0x10 ∨ v = 0x11 ∨ v = 0x12 →
      ∃ t, exec (.spdmGetCapabilities v) s = .next t ∧ t.link.spdmStage = 2 ∧ t.link.spdmVersion = v) ∧
    (2 ≤ s.link.spdmStage → ∃ t, exec (.spdmNegotiateAlgorithms true) s = .next t ∧ t.link.spdmStage = 3) ∧
    (s.link.spdmStage < 3 → exec .spdmGetDigests s = .next (spdmError 0x04 s)) ∧
    (3 ≤ s.link.spdmStage →
      exec .spdmGetDigests s = .next (emit (.spdm "DIGESTS" ([1] ++ sha384 (certChain s))) s) ∧
      (∀ off len : Nat, off < (certChain s).length →
        let p := ((certChain s).drop off).take len
        exec (.spdmGetCertificate 0 off len) s
          = .next (emit (.spdm "CERTIFICATE" ([0] ++ leBytes 2 p.length ++ leBytes 2 ((certChain s).length - off - p.length) ++ p)) s)) ∧
      (∀ nonce : Bytes, objectFits nonce.length = true →
        let n := drawBytes 32 s
        let body := sha384 (certChain s) ++ n.1 ++ sha384 ((List.range 6).flatMap (fun i => measurement s (i + 1)))
        let g := nameSign (fit 32 nonce ++ body) n.2
        exec (.spdmChallenge 0 nonce) s = .next (emit (.spdm "CHALLENGE_AUTH" (body ++ g.1)) g.2)) ∧
      (∀ (i : Nat) (nonce : Bytes), 1 ≤ i → i ≤ 6 → objectFits nonce.length = true →
        exec (.spdmGetMeasurements i false nonce) s = .next (emit (.spdm "MEASUREMENTS" ([1] ++ measurementBlock s i)) s)) ∧
      (∀ (n : Nat) (exchange : Bytes), objectFits exchange.length = true → s.link.spdmVersion ≠ 0x10 → s.link.sessions.length < 4 → mfind n s.link.sessions = none →
        ∃ t x, exec (.spdmKeyExchange n exchange) s = .next t ∧ mfind n t.link.sessions = some x ∧ x.phase = .handshake ∧
          ∀ m, m ≠ n → mfind m t.link.sessions = mfind m s.link.sessions) ∧
      (∀ (n : Nat) (x : SpdmSession), mfind n s.link.sessions = some x → x.phase = .handshake →
        (∃ t y, exec (.spdmFinish n true) s = .next t ∧ mfind n t.link.sessions = some y ∧ y.phase = .established ∧ y.secret = x.secret) ∧
        (∃ t, exec (.spdmFinish n false) s = .next t ∧ mfind n t.link.sessions = none)) ∧
      (∀ (n : Nat) (x : SpdmSession), mfind n s.link.sessions = some x → x.phase = .established →
        exec (.spdmHeartbeat n) s = .next (emit (.spdm "HEARTBEAT_ACK" []) s) ∧
        (∃ t y, exec (.spdmKeyUpdate n) s = .next t ∧ mfind n t.link.sessions = some y ∧ y.phase = .established ∧
          y.secret = std "SPDM key update" 48 [x.secret]) ∧
        (∃ t, exec (.spdmEndSession n) s = .next t ∧ mfind n t.link.sessions = none ∧ ∀ m, m ≠ n → mfind m t.link.sessions = mfind m s.link.sessions))) ∧
    (∀ code : Nat, exec (.spdmUnsupportedRequest code) s = .next (raise phyPage 0x0118 0x07 (emit (.spdm "ERROR" (leBytes 1 0x07 ++ leBytes 1 code)) s)))

/-- R2, R3, R32 to R34, R84, R107, R133, R462, R755, R756, R767, R789: registers are read and written over the link and the SMBus. A low word's read latches the high word for its
reader; an audited write takes effect with its CONFIG record, which shows the bits written to a write-1-to-set field only where they take effect, or is discarded with an event where the chain cannot take the record.
Completes: smbusRead, smbusWrite, registerWrite, registerRead. -/
def Obligations.RegistersAreReadAndWritten : Prop :=
  ∀ (s : State) (m : Master) (off v : Nat), off % 4 = 0 → off < 2 ^ 31 → (m = .host → s.link.inReset = .none) →
    (latchLow off = false → mfind (masterCode m * 2 ^ 32 + off) s.latches = none →
      exec (.registerRead m false off 4) s = .next (emit (.regRead (masterCode m) 4 (regWord s off)) (regReadEffect off s))) ∧
    (latchLow off = true → latchLow (off + 4) = false →
      ∃ t, exec (.registerRead m false off 4) s = .next t ∧ t.out.head? = some (.regRead (masterCode m) 4 (regWord s off)) ∧
        ∃ u, exec (.registerRead m false (off + 4) 4) t = .next u ∧ u.out.head? = some (.regRead (masterCode m) 4 (regWord s (off + 4) % 2 ^ 32))) ∧
    (auditedNow s off = false → exec (.registerWrite m false off 4 v) s = .next (regWriteWord off (v % 2 ^ 32) s)) ∧
    (auditedNow s off = true → writeDiscarded (regBase off) s = false →
      exec (.registerWrite m false off 4 v) s = .next (recordedAs (regBase off) m (fun s => regWhole s off)
        (regWhole (regWriteWord off (v % 2 ^ 32) s) off + regTaken off (v % 2 ^ 32) s) (regWriteWord off (v % 2 ^ 32)) s)) ∧
    (auditedNow s off = true → writeDiscarded (regBase off) s = true →
      exec (.registerWrite m false off 4 v) s = .next (raise auditPage 0x0527 (regBase off % 2 ^ 31) s)) ∧
    (smbusAnswers s = true → (smbusServes off = false → exec (.smbusRead off) s = .next (emit (.smbus 0xFFFFFFFF) s)) ∧
      (smbusServes off = true → latchLow off = false → mfind (masterCode .smbus * 2 ^ 32 + off) s.latches = none →
        exec (.smbusRead off) s = .next (emit (.smbus (regWord s off)) (regReadEffect off s))) ∧
      (exec (.smbusWrite (modulePage * 0x1000 + 0x0F0) v) s = .next (writeBy .smbus (modulePage * 0x1000 + 0x0F0) 4 v s)))

/-- R32 to R34, R77, R83, R96, R97, R187, R284, R351, R371, R462, R479, R482, R512, R519, R666, R789: commands that are audited writes of a register field have the write's effect with one
CONFIG record of the register before it and after it; a field that only sets shows there as it was written, and as 0 where the write is ignored. -/
def Sys2Proof.Statements.AuditedCommandsTakeEffect : Prop :=
  ∀ (s : State) (m : Master),
    (∀ ch : Nat, WriteOpen (chanAddr ch 0x000) m s → ∀ v : Nat,
      let w := recorded (chanAddr ch 0x000) m (fun t => chanWord t ch 0x000) (chanWriteWord ch 0x000 v) s
      (v = 1 + 2 * b2n (chanAt s ch).disableMode → exec (.chnEnable m ch) s = .next w) ∧ (v = 0 → exec (.chnDisableDrain m ch) s = .next w) ∧
        (v = 2 → exec (.chnDisableWithdraw m ch) s = .next w)) ∧
    (∀ a : Nat, WriteOpen (schAddr 0x150) m s →
      exec (.maintStart (some m) a) s = .next (recordedAs (schAddr 0x150) m (fun t => schWord t 0x150) (2 ^ a % 1024) (schWriteWord 0x150 (2 ^ a)) s)) ∧
    (∀ a : Nat, WriteOpen (schAddr 0x154) m s →
      let w := fun v => recordedAs (schAddr 0x154) m (fun t => schWord t 0x154) v (schWriteWord 0x154 (2 ^ a)) s
      (a < 10 → maintAt s a ≠ .idle → exec (.maintStop m a) s = .next (w (2 ^ a))) ∧ (maintAt s a = .idle ∨ 10 ≤ a → exec (.maintStop m a) s = .next (w 0))) ∧
    (∀ e : Nat, e < 64 → WriteOpen (sigPage * 0x1000 + 0x114) m s →
      let r := fun t => sigWord t 0x114
      let after := sigWriteWord 0x114 (256 + e) s
      exec (.sigSelftestStart m e) s
        = .next (recordedAs (sigPage * 0x1000 + 0x114) m r (r after + (if (mget {} s.sig.engines e).quarantined ∧ s.sig.stBusy = none then 256 else 0))
            (sigWriteWord 0x114 (256 + e)) s)) ∧
    (∀ bays : Nat, bays < 256 → WriteOpen (keyTile * 0x1000 + 0x11C) m s →
      exec (.keyBayFlush m bays) s = .next (recordedAs (keyTile * 0x1000 + 0x11C) m (fun t => keyWord t 0x11C) bays (keyWriteWord 0x11C bays) s)) ∧
    (∀ h : BitVec 64, WriteOpen (keeperPage * 0x1000 + 0x108) m s →
      exec (.stlKeyHandleWrite m h) s
        = .next (appendConfig (keeperPage * 0x1000 + 0x108) m 8 s.stile.handle.toNat (takeStileKey h s).stile.handle.toNat (takeStileKey h s))) ∧
    (∀ off v : Nat, WriteOpen (pageAddr auditTile off) m s →
      let w := recorded (pageAddr auditTile off) m (fun t => audWord t off) (audWriteWord off v) s
      (∀ log2 : BitVec 5, off = 0x108 → v = 1 + 256 * log2.toNat → exec (.audRingEnable m log2) s = .next w) ∧
        (off = 0x108 → v = 256 * s.audit.log2.toNat → exec (.audRingDisable m) s = .next w) ∧
        (off = 0x114 → v = 0 → exec (.audPolicyToStop m) s = .next w) ∧ (off = 0x114 → v = 1 → exec (.audPolicyToGap m) s = .next w)) ∧
    (WriteOpen (pageAddr rngTile 0x104) m s →
      exec (.rngRestart m) s = .next (recordedAs (pageAddr rngTile 0x104) m (fun t => rngWord t 0x104)
        (if (s.rng.state = .running ∨ s.rng.state = .halted) ∧ rngTileWorks s = true then 1 else 0) (rngWriteWord 0x104 1) s)) ∧
    (∀ v : BitVec 32, WriteOpen (pageAddr rngTile 0x108) m s →
      exec (.rngMinSourcesWrite m v) s = .next (recorded (pageAddr rngTile 0x108) m (fun t => rngWord t 0x108) (rngWriteWord 0x108 v.toNat) s))

/-- R169, R170, R472, R479, R482 to R484: the audit ring and the policy of a full reserve. An invalid configuration does not enable the ring; a consumer index outside the
posted entries is ignored. -/
def Sys2Proof.Statements.AuditRingAndPolicy : Prop :=
  ∀ (s : State) (m : Master),
    (WriteOpen (pageAddr auditTile 0x108) m s →
      (∀ log2 : BitVec 5, s.audit.enable = false → s.audit.base ≠ 0 → 6 ≤ log2.toNat → log2.toNat ≤ 20 → s.audit.head = s.audit.tail →
        ∃ t, exec (.audRingEnable m log2) s = .next t ∧ t.audit.enable = true ∧ t.audit.log2 = log2 ∧ t.audit.configError = false) ∧
      (∀ log2 : BitVec 5, s.audit.enable = false → (log2.toNat < 6 ∨ 20 < log2.toNat) →
        ∃ t, exec (.audRingEnable m log2) s = .next t ∧ t.audit.enable = false ∧ t.audit.configError = true) ∧
      (s.audit.enable = true → ∃ t, exec (.audRingDisable m) s = .next t ∧ t.audit.disablePending = true ∧ t.audit.enable = true)) ∧
    (∀ v : BitVec 32, s.link.inReset = .none →
      ((v - s.audit.head).toNat ≤ (s.audit.tail - s.audit.head).toNat → exec (.audRingHead v) s = .next { s with audit := { s.audit with head := v } }) ∧
      ((s.audit.tail - s.audit.head).toNat < (v - s.audit.head).toNat → exec (.audRingHead v) s = .next s)) ∧
    (WriteOpen (pageAddr auditTile 0x114) m s →
      (∃ t, exec (.audPolicyToGap m) s = .next t ∧ t.audit.gapPolicy = true ∧ t.audit.stallEndPending = s.audit.stalled) ∧
      (s.audit.gapPolicy = true → ∃ t, exec (.audPolicyToStop m) s = .next t ∧ t.audit.gapPolicy = false))

/-- R235, R500 to R504, R508 to R516: the noise sources and the generator. A source isolated or under test reaches no conditioned block. Too few healthy sources halt it; a failed source makes it condition afresh.
Completes: rngStartupEnd, rngTrimBlock, rngEstimateBlock, rngSourceFail, rngReseedComplete, drbgScheduledReseed, rngWaitExpiry, rngRestart, rngMinSourcesWrite,
conditionedBlockReady. -/
def Obligations.NoiseSourcesAndGenerator : Prop :=
  ∀ s : State,
    (∀ passed : BitVec 16, s.rng.state = .starting →
      (s.rng.min.toNat ≤ ((List.range 16).filter (fun n => passed.getLsbD n)).length →
        ∃ t, exec (.rngStartupEnd true passed) s = .next t ∧ t.rng.state = .running ∧ t.rng.level = 65536 ∧ ∀ n < 16, (sourceAt t n).healthy = passed.getLsbD n) ∧
      (∃ t, exec (.rngStartupEnd false passed) s = .next t ∧ t.rng.state = .halted ∧ t.rng.level = 0)) ∧
    (∀ n ones : Nat, n < 16 → s.rng.state ≠ .halted →
      (∃ t, exec (.rngTrimBlock n ones) s = .next t ∧ (sourceAt t n).trim.toInt
        = (let v := (sourceAt s n).trim.toInt; if 528 < ones then max (-128) (v - 1) else if ones < 496 then min 127 (v + 1) else v) ∧
        ∀ k, k ≠ n → sourceAt t k = sourceAt s k) ∧
      (∀ lags : BitVec 32, (sourceAt s n).atEnd < 4 → ∃ t, exec (.rngEstimateBlock n ones lags) s = .next t ∧ (sourceAt t n).ones = BitVec.ofNat 13 ones ∧
        (sourceAt t n).lag1 = lags.setWidth 8 ∧ (sourceAt t n).lag4 = (lags >>> 24).setWidth 8 ∧ (sourceAt t n).healthy = (sourceAt s n).healthy)) ∧
    (∀ (n : Nat) (repetition : Bool), n < 16 → (s.rng.state = .running ∨ s.rng.state = .reseeding) → (sourceAt s n).healthy = true →
      ∃ t, exec (.rngSourceFail n repetition) s = .next t ∧ (sourceAt t n).healthy = false ∧ t.rng.level = 0 ∧
        t.rng.state = (if s.rng.min.toNat ≤ healthyCount s - 1 then .reseeding else .halted)) ∧
    (s.rng.state = .reseeding → 3 ≤ s.rng.pool.length →
      ∃ t, exec .rngReseedComplete s = .next t ∧ t.rng.state = .running ∧ t.rng.pool = s.rng.pool.drop 3 ∧
        t.rng.drbg = s.rng.drbg.map (drbgUpdate (s.rng.pool.take 3).flatten) ∧ t.rng.reseeds = satInc s.rng.reseeds) ∧
    (s.rng.state = .running → 4194304 ≤ s.rng.given →
      (3 ≤ s.rng.pool.length → ∃ t, exec .drbgScheduledReseed s = .next t ∧ t.rng.pool = s.rng.pool.drop 3 ∧ t.rng.given = 0 ∧ t.rng.due = false) ∧
      (s.rng.pool.length < 3 → ∃ t, exec .drbgScheduledReseed s = .next t ∧ t.rng.due = true ∧ t.rng.pool = s.rng.pool)) ∧
    ((s.rng.state = .running ∨ s.rng.state = .reseeding) → s.rng.due = false → creditedSources s ≠ [] → s.rng.pool.length < 8 →
      ∃ t, exec .conditionedBlockReady s = .next t ∧ t.rng.pool = s.rng.pool ++ [(conditionedBlock s).1] ∧ t.rng.credited = s.rng.credited + 1024 ∧ t.rng.state = s.rng.state) ∧
    ((∀ n < 16, (sourceAt s n).healthy = true → maintRuns s 9 = true ∧ s.rng.rebalance = n) → exec .conditionedBlockReady s = .next s) ∧
    (∀ (slot i : Nat) (j : Job), jobAt s slot = some j → j.withdraw = none → (stepAt j i).rngWait ≠ 0 → (stepAt j i).stage = .waiting → (stepAt j i).checked = false →
      (stepAt j i).rngWait - 1 + s.rng.waitLimit.toNat ≤ now s → exec (.rngWaitExpiry slot i) s = .next (failStep slot i 0x0701 s)) ∧
    (∀ m : Master, WriteOpen (pageAddr rngTile 0x104) m s → (s.rng.state = .running ∨ s.rng.state = .halted) → rngTileWorks s = true →
      ∃ t, exec (.rngRestart m) s = .next t ∧ t.rng.state = .starting ∧ t.rng.level = 0 ∧ t.rng.pool = [] ∧ t.rng.drbg = none) ∧
    (∀ (m : Master) (v : BitVec 32), WriteOpen (pageAddr rngTile 0x108) m s → 4 ≤ v.toNat % 32 → v.toNat % 32 ≤ 16 →
      ∃ t, exec (.rngMinSourcesWrite m v) s = .next t ∧ t.rng.min.toNat = v.toNat % 32 ∧
        ((s.rng.state = .running ∨ s.rng.state = .reseeding) → healthyCount s < v.toNat % 32 → t.rng.state = .halted))

/-- R9, R764: an event raised in a page sets its pending bit there, and the bit climbs through the pages above while their masks let it through; a write of 1 clears it in a
group and in every descendant. A bit that a write of the mask lets through shows in the page above.
Completes: unitEvtPendClear. -/
def Obligations.RaisedEventsSetAndClearPendingBits : Prop :=
  ∀ (s : State) (p code detail : Nat),
    let t := raise p code detail s
    let b := pendBit code
    (code % 256 < 8 → 1 ≤ code / 256 → code / 256 ≤ 6 → b = code % 256) ∧ (¬ (code % 256 < 8 ∧ 1 ≤ code / 256 ∧ code / 256 ≤ 6) → b = 8) ∧
    (∀ n : Nat, n ≤ 5 → (∀ k < n, Nat.repeat parent k p ≠ modulePage ∧ (unitAt s (Nat.repeat parent k p)).mask.getLsbD b = false) →
      (unitAt t (Nat.repeat parent n p)).pend.getLsbD b = true) ∧
    (∀ q c, (unitAt s q).pend.getLsbD c = true → (unitAt t q).pend.getLsbD c = true) ∧ t.jobs = s.jobs ∧
    (pageExists p = true → s.link.inReset = .none → ∀ mask : BitVec 9, ∃ u, exec (.unitEvtPendClear p mask) s = .next u ∧
      ∀ q, (unitAt u q).pend = if q ∈ descendants p then (unitAt s q).pend &&& ~~~mask else (unitAt s q).pend) ∧
    (∀ (v : BitVec 32) (c : Nat), p ≠ modulePage → (unitAt s p).pend.getLsbD c = true → v.getLsbD c = false →
      (unitAt (headWriteWord p 0x034 v.toNat s) (parent p)).pend.getLsbD c = true)

/-- R487, R490 to R495, R787: the recorder collects, closes, programs and shows its records.
Completes: evtRateWindowEnd, privilegedRecordClose, tileBufferCollect, recProgramDone, recCursorOldest, recCursorNewest, recCursorSeek, recCursorNext,
recCursorPrevious, recWindowLoaded. -/
def Obligations.RecorderKeepsItsRecords : Prop :=
  ∀ s : State,
    (now s % 4096 = 4095 → ∃ t, exec .evtRateWindowEnd s = .next t ∧ t.recorder.counts = [] ∧ t.recorder.stored = s.recorder.stored) ∧
    (∀ r rs, s.recorder.openPriv = r :: rs → r.priv = true → 16 ≤ (now s + 2 ^ 48 - r.swath) % 2 ^ 48 →
      ∃ t, exec .privilegedRecordClose s = .next t ∧ t.recorder.openPriv = rs ∧ t.recorder.queue = s.recorder.queue ++ [r]) ∧
    (s.sched.phase = .close → now s % 64 = 63 → exec .tileBufferCollect s = .next (noteDropped s.recorder.dropped (collectAll false s))) ∧
    (∀ r rs, s.recorder.queue = r :: rs → s.recorder.word ≠ 0 →
      ∃ t, exec .recProgramDone s = .next t ∧ t.recorder.queue = rs ∧ t.recorder.stored = s.recorder.stored ++ [{ r with seq := s.recorder.nextSeq }] ∧
        t.recorder.nextSeq = s.recorder.nextSeq + 1) ∧
    (∀ n : Nat, let t := { s with recorder := { s.recorder with busy := true, command := n } }
      (n = 1 → exec .recCursorOldest s = .next t) ∧ (n = 2 → exec .recCursorNewest s = .next t) ∧ (n = 3 → exec .recCursorSeek s = .next t) ∧
        (n = 4 → exec .recCursorNext s = .next t) ∧ (n = 5 → exec .recCursorPrevious s = .next t)) ∧
    (s.recorder.busy = true → ∃ t, exec .recWindowLoaded s = .next t ∧ t.recorder.busy = false ∧ t.recorder.stored = s.recorder.stored ∧
      t.recorder.count = t.recorder.window.length ∧
      ∀ e, e ∈ t.recorder.window ↔ e ∈ s.recorder.stored ∧ t.recorder.first ≤ e.seq ∧ e.seq < t.recorder.first + 8)

/-- R26, R51, R72, R77 to R83, R96, R250, R426, R439, R443, R473, R516, R624, R679, R704, R795: each maintenance activity takes its steps while it runs and its share and the
pressure level let it (the slices that a step is charged are the model's choice, log entry 81); a step that may not go does nothing.
Completes: maintStart, vaultRekeyLeaf, vaultGcStep, vaultPatrolPage, dramPatrolRow, keyCacheRebuildBlock, auditReserveCompaction, codeFlashStagingSector,
rngRebalanceSource, rngRebalanceTimer, backupChunk, foldResyncItem. -/
def Obligations.MaintenanceActivitiesRun : Prop :=
  ∀ s : State,
    (∀ a : Nat, exec (.maintStart none a) s = .next { s with sched := { s.sched with startPending := s.sched.startPending ||| BitVec.ofNat 10 (2 ^ a) } }) ∧
    (∀ a : Nat, (maintRuns s a = false ∨ level s = 3 ∨ (level s ≠ 0 ∧ a ∈ [0, 1, 2, 4, 5, 6])) → maintGo s a = false) ∧
    (∀ (step : GcStep) (member block n m : Nat) (b : Bool),
      (maintGo s 0 = false → exec .vaultRekeyLeaf s = .next s) ∧ (maintGo s 1 = false → exec (.foldResyncItem member) s = .next s) ∧
      (maintGo s 2 = false → exec .backupChunk s = .next s) ∧ (maintGo s 3 = false → exec .keyCacheRebuildBlock s = .next s) ∧
      (maintGo s 4 = false → exec (.vaultGcStep step) s = .next s) ∧ (maintGo s 5 = false → exec (.auditReserveCompaction block) s = .next s) ∧
      (maintGo s 6 = false → exec (.vaultPatrolPage block n) s = .next s) ∧ (maintGo s 7 = false → exec (.dramPatrolRow n b) s = .next s) ∧
      (maintGo s 8 = false → exec (.codeFlashStagingSector n m b) s = .next s) ∧ (maintGo s 9 = false → exec (.rngRebalanceSource n b) s = .next s)) ∧
    (maintGo s 0 = true → s.vault.rekeyLeaf ≠ 0 →
      (∀ e, s.vault.records.find? (fun e => decide (s.vault.rekeyLeaf ≤ e.1 / 64)) = some e → s.sched.stopPending.getLsbD 0 = false →
        ∃ t, exec .vaultRekeyLeaf s = .next t ∧ t.vault.rekeyLeaf = e.1 / 64 + 1 ∧ t.vault.keyGen = s.vault.keyGen) ∧
      (s.vault.records.find? (fun e => decide (s.vault.rekeyLeaf ≤ e.1 / 64)) = none →
        ∃ t, exec .vaultRekeyLeaf s = .next t ∧ t.vault.rekeyLeaf = 0 ∧ t.vault.records = s.vault.records)) ∧
    (maintGo s 4 = true →
      (∀ leaf : Nat, (mfind leaf s.vault.homes).isSome = true → ∃ t, exec (.vaultGcStep (.move leaf)) s = .next t ∧ mfind leaf t.vault.homes = none) ∧
      (∀ b : Nat, leavesIn s b = [] → blockNamed s b = false → (mget {} s.vault.planes (planeOf b)).busy = false →
        (mget {} s.vault.blocks b).retired = false → ((mget {} s.vault.blocks b).interrupted = true ∨ (mget {} s.vault.blocks b).area = 1) → exec (.vaultGcStep (.erase b)) s = .next (safePoint 4 (beginErase b (maintTake 4 s)))) ∧
      exec (.vaultGcStep .finish) s = .next (raise vaultPage 0x0415 0 (endActivity 4 (maintTake 4 s)))) ∧
    (∀ block iterations : Nat, maintGo s 6 = true → ∃ t, exec (.vaultPatrolPage block iterations) s = .next t ∧ t.vault.patrolPage = s.vault.patrolPage + 1) ∧
    (∀ (channel : Nat) (corrected : Bool), maintGo s 7 = true →
      let row := RowPlace.dram (32 * s.vault.patrolRow)
      ∃ t, exec (.dramPatrolRow channel corrected) s = .next t ∧ t.vault.patrolRow = (s.vault.patrolRow + 1) % 2 ^ 30 ∧ t.dram = s.dram ∧
        (corrected = true → t.rowFaults = (clearRow row s).rowFaults) ∧
        (corrected = false → (mfind row.address.toNat s.rowFaults) = none → t.rowFaults = s.rowFaults)) ∧
    (maintGo s 3 = true → ∀ b rest, s.keys.rebuild = b :: rest → ∃ t, exec .keyCacheRebuildBlock s = .next t ∧ t.keys.rebuild = rest ∧ t.keys.keys = s.keys.keys) ∧
    (∀ block : Nat, maintGo s 5 = true → 86016 ≤ s.audit.held.length → (mget {} s.vault.planes (planeOf block)).busy = false →
      ∃ t, exec (.auditReserveCompaction block) s = .next t ∧ t.audit.held = s.audit.held.drop 86016 ∧ t.audit.undelivered = s.audit.undelivered) ∧
    (∀ sector target pulses : Nat, maintGo s 8 = true → inactiveTarget s sector = some target → s.flash.staging.getLsbD target = true →
      sectorErased s sector = false → (sectorAt s sector).failed = false → (partAt s (sector / 512)).state = .idle → s.power.failSeq = false →
      ∃ t, exec (.codeFlashStagingSector sector pulses true) s = .next t ∧ (sectorAt t sector).erases = (sectorAt s sector).erases + 1 ∧
        (sectorAt t sector).interrupted = false) ∧
    (∀ n : Nat, n < 15 → maintGo s 9 = true → s.rng.state = .running → s.rng.rebalance = n →
      ∃ t, exec (.rngRebalanceSource n true) s = .next t ∧ (sourceAt t n).healthy = true ∧ (sourceAt t n).trim = 0 ∧ t.rng.rebalance = n + 1 ∧
        ∀ k, k ≠ n → sourceAt t k = sourceAt s k) ∧
    (∀ n : Nat, s.rng.rebalance ≠ n → ∀ b, exec (.rngRebalanceSource n b) s = .next s) ∧
    exec .rngRebalanceTimer s = .next { s with sched := { s.sched with startPending := s.sched.startPending ||| BitVec.ofNat 10 (2 ^ 9) } } ∧
    (maintGo s 2 = true → exec .backupChunk s
      = .next (if (maintTake 2 s).sdc.backup.isNone then writeChunk (openSet (maintTake 2 s)) else writeChunk (maintTake 2 s))) ∧
    (∀ member : Nat, maintGo s 1 = true →
      let u := maintTake 1 s
      ((upMembers u).all (resyncedTo u) = true →
        exec (.foldResyncItem member) s = .next (raise (foldPage 0) 0x060F 0 (endActivity 1 (modFold (fun x => { x with told := [] }) u)))) ∧
      (∀ c, (upMembers u).all (resyncedTo u) = false → member ∈ upMembers u → member ∈ u.fold.told → nextFor u member = some c →
        exec (.foldResyncItem member) s = .next (sendChange member c u)))

/-- R24, R26, R67, R319, R426, R432, R433, R435, R439, R440: NAND operations that end, and a mirror acknowledgement that does not come. A failed program or erase retires its block. -/
def Sys2Proof.Statements.NandOperationsEnd : Prop :=
  ∀ s : State,
    (∀ (n iterations micros : Nat) (decoded : Bool) (r : NandRead), s.vault.reads[n]? = some r → r.aborted = false → micros ≤ 30 →
      let rows := nandSeen s (quarterRows s r.target)
      let good := decoded && rows.all (fun e => e.2.delivers.isSome)
      (good = true → exec (.nandReadDone n decoded iterations micros) s = .next (noteDecode iterations (cacheTarget r (dropRead r (countNand rows s))))) ∧
      (good = false → r.job = none → r.rereads < 4 → ∃ t, exec (.nandReadDone n decoded iterations micros) s = .next t ∧
        (mget {} t.vault.blocks (readBlock s r.target)).refresh = true ∧
        t.vault.reads = s.vault.reads.map (fun x => if x = r then { x with rereads := x.rereads + 1 } else x)) ∧
      (∀ k i j, good = false → r.job = some (k, i) → jobAt s k = some j → j.hdr.cls ≠ 0 → 4 ≤ r.rereads →
        exec (.nandReadDone n decoded iterations micros) s = .next (failStep k i 0x0608 (raise vaultPage 0x040F (readBlock s r.target) (dropRead r s))))) ∧
    (∀ (w : NandWrite) (block page : Nat), programTakes s w block page = false → ∀ b, exec (.nandProgramDone w block page b) s = .next s) ∧
    (∀ (w : NandWrite) (block page : Nat), programTakes s w block page = true → ∃ t, exec (.nandProgramDone w block page false) s = .next t ∧ (mget {} t.vault.blocks block).retired = true ∧
      t.vault.records = s.vault.records ∧ t.vault.journal = s.vault.journal) ∧
    (∀ (upto block page : Nat), programTakes s (.journal upto) block page = true → ∃ t, exec (.nandProgramDone (.journal upto) block page true) s = .next t ∧
      t.vault.programmed = max s.vault.programmed (min upto (s.vault.nextSeq - 1)) ∧
      (mget {} t.vault.blocks block).written = (mget {} s.vault.blocks block).written + 1 ∧ (mget {} t.vault.blocks block).area = 5) ∧
    (∀ (leaf block page : Nat), programTakes s (.leaves [leaf]) block page = true → ∃ t, exec (.nandProgramDone (.leaves [leaf]) block page true) s = .next t ∧ mfind leaf t.vault.homes = some ((block * 256 + page) * 4)) ∧
    (∀ block : Nat, (mget {} s.vault.blocks block).interrupted = true → (mget {} s.vault.planes (planeOf block)).busy = true →
      (∃ t, exec (.nandEraseDone block true) s = .next t ∧ (mget {} t.vault.blocks block).erases = (mget {} s.vault.blocks block).erases + 1 ∧
        (mget {} t.vault.blocks block).interrupted = false ∧ t.vault.nextSeq = s.vault.nextSeq + 1) ∧
      (∃ t, exec (.nandEraseDone block false) s = .next t ∧ (mget {} t.vault.blocks block).retired = true)) ∧
    (∀ (slot q e : Nat) (j : Job), jobAt s slot = some j → j.mirrorWait = some (q, e) → j.hdr.cls ≠ 0 → e ≤ now s → exec (.mirrorTimeout slot) s = .next (mirrorLate slot s))

/-- R351, R284, R666: the self-test of a quarantined engine, the flush of the key bays and the tag's key. -/
def Sys2Proof.Statements.SelfTestsAndKeyRegisters : Prop :=
  ∀ s : State,
    (∀ (e : Nat) (passed : Bool), s.sig.stBusy = some e → ∃ t, exec (.sigSelftestEnd passed) s = .next t ∧ t.sig.stBusy = none ∧
      t.sig.stResult = (if passed then 1 else 2) ∧ (mget {} t.sig.engines e).quarantined = false ∧
      ((unitAt s (enginePage 0 e)).state = .isolated → passed = false → (unitAt t (enginePage 0 e)).state = .failed)) ∧
    (∀ (m : Master) (bays : Nat), WriteOpen (keyTile * 0x1000 + 0x11C) m s → ∃ t, exec (.keyBayFlush m bays) s = .next t ∧ t.keys.keys = s.keys.keys ∧ t.keys.pins = s.keys.pins ∧
      ∀ b, (bit b (bays % 256) = true → ∀ e ∈ (bayAt t b).entries, e.pinned = true) ∧
        (canonical {} s.keys.bays = true → bit b (bays % 256) = false → bayAt t b = bayAt s b)) ∧
    (∀ (m : Master) (h : BitVec 64), WriteOpen (keeperPage * 0x1000 + 0x108) m s → ∃ t, exec (.stlKeyHandleWrite m h) s = .next t ∧ t.keys = (takeStileKey h s).keys ∧
      t.stile = (takeStileKey h s).stile)

/-- R23, R24, R557, R605 to R612, R621, R622: commands of the code flash, from a unit or from a core's command block. A word is programmed once; an erase is suspended and resumed. -/
def Sys2Proof.Statements.FlashCommandsRun : Prop :=
  (∀ (s : State) (addr : Nat) (w : Bytes), addr % 32 = 0 → addr < 0x4000000 → (sectorAt s (addr / 0x10000)).failed = false →
    let p := partitionOf addr
    let x := partAt s p
    let sec := addr / 0x10000
    ((sectorAt s sec).interrupted = false → x.program = none → x.sector = none →
      (∃ t, exec (.flsRead (.unit addr w) false) s = .next t ∧
        (∀ data, wordAt s (wordIndex s addr) = some (some data) → (flashRead s (wordIndex s addr) data).mended = false → t.flash.words = s.flash.words) ∧
        t.flash.lastStatus
        = (match wordAt s (wordIndex s addr) with
          | none => 0x0B
          | some none => 0x0C
          | some (some data) => if (flashRead s (wordIndex s addr) data).delivers.isNone then 0x0C else 0)) ∧
      (x.state = .idle → ((sec = 130 ∨ sec = 131) → countersOk s (fit 32 w) = true) → wordAt s (wordIndex s addr) = none →
        ∃ t, exec (.flsProgram (.unit addr w)) s = .next t ∧ (partAt t p).state = .program ∧ (partAt t p).program = some (wordIndex s addr, fit 32 w))) ∧
    (addr % 0x10000 = 0 → x.state = .idle → s.power.failSeq = false →
      ∃ t, exec (.flsErase (.unit addr w)) s = .next t ∧ (partAt t p).state = .erase ∧ (partAt t p).sector = some (servedBy s sec)) ∧
    (x.state = .erase → ∃ t, exec (.flsSuspend (.unit addr w)) s = .next t ∧ (partAt t p).state = .suspending ∧ (partAt t p).sector = x.sector) ∧
    (x.state = .suspended → s.power.failSeq = false → ∃ t, exec (.flsResume (.unit addr w)) s = .next t ∧ (partAt t p).state = .erase ∧ (partAt t p).sector = x.sector)) ∧
  (∀ (s : State) (p : Nat), let x := partAt s p
    (∀ i w, x.program = some (i, w) → ∃ t, exec (.flsProgramEnd p) s = .next t ∧ (partAt t p).program = none ∧ wordAt t i = some (some w) ∧
      (x.state = .program → (partAt t p).state = .idle)) ∧
    (∀ k pulses, x.state = .erase → x.sector = some k → ∃ t, exec (.flsEraseEnd p pulses true) s = .next t ∧ (partAt t p).state = .idle ∧ (partAt t p).sector = none ∧
      t.flash.pulseCount = BitVec.ofNat 7 pulses) ∧
    (x.state = .suspending → pulseRan s x = true → ∃ t, exec (.flsSuspendDone p) s = .next t ∧ (partAt t p).state = .suspended)) ∧
  (∀ (s0 : State) (x : Issue) (cap : BitVec 3) (rs : BitVec 5) (corrected : Bool), TakesEffect (atIssue x s0) x { shadowBad := true } [] →
    let s := atIssue x s0
    let a := (gRead (regsOf x s) rs).toNat
    let b := sysBlock s x.core a
    let answer := fun (c : Bool) => flsCommand (byteAt 0 b) (some (x.core, a)) (leAt 4 4 b) (slice 32 32 b) c s
    flsSpelled x cap rs s0 = true → Allows s x cap 6 → flsWaits s (byteAt 0 b) (leAt 4 4 b) = false →
      exec (.flsRead (.sys x cap rs) corrected) s0 = .next (sysDone x rs (answer corrected)) ∧
      exec (.flsProgram (.sys x cap rs)) s0 = .next (sysDone x rs (answer false)) ∧ exec (.flsErase (.sys x cap rs)) s0 = .next (sysDone x rs (answer false)) ∧
      exec (.flsSuspend (.sys x cap rs)) s0 = .next (sysDone x rs (answer false)) ∧ exec (.flsResume (.sys x cap rs)) s0 = .next (sysDone x rs (answer false)))

/-- R12, R71, R73, R75, R133, R756, R760 to R762, R764: the control fields of unit pages. A unit that is not an engine is disabled at once, enabled again, isolated and released; a
plane's profile is 0 to 3, and waits in requested while THERMAL holds. -/
def Sys2Proof.Statements.UnitsAreControlled : Prop :=
  ∀ (s : State) (m : Master) (p : Nat), pageExists p = true →
    (WriteOpen (pageAddr p 0x014) m s → ∀ v : Nat,
      let w := recorded (pageAddr p 0x014) m (fun t => headWord t p 0x014) (headWriteWord p 0x014 v) s
      (v = ctlWord s p / 2 * 2 + 1 → exec (.unitEnable m p) s = .next w) ∧ (v = ctlWord s p / 4 * 4 → exec (.unitDisableDrain m p) s = .next w) ∧
        (v = ctlWord s p / 4 * 4 + 2 → exec (.unitDisableWithdraw m p) s = .next w) ∧ (v = ctlWord s p % 4 + 4 → exec (.unitIsolate m p) s = .next w) ∧
        (v = ctlWord s p % 4 → exec (.unitUnisolate m p) s = .next w)) ∧
    (WriteOpen (pageAddr p 0x014) m s → levelOf p = 1 → fixedUnit p = false → engineOf p = none → p ≠ rngPage →
      ((unitAt s p).state = .on → (unitAt s p).isolate = false →
        (∃ t, exec (.unitDisableDrain m p) s = .next t ∧ (unitAt t p).state = .quiesced ∧ (unitAt t p).enable = false) ∧
        (∃ t, exec (.unitDisableWithdraw m p) s = .next t ∧ (unitAt t p).state = .quiesced ∧ (unitAt t p).disableMode = true) ∧
        (∃ t, exec (.unitIsolate m p) s = .next t ∧ (unitAt t p).state = .isolated ∧ (unitAt t p).isolate = true)) ∧
      ((unitAt s p).state = .quiesced → (unitAt s p).isolate = false →
        ∃ t, exec (.unitEnable m p) s = .next t ∧ (unitAt t p).state = .on ∧ (unitAt t p).enable = true) ∧
      ((unitAt s p).state = .isolated → (unitAt s p).cause = .write →
        ∃ t, exec (.unitUnisolate m p) s = .next t ∧ (unitAt t p).state = .off ∧ (unitAt t p).isolate = false)) ∧
    (∀ (plane : Nat) (v : BitVec 4), plane < 6 → p = mkPage plane 0 0 0 → WriteOpen (pageAddr p 0x018) m s →
      ∃ t, exec (.unitProfileWrite m plane v) s = .next t ∧
        (v.toNat ≤ 3 → (unitAt s p).profile ≠ 4 → (unitAt t p).profile = v) ∧
        (v.toNat ≤ 3 → (unitAt s p).profile = 4 → (unitAt t p).profile = 4 ∧ (unitAt t p).requested = v) ∧
        (3 < v.toNat → (unitAt t p).profile = (unitAt s p).profile)) ∧
    (s.link.inReset = .none → ∀ mask : BitVec 9, ∃ t, exec (.unitEvtPendClear p mask) s = .next t ∧
      ∀ q, (unitAt t q).pend = if q ∈ descendants p then (unitAt s q).pend &&& ~~~mask else (unitAt s q).pend) ∧
    (m = .host → s.link.inReset ≠ .none → exec (.unitErrCapt3Read m p) s = .next (emit (.regRead 0 4 (2 ^ 32 - 1)) s)) ∧
    ((m = .host → s.link.inReset = .none) → ∃ t, exec (.unitErrCapt3Read m p) s = .next t ∧ t.out = .regRead (masterCode m) 4 (unitAt s p).captCount.toNat :: s.out ∧ (unitAt t p).captCount = 0)

/-- R739 to R742, R752, R760, R789: power domains gate when every unit in them may, wake, latch off on a short and are cleared. -/
def Sys2Proof.Statements.PowerDomainsSwitch : Prop :=
  ∀ (s : State) (d : Nat), d < 64 →
    ((domainAtP s d).state = .on → mayGate s d = true →
      ∃ t, exec (.domainIdleGate d) s = .next t ∧ (domainAtP t d).state = .gated ∧ t.jobs = s.jobs ∧ ∀ e, e ≠ d → domainAtP t e = domainAtP s e) ∧
    ((domainAtP s d).state = .waking → ∃ t, exec (.domainWakeDone d) s = .next t ∧ (domainAtP t d).state = .on ∧ ∀ e, e ≠ d → domainAtP t e = domainAtP s e) ∧
    (s.power.good = true → (domainAtP s d).state ≠ .latched →
      ∃ t, exec (.domainShortLatch d) s = .next t ∧ (domainAtP t d).state = .latched ∧ (domainAtP t d).latches = (domainAtP s d).latches + 1 ∧
        (domainAtP t d).thermal = false) ∧
    (∀ (m : Master) (high : Bool) (mask : BitVec 32), WriteOpen (modulePage * 0x1000 + 0x324) m s →
      let taken := ∃ i < 32, mask.getLsbD i = true ∧ mayClear s (if high then i + 32 else i) = true
      let record := fun v => appendConfig (modulePage * 0x1000 + 0x324) m 4 0 v (clearDomains high mask.toNat s)
      (taken → exec (.pwrDomainClear m high mask) s = .next (record (if high then 2 ^ 32 * mask.toNat else mask.toNat))) ∧
        (¬ taken → exec (.pwrDomainClear m high mask) s = .next (record 0) ∧ clearDomains high mask.toNat s = s))

/-- R734 to R737, R746 to R748: the input, the pressure levels and the power-fail sequence. A level rises at once and falls to the level whose condition still holds; the
sequence stops admission and every request, flushes, and ends with the rails off.
Completes: powerFailStart, powerFailFlushDone, railsOff, overvoltageClamp, overvoltageTimeout, reverseInput, currentLimitHold, pressureRise, pressureFall,
holdupTest. -/
def Obligations.PowerInputAndFailure : Prop :=
  ∀ s : State,
    (s.power.good = true → s.power.failSeq = false →
      (∀ (mv : Nat) (rail : Bool), ∃ t, exec (.powerFailStart mv rail) s = .next t ∧ t.power.failSeq = true ∧ t.power.failStep = 1 ∧ t.power.pressure = 3 ∧
        t.ceremony.queue = [] ∧ t.jobs = s.jobs) ∧
      (s.power.switchOpen = false → ∃ t, exec .overvoltageTimeout s = .next t ∧ t.power.switchOpen = true ∧ t.power.failSeq = true) ∧
      (s.power.levelSince + 64 ≤ now s → ∀ mv ma : Nat, ∃ t, exec (.pressureFall mv ma) s = .next t ∧ t.power.pressure.toNat = min s.power.pressure.toNat (pressureOf t.power) ∧
        t.power.mv = BitVec.ofNat 16 mv) ∧
      (∀ uf mv : Nat, ∃ t, exec (.holdupTest uf mv) s = .next t ∧ t.power.holdupUf = BitVec.ofNat 16 uf ∧ t.power.holdupOk = decide (750 ≤ uf ∧ 45000 ≤ mv))) ∧
    (s.power.good = true →
      (∀ mv ma : Nat, ∃ t, exec (.pressureRise mv ma) s = .next t ∧ t.power.pressure.toNat = max s.power.pressure.toNat (pressureOf t.power) ∧
        t.power.mv = BitVec.ofNat 16 mv) ∧
      (s.power.cond2 = false → ∃ t, exec .currentLimitHold s = .next t ∧ t.power.currentLimit = true ∧ t.power.cond2 = true ∧ 2 ≤ t.power.pressure.toNat) ∧
      (∀ mv : Nat, 42000 < mv → s.power.overvoltage = false →
        ∃ t, exec (.overvoltageClamp mv) s = .next t ∧ t.power.overvoltage = true ∧ t.power.mv = BitVec.ofNat 16 mv ∧ t.power.failSeq = s.power.failSeq)) ∧
    (s.power.good = false → ∃ t, exec .reverseInput s = .next t ∧ t.power.reverseFlag = true ∧ t.power.good = false) ∧
    (s.power.failSeq = true →
      (s.power.failStep = 2 → ∃ t, exec .powerFailFlushDone s = .next t ∧ t.power.failStep = 5 ∧ t.keeper.record.state = s.keeper.record.state ∧
        t.keeper.record.seq = s.keeper.record.seq + 1) ∧
      (s.power.failStep = 5 → ∀ input : Bool, ∃ t, exec (.railsOff input) s = .next t ∧ t.power.good = input ∧ t.power.failSeq = false ∧ t.jobs = [] ∧ t.chans = [] ∧
        t.keeper.record = s.keeper.record ∧ t.start.begun = false))

/-- R75, R749 to R751: a junction sensor's sample. At 105 °C (210 half degrees) its plane throttles, at 120 °C its domains shut down; an implausible reading marks the
sensor faulty and is not acted on. -/
def Sys2Proof.Statements.SensorsAreSampled : Prop :=
  ∀ (s : State) (k : Nat) (v : BitVec 10) (odd : Bool),
    let t := sampleSensor k v odd s
    (sensorAt t k).temp = v ∧ (sensorAt t k).faulty = (odd || decide (v.toInt < -100 ∨ 300 < v.toInt)) ∧
      ((sensorAt t k).faulty = false → (210 ≤ v.toInt → (sensorAt t k).throttled = true) ∧ (240 ≤ v.toInt → (sensorAt t k).shut = true)) ∧
      ((sensorAt t k).faulty = true → (sensorAt t k).throttled = (sensorAt s k).throttled ∧ (sensorAt t k).shut = (sensorAt s k).shut)

/-- R75, R749 to R751: the sensors are read together once a swath; throttling, the THERMAL profile and a thermal shutdown end after their cool times. -/
def Sys2Proof.Statements.ThermalStatesEnd : Prop :=
  ∀ s : State,
    (∀ (temps : List (BitVec 10)) (odd : List Nat), s.power.good = true → exec (.thermalSample temps odd) s
      = .next (coolPlanes (repeatIdx 48 (fun k t => match temps[k]? with | some v => sampleSensor k v (odd.contains k) t | none => t) s))) ∧
    (∀ k : Nat, k < 48 → (sensorAt s k).throttled = true → 64 ≤ (sensorAt s k).cool →
      ∃ t, exec (.throttleEnd k) s = .next t ∧ (sensorAt t k).throttled = false ∧ (sensorAt t k).temp = (sensorAt s k).temp) ∧
    (∀ plane : Nat, plane < 6 → (unitAt s (mkPage plane 0 0 0)).profile = 4 → 4096 ≤ (unitAt s (mkPage plane 0 0 0)).coolSwaths →
      ∃ t, exec (.thermalProfileExit plane) s = .next t ∧ (unitAt t (mkPage plane 0 0 0)).profile = (unitAt s (mkPage plane 0 0 0)).requested) ∧
    (∀ d k : Nat, domainSensor d = some k → (domainAtP s d).state = .latched → (domainAtP s d).thermal = true → 4096 ≤ (sensorAt s k).cold →
      ∃ t, exec (.thermalShutdownRecover d) s = .next t ∧ (domainAtP t d).state = .on ∧ (domainAtP t d).thermal = false)

/-- R706 to R713, R715 to R717, R733: a tamper cause erases the battery-backed key, raises the alarm and enters TAMPERED; in TAMPERED and DECOMMISSIONED it is logged alone;
the keeper counts its seconds.
Completes: hedgeSensorTrip, keeperSecondsTick. -/
def Obligations.TamperAndKeeper : Prop :=
  ∀ s : State,
    (∀ (cause detail : Nat) (v : BitVec 16), 1 ≤ cause → cause ≤ 5 →
      (s.keeper.record.state ≠ .tampered → s.keeper.record.state ≠ .decommissioned →
        ∃ t, exec (.hedgeSensorTrip cause detail v) s = .next t ∧ t.keeper.record.state = .tampered ∧ t.keeper.record.prev = s.keeper.record.state ∧
          t.keeper.record.cause = cause ∧ t.keeper.key = false ∧ t.keeper.alarm = true ∧ t.keeper.entries = s.keeper.entries + 1 ∧
          (s.power.good = true → t.keeper.respond = true) ∧ (s.power.good = false → t.keeper.secretGen = none)) ∧
      ((s.keeper.record.state = .tampered ∨ s.keeper.record.state = .decommissioned) →
        ∃ t, exec (.hedgeSensorTrip cause detail v) s = .next t ∧ t.keeper.record = s.keeper.record ∧ t.keeper.key = s.keeper.key ∧ t.jobs = s.jobs ∧
          t.keeper.entries = s.keeper.entries + 1)) ∧
    (∀ ext cell : BitVec 16, ∃ t, exec (.keeperSecondsTick ext cell) s = .next t ∧ t.keeper.seconds = s.keeper.seconds + 1 ∧ t.keeper.extMv = ext ∧
      t.keeper.cellMv = cell ∧ t.keeper.record = s.keeper.record ∧ t.jobs = s.jobs)

/-- R632 to R635, R651, R652, R655, R658, R789: the contact card. Insertion activates it in the first class allowed, class C first; an ATR that times out leads to the next
class, and after the last the card is given up; removal and a short deactivate it at once and end its presentation.
Completes: cardInserted, cardRemoved, cardShort, cardAtrTimeout, cardRetry, cardResponse, cardAtr, cardProtocolTimeout. -/
def Obligations.ContactCardIsServed : Prop :=
  ∀ s : State,
    (s.contact.present = false → s.audit.stalled = false → s.contact.classAllow.getLsbD 2 = true →
      ∃ t, exec .cardInserted s = .next t ∧ t.contact.present = true ∧ t.contact.active = true ∧ t.contact.cls = 3 ∧ t.contact.clock = 4 ∧ t.contact.bar = .none) ∧
    (s.contact.present = true →
      ∃ t, exec .cardRemoved s = .next t ∧ t.contact.present = false ∧ t.ceremony.contact = none ∧ (s.contact.active = true → t.contact.active = false)) ∧
    (s.contact.active = true →
      (∃ t, exec .cardShort s = .next t ∧ t.contact.active = false ∧ t.contact.bar = .short ∧ t.ceremony.contact = none ∧ t.ceremony.queue = s.ceremony.queue) ∧
      (∃ t, exec .cardProtocolTimeout s = .next t ∧ t.contact.active = false ∧ t.contact.bar = .protocol ∧ t.contact.timeouts = satInc s.contact.timeouts) ∧
      (∃ t, exec (.cardResponse false .parityError) s = .next t ∧ t.contact.active = false ∧ t.contact.bar = .protocol ∧ t.contact.parity = satInc s.contact.parity)) ∧
    (s.contact.active = true → s.contact.protocol = 0 →
      (s.contact.cls = 3 → s.contact.classAllow.getLsbD 1 = true →
        ∃ t, exec .cardAtrTimeout s = .next t ∧ t.contact.active = true ∧ t.contact.cls = 2 ∧ t.contact.clock = 4) ∧
      (s.contact.cls = 1 → ∃ t, exec .cardAtrTimeout s = .next t ∧ t.contact.active = false ∧ t.contact.bar = .protocol) ∧
      (∀ (classes : BitVec 3) (t0 t1 : Bool) (fmax : Nat), (t0 || t1) = true → classes.getLsbD (s.contact.cls.toNat - 1) = true → s.audit.stalled = false →
        ∃ t, exec (.cardAtr false classes t0 t1 fmax) s = .next t ∧ t.contact.protocol = (if t1 then 2 else 1) ∧
          t.contact.clock = BitVec.ofNat 8 (max 1 (min (min fmax 20) s.contact.clkMax.toNat)) ∧ t.ceremony.contact = some { step := 2, begun := now s } ∧
          t.out = .card false [0x00, 0xA4, 0x04, 0x00, 0xF0, 0x4E, 0x43, 0x41, 0x01] :: s.out)) ∧
    (∀ m : Master, WriteOpen (contactTile * 0x1000 + 0x100) m s →
      exec (.cardRetry m) s = .next (recordedAs (contactTile * 0x1000 + 0x100) m cardCtl
        (cardCtl (retryCard s) + (if s.contact.bar ≠ .none ∨ (s.contact.present = true ∧ s.contact.active = false ∧ s.audit.stalled = false) then 1 else 0)) retryCard s))

/-- R650 to R654, R789: buttons, presentations and windows. ACCEPT asks the card that was asked first for its authorisation; REJECT, 30 s without a button and 60 s in all end a
presentation that then counts nothing; the end of a window or a cancel ends the active request, and the next in the queue becomes active.
Completes: cardResponse, btnAccept, btnReject, presentationButtonTimeout, presentationAbandon, ceremonyWindowEnd, ceremonyCancel. -/
def Obligations.CeremoniesProceed : Prop :=
  ∀ s : State,
    (∀ (p : Presentation) (r : Request), s.ceremony.contact = some p → s.ceremony.reader = none → p.step = 5 → s.ceremony.queue.head? = some r →
      (p.late = false → r.pass ≠ 2 → ∃ t x, exec .btnAccept s = .next t ∧ t.ceremony.contact = some x ∧ x.step = 6 ∧ x.counter = p.counter + 1 ∧
        t.ceremony.queue = s.ceremony.queue) ∧
      (∃ t, exec .btnReject s = .next t ∧ t.ceremony.contact = none ∧ t.ceremony.queue = s.ceremony.queue)) ∧
    (∀ (reader : Bool) (p : Presentation), presentationAt s reader = some p →
      (p.step = 5 → p.asked + 1500000 ≤ now s →
        ∃ t, exec (.presentationButtonTimeout reader) s = .next t ∧ presentationAt t reader = none ∧ t.ceremony.queue = s.ceremony.queue) ∧
      (p.begun + 3000000 ≤ now s →
        ∃ t, exec (.presentationAbandon reader) s = .next t ∧ presentationAt t reader = none ∧ t.ceremony.queue = s.ceremony.queue) ∧
      (p.step = 2 → exec (.cardResponse reader (.apdu [] 0x9000)) s
        = .next (emit (.card reader [0x80, 0xCA, 0, 0]) (setPresentation reader (some { p with step := 3 }) s))) ∧
      (∀ (data : Bytes) (sw : Nat), 2 ≤ p.step → p.step ≠ 5 → sw ≠ 0x9000 →
        ∃ t, exec (.cardResponse reader (.apdu data sw)) s = .next t ∧ presentationAt t reader = none ∧ t.ceremony.queue = s.ceremony.queue)) ∧
    (∀ (r : Request) (rest : List Request) (e : Nat), s.ceremony.queue = r :: rest →
      (r.windowEnd = some e → e ≤ now s → ∃ t, exec .ceremonyWindowEnd s = .next t ∧ t.ceremony.queue.map (·.number) = rest.map (·.number) ∧
        (∀ (b : Bool) (p : Presentation) (a c : Nat) (d : Bytes), presentationAt t b = some p → p.request = some (r.number, a, c, d) → p.late = true)) ∧
      (cancelActive s).ceremony.queue.map (·.number) = rest.map (·.number) ∧ (∀ x, (cancelActive s).ceremony.queue.head? = some x → x.windowEnd.isSome = true)) ∧
    (∀ m : Master, WriteOpen (panelTile * 0x1000 + 0x110) m s →
      exec (.ceremonyCancel m) s = .next (recordedAs (panelTile * 0x1000 + 0x110) m (fun _ => 0) (if (activeRequest s).isSome then 1 else 0) cancelActive s))

/-- R636 to R639, R651, R652: the contactless reader. A ping whose amplitude moves by the threshold starts polling; polling, anticollision and selection lead to a
presentation; a protocol failure or an antenna fault ends it with the field off.
Completes: rdrPing, rdrAntennaFault, rdrFrameReceived, rdrResponseTimeout. -/
def Obligations.ReaderFindsCards : Prop :=
  ∀ s : State,
    let r := s.reader
    (∀ a : BitVec 8, r.stage = .off → r.antenna = 0 → pingDue s = true →
      let moved := if r.baseline.toNat ≤ a.toNat then a.toNat - r.baseline.toNat else r.baseline.toNat - a.toNat
      (r.threshold.toNat ≤ moved → s.audit.stalled = false → r.typeA = true →
        ∃ t, exec (.rdrPing a 0) s = .next t ∧ t.reader.stage = .reqa ∧ t.reader.last = a ∧ t.out = .card true [0x26] :: s.out) ∧
      (moved < r.threshold.toNat → exec (.rdrPing a 0) s = .next { s with reader := { r with last := a, pingAt := some (now s), baseline := moveBaseline r.baseline a } })) ∧
    (∀ short : Bool, r.stage ≠ .off → ∃ t, exec (.rdrAntennaFault short) s = .next t ∧ t.reader.stage = .off ∧ t.reader.antenna = (if short then 2 else 1) ∧ t.ceremony.reader = none) ∧
    (r.stage = .reqa → exec (.rdrFrameReceived .atqa) s
      = .next { s with reader := { r with stage := .anticollision, known := [], level := 0 }, out := .card true [0x93, 0x20] :: s.out }) ∧
    (r.stage = .anticollision → ∀ more : List Bool, (r.known ++ more).length = 40 → bccOf ((packBits (r.known ++ more)).take 4) = (packBits (r.known ++ more)).getD 4 0 →
      ∃ t, exec (.rdrFrameReceived (.uid more false)) s = .next t ∧ t.reader.stage = .select ∧ t.reader.known = r.known ++ more) ∧
    (r.stage = .select → ∀ v : Nat, bit 2 v = false → bit 5 v = true →
      exec (.rdrFrameReceived (.sak v)) s = .next { s with reader := { r with stage := .rats }, out := .card true [0xE0, 0x80] :: s.out }) ∧
    (r.stage = .rats → s.audit.stalled = false → ∀ rates : Nat, ∃ t, exec (.rdrFrameReceived (.ats rates)) s = .next t ∧ t.reader.stage = .session ∧ t.reader.card = 1 ∧
      t.ceremony.reader = some { step := 2, begun := now s }) ∧
    (r.stage = .session → ∃ t, exec .rdrResponseTimeout s = .next t ∧ t.reader.stage = .off ∧ t.reader.card = 0 ∧ t.ceremony.reader = none) ∧
    (r.stage = .reqa → r.typeB = true → ∃ t, exec .rdrResponseTimeout s = .next t ∧ t.reader.stage = .reqb)

namespace Sys2Proof.Statements

/-- The tag serves a command of its applet: the field is on, it is active after RATS, and the applet was selected (R661, R662). -/
def TagSelected (s : State) : Prop := s.stile.field = true ∧ s.stile.tag = .active ∧ s.stile.rats = true ∧ s.stile.selected = true

end Sys2Proof.Statements

/-- R659 to R670: the Stile tag. Its states follow ISO/IEC 14443-3 and a field loss keeps nothing of them; a first SELECT appends the session's tap-log entry; the
commands answer from the ferroelectric memory; a write through the keeper's port changes the region from 0x0800 to 0x1FFF alone.
Completes: stileFieldEntry, stileFieldLoss, stileReqa, stileWupa, stileAnticollision, stileSelectFrame, stileRats, stileHlta, stileRBlock, stileWtxResponse,
stileDeselect, stileApduSelect, stileReadStatement, stileGetStatus, stileReadLog, stileWtxTimer, stileWireWrite, stileStatementRefresh, stileUnlistedFrame. -/
def Obligations.StileTagAnswers : Prop :=
  ∀ s : State,
    (s.stile.field = false → ∃ t, exec .stileFieldEntry s = .next t ∧ t.stile.field = true ∧ t.stile.tag = .idle ∧ t.stile.rats = false ∧ t.stile.uid.length = 4 ∧
      t.stile.uid.head? = some 0x08 ∧ t.stile.seq = latestSeq s ∧ t.stile.mem = s.stile.mem) ∧
    (∃ t, exec .stileFieldLoss s = .next t ∧ t.stile.field = false ∧ t.stile.selected = false ∧ t.stile.mem = s.stile.mem ∧ t.stile.key = s.stile.key) ∧
    (s.stile.field = true →
      (s.stile.tag = .idle → ∃ t, exec .stileReqa s = .next t ∧ t.stile.tag = .ready ∧ t.out = .stile [0x04, 0x00] :: s.out) ∧
      (s.stile.tag = .halt → ∃ t, exec .stileWupa s = .next t ∧ t.stile.tag = .ready ∧ t.out = .stile [0x04, 0x00] :: s.out) ∧
      (s.stile.tag = .ready →
        exec (.stileAnticollision []) s = .next { s with out := .stile ((airBits s.stile.uid ++ airBits [bccOf s.stile.uid]).map (fun b => if b then 1 else 0)) :: s.out } ∧
        (∃ t, exec (.stileSelectFrame s.stile.uid (bccOf s.stile.uid)) s = .next t ∧ t.stile.tag = .active ∧ t.stile.rats = false ∧ t.out = .stile [0x20] :: s.out) ∧
        (∃ t, exec (.stileUnlistedFrame none) s = .next t ∧ t.stile.tag = .idle ∧ t.out = s.out)) ∧
      (s.stile.tag = .active → s.stile.rats = false →
        (∃ t, exec .stileRats s = .next t ∧ t.stile.rats = true ∧ t.stile.tag = .active ∧ t.out = .stile [0x05, 0x75, 0x00, 0x10, 0x00] :: s.out) ∧
        (∃ t, exec .stileHlta s = .next t ∧ t.stile.tag = .halt)) ∧
      (s.stile.tag = .active → s.stile.rats = true →
        (∃ t, exec .stileDeselect s = .next t ∧ t.stile.tag = .halt ∧ t.stile.selected = false ∧ t.out = .stile [0xC2] :: s.out) ∧
        (s.stile.lastBlock ≠ [] → ∀ ack : Bool, exec (.stileRBlock ack s.stile.blockNo) s = .next { s with out := .stile s.stile.lastBlock :: s.out }) ∧
        exec .stileWtxResponse s = .next s ∧
        (s.stile.lock = 1 → ∃ t, exec .stileWtxTimer s = .next t ∧ t.out = .stile [0xF2, 0x01] :: s.out ∧ t.stile.wtx = satInc s.stile.wtx) ∧
        (s.stile.logged = false → ∃ t, exec (.stileApduSelect stileAid 4) s = .next t ∧ t.stile.selected = true ∧ t.stile.logged = true ∧
          t.stile.seq = s.stile.seq + 1 ∧ t.stile.sessions = satInc s.stile.sessions))) ∧
    (TagSelected s →
      (∀ offset le : Nat, 1 ≤ le → le ≤ 256 → offset ≤ 0x3FF →
        exec (.stileReadStatement offset le) s = .next (tagAnswer (tagRead s (0x800 + offset) (min le (0x400 - offset))) 0x9000 s)) ∧
      (∀ challenge : Bytes, challenge.length = 16 → s.stile.material ≠ [] → exec (.stileGetStatus challenge) s = .next (tagAnswer
        (hedgeStatus s ++ cmac s.stile.material (ascii "NST1" ++ hedgeStatus s ++ challenge ++ s.stile.uid)) 0x9000 s)) ∧
      (∀ back : Nat, exec (.stileReadLog back 16) s = .next (tagAnswer
        (if back < min s.stile.seq 256 then tagRead s (slotAddr (s.stile.seq - back)) 16 else zeros 16) 0x9000 s))) ∧
    (∀ (addr : Nat) (data : Bytes) (held : Bool), ∃ t, exec (.stileWireWrite addr data held) s = .next t ∧ t.stile.lock = (if held then 1 else 0) ∧
      ∀ a : Nat, tagRead t a 1 = if addr ≤ a ∧ a < addr + data.length ∧ 0x800 ≤ a ∧ a < 0x1C20 then (data.drop (a - addr)).take 1 else tagRead s a 1) ∧
    (s.power.good = true → s.start.bootOk = true → ∃ t, exec .stileStatementRefresh s = .next t ∧ tagRead t 0x800 232 = fit 232 (statementBody s))

/-- R671 to R680: the backup card. A card is read at insertion and runs in the fastest mode that both sides allow; SDR104 is tuned, and tuned again after a CRC error; a
second error in the command falls back; a chunk is closed when its busy phase ends.
Completes: sdcInserted, sdcRemoved, sdcRetuneTimer, sdcCommandDone, sdcBusyEnd. -/
def Obligations.BackupCardIsServed : Prop :=
  ∀ s : State,
    (s.sdc.card = 0 → ∀ card : SdCard,
      (∃ t, exec (.sdcInserted card) s = .next t ∧ t.sdc.card = cardCode s card ∧ t.sdc.label = card.label ∧ t.sdc.lastBlock = card.lastBlock) ∧
      (card.supported = true → min (min card.offers 5) s.sdc.modeMax.toNat < 5 →
        ∃ t, exec (.sdcInserted card) s = .next t ∧ t.sdc.mode.toNat = min (min card.offers 5) s.sdc.modeMax.toNat) ∧
      (card.supported = true → 5 ≤ card.offers → 5 ≤ s.sdc.modeMax.toNat → 8 ≤ (longestRun card.taps).2 →
        ∃ t, exec (.sdcInserted card) s = .next t ∧ t.sdc.mode = 5 ∧ t.sdc.tap = BitVec.ofNat 6 (runCentre (longestRun card.taps)))) ∧
    (s.sdc.card ≠ 0 → ∃ t, exec .sdcRemoved s = .next t ∧ t.sdc.card = 0 ∧ t.sdc.mode = 7 ∧ t.sdc.backup = none ∧ t.sdc.crc = s.sdc.crc ∧
      (s.sdc.backup.isSome = true → t.sdc.lastResult = 3)) ∧
    (∀ taps : Nat, s.sdc.mode = 5 → s.sdc.backup = none →
      (s.sdc.tunedAt + 50000 ≤ now s → ∃ t, exec (.sdcRetuneTimer taps) s = .next t ∧ t.sdc.retunes = satInc s.sdc.retunes ∧
        (8 ≤ (longestRun taps).2 → t.sdc.mode = 5 ∧ t.sdc.tap = BitVec.ofNat 6 (runCentre (longestRun taps))) ∧ ((longestRun taps).2 < 8 → t.sdc.mode = 4)) ∧
      (s.sdc.reissued = false → 8 ≤ (longestRun taps).2 → ∃ t, exec (.sdcCommandDone false taps) s = .next t ∧ t.sdc.mode = 5 ∧ t.sdc.reissued = true ∧
        t.sdc.crc = satInc s.sdc.crc ∧ t.sdc.retunes = satInc s.sdc.retunes) ∧
      (s.sdc.reissued = true → ∃ t, exec (.sdcCommandDone false taps) s = .next t ∧ t.sdc.mode = 4 ∧ t.sdc.crc = satInc s.sdc.crc)) ∧
    (∀ b : Backup, s.sdc.backup = some b → b.busy = true →
      (∃ t, exec (.sdcBusyEnd true) s = .next t ∧ t.sdc.backup = none ∧ t.sdc.lastResult = 8) ∧
      (maintRuns s 2 = true → s.sched.stopPending.getLsbD 2 = false → b.chunk + 1 < chunkCount b.data →
        ∃ t, exec (.sdcBusyEnd false) s = .next t ∧ t.sdc.backup = some { b with busy := false, chunk := b.chunk + 1 }))

/-- R685 to R688, R691, R694 to R696, R705: a fold port. It trains, exchanges HELLO and FINISH and comes up with the member whose keys signed the HELLO; anything else is
refused, and tried again after 1 s; a lost link, a CLOSE or 8 swaths with no valid frame take it down, and 100 ms end a handshake.
Completes: foldPortEnable, foldPortDisable, foldBlockLock, foldBlockLockLost, foldHandshakeTimeout, foldRefusedRetry, foldIdleTimeout, foldHello, foldFinish,
foldClose, foldFrameDiscarded. -/
def Obligations.FoldPortsComeUpAndGoDown : Prop :=
  ∀ (s : State) (p : Nat), p ≤ 1 →
    let x := portAt s p
    (∀ m : Master, WriteOpen (portCtlAddr p) m s →
      exec (.foldPortEnable m p) s = .next (recorded (portCtlAddr p) m (fun t => b2n (portAt t p).enable) (setPort p true) s) ∧
      exec (.foldPortDisable m p) s = .next (recorded (portCtlAddr p) m (fun t => b2n (portAt t p).enable) (setPort p false) s)) ∧
    (x.state = .down → foldAllowed s = true → (portAt (setPort p true s) p).state = .training) ∧
    (x.state = .up → (portAt (setPort p false s) p).state = .down ∧ (portAt (setPort p false s) p).enable = false) ∧
    (x.state = .training → ∃ t, exec (.foldBlockLock p) s = .next t ∧ (portAt t p).state = .handshake ∧ ∀ q, q ≠ p → portAt t q = portAt s q) ∧
    (x.state = .handshake → x.peerHello = [] → ∀ body : Bytes, isInitiatorHello body = true → helloSerial body < deviceSerial s →
      (helloMember s body = none → ∃ t, exec (.foldHello p body) s = .next t ∧ (portAt t p).state = .refused) ∧
      (∀ i, helloMember s body = some i → ∃ t, exec (.foldHello p body) s = .next t ∧ (portAt t p).state = .handshake ∧ (portAt t p).peerHello = body)) ∧
    (x.state = .handshake → x.peerHello ≠ [] → ∀ (i : Nat) (tag : Bytes), helloMember s x.peerHello = some i →
      (tag = finishTag x.keys (if isInitiator x then 0x52 else 0x49) (transcript x) →
        ∃ t, exec (.foldFinish p tag) s = .next t ∧ (portAt t p).state = .up ∧ (portAt t p).peer = BitVec.ofNat 8 i ∧ t.fold.members = s.fold.members) ∧
      (tag ≠ finishTag x.keys (if isInitiator x then 0x52 else 0x49) (transcript x) →
        ∃ t, exec (.foldFinish p tag) s = .next t ∧ (portAt t p).state = .refused)) ∧
    (x.state = .up →
      (∃ t, exec (.foldBlockLockLost p) s = .next t ∧ (portAt t p).state = .down ∧ (portAt t p).enable = x.enable ∧ (portAt t p).keys = []) ∧
      (max x.since x.heard + 8 ≤ now s → ∃ t, exec (.foldIdleTimeout p) s = .next t ∧ (portAt t p).state = .down ∧ (portAt t p).enable = x.enable ∧ (portAt t p).keys = []) ∧
      (∃ t, exec (.foldClose p) s = .next t ∧ (portAt t p).state = .down ∧ (portAt t p).enable = x.enable ∧ (portAt t p).keys = [])) ∧
    (x.state = .handshake → x.since + 5000 ≤ now s → ∃ t, exec (.foldHandshakeTimeout p) s = .next t ∧ (portAt t p).state = .refused ∧ (portAt t p).keys = []) ∧
    (x.state = .refused → x.since + 50000 ≤ now s → ∃ t, exec (.foldRefusedRetry p) s = .next t ∧ (portAt t p).state = .training ∧ t.jobs = s.jobs) ∧
    (∀ (macsec : Bool) (codewords : Nat), ∃ t, exec (.foldFrameDiscarded p macsec codewords) s = .next t ∧ (portAt t p).discards = satInc x.discards ∧
      (portAt t p).fec = satAdd x.fec codewords ∧ (portAt t p).state = x.state)

namespace Sys2Proof.Statements

/-- A frame reaches the module over a port that is up, addressed to it or to its neighbour (R690, R692). -/
structure Arrives (s : State) (f : FoldFrame) : Prop where
  port : f.port ≤ 1
  up : (portAt s f.port).state = .up
  here : f.dst = 0xFF ∨ some f.dst = selfIndex s

end Sys2Proof.Statements

/-- R691 to R693, R697 to R704: frames of a fold session. Each that is addressed to the module is served as its type says; a mirrored record is taken, acknowledged, and
refused where its token is another's; a frame with no session is discarded.
Completes: foldEcho, foldEchoReply, foldRoute, foldMirror, foldMirrorAck, foldKeyRepl, foldKeyAck, foldDomainRepl, foldDomainAck, foldCosignReq, foldCosignResp,
foldResyncState. -/
def Obligations.FoldFramesAreServed : Prop :=
  ∀ (s : State) (f : FoldFrame),
    (Arrives s f →
      let h := hear f.port s
      exec (.foldEcho f) s = .next (sendFold f.port 0x11 0xFF f.body h) ∧
      (∀ ns : Nat, ∃ t, exec (.foldEchoReply f ns) s = .next t ∧ (portAt t f.port).samples = (min ns 0xFFFFF :: (portAt h f.port).samples).take 16) ∧
      (∃ t, exec (.foldRoute f) s = .next t ∧ (portAt t f.port).reach.toNat = byteAt 0 f.body ∧ (portAt t f.port).state = .up) ∧
      (∀ (seq : Nat) (r : VaultRec), openMirror h f.body = some (seq, r) → h.vault.ready = true → findPan h r.domain r.pan = none →
        (findToken h r.domain r.token = none → exec (.foldMirror f) s
          = .next (sendFold f.port 0x21 f.src (leBytes 8 seq ++ leBytes 1 0 ++ zeros 10) (receiveRecord { r with usage := 0, unmirrored := false } h))) ∧
        (∀ k, findToken h r.domain r.token = some k → exec (.foldMirror f) s = .next (sendFold f.port 0x21 f.src (leBytes 8 seq ++ leBytes 1 2 ++ zeros 10) h))) ∧
      (∀ k : Nat, seqRecord h (leAt 0 8 f.body) = some k → byteAt 8 f.body = 0 → mirrorJob h (leAt 0 8 f.body) = none →
        exec (.foldMirrorAck f) s = .next (safePoint 1 (markMirrored k h))) ∧
      (∀ k : KeyBlock, openBlock (replicationKey h) (deviceSerial h) f.body = some k →
        (holdsOther h k = false → exec (.foldKeyRepl f) s = .next (sendMember 0x31 f.src (leBytes 8 k.handle ++ leBytes 1 0) (receiveKey k h))) ∧
        (holdsOther h k = true → exec (.foldKeyRepl f) s = .next (sendMember 0x31 f.src (leBytes 8 k.handle ++ leBytes 1 1) h))) ∧
      (byteAt 8 f.body ≠ 1 → exec (.foldKeyAck f) s = .next (safePoint 1 (ackChange f.src (handleBlock (leAt 0 8 f.body)) h))) ∧
      (leAt 0 2 f.body < 4096 → domainOk (fit 64 (f.body.drop 2)) = true → exec (.foldDomainRepl f) s
        = .next (sendMember 0x33 f.src (leBytes 2 (leAt 0 2 f.body) ++ leBytes 1 0) (writeDomain (leAt 0 2 f.body) (fit 64 (f.body.drop 2)) h))) ∧
      exec (.foldDomainAck f) s = .next (safePoint 1 (ackChange f.src (2 ^ 24 + leAt 0 2 f.body) h)) ∧
      (∀ (m : Nat) (e : Member), h.fold.members.find? (fun e => decide (e.2.serial = leAt 36 8 f.body)) = some (m, e) →
        (leAt 8 8 f.body ≤ mget 0 h.fold.cosigned m → exec (.foldCosignReq f) s = .next h) ∧
        (mget 0 h.fold.cosigned m < leAt 8 8 f.body → ∃ t, exec (.foldCosignReq f) s = .next t ∧ mget 0 t.fold.cosigned m = leAt 8 8 f.body)) ∧
      (∀ (n e : Nat) (rest : List (Nat × Nat)), h.audit.cosignWait = (n, e) :: rest → f.src = h.audit.peer.toNat → now h ≤ e →
        ∃ t, exec (.foldCosignResp f) s = .next t ∧ t.audit.cosignWait = rest ∧ t.audit.chain = h.audit.chain ∧
          ∀ c, mfind n h.audit.ckpts = some c → ∃ d, mfind n t.audit.ckpts = some d ∧ d.cosigned = true ∧ d.chain = c.chain ∧ d.number = c.number) ∧
      (∃ t, exec (.foldResyncState f) s = .next t ∧ mget 0 t.fold.peerCursors f.src = leAt 0 8 f.body)) ∧
    (f.port ≤ 1 → (portAt s f.port).state ≠ .up → exec (.foldEcho f) s = .next (modPort f.port (fun x => { x with discards := satInc x.discards }) s))

/-- R556, R579, R580, R582, R585, R586, R766: a requested interrupt is taken at a boundary of a core that has drained; entry writes the frame below the stack's top, starts the handler
at its entry capability and keeps a link; without a usable entry the refuge is taken; in the refuge the core halts. A step budget that ends takes vector 14.
Completes: interruptEntry, stepBudgetExpiry. -/
def Obligations.CoreExceptionsAreTaken : Prop :=
  (∀ (s : State) (n v : Nat), n < 16 →
    (requested s n).foldl (fun b v => match b with | none => some v | some x => some (min x v)) none = some v →
    let c := coreAt s n
    coreRuns s n = true → c.regs.st.ie = true → c.regs.delay = false → c.regs.shadow = 0 → c.overrun = none → c.late = [] → c.regs.st.trace = false →
      (drained c = true → exec (.interruptEntry n) s = .next (takeException n v c.regs.pc.toNat 0 0 0 s)) ∧
      (drained c = false → ∃ t, exec (.interruptEntry n) s = .next t ∧ (coreAt t n).stalls = satInc c.stalls ∧ (coreAt t n).regs = c.regs)) ∧
  (∀ (s : State) (n v pc info addr detail : Nat),
    let r := (coreAt s n).regs
    let k := memCap s n (vectorEntry v + 32)
    let t := takeException n v pc info addr detail s
    (entryUsable s n v = true → r.st.mode ≠ 1 → r.st.mode ≠ 2 → v ≠ 14 →
      (coreAt t n).mode = .firmware ∧ ∃ q, (coreAt t n).regs = q ∧ q.pending = [] ∧ q.shadow = 0 ∧ q.links = .exception v (capBase k + capLen k - 384) k :: r.links ∧
        cRead q 7 = mkCap (capBase k + capLen k - 384) 384 (pLD + pST + pLDC + pSTC) 0 false false) ∧
    (r.st.mode = 2 → (coreAt t n).halted = true ∧ (coreAt t n).mode = .idle)) ∧
  (∀ (s : State) (n clock : Nat) (v : Invocation),
    let c := coreAt s n
    c.running = some v → v.from_ + v.budget ≤ clock → c.overrun = none →
      (c.regs.delay = false → c.regs.shadow = 0 → drained c = true →
        exec (.stepBudgetExpiry n clock) s = .next (takeException n 14 c.regs.pc.toNat 0 0 (v.opcode % 65536) s)) ∧
      ((c.regs.delay = true ∨ c.regs.shadow ≠ 0 ∨ drained c = false) →
        exec (.stepBudgetExpiry n clock) s = .next (modCore n (fun c => { c with overrun := some (v.opcode % 65536) }) s)))

/-- R692: a frame for another member is forwarded on the other port, with one hop less, where the mask that port last received holds the destination and hops are left;
otherwise it is discarded. MIRROR and MIRROR_ACK are never forwarded.
Completes: foldEcho, foldEchoReply, foldRoute, foldMirror, foldMirrorAck, foldKeyRepl, foldKeyAck, foldDomainRepl, foldDomainAck, foldCosignReq, foldCosignResp,
foldResyncState. -/
def Obligations.FramesForOthersAreForwarded : Prop :=
  ∀ (s : State) (f : FoldFrame), f.port ≤ 1 → (portAt s f.port).state = .up → f.dst ≠ 0xFF → some f.dst ≠ selfIndex s →
    let q := 1 - f.port
    let h := hear f.port s
    let goes := (portAt s q).state = .up ∧ f.dst < 8 ∧ (portAt s q).reach.getLsbD f.dst = true ∧ 0 < f.hops
    let header := fun (type : Nat) => leBytes 1 1 ++ leBytes 1 type ++ leBytes 1 f.src ++ leBytes 1 f.dst ++ leBytes 1 (f.hops - 1) ++ zeros 3 ++ leBytes 8 f.seq
    let sent := fun (type : Nat) => emit (.fold q s.fold.etype.toNat (header type ++ f.body)) h
    let dropped := modPort f.port (fun x => { x with discards := satInc x.discards }) h
    (goes → exec (.foldEcho f) s = .next (sent 0x10) ∧ (∀ ns, exec (.foldEchoReply f ns) s = .next (sent 0x11)) ∧ exec (.foldRoute f) s = .next (sent 0x18) ∧
      exec (.foldKeyRepl f) s = .next (sent 0x30) ∧ exec (.foldKeyAck f) s = .next (sent 0x31) ∧ exec (.foldDomainRepl f) s = .next (sent 0x32) ∧
      exec (.foldDomainAck f) s = .next (sent 0x33) ∧ exec (.foldCosignReq f) s = .next (sent 0x40) ∧ exec (.foldCosignResp f) s = .next (sent 0x41) ∧
      exec (.foldResyncState f) s = .next (sent 0x50)) ∧
    (¬ goes → exec (.foldEcho f) s = .next dropped ∧ (∀ ns, exec (.foldEchoReply f ns) s = .next dropped) ∧ exec (.foldRoute f) s = .next dropped ∧
      exec (.foldKeyRepl f) s = .next dropped ∧ exec (.foldKeyAck f) s = .next dropped ∧ exec (.foldDomainRepl f) s = .next dropped ∧
      exec (.foldDomainAck f) s = .next dropped ∧ exec (.foldCosignReq f) s = .next dropped ∧ exec (.foldCosignResp f) s = .next dropped ∧
      exec (.foldResyncState f) s = .next dropped) ∧
    exec (.foldMirror f) s = .next dropped ∧ exec (.foldMirrorAck f) s = .next dropped

/-- R608: a PROGRAM of a word that is not erased ends with FLS_OVERPROGRAM (0x01), and no word of the flash changes.
Completes: flsProgram. -/
def Obligations.ProgrammedWordsAreNotOverwritten : Prop :=
  ∀ (s : State) (addr : Nat) (w : Bytes), addr % 32 = 0 → addr < 0x4000000 → (sectorAt s (addr / 0x10000)).failed = false →
    (sectorAt s (addr / 0x10000)).interrupted = false →
    ((partAt s (partitionOf addr)).state = .idle ∨ ((partAt s (partitionOf addr)).state = .suspended ∧
      (partAt s (partitionOf addr)).sector ≠ some (servedBy s (addr / 0x10000)))) → wordAt s (wordIndex s addr) ≠ none →
    ∃ t, exec (.flsProgram (.unit addr w)) s = .next t ∧ t.flash.lastStatus = 0x01 ∧ t.flash.words = s.flash.words ∧ t.flash.parts = s.flash.parts

/-! ## The row code -/

/-- R17, R18, R23, R24, R26: a stored row reads as stored; with one erroneous byte among its 36 it reads corrected; read at an address that differs in one of its five
bytes it is reported as a wrong-address row, with no correction. A place that has taken nothing since its row was stored delivers the row's data; one of the spaces that are not
encrypted that has taken one byte delivers it corrected, and writing the row back leaves it as stored. -/
def Obligations.RowCodeCorrectsOneByte : Prop :=
  (∀ (data mask : Bytes) (addr : BitVec 40), data.length = 32 → mask.length = 4 →
    readRow (storeRow data addr mask) addr mask = .good data ∧
    (∀ (p : Nat) (e : Byte), p < 36 → e ≠ 0 →
      readRow ((storeRow data addr mask).set p ((storeRow data addr mask).getD p 0 ^^^ e)) addr mask = .corrected data) ∧
    (∀ (i : Nat) (e : Byte), i < 5 → e ≠ 0 → readRow (storeRow data (addr ^^^ (e.setWidth 40 <<< (8 * i))) mask) addr mask = .wrongAddress)) ∧
  (∀ (s : State) (p : RowPlace) (data : Bytes), data.length = 32 →
    (mfind p.address.toNat s.rowFaults = none → readPlace s p data = .good data) ∧
    (∀ (n : Nat) (e : Byte), p.space ≠ .dram → n < 36 → e ≠ 0 → mfind p.address.toNat s.rowFaults = some ((List.replicate 36 0).set n e) →
      readPlace s p data = .corrected data ∧ (rising s.rowFaults = true → readPlace (writeBack p modulePage (readPlace s p data) s) p data = .good data)))

/-- R592 to R594: a mover's job writes the bytes before the first that its gate refuses, and no others; the gate then holds the lowest refused address, as a write of a DMA job in user
context. -/
def Sys2Proof.Statements.DmaJobsStopAtTheGate : Prop :=
  ∀ (m a n : Nat) (s : State), let d := dmaWrite m a n s
    (d.1.refused = none → d.1.written = n ∧ d.2 = s ∧ ∀ y, a ≤ y → y < a + n → gatePermits s m true 56 y false = true) ∧
    (∀ x, d.1.refused = some x → a ≤ x ∧ x < a + n ∧ d.1.written = x - a ∧ gatePermits s m true 56 x false = false ∧
      (∀ y, a ≤ y → y < x → gatePermits s m true 56 y false = true) ∧ (gateAt d.2 m).addr = BitVec.ofNat 40 x ∧ (gateAt d.2 m).dma = true ∧
      (gateAt d.2 m).w = true ∧ (gateAt d.2 m).user = true ∧ (gateAt d.2 m).count = satInc (gateAt s m).count)

/-! ## The whole block -/

namespace Sys2Proof.Statements

/-- The job table is well formed: the numbers of the job slots in use rise, so that a slot holds one job, and each is one of the 4,096 (R62). -/
def JobTable (s : State) : Prop := rising s.jobs = true ∧ ∀ k ∈ keys s.jobs, k < Config.jobSlots

end Sys2Proof.Statements

/-- A step takes the command at the front of the queue and runs it on the state with the queue's rest; on an empty queue the block idles (DESIGN CHOICE, log entry 1). -/
def Obligations.StepRunsTheFrontCommand : Prop :=
  (∀ (c : Instr) (rest : List Instr) (s : State), step { s with pending := c :: rest } = exec c { s with pending := rest }) ∧
  (∀ s : State, s.pending = [] → step s = .next s)

/-- Every command is answered by a next state, in every state: none faults and none is refused. -/
def Obligations.EveryCommandIsAnswered : Prop := ∀ (c : Instr) (s : State), ∃ t, exec c s = .next t

/-- The queue of waiting commands is the outside's: no command's effect reads it, adds to it or takes from it, so that a step takes exactly the front one. -/
def Obligations.CommandsLeaveTheQueueAlone : Prop :=
  (∀ (c : Instr) (s t : State), exec c s = .next t → t.pending = s.pending) ∧ (∀ s t : State, step s = .next t → t.pending = s.pending.tail)

/-- R62, R178, R203: every step keeps the job table well formed, from every state in which it is. -/
def Obligations.StepsKeepTheJobTable : Prop := ∀ s t : State, JobTable s → step s = .next t → JobTable t

/-- The reset state has a well formed job table. -/
def Obligations.ResetHasAJobTable : Prop := JobTable State.reset

/-- R85, R89, R96, R136, R138, R140, R143, R187, R457, R658, R684, R705, R733: the state after reset, as the registers' tables give it: nothing queued, no job, every channel
disabled, and the fields whose reset value the spec states. -/
def Obligations.ResetValues : Prop :=
  let s := State.reset
  s.pending = [] ∧ s.jobs = [] ∧ s.sched.swath = 0 ∧ (∀ n, (chanAt s n).state = .disabled ∧ (chanAt s n).enable = false) ∧
    s.sched.startPending = 0 ∧ s.link.inReset = .none ∧ s.link.bme = false ∧ s.link.last = 0 ∧ s.audit.stalled = false ∧ s.audit.enable = false ∧
    (∀ p, (portAt s p).enable = true ∧ (portAt s p).state = .down) ∧ s.contact.clkMax = 20 ∧ s.contact.classAllow = 7 ∧ s.reader.maxRate = 3 ∧
    s.reader.threshold = 8 ∧ s.reader.period = 50 ∧ s.sdc.modeMax = 5 ∧ s.stile.handle = 0 ∧ s.power.good = false ∧ s.start.ready = false

/-! ## Statements of several parts -/

/-- R523, R525, R527 to R534, R539: what program rows spell, and the operations of one syllable, of three registers and with an immediate.
Completes: amMovS, amAddS, amSubS, amNopS, amIncS, amDecS, amNotS, amNegS, amShl1S, amShr1S, amClrS, amAdd, amSub, amAnd, amOr, amXor, amAndn, amShl, amShr,
amSar, amRol, amRor, amMin, amMax, amMinu, amMaxu, amClz, amPopc, amBswap, amMul, amMulh, amMulhu, amMac, amAddi, amAndi, amOri, amXori, amShli, amShri, amSari,
amRori, amLi, amAddi3, amAndi3, amOri3, amXori3, amShli3, amShri3, amSari3, amRori3, amLi3, amLih, amNop. -/
def Obligations.ArithmeticFormsWriteTheirResult : Prop := RowsSpellInstructions ∧ ShortFormsWriteTheirResult ∧ RegisterFormsWriteTheirResult ∧ ImmediateFormsWriteTheirResult

/-- R524, R534, R539: compares, predicate logic and the moves of special registers.
Completes: amCmpeq, amCmpne, amCmplt, amCmpge, amCmpltu, amCmpgeu, amCmpeqi, amCmpnei, amCmplti, amCmpgei, amCmpltui, amCmpgeui, amPand, amPor, amPxor, amPandn,
amMfs, amMts. -/
def Obligations.PredicatesAndSpecialRegisters : Prop := ComparesAndPredicateLogic ∧ SpecialRegisterMoves

/-- R534 to R536, R539, R545 to R548, R564, R565, R584: local loads, stores, split loads and the store buffer.
Completes: amLdB, amLdH, amLdW, amLdD, amLdsB, amLdsH, amLdsW, amStB, amStH, amStW, amStD, amLdxD, amLdc, amStc, amLdcx, amStcx, splitLoadLanding,
lateStoreError, bufferedStoreDone. -/
def Obligations.LoadsAndStoresReachMemory : Prop := LocalLoadsReadDataMemory ∧ StoresReachMemoryOrTheBuffer ∧ SplitLoadsAndBufferedStoresComplete

/-- R542, R550, R552: branches with their delay slot, and loops.
Completes: amB, amCall, amBr, amCallr, amLoop. -/
def Obligations.BranchesAndLoopsDirectExecution : Prop := BranchesHaveOneDelaySlot ∧ LoopsRepeatTheirBody

/-- R563, R567, R568, R574, R575, R592 to R594: gates, their return, the capability-forming instructions, and the access gate of a mover.
Completes: amGate, amRetc, amCcopy, amCtrim, amCread, amCwrap, amCunwrap, amCvoid, amCgrant, amCclip. -/
def Obligations.GatesAndCapabilities : Prop := GateCallsAndReturns ∧ CapabilityFormingInstructions ∧ DmaJobsStopAtTheGate

/-- R388 to R401, R390: the symmetric operations, and the order in which nonces are taken.
Completes: opSymCbcEncrypt, opSymCbcDecrypt, opSymCtrEncrypt, opSymCtrDecrypt, opSymGcmEncrypt, opSymGcmDecrypt, opSymCmac, opSymCmacVerify, opSymXtsEncrypt,
opSymXtsDecrypt, opSymKeyWrap, opSymKeyUnwrap. -/
def Obligations.CipherOperationsRun : Prop := SymmetricOperationsRun ∧ NoncesAreTakenInOrder

/-- R216 to R222, R227, R298 to R312: payment operations, steps of a chain, and OP_NOP.
Completes: opChain, opNop, opPkEcdsaVerify, opSymCmac, opPayPinTranslate, opPayPinTranslateAesDukpt, opPayPinTranslateTdesDukpt, opPayPinVerify,
opPayMacGenerate, opPayMacVerify, opPayCvvGenerate, opPayCvvVerify, opPayArqcVerify, opPayArpcGenerate, opPayFf1Encrypt, opPayFf1Decrypt, opPayAuthRef,
opVltDetokenise. -/
def Obligations.PaymentAndChainedOperationsRun : Prop := PaymentOperationsRun ∧ ChainsAndNop

/-- The vault operations, and the versions they journal.
Completes: opVltTokenise, opVltDetokenise, opVltQuery, opVltLookup, opVltStatusSet, opVltDomainSet, opVltDomainInfo. -/
def Obligations.TokenVaultOperationsRun : Prop := VaultOperationsRun ∧ RecordVersionsAreJournalled

/-- The key operations, and where a created key is stored.
Completes: opKeyGenerate, opKeyImportX9143, opKeyImportRkl, opKeyImportPublic, opKeyInfo, opKeySetStatus, opKeyRevoke, opKeyDestroy, opKeyReplicate, opKeyPin,
opKeyUnpin, opKeyRootLoad, opKeyTenantSigner. -/
def Obligations.KeyStoreOperationsRun : Prop := KeyOperationsRun ∧ CreatedKeysAreStored

/-- Random, audit, staging, life-cycle, card and fold operations on the steps of jobs.
Completes: opRngGenerate, opRngRaw, opAudCheckpoint, opAudSegment, opFlsStageWrite, opFlsStageRead, opFlsStageVerify, opFlsActivate, opLcRequest, opLcStatus,
opHdgLogRead, opSelftest, opSdcRestore, opSdcArchive, opSdcInfo, opFoldEnrol, opFoldRemove, opFoldInfo. -/
def Obligations.DeviceOperationsRun : Prop := RandomAndAuditOperationsRun ∧ StagingOperationsRun ∧ LifeOperationsRun ∧ CardAndFoldOperationsRun

/-- Channels enabled, halted and disabled, their ring lines and their pushes.
Completes: ringLineReadDone, snoopInv, snoopData, pushWrite, pushAssemblyTimeout, chnSqDoorbell, chnCqHead, chnEnable, chnDisableDrain, chnDisableWithdraw. -/
def Obligations.ChannelsServeTheirRings : Prop := ChannelsRunHaltAndStop ∧ RingLinesAndPushes

/-- Engine steps that end, and what keeps the engines supplied.
Completes: engineStepEnd, mldsaCutoff, keyFillDone, abortWipeDone, cipherWipeDone, nonceBlockRequest, maskReseed. -/
def Obligations.EnginesWork : Prop := EngineStepsEnd ∧ EnginesAreSupplied

/-- The DOE mailbox and the SPDM responder.
Completes: ideKmRequest, doeDiscovery, cdatTableAccess, spdmGetVersion, spdmGetCapabilities, spdmNegotiateAlgorithms, spdmGetDigests, spdmGetCertificate,
spdmChallenge, spdmGetMeasurements, spdmKeyExchange, spdmFinish, spdmHeartbeat, spdmKeyUpdate, spdmEndSession, doeUnservedRequest, spdmUnsupportedRequest. -/
def Obligations.MailboxAndSpdmAnswer : Prop := MailboxAnswers ∧ SpdmAnswers

/-- Audited writes with their records, the audit ring and policy, self-tests, key bays and the tag key.
Completes: chnEnable, chnDisableDrain, chnDisableWithdraw, maintStart, maintStop, audRingEnable, audRingDisable, audRingHead, audPolicyToStop, audPolicyToGap,
rngRestart, rngMinSourcesWrite, sigSelftestStart, sigSelftestEnd, keyBayFlush, stlKeyHandleWrite. -/
def Obligations.AuditedCommandsAndTheirEffects : Prop := AuditedCommandsTakeEffect ∧ AuditRingAndPolicy ∧ SelfTestsAndKeyRegisters

/-- NAND operations that end, and commands of the code flash.
Completes: nandReadDone, nandProgramDone, nandEraseDone, mirrorTimeout, flsRead, flsProgram, flsErase, flsSuspend, flsResume, flsProgramEnd, flsEraseEnd,
flsSuspendDone. -/
def Obligations.NonVolatileMemoriesComplete : Prop := NandOperationsEnd ∧ FlashCommandsRun

/-- The control fields of unit pages, and the power domains.
Completes: unitEnable, unitDisableDrain, unitDisableWithdraw, unitIsolate, unitUnisolate, unitProfileWrite, unitEvtPendClear, unitErrCapt3Read, domainIdleGate,
domainWakeDone, domainShortLatch, pwrDomainClear. -/
def Obligations.UnitsAndPowerDomainsAreControlled : Prop := UnitsAreControlled ∧ PowerDomainsSwitch

/-- Sensor samples, and the thermal states that end.
Completes: thermalSample, throttleEnd, thermalProfileExit, thermalShutdownRecover. -/
def Obligations.SensorsAndThermalStates : Prop := SensorsAreSampled ∧ ThermalStatesEnd
end

