-- ==== Sys2Proof/Laws/Issue.lean ====
section
/-!
SUPPORT. Sys2Proof/Laws/Issue.lean: what an instruction that takes effect does, whatever it is: its own effect on the state in which it issues, the count, and the
move of the program address.
-/
namespace Sys2Proof.Machine
open Sys2Proof Sys2Proof.Statements

/-- An instruction that takes effect. -/
theorem issue_core {x : Issue} {sh causes wait act jump s0} (h : TakesEffect (atIssue x s0) x sh (causes (atIssue x s0))) (hw : wait (atIssue x s0) = false) :
    issue x sh causes wait act jump s0 = .next (match jump with
      | some j => counted x.core (j (atIssue x s0))
      | none => modRegs x.core (advance x.len sh.branch) (counted x.core (act (atIssue x s0)))) := by
  obtain ⟨runs, calm, fetched, placed, gk, gon, al, ub⟩ := h
  unfold issue
  rw [show (if x.clock < 25000 then { s0 with sched := { s0.sched with clock := BitVec.ofNat 15 x.clock } } else s0) = atIssue x s0 from rfl]
  generalize atIssue x s0 = s at *
  unfold regsOf at *
  by_cases hbd : (!(coreAt s x.core).regs.delay && decide ((coreAt s x.core).regs.shadow = 0)) = true
  · obtain ⟨ho, hl, ht⟩ := calm hbd
    simp [runs, gon, fetched, placed, gk, al, hw, ho, hl, ht, firstCause, needs]
    split <;> rename_i h5 <;> revert h5 <;> split <;> simp_all
    all_goals (cases jump <;> rfl)
  · simp only [Bool.not_eq_true] at hbd
    simp [runs, gon, fetched, placed, gk, al, hw, hbd, firstCause, needs]
    split <;> rename_i h5 <;> revert h5 <;> split <;> simp_all
    all_goals (cases jump <;> rfl)

/-- An instruction that the row at the pc spells does what it does, and another has no effect. -/
theorem fetched_eq {i : Instr} {m ops x s r} (hi : spellingOf i = some (m, ops)) : fetched m ops x s r = if spelledBy i x s then r else .next s := by
  simp only [fetched, spelledBy, hi]

/-- One that moves on to the next address. -/
theorem issue_none {x : Issue} {sh causes wait act s0} (h : TakesEffect (atIssue x s0) x sh (causes (atIssue x s0))) (hw : wait (atIssue x s0) = false) :
    issue x sh causes wait act none s0 = .next (modRegs x.core (advance x.len sh.branch) (counted x.core (act (atIssue x s0)))) := issue_core h hw
/-- One that decides the next address itself. -/
theorem issue_some {x : Issue} {sh causes wait act j s0} (h : TakesEffect (atIssue x s0) x sh (causes (atIssue x s0))) (hw : wait (atIssue x s0) = false) :
    issue x sh causes wait act (some j) s0 = .next (counted x.core (j (atIssue x s0))) := issue_core h hw

/-- One that changes registers alone. -/
theorem issueRegs_eq {x : Issue} {f s0} (h : TakesEffect (atIssue x s0) x {} []) : issueRegs x f s0 = .next (afterRegs x f (atIssue x s0)) := by
  rw [issueRegs, issue_core h rfl]; rfl
/-- A change of registers is given by what it makes of the registers that are there. -/
theorem modRegs_congr {s : State} {n f g} (h : f (coreAt s n).regs = g (coreAt s n).regs) : modRegs n f s = modRegs n g s := by
  unfold modRegs modCore mupd
  simp only [show (mget {} s.cores n).regs = (coreAt s n).regs from rfl, h]
/-- The same of the state after an instruction. -/
theorem afterRegs_congr {s : State} {x f g} (h : f (regsOf x s) = g (regsOf x s)) : afterRegs x f s = afterRegs x g s := by
  unfold afterRegs; rw [modRegs_congr h]
/-- One whose result is a general register. -/
theorem issueG_eq {x : Issue} {rd l f s0} {v} (h : TakesEffect (atIssue x s0) x {} []) (hv : f (regsOf x (atIssue x s0)) = v) :
   issueG x rd l f s0 = .next (gives x rd l v (atIssue x s0)) := by
  rw [issueG, issueRegs_eq h, gives, afterRegs_congr (g := writeG rd v l)]
  simp only [hv]
/-- One whose result is a predicate. -/
theorem issueP_eq {x : Issue} {pd f s0} {v} (h : TakesEffect (atIssue x s0) x {} []) (hv : f (regsOf x (atIssue x s0)) = v) :
   issueP x pd f s0 = .next (givesP x pd v (atIssue x s0)) := by
  rw [issueP, issueRegs_eq h, givesP, afterRegs_congr (g := writeP pd v)]
  simp only [hv]

end Sys2Proof.Machine
end

