-- ==== Sys2Proof/Laws/Map.lean ====
section
/-!
SUPPORT. Sys2Proof/Laws/Map.lean: what the operations of the sparse maps do to every number, and that they keep the canonical form.
-/
namespace Sys2Proof.Machine
open Sys2Proof

variable {β : Type}

/-- Reading any number after a listing. -/
theorem mfind_mput (k j : Nat) (v : β) (m : AMap β) : mfind j (mput k v m) = if j = k then some v else mfind j m := by
  have hc : (k = j) = (j = k) := propext eq_comm
  induction m with
  | nil => simp only [mput, mfind, hc]
  | cons e m ih =>
    obtain ⟨i, w⟩ := e
    by_cases h1 : k < i
    · simp only [mput, if_pos h1, mfind, hc]
    · by_cases h2 : i = k
      · subst h2
        by_cases h3 : j = i
        · simp [mput, mfind, h3]
        · simp [mput, mfind, h3, Ne.symm h3]
      · simp only [mput, if_neg h1, if_neg h2, mfind, ih]
        by_cases h3 : i = j
        · subst h3
          simp [h2]
        · simp [h3]

/-- Reading any number after an erasure. -/
theorem mfind_merase (k j : Nat) (m : AMap β) : mfind j (merase k m) = if j = k then none else mfind j m := by
  induction m with
  | nil => simp [merase, mfind]
  | cons e m ih =>
    obtain ⟨i, w⟩ := e
    by_cases h2 : i = k
    · subst h2
      simp only [merase, if_pos, ih, mfind]
      by_cases h3 : j = i
      · simp [h3]
      · simp [h3, Ne.symm h3]
    · simp only [merase, if_neg h2, mfind, ih]
      by_cases h3 : i = j
      · subst h3
        simp [h2]
      · simp [h3]

/-- Reading any number after a store. -/
theorem mget_mset [DecidableEq β] (d : β) (m : AMap β) (k j : Nat) (v : β) : mget d (mset d m k v) j = if j = k then v else mget d m j := by
  unfold mget mset
  split
  · rw [mfind_merase]
    split <;> simp_all
  · rw [mfind_mput]
    split <;> rfl

/-- Reading any number after a change of one. -/
theorem mget_mupd [DecidableEq β] (d : β) (m : AMap β) (k j : Nat) (f : β → β) : mget d (mupd d m k f) j = if j = k then f (mget d m k) else mget d m j :=
  mget_mset d m k j (f (mget d m k))

/-- What a listing leaves in the map. -/
theorem mem_mput {k : Nat} {v : β} {m : AMap β} {e : Nat × β} (h : e ∈ mput k v m) : e = (k, v) ∨ e ∈ m := by
  induction m with
  | nil => exact .inl (by simpa [mput] using h)
  | cons a m ih =>
    obtain ⟨i, w⟩ := a
    simp only [mput] at h
    split at h
    · simpa using h
    · split at h
      · rcases List.mem_cons.mp h with h | h
        · exact .inl h
        · exact .inr (List.mem_cons_of_mem _ h)
      · rcases List.mem_cons.mp h with h | h
        · exact .inr (h ▸ List.mem_cons_self ..)
        · exact (ih h).imp id (List.mem_cons_of_mem _)

/-- What an erasure leaves in the map. -/
theorem mem_merase {k : Nat} {m : AMap β} {e : Nat × β} (h : e ∈ merase k m) : e ∈ m ∧ e.1 ≠ k := by
  induction m with
  | nil => simp [merase] at h
  | cons a m ih =>
    obtain ⟨i, w⟩ := a
    simp only [merase] at h
    split at h
    · exact ⟨List.mem_cons_of_mem _ (ih h).1, (ih h).2⟩
    · rcases List.mem_cons.mp h with h | h
      · subst h
        exact ⟨List.mem_cons_self .., by assumption⟩
      · exact ⟨List.mem_cons_of_mem _ (ih h).1, (ih h).2⟩

theorem rising_cons {k : Nat} {v : β} {m : AMap β} : rising ((k, v) :: m) = true ↔ (∀ e ∈ m, k < e.1) ∧ rising m = true := by
  simp [rising]

/-- A listing keeps the keys rising. -/
theorem rising_mput {k : Nat} {v : β} {m : AMap β} (h : rising m = true) : rising (mput k v m) = true := by
  induction m with
  | nil => simp [mput, rising]
  | cons a m ih =>
    obtain ⟨i, w⟩ := a
    obtain ⟨h1, h2⟩ := rising_cons.mp h
    simp only [mput]
    split
    · rename_i hk
      refine rising_cons.mpr ⟨fun e he => ?_, h⟩
      rcases List.mem_cons.mp he with rfl | he
      · exact hk
      · exact Nat.lt_trans hk (h1 e he)
    · split
      · rename_i hk
        subst hk
        exact rising_cons.mpr ⟨h1, h2⟩
      · refine rising_cons.mpr ⟨fun e he => ?_, ih h2⟩
        rcases mem_mput he with rfl | he
        · show i < k
          omega
        · exact h1 e he

/-- An erasure keeps the keys rising. -/
theorem rising_merase {k : Nat} {m : AMap β} (h : rising m = true) : rising (merase k m) = true := by
  induction m with
  | nil => simp [merase, rising]
  | cons a m ih =>
    obtain ⟨i, w⟩ := a
    obtain ⟨h1, h2⟩ := rising_cons.mp h
    simp only [merase]
    split
    · exact ih h2
    · exact rising_cons.mpr ⟨fun e he => h1 e (mem_merase he).1, ih h2⟩

theorem canonical_iff [DecidableEq β] {d : β} {m : AMap β} : canonical d m = true ↔ rising m = true ∧ ∀ e ∈ m, e.2 ≠ d := by
  simp [canonical]

/-- A store keeps the canonical form. -/
theorem canonical_mset [DecidableEq β] {d v : β} {m : AMap β} {k : Nat} (h : canonical d m = true) : canonical d (mset d m k v) = true := by
  obtain ⟨h1, h2⟩ := canonical_iff.mp h
  unfold mset
  split
  · exact canonical_iff.mpr ⟨rising_merase h1, fun e he => h2 e (mem_merase he).1⟩
  · rename_i hv
    refine canonical_iff.mpr ⟨rising_mput h1, fun e he => ?_⟩
    rcases mem_mput he with rfl | he
    · exact hv
    · exact h2 e he

/-- A change of one number keeps the canonical form. -/
theorem canonical_mupd [DecidableEq β] {d : β} {m : AMap β} {k : Nat} {f : β → β} (h : canonical d m = true) : canonical d (mupd d m k f) = true :=
  canonical_mset h

/-- A property of every record and of the default holds of every record after a change that keeps it. -/
theorem all_mupd [DecidableEq β] {d : β} {m : AMap β} {k : Nat} {f : β → β} {p : β → Prop} (hf : ∀ v, p v → p (f v)) (hd : p d) (h : ∀ e ∈ m, p e.2) :
    ∀ e ∈ mupd d m k f, p e.2 := by
  have hg : p (mget d m k) := by
    unfold mget
    have : ∀ v, mfind k m = some v → p v := by
      intro v hv
      induction m with
      | nil => simp [mfind] at hv
      | cons a m ih =>
        simp only [mfind] at hv
        split at hv
        · cases hv
          exact h a (List.mem_cons_self ..)
        · exact ih (fun e he => h e (List.mem_cons_of_mem _ he)) hv
    cases hv : mfind k m with
    | none => exact hd
    | some v => exact this v hv
  intro e he
  unfold mupd mset at he
  split at he
  · exact h e (mem_merase he).1
  · rcases mem_mput he with rfl | he
    · exact hf _ hg
    · exact h e he

/-- Taking entries out keeps the canonical form. -/
theorem canonical_filter [DecidableEq β] {d : β} {m : AMap β} {p : Nat × β → Bool} (h : canonical d m = true) : canonical d (m.filter p) = true := by
  obtain ⟨h1, h2⟩ := canonical_iff.mp h
  refine canonical_iff.mpr ⟨?_, fun e he => h2 e (List.mem_filter.mp he).1⟩
  clear h h2
  induction m with
  | nil => rfl
  | cons a m ih =>
    obtain ⟨i, w⟩ := a
    obtain ⟨h3, h4⟩ := rising_cons.mp h1
    rw [List.filter_cons]
    split
    · exact rising_cons.mpr ⟨fun e he => h3 e (List.mem_filter.mp he).1, ih h4⟩
    · exact ih h4

end Sys2Proof.Machine
end

