-- ==== Sys2Proof/Laws/State.lean ====
section
/-!
SUPPORT. Sys2Proof/Laws/State.lean: for each update of the state, which fields it leaves as they were (one lemma an update, a conjunction of field equations true by
rfl, which simp splits), and what its record reads as after it.
-/
namespace Sys2Proof.Machine
open Sys2Proof

/-! ### Frames -/

/-- `modUnit` changes nothing but `units`. -/
@[simp] theorem modUnit_frame (p : Nat) (f : UnitRec → UnitRec) (s : State) :
    (modUnit p f s).boot = s.boot ∧ (modUnit p f s).rowFaults = s.rowFaults ∧ (modUnit p f s).audit = s.audit ∧ (modUnit p f s).recorder = s.recorder ∧
    (modUnit p f s).msix = s.msix ∧ (modUnit p f s).link = s.link ∧ (modUnit p f s).chans = s.chans ∧ (modUnit p f s).jobs = s.jobs ∧
    (modUnit p f s).sched = s.sched ∧ (modUnit p f s).power = s.power ∧ (modUnit p f s).keeper = s.keeper ∧ (modUnit p f s).start = s.start ∧
    (modUnit p f s).keys = s.keys ∧ (modUnit p f s).sig = s.sig ∧ (modUnit p f s).cip = s.cip ∧ (modUnit p f s).rng = s.rng ∧
    (modUnit p f s).vault = s.vault ∧ (modUnit p f s).fold = s.fold ∧ (modUnit p f s).flash = s.flash ∧ (modUnit p f s).contact = s.contact ∧
    (modUnit p f s).reader = s.reader ∧ (modUnit p f s).ceremony = s.ceremony ∧ (modUnit p f s).stile = s.stile ∧ (modUnit p f s).sdc = s.sdc ∧
    (modUnit p f s).tenants = s.tenants ∧ (modUnit p f s).cores = s.cores ∧ (modUnit p f s).gates = s.gates ∧ (modUnit p f s).sram = s.sram ∧
    (modUnit p f s).sramTags = s.sramTags ∧ (modUnit p f s).dram = s.dram ∧ (modUnit p f s).latches = s.latches ∧ (modUnit p f s).draws = s.draws ∧
    (modUnit p f s).out = s.out ∧ (modUnit p f s).pending = s.pending :=
  ⟨rfl, rfl, rfl, rfl, rfl, rfl, rfl, rfl, rfl, rfl, rfl, rfl, rfl, rfl, rfl, rfl, rfl, rfl, rfl, rfl, rfl, rfl, rfl, rfl, rfl, rfl, rfl, rfl, rfl, rfl, rfl, rfl, rfl, rfl⟩

/-- `modChan` changes nothing but `chans`. -/
@[simp] theorem modChan_frame (n : Nat) (f : Chan → Chan) (s : State) :
    (modChan n f s).boot = s.boot ∧ (modChan n f s).rowFaults = s.rowFaults ∧ (modChan n f s).units = s.units ∧ (modChan n f s).audit = s.audit ∧
    (modChan n f s).recorder = s.recorder ∧ (modChan n f s).msix = s.msix ∧ (modChan n f s).link = s.link ∧ (modChan n f s).jobs = s.jobs ∧
    (modChan n f s).sched = s.sched ∧ (modChan n f s).power = s.power ∧ (modChan n f s).keeper = s.keeper ∧ (modChan n f s).start = s.start ∧
    (modChan n f s).keys = s.keys ∧ (modChan n f s).sig = s.sig ∧ (modChan n f s).cip = s.cip ∧ (modChan n f s).rng = s.rng ∧
    (modChan n f s).vault = s.vault ∧ (modChan n f s).fold = s.fold ∧ (modChan n f s).flash = s.flash ∧ (modChan n f s).contact = s.contact ∧
    (modChan n f s).reader = s.reader ∧ (modChan n f s).ceremony = s.ceremony ∧ (modChan n f s).stile = s.stile ∧ (modChan n f s).sdc = s.sdc ∧
    (modChan n f s).tenants = s.tenants ∧ (modChan n f s).cores = s.cores ∧ (modChan n f s).gates = s.gates ∧ (modChan n f s).sram = s.sram ∧
    (modChan n f s).sramTags = s.sramTags ∧ (modChan n f s).dram = s.dram ∧ (modChan n f s).latches = s.latches ∧ (modChan n f s).draws = s.draws ∧
    (modChan n f s).out = s.out ∧ (modChan n f s).pending = s.pending :=
  ⟨rfl, rfl, rfl, rfl, rfl, rfl, rfl, rfl, rfl, rfl, rfl, rfl, rfl, rfl, rfl, rfl, rfl, rfl, rfl, rfl, rfl, rfl, rfl, rfl, rfl, rfl, rfl, rfl, rfl, rfl, rfl, rfl, rfl, rfl⟩

/-- `modEng` changes nothing but `sched`. -/
@[simp] theorem modEng_frame (kind idx : Nat) (f : Engine → Engine) (s : State) :
    (modEng kind idx f s).boot = s.boot ∧ (modEng kind idx f s).rowFaults = s.rowFaults ∧ (modEng kind idx f s).units = s.units ∧
    (modEng kind idx f s).audit = s.audit ∧ (modEng kind idx f s).recorder = s.recorder ∧ (modEng kind idx f s).msix = s.msix ∧
    (modEng kind idx f s).link = s.link ∧ (modEng kind idx f s).chans = s.chans ∧ (modEng kind idx f s).jobs = s.jobs ∧
    (modEng kind idx f s).power = s.power ∧ (modEng kind idx f s).keeper = s.keeper ∧ (modEng kind idx f s).start = s.start ∧
    (modEng kind idx f s).keys = s.keys ∧ (modEng kind idx f s).sig = s.sig ∧ (modEng kind idx f s).cip = s.cip ∧ (modEng kind idx f s).rng = s.rng ∧
    (modEng kind idx f s).vault = s.vault ∧ (modEng kind idx f s).fold = s.fold ∧ (modEng kind idx f s).flash = s.flash ∧
    (modEng kind idx f s).contact = s.contact ∧ (modEng kind idx f s).reader = s.reader ∧ (modEng kind idx f s).ceremony = s.ceremony ∧
    (modEng kind idx f s).stile = s.stile ∧ (modEng kind idx f s).sdc = s.sdc ∧ (modEng kind idx f s).tenants = s.tenants ∧
    (modEng kind idx f s).cores = s.cores ∧ (modEng kind idx f s).gates = s.gates ∧ (modEng kind idx f s).sram = s.sram ∧
    (modEng kind idx f s).sramTags = s.sramTags ∧ (modEng kind idx f s).dram = s.dram ∧ (modEng kind idx f s).latches = s.latches ∧
    (modEng kind idx f s).draws = s.draws ∧ (modEng kind idx f s).out = s.out ∧ (modEng kind idx f s).pending = s.pending :=
  ⟨rfl, rfl, rfl, rfl, rfl, rfl, rfl, rfl, rfl, rfl, rfl, rfl, rfl, rfl, rfl, rfl, rfl, rfl, rfl, rfl, rfl, rfl, rfl, rfl, rfl, rfl, rfl, rfl, rfl, rfl, rfl, rfl, rfl, rfl⟩

/-- `modCore` changes nothing but `cores`. -/
@[simp] theorem modCore_frame (n : Nat) (f : Core → Core) (s : State) :
    (modCore n f s).boot = s.boot ∧ (modCore n f s).rowFaults = s.rowFaults ∧ (modCore n f s).units = s.units ∧ (modCore n f s).audit = s.audit ∧
    (modCore n f s).recorder = s.recorder ∧ (modCore n f s).msix = s.msix ∧ (modCore n f s).link = s.link ∧ (modCore n f s).chans = s.chans ∧
    (modCore n f s).jobs = s.jobs ∧ (modCore n f s).sched = s.sched ∧ (modCore n f s).power = s.power ∧ (modCore n f s).keeper = s.keeper ∧
    (modCore n f s).start = s.start ∧ (modCore n f s).keys = s.keys ∧ (modCore n f s).sig = s.sig ∧ (modCore n f s).cip = s.cip ∧
    (modCore n f s).rng = s.rng ∧ (modCore n f s).vault = s.vault ∧ (modCore n f s).fold = s.fold ∧ (modCore n f s).flash = s.flash ∧
    (modCore n f s).contact = s.contact ∧ (modCore n f s).reader = s.reader ∧ (modCore n f s).ceremony = s.ceremony ∧ (modCore n f s).stile = s.stile ∧
    (modCore n f s).sdc = s.sdc ∧ (modCore n f s).tenants = s.tenants ∧ (modCore n f s).gates = s.gates ∧ (modCore n f s).sram = s.sram ∧
    (modCore n f s).sramTags = s.sramTags ∧ (modCore n f s).dram = s.dram ∧ (modCore n f s).latches = s.latches ∧ (modCore n f s).draws = s.draws ∧
    (modCore n f s).out = s.out ∧ (modCore n f s).pending = s.pending :=
  ⟨rfl, rfl, rfl, rfl, rfl, rfl, rfl, rfl, rfl, rfl, rfl, rfl, rfl, rfl, rfl, rfl, rfl, rfl, rfl, rfl, rfl, rfl, rfl, rfl, rfl, rfl, rfl, rfl, rfl, rfl, rfl, rfl, rfl, rfl⟩

/-- `modRegs` changes nothing but `cores`. -/
@[simp] theorem modRegs_frame (n : Nat) (f : CoreRegs → CoreRegs) (s : State) :
    (modRegs n f s).boot = s.boot ∧ (modRegs n f s).rowFaults = s.rowFaults ∧ (modRegs n f s).units = s.units ∧ (modRegs n f s).audit = s.audit ∧
    (modRegs n f s).recorder = s.recorder ∧ (modRegs n f s).msix = s.msix ∧ (modRegs n f s).link = s.link ∧ (modRegs n f s).chans = s.chans ∧
    (modRegs n f s).jobs = s.jobs ∧ (modRegs n f s).sched = s.sched ∧ (modRegs n f s).power = s.power ∧ (modRegs n f s).keeper = s.keeper ∧
    (modRegs n f s).start = s.start ∧ (modRegs n f s).keys = s.keys ∧ (modRegs n f s).sig = s.sig ∧ (modRegs n f s).cip = s.cip ∧
    (modRegs n f s).rng = s.rng ∧ (modRegs n f s).vault = s.vault ∧ (modRegs n f s).fold = s.fold ∧ (modRegs n f s).flash = s.flash ∧
    (modRegs n f s).contact = s.contact ∧ (modRegs n f s).reader = s.reader ∧ (modRegs n f s).ceremony = s.ceremony ∧ (modRegs n f s).stile = s.stile ∧
    (modRegs n f s).sdc = s.sdc ∧ (modRegs n f s).tenants = s.tenants ∧ (modRegs n f s).gates = s.gates ∧ (modRegs n f s).sram = s.sram ∧
    (modRegs n f s).sramTags = s.sramTags ∧ (modRegs n f s).dram = s.dram ∧ (modRegs n f s).latches = s.latches ∧ (modRegs n f s).draws = s.draws ∧
    (modRegs n f s).out = s.out ∧ (modRegs n f s).pending = s.pending :=
  ⟨rfl, rfl, rfl, rfl, rfl, rfl, rfl, rfl, rfl, rfl, rfl, rfl, rfl, rfl, rfl, rfl, rfl, rfl, rfl, rfl, rfl, rfl, rfl, rfl, rfl, rfl, rfl, rfl, rfl, rfl, rfl, rfl, rfl, rfl⟩

/-- `modGate` changes nothing but `gates`. -/
@[simp] theorem modGate_frame (m : Nat) (f : Gate → Gate) (s : State) :
    (modGate m f s).boot = s.boot ∧ (modGate m f s).rowFaults = s.rowFaults ∧ (modGate m f s).units = s.units ∧ (modGate m f s).audit = s.audit ∧
    (modGate m f s).recorder = s.recorder ∧ (modGate m f s).msix = s.msix ∧ (modGate m f s).link = s.link ∧ (modGate m f s).chans = s.chans ∧
    (modGate m f s).jobs = s.jobs ∧ (modGate m f s).sched = s.sched ∧ (modGate m f s).power = s.power ∧ (modGate m f s).keeper = s.keeper ∧
    (modGate m f s).start = s.start ∧ (modGate m f s).keys = s.keys ∧ (modGate m f s).sig = s.sig ∧ (modGate m f s).cip = s.cip ∧
    (modGate m f s).rng = s.rng ∧ (modGate m f s).vault = s.vault ∧ (modGate m f s).fold = s.fold ∧ (modGate m f s).flash = s.flash ∧
    (modGate m f s).contact = s.contact ∧ (modGate m f s).reader = s.reader ∧ (modGate m f s).ceremony = s.ceremony ∧ (modGate m f s).stile = s.stile ∧
    (modGate m f s).sdc = s.sdc ∧ (modGate m f s).tenants = s.tenants ∧ (modGate m f s).cores = s.cores ∧ (modGate m f s).sram = s.sram ∧
    (modGate m f s).sramTags = s.sramTags ∧ (modGate m f s).dram = s.dram ∧ (modGate m f s).latches = s.latches ∧ (modGate m f s).draws = s.draws ∧
    (modGate m f s).out = s.out ∧ (modGate m f s).pending = s.pending :=
  ⟨rfl, rfl, rfl, rfl, rfl, rfl, rfl, rfl, rfl, rfl, rfl, rfl, rfl, rfl, rfl, rfl, rfl, rfl, rfl, rfl, rfl, rfl, rfl, rfl, rfl, rfl, rfl, rfl, rfl, rfl, rfl, rfl, rfl, rfl⟩

/-- `modContact` changes nothing but `contact`. -/
@[simp] theorem modContact_frame (f : Contact → Contact) (s : State) :
    (modContact f s).boot = s.boot ∧ (modContact f s).rowFaults = s.rowFaults ∧ (modContact f s).units = s.units ∧ (modContact f s).audit = s.audit ∧
    (modContact f s).recorder = s.recorder ∧ (modContact f s).msix = s.msix ∧ (modContact f s).link = s.link ∧ (modContact f s).chans = s.chans ∧
    (modContact f s).jobs = s.jobs ∧ (modContact f s).sched = s.sched ∧ (modContact f s).power = s.power ∧ (modContact f s).keeper = s.keeper ∧
    (modContact f s).start = s.start ∧ (modContact f s).keys = s.keys ∧ (modContact f s).sig = s.sig ∧ (modContact f s).cip = s.cip ∧
    (modContact f s).rng = s.rng ∧ (modContact f s).vault = s.vault ∧ (modContact f s).fold = s.fold ∧ (modContact f s).flash = s.flash ∧
    (modContact f s).reader = s.reader ∧ (modContact f s).ceremony = s.ceremony ∧ (modContact f s).stile = s.stile ∧ (modContact f s).sdc = s.sdc ∧
    (modContact f s).tenants = s.tenants ∧ (modContact f s).cores = s.cores ∧ (modContact f s).gates = s.gates ∧ (modContact f s).sram = s.sram ∧
    (modContact f s).sramTags = s.sramTags ∧ (modContact f s).dram = s.dram ∧ (modContact f s).latches = s.latches ∧ (modContact f s).draws = s.draws ∧
    (modContact f s).out = s.out ∧ (modContact f s).pending = s.pending :=
  ⟨rfl, rfl, rfl, rfl, rfl, rfl, rfl, rfl, rfl, rfl, rfl, rfl, rfl, rfl, rfl, rfl, rfl, rfl, rfl, rfl, rfl, rfl, rfl, rfl, rfl, rfl, rfl, rfl, rfl, rfl, rfl, rfl, rfl, rfl⟩

/-- `modReader` changes nothing but `reader`. -/
@[simp] theorem modReader_frame (f : Reader → Reader) (s : State) :
    (modReader f s).boot = s.boot ∧ (modReader f s).rowFaults = s.rowFaults ∧ (modReader f s).units = s.units ∧ (modReader f s).audit = s.audit ∧
    (modReader f s).recorder = s.recorder ∧ (modReader f s).msix = s.msix ∧ (modReader f s).link = s.link ∧ (modReader f s).chans = s.chans ∧
    (modReader f s).jobs = s.jobs ∧ (modReader f s).sched = s.sched ∧ (modReader f s).power = s.power ∧ (modReader f s).keeper = s.keeper ∧
    (modReader f s).start = s.start ∧ (modReader f s).keys = s.keys ∧ (modReader f s).sig = s.sig ∧ (modReader f s).cip = s.cip ∧
    (modReader f s).rng = s.rng ∧ (modReader f s).vault = s.vault ∧ (modReader f s).fold = s.fold ∧ (modReader f s).flash = s.flash ∧
    (modReader f s).contact = s.contact ∧ (modReader f s).ceremony = s.ceremony ∧ (modReader f s).stile = s.stile ∧ (modReader f s).sdc = s.sdc ∧
    (modReader f s).tenants = s.tenants ∧ (modReader f s).cores = s.cores ∧ (modReader f s).gates = s.gates ∧ (modReader f s).sram = s.sram ∧
    (modReader f s).sramTags = s.sramTags ∧ (modReader f s).dram = s.dram ∧ (modReader f s).latches = s.latches ∧ (modReader f s).draws = s.draws ∧
    (modReader f s).out = s.out ∧ (modReader f s).pending = s.pending :=
  ⟨rfl, rfl, rfl, rfl, rfl, rfl, rfl, rfl, rfl, rfl, rfl, rfl, rfl, rfl, rfl, rfl, rfl, rfl, rfl, rfl, rfl, rfl, rfl, rfl, rfl, rfl, rfl, rfl, rfl, rfl, rfl, rfl, rfl, rfl⟩

/-- `modFlash` changes nothing but `flash`. -/
@[simp] theorem modFlash_frame (f : Flash → Flash) (s : State) :
    (modFlash f s).boot = s.boot ∧ (modFlash f s).rowFaults = s.rowFaults ∧ (modFlash f s).units = s.units ∧ (modFlash f s).audit = s.audit ∧
    (modFlash f s).recorder = s.recorder ∧ (modFlash f s).msix = s.msix ∧ (modFlash f s).link = s.link ∧ (modFlash f s).chans = s.chans ∧
    (modFlash f s).jobs = s.jobs ∧ (modFlash f s).sched = s.sched ∧ (modFlash f s).power = s.power ∧ (modFlash f s).keeper = s.keeper ∧
    (modFlash f s).start = s.start ∧ (modFlash f s).keys = s.keys ∧ (modFlash f s).sig = s.sig ∧ (modFlash f s).cip = s.cip ∧ (modFlash f s).rng = s.rng ∧
    (modFlash f s).vault = s.vault ∧ (modFlash f s).fold = s.fold ∧ (modFlash f s).contact = s.contact ∧ (modFlash f s).reader = s.reader ∧
    (modFlash f s).ceremony = s.ceremony ∧ (modFlash f s).stile = s.stile ∧ (modFlash f s).sdc = s.sdc ∧ (modFlash f s).tenants = s.tenants ∧
    (modFlash f s).cores = s.cores ∧ (modFlash f s).gates = s.gates ∧ (modFlash f s).sram = s.sram ∧ (modFlash f s).sramTags = s.sramTags ∧
    (modFlash f s).dram = s.dram ∧ (modFlash f s).latches = s.latches ∧ (modFlash f s).draws = s.draws ∧ (modFlash f s).out = s.out ∧
    (modFlash f s).pending = s.pending :=
  ⟨rfl, rfl, rfl, rfl, rfl, rfl, rfl, rfl, rfl, rfl, rfl, rfl, rfl, rfl, rfl, rfl, rfl, rfl, rfl, rfl, rfl, rfl, rfl, rfl, rfl, rfl, rfl, rfl, rfl, rfl, rfl, rfl, rfl, rfl⟩

/-- `modSector` changes nothing but `flash`. -/
@[simp] theorem modSector_frame (n : Nat) (f : FlsSector → FlsSector) (s : State) :
    (modSector n f s).boot = s.boot ∧ (modSector n f s).rowFaults = s.rowFaults ∧ (modSector n f s).units = s.units ∧ (modSector n f s).audit = s.audit ∧
    (modSector n f s).recorder = s.recorder ∧ (modSector n f s).msix = s.msix ∧ (modSector n f s).link = s.link ∧ (modSector n f s).chans = s.chans ∧
    (modSector n f s).jobs = s.jobs ∧ (modSector n f s).sched = s.sched ∧ (modSector n f s).power = s.power ∧ (modSector n f s).keeper = s.keeper ∧
    (modSector n f s).start = s.start ∧ (modSector n f s).keys = s.keys ∧ (modSector n f s).sig = s.sig ∧ (modSector n f s).cip = s.cip ∧
    (modSector n f s).rng = s.rng ∧ (modSector n f s).vault = s.vault ∧ (modSector n f s).fold = s.fold ∧ (modSector n f s).contact = s.contact ∧
    (modSector n f s).reader = s.reader ∧ (modSector n f s).ceremony = s.ceremony ∧ (modSector n f s).stile = s.stile ∧ (modSector n f s).sdc = s.sdc ∧
    (modSector n f s).tenants = s.tenants ∧ (modSector n f s).cores = s.cores ∧ (modSector n f s).gates = s.gates ∧ (modSector n f s).sram = s.sram ∧
    (modSector n f s).sramTags = s.sramTags ∧ (modSector n f s).dram = s.dram ∧ (modSector n f s).latches = s.latches ∧ (modSector n f s).draws = s.draws ∧
    (modSector n f s).out = s.out ∧ (modSector n f s).pending = s.pending :=
  ⟨rfl, rfl, rfl, rfl, rfl, rfl, rfl, rfl, rfl, rfl, rfl, rfl, rfl, rfl, rfl, rfl, rfl, rfl, rfl, rfl, rfl, rfl, rfl, rfl, rfl, rfl, rfl, rfl, rfl, rfl, rfl, rfl, rfl, rfl⟩

/-- `modPart` changes nothing but `flash`. -/
@[simp] theorem modPart_frame (p : Nat) (f : FlsPart → FlsPart) (s : State) :
    (modPart p f s).boot = s.boot ∧ (modPart p f s).rowFaults = s.rowFaults ∧ (modPart p f s).units = s.units ∧ (modPart p f s).audit = s.audit ∧
    (modPart p f s).recorder = s.recorder ∧ (modPart p f s).msix = s.msix ∧ (modPart p f s).link = s.link ∧ (modPart p f s).chans = s.chans ∧
    (modPart p f s).jobs = s.jobs ∧ (modPart p f s).sched = s.sched ∧ (modPart p f s).power = s.power ∧ (modPart p f s).keeper = s.keeper ∧
    (modPart p f s).start = s.start ∧ (modPart p f s).keys = s.keys ∧ (modPart p f s).sig = s.sig ∧ (modPart p f s).cip = s.cip ∧
    (modPart p f s).rng = s.rng ∧ (modPart p f s).vault = s.vault ∧ (modPart p f s).fold = s.fold ∧ (modPart p f s).contact = s.contact ∧
    (modPart p f s).reader = s.reader ∧ (modPart p f s).ceremony = s.ceremony ∧ (modPart p f s).stile = s.stile ∧ (modPart p f s).sdc = s.sdc ∧
    (modPart p f s).tenants = s.tenants ∧ (modPart p f s).cores = s.cores ∧ (modPart p f s).gates = s.gates ∧ (modPart p f s).sram = s.sram ∧
    (modPart p f s).sramTags = s.sramTags ∧ (modPart p f s).dram = s.dram ∧ (modPart p f s).latches = s.latches ∧ (modPart p f s).draws = s.draws ∧
    (modPart p f s).out = s.out ∧ (modPart p f s).pending = s.pending :=
  ⟨rfl, rfl, rfl, rfl, rfl, rfl, rfl, rfl, rfl, rfl, rfl, rfl, rfl, rfl, rfl, rfl, rfl, rfl, rfl, rfl, rfl, rfl, rfl, rfl, rfl, rfl, rfl, rfl, rfl, rfl, rfl, rfl, rfl, rfl⟩

/-- `modFold` changes nothing but `fold`. -/
@[simp] theorem modFold_frame (f : Fold → Fold) (s : State) :
    (modFold f s).boot = s.boot ∧ (modFold f s).rowFaults = s.rowFaults ∧ (modFold f s).units = s.units ∧ (modFold f s).audit = s.audit ∧
    (modFold f s).recorder = s.recorder ∧ (modFold f s).msix = s.msix ∧ (modFold f s).link = s.link ∧ (modFold f s).chans = s.chans ∧
    (modFold f s).jobs = s.jobs ∧ (modFold f s).sched = s.sched ∧ (modFold f s).power = s.power ∧ (modFold f s).keeper = s.keeper ∧
    (modFold f s).start = s.start ∧ (modFold f s).keys = s.keys ∧ (modFold f s).sig = s.sig ∧ (modFold f s).cip = s.cip ∧ (modFold f s).rng = s.rng ∧
    (modFold f s).vault = s.vault ∧ (modFold f s).flash = s.flash ∧ (modFold f s).contact = s.contact ∧ (modFold f s).reader = s.reader ∧
    (modFold f s).ceremony = s.ceremony ∧ (modFold f s).stile = s.stile ∧ (modFold f s).sdc = s.sdc ∧ (modFold f s).tenants = s.tenants ∧
    (modFold f s).cores = s.cores ∧ (modFold f s).gates = s.gates ∧ (modFold f s).sram = s.sram ∧ (modFold f s).sramTags = s.sramTags ∧
    (modFold f s).dram = s.dram ∧ (modFold f s).latches = s.latches ∧ (modFold f s).draws = s.draws ∧ (modFold f s).out = s.out ∧
    (modFold f s).pending = s.pending :=
  ⟨rfl, rfl, rfl, rfl, rfl, rfl, rfl, rfl, rfl, rfl, rfl, rfl, rfl, rfl, rfl, rfl, rfl, rfl, rfl, rfl, rfl, rfl, rfl, rfl, rfl, rfl, rfl, rfl, rfl, rfl, rfl, rfl, rfl, rfl⟩

/-- `modPort` changes nothing but `fold`. -/
@[simp] theorem modPort_frame (p : Nat) (f : FoldPort → FoldPort) (s : State) :
    (modPort p f s).boot = s.boot ∧ (modPort p f s).rowFaults = s.rowFaults ∧ (modPort p f s).units = s.units ∧ (modPort p f s).audit = s.audit ∧
    (modPort p f s).recorder = s.recorder ∧ (modPort p f s).msix = s.msix ∧ (modPort p f s).link = s.link ∧ (modPort p f s).chans = s.chans ∧
    (modPort p f s).jobs = s.jobs ∧ (modPort p f s).sched = s.sched ∧ (modPort p f s).power = s.power ∧ (modPort p f s).keeper = s.keeper ∧
    (modPort p f s).start = s.start ∧ (modPort p f s).keys = s.keys ∧ (modPort p f s).sig = s.sig ∧ (modPort p f s).cip = s.cip ∧
    (modPort p f s).rng = s.rng ∧ (modPort p f s).vault = s.vault ∧ (modPort p f s).flash = s.flash ∧ (modPort p f s).contact = s.contact ∧
    (modPort p f s).reader = s.reader ∧ (modPort p f s).ceremony = s.ceremony ∧ (modPort p f s).stile = s.stile ∧ (modPort p f s).sdc = s.sdc ∧
    (modPort p f s).tenants = s.tenants ∧ (modPort p f s).cores = s.cores ∧ (modPort p f s).gates = s.gates ∧ (modPort p f s).sram = s.sram ∧
    (modPort p f s).sramTags = s.sramTags ∧ (modPort p f s).dram = s.dram ∧ (modPort p f s).latches = s.latches ∧ (modPort p f s).draws = s.draws ∧
    (modPort p f s).out = s.out ∧ (modPort p f s).pending = s.pending :=
  ⟨rfl, rfl, rfl, rfl, rfl, rfl, rfl, rfl, rfl, rfl, rfl, rfl, rfl, rfl, rfl, rfl, rfl, rfl, rfl, rfl, rfl, rfl, rfl, rfl, rfl, rfl, rfl, rfl, rfl, rfl, rfl, rfl, rfl, rfl⟩

/-- `modBay` changes nothing but `keys`. -/
@[simp] theorem modBay_frame (b : Nat) (f : Bay → Bay) (s : State) :
    (modBay b f s).boot = s.boot ∧ (modBay b f s).rowFaults = s.rowFaults ∧ (modBay b f s).units = s.units ∧ (modBay b f s).audit = s.audit ∧
    (modBay b f s).recorder = s.recorder ∧ (modBay b f s).msix = s.msix ∧ (modBay b f s).link = s.link ∧ (modBay b f s).chans = s.chans ∧
    (modBay b f s).jobs = s.jobs ∧ (modBay b f s).sched = s.sched ∧ (modBay b f s).power = s.power ∧ (modBay b f s).keeper = s.keeper ∧
    (modBay b f s).start = s.start ∧ (modBay b f s).sig = s.sig ∧ (modBay b f s).cip = s.cip ∧ (modBay b f s).rng = s.rng ∧ (modBay b f s).vault = s.vault ∧
    (modBay b f s).fold = s.fold ∧ (modBay b f s).flash = s.flash ∧ (modBay b f s).contact = s.contact ∧ (modBay b f s).reader = s.reader ∧
    (modBay b f s).ceremony = s.ceremony ∧ (modBay b f s).stile = s.stile ∧ (modBay b f s).sdc = s.sdc ∧ (modBay b f s).tenants = s.tenants ∧
    (modBay b f s).cores = s.cores ∧ (modBay b f s).gates = s.gates ∧ (modBay b f s).sram = s.sram ∧ (modBay b f s).sramTags = s.sramTags ∧
    (modBay b f s).dram = s.dram ∧ (modBay b f s).latches = s.latches ∧ (modBay b f s).draws = s.draws ∧ (modBay b f s).out = s.out ∧
    (modBay b f s).pending = s.pending :=
  ⟨rfl, rfl, rfl, rfl, rfl, rfl, rfl, rfl, rfl, rfl, rfl, rfl, rfl, rfl, rfl, rfl, rfl, rfl, rfl, rfl, rfl, rfl, rfl, rfl, rfl, rfl, rfl, rfl, rfl, rfl, rfl, rfl, rfl, rfl⟩

/-- `modLink` changes nothing but `link`. -/
@[simp] theorem modLink_frame (f : Link → Link) (s : State) :
    (modLink f s).boot = s.boot ∧ (modLink f s).rowFaults = s.rowFaults ∧ (modLink f s).units = s.units ∧ (modLink f s).audit = s.audit ∧
    (modLink f s).recorder = s.recorder ∧ (modLink f s).msix = s.msix ∧ (modLink f s).chans = s.chans ∧ (modLink f s).jobs = s.jobs ∧
    (modLink f s).sched = s.sched ∧ (modLink f s).power = s.power ∧ (modLink f s).keeper = s.keeper ∧ (modLink f s).start = s.start ∧
    (modLink f s).keys = s.keys ∧ (modLink f s).sig = s.sig ∧ (modLink f s).cip = s.cip ∧ (modLink f s).rng = s.rng ∧ (modLink f s).vault = s.vault ∧
    (modLink f s).fold = s.fold ∧ (modLink f s).flash = s.flash ∧ (modLink f s).contact = s.contact ∧ (modLink f s).reader = s.reader ∧
    (modLink f s).ceremony = s.ceremony ∧ (modLink f s).stile = s.stile ∧ (modLink f s).sdc = s.sdc ∧ (modLink f s).tenants = s.tenants ∧
    (modLink f s).cores = s.cores ∧ (modLink f s).gates = s.gates ∧ (modLink f s).sram = s.sram ∧ (modLink f s).sramTags = s.sramTags ∧
    (modLink f s).dram = s.dram ∧ (modLink f s).latches = s.latches ∧ (modLink f s).draws = s.draws ∧ (modLink f s).out = s.out ∧
    (modLink f s).pending = s.pending :=
  ⟨rfl, rfl, rfl, rfl, rfl, rfl, rfl, rfl, rfl, rfl, rfl, rfl, rfl, rfl, rfl, rfl, rfl, rfl, rfl, rfl, rfl, rfl, rfl, rfl, rfl, rfl, rfl, rfl, rfl, rfl, rfl, rfl, rfl, rfl⟩

/-- `emit` changes nothing but `out`. -/
@[simp] theorem emit_frame (o : Output) (s : State) :
    (emit o s).boot = s.boot ∧ (emit o s).rowFaults = s.rowFaults ∧ (emit o s).units = s.units ∧ (emit o s).audit = s.audit ∧
    (emit o s).recorder = s.recorder ∧ (emit o s).msix = s.msix ∧ (emit o s).link = s.link ∧ (emit o s).chans = s.chans ∧ (emit o s).jobs = s.jobs ∧
    (emit o s).sched = s.sched ∧ (emit o s).power = s.power ∧ (emit o s).keeper = s.keeper ∧ (emit o s).start = s.start ∧ (emit o s).keys = s.keys ∧
    (emit o s).sig = s.sig ∧ (emit o s).cip = s.cip ∧ (emit o s).rng = s.rng ∧ (emit o s).vault = s.vault ∧ (emit o s).fold = s.fold ∧
    (emit o s).flash = s.flash ∧ (emit o s).contact = s.contact ∧ (emit o s).reader = s.reader ∧ (emit o s).ceremony = s.ceremony ∧
    (emit o s).stile = s.stile ∧ (emit o s).sdc = s.sdc ∧ (emit o s).tenants = s.tenants ∧ (emit o s).cores = s.cores ∧ (emit o s).gates = s.gates ∧
    (emit o s).sram = s.sram ∧ (emit o s).sramTags = s.sramTags ∧ (emit o s).dram = s.dram ∧ (emit o s).latches = s.latches ∧ (emit o s).draws = s.draws ∧
    (emit o s).pending = s.pending :=
  ⟨rfl, rfl, rfl, rfl, rfl, rfl, rfl, rfl, rfl, rfl, rfl, rfl, rfl, rfl, rfl, rfl, rfl, rfl, rfl, rfl, rfl, rfl, rfl, rfl, rfl, rfl, rfl, rfl, rfl, rfl, rfl, rfl, rfl, rfl⟩

/-- `modPower` changes nothing but `power`. -/
@[simp] theorem modPower_frame (f : Power → Power) (s : State) :
    (modPower f s).boot = s.boot ∧ (modPower f s).rowFaults = s.rowFaults ∧ (modPower f s).units = s.units ∧ (modPower f s).audit = s.audit ∧
    (modPower f s).recorder = s.recorder ∧ (modPower f s).msix = s.msix ∧ (modPower f s).link = s.link ∧ (modPower f s).chans = s.chans ∧
    (modPower f s).jobs = s.jobs ∧ (modPower f s).sched = s.sched ∧ (modPower f s).keeper = s.keeper ∧ (modPower f s).start = s.start ∧
    (modPower f s).keys = s.keys ∧ (modPower f s).sig = s.sig ∧ (modPower f s).cip = s.cip ∧ (modPower f s).rng = s.rng ∧ (modPower f s).vault = s.vault ∧
    (modPower f s).fold = s.fold ∧ (modPower f s).flash = s.flash ∧ (modPower f s).contact = s.contact ∧ (modPower f s).reader = s.reader ∧
    (modPower f s).ceremony = s.ceremony ∧ (modPower f s).stile = s.stile ∧ (modPower f s).sdc = s.sdc ∧ (modPower f s).tenants = s.tenants ∧
    (modPower f s).cores = s.cores ∧ (modPower f s).gates = s.gates ∧ (modPower f s).sram = s.sram ∧ (modPower f s).sramTags = s.sramTags ∧
    (modPower f s).dram = s.dram ∧ (modPower f s).latches = s.latches ∧ (modPower f s).draws = s.draws ∧ (modPower f s).out = s.out ∧
    (modPower f s).pending = s.pending :=
  ⟨rfl, rfl, rfl, rfl, rfl, rfl, rfl, rfl, rfl, rfl, rfl, rfl, rfl, rfl, rfl, rfl, rfl, rfl, rfl, rfl, rfl, rfl, rfl, rfl, rfl, rfl, rfl, rfl, rfl, rfl, rfl, rfl, rfl, rfl⟩

/-- `modSensor` changes nothing but `power`. -/
@[simp] theorem modSensor_frame (k : Nat) (f : Sensor → Sensor) (s : State) :
    (modSensor k f s).boot = s.boot ∧ (modSensor k f s).rowFaults = s.rowFaults ∧ (modSensor k f s).units = s.units ∧ (modSensor k f s).audit = s.audit ∧
    (modSensor k f s).recorder = s.recorder ∧ (modSensor k f s).msix = s.msix ∧ (modSensor k f s).link = s.link ∧ (modSensor k f s).chans = s.chans ∧
    (modSensor k f s).jobs = s.jobs ∧ (modSensor k f s).sched = s.sched ∧ (modSensor k f s).keeper = s.keeper ∧ (modSensor k f s).start = s.start ∧
    (modSensor k f s).keys = s.keys ∧ (modSensor k f s).sig = s.sig ∧ (modSensor k f s).cip = s.cip ∧ (modSensor k f s).rng = s.rng ∧
    (modSensor k f s).vault = s.vault ∧ (modSensor k f s).fold = s.fold ∧ (modSensor k f s).flash = s.flash ∧ (modSensor k f s).contact = s.contact ∧
    (modSensor k f s).reader = s.reader ∧ (modSensor k f s).ceremony = s.ceremony ∧ (modSensor k f s).stile = s.stile ∧ (modSensor k f s).sdc = s.sdc ∧
    (modSensor k f s).tenants = s.tenants ∧ (modSensor k f s).cores = s.cores ∧ (modSensor k f s).gates = s.gates ∧ (modSensor k f s).sram = s.sram ∧
    (modSensor k f s).sramTags = s.sramTags ∧ (modSensor k f s).dram = s.dram ∧ (modSensor k f s).latches = s.latches ∧ (modSensor k f s).draws = s.draws ∧
    (modSensor k f s).out = s.out ∧ (modSensor k f s).pending = s.pending :=
  ⟨rfl, rfl, rfl, rfl, rfl, rfl, rfl, rfl, rfl, rfl, rfl, rfl, rfl, rfl, rfl, rfl, rfl, rfl, rfl, rfl, rfl, rfl, rfl, rfl, rfl, rfl, rfl, rfl, rfl, rfl, rfl, rfl, rfl, rfl⟩

/-- `modDomain` changes nothing but `power`. -/
@[simp] theorem modDomain_frame (d : Nat) (f : Domain → Domain) (s : State) :
    (modDomain d f s).boot = s.boot ∧ (modDomain d f s).rowFaults = s.rowFaults ∧ (modDomain d f s).units = s.units ∧ (modDomain d f s).audit = s.audit ∧
    (modDomain d f s).recorder = s.recorder ∧ (modDomain d f s).msix = s.msix ∧ (modDomain d f s).link = s.link ∧ (modDomain d f s).chans = s.chans ∧
    (modDomain d f s).jobs = s.jobs ∧ (modDomain d f s).sched = s.sched ∧ (modDomain d f s).keeper = s.keeper ∧ (modDomain d f s).start = s.start ∧
    (modDomain d f s).keys = s.keys ∧ (modDomain d f s).sig = s.sig ∧ (modDomain d f s).cip = s.cip ∧ (modDomain d f s).rng = s.rng ∧
    (modDomain d f s).vault = s.vault ∧ (modDomain d f s).fold = s.fold ∧ (modDomain d f s).flash = s.flash ∧ (modDomain d f s).contact = s.contact ∧
    (modDomain d f s).reader = s.reader ∧ (modDomain d f s).ceremony = s.ceremony ∧ (modDomain d f s).stile = s.stile ∧ (modDomain d f s).sdc = s.sdc ∧
    (modDomain d f s).tenants = s.tenants ∧ (modDomain d f s).cores = s.cores ∧ (modDomain d f s).gates = s.gates ∧ (modDomain d f s).sram = s.sram ∧
    (modDomain d f s).sramTags = s.sramTags ∧ (modDomain d f s).dram = s.dram ∧ (modDomain d f s).latches = s.latches ∧ (modDomain d f s).draws = s.draws ∧
    (modDomain d f s).out = s.out ∧ (modDomain d f s).pending = s.pending :=
  ⟨rfl, rfl, rfl, rfl, rfl, rfl, rfl, rfl, rfl, rfl, rfl, rfl, rfl, rfl, rfl, rfl, rfl, rfl, rfl, rfl, rfl, rfl, rfl, rfl, rfl, rfl, rfl, rfl, rfl, rfl, rfl, rfl, rfl, rfl⟩

/-- `modRng` changes nothing but `rng`. -/
@[simp] theorem modRng_frame (f : Rng → Rng) (s : State) :
    (modRng f s).boot = s.boot ∧ (modRng f s).rowFaults = s.rowFaults ∧ (modRng f s).units = s.units ∧ (modRng f s).audit = s.audit ∧
    (modRng f s).recorder = s.recorder ∧ (modRng f s).msix = s.msix ∧ (modRng f s).link = s.link ∧ (modRng f s).chans = s.chans ∧
    (modRng f s).jobs = s.jobs ∧ (modRng f s).sched = s.sched ∧ (modRng f s).power = s.power ∧ (modRng f s).keeper = s.keeper ∧
    (modRng f s).start = s.start ∧ (modRng f s).keys = s.keys ∧ (modRng f s).sig = s.sig ∧ (modRng f s).cip = s.cip ∧ (modRng f s).vault = s.vault ∧
    (modRng f s).fold = s.fold ∧ (modRng f s).flash = s.flash ∧ (modRng f s).contact = s.contact ∧ (modRng f s).reader = s.reader ∧
    (modRng f s).ceremony = s.ceremony ∧ (modRng f s).stile = s.stile ∧ (modRng f s).sdc = s.sdc ∧ (modRng f s).tenants = s.tenants ∧
    (modRng f s).cores = s.cores ∧ (modRng f s).gates = s.gates ∧ (modRng f s).sram = s.sram ∧ (modRng f s).sramTags = s.sramTags ∧
    (modRng f s).dram = s.dram ∧ (modRng f s).latches = s.latches ∧ (modRng f s).draws = s.draws ∧ (modRng f s).out = s.out ∧ (modRng f s).pending = s.pending :=
  ⟨rfl, rfl, rfl, rfl, rfl, rfl, rfl, rfl, rfl, rfl, rfl, rfl, rfl, rfl, rfl, rfl, rfl, rfl, rfl, rfl, rfl, rfl, rfl, rfl, rfl, rfl, rfl, rfl, rfl, rfl, rfl, rfl, rfl, rfl⟩

/-- `modSource` changes nothing but `rng`. -/
@[simp] theorem modSource_frame (n : Nat) (f : Source → Source) (s : State) :
    (modSource n f s).boot = s.boot ∧ (modSource n f s).rowFaults = s.rowFaults ∧ (modSource n f s).units = s.units ∧ (modSource n f s).audit = s.audit ∧
    (modSource n f s).recorder = s.recorder ∧ (modSource n f s).msix = s.msix ∧ (modSource n f s).link = s.link ∧ (modSource n f s).chans = s.chans ∧
    (modSource n f s).jobs = s.jobs ∧ (modSource n f s).sched = s.sched ∧ (modSource n f s).power = s.power ∧ (modSource n f s).keeper = s.keeper ∧
    (modSource n f s).start = s.start ∧ (modSource n f s).keys = s.keys ∧ (modSource n f s).sig = s.sig ∧ (modSource n f s).cip = s.cip ∧
    (modSource n f s).vault = s.vault ∧ (modSource n f s).fold = s.fold ∧ (modSource n f s).flash = s.flash ∧ (modSource n f s).contact = s.contact ∧
    (modSource n f s).reader = s.reader ∧ (modSource n f s).ceremony = s.ceremony ∧ (modSource n f s).stile = s.stile ∧ (modSource n f s).sdc = s.sdc ∧
    (modSource n f s).tenants = s.tenants ∧ (modSource n f s).cores = s.cores ∧ (modSource n f s).gates = s.gates ∧ (modSource n f s).sram = s.sram ∧
    (modSource n f s).sramTags = s.sramTags ∧ (modSource n f s).dram = s.dram ∧ (modSource n f s).latches = s.latches ∧ (modSource n f s).draws = s.draws ∧
    (modSource n f s).out = s.out ∧ (modSource n f s).pending = s.pending :=
  ⟨rfl, rfl, rfl, rfl, rfl, rfl, rfl, rfl, rfl, rfl, rfl, rfl, rfl, rfl, rfl, rfl, rfl, rfl, rfl, rfl, rfl, rfl, rfl, rfl, rfl, rfl, rfl, rfl, rfl, rfl, rfl, rfl, rfl, rfl⟩

/-- `modSdc` changes nothing but `sdc`. -/
@[simp] theorem modSdc_frame (f : Sdc → Sdc) (s : State) :
    (modSdc f s).boot = s.boot ∧ (modSdc f s).rowFaults = s.rowFaults ∧ (modSdc f s).units = s.units ∧ (modSdc f s).audit = s.audit ∧
    (modSdc f s).recorder = s.recorder ∧ (modSdc f s).msix = s.msix ∧ (modSdc f s).link = s.link ∧ (modSdc f s).chans = s.chans ∧
    (modSdc f s).jobs = s.jobs ∧ (modSdc f s).sched = s.sched ∧ (modSdc f s).power = s.power ∧ (modSdc f s).keeper = s.keeper ∧
    (modSdc f s).start = s.start ∧ (modSdc f s).keys = s.keys ∧ (modSdc f s).sig = s.sig ∧ (modSdc f s).cip = s.cip ∧ (modSdc f s).rng = s.rng ∧
    (modSdc f s).vault = s.vault ∧ (modSdc f s).fold = s.fold ∧ (modSdc f s).flash = s.flash ∧ (modSdc f s).contact = s.contact ∧
    (modSdc f s).reader = s.reader ∧ (modSdc f s).ceremony = s.ceremony ∧ (modSdc f s).stile = s.stile ∧ (modSdc f s).tenants = s.tenants ∧
    (modSdc f s).cores = s.cores ∧ (modSdc f s).gates = s.gates ∧ (modSdc f s).sram = s.sram ∧ (modSdc f s).sramTags = s.sramTags ∧
    (modSdc f s).dram = s.dram ∧ (modSdc f s).latches = s.latches ∧ (modSdc f s).draws = s.draws ∧ (modSdc f s).out = s.out ∧ (modSdc f s).pending = s.pending :=
  ⟨rfl, rfl, rfl, rfl, rfl, rfl, rfl, rfl, rfl, rfl, rfl, rfl, rfl, rfl, rfl, rfl, rfl, rfl, rfl, rfl, rfl, rfl, rfl, rfl, rfl, rfl, rfl, rfl, rfl, rfl, rfl, rfl, rfl, rfl⟩

/-- `modStart` changes nothing but `start`. -/
@[simp] theorem modStart_frame (f : StartUp → StartUp) (s : State) :
    (modStart f s).boot = s.boot ∧ (modStart f s).rowFaults = s.rowFaults ∧ (modStart f s).units = s.units ∧ (modStart f s).audit = s.audit ∧
    (modStart f s).recorder = s.recorder ∧ (modStart f s).msix = s.msix ∧ (modStart f s).link = s.link ∧ (modStart f s).chans = s.chans ∧
    (modStart f s).jobs = s.jobs ∧ (modStart f s).sched = s.sched ∧ (modStart f s).power = s.power ∧ (modStart f s).keeper = s.keeper ∧
    (modStart f s).keys = s.keys ∧ (modStart f s).sig = s.sig ∧ (modStart f s).cip = s.cip ∧ (modStart f s).rng = s.rng ∧ (modStart f s).vault = s.vault ∧
    (modStart f s).fold = s.fold ∧ (modStart f s).flash = s.flash ∧ (modStart f s).contact = s.contact ∧ (modStart f s).reader = s.reader ∧
    (modStart f s).ceremony = s.ceremony ∧ (modStart f s).stile = s.stile ∧ (modStart f s).sdc = s.sdc ∧ (modStart f s).tenants = s.tenants ∧
    (modStart f s).cores = s.cores ∧ (modStart f s).gates = s.gates ∧ (modStart f s).sram = s.sram ∧ (modStart f s).sramTags = s.sramTags ∧
    (modStart f s).dram = s.dram ∧ (modStart f s).latches = s.latches ∧ (modStart f s).draws = s.draws ∧ (modStart f s).out = s.out ∧
    (modStart f s).pending = s.pending :=
  ⟨rfl, rfl, rfl, rfl, rfl, rfl, rfl, rfl, rfl, rfl, rfl, rfl, rfl, rfl, rfl, rfl, rfl, rfl, rfl, rfl, rfl, rfl, rfl, rfl, rfl, rfl, rfl, rfl, rfl, rfl, rfl, rfl, rfl, rfl⟩

/-- `modStile` changes nothing but `stile`. -/
@[simp] theorem modStile_frame (f : Stile → Stile) (s : State) :
    (modStile f s).boot = s.boot ∧ (modStile f s).rowFaults = s.rowFaults ∧ (modStile f s).units = s.units ∧ (modStile f s).audit = s.audit ∧
    (modStile f s).recorder = s.recorder ∧ (modStile f s).msix = s.msix ∧ (modStile f s).link = s.link ∧ (modStile f s).chans = s.chans ∧
    (modStile f s).jobs = s.jobs ∧ (modStile f s).sched = s.sched ∧ (modStile f s).power = s.power ∧ (modStile f s).keeper = s.keeper ∧
    (modStile f s).start = s.start ∧ (modStile f s).keys = s.keys ∧ (modStile f s).sig = s.sig ∧ (modStile f s).cip = s.cip ∧ (modStile f s).rng = s.rng ∧
    (modStile f s).vault = s.vault ∧ (modStile f s).fold = s.fold ∧ (modStile f s).flash = s.flash ∧ (modStile f s).contact = s.contact ∧
    (modStile f s).reader = s.reader ∧ (modStile f s).ceremony = s.ceremony ∧ (modStile f s).sdc = s.sdc ∧ (modStile f s).tenants = s.tenants ∧
    (modStile f s).cores = s.cores ∧ (modStile f s).gates = s.gates ∧ (modStile f s).sram = s.sram ∧ (modStile f s).sramTags = s.sramTags ∧
    (modStile f s).dram = s.dram ∧ (modStile f s).latches = s.latches ∧ (modStile f s).draws = s.draws ∧ (modStile f s).out = s.out ∧
    (modStile f s).pending = s.pending :=
  ⟨rfl, rfl, rfl, rfl, rfl, rfl, rfl, rfl, rfl, rfl, rfl, rfl, rfl, rfl, rfl, rfl, rfl, rfl, rfl, rfl, rfl, rfl, rfl, rfl, rfl, rfl, rfl, rfl, rfl, rfl, rfl, rfl, rfl, rfl⟩

/-- `modVault` changes nothing but `vault`. -/
@[simp] theorem modVault_frame (f : Vault → Vault) (s : State) :
    (modVault f s).boot = s.boot ∧ (modVault f s).rowFaults = s.rowFaults ∧ (modVault f s).units = s.units ∧ (modVault f s).audit = s.audit ∧
    (modVault f s).recorder = s.recorder ∧ (modVault f s).msix = s.msix ∧ (modVault f s).link = s.link ∧ (modVault f s).chans = s.chans ∧
    (modVault f s).jobs = s.jobs ∧ (modVault f s).sched = s.sched ∧ (modVault f s).power = s.power ∧ (modVault f s).keeper = s.keeper ∧
    (modVault f s).start = s.start ∧ (modVault f s).keys = s.keys ∧ (modVault f s).sig = s.sig ∧ (modVault f s).cip = s.cip ∧ (modVault f s).rng = s.rng ∧
    (modVault f s).fold = s.fold ∧ (modVault f s).flash = s.flash ∧ (modVault f s).contact = s.contact ∧ (modVault f s).reader = s.reader ∧
    (modVault f s).ceremony = s.ceremony ∧ (modVault f s).stile = s.stile ∧ (modVault f s).sdc = s.sdc ∧ (modVault f s).tenants = s.tenants ∧
    (modVault f s).cores = s.cores ∧ (modVault f s).gates = s.gates ∧ (modVault f s).sram = s.sram ∧ (modVault f s).sramTags = s.sramTags ∧
    (modVault f s).dram = s.dram ∧ (modVault f s).latches = s.latches ∧ (modVault f s).draws = s.draws ∧ (modVault f s).out = s.out ∧
    (modVault f s).pending = s.pending :=
  ⟨rfl, rfl, rfl, rfl, rfl, rfl, rfl, rfl, rfl, rfl, rfl, rfl, rfl, rfl, rfl, rfl, rfl, rfl, rfl, rfl, rfl, rfl, rfl, rfl, rfl, rfl, rfl, rfl, rfl, rfl, rfl, rfl, rfl, rfl⟩

/-- `modBlock` changes nothing but `vault`. -/
@[simp] theorem modBlock_frame (b : Nat) (f : NandBlock → NandBlock) (s : State) :
    (modBlock b f s).boot = s.boot ∧ (modBlock b f s).rowFaults = s.rowFaults ∧ (modBlock b f s).units = s.units ∧ (modBlock b f s).audit = s.audit ∧
    (modBlock b f s).recorder = s.recorder ∧ (modBlock b f s).msix = s.msix ∧ (modBlock b f s).link = s.link ∧ (modBlock b f s).chans = s.chans ∧
    (modBlock b f s).jobs = s.jobs ∧ (modBlock b f s).sched = s.sched ∧ (modBlock b f s).power = s.power ∧ (modBlock b f s).keeper = s.keeper ∧
    (modBlock b f s).start = s.start ∧ (modBlock b f s).keys = s.keys ∧ (modBlock b f s).sig = s.sig ∧ (modBlock b f s).cip = s.cip ∧
    (modBlock b f s).rng = s.rng ∧ (modBlock b f s).fold = s.fold ∧ (modBlock b f s).flash = s.flash ∧ (modBlock b f s).contact = s.contact ∧
    (modBlock b f s).reader = s.reader ∧ (modBlock b f s).ceremony = s.ceremony ∧ (modBlock b f s).stile = s.stile ∧ (modBlock b f s).sdc = s.sdc ∧
    (modBlock b f s).tenants = s.tenants ∧ (modBlock b f s).cores = s.cores ∧ (modBlock b f s).gates = s.gates ∧ (modBlock b f s).sram = s.sram ∧
    (modBlock b f s).sramTags = s.sramTags ∧ (modBlock b f s).dram = s.dram ∧ (modBlock b f s).latches = s.latches ∧ (modBlock b f s).draws = s.draws ∧
    (modBlock b f s).out = s.out ∧ (modBlock b f s).pending = s.pending :=
  ⟨rfl, rfl, rfl, rfl, rfl, rfl, rfl, rfl, rfl, rfl, rfl, rfl, rfl, rfl, rfl, rfl, rfl, rfl, rfl, rfl, rfl, rfl, rfl, rfl, rfl, rfl, rfl, rfl, rfl, rfl, rfl, rfl, rfl, rfl⟩

/-- `appendRec` changes nothing but `audit`. -/
@[simp] theorem appendRec_frame (b : AuditBody) (s : State) :
    (appendRec b s).boot = s.boot ∧ (appendRec b s).rowFaults = s.rowFaults ∧ (appendRec b s).units = s.units ∧ (appendRec b s).recorder = s.recorder ∧
    (appendRec b s).msix = s.msix ∧ (appendRec b s).link = s.link ∧ (appendRec b s).chans = s.chans ∧ (appendRec b s).jobs = s.jobs ∧
    (appendRec b s).sched = s.sched ∧ (appendRec b s).power = s.power ∧ (appendRec b s).keeper = s.keeper ∧ (appendRec b s).start = s.start ∧
    (appendRec b s).keys = s.keys ∧ (appendRec b s).sig = s.sig ∧ (appendRec b s).cip = s.cip ∧ (appendRec b s).rng = s.rng ∧
    (appendRec b s).vault = s.vault ∧ (appendRec b s).fold = s.fold ∧ (appendRec b s).flash = s.flash ∧ (appendRec b s).contact = s.contact ∧
    (appendRec b s).reader = s.reader ∧ (appendRec b s).ceremony = s.ceremony ∧ (appendRec b s).stile = s.stile ∧ (appendRec b s).sdc = s.sdc ∧
    (appendRec b s).tenants = s.tenants ∧ (appendRec b s).cores = s.cores ∧ (appendRec b s).gates = s.gates ∧ (appendRec b s).sram = s.sram ∧
    (appendRec b s).sramTags = s.sramTags ∧ (appendRec b s).dram = s.dram ∧ (appendRec b s).latches = s.latches ∧ (appendRec b s).draws = s.draws ∧
    (appendRec b s).out = s.out ∧ (appendRec b s).pending = s.pending :=
  ⟨rfl, rfl, rfl, rfl, rfl, rfl, rfl, rfl, rfl, rfl, rfl, rfl, rfl, rfl, rfl, rfl, rfl, rfl, rfl, rfl, rfl, rfl, rfl, rfl, rfl, rfl, rfl, rfl, rfl, rfl, rfl, rfl, rfl, rfl⟩

/-- `stall` changes nothing but `cores`. -/
@[simp] theorem stall_frame (n : Nat) (s : State) :
    (stall n s).boot = s.boot ∧ (stall n s).rowFaults = s.rowFaults ∧ (stall n s).units = s.units ∧ (stall n s).audit = s.audit ∧
    (stall n s).recorder = s.recorder ∧ (stall n s).msix = s.msix ∧ (stall n s).link = s.link ∧ (stall n s).chans = s.chans ∧ (stall n s).jobs = s.jobs ∧
    (stall n s).sched = s.sched ∧ (stall n s).power = s.power ∧ (stall n s).keeper = s.keeper ∧ (stall n s).start = s.start ∧ (stall n s).keys = s.keys ∧
    (stall n s).sig = s.sig ∧ (stall n s).cip = s.cip ∧ (stall n s).rng = s.rng ∧ (stall n s).vault = s.vault ∧ (stall n s).fold = s.fold ∧
    (stall n s).flash = s.flash ∧ (stall n s).contact = s.contact ∧ (stall n s).reader = s.reader ∧ (stall n s).ceremony = s.ceremony ∧
    (stall n s).stile = s.stile ∧ (stall n s).sdc = s.sdc ∧ (stall n s).tenants = s.tenants ∧ (stall n s).gates = s.gates ∧ (stall n s).sram = s.sram ∧
    (stall n s).sramTags = s.sramTags ∧ (stall n s).dram = s.dram ∧ (stall n s).latches = s.latches ∧ (stall n s).draws = s.draws ∧ (stall n s).out = s.out ∧
    (stall n s).pending = s.pending :=
  ⟨rfl, rfl, rfl, rfl, rfl, rfl, rfl, rfl, rfl, rfl, rfl, rfl, rfl, rfl, rfl, rfl, rfl, rfl, rfl, rfl, rfl, rfl, rfl, rfl, rfl, rfl, rfl, rfl, rfl, rfl, rfl, rfl, rfl, rfl⟩

/-- `counted` changes nothing but `cores`. -/
@[simp] theorem counted_frame (n : Nat) (s : State) :
    (counted n s).boot = s.boot ∧ (counted n s).rowFaults = s.rowFaults ∧ (counted n s).units = s.units ∧ (counted n s).audit = s.audit ∧
    (counted n s).recorder = s.recorder ∧ (counted n s).msix = s.msix ∧ (counted n s).link = s.link ∧ (counted n s).chans = s.chans ∧
    (counted n s).jobs = s.jobs ∧ (counted n s).sched = s.sched ∧ (counted n s).power = s.power ∧ (counted n s).keeper = s.keeper ∧
    (counted n s).start = s.start ∧ (counted n s).keys = s.keys ∧ (counted n s).sig = s.sig ∧ (counted n s).cip = s.cip ∧ (counted n s).rng = s.rng ∧
    (counted n s).vault = s.vault ∧ (counted n s).fold = s.fold ∧ (counted n s).flash = s.flash ∧ (counted n s).contact = s.contact ∧
    (counted n s).reader = s.reader ∧ (counted n s).ceremony = s.ceremony ∧ (counted n s).stile = s.stile ∧ (counted n s).sdc = s.sdc ∧
    (counted n s).tenants = s.tenants ∧ (counted n s).gates = s.gates ∧ (counted n s).sram = s.sram ∧ (counted n s).sramTags = s.sramTags ∧
    (counted n s).dram = s.dram ∧ (counted n s).latches = s.latches ∧ (counted n s).draws = s.draws ∧ (counted n s).out = s.out ∧
    (counted n s).pending = s.pending :=
  ⟨rfl, rfl, rfl, rfl, rfl, rfl, rfl, rfl, rfl, rfl, rfl, rfl, rfl, rfl, rfl, rfl, rfl, rfl, rfl, rfl, rfl, rfl, rfl, rfl, rfl, rfl, rfl, rfl, rfl, rfl, rfl, rfl, rfl, rfl⟩

/-- `modJob` changes nothing but `jobs`. -/
@[simp] theorem modJob_frame (slot : Nat) (f : Job → Job) (s : State) :
    (modJob slot f s).boot = s.boot ∧ (modJob slot f s).rowFaults = s.rowFaults ∧ (modJob slot f s).units = s.units ∧ (modJob slot f s).audit = s.audit ∧
    (modJob slot f s).recorder = s.recorder ∧ (modJob slot f s).msix = s.msix ∧ (modJob slot f s).link = s.link ∧ (modJob slot f s).chans = s.chans ∧
    (modJob slot f s).sched = s.sched ∧ (modJob slot f s).power = s.power ∧ (modJob slot f s).keeper = s.keeper ∧ (modJob slot f s).start = s.start ∧
    (modJob slot f s).keys = s.keys ∧ (modJob slot f s).sig = s.sig ∧ (modJob slot f s).cip = s.cip ∧ (modJob slot f s).rng = s.rng ∧
    (modJob slot f s).vault = s.vault ∧ (modJob slot f s).fold = s.fold ∧ (modJob slot f s).flash = s.flash ∧ (modJob slot f s).contact = s.contact ∧
    (modJob slot f s).reader = s.reader ∧ (modJob slot f s).ceremony = s.ceremony ∧ (modJob slot f s).stile = s.stile ∧ (modJob slot f s).sdc = s.sdc ∧
    (modJob slot f s).tenants = s.tenants ∧ (modJob slot f s).cores = s.cores ∧ (modJob slot f s).gates = s.gates ∧ (modJob slot f s).sram = s.sram ∧
    (modJob slot f s).sramTags = s.sramTags ∧ (modJob slot f s).dram = s.dram ∧ (modJob slot f s).latches = s.latches ∧ (modJob slot f s).draws = s.draws ∧
    (modJob slot f s).out = s.out ∧ (modJob slot f s).pending = s.pending := by
  unfold modJob
  split
  · exact ⟨rfl, rfl, rfl, rfl, rfl, rfl, rfl, rfl, rfl, rfl, rfl, rfl, rfl, rfl, rfl, rfl, rfl, rfl, rfl, rfl, rfl, rfl, rfl, rfl, rfl, rfl, rfl, rfl, rfl, rfl, rfl, rfl, rfl, rfl⟩
  · exact ⟨rfl, rfl, rfl, rfl, rfl, rfl, rfl, rfl, rfl, rfl, rfl, rfl, rfl, rfl, rfl, rfl, rfl, rfl, rfl, rfl, rfl, rfl, rfl, rfl, rfl, rfl, rfl, rfl, rfl, rfl, rfl, rfl, rfl, rfl⟩

/-- `modStep` changes nothing but `jobs`. -/
@[simp] theorem modStep_frame (slot i : Nat) (f : StepRun → StepRun) (s : State) :
    (modStep slot i f s).boot = s.boot ∧ (modStep slot i f s).rowFaults = s.rowFaults ∧ (modStep slot i f s).units = s.units ∧
    (modStep slot i f s).audit = s.audit ∧ (modStep slot i f s).recorder = s.recorder ∧ (modStep slot i f s).msix = s.msix ∧
    (modStep slot i f s).link = s.link ∧ (modStep slot i f s).chans = s.chans ∧ (modStep slot i f s).sched = s.sched ∧ (modStep slot i f s).power = s.power ∧
    (modStep slot i f s).keeper = s.keeper ∧ (modStep slot i f s).start = s.start ∧ (modStep slot i f s).keys = s.keys ∧ (modStep slot i f s).sig = s.sig ∧
    (modStep slot i f s).cip = s.cip ∧ (modStep slot i f s).rng = s.rng ∧ (modStep slot i f s).vault = s.vault ∧ (modStep slot i f s).fold = s.fold ∧
    (modStep slot i f s).flash = s.flash ∧ (modStep slot i f s).contact = s.contact ∧ (modStep slot i f s).reader = s.reader ∧
    (modStep slot i f s).ceremony = s.ceremony ∧ (modStep slot i f s).stile = s.stile ∧ (modStep slot i f s).sdc = s.sdc ∧
    (modStep slot i f s).tenants = s.tenants ∧ (modStep slot i f s).cores = s.cores ∧ (modStep slot i f s).gates = s.gates ∧
    (modStep slot i f s).sram = s.sram ∧ (modStep slot i f s).sramTags = s.sramTags ∧ (modStep slot i f s).dram = s.dram ∧
    (modStep slot i f s).latches = s.latches ∧ (modStep slot i f s).draws = s.draws ∧ (modStep slot i f s).out = s.out ∧
    (modStep slot i f s).pending = s.pending :=
  modJob_frame slot _ s

/-! ### What a record reads as after its update -/

theorem unitAt_modUnit (p q : Nat) (f : UnitRec → UnitRec) (s : State) : unitAt (modUnit p f s) q = if q = p then f (unitAt s p) else unitAt s q :=
  mget_mupd ..

theorem chanAt_modChan (n m : Nat) (f : Chan → Chan) (s : State) : chanAt (modChan n f s) m = if m = n then f (chanAt s n) else chanAt s m :=
  mget_mupd ..

theorem coreAt_modCore (n m : Nat) (f : Core → Core) (s : State) : coreAt (modCore n f s) m = if m = n then f (coreAt s n) else coreAt s m :=
  mget_mupd ..

theorem coreAt_modRegs (n m : Nat) (f : CoreRegs → CoreRegs) (s : State) : coreAt (modRegs n f s) m = if m = n then { coreAt s n with regs := f (coreAt s n).regs } else coreAt s m :=
  coreAt_modCore n m (fun c => { c with regs := f c.regs }) s

theorem gateAt_modGate (n m : Nat) (f : Gate → Gate) (s : State) : gateAt (modGate n f s) m = if m = n then f (gateAt s n) else gateAt s m :=
  mget_mupd ..

theorem sectorAt_modSector (n m : Nat) (f : FlsSector → FlsSector) (s : State) : sectorAt (modSector n f s) m = if m = n then f (sectorAt s n) else sectorAt s m :=
  mget_mupd ..

theorem partAt_modPart (n m : Nat) (f : FlsPart → FlsPart) (s : State) : partAt (modPart n f s) m = if m = n then f (partAt s n) else partAt s m :=
  mget_mupd ..

theorem portAt_modPort (n m : Nat) (f : FoldPort → FoldPort) (s : State) : portAt (modPort n f s) m = if m = n then f (portAt s n) else portAt s m :=
  mget_mupd ..

theorem bayAt_modBay (n m : Nat) (f : Bay → Bay) (s : State) : bayAt (modBay n f s) m = if m = n then f (bayAt s n) else bayAt s m :=
  mget_mupd ..

theorem sensorAt_modSensor (n m : Nat) (f : Sensor → Sensor) (s : State) : sensorAt (modSensor n f s) m = if m = n then f (sensorAt s n) else sensorAt s m :=
  mget_mupd ..

theorem domainAtP_modDomain (n m : Nat) (f : Domain → Domain) (s : State) : domainAtP (modDomain n f s) m = if m = n then f (domainAtP s n) else domainAtP s m :=
  mget_mupd ..

theorem sourceAt_modSource (n m : Nat) (f : Source → Source) (s : State) : sourceAt (modSource n f s) m = if m = n then f (sourceAt s n) else sourceAt s m :=
  mget_mupd ..

theorem engAt_modEng (kind idx k x : Nat) (f : Engine → Engine) (s : State) :
    engAt (modEng kind idx f s) k x = if engKey k x = engKey kind idx then f (engAt s kind idx) else engAt s k x :=
  mget_mupd ..

theorem jobAt_modJob (slot n : Nat) (f : Job → Job) (s : State) : jobAt (modJob slot f s) n = if n = slot then (jobAt s slot).map f else jobAt s n := by
  unfold modJob jobAt
  cases h : mfind slot s.jobs with
  | none =>
    by_cases hn : n = slot
    · subst hn
      simp [h]
    · simp [hn]
  | some j =>
    simp only [mfind_mput]
    by_cases hn : n = slot <;> simp [hn]

/-- The job slots in use stay the same. -/
theorem keys_modJob (slot : Nat) (f : Job → Job) (s : State) : ∀ n, (jobAt (modJob slot f s) n).isSome = (jobAt s n).isSome := by
  intro n
  rw [jobAt_modJob]
  by_cases hn : n = slot <;> simp [hn]

end Sys2Proof.Machine
end

