-- ==== Sys2Proof/Laws/Memory.lean ====
section
/-!
SUPPORT. Sys2Proof/Laws/Memory.lean: every memory operation keeps the canonical form of the memories, and the memories right after reset have it.
-/
namespace Sys2Proof.Machine
open Sys2Proof

/-- A core's data memory and its tags are in canonical form. -/
def CoreMem (c : Core) : Prop := canonical 0 c.data = true ∧ canonical false c.tags = true

theorem memory_wf_iff {s : State} : Memory.wf s = true ↔
    (canonical 0 s.sram = true ∧ canonical false s.sramTags = true ∧ canonical 0 s.dram = true ∧ canonical 0 s.stile.mem = true) ∧ ∀ e ∈ s.cores, CoreMem e.2 := by
  simp only [Memory.wf, Bool.and_eq_true, List.all_eq_true, CoreMem, and_assoc]

/-- A change of a core that keeps its memory canonical keeps them all. -/
theorem modCore_wf {n : Nat} {f : Core → Core} (hf : ∀ c, CoreMem c → CoreMem (f c)) {s : State} (h : Memory.wf s = true) : Memory.wf (modCore n f s) = true := by
  obtain ⟨h1, h2⟩ := memory_wf_iff.mp h
  exact memory_wf_iff.mpr ⟨h1, all_mupd hf ⟨rfl, rfl⟩ h2⟩

/-- A change of a core's registers leaves the memories alone. -/
theorem modRegs_wf {n : Nat} {f : CoreRegs → CoreRegs} {s : State} (h : Memory.wf s = true) : Memory.wf (modRegs n f s) = true :=
  modCore_wf (f := fun c => { c with regs := f c.regs }) (fun _ hc => hc) h

theorem setTag_wf (n a : Nat) (v : Bool) {s : State} (h : Memory.wf s = true) : Memory.wf (setTag n a v s) = true := by
  unfold setTag
  split
  · refine modCore_wf (fun c hc => ?_) h
    exact ⟨hc.1, canonical_mset hc.2⟩
  · obtain ⟨⟨h1, h2, h3⟩, h4⟩ := memory_wf_iff.mp h
    exact memory_wf_iff.mpr ⟨⟨h1, canonical_mset h2, h3⟩, h4⟩
  · exact h

theorem memPut_wf (n a : Nat) (b : Byte) {s : State} (h : Memory.wf s = true) : Memory.wf (memPut n a b s) = true := by
  unfold memPut
  split
  · refine modCore_wf (fun c hc => ?_) h
    exact ⟨canonical_mset hc.1, canonical_mset (v := false) hc.2⟩
  · obtain ⟨⟨h1, h2, h3⟩, h4⟩ := memory_wf_iff.mp h
    exact memory_wf_iff.mpr ⟨⟨canonical_mset h1, canonical_mset (v := false) h2, h3⟩, h4⟩
  · obtain ⟨⟨h1, h2, h3, h5⟩, h4⟩ := memory_wf_iff.mp h
    exact memory_wf_iff.mpr ⟨⟨h1, h2, canonical_mset h3, h5⟩, h4⟩
  · exact h

/-- Storing a row anew changes no byte of the memories. -/
theorem clearRowAt_wf (n a : Nat) {s : State} (h : Memory.wf s = true) : Memory.wf (clearRowAt n a s) = true := by
  unfold clearRowAt
  split <;> exact h

theorem memWrite_wf (n a : Nat) (bs : Bytes) {s : State} (h : Memory.wf s = true) : Memory.wf (memWrite n a bs s) = true := by
  unfold memWrite forAll
  induction bs.zipIdx generalizing s with
  | nil => exact h
  | cons e l ih => exact ih (memPut_wf n (a + e.2) e.1 (clearRowAt_wf n (a + e.2) h))

theorem memPutCap_wf (n a : Nat) (c : Cap) {s : State} (h : Memory.wf s = true) : Memory.wf (memPutCap n a c s) = true :=
  setTag_wf n a c.tag (memWrite_wf n a _ h)

theorem wipeContext_wf (n ctx : Nat) {s : State} (h : Memory.wf s = true) : Memory.wf (wipeContext n ctx s) = true :=
  modCore_wf (fun _ hc => ⟨canonical_filter hc.1, canonical_filter hc.2⟩) h

/-- A byte written is read there, and every other byte is as it was (R521). -/
theorem memByte_memPut (n a b : Nat) (v : Byte) (s : State) (ha : spaceOf a = .data ∨ spaceOf a = .sram ∨ spaceOf a = .dram) :
    memByte (memPut n a v s) n b = if b = a then v else memByte s n b := by
  have hs : ∀ x, (spaceOf x = .sram → 0x10000000 ≤ x) ∧ (spaceOf x = .dram → 0x800000000 ≤ x) := by
    intro x
    constructor <;> intro hx <;> unfold spaceOf at hx <;> split at hx <;> (try split at hx) <;> (try split at hx) <;> (try split at hx) <;> simp_all
  rcases ha with ha | ha | ha
  · unfold memByte memPut
    rw [ha]
    cases hb : spaceOf b <;> simp only [coreAt_modCore, if_true, mget_mset, modCore_frame] <;> first | rfl | (rw [if_neg]; rintro rfl; simp_all)
  · unfold memByte memPut
    rw [ha]
    have h1 := (hs a).1 ha
    cases hb : spaceOf b <;> simp only [mget_mset]
    case sram =>
      have h2 := (hs b).1 hb
      by_cases e : b = a
      · simp [e]
      · rw [if_neg e, if_neg (by omega)]
    all_goals
      (rw [if_neg (by rintro rfl; simp_all)]) <;> try rfl
  · unfold memByte memPut
    rw [ha]
    have h1 := (hs a).2 ha
    cases hb : spaceOf b <;> simp only [mget_mset]
    case dram =>
      have h2 := (hs b).2 hb
      by_cases e : b = a
      · simp [e]
      · rw [if_neg e, if_neg (by omega)]
    all_goals
      (rw [if_neg (by rintro rfl; simp_all)]) <;> try rfl

theorem reset_memory_wf : Memory.wf State.reset = true := by decide

end Sys2Proof.Machine
end

