-- ==== Sys2Proof/Laws/Raise.lean ====
section
/-!
SUPPORT. Sys2Proof/Laws/Raise.lean: what raising an event can change: pages, the MSI-X messages due and the recorder, and of a page only its pending bits, its last
code and its capture registers.
-/
namespace Sys2Proof.Machine
open Sys2Proof

/-- Two states that agree on everything but unit pages, MSI-X and the recorder. -/
def SameButEvents (s t : State) : Prop := t = { s with units := t.units, msix := t.msix, recorder := t.recorder }

theorem SameButEvents.refl (s : State) : SameButEvents s s := rfl

theorem SameButEvents.trans {s t u : State} (h : SameButEvents s t) (g : SameButEvents t u) : SameButEvents s u := by
  unfold SameButEvents at *
  rw [g, h]

theorem SameButEvents.units {s : State} (u : AMap UnitRec) : SameButEvents s { s with units := u } := rfl

theorem SameButEvents.recorder {s : State} (r : Recorder) : SameButEvents s { s with recorder := r } := rfl

theorem SameButEvents.msix {s : State} (m : Msix) : SameButEvents s { s with msix := m } := rfl

/-- An update made for each item of a list keeps what each of them keeps. -/
theorem forAll_ind {α σ : Type} {p : σ → Prop} {f : α → σ → σ} (hf : ∀ a s, p s → p (f a s)) : ∀ (l : List α) (s : σ), p s → p (forAll l f s)
  | [], _, h => h
  | a :: l, s, h => forAll_ind hf l (f a s) (hf a s h)

/-- An update made for each number keeps what each of them keeps. -/
theorem repeatIdx_ind {σ : Type} {p : σ → Prop} {f : Nat → σ → σ} (hf : ∀ a s, p s → p (f a s)) (n : Nat) (s : σ) (h : p s) : p (repeatIdx n f s) :=
  forAll_ind hf (List.range n) s h

theorem enqueue_same (rs : List EvRec) (s : State) : SameButEvents s (enqueue rs s) ∧ (enqueue rs s).units = s.units ∧ (enqueue rs s).msix = s.msix := by
  unfold enqueue
  refine forAll_ind (p := fun t => SameButEvents s t ∧ t.units = s.units ∧ t.msix = s.msix) (fun r t h => ?_) rs s ⟨rfl, rfl, rfl⟩
  split <;> exact ⟨h.1.trans (.recorder _), h.2⟩

theorem collect_same (tile : Nat) (flushed : Bool) (s : State) :
    SameButEvents s (collect tile flushed s) ∧ (collect tile flushed s).units = s.units ∧ (collect tile flushed s).msix = s.msix :=
  let h := enqueue_same _ _
  ⟨SameButEvents.trans (.recorder _) h.1, h.2⟩

/-- Recording an event changes the recorder alone. -/
theorem recordEvent_same (page unit code detail : Nat) (s : State) :
    SameButEvents s (recordEvent page unit code detail s) ∧ (recordEvent page unit code detail s).units = s.units ∧
      (recordEvent page unit code detail s).msix = s.msix := by
  unfold recordEvent
  dsimp only
  split
  · split <;> exact ⟨.recorder _, rfl, rfl⟩
  · split
    · split
      · split
        · have h := collect_same (page / 16) (decide (code % 256 ≤ 2 ∧ 1 ≤ code / 256 ∧ code / 256 ≤ 6))
          exact ⟨SameButEvents.trans (.recorder _) (h _).1, (h _).2⟩
        · exact ⟨.recorder _, rfl, rfl⟩
      · exact ⟨.recorder _, rfl, rfl⟩
    · exact ⟨.recorder _, rfl, rfl⟩

/-- What an event leaves of a page's record: all but its pending bits, its last code and its capture registers. -/
def SamePage (u v : UnitRec) : Prop :=
  v = { u with pend := v.pend, last := v.last, captCode := v.captCode, captSwath := v.captSwath, captDetail := v.captDetail, captCount := v.captCount }

theorem SamePage.refl (u : UnitRec) : SamePage u u := rfl

theorem SamePage.trans {u v w : UnitRec} (h : SamePage u v) (g : SamePage v w) : SamePage u w := by
  unfold SamePage at *
  rw [g, h]

/-- Setting pending bits up the tree. -/
theorem climb_same : ∀ (n p b code : Nat) (s : State),
    SameButEvents s (climb n p b code s) ∧ (climb n p b code s).msix = s.msix ∧ (climb n p b code s).recorder = s.recorder ∧
      ∀ q, SamePage (unitAt s q) (unitAt (climb n p b code s) q)
  | 0, _, _, _, _ => ⟨rfl, rfl, rfl, fun _ => rfl⟩
  | n + 1, p, b, code, s => by
    have h1 : ∀ q, SamePage (unitAt s q) (unitAt (modUnit p (fun u => { u with pend := u.pend ||| BitVec.ofNat 9 (2 ^ b), last := BitVec.ofNat 16 code }) s) q) := by
      intro q
      rw [unitAt_modUnit]
      split
      · rename_i hq
        subst hq
        exact rfl
      · exact rfl
    unfold climb
    dsimp only
    split
    · exact ⟨.units _, rfl, rfl, h1⟩
    · have h := climb_same n (parent p) b code (modUnit p (fun u => { u with pend := u.pend ||| BitVec.ofNat 9 (2 ^ b), last := BitVec.ofNat 16 code }) s)
      exact ⟨SameButEvents.trans (.units _) h.1, h.2.1, h.2.2.1, fun q => (h1 q).trans (h.2.2.2 q)⟩

theorem capture_same (p code detail : Nat) (s : State) :
    SameButEvents s (capture p code detail s) ∧ ∀ q, SamePage (unitAt s q) (unitAt (capture p code detail s) q) := by
  refine ⟨.units _, fun q => ?_⟩
  unfold capture
  rw [unitAt_modUnit]
  by_cases hq : q = p
  · subst hq
    rw [if_pos rfl]
    dsimp only
    by_cases hc : (unitAt s q).captCount = 0
    · rw [if_pos hc]
      exact rfl
    · rw [if_neg hc]
      exact rfl
  · rw [if_neg hq]
    exact rfl

theorem raiseAs_same (p unit code detail : Nat) (s : State) :
    SameButEvents s (raiseAs p unit code detail s) ∧ ∀ q, SamePage (unitAt s q) (unitAt (raiseAs p unit code detail s) q) := by
  unfold raiseAs
  dsimp only
  have h1 := climb_same 6 p (pendBit code) code s
  have h2 := capture_same p code detail (climb 6 p (pendBit code) code s)
  have h3 := recordEvent_same p unit code (detail % 2 ^ 48)
  have hs := h1.1.trans h2.1
  have hu := fun q => (h1.2.2.2 q).trans (h2.2 q)
  have step : ∀ t : State, SameButEvents (capture p code detail (climb 6 p (pendBit code) code s)) t →
      t.units = (capture p code detail (climb 6 p (pendBit code) code s)).units →
      SameButEvents s (recordEvent p unit code (detail % 2 ^ 48) t) ∧ ∀ q, SamePage (unitAt s q) (unitAt (recordEvent p unit code (detail % 2 ^ 48) t) q) := by
    intro t ht hut
    refine ⟨(hs.trans ht).trans (h3 t).1, fun q => ?_⟩
    have : unitAt (recordEvent p unit code (detail % 2 ^ 48) t) q = unitAt (capture p code detail (climb 6 p (pendBit code) code s)) q := by
      unfold unitAt
      rw [(h3 t).2.1, hut]
    rw [this]
    exact hu q
  split
  · split
    · exact step _ (.msix _) rfl
    · exact step _ rfl rfl
  · exact step _ rfl rfl

/-- Raising an event changes unit pages, MSI-X and the recorder alone, and of each page only its event fields (R764, R489). -/
theorem raise_same (p code detail : Nat) (s : State) :
    SameButEvents s (raise p code detail s) ∧ ∀ q, SamePage (unitAt s q) (unitAt (raise p code detail s) q) := by
  unfold raise noteDropped
  have h1 := raiseAs_same p p code detail s
  have h2 := raiseAs_same recPage recPage 0x0520 ((raiseAs p p code detail s).recorder.dropped - s.recorder.dropped).toNat (raiseAs p p code detail s)
  split
  · exact h1
  · exact ⟨h1.1.trans h2.1, fun q => (h1.2 q).trans (h2.2 q)⟩

/-- The fields that raising an event leaves as they were. -/
@[simp] theorem raise_frame (p code detail : Nat) (s : State) :
    (raise p code detail s).audit = s.audit ∧ (raise p code detail s).link = s.link ∧ (raise p code detail s).chans = s.chans ∧
    (raise p code detail s).jobs = s.jobs ∧ (raise p code detail s).sched = s.sched ∧ (raise p code detail s).power = s.power ∧
    (raise p code detail s).keeper = s.keeper ∧ (raise p code detail s).start = s.start ∧ (raise p code detail s).keys = s.keys ∧
    (raise p code detail s).sig = s.sig ∧ (raise p code detail s).cip = s.cip ∧ (raise p code detail s).rng = s.rng ∧
    (raise p code detail s).vault = s.vault ∧ (raise p code detail s).fold = s.fold ∧ (raise p code detail s).flash = s.flash ∧
    (raise p code detail s).contact = s.contact ∧ (raise p code detail s).reader = s.reader ∧ (raise p code detail s).ceremony = s.ceremony ∧
    (raise p code detail s).stile = s.stile ∧ (raise p code detail s).sdc = s.sdc ∧ (raise p code detail s).tenants = s.tenants ∧
    (raise p code detail s).cores = s.cores ∧ (raise p code detail s).gates = s.gates ∧ (raise p code detail s).sram = s.sram ∧
    (raise p code detail s).sramTags = s.sramTags ∧ (raise p code detail s).dram = s.dram ∧ (raise p code detail s).latches = s.latches ∧
    (raise p code detail s).draws = s.draws ∧ (raise p code detail s).out = s.out ∧ (raise p code detail s).pending = s.pending := by
  have h := (raise_same p code detail s).1
  unfold SameButEvents at h
  rw [h]
  exact ⟨rfl, rfl, rfl, rfl, rfl, rfl, rfl, rfl, rfl, rfl, rfl, rfl, rfl, rfl, rfl, rfl, rfl, rfl, rfl, rfl, rfl, rfl, rfl, rfl, rfl, rfl, rfl, rfl, rfl, rfl⟩

/-- A unit's state, and every field of its page that is no event field, is as it was after an event. -/
@[simp] theorem raise_unit (p code detail : Nat) (s : State) (q : Nat) :
    (unitAt (raise p code detail s) q).state = (unitAt s q).state ∧ (unitAt (raise p code detail s) q).cause = (unitAt s q).cause ∧
    (unitAt (raise p code detail s) q).enable = (unitAt s q).enable ∧ (unitAt (raise p code detail s) q).disableMode = (unitAt s q).disableMode ∧
    (unitAt (raise p code detail s) q).isolate = (unitAt s q).isolate ∧ (unitAt (raise p code detail s) q).profile = (unitAt s q).profile ∧
    (unitAt (raise p code detail s) q).requested = (unitAt s q).requested ∧ (unitAt (raise p code detail s) q).mask = (unitAt s q).mask := by
  have h := (raise_same p code detail s).2 q
  unfold SamePage at h
  rw [h]
  exact ⟨rfl, rfl, rfl, rfl, rfl, rfl, rfl, rfl⟩

end Sys2Proof.Machine
end

