-- ==== Sys2Proof/WellFormed.lean ====
section
/-!
DEFINITION. Sys2Proof/WellFormed.lean: which commands have operands in the ranges the spec gives them. The step does not refuse an ill-formed command: an
operand that names nothing leaves the state as it is.
-/
namespace Sys2Proof

/-- A bus master: the host, SMBus, the boot core, or one of the 16 Ecvas cores (R31, R462). -/
def masterWf : Master → Bool
  | .host | .smbus | .boot => true
  | .core n | .tenant n _ => decide (n < 16)

/-- The master that starts an activity, or none where the scheduler starts it (R77). -/
def optMasterWf : Option Master → Bool
  | some m => masterWf m
  | none => true

/-- An issue on core 0 to 16, of 1 to 3 syllables (R519, R525). -/
def issueWf (x : Issue) : Bool := decide (x.core < 17) && decide (1 ≤ x.len ∧ x.len ≤ 3)

/-- A source of code flash commands (R607). -/
def flsSourceWf : FlsSource → Bool
  | .sys x _ _ => issueWf x
  | .unit addr _ => decide (addr < 2 ^ 32)

/-- A fold frame at one of the two ports, between members 0 to 7 or to the neighbour (R685, R690). -/
def frameWf (f : FoldFrame) : Bool := decide (f.port < 2) && decide (f.src < 8) && decide (f.dst < 8 ∨ f.dst = 0xFF) && decide (f.hops < 8)

/-- The command's operands lie in the ranges the spec gives them. -/
def Instr.wellFormed (c : Instr) : Bool :=
  match c with
  | .powerGood | .perstRelease _ | .bootVerifyDone _ | .ucodeLoadDone _ | .dramWipeRegionDone | .serviceStart _ | .vaultReplayEnd | .moduleReady _
  | .persistentErasureDone | .conventionalReset | .flr | .cxlReset | .hotResetOrLinkDown _ | .linkTrained _ _ _ _ | .busMasterEnableClear
  | .busMasterEnableSet | .d3hotEntry | .d0Entry | .cacheEnableChange _ | .ideIntegrityFail _ | .ideKmRequest _ _ _ | .doeDiscovery _ | .cdatTableAccess _
  | .spdmGetVersion | .spdmGetCapabilities _ | .spdmNegotiateAlgorithms _ | .spdmGetDigests | .spdmGetCertificate _ _ _ | .spdmKeyExchange _ _
  | .spdmFinish _ _ | .spdmHeartbeat _ | .spdmKeyUpdate _ | .spdmEndSession _ | .smbusRead _ | .smbusWrite _ _ | .swathStart | .closePhase _ _
  | .checkpointForm | .checkpointSigned _ _ | .cosignTimeout _ | .keyFillDone _ _ | .nonceBlockRequest _ | .maskReseed | .vaultRekeyLeaf | .vaultGcStep _
  | .vaultPatrolPage _ _ | .keyCacheRebuildBlock | .auditReserveCompaction _ | .codeFlashStagingSector _ _ _ | .rngRebalanceTimer | .backupChunk
  | .nandReadDone _ _ _ _ | .nandEraseDone _ _ | .evtRateWindowEnd | .privilegedRecordClose | .tileBufferCollect | .recProgramDone | .recCursorOldest
  | .recCursorNewest | .recCursorSeek | .recCursorNext | .recCursorPrevious | .recWindowLoaded | .audRingHead _ | .rngStartupEnd _ _ | .rngReseedComplete
  | .drbgScheduledReseed | .sigSelftestEnd _ | .powerFailFlushDone | .railsOff _ | .overvoltageTimeout | .reverseInput | .currentLimitHold
  | .keeperSecondsTick _ _ | .cardInserted | .cardRemoved | .cardShort | .cardAtrTimeout | .cardResponse _ _ | .btnAccept | .btnReject
  | .presentationButtonTimeout _ | .presentationAbandon _ | .ceremonyWindowEnd | .rdrPing _ _ | .rdrAntennaFault _ | .rdrFrameReceived _
  | .stileFieldEntry | .stileFieldLoss | .stileReqa | .stileWupa | .stileAnticollision _ | .stileRats | .stileHlta | .stileRBlock _ _ | .stileWtxResponse
  | .stileDeselect | .stileApduSelect _ _ | .stileReadStatement _ _ | .stileGetStatus _ | .stileReadLog _ _ | .stileWtxTimer | .stileWireWrite _ _ _
  | .stileStatementRefresh | .sdcInserted _ | .sdcRemoved | .sdcRetuneTimer _ | .sdcCommandDone _ _ | .sdcBusyEnd _ | .doeUnservedRequest _ _
  | .spdmUnsupportedRequest _ | .correctableLinkError _ | .cardAtr _ _ _ _ _ | .cardProtocolTimeout | .rdrResponseTimeout | .stileUnlistedFrame _
  | .conditionedBlockReady => true
  | .spdmChallenge _ nonce | .spdmGetMeasurements _ _ nonce => decide (nonce.length = 32)
  | .registerWrite m _ _ width _ | .registerRead m _ _ width => masterWf m && decide (width = 4 ∨ width = 8)
  | .class2Ageing slot | .inputReadDone slot _ _ | .outputConfirmed slot _ | .mirrorTimeout slot => decide (slot < 4096)
  | .ringLineReadDone ch index _ _ _ => decide (ch < 64) && decide (index < 65536)
  | .snoopInv ch _ | .snoopData ch _ | .pushWrite ch _ _ | .pushAssemblyTimeout ch | .chnSqDoorbell ch _ | .chnCqHead ch _ | .jobAdmission ch _
  | .opSkip ch => decide (ch < 64)
  | .chnEnable m ch | .chnDisableDrain m ch | .chnDisableWithdraw m ch => masterWf m && decide (ch < 64)
  | .engineStepEnd slot i kind _ => decide (slot < 4096) && decide (i < 8) && decide (kind < 6)
  | .mldsaCutoff slot i | .opChain slot i | .opNop slot i | .opPkValidate slot i | .opPkEcdsaSign slot i | .opPkEcdsaVerify slot i | .opPkEddsaSign slot i
  | .opPkEddsaVerify slot i | .opPkEcdh slot i | .opPkRsaSign slot i | .opPkRsaVerify slot i | .opPkRsaEncrypt slot i | .opPkRsaDecrypt slot i
  | .opPkMldsaSign slot i | .opPkMldsaVerify slot i | .opPkMlkemEncaps slot i | .opPkMlkemDecaps slot i | .opPkSlhdsaVerify slot i
  | .opSymCbcEncrypt slot i | .opSymCbcDecrypt slot i | .opSymCtrEncrypt slot i | .opSymCtrDecrypt slot i | .opSymGcmEncrypt slot i
  | .opSymGcmDecrypt slot i | .opSymCmac slot i | .opSymCmacVerify slot i | .opSymXtsEncrypt slot i | .opSymXtsDecrypt slot i | .opSymKeyWrap slot i
  | .opSymKeyUnwrap slot i | .opPayPinTranslate slot i | .opPayPinTranslateAesDukpt slot i | .opPayPinTranslateTdesDukpt slot i | .opPayPinVerify slot i
  | .opPayMacGenerate slot i | .opPayMacVerify slot i | .opPayCvvGenerate slot i | .opPayCvvVerify slot i | .opPayArqcVerify slot i
  | .opPayArpcGenerate slot i | .opPayFf1Encrypt slot i | .opPayFf1Decrypt slot i | .opPayAuthRef slot i | .opVltTokenise slot i | .opVltDetokenise slot i
  | .opVltQuery slot i | .opVltLookup slot i | .opVltStatusSet slot i | .opVltDomainSet slot i | .opVltDomainInfo slot i | .opKeyGenerate slot i
  | .opKeyImportX9143 slot i | .opKeyImportRkl slot i | .opKeyImportPublic slot i | .opKeyInfo slot i | .opKeySetStatus slot i | .opKeyRevoke slot i
  | .opKeyDestroy slot i | .opKeyReplicate slot i | .opKeyPin slot i | .opKeyUnpin slot i | .opKeyRootLoad slot i | .opKeyTenantSigner slot i
  | .opSesAppEnrol slot i | .opSesOpen slot i | .opSesClose slot i | .opRngGenerate slot i | .opRngRaw slot i _ | .opAudCheckpoint slot i
  | .opAudSegment slot i | .opTenLoad slot i | .opTenUnload slot i | .opTenInfo slot i | .opFlsStageWrite slot i | .opFlsStageRead slot i
  | .opFlsStageVerify slot i | .opFlsActivate slot i | .opLcRequest slot i | .opLcStatus slot i | .opHdgLogRead slot i | .opSelftest slot i _ _ _
  | .opSdcRestore slot i | .opSdcArchive slot i | .opSdcInfo slot i | .opFoldEnrol slot i | .opFoldRemove slot i | .opFoldInfo slot i
  | .rngWaitExpiry slot i => decide (slot < 4096) && decide (i < 8)
  | .abortWipeDone engine => decide (engine < 64)
  | .cipherWipeDone engine => decide (engine < 256)
  | .tenantProgramInvoke slot i core => decide (slot < 4096) && decide (i < 8) && decide (core < 16)
  | .maintStart m activity => optMasterWf m && decide (activity < 10)
  | .maintStop m activity => masterWf m && decide (activity < 10)
  | .dramPatrolRow channel _ => decide (channel < 4)
  | .rngRebalanceSource source _ | .rngTrimBlock source _ | .rngEstimateBlock source _ _ | .rngSourceFail source _ => decide (source < 16)
  | .foldResyncItem member => decide (member < 8)
  | .nandProgramDone _ _ page _ => decide (page < 65536)
  | .audRingEnable m _ | .audRingDisable m | .audPolicyToStop m | .audPolicyToGap m | .rngRestart m | .rngMinSourcesWrite m _ | .keyBayFlush m _
  | .stlKeyHandleWrite m _ | .pwrDomainClear m _ _ | .cardRetry m | .ceremonyCancel m => masterWf m
  | .sigSelftestStart m engine => masterWf m && decide (engine < 64)
  | .amMovS x _ _ | .amAddS x _ _ | .amSubS x _ _ | .amNopS x | .amIncS x _ | .amDecS x _ | .amNotS x _ | .amNegS x _ | .amShl1S x _ | .amShr1S x _
  | .amClrS x _ | .amAdd x _ _ _ | .amSub x _ _ _ | .amAnd x _ _ _ | .amOr x _ _ _ | .amXor x _ _ _ | .amAndn x _ _ _ | .amShl x _ _ _ | .amShr x _ _ _
  | .amSar x _ _ _ | .amRol x _ _ _ | .amRor x _ _ _ | .amMin x _ _ _ | .amMax x _ _ _ | .amMinu x _ _ _ | .amMaxu x _ _ _ | .amClz x _ _ | .amPopc x _ _
  | .amBswap x _ _ | .amMul x _ _ _ | .amMulh x _ _ _ | .amMulhu x _ _ _ | .amMac x _ _ _ | .amAddi x _ _ _ | .amAndi x _ _ _ | .amOri x _ _ _
  | .amXori x _ _ _ | .amShli x _ _ _ | .amShri x _ _ _ | .amSari x _ _ _ | .amRori x _ _ _ | .amLi x _ _ | .amAddi3 x _ _ _ | .amAndi3 x _ _ _
  | .amOri3 x _ _ _ | .amXori3 x _ _ _ | .amShli3 x _ _ _ | .amShri3 x _ _ _ | .amSari3 x _ _ _ | .amRori3 x _ _ _ | .amLi3 x _ _ | .amLih x _ _
  | .amCmpeq x _ _ _ | .amCmpne x _ _ _ | .amCmplt x _ _ _ | .amCmpge x _ _ _ | .amCmpltu x _ _ _ | .amCmpgeu x _ _ _ | .amCmpeqi x _ _ _
  | .amCmpnei x _ _ _ | .amCmplti x _ _ _ | .amCmpgei x _ _ _ | .amCmpltui x _ _ _ | .amCmpgeui x _ _ _ | .amPand x _ _ _ | .amPor x _ _ _
  | .amPxor x _ _ _ | .amPandn x _ _ _ | .amMfs x _ _ | .amMts x _ _ | .amBr x _ | .amCallr x _ | .amLoop x _ _ _ | .amGate x _ _ _ | .amRetc x
  | .amCcopy x _ _ | .amCtrim x _ _ _ | .amCread x _ _ _ | .amCwrap x _ _ _ | .amCunwrap x _ _ _ | .amCvoid x _ | .amCgrant x _ _ _ | .amCclip x _ _ _ _
  | .amWait x _ | .amFenceS x | .amYield x | .amDone x _ _ | .amBreak x _ | .amNop x | .sysStepBind x _ _ | .sysStepEnd x _ _ | .sysWindrowPost x _ _
  | .sysLedgerRead x _ _ | .sysKeyFetch x _ _ | .sysKeySeal x _ _ | .sysKeyPin x _ _ | .sysSessionCheck x _ _ | .sysDomainWake x _ _
  | .sysDomainGate x _ _ | .sysPressureRead x _ _ | .sysEvtRaise x _ _ | .sysEvtRoute x _ _ | .sysGateWrite x _ _ | .sysGateSync x _ _
  | .sysCoreStart x _ _ | .sysCoreStop x _ _ | .sysPmWrite x _ _ | .sysHalt x _ _ | .sysTraceOn x _ _ | .sysTraceOff x _ _ | .sysBreakSet x _ _ => issueWf x
  | .amLdB x _ _ _ off | .amLdH x _ _ _ off | .amLdW x _ _ _ off | .amLdD x _ _ _ off | .amLdsB x _ _ _ off | .amLdsH x _ _ _ off | .amLdsW x _ _ _ off
  | .amStB x _ _ _ off | .amStH x _ _ _ off | .amStW x _ _ _ off | .amStD x _ _ _ off | .amLdxD x _ _ _ _ off | .amLdc x _ _ _ off | .amStc x _ _ _ off
  | .amLdcx x _ _ _ _ off | .amStcx x _ _ _ off => issueWf x && decide (-(2 : Int) ^ 24 ≤ off ∧ off < (2 : Int) ^ 24)
  | .amB x disp | .amCall x disp => issueWf x && decide (-(2 : Int) ^ 29 ≤ disp ∧ disp < (2 : Int) ^ 29)
  | .flsRead src _ | .flsProgram src | .flsErase src | .flsSuspend src | .flsResume src => flsSourceWf src
  | .flsProgramEnd partition | .flsEraseEnd partition _ _ | .flsSuspendDone partition => decide (partition < 2)
  | .splitLoadLanding core _ | .interruptEntry core | .stepBudgetExpiry core _ | .bufferedStoreDone core => decide (core < 17)
  | .lateStoreError core cause => decide (core < 17) && decide (1 ≤ cause ∧ cause ≤ 3)
  | .unitEnable m page | .unitDisableDrain m page | .unitDisableWithdraw m page | .unitIsolate m page | .unitUnisolate m page | .unitErrCapt3Read m page => masterWf m && decide (page < 16384)
  | .unitProfileWrite m plane _ => masterWf m && decide (plane < 6)
  | .unitEvtPendClear page _ => decide (page < 16384)
  | .domainIdleGate d | .domainWakeDone d | .domainShortLatch d | .thermalShutdownRecover d => decide (d < 64)
  | .powerFailStart mv _ | .overvoltageClamp mv => decide (mv < 65536)
  | .pressureRise mv ma | .pressureFall mv ma => decide (mv < 65536) && decide (ma < 65536)
  | .holdupTest uf mv => decide (uf < 65536) && decide (mv < 65536)
  | .thermalSample temps _ => decide (temps.length = 48)
  | .throttleEnd sensor => decide (sensor < 48)
  | .thermalProfileExit plane => decide (plane < 6)
  | .hedgeSensorTrip cause _ _ => decide (1 ≤ cause ∧ cause ≤ 7)
  | .stileSelectFrame uid _ => decide (uid.length = 4)
  | .foldPortEnable m port | .foldPortDisable m port => masterWf m && decide (port < 2)
  | .foldBlockLock port | .foldBlockLockLost port | .foldHandshakeTimeout port | .foldRefusedRetry port | .foldIdleTimeout port | .foldHello port _
  | .foldFinish port _ | .foldClose port | .foldFrameDiscarded port _ _ => decide (port < 2)
  | .foldEcho f | .foldEchoReply f _ | .foldRoute f | .foldMirror f | .foldMirrorAck f | .foldKeyRepl f | .foldKeyAck f | .foldDomainRepl f
  | .foldDomainAck f | .foldCosignReq f | .foldCosignResp f | .foldResyncState f => frameWf f

end Sys2Proof
end

