-- ==== Sys2Proof/Tests/Slice0.lean ====
section
/-!
SUPPORT. Sys2Proof/Tests/Slice0.lean: tests. An ill-formed command for each check of WellFormed.lean, which the check refuses, with one that it admits; and tests of
single steps on small states, whose expected results are worked out by hand from the rules they name.
-/
namespace Sys2Proof.Tests
open Sys2Proof Sys2Proof.Machine

/-! ### Well-formedness: each check refuses an ill-formed command -/

/-- An instruction issued on core 0. -/
def core0 : Issue := { core := 0 }

/-- R31, R462: the cores that are bus masters are 0 to 15, and width 4 or 8. -/
theorem test_wf_masters : (Instr.registerWrite (.core 16) false 0 4 0).wellFormed = false ∧ (Instr.registerRead (.tenant 16 1) false 0 4).wellFormed = false ∧
    (Instr.registerWrite (.core 15) false 0 8 0).wellFormed = true ∧ (Instr.registerRead .host false 0 2).wellFormed = false := by decide

/-- R77, R80: ten activities, started by a master or by the scheduler. -/
theorem test_wf_activities : (Instr.maintStart none 10).wellFormed = false ∧ (Instr.maintStart (some (.core 16)) 0).wellFormed = false ∧
    (Instr.maintStop .host 10).wellFormed = false ∧ (Instr.maintStart none 9).wellFormed = true := by decide

/-- R520, R525: 17 cores, and instructions of one to three syllables. -/
theorem test_wf_issue : (Instr.amNop { core := 17 }).wellFormed = false ∧ (Instr.amNop { core := 16, len := 0 }).wellFormed = false ∧
    (Instr.amNop { core := 16, len := 4 }).wellFormed = false ∧ (Instr.amNop { core := 16 }).wellFormed = true := by decide

/-- R535, R542: offsets and displacements of 25 bits. -/
theorem test_wf_offsets : (Instr.amLdD core0 1 2 1 16777216).wellFormed = false ∧ (Instr.amLdD core0 1 2 1 (-16777216)).wellFormed = true ∧
    (Instr.amB core0 (-536870913)).wellFormed = false ∧ (Instr.amCall core0 536870911).wellFormed = true := by decide

/-- R62, R216: 4,096 job slots, eight steps, six engine kinds. -/
theorem test_wf_job_slots : (Instr.class2Ageing 4096).wellFormed = false ∧ (Instr.opNop 4096 0).wellFormed = false ∧ (Instr.opNop 0 8).wellFormed = false ∧
    (Instr.opNop 4095 7).wellFormed = true ∧ (Instr.engineStepEnd 0 0 6 .done).wellFormed = false ∧ (Instr.engineStepEnd 0 8 0 .done).wellFormed = false := by decide

/-- R142, R190: 64 channels, ring positions of at most 16 bits. -/
theorem test_wf_channels : (Instr.chnEnable .host 64).wellFormed = false ∧ (Instr.jobAdmission 64 0).wellFormed = false ∧
    (Instr.ringLineReadDone 0 65536 [] .good .window).wellFormed = false ∧ (Instr.ringLineReadDone 63 65535 [] .good .window).wellFormed = true := by decide

/-- R326, R374: 64 PK engines and 256 cipher engines; R553: a tenant program runs on cores 0 to 15. -/
theorem test_wf_engines : (Instr.abortWipeDone 64).wellFormed = false ∧ (Instr.cipherWipeDone 256).wellFormed = false ∧ (Instr.cipherWipeDone 255).wellFormed = true ∧
    (Instr.sigSelftestStart .host 64).wellFormed = false ∧ (Instr.tenantProgramInvoke 0 0 16).wellFormed = false := by decide

/-- R499: 16 noise sources; R443: four DRAM channels; R685: eight members; R412: pages of a block. -/
theorem test_wf_units : (Instr.rngTrimBlock 16 0).wellFormed = false ∧ (Instr.rngSourceFail 15 true).wellFormed = true ∧ (Instr.dramPatrolRow 4 true).wellFormed = false ∧
    (Instr.foldResyncItem 8).wellFormed = false ∧ (Instr.nandProgramDone (.journal 0) 0 65536 true).wellFormed = false := by decide

/-- R605, R607: two partitions, unit addresses of 32 bits, a core that issues. -/
theorem test_wf_flash : (Instr.flsProgramEnd 2).wellFormed = false ∧ (Instr.flsRead (.unit 4294967296 []) true).wellFormed = false ∧
    (Instr.flsErase (.sys { core := 17 } 0 0)).wellFormed = false ∧ (Instr.flsErase (.unit 4294967295 [])).wellFormed = true := by decide

/-- R584: the cause of a late store error is 1 to 3. -/
theorem test_wf_late_causes : (Instr.lateStoreError 0 0).wellFormed = false ∧ (Instr.lateStoreError 0 4).wellFormed = false ∧ (Instr.lateStoreError 17 1).wellFormed = false ∧
    (Instr.lateStoreError 16 3).wellFormed = true ∧ (Instr.interruptEntry 17).wellFormed = false := by decide

/-- R4, R73: pages of 14 bits, six planes. -/
theorem test_wf_pages : (Instr.unitEnable .host 16384).wellFormed = false ∧ (Instr.unitEvtPendClear 16384 0).wellFormed = false ∧
    (Instr.unitProfileWrite .host 6 0).wellFormed = false ∧ (Instr.thermalProfileExit 6).wellFormed = false ∧ (Instr.unitProfileWrite .host 5 0).wellFormed = true := by decide

/-- R739, R749, R752: 64 domains, 48 sensors, voltages and currents of 16 bits. -/
theorem test_wf_power : (Instr.domainIdleGate 64).wellFormed = false ∧ (Instr.throttleEnd 48).wellFormed = false ∧ (Instr.thermalSample [] []).wellFormed = false ∧
    (Instr.powerFailStart 65536 false).wellFormed = false ∧ (Instr.pressureRise 0 65536).wellFormed = false ∧ (Instr.holdupTest 65536 0).wellFormed = false := by decide

/-- R707: the causes a sensor trips with; R660: a UID of four bytes; R123: nonces of 32 bytes. -/
theorem test_wf_boundary : (Instr.hedgeSensorTrip 0 0 0).wellFormed = false ∧ (Instr.hedgeSensorTrip 8 0 0).wellFormed = false ∧
    (Instr.stileSelectFrame [1, 2, 3] 0).wellFormed = false ∧ (Instr.spdmChallenge 0 []).wellFormed = false ∧
    (Instr.spdmChallenge 0 (List.replicate 32 0)).wellFormed = true := by decide

/-- R685, R690: two ports; frames between members 0 to 7 or to the neighbour, with at most 7 hops. -/
theorem test_wf_fold : (Instr.foldClose 2).wellFormed = false ∧ (Instr.foldEcho { port := 2, src := 0 }).wellFormed = false ∧
    (Instr.foldEcho { port := 0, src := 8 }).wellFormed = false ∧ (Instr.foldEcho { port := 0, src := 0, dst := 8 }).wellFormed = false ∧
    (Instr.foldEcho { port := 0, src := 0, hops := 8 }).wellFormed = false ∧ (Instr.foldEcho { port := 1, src := 7 }).wellFormed = true := by decide

/-! ### Instructions of the cores -/

/-- The state after a command that answers one, and the state itself otherwise. -/
def after (c : Instr) (s : State) : State := match exec c s with | .next t => t | _ => s

/-- Core 0 in firmware mode: c0 is a program capability, c1 a data capability of all data memory; registers as given. -/
def oneCore (r : CoreRegs) : State :=
  { cores := [(0, { mode := .firmware, regs := { r with c := [(0, mkCap 0 0x20000 pEX 0 true false), (1, mkCap 0 0x40000 (pLD + pST + pLDC + pSTC) 0 false false)] ++ r.c } })] }

/-- g1 and g2 hold two values, g8 and g9 the same two. -/
def two (a b : BitVec 64) : State := oneCore { g := [(1, a), (2, b), (8, a), (9, b)] }

/-- The delayed writes that a core's instruction leaves: destination, value and latency. -/
def writes (c : Instr) (s : State) : List (Nat × Nat × Nat) := (coreAt (after c s) 0).regs.pending.map (fun w => (w.dest, w.value.toNat, w.left))

/-- R534, R539: an addition wraps at 2^64, and its result has latency 1. -/
theorem test_add_wraps : writes (.amAdd core0 3 1 2) (two 0xFFFFFFFFFFFFFFFF 2) = [(3, 1, 1)] := by decide

/-- R534: rs1 − rs2, in that order. -/
theorem test_sub_order : writes (.amSub core0 3 1 2) (two 5 7) = [(3, 0xFFFFFFFFFFFFFFFE, 1)] := by decide

/-- R533: the short forms name g8 to g15. -/
theorem test_add_s_names_g8 : writes (.amAddS core0 0 1) (two 5 7) = [(8, 12, 1)] := by decide

theorem test_neg_s : writes (.amNegS core0 0) (two 1 0) = [(8, 0xFFFFFFFFFFFFFFFF, 1)] := by decide

/-- R534: ANDN clears the bits of rs2. -/
theorem test_andn : writes (.amAndn core0 3 1 2) (two 0xF0F0 0xFF00) = [(3, 0xF0, 1)] := by decide

/-- R534: a shift takes its count modulo 64, and SAR keeps the sign. -/
theorem test_sar_sign : writes (.amSar core0 3 1 2) (two 0x8000000000000000 65) = [(3, 0xC000000000000000, 1)] := by decide
theorem test_shl_count : writes (.amShl core0 3 1 2) (two 1 64) = [(3, 1, 1)] := by decide
theorem test_rol : writes (.amRol core0 3 1 2) (two 0x8000000000000001 4) = [(3, 0x18, 1)] := by decide
theorem test_ror : writes (.amRor core0 3 1 2) (two 0x18 4) = [(3, 0x8000000000000001, 1)] := by decide

/-- R534: MIN is signed and MINU is not. -/
theorem test_min_signed : writes (.amMin core0 3 1 2) (two 0xFFFFFFFFFFFFFFFF 1) = [(3, 0xFFFFFFFFFFFFFFFF, 1)] := by decide
theorem test_minu_unsigned : writes (.amMinu core0 3 1 2) (two 0xFFFFFFFFFFFFFFFF 1) = [(3, 1, 1)] := by decide

/-- R534: leading zeros of 0 and of 1, the count of ones, and byte reversal. -/
theorem test_clz : writes (.amClz core0 3 1) (two 0 0) = [(3, 64, 1)] ∧ writes (.amClz core0 3 1) (two 1 0) = [(3, 63, 1)] := by decide
theorem test_popc : writes (.amPopc core0 3 1) (two 0x8000000000000101 0) = [(3, 3, 1)] := by decide
theorem test_bswap : writes (.amBswap core0 3 1) (two 0x0102030405060708 0) = [(3, 0x0807060504030201, 1)] := by decide

/-- R534, R539: products of the most extreme factors, with latency 3. -/
theorem test_mulh : writes (.amMulh core0 3 1 2) (two 0xFFFFFFFFFFFFFFFF 0xFFFFFFFFFFFFFFFF) = [(3, 0, 3)] := by decide
theorem test_mulhu : writes (.amMulhu core0 3 1 2) (two 0xFFFFFFFFFFFFFFFF 0xFFFFFFFFFFFFFFFF) = [(3, 0xFFFFFFFFFFFFFFFE, 3)] := by decide

/-- R534: arithmetic takes its immediate with its sign, logic without. -/
theorem test_addi3_sign : writes (.amAddi3 core0 3 1 0xFFFFF) (two 5 0) = [(3, 4, 1)] := by decide
theorem test_ori3_zero : writes (.amOri3 core0 3 1 0xFFFFF) (two 0 0) = [(3, 0xFFFFF, 1)] := by decide
theorem test_lih : writes (.amLih core0 1 0x1FFFFFF) (two 1 0) = [(1, 0x3FFFFFF, 1)] := by decide

/-- R534, R539: a predicate has latency 2; CMPLT compares signed, CMPLTU does not. -/
theorem test_cmplt : writes (.amCmplt core0 1 1 2) (two 0xFFFFFFFFFFFFFFFF 1) = [(41, 1, 2)] := by decide
theorem test_cmpltu : writes (.amCmpltu core0 1 1 2) (two 0xFFFFFFFFFFFFFFFF 1) = [(41, 0, 2)] := by decide

/-- R523: g0 reads 0 and discards what is written to it. -/
theorem test_g0 : gRead (coreAt (after (.amNop core0) (after (.amLi core0 0 5) (two 0 0))) 0).regs 0 = 0 := by decide

/-- R538, R539: the next instruction reads the old value of a result of latency 1, the one after it the new. -/
theorem test_latency : writes (.amAdd core0 3 1 0) (after (.amLi core0 1 9) (two 5 0)) = [(3, 5, 1)] ∧
    writes (.amAdd core0 3 1 0) (after (.amNop core0) (after (.amLi core0 1 9) (two 5 0))) = [(3, 9, 1)] := by decide

/-- R535, R536: memory is little-endian, and LDS extends the sign. -/
theorem test_store_little_endian : memRead (after (.amStH core0 1 0 1 0x100) (two 0x1234 0)) 0 0x100 2 = [0x34, 0x12] := by decide
theorem test_lds_sign : writes (.amLdsB core0 3 0 1 0x100) (after (.amStB core0 1 0 1 0x100) (two 0x80 0)) = [(3, 0xFFFFFFFFFFFFFF80, 4)] := by decide

/-- R566, R577: an access beyond the capability's bounds takes an exception; with no usable entry and no refuge the core halts (R579, R586). -/
theorem test_bounds_exception : (coreAt (after (.amLdD core0 3 0 1 0x40000) (two 0 0)) 0).halted = true := by decide +kernel

/-- R542: a branch leaves its target pending for the delay slot, and the instruction in the slot goes to it. -/
theorem test_branch_delay : let s := after (.amB core0 0x40) (two 0 0)
    (coreAt s 0).regs.pc = 2 ∧ (coreAt s 0).regs.delay = true ∧ (coreAt (after (.amNop core0) s) 0).regs.pc = 0x40 := by decide

/-- R568: CCLIP takes base and length from its operands and keeps the permissions. -/
theorem test_cclip : ((coreAt (after (.amCclip core0 3 1 1 2) (two 0x100 0x10)) 0).regs.pending.map (fun w =>
    let c : Cap := { bits := w.value, tag := w.tag }
    (w.dest, capBase c, capLen c, capPerms c, c.tag))) = [(35, 0x100, 0x10, pLD + pST + pLDC + pSTC, true)] := by decide

/-- R524: special register 8 reads the core's number, and 10 the fabric clock of the issue. -/
theorem test_mfs : writes (.amMfs { core0 with clock := 77 } 3 10) (two 0 0) = [(3, 77, 1)] ∧ writes (.amMfs core0 3 8) (two 0 0) = [(3, 0, 1)] := by decide

/-! ### The other families -/

/-- R37: the swath counter moves on by one where the close phase ends, and the queue's front command is taken (log entry 1). -/
theorem test_swath_start : (after .swathStart { power := { good := true }, sched := { swath := 41, phase := .close } }).sched.swath = 42 := by decide
theorem test_step_takes_the_front : step { State.reset with pending := [.swathStart, .perstRelease true] } = exec .swathStart { State.reset with pending := [.perstRelease true] } := rfl

/-- R163, R180: a producer index more than the ring's size ahead halts the channel with result 0x0101. -/
theorem test_doorbell_halts : let s := after (.chnSqDoorbell 3 65) { chans := [(3, { state := .running })], link := { mode := 1, bme := true } }
    (chanAt s 3).state = .halted ∧ (chanAt s 3).haltResult = 0x0101 := by decide

/-- R195: a consumer index up to the producer's is taken, and one beyond raises alert bit 3. -/
theorem test_cq_head : let s : State := { chans := [(3, { state := .running, cqTail := 5 })] }
    (chanAt (after (.chnCqHead 3 5) s) 3).cqHead = 5 ∧ (chanAt (after (.chnCqHead 3 6) s) 3).alert = 8 := by decide

/-- R764: a write of 1 clears a pending bit in a group and below it, and no other bit. -/
theorem test_pending_clear : let s : State := { units := [(mkPage 1 0 0 0, { pend := 3 }), (mkPage 1 1 1 1, { pend := 3 }), (mkPage 2 1 1 1, { pend := 3 })] }
    let t := after (.unitEvtPendClear (mkPage 1 0 0 0) 1) s
    (unitAt t (mkPage 1 0 0 0)).pend = 2 ∧ (unitAt t (mkPage 1 1 1 1)).pend = 2 ∧ (unitAt t (mkPage 2 1 1 1)).pend = 3 := by decide +kernel

/-- R751: 120 °C shuts the sensor's domains down, 119.5 °C throttles alone (R750). -/
theorem test_thermal : (sensorAt (sampleSensor 0 240 false {}) 0).shut = true ∧ (sensorAt (sampleSensor 0 239 false {}) 0).shut = false ∧
    (sensorAt (sampleSensor 0 239 false {}) 0).throttled = true := by decide +kernel

/-- R298: a clear ISO format 0 block of PIN 1234 decodes, and one with a wrong fill digit does not. -/
theorem test_pin_decode : pinDecode 0 [0x04, 0x12, 0x34, 0xFF, 0xFF, 0xFF, 0xFF, 0xFF] = some [1, 2, 3, 4] ∧
    pinDecode 0 [0x04, 0x12, 0x34, 0xFF, 0xFF, 0xFF, 0xFF, 0xFE] = none := by decide

/-- R342: the base point of P-256 is a point of its curve, and its neighbour is not (FIPS 186-5). -/
theorem test_point : pointError 0x0101 (0x04 :: beBytes 32 0x6B17D1F2E12C4247F8BCE6E563A440F277037D812DEB33A0F4A13945D898C296 ++
      beBytes 32 0x4FE342E2FE1A7F9B8EE7EB4A7C0F9E162BCE33576B315ECECBB6406837BF51F5) = none ∧
    pointError 0x0101 (0x04 :: beBytes 32 0x6B17D1F2E12C4247F8BCE6E563A440F277037D812DEB33A0F4A13945D898C296 ++
      beBytes 32 0x4FE342E2FE1A7F9B8EE7EB4A7C0F9E162BCE33576B315ECECBB6406837BF51F6) ≠ none := by decide +kernel

/-- R608, R609: a word is programmed once; the second PROGRAM reports FLS_OVERPROGRAM (0x01). -/
theorem test_overprogram : (after (.flsProgram (.unit 0 [1])) { flash := { words := [(0, some [1])] } }).flash.lastStatus = 0x01 := by decide

/-- R500: more than 528 ones of 1,024 lower the trim by one, fewer than 496 raise it. -/
theorem test_trim : (sourceAt (after (.rngTrimBlock 2 529) {}) 2).trim = 0xFF ∧ (sourceAt (after (.rngTrimBlock 2 495) {}) 2).trim = 1 ∧
    (sourceAt (after (.rngTrimBlock 2 528) {}) 2).trim = 0 := by decide

/-- R661: ATQA is 0x0004, low byte first, and a full SELECT is answered with SAK 0x20. -/
theorem test_stile_select : (after .stileReqa { stile := { field := true } }).out = [.stile [0x04, 0x00]] ∧
    (after (.stileSelectFrame [8, 1, 2, 3] 8) { stile := { field := true, tag := .ready, uid := [8, 1, 2, 3] } }).out = [.stile [0x20]] := by decide

/-- R632: insertion activates the card in class C, the first allowed. -/
theorem test_card_inserted : (after .cardInserted {}).contact.cls = 3 ∧ (after .cardInserted {}).contact.active = true := by decide

/-- R711, R707: a sensor trip of a powered module in OPERATE enters TAMPERED with its cause and erases the key. -/
theorem test_tamper : let k := (after (.hedgeSensorTrip 2 0 0) { power := { good := true }, keeper := { record := { state := .operate } } }).keeper
    k.record.state = .tampered ∧ k.record.prev = .operate ∧ k.record.cause = 2 ∧ k.key = false := by decide +kernel

/-- R692: a frame for a member behind the other port goes out there with one hop less. -/
theorem test_forward : (after (.foldEcho { port := 0, src := 1, dst := 2, hops := 7, seq := 3, body := [9] })
      { fold := { ports := [(0, { state := .up }), (1, { state := .up, reach := 4 })] } }).out
    = [.fold 1 0x88B6 [1, 0x10, 1, 2, 6, 0, 0, 0, 3, 0, 0, 0, 0, 0, 0, 0, 9]] := by decide

/-- R457, R458: an audit record is 48 bytes and starts with its kind-independent head. -/
theorem test_audit_record : (encodeRec { seq := 1, swath := 2, body := .gap 3 4 5 }).length = 48 := by decide

/-- R18, R23: a row read where it was stored is good; with its first byte inverted it is corrected. -/
theorem test_row_code : readRow (storeRow (List.replicate 32 7) 5 (List.replicate 4 0)) 5 (List.replicate 4 0) = .good (List.replicate 32 7) := by decide +kernel

/-! ### Encodings of instructions, written out from the formats of R532 to R534 -/

/-- R527, R533: the padding NOP.S is the syllable 0x00C0; ADD.S g9, g10; INC.S g11. -/
theorem test_code_short : decodePayload 1 0xC0 = some ("NOP_S", []) ∧ decodePayload 1 0b01001010 = some ("ADD_S", [1, 2]) ∧
    decodePayload 1 0b11001011 = some ("INC_S", [3]) ∧ decodePayload 1 0b11000001 = none := by decide

/-- R532, R534: SUB g3, g4, g5; SHLI g1, g2, 31; LI g7, 0x200; CLZ with rs2 not 0; a reserved op. -/
theorem test_code_registers : decodePayload 2 0b0000001_00011_00100_00101 = some ("SUB", [3, 4, 5]) ∧ decodePayload 2 0b0100100_00001_00010_11111 = some ("SHLI", [1, 2, 31]) ∧
    decodePayload 2 0b0101000_00111_1000000000 = some ("LI", [7, 512]) ∧ decodePayload 2 0b0001111_00001_00010_00001 = none ∧ decodePayload 2 0b0010010_00000_00000_00000 = none := by decide

/-- R532, R534: CMPLT p3, g1, g2; PANDN p1, p2, p3; MFS g4 from code 10; MTS to code 2 from g9. -/
theorem test_code_predicates : decodePayload 2 0b0110010_011_00_00001_00010 = some ("CMPLT", [3, 1, 2]) ∧ decodePayload 2 0b0111011_001_010_011_000000 = some ("PANDN", [1, 2, 3]) ∧
    decodePayload 2 0b0111100_00100_00000_01010 = some ("MFS", [4, 10]) ∧ decodePayload 2 0b0111101_00010_01001_00000 = some ("MTS", [2, 9]) := by decide

/-- R532, R534: LDS.H g1, [c2, g3 + 2 × 3]; ST.D g4, [c1, g5 + 8]; LDX.D g1, [c2, g3] landing on p6; LDCX c3, [c2, g4] landing on p5. -/
theorem test_code_memory : decodePayload 2 0b1000101_00001_00011_010_11 = some ("LDS_H", [1, 3, 2, 6]) ∧ decodePayload 2 0b1001011_00100_00101_001_01 = some ("ST_D", [4, 5, 1, 8]) ∧
    decodePayload 2 0b1001100_00001_00011_010_10 = some ("LDX_D", [1, 3, 2, 6, 0]) ∧ decodePayload 2 0b1010000_011_01_00100_010_00 = some ("LDCX", [3, 4, 2, 5, 0]) := by decide

/-- R532, R534: B −2; LOOP 1, g12, 8; GATE c3, c4, c5; CREAD g6, c2, field 3; SYS c3, GATE_SYNC, g1; WAIT p4; DONE g0, g13; BREAK 7. -/
theorem test_code_control : decodePayload 2 0b1011000_111111111111110 = some ("B", [-2]) ∧ decodePayload 2 0b1011100_1_01100_000001000 = some ("LOOP", [1, 12, 8]) ∧
    decodePayload 2 0b1100000_011_100_101_00_0000 = some ("GATE", [3, 4, 5]) ∧ decodePayload 2 0b1100100_00110_010_11_00000 = some ("CREAD", [6, 2, 3]) ∧
    decodePayload 2 0b1110000_011_1000001_00001 = some ("SYS_GATE_SYNC", [3, 1]) ∧ decodePayload 2 0b1111000_100_000000000000 = some ("WAIT", [4]) ∧
    decodePayload 2 0b1111011_00000_00000_01101 = some ("DONE", [0, 13]) ∧ decodePayload 2 0b1111100_0000000_00000111 = some ("BREAK", [7]) := by decide

/-- R532, R534: three syllables. SHLI3 with bits above 63; CMPEQI p1, g2, 5; LD.B g1, [c2, g3 − 1]; LDC c1, [c2, g3 + 16]; LDX.D with pl 0; CCLIP c1, c2, g3, g4. -/
theorem test_code_wide : decodePayload 3 0b000100_00001_00010_00000000000001000000 = none ∧ decodePayload 3 0b001100_001_00_00010_00000000000000000101 = some ("CMPEQI", [1, 2, 5]) ∧
    decodePayload 3 0b011000_00001_00011_010_11111111111111111 = some ("LD_B", [1, 3, 2, -1]) ∧ decodePayload 3 0b100110_001_000_00011_010_0000000000000001 = some ("LDC", [1, 3, 2, 16]) ∧
    decodePayload 3 0b100100_00001_00011_010_000_00000000000001 = none ∧ decodePayload 3 0b110100_001_010_00011_00100_00000000000000 = some ("CCLIP", [1, 2, 3, 4]) := by decide

/-- R715: a state record is 32 bytes, and starts with its seq, state and previous state. -/
theorem test_state_record : (stateRecordBytes { seq := 1, state := .tampered, prev := .operate }).length = 32 ∧
    (stateRecordBytes { seq := 1, state := .tampered, prev := .operate }).take 6 = [1, 0, 0, 0, 7, 4] := by decide +kernel

end Sys2Proof.Tests
end

