-- ==== Sys2Proof/Tests/Witnesses.lean ====
section
/-!
SUPPORT. Sys2Proof/Tests/Witnesses.lean: for each statement of Sys2Proof/Certificates/Slice0/Obligations.lean that has hypotheses, concrete states and operands that
meet them together. The hypotheses that speak of an opaque function of Config.lean, or of a cryptographic value, have no concrete witness and are left out.
-/
namespace Sys2Proof.Tests
open Sys2Proof Sys2Proof.Machine Sys2Proof.Statements

/-! ### Cores -/

/-- A program capability, a data capability with every memory permission, and one that allows every SYS group. -/
def codeCap : Cap := mkCap 0 0x20000 pEX 0 true false
def dataCap : Cap := mkCap 0 0x900000000 255 0 false false
def sysCap : Cap := mkCap 0 0x1000 0xFF00 0 false false

/-- Core 0 in firmware mode with these registers and those three capabilities in c0 to c2. -/
def coreWith (r : CoreRegs) : Core := { mode := .firmware, regs := { r with c := [(0, codeCap), (1, dataCap), (2, sysCap)] ++ r.c } }
def onCore (r : CoreRegs) : State := { cores := [(0, coreWith r)] }

/-- An instruction on core 0, of two syllables, with the guard p0. -/
def x0 : Issue := { core := 0 }

theorem test_meets_ArithmeticFormsWriteTheirResult : TakesEffect (atIssue x0 (onCore {})) x0 {} [] ∧ (63#20).toNat < 64 :=
  ⟨by constructor <;> decide, by decide⟩

theorem test_meets_PredicatesAndSpecialRegisters :
    TakesEffect (atIssue { x0 with clock := 24999 } (onCore {})) { x0 with clock := 24999 } {} [] ∧ pFailed (regsOf x0 (onCore {})) 1 = false ∧
      specialReg (atIssue { x0 with clock := 24999 } (onCore {})) 0 10 = some 24999 := ⟨by constructor <;> decide, by decide, by decide⟩

theorem test_meets_DelayedWritesBecomeVisible : ({} : CoreRegs).pending = [] := by decide

theorem test_meets_LocalLoads : TakesEffect (atIssue x0 (onCore {})) x0 { shadowBad := true } [] ∧ x0.badData = false ∧
    rowLost (onCore {}) 0 0x3FFF8 = false ∧ spaceOf (addrOf x0 (onCore {}) 0 0x3FFF0) = .data ∧ Reaches (onCore {}) x0 1 pLD 8 55 (addrOf x0 (onCore {}) 0 0x3FFF8) ∧
    Reaches (onCore {}) x0 1 pLD 1 55 (addrOf x0 (onCore {}) 0 0x3FFFF) ∧ Reaches (onCore {}) x0 1 (pLD + pLDC) 16 55 (addrOf x0 (onCore {}) 0 0x3FFF0) :=
  ⟨by constructor <;> decide, by decide, by decide, by decide, by simp only [Reaches]; decide, by simp only [Reaches]; decide, by simp only [Reaches]; decide⟩

theorem test_meets_Stores : TakesEffect (atIssue x0 (onCore { g := [(3, 0x10000000)] })) x0 { shadowBad := true } [] ∧
    Reaches (onCore {}) x0 1 pST 8 56 0 ∧ spaceOf 0 = .data ∧
    Reaches (onCore { g := [(3, 0x10000000)] }) x0 1 (pST + pSTC) 16 56 (addrOf x0 (onCore { g := [(3, 0x10000000)] }) 3 0) ∧ spaceOf 0x10000000 = .sram ∧
    (coreAt (onCore {}) 0).stores.length < 8 :=
  ⟨by constructor <;> decide, by simp only [Reaches]; decide, by decide, by simp only [Reaches]; decide, by decide, by decide⟩

theorem test_meets_MemoryReadsWhatWasWritten : ∀ i < 16, spaceOf (0x10FFFFF0 + i) = .data ∨ spaceOf (0x10FFFFF0 + i) = .sram ∨ spaceOf (0x10FFFFF0 + i) = .dram := by
  decide

/-- A core with a split load behind a buffered store to another address. -/
def splitState : State :=
  { cores := [(0, { coreWith {} with splits := [{ dest := 5, addr := 0x10000000, pl := 1, older := 1 }], stores := [{ addr := 0x10000040, size := 8, value := 1 }] })] }

theorem test_meets_SplitLoadsAndBufferedStores :
    TakesEffect (atIssue x0 (onCore {})) x0 { shadowBad := true } [] ∧ (1#3) ≠ 0 ∧ (coreAt (onCore {}) 0).splits.length < 7 ∧
    (∀ w ∈ (coreAt splitState 0).stores.take 1, w.addr / 32 ≠ 0x10000000 / 32) ∧ spaceOf 0x10000000 ≠ .bar0 ∧ (coreAt splitState 0).stores.length = 1 ∧
    rowLost splitState 0 0x10000000 = false ∧ coreRow 0 0x10000000 = some (.controlSram 0) :=
  ⟨by constructor <;> decide, by decide, by decide, by decide, by decide, by decide, by decide, by decide⟩

theorem test_meets_BranchesHaveOneDelaySlot : TakesEffect (atIssue x0 (onCore {})) x0 { branch := true, shadowBad := true } [] ∧
    ({} : CoreRegs).st.loop0 = false ∧ ({} : CoreRegs).st.loop1 = false ∧ ({} : CoreRegs).st.brPend = false :=
  ⟨by constructor <;> decide, by decide, by decide, by decide⟩

/-- Registers at the end of a level 0 loop, with a count. -/
def loopRegs (n : BitVec 32) : CoreRegs := { pc := 8, st := { loop0 := true }, loops := { lc0 := n, ls0 := 4, le0 := 8 } }

theorem test_meets_LoopsRepeatTheirBody : TakesEffect (atIssue x0 (onCore { g := [(3, 2)] })) x0 { control := true, shadowBad := true } [] ∧
    loopCauses (onCore { g := [(3, 2)] }) x0 false 4 = [] ∧ gRead (regsOf x0 (onCore { g := [(3, 2)] })) 3 ≠ 0 ∧ gRead (regsOf x0 (onCore {})) 0 = 0 ∧
    (loopRegs 2).st.brPend = false ∧ (loopRegs 2).st.loop1 = false ∧ (loopRegs 2).st.loop0 = true ∧ (loopRegs 2).loops.le0 = (loopRegs 2).pc ∧
    2 ≤ (loopRegs 2).loops.lc0.toNat ∧ (loopRegs 1).loops.lc0 = 1 :=
  ⟨by constructor <;> decide, by decide, by decide, by decide, by decide, by decide, by decide, by decide, by decide, by decide⟩

/-- A sealed entry capability and a sealed data capability of one type. -/
def gateRegs : CoreRegs := { c := [(3, mkCap 0x100 0x100 pEX 7 true false), (4, mkCap 0x200 0x100 (pLD + pST) 7 false false)] }
def linked : CoreRegs := { links := [.gate { pc := 6, st := {}, loops := {}, c0 := codeCap, caps := List.replicate 5 {} }] }

theorem test_meets_GateCallsAndReturns : TakesEffect (atIssue x0 (onCore gateRegs)) x0 { control := true, shadowBad := true } [] ∧
    gateCauses (onCore gateRegs) x0 5 3 4 = [] ∧ drained (coreAt (onCore gateRegs) 0) = true ∧
    TakesEffect (atIssue x0 (onCore linked)) x0 { control := true, shadowBad := true } [] ∧ drained (coreAt (onCore linked) 0) = true ∧
    (regsOf x0 (onCore linked)).links = [.gate { pc := 6, st := {}, loops := {}, c0 := codeCap, caps := List.replicate 5 {} }] ∧ (List.replicate 5 ({} : Cap)).length = 5 :=
  ⟨by constructor <;> decide, by decide, by decide, by constructor <;> decide, by decide, by decide, by decide⟩

/-- Capabilities to form others from: plain data, a grant, an authority to seal, an authority to unseal, and a sealed one of its type. -/
def formRegs : CoreRegs :=
  { g := [(3, 4095), (4, 0x80), (5, 0x80)]
    c := [(3, mkCap 0x200 0x100 (pLD + pST) 0 false false), (4, mkCap 0 0 pSEAL 7 false true), (5, mkCap 0 0 pUNSEAL 7 false true),
      (6, mkCap 0x200 0x100 pLD 7 false false), (7, mkCap 0 0 pSEAL 0 false true)] }

theorem test_meets_CapabilityFormingInstructions :
    let r := regsOf x0 (onCore formRegs)
    TakesEffect (atIssue x0 (onCore formRegs)) x0 { shadowBad := true } [] ∧ (cRead r 3).tag = true ∧ capSealed (cRead r 3) = false ∧ capGrant (cRead r 3) = false ∧
    (cRead r 4).tag = true ∧ capGrant (cRead r 4) = true ∧ holds (cRead r 4) pSEAL = true ∧ 1 ≤ capType (cRead r 4) ∧
    (cRead r 6).tag = true ∧ capSealed (cRead r 6) = true ∧ (cRead r 5).tag = true ∧ capGrant (cRead r 5) = true ∧ holds (cRead r 5) pUNSEAL = true ∧
    capType (cRead r 5) = capType (cRead r 6) ∧ (cRead r 7).tag = true ∧ capGrant (cRead r 7) = true ∧ capType (cRead r 7) = 0 ∧ (gRead r 3).toNat = 4095 ∧
    (gRead r 4).toNat + (gRead r 5).toNat ≤ capLen (cRead r 3) :=
  ⟨by constructor <;> decide, by decide⟩

/-- A tenant invocation of opcode 0x0810 on core 0 at step 0 of the job in slot 0, with a further step to come. -/
def tenantImage : Tenant := { header := zeros 28 ++ leBytes 2 64 ++ [2] ++ zeros 5 ++ leBytes 4 2 ++ zeros 216 }
def tenantJob : Job := { hdr := { opcode := 0x0810, outLen := 64 }, steps := [{ step := { opcode := 0x0810 }, checked := true }] }
def tenantState : State :=
  { cores := [(0, { coreWith { st := { mode := 1 } } with mode := .tenant, running := some { slot := 0, step := 0, opcode := 0x0810 } })]
    jobs := [(0, tenantJob)], tenants := [(0x0810, tenantImage)], gates := [(0, { regions := [(0, 0xFBFFFFFFF0000000)] })] }

/-- Core 0 with row 0 of its program memory written as zeros through the sealing port: MOV.S g8, g8 in each syllable. -/
def sealedRow : State := writeRow 0 0 (zeros 28) (onCore {})

theorem test_meets_RowsSpellInstructions : spelledBy (.amAdd x0 1 2 3) x0 (onCore {}) = true ∧ spelledBy (.amAdd x0 1 2 3) x0 sealedRow = false := by
  refine ⟨by decide, ?_⟩
  have h : sealFails sealedRow 0 0 = false := by
    simp only [sealFails, show mfind 0 (coreAt sealedRow 0).program = some { code := zeros 28, rowSeal := sealOfRow sealedRow 0 0 (zeros 28) } from rfl, bne_self_eq_false]
  have l : programLost sealedRow 0 0 = false := by unfold programLost; rw [h]; decide
  simp only [spelledBy, spellingOf, spelled, spells, show programLost sealedRow x0.core ((coreAt sealedRow x0.core).regs.pc.toNat / 16) = false from l]
  decide

theorem test_meets_WaitsBreaksAndTenantEnds :
    TakesEffect (atIssue x0 (onCore {})) x0 {} [] ∧ pFailed (regsOf x0 (onCore {})) 1 = false ∧ (coreAt (onCore {}) 0).splits = [] ∧ (coreAt (onCore {}) 0).stores = [] ∧
    drained (coreAt (onCore {}) 0) = true ∧ TakesEffect (atIssue x0 tenantState) x0 { control := true, shadowBad := true } [] ∧
    drained (coreAt tenantState 0) = true ∧ (coreAt tenantState 0).running = some { slot := 0, step := 0, opcode := 0x0810 } ∧ jobAt tenantState 0 = some tenantJob ∧
    lastStep tenantState { slot := 0, step := 0, opcode := 0x0810 } tenantJob = false ∧ gRead (regsOf x0 tenantState) 0 = 0 ∧
    (gRead (regsOf x0 tenantState) 0).toNat ≤ dstCapacity tenantState tenantJob 0 :=
  ⟨by constructor <;> decide, by decide, by decide, by decide, by decide, by constructor <;> decide, by decide, by decide, by decide, by decide, by decide, by decide⟩

/-- A core that issues SYS with g3 as its argument, while step 0 of job 0 runs on cipher engine 0. -/
def sysState (a : BitVec 64) : State :=
  { onCore { g := [(3, a)] } with
    jobs := [(0, tenantJob)], link := { mode := 1, bme := true }, keys := { keys := [(0x200, { handle := 1 })], sessions := [(5, {})] }
    power := { good := true, domains := [(9, { state := .on })] }
    sched := { swath := 100000, engines := [(256, { running := [{ slot := 0, step := 0, slices := 1, class0 := true }] })] } }

theorem test_meets_SysFunctionsTakeEffect :
    TakesEffect (atIssue x0 (sysState 0x1000000)) x0 { shadowBad := true } [] ∧ (∀ g < 8, Allows (sysState 0) x0 2 g) ∧
    runningOn (sysState 0) 1 0 0 = some (0, { slot := 0, step := 0, slices := 1, class0 := true }) ∧ jobAt (sysState 0) 0 = some tenantJob ∧
    (stepAt tenantJob 0).checked = true ∧ endsHere (stepAt tenantJob 0) 1 { slot := 0, step := 0, slices := 1, class0 := true } = true ∧ linkOpen (sysState 0) = true ∧
    keyAt (sysState 0x200) 0x200 = some { handle := 1 } ∧ (domainAtP (sysState 9) 9).state = .on ∧ mayGate (sysState 9) 9 = true ∧
    leAt 0 2 (blockArg x0 0x20000 (sysState 0)) ≤ 34 ∧ byteAt 2 (blockArg x0 0x20000 (sysState 0)) < 16 ∧
    byteAt 30 (blockArg x0 0x20000 (sysState 0)) < 16 ∧ leAt 28 2 (blockArg x0 0x20000 (sysState 0)) < 8192 :=
  ⟨by constructor <;> decide, by simp only [Allows]; decide, by decide, by decide, by decide, by decide, by decide, by decide, by decide, by decide, by decide, by decide, by decide, by decide⟩

/-! ### Operations on the steps of jobs -/

/-- A job in slot 0 of one step of opcode `op` with this input and these keys, whose checks have passed. -/
def runJob (op : Nat) (input : Bytes) (a b : KeyVal) : Job :=
  { hdr := { opcode := op, inlineIn := true, inLen := input.length, outLen := 4096, keyA := 0x200 }, input := input
    steps := [{ step := { opcode := op, selA := 1 }, checked := true, keyA := some a, keyB := some b }] }
def runState (op : Nat) (input : Bytes) (a b : KeyVal) : State := { jobs := [(0, runJob op input a b)] }

/-- As `runState` with no key selected, so that the input gives the length of its auxiliary part first (R207). -/
def looseState (op : Nat) (input : Bytes) (a : KeyVal) : State :=
  { jobs := [(0, { runJob op input a {} with steps := [{ step := { opcode := op }, checked := true, keyA := some a }] })] }

/-- A chained job in slot 0 of one step. -/
def chainState (op : Nat) : State :=
  { jobs := [(0, { runJob op [] {} {} with hdr := { opcode := 0x0F01, chain := true, outLen := 4096 } })] }

/-- The hypothesis of an operation's statement: its step may run, and `cond` holds of it. -/
def Meets (s : State) (op : Nat) (cond : Call → Bool) : Bool := (callAt s op 0 0).any cond

theorem test_meets_ResultsReachTheJob :
    let j := runJob 0x0F02 [] {} {}
    jobAt (runState 0x0F02 [] {} {}) 0 = some j ∧ isChained j = false ∧ j.steps.length = 1 ∧ j.steps.all (fun x => decide (x.stage ≠ .ended) && workDone x.work) = true ∧
    j.stage ≠ .outputting ∧ j.stage ≠ .finished ∧ j.mirrorWait = none ∧ j.written = [] ∧
    mayRequest { link := { mode := 2, bme := true } } = true ∧ mayRequest { link := { mode := 2 } } = false ∧ success (bad 0x0405).result = false ∧ (ok [1]).result = 0 ∧ (ok [1]).secret = false ∧
    (ok [1]).bytes ≠ [] ∧ (ok [1]).bytes.length ≤ j.hdr.outLen := by decide

/-- Every operation whose statement asks only for its step. -/
theorem test_meets_operations : ∀ op ∈ [0x0201, 0x0202, 0x0203, 0x0204, 0x0211, 0x0212, 0x0224, 0x0225, 0x0231, 0x0232, 0x0241, 0x0242, 0x0321, 0x0322, 0x0330, 0x0331,
    0x0341, 0x0342, 0x0351, 0x0411, 0x0502, 0x050B, 0x050C, 0x050D, 0x0510, 0x0601, 0x0F02, 0x0F31, 0x0F40, 0x0F72],
    Meets (runState op [] {} {}) op (fun _ => true) = true := by decide

/-- The base point of P-256, uncompressed. -/
def basePoint : Bytes :=
  0x04 :: beBytes 32 0x6B17D1F2E12C4247F8BCE6E563A440F277037D812DEB33A0F4A13945D898C296 ++
    beBytes 32 0x4FE342E2FE1A7F9B8EE7EB4A7C0F9E162BCE33576B315ECECBB6406837BF51F5

/-- An RSA-1024 modulus of all ones and an exponent, as R342 lays the key out. -/
def rsaKey : Bytes := leBytes 2 128 ++ leBytes 2 3 ++ List.replicate 128 0xFF ++ [1, 0, 1]

theorem test_meets_PublicKeyOperationsRun :
    Meets (runState 0x0101 [1, 1, 4] {} {}) 0x0101 (fun k => decide (2 ≤ k.aux.length)) = true ∧
    (∀ op ∈ [0x0111, 0x0121], Meets (runState op [1] {} {}) op (fun k => decide (k.aux = [])) = true) ∧
    Meets (runState 0x0111 [1] { alg := 0x0101 } {}) 0x0111 (fun k => decide (k.aux = [] ∧ algA k = 0x0101)) = true ∧
    Meets (looseState 0x0112 (leBytes 4 64 ++ zeros 31 ++ [1] ++ zeros 31 ++ [1]) { alg := 0x0101 }) 0x0112
      (fun k => k.keyA.isSome && decide (k.aux.length = sigLen (algA k) ∧ ecdsaRange (algA k) k.aux = none)) = true ∧
    Meets (runState 0x0131 basePoint { alg := 0x0101 } {}) 0x0131 (fun k => isWeierstrass (algA k) && decide (pointError (algA k) k.aux = none)) = true ∧
    (∀ op ∈ [0x0141, 0x0143, 0x0144], Meets (runState op [1, 1, 0, 0, 9] { alg := 0x0121 } {}) op
      (fun k => decide (k.aux.length = 4 ∧ k.src.length + 2 * hashLen (byteAt 1 k.aux) + 2 ≤ rsaLen (algA k))) = true) ∧
    Meets (runState 0x0151 [0, 9] {} {}) 0x0151 (fun k => decide (k.aux ≠ [] ∧ k.aux.length = 1 + byteAt 0 k.aux)) = true ∧
    (∀ op ∈ [0x0152, 0x0171], Meets (runState op [0, 9] {} {}) op (fun k => decide (k.aux ≠ [] ∧ k.aux.length = 1 + byteAt 0 k.aux + sigLen (algA k))) = true) ∧
    Meets (runState 0x0161 (zeros 800) {} {}) 0x0161 (fun k => decide (kemAlg k.aux.length ≠ 0 ∧ kemError (kemAlg k.aux.length) k.aux = none)) = true ∧
    Meets (runState 0x0162 (zeros 768) { alg := 0x0141 } {}) 0x0162 (fun k => decide (k.src.length = kemCtLen (algA k))) = true := by decide +kernel

/-- A holder with its last nonce left. -/
def nonceState (op : Nat) : State := { runState op [] {} {} with cip := { holders := [(mkPage 2 0 0 0, [(1048575, 1048576)])] } }

theorem test_meets_NoncesAndCtr : (takeNonce (nonceHolder (nonceState 0x0211) 0 0) (nonceState 0x0211)).isSome = true ∧
    Meets (nonceState 0x0211) 0x0211 (fun _ => true) = true ∧ holderBlocks (nonceState 0x0211) (mkPage 2 0 0 0) = [(1048575, 1048576)] := by decide

theorem test_meets_ChainsAndPayments :
    (∀ op ∈ [0x0224, 0x0112, 0x0402, 0x0301, 0x0211], isChained (runJob op [] {} {}) = false ∧ (jobAt (chainState op) 0).any (fun j => isChained j && decide ((stepAt j 0).step.opcode = op)) = true) ∧
    Meets (chainState 0x0352) 0x0352 (fun k => isChained k.job) = true ∧
    Meets { runState 0x0112 [] {} {} with jobs := [(0, { runJob 0x0112 [] {} {} with hdr := { opcode := 0x0380, chain := true } })] } 0x0112
      (fun k => decide (k.job.hdr.opcode = 0x0380)) = true ∧
    (let j : Job := { hdr := { opcode := 0x0380, chain := true }, steps := [{}, { stage := .bound }] }; jobAt { jobs := [(0, j)] } 0 = some j ∧ (stepAt j 1).stage ≠ .ended) := by decide

theorem test_meets_GcmDecryptionUndoesEncryption : (zeros 12).length = 12 := by decide

/-! ### Vault and keys -/

/-- A domain entry: open, random tokens, 16 digits. -/
def domainEntry : Bytes := [1, 2, 16, 0, 0, 0, 0, 0] ++ zeros 56

/-- An active record of the token of 16 zeros in slot 0, found through the overflow table. -/
def tokenRec : VaultRec := { token := accountField (List.replicate 16 0), domain := 1, status := 1, pan := zeros 10 }
def vaultState (op : Nat) (input : Bytes) : State :=
  { runState op input {} {} with
    vault := { records := [(0, tokenRec)], domains := [(1, domainEntry)], tokenOver := [{ key := tokenKey 1 tokenRec.token, leaf := 0, quarter := 0 }] } }

theorem test_meets_VaultTokens : ∀ op ∈ [0x0402, 0x0403, 0x0405],
    Meets (vaultState op ([1, 0] ++ zeros 10 ++ (if op = 0x0405 then [2, 0, 0, 0] else []))) op (fun k =>
      let s := vaultState op ([1, 0] ++ zeros 10 ++ (if op = 0x0405 then [2, 0, 0, 0] else []))
      decide ((tokenNeeds k s).filter (targetMissing s (0, 0)) = [] ∧ findToken s (leAt 0 2 k.src) (requestToken s k.src) = some 0 ∧ readable s (recordAt s 0) = true ∧
        (recordAt s 0).status = 1 ∧ isExpired s (recordAt s 0) = false ∧ s.vault.readOnly = false ∧ domMirror (domainAt s 1) = 0 ∧
        (op = 0x0405 → byteAt 0 k.aux ≠ 0 ∧ beNat (slice 1 2 k.aux) ≠ 0xFFFF))) = true := by decide

/-- The pages of the PAN index that a PAN of zeros needs are cached, and the index has no entry for it, or has one. -/
def panState (spill : List OverEntry) : State :=
  { runState 0x0401 ([] ++ zeros 10 ++ [1, 0, 0, 0, 0, 0, 0, 0]) {} {} with
    vault := { records := [(0, tokenRec)], domains := [(1, domainEntry)], panOver := spill, panPages := panPair {} 1 (zeros 10) } }

theorem panState_hash (l : List OverEntry) : panHash (panState l) 1 (zeros 10) = panHash {} 1 (zeros 10) := rfl

theorem test_meets_NewPan :
    AtHand (panState []) 0 0 (panNeeds 1 (zeros 10) (panState [])) ∧ findPan (panState []) 1 (zeros 10) = none ∧ domState (domainAt (panState []) 1) ≠ 2 ∧
    domLimit (domainAt (panState []) 1) = 0 ∧ domMethod (domainAt (panState []) 1) ≠ 1 ∧
    Meets (panState []) 0x0401 (fun k => decide (panOf k.src = zeros 10 ∧ leAt 0 2 k.aux = 1)) = true := by
  have hf : findPan (panState []) 1 (zeros 10) = none := rfl
  have hc : panCandidate (panState []) 1 (zeros 10) = none := rfl
  refine ⟨?_, hf, by decide, by decide, by decide, by decide⟩
  unfold AtHand panNeeds
  rw [hc, List.append_nil, List.filter_eq_nil_iff]
  intro t ht
  obtain ⟨p, hp, rfl⟩ := List.mem_map.mp ht
  have : p ∈ (panState []).vault.panPages := List.mem_eraseDups.mp hp
  simp [targetMissing, this]

theorem test_meets_KnownPan :
    let s := panState [{ key := panHash {} 1 (zeros 10), leaf := 0, quarter := 0 }]
    AtHand s 0 0 (panNeeds 1 (zeros 10) s) ∧ findPan s 1 (zeros 10) = some 0 ∧ readable s (recordAt s 0) = true ∧ (recordAt s 0).status ≠ 3 ∧ s.vault.readOnly = false := by
  intro s
  have hc : panCandidate s 1 (zeros 10) = some (0, 0) := by
    unfold panCandidate indexFind
    rw [show panHash s 1 (zeros 10) = panHash {} 1 (zeros 10) from rfl]
    simp only [s, panState, List.find?, decide_true]
  have hf : findPan s 1 (zeros 10) = some 0 := by
    unfold findPan
    rw [hc]
    decide
  refine ⟨?_, hf, by decide, by decide, by decide⟩
  unfold AtHand panNeeds
  rw [hc, List.filter_eq_nil_iff]
  intro t ht
  rcases List.mem_append.mp ht with ht | ht
  · obtain ⟨p, hp, rfl⟩ := List.mem_map.mp ht
    have : p ∈ s.vault.panPages := List.mem_eraseDups.mp hp
    simp [targetMissing, this]
  · rw [List.mem_singleton] at ht
    subst ht
    decide

theorem test_meets_DomainsAndVersions :
    Meets (runState 0x0410 ([1, 0] ++ domainEntry) {} {}) 0x0410 (fun k =>
      let e := fit 64 (k.src.drop 2)
      domainOk e && domainChangeOk (domainAt (runState 0x0410 [] {} {}) (leAt 0 2 k.src)) e && decide (domMethod e ≠ 1)) = true ∧
    tokenRec ≠ {} ∧ tokenRec.status ≠ 0 := by decide

/-- A key block of AES-256 at 0x200 with no quorum. -/
def aesKey : KeyBlock := { handle := 0x200, cls := 0x10, alg := 3, usage := 0x200000, exportTo := 1, material := zeros 32 }
def keyState (op : Nat) (input : Bytes) (k : KeyBlock) : State := { runState op input {} {} with keys := { keys := [(0x200, k)] } }

/-- The base point of P-384, uncompressed. -/
def basePoint384 : Bytes :=
  0x04 :: beBytes 48 0xAA87CA22BE8B05378EB1C71EF320AD746E1D3B628BA79B9859F741E082542A385502F25DBF55296C3A545E3872760AB7 ++
    beBytes 48 0x3617DE4A96262C6F5D9E98BF9292DC29F8F41DBD289A147CE9DA3113B5F0B8C00A60B1CE1D7E819D7A431D7C90EA0E5F

theorem test_meets_KeyCreation :
    Meets (runState 0x0501 [0x10, 0, 1, 0] {} {}) 0x0501 (fun k => generable (byteAt 0 k.src) && templateOk (templateOf k) &&
      decide (byteAt 1 k.src = 0 ∧ leAt 2 2 k.src ∈ classAlgs (byteAt 0 k.src) ∧ byteAt 0 k.src < 0x30)) = true ∧
    Meets (runState 0x0502 [] {} {}) 0x0502 (fun k => templateOk (templateOf k)) = true ∧
    Meets (runState 0x0504 ([0x40, 0, 1, 1] ++ basePoint) {} {}) 0x0504 (fun k => templateOk (templateOf k) &&
      decide (byteAt 1 k.src = 0 ∧ 0x40 ≤ byteAt 0 k.src ∧ byteAt 0 k.src ≤ 0x43 ∧ leAt 2 2 k.src ∈ classAlgs (byteAt 0 k.src) ∧
        valueError (leAt 2 2 k.src) (k.src.drop 4) = none)) = true ∧
    (runJob 0 [] {} {}).hdr.outLen = 4096 ∧ freeRun {} 1 = some 4096 ∧
    freeRun { keys := { keys := [(4096, { blocks := 16773120 })] } } 1 = none ∧ (takeNonce keyPage State.reset).isSome = true ∧
    takeNonce keyPage { cip := { nonceNext := 2 ^ 64 - 1, nonceMark := 2 ^ 64 - 1 } } = none := by decide +kernel

theorem test_meets_KeyChanges :
    (∀ op ∈ [0x0505, 0x0506, 0x0507, 0x0508, 0x0509], Meets (keyState op [0] aesKey) op (fun k =>
      decide (subjectOf k (keyState op [0] aesKey) = some aesKey ∧ aesKey.quorum = 0 ∧ keyAt (keyState op [0] aesKey) (subjectBlock k) = some aesKey ∧
        k.step.opcode = op ∧ (takeNonce keyPage (keyState op [0] aesKey)).isSome = true ∧ byteAt 0 k.src ≤ 1 ∧ aesKey.status ≠ 2 ∧ aesKey.exportTo % 2 = 1) && aesKey.usage.getLsbD 21 && isAes aesKey.alg) = true) ∧
    (let s := keyState 0x0508 [] { aesKey with quorum := 2 };
      Meets s 0x0508 (fun k => decide (subjectOf k s = some { aesKey with quorum := 2 })) = true) ∧
    (let s := keyState 0x050A [] aesKey;
      Meets s 0x050A (fun k => decide (subjectOf k s = some aesKey ∧ handleBlock aesKey.handle ∉ s.keys.pins ∧ pinFits s aesKey = true ∧ pinFits s { aesKey with blocks := 4097 } = false)) = true) := by
  decide

theorem test_meets_SessionOperationsRun :
    Meets (runState 0x0510 ([255, 3] ++ basePoint384) {} {}) 0x0510 (fun k =>
      decide (leAt 0 2 k.src ≤ 1023 ∧ pointError 0x0102 (k.src.drop 2) = none ∧ keyAt (runState 0x0510 [] {} {}) (appBlock (leAt 0 2 k.src)) = none)) = true ∧
    (placeKey (appBlock 1023) { cls := 0x05, alg := 0x0102, usage := 0x80, material := basePoint384 } State.reset).isSome = true ∧
    freeSession { keys := { sessions := [(0, {}), (1, {})] } } = some 2 ∧
    (let s : State := { jobs := [(0, { runJob 0x0512 [] {} {} with session := some 5 })], keys := { sessions := [(5, {})] } };
      Meets s 0x0512 (fun k => decide (k.job.session = some 5 ∧ (jobSession s k.job).isSome = true)) = true) := by decide +kernel

/-! ### Random numbers, audit, tenants, staging, life cycle, cards and the fold -/

/-- An audit tile with one held checkpoint and one record. -/
def auditRec : AuditRec := { seq := 1, swath := 0, body := .gap 1 0 0 }
def auditState (op : Nat) (input : Bytes) : State :=
  { runState op input {} {} with audit := { ckpts := [(1, { number := 1, held := true })], latest := 1, undelivered := [auditRec] } }

theorem test_meets_RandomAndAuditOperationsRun :
    Meets (runState 0x0603 [15] {} {}) 0x0603 (fun k => allZero (k.src.drop 1) && decide (byteAt 0 k.src < 16 ∧ State.reset.rng.state ≠ .halted)) = true ∧
    Meets (auditState 0x0701 (zeros 8)) 0x0701 (fun k =>
      (mfind (if leAt 0 8 k.src = 0 then (auditState 0x0701 []).audit.latest else leAt 0 8 k.src) (auditState 0x0701 []).audit.ckpts).any (fun c => c.held)) = true ∧
    Meets (auditState 0x0702 ([1] ++ zeros 7 ++ [1, 0, 0, 0])) 0x0702 (fun k =>
      let s := auditState 0x0702 []
      decide (1 ≤ leAt 8 4 k.src ∧ leAt 8 4 k.src ≤ 21845 ∧ [auditRec].length = leAt 8 4 k.src ∧
        ∀ n < [auditRec].length, (s.audit.held ++ s.audit.undelivered).find? (fun r => decide (r.seq = leAt 0 8 k.src + n)) = [auditRec][n]?)) = true := by decide

/-- A tenant image's header as R553 gives it: opcode 0x0810, one row, no rodata, a path of one engine step. -/
def imageHeader : Bytes :=
  ascii "NTP1" ++ [1, 0, 0x10, 0x08] ++ zeros 4 ++ [1, 0, 0, 0] ++ zeros 14 ++ [1, 0, 1, 0, 0, 1, 1, 0, 0, 0, 2, 1] ++ zeros 214

/-- A tenant step bound to Ecvas core 2, with its program loaded. -/
def invokeState (parked : Option (Invocation × CoreRegs)) : State :=
  { runState 0x0810 [] {} {} with
    tenants := [(0x0810, { header := imageHeader, firstRow := 4096 })]
    cores := [(2, { parked := parked })]
    sched := { engines := [(5 * 256 + 2, { running := [{ slot := 0, step := 0, slices := 1 }] })] } }

theorem test_meets_TenantOperationsRun :
    tenantHeaderOk imageHeader = true ∧ tenantLoaded (runState 0x0801 [] {} {}) 0x0810 = false ∧ placeRows {} 1 = some 4096 ∧ placeRodata {} = some 0 ∧
    (∀ op ∈ [0x0802, 0x0803], Meets { runState op [0x10, 0x08] {} {} with tenants := [(0x0810, {})] } op (fun k => decide (leAt 0 2 k.src = 0x0810))) ∧
    (∀ p ∈ [none, some (({ slot := 0, step := 0, opcode := 0x0810 } : Invocation), ({} : CoreRegs))],
      (runningOn (invokeState p) 5 0 0).map Prod.fst = some 2 ∧ isTenantOp 0x0810 = true ∧ Meets (invokeState p) 0x0810 (fun _ => true) = true ∧
      (mfind 0x0810 (invokeState p).tenants).isSome = true ∧ (coreAt (invokeState p) 2).running = none ∧ (coreAt (invokeState p) 2).halted = false ∧
      (coreAt (invokeState p) 2).parked = p) := by decide +kernel

theorem test_meets_StagingOperationsRun :
    Meets (runState 0x0F10 ([2] ++ zeros 7 ++ zeros 32) {} {}) 0x0F10 (fun k =>
      let s := runState 0x0F10 [] {} {}
      allZero (slice 1 3 k.src) && (stageWords (inactiveBase s (byteAt 0 k.src) + leAt 4 4 k.src) (k.src.drop 8) 1
        (modFlash (fun f => { f with verified := f.verified &&& ~~~ BitVec.ofNat 3 (2 ^ byteAt 0 k.src) }) s)).1 &&
      decide (40 ≤ k.src.length ∧ k.src.length - 8 ≤ 4096 ∧ (k.src.length - 8) % 32 = 0 ∧ byteAt 0 k.src ≤ 2 ∧ leAt 4 4 k.src + 32 ≤ slotSize (byteAt 0 k.src))) = true ∧
    Meets (runState 0x0F11 ([0, 0, 0, 0] ++ leBytes 4 0x3FFFE0 ++ [32, 0, 0, 0]) {} {}) 0x0F11 (fun k =>
      let s := runState 0x0F11 [] {} {}
      let base := inactiveBase s 0 + 0x3FFFE0
      decide (k.src.length = 12 ∧ leAt 4 4 k.src = 0x3FFFE0 ∧ leAt 4 4 k.src + leAt 8 4 k.src ≤ slotSize 0 ∧ (readWords s base 1).isSome) &&
        (List.range 32).all (fun j => decide (eraseSector s (base + j) ≠ some (servedBy s ((base + j) / 0x10000))))) = true ∧
    Meets { runState 0x0F13 [7] {} {} with flash := { verified := 7 } } 0x0F13 (fun k =>
      let s : State := { flash := { verified := 7 } }
      decide (k.src.length = 1 ∧ byteAt 0 k.src < 8) &&
        (List.range 3).all (fun n => s.flash.verified.getLsbD n && (readSlot s (inactiveBase s n) 32).any (fun h => decide (floorOf s n ≤ byteAt 8 h)))) = true := by decide +kernel

theorem test_meets_LifeOperationsRun :
    Meets (runState 0x0F30 [3, 0, 0, 0] {} {}) 0x0F30 (fun k =>
      lifeInputOk k.src && decide (lifeOf (byteAt 0 k.src) = some .commission ∧ transitionWipe State.reset.keeper.record.state .commission = some .c)) = true ∧
    Meets (runState 0x0F30 [5, 0, 0, 0] {} {}) 0x0F30 (fun k =>
      decide (lifeOf (byteAt 0 k.src) = some .maintain ∧ transitionWipe State.reset.keeper.record.state .maintain = none)) = true ∧
    Meets (runState 0x0F32 [0, 0, 96, 0] {} {}) 0x0F32 (fun k => decide (1 ≤ leAt 2 2 k.src ∧ leAt 2 2 k.src ≤ 96)) = true ∧
    (∀ p ∈ [mkPage 1 1 1 1, mkPage 2 1 1 1], engineOf p ≠ none) := by decide

/-- A fold root at key block 3, an SD card with a set, and one member. -/
def boundaryState (op : Nat) (input : Bytes) : State :=
  { runState op input {} {} with
    keys := { keys := [(3, aesKey)] }, sdc := { card := 1, sets := [{ number := 4, first := 0, blocks := 1, valid := true, intact := true, data := [] }], latest := 4 }
    fold := { members := [(2, { serial := 7, digest := [], noncePrefix := 9 })] } }

theorem test_meets_CardAndFoldOperationsRun :
    foldRootLoaded (boundaryState 0x0F60 []) = true ∧
    Meets (boundaryState 0x0F60 (zeros 8)) 0x0F60 (fun k => (setNamed (boundaryState 0x0F60 []) (leAt 0 8 k.src)).isSome) = true ∧
    Meets (boundaryState 0x0F61 []) 0x0F61 (fun _ => decide ((boundaryState 0x0F61 []).sdc.card = 1 ∧ (boundaryState 0x0F61 []).sdc.permWp = false)) = true ∧
    Meets (boundaryState 0x0F62 []) 0x0F62 (fun _ => true) = true ∧
    Meets (boundaryState 0x0F70 ([7, 0, 0, 0] ++ leBytes 8 8 ++ basePoint384 ++ leBytes 4 10)) 0x0F70 (fun k =>
      decide (byteAt 0 k.src ≤ 7 ∧ pointError 0x0102 (slice 12 97 k.src) = none ∧ ∀ e ∈ (boundaryState 0x0F70 []).fold.members,
        e.1 ≠ byteAt 0 k.src ∧ e.2.serial ≠ leAt 4 8 k.src ∧ e.2.noncePrefix ≠ leAt 109 4 k.src)) = true ∧
    Meets (boundaryState 0x0F71 [2]) 0x0F71 (fun k => (mfind (byteAt 0 k.src) (boundaryState 0x0F71 []).fold.members).isSome) = true := by decide +kernel

/-! ### Channels, jobs and engines -/

theorem test_meets_WriteOpen : ∀ m ∈ [Master.host, .smbus, .core 15], (m = .host → State.reset.link.inReset = .none) ∧
    ∀ a ∈ [chanAddr 0 0x000, chanAddr 63 0x000, schAddr 0x150, schAddr 0x154, sigPage * 0x1000 + 0x114, keyTile * 0x1000 + 0x11C, keeperPage * 0x1000 + 0x108,
      pageAddr auditTile 0x108, pageAddr auditTile 0x114, pageAddr rngTile 0x104, pageAddr rngTile 0x108, modulePage * 0x1000 + 0x324,
      contactTile * 0x1000 + 0x100, panelTile * 0x1000 + 0x110, portCtlAddr 0, portCtlAddr 1, pageAddr keyTile 0x014, pageAddr (mkPage 5 0 0 0) 0x018],
      writeDiscarded a State.reset = false := by decide

/-- A channel that runs, with an entry of one slot at its head: OP_NOP in class 1, a class 0 entry of an opcode that is none, or a SKIP. -/
def entryOf0 (opcode cls : Nat) : Entry := { slots := fit 64 (leBytes 2 opcode ++ leBytes 2 (16 * cls)), visible := 0, pushed := false }
def admitState (opcode cls : Nat) : State :=
  { chans := [(0, { state := .running, head := some (entryOf0 opcode cls) })], power := { good := true, holdupOk := true }, keeper := { record := { state := .operate } } }

theorem test_meets_EntriesAreAdmitted : Decides (admitState 0x0F02 1) 0 (entryOf0 0x0F02 1) ∧ nextTurn (admitState 0x0F00 0) = some 0 ∧
    (∃ first l, verdict (admitState 0x0F02 1) 0 0 (parseHeader (entryOf0 0x0F02 1).slots) (entryOf0 0x0F02 1).slots = .admitAt first l) ∧
    Decides (admitState 0xFFFF 0) 0 (entryOf0 0xFFFF 0) ∧
    (∃ r counted, verdict (admitState 0xFFFF 0) 0 0 (parseHeader (entryOf0 0xFFFF 0).slots) (entryOf0 0xFFFF 0).slots = .refuseWith r counted) ∧
    (parseHeader (entryOf0 0x0F00 0).slots).opcode = 0x0F00 :=
  ⟨by constructor <;> decide, by decide, ⟨_, _, rfl⟩, by constructor <;> decide, ⟨_, _, rfl⟩, by decide⟩

/-- A class 2 job that waits in slot 3 since swath 0. -/
def oldJob : Job := { hdr := { opcode := 0x0F02, cls := 2 }, runClass := 2, steps := [{}] }
def ageState : State := { jobs := [(3, oldJob)], sched := { swath := 256, nextOrder := 1 } }

theorem test_meets_WaitingClass2JobsAge : jobAt ageState 3 = some oldJob ∧ oldJob.hdr.cls = 2 ∧ oldJob.runClass = 2 ∧ oldJob.stage = .admitted ∧
    oldJob.admitted + 256 ≤ now ageState ∧ (∀ x ∈ oldJob.steps, x.stage = .waiting) ∧ (∀ e ∈ ageState.jobs, e.2.order < ageState.sched.nextOrder) := by decide

/-- A job that reads its input, and one that waits for its output. -/
def readingJob : Job := { hdr := { inLen := 2 }, steps := [{}], asked := 2 }
theorem test_meets_JobsProgress : readingJob.stage ≠ .finished ∧ readingJob.stage ≠ .outputting ∧ readingJob.hdr.inlineIn = false ∧
    readingJob.withdraw = none ∧ (∀ x ∈ readingJob.steps, x.stage ≠ .bound ∧ x.stage ≠ .parked) ∧ readingJob.input.length < readingJob.asked ∧
    readingJob.refusedAt = none ∧ readingJob.input.length + [1, 2].length ≤ readingJob.asked ∧ ({ stage := .outputting } : Job).withdraw = none := by decide

/-- Channel 63, with rings, in a state. -/
def ringChan (st : ChanState) : Chan := { state := st, sqBase := 1, cqBase := 1 }
def ringState (st : ChanState) : State := { chans := [(63, ringChan st)], link := { mode := 1, bme := true } }

theorem test_meets_ChannelsRunHaltAndStop : (chanAt (ringState .disabled) 63).state = .disabled ∧ configOk (ringChan .disabled) = true ∧
    (ringState .running).link.inReset = .none ∧ (chanAt (ringState .running) 63).state = .running ∧ heldSlots { ringState .running with jobs := [(0, { chan := 63 })] } 63 ≠ 0 ∧
    heldSlots (ringState .running) 63 = 0 ∧ (ringChan .running).refusals = [] ∧ (ringChan .running).head = none ∧ (ringChan .running).haltNotice = none ∧
    linkOpen (ringState .running) = true ∧ sqSize (ringChan .running) < ((65#32) - (ringChan .running).sqHead).toNat ∧ ((65#32) - 0).toNat < 2 ^ 31 ∧
    2 ^ 31 ≤ ((0x80000000#32) - (ringChan .running).sqHead).toNat ∧ linkOpen State.reset = false ∧
    ((0#32) - (ringChan .running).cqHead).toNat ≤ ((ringChan .running).cqTail - (ringChan .running).cqHead).toNat ∧
    ((ringChan .running).cqTail - (ringChan .running).cqHead).toNat < ((1#32) - (ringChan .running).cqHead).toNat := by decide

/-- A push window whose first slot is written but for its last four bytes, for a SKIP whose stamp is not the consumer index. -/
def pushState (st : ChanState) (open_ : Bool) : State :=
  { chans := [(0, { state := st, push := (List.range 60).map (fun i => (i, 0)), held := [5] })], link := { mode := 1, bme := open_, cacheEnable := true }, sched := { swath := 1 } }
def pushed : AMap Byte := [1, 0, 0, 0].zipIdx.foldl (fun m e => mput (60 + e.2) e.1 m) ((List.range 60).map (fun i => (i, (0 : Byte))))

theorem test_meets_RingLinesAndPushes :
    (pushState .running true).link.inReset = .none ∧ (60 + 4 - 1) / 64 = 60 / 64 ∧ (chanAt (pushState .running true) 0).pushKept = false ∧
    regionFull (chanAt (pushState .running true) 0).push 0 = false ∧ pushComplete pushed = true ∧ pushComplete [(0, 1)] = false ∧
    linkOpen (pushState .running true) = true ∧ (parseHeader (regionBytes pushed 0)).stamp ≠ (0#32).toNat ∧ linkOpen (pushState .running false) = false ∧
    (chanAt (pushState .running true) 0).push ≠ [] ∧
    (parseHeader (regionBytes pushed 0)).stamp = (chanAt { chans := [(0, { sqHead := 1 })] } 0).sqHead.toNat ∧ (chanAt (pushState .running true) 0).head = none ∧
    (chanAt (pushState .running true) 0).pushFirst + 1 ≤ now (pushState .running true) ∧ 5 ∈ (chanAt (pushState .running true) 0).held ∧
    6 ∉ (chanAt (pushState .running true) 0).held ∧ cacheActive (pushState .running true) = true ∧ mayRead (pushState .running true) = true ∧
    mayRead (pushState .running false) = false ∧ mfind 5 (chanAt (pushState .running true) 0).lines = none ∧
    5 ∈ windowOf (pushState .running true) (chanAt (pushState .running true) 0) := by decide +kernel

/-- A class 0 step on PK engine 0, and one whose last slice fits the phase. -/
def engineState : State :=
  { jobs := [(0, runJob 0x0151 [] {} {})]
    sched := { engines := [(0, { running := [{ slot := 0, step := 0, slices := 1, class0 := true }], wiping := 1 }), (511, { wiping := 2 })] } }

theorem test_meets_EngineStepsEnd : runningOn engineState 0 0 0 = some (0, { slot := 0, step := 0, slices := 1, class0 := true }) ∧
    jobAt engineState 0 = some (runJob 0x0151 [] {} {}) ∧
    (stepAt (runJob 0x0151 [] {} {}) 0).checked = true ∧ endsHere (stepAt (runJob 0x0151 [] {} {}) 0) 0 { slot := 0, step := 0, slices := 1, class0 := true } = true ∧
    (stepAt (runJob 0x0151 [] {} {}) 0).step.opcode = 0x0151 ∧ (engAt engineState 0 0).wiping ≠ 0 ∧ (engAt engineState 1 255).wiping ≠ 0 := by decide

theorem test_meets_EnginesAreSupplied : (0x200, 4) ∈ ({ keys := { fills := [(0x200, 4)] } } : State).keys.fills ∧ keyAt (keyState 0 [] aesKey) 0x200 = some aesKey ∧
    valuesLeft State.reset 1 < 2 ^ 16 ∧ nonceExhausted State.reset = false ∧ State.reset.cip.nonceNext.toNat + 2 ^ 20 ≤ State.reset.cip.nonceMark.toNat + 2 ^ 32 ∧
    State.reset.start.service = false ∧ ({ start := { service := true } } : State).start.service = true ∧ State.reset.sched.phase = .work ∧ now State.reset % 64 = 0 ∧
    State.reset.cip.reseedSwath ≠ some (now State.reset) ∧ releaseChecked 0x0151 = true := by decide

/-! ### Swaths, audit, start-up, resets, link and registers -/

theorem test_meets_SwathsBeginAndClose : ({ power := { good := true }, sched := { phase := .close } } : State).power.good = true ∧
    ({ sched := { phase := .close } } : State).sched.phase = .close ∧ State.reset.sched.phase ≠ .close := by decide

theorem test_meets_CompletionsAreRecordedAndReleased : (jobItem 3 oldJob).slot = some 3 ∧ (jobItem 3 oldJob).result ≠ 0x0B01 ∧ gapLoses State.reset = false := by decide

theorem test_meets_Checkpoints :
    let s : State := { sched := { phase := .close, swath := 4095 }, keeper := { record := { state := .operate } }
                       audit := { ckpts := [(1, { number := 1, swath := 1 })], nextCkpt := 2, cosignWait := [(1, 4095)] } }
    s.sched.phase = .close ∧ now s % 4096 = 4095 ∧ s.audit.stalled = false ∧ hasIdentity s.keeper.record.state = true ∧
    (∀ e ∈ s.audit.ckpts, e.2.swath ≠ now s ∨ e.2.epoch ≠ s.sched.epoch.toNat) ∧ (mfind 1 s.audit.ckpts).any (fun c => !c.held) = true ∧ s.audit.cosign = false ∧
    mfind 1 s.audit.cosignWait = some 4095 ∧ 4095 ≤ now s := by decide

theorem test_meets_StartUpRuns :
    State.reset.power.good = false ∧ ({ power := { good := true } } : State).power.failSeq = false ∧ State.reset.start.begun = false ∧
    ({ start := { begun := true } } : State).start.bootOk = false ∧ State.reset.start.halted = false ∧ State.reset.flash.selectors = {} :: [] ∧
    State.reset.flash.floorBoot ≤ 0 ∧ State.reset.flash.floorFirmware ≤ 255 ∧ (∀ r ∈ [BootTry.failed true, .failed false], r = .failed true ∨ r = .failed false) ∧
    State.reset.start.service = false ∧ State.reset.sig.verified = false ∧ State.reset.flash.floorMicrocode ≤ 0 ∧ State.reset.start.dramWiped < 4 ∧
    2 ≤ ({ dramWiped := 2 } : StartUp).dramWiped ∧ ({ replaying := true } : Vault).replaying = true ∧ 4 ≤ ({ dramWiped := 4 } : StartUp).dramWiped ∧
    slotAgrees State.reset 0 (slotBase 0 false) (fun _ => false) = true ∧ slotAgrees State.reset 1 (slotBase 1 false) (fun _ => false) = true ∧
    slotAgrees State.reset 2 (slotBase 2 false) (fun _ => false) = true ∧
    noReplay State.reset = true ∧ State.reset.start.ready = false ∧ ({ erasing := true } : StartUp).erasing = true := by decide

theorem test_meets_Resets : State.reset.power.failSeq = false ∧ State.reset.link.inReset = .none ∧ ({ good := true } : Power).failSeq = false := by decide

theorem test_meets_LinkEvents : 8 ∈ [1, 2, 4, 8] ∧ ({ bme := true } : Link).d3hot = false ∧ State.reset.link.cacheEnable ≠ true ∧
    ideStream { link := { selective := [(3, 1)] } } 5 ≠ 0 := by decide

/-- The responder after NEGOTIATE_ALGORITHMS, with an established session 1 and a session 2 in its handshake. -/
def spdmState : State :=
  { link := { doeBusy := false, spdmStage := 3, spdmVersion := 0x12, sessions := [(1, { phase := .established }), (2, {})], ideKeys := [5] } }

theorem test_meets_MailboxAndSpdm : spdmState.link.doeBusy = false ∧ objectFits 16372 = true ∧ doeProtocols[3]? = some (0x1E98, 2) ∧ ((2, 0) : Nat × Nat) ∉ doeProtocols ∧ spdmState.start.halted = false ∧
    3 ≤ spdmState.link.spdmStage ∧ (mfind 1 spdmState.link.sessions).map (·.phase) = some .established ∧ (mfind 2 spdmState.link.sessions).map (·.phase) = some .handshake ∧
    5 ∈ spdmState.link.ideKeys ∧ 4 ∉ spdmState.link.ideKeys ∧ spdmState.link.spdmVersion ≠ 0x10 ∧ spdmState.link.sessions.length < 4 ∧
    mfind 3 spdmState.link.sessions = none ∧ State.reset.link.spdmStage < 3 := by decide

theorem test_meets_Registers :
    latchLow (schAddr 0x100) = true ∧ latchLow (schAddr 0x104) = false ∧ schAddr 0x100 % 4 = 0 ∧ schAddr 0x100 < 2 ^ 31 ∧ mfind (2 ^ 32 + schAddr 0x104) State.reset.latches = none ∧
    regAudited (schAddr 0x100) = false ∧ regAudited (pageAddr keyTile 0x014) = true ∧ regBase (pageAddr keyTile 0x014) = pageAddr keyTile 0x014 ∧
    writeDiscarded (pageAddr keyTile 0x014) State.reset = false ∧ regTaken (schAddr 0x150) 1 State.reset = 1 ∧
    writeDiscarded (pageAddr keyTile 0x014) { audit := { stalled := true } } = true ∧ smbusAnswers { power := { good := true } } = true ∧
    smbusServes (modulePage * 0x1000) = true ∧ smbusServes (pageAddr keyTile 0x100) = false ∧ latchLow (modulePage * 0x1000) = false := by decide

/-! ### Events, audit ring, generator, recorder, maintenance, NAND, self-tests, code flash -/

theorem test_meets_AuditRingAndPolicy :
    State.reset.audit.enable = false ∧ ({ base := 1 } : Audit).base ≠ 0 ∧ (6#5).toNat = 6 ∧ (20#5).toNat = 20 ∧ (5#5).toNat < 6 ∧ 20 < (21#5).toNat ∧
    State.reset.audit.head = State.reset.audit.tail ∧ ({ enable := true } : Audit).enable = true ∧
    ((0#32) - State.reset.audit.head).toNat ≤ (State.reset.audit.tail - State.reset.audit.head).toNat ∧
    (State.reset.audit.tail - State.reset.audit.head).toNat < ((1#32) - State.reset.audit.head).toNat ∧ ({ gapPolicy := true } : Audit).gapPolicy = true := by decide

/-- A generator in a state with source 3 healthy. -/
def rngWith (st : RngState) (pool given : Nat) : State :=
  { rng := { state := st, sources := [(3, { healthy := true })], pool := List.replicate pool (zeros 16), given := given }, sched := { swath := 15 }
    jobs := [(0, { steps := [{ rngWait := 0 + 1 }] })] }

theorem test_meets_NoiseSourcesAndGenerator :
    State.reset.rng.state = .starting ∧ State.reset.rng.min.toNat ≤ ((List.range 16).filter (fun n => (0x0FFF#16).getLsbD n)).length ∧
    (rngWith .running 3 4194304).rng.state ≠ .halted ∧ (sourceAt (rngWith .running 3 4194304) 3).atEnd < 4 ∧ (sourceAt (rngWith .running 3 4194304) 3).healthy = true ∧
    (rngWith .reseeding 3 0).rng.state = .reseeding ∧ 3 ≤ (rngWith .reseeding 3 0).rng.pool.length ∧ 4194304 ≤ (rngWith .running 3 4194304).rng.given ∧
    (rngWith .running 2 4194304).rng.pool.length < 3 ∧ (rngWith .running 7 0).rng.due = false ∧
    creditedSources (rngWith .running 7 0) ≠ [] ∧ (rngWith .running 7 0).rng.pool.length < 8 ∧ (∀ n < 16, (sourceAt { rng := { sources := [] } } n).healthy = true → False) ∧
    (let j : Job := { steps := [{ rngWait := 1 }] }; jobAt (rngWith .halted 0 0) 0 = some j ∧ j.withdraw = none ∧ (stepAt j 0).rngWait ≠ 0 ∧ (stepAt j 0).stage = .waiting ∧
      (stepAt j 0).checked = false ∧ (stepAt j 0).rngWait - 1 + (rngWith .halted 0 0).rng.waitLimit.toNat ≤ now { sched := { swath := 16 } }) ∧
    rngTileWorks State.reset = true ∧ 4 ≤ (16#32).toNat % 32 ∧ (16#32).toNat % 32 ≤ 16 ∧ healthyCount (rngWith .running 3 0) < (16#32).toNat % 32 := by decide

theorem test_meets_RaisedEvents : (0x0107 % 256 < 8 ∧ 1 ≤ 0x0107 / 256 ∧ 0x0107 / 256 ≤ 6) ∧ ¬ (0x0708 % 256 < 8 ∧ 1 ≤ 0x0708 / 256 ∧ 0x0708 / 256 ≤ 6) ∧
    (∀ k < 4, Nat.repeat parent k (mkPage 1 1 1 1) ≠ modulePage ∧ (unitAt State.reset (Nat.repeat parent k (mkPage 1 1 1 1))).mask.getLsbD 7 = false) ∧
    pageExists (mkPage 1 1 1 1) = true ∧ State.reset.link.inReset = .none ∧ mkPage 1 1 1 1 ≠ modulePage ∧
    (unitAt { units := [(mkPage 1 1 1 1, { pend := 256 })] } (mkPage 1 1 1 1)).pend.getLsbD 8 = true ∧ (255#32).getLsbD 8 = false := by decide

/-- A recorder with a record in its queue and one that is open. -/
def recRecord : EvRec := { code := 0x0701, epoch := 0, swath := 0, unit := 0, detail := 0, priv := true }
def recState : State :=
  { recorder := { queue := [recRecord], openPriv := [recRecord], word := 1, busy := true }, sched := { phase := .close, swath := 4095 } }

theorem test_meets_RecorderKeepsItsRecords : now recState % 4096 = 4095 ∧ recState.recorder.openPriv = [recRecord] ∧ recRecord.priv = true ∧
    16 ≤ (now recState + 2 ^ 48 - recRecord.swath) % 2 ^ 48 ∧ recState.sched.phase = .close ∧ now recState % 64 = 63 ∧ recState.recorder.queue = [recRecord] ∧
    recState.recorder.word ≠ 0 ∧ recState.recorder.busy = true := by decide

/-- Every activity runs. -/
def maintState : State :=
  { sched := { maint := (List.range 10).map (fun a => (a, .running)), swath := 9 }
    vault := { rekeyLeaf := 1, records := [(64, tokenRec)], homes := [(7, 1024)], blocks := [(3, { area := 1 })], planes := [(0, { class0 := [8] })] }
    keys := { rebuild := [0x200] }, audit := { held := [] }, rng := { state := .running }, flash := { staging := 1, words := [(64 * 2048, none)] } }

theorem test_meets_MaintenanceActivitiesRun :
    (∀ a < 10, maintGo maintState a = true ∧ maintGo State.reset a = false ∧ maintRuns State.reset a = false) ∧ maintState.rng.rebalance = 0 ∧ maintState.vault.rekeyLeaf ≠ 0 ∧
    maintState.vault.records.find? (fun e => decide (maintState.vault.rekeyLeaf ≤ e.1 / 64)) = some (64, tokenRec) ∧
    maintState.sched.stopPending.getLsbD 0 = false ∧ (mfind 7 maintState.vault.homes).isSome = true ∧ leavesIn maintState 3 = [] ∧
    blockNamed maintState 3 = false ∧ (mget {} maintState.vault.planes (planeOf 3)).busy = false ∧ (mget {} maintState.vault.blocks 3).retired = false ∧
    (mget {} maintState.vault.blocks 3).area = 1 ∧ maintState.keys.rebuild = [0x200] ∧ inactiveTarget maintState 64 = some 0 ∧ maintState.flash.staging.getLsbD 0 = true ∧
    sectorErased maintState 64 = false ∧ (sectorAt maintState 64).failed = false ∧ (partAt maintState (64 / 512)).state = .idle ∧ maintState.power.failSeq = false ∧
    maintState.rng.state = .running ∧ (upMembers (maintTake 1 maintState)).all (resyncedTo (maintTake 1 maintState)) = true ∧
    mfind (RowPlace.dram (32 * maintState.vault.patrolRow)).address.toNat maintState.rowFaults = none := by decide +kernel

theorem test_meets_Compaction : ∃ l : List AuditRec, 86016 ≤ l.length := ⟨List.replicate 86016 auditRec, Nat.le_of_eq List.length_replicate.symm⟩

/-- A read for step 0 of job 0, a class 1 job, that was read again four times; and an erase under way. -/
def nandState (rereads : Nat) : State :=
  { jobs := [(0, { hdr := { cls := 1 }, steps := [{}], mirrorWait := some (1, 5) })], sched := { swath := 5 }
    vault := { reads := [{ job := if rereads = 4 then some (0, 0) else none, target := .quarter 1 0, rereads := rereads }], blocks := [(3, { interrupted := true })], planes := [(0, { busy := true })] } }

theorem test_meets_NandOperationsEnd : (nandState 4).vault.reads[0]? = some { job := some (0, 0), target := .quarter 1 0, rereads := 4 } ∧
    (nandState 3).vault.reads[0]? = some { job := none, target := .quarter 1 0, rereads := 3 } ∧
    ((jobAt (nandState 4) 0).any (fun j => decide (j.hdr.cls ≠ 0 ∧ j.mirrorWait = some (1, 5)))) = true ∧ 5 ≤ now (nandState 4) ∧
    (mget {} (nandState 4).vault.blocks 3).interrupted = true ∧ (mget {} (nandState 4).vault.planes (planeOf 3)).busy = true ∧
    (∀ w ∈ [NandWrite.journal 1, .leaves [1]], programTakes State.reset w 7 0 = true ∧ programTakes State.reset w 7 1 = false) ∧ nandSeen (nandState 4) (quarterRows (nandState 4) (.quarter 1 0)) = [] := by decide

theorem test_meets_SelfTests : ({ sig := { stBusy := some 63 } } : State).sig.stBusy = some 63 ∧
    (unitAt { units := [(enginePage 0 63, { state := .isolated })] } (enginePage 0 63)).state = .isolated ∧ bit 7 (128 % 256) = true ∧ bit 0 (128 % 256) = false ∧
    canonical {} State.reset.keys.bays = true := by decide

/-- A partition in a state, with the sector it erases and the word it programs. -/
def flashState (st : FlsState) : State := { flash := { parts := [(1, { state := st, sector := some 512, program := some (5, zeros 32) })] } }

theorem test_meets_FlashCommandsRun :
    (0x3FFFFE0 % 32 = 0 ∧ 0x3FFFFE0 < 0x4000000 ∧ (sectorAt State.reset (0x3FFFFE0 / 0x10000)).failed = false ∧
      (sectorAt State.reset (0x3FFFFE0 / 0x10000)).interrupted = false ∧ (partAt State.reset 1).program = none ∧ (partAt State.reset 1).sector = none ∧
      (partAt State.reset 1).state = .idle ∧ wordAt State.reset (wordIndex State.reset 0x3FFFFE0) = none) ∧ 0x2000000 % 0x10000 = 0 ∧ State.reset.power.failSeq = false ∧
    (∀ st ∈ [FlsState.erase, .suspended, .suspending, .program], (partAt (flashState st) (partitionOf 0x2000000)).state = st ∧
      (partAt (flashState st) 1).program = some (5, zeros 32) ∧ (partAt (flashState st) 1).sector = some 512) ∧
    (Allows (sysState 0) x0 2 6) ∧ flsWaits (sysState 0) (byteAt 0 (sysBlock (sysState 0) 0 0)) (leAt 4 4 (sysBlock (sysState 0) 0 0)) = false := by
  refine ⟨by decide, by decide, by decide, by decide, by simp only [Allows]; decide, by decide⟩

theorem test_meets_ProgrammedWords : (0 % 32 = 0 ∧ 0 < 0x4000000) ∧ (partAt State.reset (partitionOf 0)).state = .idle ∧
    wordAt { flash := { words := [(0, some (zeros 32))] } } (wordIndex State.reset 0) ≠ none := by decide

theorem test_meets_RowCode : (zeros 32).length = 32 ∧ (zeros 4).length = 4 ∧ 35 < 36 ∧ (1 : Byte) ≠ 0 ∧ 4 < 5 ∧
    (let p := RowPlace.keyBay 7 1048575
     let s : State := { rowFaults := [(p.address.toNat, (List.replicate 36 0).set 35 1)] }
     p.space ≠ .dram ∧ mfind p.address.toNat s.rowFaults = some ((List.replicate 36 0).set 35 1) ∧ rising s.rowFaults = true) := by decide

/-- The gate of mover 23 with a user region of two granules from 0x820000 up, readable and writable: the module of R598's example. -/
def moverState : State := { gates := [(23, { regions := [(0, BitVec.ofNat 64 (2 ^ 63 + 2 ^ 59 + 2 ^ 56 + 2 ^ 55 + 2 ^ 28 + 0x820000))] })] }

/-- R598: 10,000 bytes from 0x08_2000_0F00: the job reports 4,352 bytes written and refused address 0x08_2000_2000. -/
theorem test_meets_DmaJobs : (dmaWrite 23 0x820000F00 10000 moverState).1 = { written := 4352, refused := some 0x820002000 } ∧
    (dmaWrite 23 0x820000F00 4352 moverState).1.refused = none ∧ commonCode (gatePage 23) 4 = 0x0304 ∧
    (gateAt (dmaWrite 23 0x820000F00 10000 moverState).2 23).addr = 0x820002000 := by decide +kernel


/-! ### Units, power, sensors, tamper -/

/-- An engine-level page that is no engine: a tile's own page has level 2, so a unit of cluster 15 or of the Boundary plane stands for it. -/
def plainUnit : Nat := mkPage 5 1 1 1
def unitState (st : UState) (cause : Cause) : State := { units := [(plainUnit, { state := st, cause := cause })] }

theorem test_meets_UnitsAreControlled : pageExists plainUnit = true ∧ levelOf plainUnit = 1 ∧ fixedUnit plainUnit = false ∧ engineOf plainUnit = none ∧ plainUnit ≠ rngPage ∧
    writeDiscarded (pageAddr plainUnit 0x014) State.reset = false ∧
    (∀ st ∈ [UState.on, .quiesced, .isolated], (unitAt (unitState st .write) plainUnit).state = st ∧ (unitAt (unitState st .write) plainUnit).isolate = false) ∧
    (unitAt (unitState .isolated .write) plainUnit).cause = .write ∧ (3#4).toNat ≤ 3 ∧ 3 < (4#4).toNat ∧
    (unitAt { units := [(mkPage 5 0 0 0, { profile := 4 })] } (mkPage 5 0 0 0)).profile = 4 ∧ pageExists (mkPage 5 0 0 0) = true ∧
    ({ link := { inReset := .flr } } : State).link.inReset ≠ .none := by decide

theorem test_meets_PowerDomainsSwitch : mayGate (sysState 0) 9 = true ∧ mayClear { power := { domains := [(63, { state := .latched, latches := 2 })] } } 63 = true ∧
    (0x80000000#32).getLsbD 31 = true ∧ mayClear State.reset 63 = false ∧
    (∀ st ∈ [DomState.on, .waking, .gated], (domainAtP { power := { good := true, domains := [(63, { state := st })] } } 63).state = st ∧ st ≠ .latched) := by decide

theorem test_meets_PowerInputAndFailure : ({ good := true } : Power).failSeq = false ∧ ({ good := true } : Power).switchOpen = false ∧ ({ good := true } : Power).cond2 = false ∧
    42000 < 42001 ∧ ({ good := true } : Power).overvoltage = false ∧ State.reset.power.good = false ∧ ({ failSeq := true, failStep := 2 } : Power).failStep = 2 ∧
    ({ failSeq := true, failStep := 5 } : Power).failStep = 5 := by decide

theorem test_meets_Sensors : (210#10).toInt = 210 ∧ (240#10).toInt = 240 ∧ (sensorAt (sampleSensor 47 210 false State.reset) 47).faulty = false ∧
    (sensorAt (sampleSensor 47 300 false State.reset) 47).faulty = false ∧ (sensorAt (sampleSensor 47 301 false State.reset) 47).faulty = true := by decide +kernel

theorem test_meets_ThermalStatesEnd :
    (let s : State := { power := { sensors := [(47, { throttled := true, cool := 64 })] } }; (sensorAt s 47).throttled = true ∧ 64 ≤ (sensorAt s 47).cool) ∧
    (let s : State := { units := [(mkPage 5 0 0 0, { profile := 4, coolSwaths := 4096 })] }
     (unitAt s (mkPage 5 0 0 0)).profile = 4 ∧ 4096 ≤ (unitAt s (mkPage 5 0 0 0)).coolSwaths) ∧
    (∃ k, domainSensor 9 = some k ∧
      let s : State := { power := { domains := [(9, { state := .latched, thermal := true })], sensors := [(k, { cold := 4096 })] } }
      (domainAtP s 9).state = .latched ∧ (domainAtP s 9).thermal = true ∧ 4096 ≤ (sensorAt s k).cold) :=
  ⟨by decide, by decide, ⟨_, rfl, by decide⟩⟩

theorem test_meets_TamperAndKeeper : State.reset.keeper.record.state ≠ .tampered ∧ State.reset.keeper.record.state ≠ .decommissioned ∧
    ({ state := .decommissioned } : StateRec).state = .decommissioned := by decide

/-! ### Cards, ceremonies, the reader, the tag, the backup card, the fold -/

/-- The contact interface with an active card. -/
def contactState (cls : BitVec 2) (protocol : BitVec 2) : State := { contact := { present := true, active := true, cls := cls, protocol := protocol } }

theorem test_meets_ContactCardIsServed : State.reset.contact.present = false ∧ State.reset.audit.stalled = false ∧ State.reset.contact.classAllow.getLsbD 2 = true ∧
    State.reset.contact.classAllow.getLsbD 1 = true ∧ (contactState 3 0).contact.present = true ∧ (contactState 3 0).contact.active = true ∧
    (contactState 3 0).contact.protocol = 0 ∧ (contactState 3 0).contact.cls = 3 ∧ (contactState 1 0).contact.cls = 1 ∧
    (4#3).getLsbD ((contactState 3 0).contact.cls.toNat - 1) = true := by decide

/-- A request that is active until swath 9, one behind it, and a presentation at a step. -/
def ceremonyState (step : Nat) : State :=
  { ceremony := { queue := [{ number := 1, action := 8, m := 2, opcode := 0x0508, windowEnd := some 9 }, { number := 2, action := 8, m := 2, opcode := 0x0508 }], contact := some { step := step } }
    sched := { swath := 3000000 } }

theorem test_meets_CeremoniesProceed :
    (ceremonyState 5).ceremony.contact = some { step := 5 } ∧ (ceremonyState 5).ceremony.reader = none ∧ (ceremonyState 5).ceremony.queue.head?.isSome = true ∧
    ({ step := 5 } : Presentation).late = false ∧ presentationAt (ceremonyState 2) false = some { step := 2 } ∧ 0 + 1500000 ≤ now (ceremonyState 5) ∧
    0 + 3000000 ≤ now (ceremonyState 5) ∧ 9 ≤ now (ceremonyState 5) ∧ (0x6A80 ≠ 0x9000) := by decide

theorem test_meets_ReaderFindsCards : State.reset.reader.stage = .off ∧ pingDue State.reset = true ∧ ({ reader := { stage := .session } } : State).reader.stage ≠ .off ∧ State.reset.reader.antenna = 0 ∧ State.reset.reader.baseline.toNat ≤ (8#8).toNat ∧
    State.reset.reader.threshold.toNat ≤ (8#8).toNat - State.reset.reader.baseline.toNat ∧ (7#8).toNat - State.reset.reader.baseline.toNat < State.reset.reader.threshold.toNat ∧
    State.reset.reader.typeA = true ∧ State.reset.reader.typeB = true ∧ ([] ++ List.replicate 40 true : List Bool).length = 40 ∧
    bccOf ((packBits ([] ++ List.replicate 40 false)).take 4) = (packBits ([] ++ List.replicate 40 false)).getD 4 0 ∧ bit 2 0x20 = false ∧ bit 5 0x20 = true := by decide

/-- The tag in a session of its applet. -/
def tagState : State := { stile := { field := true, tag := .active, rats := true, selected := true, lastBlock := [2], material := [1], uid := [8, 1, 2, 3] } }

theorem test_meets_StileTagAnswers : TagSelected tagState ∧ State.reset.stile.field = false ∧ tagState.stile.lastBlock ≠ [] ∧ tagState.stile.material ≠ [] ∧
    tagState.stile.logged = false ∧ ({ lock := 1 } : Stile).lock = 1 ∧ (zeros 16).length = 16 ∧ 256 ≤ 256 ∧ 0x3FF ≤ 0x3FF ∧
    ({ power := { good := true }, start := { bootOk := true } } : State).start.bootOk = true := by
  refine ⟨by unfold TagSelected; decide, by decide⟩

/-- A card that offers SDR104, with eight taps that pass. -/
def sdCard : SdCard := { supported := true, offers := 5, lastBlock := 0, permWp := false, tmpWp := false, wpSwitch := false, taps := 0xFF0, label := [], dirs := [], sets := [] }

theorem test_meets_BackupCardIsServed : State.reset.sdc.card = 0 ∧ sdCard.supported = true ∧ min (min sdCard.offers 5) (4#3).toNat < 5 ∧ 5 ≤ sdCard.offers ∧
    5 ≤ State.reset.sdc.modeMax.toNat ∧ 8 ≤ (longestRun sdCard.taps).2 ∧ (longestRun 0x7F).2 < 8 ∧ ({ mode := 5 } : Sdc).backup = none ∧
    ({ number := 1, first := 0, blocks := 2, data := [0], busy := true } : Backup).busy = true ∧ maintRuns maintState 2 = true ∧
    maintState.sched.stopPending.getLsbD 2 = false := by decide

theorem test_meets_BackupOfTwoChunks : ∃ data : Bytes, 0 + 1 < chunkCount data := by
  have h : ∀ l : Bytes, l.length = 2 * chunkBytes → 0 + 1 < chunkCount l := fun l hl => by unfold chunkCount ceilDiv; rw [hl]; decide
  exact ⟨_, h (List.replicate (2 * chunkBytes) 0) List.length_replicate⟩

/-- A fold port in a state. -/
def portState (st : PortState) : State := { fold := { ports := [(1, { state := st, reach := 4 }), (2, {})] }, sched := { swath := 50000 } }

theorem test_meets_FoldPorts : (∀ st ∈ [PortState.down, .training, .handshake, .up, .refused], (portAt (portState st) 1).state = st) ∧ foldAllowed State.reset = true ∧
    (portAt (portState .handshake) 1).peerHello = [] ∧ (portAt (portState .handshake) 1).since + 5000 ≤ now (portState .handshake) ∧
    (portAt (portState .refused) 1).since + 50000 ≤ now (portState .refused) ∧
    max (portAt (portState .up) 1).since (portAt (portState .up) 1).heard + 8 ≤ now (portState .up) := by decide

theorem test_meets_FoldFramesAreServed : Arrives (portState .up) { port := 1, src := 0 } ∧ ({ vault := { ready := true } } : State).vault.ready = true ∧
    findPan State.reset 1 (zeros 10) = none ∧ findToken State.reset 1 (zeros 10) = none ∧ seqRecord State.reset (2 ^ 56 + 5) = some 5 ∧ mirrorJob State.reset 5 = none ∧
    holdsOther State.reset aesKey = false ∧ leAt 0 2 ([1, 0] ++ domainEntry) < 4096 ∧ domainOk (fit 64 (([1, 0] ++ domainEntry).drop 2)) = true ∧
    (boundaryState 0 []).fold.members.find? (fun e => decide (e.2.serial = leAt 36 8 (zeros 36 ++ leBytes 8 7))) = some (2, { serial := 7, digest := [], noncePrefix := 9 }) ∧
    mget 0 State.reset.fold.cosigned 2 < leAt 8 8 (zeros 8 ++ leBytes 8 1) ∧ leAt 8 8 (zeros 16) ≤ mget 0 State.reset.fold.cosigned 2 ∧
    (portAt (portState .down) 1).state ≠ .up := by
  refine ⟨by constructor <;> decide, rfl, rfl, rfl, by decide⟩

/-- Both ports up, with member 2 behind port 1. -/
def twoPorts : State := { fold := { ports := [(0, { state := .up }), (1, { state := .up, reach := 4 })] } }

theorem test_meets_FramesForOthers : (portAt twoPorts 0).state = .up ∧ 2 ≠ 0xFF ∧ some 2 ≠ selfIndex twoPorts ∧ (portAt twoPorts (1 - 0)).state = .up ∧ 2 < 8 ∧
    (portAt twoPorts (1 - 0)).reach.getLsbD 2 = true ∧ 0 < ({ port := 0, src := 0, dst := 2 } : FoldFrame).hops ∧ (portAt twoPorts (1 - 0)).reach.getLsbD 3 = false := by decide

/-! ### Exceptions of cores, and the whole block -/

/-- Core 0, with interrupts enabled, and a code event of its page routed to interrupt 16 of core 0. -/
def interruptState : State :=
  { cores := [(0, { coreWith { st := { ie := true } } with running := some { slot := 0, step := 0, opcode := 0x0810, budget := 5 } })]
    units := [(corePage 0, { pend := 1, routeInt := 16 })] }

theorem test_meets_CoreExceptionsAreTaken :
    (requested interruptState 0).foldl (fun b v => match b with | none => some v | some x => some (min x v)) none = some 16 ∧
    coreRuns interruptState 0 = true ∧ (coreAt interruptState 0).regs.st.ie = true ∧ (coreAt interruptState 0).regs.delay = false ∧
    (coreAt interruptState 0).regs.shadow = 0 ∧ (coreAt interruptState 0).overrun = none ∧ (coreAt interruptState 0).late = [] ∧
    (coreAt interruptState 0).regs.st.trace = false ∧ drained (coreAt interruptState 0) = true ∧ drained (coreAt splitState 0) = false ∧
    (coreAt interruptState 0).regs.st.mode ≠ 1 ∧ (coreAt interruptState 0).regs.st.mode ≠ 2 ∧ 0 + 5 ≤ 24999 ∧
    ({ st := { mode := 2 } } : CoreRegs).st.mode = 2 := by decide +kernel

/-- Data memory whose vector 0 holds an entry capability and a stack. -/
def vectorState : State := memPutCap 0 (vectorEntry 0 + 32) (mkCap 0x10000 0x1000 (pLD + pST + pLDC + pSTC) 0 false false) (memPutCap 0 (vectorEntry 0) codeCap (onCore {}))

theorem test_meets_EntryUsable : entryUsable vectorState 0 0 = true := by decide +kernel

theorem test_meets_JobTable : JobTable ageState ∧ JobTable State.reset := by unfold JobTable; decide

end Sys2Proof.Tests
end

section
/-!
SUPPORT. The ageing of class 2 jobs (R49): what CLASS2_AGEING does to a job that is due, and that the class an entry and a record of the job carry is the header's.
-/
namespace Sys2Proof.Machine
open Sys2Proof

/-! ### The class that a completion and a record carry -/

theorem b2n_le_one (b : Bool) : b2n b ≤ 1 := by cases b <;> decide

/-- Bits [5:4] of the flags are the header's class, whatever class the job runs as (R166). -/
theorem completionFlags_class {j : Job} (h : j.hdr.cls < 4) : completionFlags j / 16 % 4 = j.hdr.cls := by
  have ho := b2n_le_one j.outIncomplete
  have hm := b2n_le_one j.margin
  unfold completionFlags
  omega

/-- Bits [1:0] of the info byte are the header's class, whatever class the job runs as (R460). -/
theorem recordInfo_class {j : Job} (h : j.hdr.cls < 4) : recordInfo j % 4 = j.hdr.cls := by
  unfold recordInfo
  omega

/-! ### The job that ages -/

/-- A job that runs as class 1 from here on, with a place in that class's order. -/
def agedJob (order : Nat) (j : Job) : Job := { j with runClass := 1, aged := true, order := order }

@[simp] theorem agedJob_runClass (n : Nat) (j : Job) : (agedJob n j).runClass = 1 := rfl
@[simp] theorem agedJob_order (n : Nat) (j : Job) : (agedJob n j).order = n := rfl
@[simp] theorem agedJob_hdr (n : Nat) (j : Job) : (agedJob n j).hdr = j.hdr := rfl
@[simp] theorem agedJob_steps (n : Nat) (j : Job) : (agedJob n j).steps = j.steps := rfl
@[simp] theorem agedJob_input (n : Nat) (j : Job) : (agedJob n j).input = j.input := rfl

/-- The state in which the job in a slot has aged: it takes the next place in the order of jobs. -/
def ageJobIn (slot : Nat) (s : State) : State :=
  modJob slot (agedJob s.sched.nextOrder) { s with sched := { s.sched with nextOrder := s.sched.nextOrder + 1 } }

theorem jobAt_ageJobIn_same {s : State} {slot : Nat} {j : Job} (h : jobAt s slot = some j) :
    jobAt (ageJobIn slot s) slot = some (agedJob s.sched.nextOrder j) := by
  rw [ageJobIn, jobAt_modJob, if_pos rfl]
  exact congrArg (Option.map _) h

theorem jobAt_ageJobIn_other {s : State} {slot k : Nat} (hk : k ≠ slot) : jobAt (ageJobIn slot s) k = jobAt s k := by
  rw [ageJobIn, jobAt_modJob, if_neg hk]
  rfl

/-- CLASS2_AGEING ages a class 2 job that is due. -/
theorem exec_class2Ageing_of_due {s : State} {slot : Nat} {j : Job} (hj : jobAt s slot = some j) (hrun : j.runClass = 2) (hstage : j.stage = .admitted)
    (hage : j.admitted + 256 ≤ now s) (hwait : ∀ x ∈ j.steps, x.stage = .waiting) : exec (.class2Ageing slot) s = .next (ageJobIn slot s) := by
  have hall : j.steps.all (fun x => decide (x.stage = .waiting)) = true := List.all_eq_true.mpr fun x hx => decide_eq_true (hwait x hx)
  change execClass2Ageing slot s = _
  simp only [execClass2Ageing, hj]
  rw [if_pos ⟨hrun, hstage, hage, hall⟩]
  rfl

/-- Settles O11: the place that the aged job takes lies behind every place given before, and its completion and record are made from the header, which ageing
leaves as it was. -/
theorem waitingClass2JobsAge : Obligations.WaitingClass2JobsAge := by
  unfold Obligations.WaitingClass2JobsAge
  intro s slot j hj hcls hrun hstage hage hwait hplaces
  have hcls4 : (agedJob s.sched.nextOrder j).hdr.cls < 4 := by rw [agedJob_hdr, hcls]; decide
  refine ⟨ageJobIn slot s, agedJob s.sched.nextOrder j, exec_class2Ageing_of_due hj hrun hstage hage hwait, jobAt_ageJobIn_same hj, agedJob_runClass .., ?behind,
    agedJob_steps .., agedJob_input .., hcls, (completionFlags_class hcls4).trans hcls, ?record, fun k hk => jobAt_ageJobIn_other hk⟩
  case behind =>
    intro k x hk hx
    rw [jobAt_ageJobIn_other hk] at hx
    exact hplaces k x hx
  case record =>
    intro result ch op r info key i o hrec
    have hinfo : recordInfo (agedJob s.sched.nextOrder j) = info := by
      injection hrec
    rw [← hinfo, recordInfo_class hcls4, agedJob_hdr, hcls]

end Sys2Proof.Machine
end

section
/-!
SUPPORT. A PROGRAM of a word that is not erased (R608), and where the counters area keeps it from being read (R616).
-/
namespace Sys2Proof.Machine
open Sys2Proof

/-- A unit's PROGRAM never waits: the wait of R605 is a READ's alone. -/
theorem exec_flsProgram_unit (addr : Nat) (w : Bytes) (s : State) : exec (.flsProgram (.unit addr w)) s = .next (flsProgram none addr w s).2 := rfl

/-- Where address, partition and sector take the command, a word that is not erased gives FLS_OVERPROGRAM (R608), save that the counters area first refuses with
FLS_STATE a word that is no later counters word (R616). -/
theorem flsProgram_of_programmed {s : State} {addr : Nat} (w : Bytes) (haligned : addr % 32 = 0) (hrange : addr < 0x4000000)
    (hpart : (partAt s (partitionOf addr)).state = .idle ∨
      (partAt s (partitionOf addr)).state = .suspended ∧ (partAt s (partitionOf addr)).sector ≠ some (servedBy s (addr / 0x10000)))
    (hfailed : (sectorAt s (addr / 0x10000)).failed = false) (hinterrupted : (sectorAt s (addr / 0x10000)).interrupted = false)
    (hword : wordAt s (wordIndex s addr) ≠ none) :
    flsProgram none addr w s =
      if (addr / 0x10000 = 130 ∨ addr / 0x10000 = 131) ∧ ¬ countersOk s (fit 32 w) then (0x03, s) else (0, flsStatus none 0x01 s) := by
  have haddr : ¬ (addr % 32 ≠ 0 ∨ 0x4000000 ≤ addr) := by omega
  have hfree : ¬ (¬ ((partAt s (partitionOf addr)).state = .idle ∨ (partAt s (partitionOf addr)).state = .suspended) ∨
      ((partAt s (partitionOf addr)).state = .suspended ∧ (partAt s (partitionOf addr)).sector = some (servedBy s (addr / 0x10000)))) := by
    rcases hpart with hidle | ⟨hsuspended, hother⟩
    · simp [hidle]
    · simp [hsuspended, hother]
  have hblock : ¬ ((none : Option (Nat × Nat)).isSome = true ∧ (inactiveTarget s (addr / 0x10000)).isNone = true) := fun h => nomatch h.1
  rw [flsProgram, if_neg haddr, if_neg hblock, if_neg hfree, hfailed, if_neg Bool.false_ne_true, hinterrupted, if_neg Bool.false_ne_true,
    if_pos (Option.isSome_iff_ne_none.mpr hword)]

/-- A module from reset whose counters area holds its first counters word, at address 0x820000. -/
def firstCounters : State := appendCounters State.reset

/-- The word that stands at 0x820000 in `firstCounters`: sequence number 1, every counter 0. -/
def firstCountersWord : Bytes := appended 1 [] 0x96

theorem wordAt_firstCounters : wordAt firstCounters (wordIndex firstCounters 0x820000) = some (some firstCountersWord) := by decide

theorem wordAt_firstCounters_ne_none : wordAt firstCounters (wordIndex firstCounters 0x820000) ≠ none := by
  rw [wordAt_firstCounters]
  exact Option.some_ne_none _

/-- The first counters word is behind the counters once it stands: the next sequence number is 2 (R613, R616). -/
theorem countersOk_firstCounters : countersOk firstCounters (fit 32 firstCountersWord) = false := by decide

/-- The word of the counters area is programmed, and a second PROGRAM of it ends with FLS_STATE and changes nothing. -/
theorem flsProgram_firstCounters : flsProgram none 0x820000 firstCountersWord firstCounters = (0x03, firstCounters) := by
  rw [flsProgram_of_programmed firstCountersWord (by decide) (by decide) (.inl (by decide)) (by decide) (by decide)
    wordAt_firstCounters_ne_none, if_pos]
  exact ⟨.inl (by decide), by simp [countersOk_firstCounters]⟩

/-- Refutes O36: in the counters area (sectors 130 and 131) the check of R616 comes before the tile reads the word, so a PROGRAM of a programmed word with a stale
counters word ends with FLS_STATE, and the last status stays FLS_DONE where FLS_OVERPROGRAM was claimed. -/
theorem not_programmedWordsAreNotOverwritten : ¬ Obligations.ProgrammedWordsAreNotOverwritten := by
  unfold Obligations.ProgrammedWordsAreNotOverwritten
  intro h
  obtain ⟨t, hexec, hstatus, -⟩ :=
    h firstCounters 0x820000 firstCountersWord (by decide) (by decide) (by decide) (by decide) (.inl (by decide)) wordAt_firstCounters_ne_none
  rw [exec_flsProgram_unit, flsProgram_firstCounters] at hexec
  obtain rfl : firstCounters = t := Host.Outcome.next.inj hexec
  exact absurd hstatus (by decide)

end Sys2Proof.Machine
end

section
/-!
SUPPORT. Fold frames for another member (R692): which frame each frame command brings, and what becomes of one that is neither for the neighbour nor for this module.
-/
namespace Sys2Proof.Machine
open Sys2Proof

/-! ### The commands that bring a frame -/

/-- The command brings frame `f`, of this type of R691, to its port. -/
inductive BringsFrame (f : FoldFrame) : Nat → Instr → Prop
  | echo : BringsFrame f 0x10 (.foldEcho f)
  | echoReply (ns : Nat) : BringsFrame f 0x11 (.foldEchoReply f ns)
  | route : BringsFrame f 0x18 (.foldRoute f)
  | mirror : BringsFrame f 0x20 (.foldMirror f)
  | mirrorAck : BringsFrame f 0x21 (.foldMirrorAck f)
  | keyRepl : BringsFrame f 0x30 (.foldKeyRepl f)
  | keyAck : BringsFrame f 0x31 (.foldKeyAck f)
  | domainRepl : BringsFrame f 0x32 (.foldDomainRepl f)
  | domainAck : BringsFrame f 0x33 (.foldDomainAck f)
  | cosignReq : BringsFrame f 0x40 (.foldCosignReq f)
  | cosignResp : BringsFrame f 0x41 (.foldCosignResp f)
  | resyncState : BringsFrame f 0x50 (.foldResyncState f)

/-- Whatever a frame command does for a frame that is for this module, the frame first arrives as `receive` says. -/
theorem BringsFrame.exec_eq_receive {f : FoldFrame} {type : Nat} {c : Instr} (hc : BringsFrame f type c) (s : State) :
    ∃ serve, exec c s = .next (receive f type s serve) := by
  cases hc <;> exact ⟨_, rfl⟩

/-! ### A frame for another member -/

/-- A frame arrives at a port with a session, and is neither for the neighbour nor for this module (R692). -/
structure ForOther (s : State) (f : FoldFrame) : Prop where
  port_le : f.port ≤ 1
  up : (portAt s f.port).state = .up
  not_neighbour : f.dst ≠ 0xFF
  not_self : some f.dst ≠ selfIndex s

/-- The other port has a session, its mask holds the destination, and hops are left (R692; without a session it has no SAK to send under, R693, R696). -/
def Forwardable (s : State) (f : FoldFrame) : Prop :=
  (portAt s (1 - f.port)).state = .up ∧ f.dst < 8 ∧ (portAt s (1 - f.port)).reach.getLsbD f.dst = true ∧ 0 < f.hops

/-- The state in which the frame has left on the other port, with one hop less. -/
def sentOn (f : FoldFrame) (type : Nat) (s : State) : State :=
  emit (.fold (1 - f.port) s.fold.etype.toNat
    (leBytes 1 1 ++ leBytes 1 type ++ leBytes 1 f.src ++ leBytes 1 f.dst ++ leBytes 1 (f.hops - 1) ++ zeros 3 ++ leBytes 8 f.seq ++ f.body)) s

/-- Only a MIRROR (0x20) and a MIRROR_ACK (0x21) are kept from being forwarded. -/
theorem receive_of_forOther {s : State} {f : FoldFrame} (h : ForOther s f) (type : Nat) (serve : State → State) :
    receive f type s serve =
      if type = 0x20 ∨ type = 0x21 then discardFrame f.port (hear f.port s) else forwardFrame f type (hear f.port s) := by
  rw [receive, if_neg (Nat.not_lt.mpr h.port_le), if_neg (not_not_intro h.up), if_neg (not_or.mpr ⟨h.not_neighbour, h.not_self⟩)]

/-- A frame heard on one port leaves the other port as it was. -/
theorem portAt_hear_other {p : Nat} (hp : p ≤ 1) (s : State) : portAt (hear p s) (1 - p) = portAt s (1 - p) := by
  rw [hear, portAt_modPort, if_neg (by omega)]

theorem forwardable_hear {s : State} {f : FoldFrame} (hp : f.port ≤ 1) : Forwardable (hear f.port s) f ↔ Forwardable s f := by
  rw [Forwardable, portAt_hear_other hp, Forwardable]

theorem forwardFrame_of_forwardable {s : State} {f : FoldFrame} (h : Forwardable s f) (type : Nat) : forwardFrame f type s = sentOn f type s :=
  if_pos h

theorem forwardFrame_of_not_forwardable {s : State} {f : FoldFrame} (h : ¬ Forwardable s f) (type : Nat) :
    forwardFrame f type s = discardFrame f.port s :=
  if_neg h

/-! ### What the commands do -/

section
variable {s : State} {f : FoldFrame} {type : Nat} {c : Instr}

theorem BringsFrame.exec_of_forwardable (hc : BringsFrame f type c) (h : ForOther s f) (htype : ¬ (type = 0x20 ∨ type = 0x21)) (hgoes : Forwardable s f) :
    exec c s = .next (sentOn f type (hear f.port s)) := by
  obtain ⟨serve, hexec⟩ := hc.exec_eq_receive s
  rw [hexec, receive_of_forOther h, if_neg htype, forwardFrame_of_forwardable ((forwardable_hear h.port_le).mpr hgoes)]

theorem BringsFrame.exec_of_not_forwardable (hc : BringsFrame f type c) (h : ForOther s f) (hstays : ¬ Forwardable s f) :
    exec c s = .next (discardFrame f.port (hear f.port s)) := by
  obtain ⟨serve, hexec⟩ := hc.exec_eq_receive s
  rw [hexec, receive_of_forOther h, forwardFrame_of_not_forwardable (mt (forwardable_hear h.port_le).mp hstays), ite_self]

theorem BringsFrame.exec_of_mirror (hc : BringsFrame f type c) (h : ForOther s f) (htype : type = 0x20 ∨ type = 0x21) :
    exec c s = .next (discardFrame f.port (hear f.port s)) := by
  obtain ⟨serve, hexec⟩ := hc.exec_eq_receive s
  rw [hexec, receive_of_forOther h, if_pos htype]

end

/-- Settles O35: every frame command brings its frame through `receive`, which forwards by the other port's state as it stood before the frame was heard, and the
types of MIRROR and MIRROR_ACK never. -/
theorem framesForOthersAreForwarded : Obligations.FramesForOthersAreForwarded := by
  unfold Obligations.FramesForOthersAreForwarded
  intro s f hport hup hneighbour hself q h goes header sent dropped
  have hother : ForOther s f := ⟨hport, hup, hneighbour, hself⟩
  refine ⟨fun hgoes => ?forwarded, fun hstays => ?discarded, BringsFrame.mirror.exec_of_mirror hother (.inl rfl),
    BringsFrame.mirrorAck.exec_of_mirror hother (.inr rfl)⟩
  case forwarded =>
    have hsent {type : Nat} {c : Instr} (hc : BringsFrame f type c) (htype : ¬ (type = 0x20 ∨ type = 0x21)) : exec c s = .next (sent type) :=
      hc.exec_of_forwardable hother htype hgoes
    exact ⟨hsent .echo (by decide), fun ns => hsent (.echoReply ns) (by decide), hsent .route (by decide), hsent .keyRepl (by decide),
      hsent .keyAck (by decide), hsent .domainRepl (by decide), hsent .domainAck (by decide), hsent .cosignReq (by decide),
      hsent .cosignResp (by decide), hsent .resyncState (by decide)⟩
  case discarded =>
    have hdropped {type : Nat} {c : Instr} (hc : BringsFrame f type c) : exec c s = .next dropped := hc.exec_of_not_forwardable hother hstays
    exact ⟨hdropped .echo, fun ns => hdropped (.echoReply ns), hdropped .route, hdropped .keyRepl, hdropped .keyAck, hdropped .domainRepl,
      hdropped .domainAck, hdropped .cosignReq, hdropped .cosignResp, hdropped .resyncState⟩

end Sys2Proof.Machine
end

section
/-!
SUPPORT. Pending bits (R9, R764): which of them an event raised in a page sets, that neither raising nor a write of a mask clears one, and which a write of 1 clears.
-/
namespace Sys2Proof.Machine
open Sys2Proof

/-! ### States that keep every pending bit -/

/-- Every bit pending in a page of `s` is pending there in `t`. -/
def PendKept (s t : State) : Prop := ∀ q c, (unitAt s q).pend.getLsbD c = true → (unitAt t q).pend.getLsbD c = true

theorem PendKept.trans {s t u : State} (h : PendKept s t) (g : PendKept t u) : PendKept s u := fun q c hc => g q c (h q c hc)

theorem PendKept.of_pend_eq {s t : State} (h : ∀ q, (unitAt t q).pend = (unitAt s q).pend) : PendKept s t := fun q _ hc => (h q).symm ▸ hc

theorem unitAt_eq_of_units {s t : State} (h : t.units = s.units) (q : Nat) : unitAt t q = unitAt s q := by
  rw [unitAt, unitAt, h]

theorem PendKept.of_units {s t : State} (h : t.units = s.units) : PendKept s t := .of_pend_eq fun q => congrArg UnitRec.pend (unitAt_eq_of_units h q)

/-- Setting more bits in one page keeps every bit. -/
theorem pendKept_modUnit_or (p : Nat) (f : UnitRec → UnitRec) (bits : BitVec 9) (hf : ∀ u, (f u).pend = u.pend ||| bits) (s : State) :
    PendKept s (modUnit p f s) := by
  intro q c hc
  rw [unitAt_modUnit]
  by_cases hq : q = p
  · subst hq
    rw [if_pos rfl, hf, BitVec.getLsbD_or, hc, Bool.true_or]
  · rwa [if_neg hq]

/-! ### Raising -/

/-- A page's pending bit and last code as `climb` sets them. -/
def setPending (p b code : Nat) (s : State) : State :=
  modUnit p (fun u => { u with pend := u.pend ||| BitVec.ofNat 9 (2 ^ b), last := BitVec.ofNat 16 code }) s

theorem climb_succ (n p b code : Nat) (s : State) :
    climb (n + 1) p b code s =
      if p = modulePage ∨ (unitAt s p).mask.getLsbD b then setPending p b code s else climb n (parent p) b code (setPending p b code s) := rfl

theorem pendKept_setPending (p b code : Nat) (s : State) : PendKept s (setPending p b code s) := pendKept_modUnit_or p _ _ (fun _ => rfl) s

theorem setPending_mask (p b code : Nat) (s : State) (q : Nat) : (unitAt (setPending p b code s) q).mask = (unitAt s q).mask := by
  rw [setPending, unitAt_modUnit]
  by_cases hq : q = p
  · rw [if_pos hq, hq]
  · rw [if_neg hq]

theorem setPending_pend_self {b : Nat} (hb : b < 9) (p code : Nat) (s : State) : (unitAt (setPending p b code s) p).pend.getLsbD b = true := by
  rw [setPending, unitAt_modUnit, if_pos rfl, BitVec.getLsbD_or, BitVec.getLsbD_ofNat, Nat.testBit_two_pow_self, decide_eq_true hb, Bool.and_self,
    Bool.or_true]

theorem pendKept_climb (b code : Nat) : ∀ (n p : Nat) (s : State), PendKept s (climb n p b code s)
  | 0, _, _ => .of_units rfl
  | n + 1, p, s => by
    rw [climb_succ]
    split
    · exact pendKept_setPending p b code s
    · exact (pendKept_setPending p b code s).trans (pendKept_climb b code n (parent p) _)

/-- The page lets bit `b` through to the page above it (R764). -/
def LetsThrough (b : Nat) (s : State) (p : Nat) : Prop := p ≠ modulePage ∧ (unitAt s p).mask.getLsbD b = false

theorem repeat_parent_succ (m p : Nat) : Nat.repeat parent (m + 1) p = Nat.repeat parent m (parent p) := by
  induction m with
  | zero => rfl
  | succ m ih => exact congrArg parent ih

/-- The bit reaches the page `m` levels up where every page below it lets it through. -/
theorem climb_pend {b : Nat} (hb : b < 9) (code : Nat) {n m p : Nat} {s : State} (hm : m < n)
    (hthrough : ∀ k < m, LetsThrough b s (Nat.repeat parent k p)) :
    (unitAt (climb n p b code s) (Nat.repeat parent m p)).pend.getLsbD b = true := by
  induction n generalizing m p s with
  | zero => exact absurd hm (Nat.not_lt_zero m)
  | succ n ih =>
    rw [climb_succ]
    cases m with
    | zero =>
      have hp := setPending_pend_self hb p code s
      split
      · exact hp
      · exact pendKept_climb b code n (parent p) _ p b hp
    | succ m =>
      obtain ⟨htop, hmask⟩ : LetsThrough b s p := hthrough 0 (Nat.succ_pos m)
      rw [if_neg (by simp [htop, hmask]), repeat_parent_succ]
      refine ih (Nat.lt_of_succ_lt_succ hm) fun k hk => ?_
      rw [LetsThrough, setPending_mask, ← repeat_parent_succ]
      exact hthrough (k + 1) (Nat.succ_lt_succ hk)

theorem capture_pend (p code detail : Nat) (s : State) (q : Nat) : (unitAt (capture p code detail s) q).pend = (unitAt s q).pend := by
  rw [capture, unitAt_modUnit]
  by_cases hq : q = p
  · subst hq
    rw [if_pos rfl]
    dsimp only
    split <;> rfl
  · rw [if_neg hq]

/-- Route and record of an event leave the pages as pending bits and capture made them. -/
theorem raiseAs_units (p unit code detail : Nat) (s : State) :
    (raiseAs p unit code detail s).units = (capture p code detail (climb 6 p (pendBit code) code s)).units := by
  rw [raiseAs, (recordEvent_same _ _ _ _ _).2.1]
  cases routePage 6 (capture p code detail (climb 6 p (pendBit code) code s)) p (pendBit code) with
  | none => rfl
  | some q => dsimp only; split <;> rfl

/-- The pending bits after an event are those that `climb` leaves. -/
theorem raiseAs_pend (p unit code detail : Nat) (s : State) (q : Nat) :
    (unitAt (raiseAs p unit code detail s) q).pend = (unitAt (climb 6 p (pendBit code) code s) q).pend := by
  rw [unitAt_eq_of_units (raiseAs_units p unit code detail s), capture_pend]

theorem pendKept_raiseAs (p unit code detail : Nat) (s : State) : PendKept s (raiseAs p unit code detail s) :=
  (pendKept_climb (pendBit code) code 6 p s).trans (.of_pend_eq (raiseAs_pend p unit code detail s))

theorem pendKept_noteDropped (before : BitVec 16) (s : State) : PendKept s (noteDropped before s) := by
  unfold noteDropped
  split
  · exact .of_units rfl
  · exact pendKept_raiseAs recPage recPage 0x0520 _ s

theorem pendKept_raise (p code detail : Nat) (s : State) : PendKept s (raise p code detail s) :=
  (pendKept_raiseAs p p code detail s).trans (pendKept_noteDropped s.recorder.dropped _)

theorem pendBit_common {code : Nat} (h : code % 256 < 8 ∧ 1 ≤ code / 256 ∧ code / 256 ≤ 6) : pendBit code = code % 256 := if_pos h

theorem pendBit_other {code : Nat} (h : ¬ (code % 256 < 8 ∧ 1 ≤ code / 256 ∧ code / 256 ≤ 6)) : pendBit code = 8 := if_neg h

theorem pendBit_lt (code : Nat) : pendBit code < 9 := by
  unfold pendBit
  split <;> omega

theorem raise_pend {n p code : Nat} {s : State} (hn : n ≤ 5) (hthrough : ∀ k < n, LetsThrough (pendBit code) s (Nat.repeat parent k p)) (detail : Nat) :
    (unitAt (raise p code detail s) (Nat.repeat parent n p)).pend.getLsbD (pendBit code) = true := by
  refine pendKept_noteDropped s.recorder.dropped _ _ _ ?_
  rw [raiseAs_pend]
  exact climb_pend (pendBit_lt code) code (Nat.lt_succ_of_le hn) hthrough

/-! ### Clearing -/

/-- A change made in each page of a list reads as made once in the pages listed, where making it again changes nothing. -/
theorem unitAt_forAll_modUnit {f : UnitRec → UnitRec} (hf : ∀ u, f (f u) = f u) (q : Nat) : ∀ (l : List Nat) (s : State),
    unitAt (forAll l (fun p t => modUnit p f t) s) q = if q ∈ l then f (unitAt s q) else unitAt s q
  | [], _ => (if_neg List.not_mem_nil).symm
  | p :: l, s => by
    change unitAt (forAll l (fun p t => modUnit p f t) (modUnit p f s)) q = _
    rw [unitAt_forAll_modUnit hf q l, unitAt_modUnit]
    by_cases hq : q = p
    · subst hq
      simp [hf]
    · simp [hq]

theorem clearPend_pend (p : Nat) (mask : BitVec 9) (s : State) (q : Nat) :
    (unitAt (clearPend p mask s) q).pend = if q ∈ descendants p then (unitAt s q).pend &&& ~~~mask else (unitAt s q).pend := by
  rw [clearPend, unitAt_forAll_modUnit fun u => by rw [BitVec.and_assoc, BitVec.and_self]]
  split <;> rfl

theorem exec_unitEvtPendClear {p : Nat} {s : State} (hp : pageExists p = true) (hreset : s.link.inReset = .none) (mask : BitVec 9) :
    exec (.unitEvtPendClear p mask) s = .next (clearPend p mask s) := by
  change execUnitEvtPendClear p mask s = _
  rw [execUnitEvtPendClear, if_pos hp, hostWrite, if_pos hreset]

/-! ### Writing the mask -/

theorem pendKept_showAbove : ∀ (n p : Nat) (b : BitVec 9) (s : State), PendKept s (showAbove n p b s)
  | 0, _, _, _ => .of_units rfl
  | n + 1, p, b, s => by
    rw [showAbove]
    split
    · exact .of_units rfl
    · exact (pendKept_modUnit_or (parent p) _ _ (fun _ => rfl) s).trans (pendKept_showAbove n (parent p) _ _)

/-- A bit given to a page's parent shows there where the page's mask lets it through. -/
theorem showAbove_pend {n p c : Nat} {b : BitVec 9} {s : State} (hthrough : LetsThrough c s p) (hb : b.getLsbD c = true) :
    (unitAt (showAbove (n + 1) p b s) (parent p)).pend.getLsbD c = true := by
  obtain ⟨htop, hmask⟩ := hthrough
  have hc : (b &&& ~~~(unitAt s p).mask).getLsbD c = true := by
    rw [BitVec.getLsbD_and, BitVec.getLsbD_not, hb, hmask, decide_eq_true (BitVec.lt_of_getLsbD hb)]
    rfl
  have hne : b &&& ~~~(unitAt s p).mask ≠ 0 := fun h => by
    rw [h, BitVec.ofNat_eq_ofNat, BitVec.getLsbD_zero] at hc
    exact Bool.false_ne_true hc
  rw [showAbove, if_neg (not_or.mpr ⟨htop, hne⟩)]
  refine pendKept_showAbove n (parent p) _ _ _ _ ?_
  rw [unitAt_modUnit, if_pos rfl, BitVec.getLsbD_or, hc, Bool.or_true]

/-- A pending bit whose mask bit is written 0 shows in the page above (R9, log entry 86). -/
theorem maskWrite_pend_parent {p c : Nat} {v : BitVec 32} {s : State} (htop : p ≠ modulePage) (hpend : (unitAt s p).pend.getLsbD c = true)
    (hv : v.getLsbD c = false) : (unitAt (maskWrite p v.toNat s) (parent p)).pend.getLsbD c = true := by
  refine showAbove_pend ⟨htop, ?_⟩ ?_
  · rw [unitAt_modUnit, if_pos rfl, BitVec.getLsbD_ofNat, BitVec.testBit_toNat, hv, Bool.and_false]
  · rw [unitAt_modUnit, if_pos rfl]
    exact hpend

/-- Settles O22: an event's bits are those of `climb`, which the rest of raising keeps; clearing again in a page changes nothing, so a write of 1 reads as made once
in every descendant; a write of the mask shows the bit in the parent (the model's choice, log entry 86), where showing it further up keeps it. -/
theorem raisedEventsSetAndClearPendingBits : Obligations.RaisedEventsSetAndClearPendingBits := by
  unfold Obligations.RaisedEventsSetAndClearPendingBits
  intro s p code detail
  refine ⟨fun hoff hlow hhigh => pendBit_common ⟨hoff, hlow, hhigh⟩, pendBit_other, fun n hn hthrough => raise_pend hn hthrough detail,
    pendKept_raise p code detail s, by simp only [raise_frame], fun hp hreset mask => ⟨_, exec_unitEvtPendClear hp hreset mask, clearPend_pend p mask s⟩,
    fun v c htop hpend hv => maskWrite_pend_parent htop hpend hv⟩

end Sys2Proof.Machine
end

section
/-!
SUPPORT. What every command keeps: the queue of waiting commands as it is, and a well formed job table well formed (R62). The relation and its rules.
-/
namespace Sys2Proof.Machine
open Sys2Proof Sys2Proof.Statements

/-! ### Job tables -/

theorem jobTable_of_jobs {s t : State} (hj : t.jobs = s.jobs) (h : JobTable s) : JobTable t := by
  unfold JobTable
  rw [hj]
  exact h

/-- A job put into a slot of R62 keeps the table well formed. -/
theorem jobTable_mput {s t : State} {k : Nat} {j : Job} (hk : k < Config.jobSlots) (hj : t.jobs = mput k j s.jobs) (h : JobTable s) : JobTable t := by
  obtain ⟨hrising, hslots⟩ := h
  unfold JobTable
  rw [hj]
  refine ⟨rising_mput hrising, fun i hi => ?_⟩
  obtain ⟨e, he, rfl⟩ := List.mem_map.mp hi
  rcases mem_mput he with rfl | he
  · exact hk
  · exact hslots _ (List.mem_map_of_mem he)

/-- A job slot set free keeps the table well formed. -/
theorem jobTable_merase {s t : State} {k : Nat} (hj : t.jobs = merase k s.jobs) (h : JobTable s) : JobTable t := by
  obtain ⟨hrising, hslots⟩ := h
  unfold JobTable
  rw [hj]
  refine ⟨rising_merase hrising, fun i hi => ?_⟩
  obtain ⟨e, he, rfl⟩ := List.mem_map.mp hi
  exact hslots _ (List.mem_map_of_mem (mem_merase he).1)

theorem keys_mapVals {β : Type} (f : Nat → β → β) (m : AMap β) : keys (mapVals f m) = keys m := by
  simp [keys, mapVals]

theorem rising_mapVals {β : Type} (f : Nat → β → β) (m : AMap β) : rising (mapVals f m) = rising m := by
  induction m with
  | nil => rfl
  | cons e m ih =>
    change (List.all (mapVals f m) (fun x => decide (e.1 < x.1)) && rising (mapVals f m)) = _
    rw [ih, mapVals, List.all_map]
    rfl

/-- A change of every job in its slot keeps the table well formed. -/
theorem jobTable_mapVals {s t : State} {f : Nat → Job → Job} (hj : t.jobs = mapVals f s.jobs) (h : JobTable s) : JobTable t := by
  unfold JobTable
  rw [hj, rising_mapVals, keys_mapVals]
  exact h

/-- A table with no job is well formed. -/
theorem jobTable_nil {t : State} (hj : t.jobs = []) : JobTable t := by
  unfold JobTable
  rw [hj]
  exact ⟨rfl, fun _ hk => nomatch hk⟩

theorem mem_keys_of_mfind {β : Type} {k : Nat} {v : β} {m : AMap β} (h : mfind k m = some v) : k ∈ keys m := by
  induction m with
  | nil => cases h
  | cons e m ih =>
    unfold mfind at h
    split at h
    · next hk => exact hk ▸ List.mem_cons_self
    · exact List.mem_cons_of_mem _ (ih h)

/-- A slot in use is one of the table's. -/
theorem slot_lt_of_jobTable {s : State} {k : Nat} {j : Job} (h : JobTable s) (hj : mfind k s.jobs = some j) : k < Config.jobSlots :=
  h.2 k (mem_keys_of_mfind hj)

/-- The lowest free slot is at most the number of slots in use (R62). -/
theorem freeSlot_le_length (s : State) : freeSlot s ≤ s.jobs.length := by
  have hcount : ∀ (l : List Nat) (n : Nat), l.foldl (fun n k => if n = k then n + 1 else n) n ≤ n + l.length := by
    intro l
    induction l with
    | nil => exact fun n => Nat.le_refl n
    | cons k l ih =>
      intro n
      refine Nat.le_trans (ih _) ?_
      simp only [List.length_cons]
      split <;> omega
  simpa [freeSlot, keys] using hcount (keys s.jobs) 0

theorem recordRead_jobs (block : Option Nat) (w : Nat) (s : State) : (recordRead block w s).jobs = s.jobs := by
  cases block <;> rfl

/-- An entry is admitted only where a job slot is free (R47, R62, R63). -/
theorem slotThere_of_verdict {s : State} {ch v : Nat} {e : Header} {slots : Bytes} {first : Option Nat} {l : List LedgerSwath}
    (h : verdict s ch v e slots = .admitAt first l) : slotThere s ch e.cls = true := by
  refine Decidable.byContradiction fun hno => ?_
  unfold verdict at h
  simp only [eq_false_of_ne_true hno, Bool.false_eq_true, not_false_eq_true, if_true] at h
  repeat' split at h
  all_goals cases h

theorem room_of_slotThere {s : State} {ch cls : Nat} (h : slotThere s ch cls = true) : s.jobs.length < Config.jobSlots := by
  unfold slotThere at h
  simp only [Bool.and_eq_true] at h
  obtain ⟨-, hfree⟩ := h
  split at hfree <;> simp only [decide_eq_true_eq] at hfree <;> omega

/-! ### The relation that every operation keeps -/

/-- From `s` to `t` the queue of waiting commands stays as it is, and a well formed job table stays well formed (R62). -/
structure Keeps (s t : State) : Prop where
  queue : t.pending = s.pending
  table : JobTable s → JobTable t

/-- The command is answered by a next state, which keeps the queue and the job table. -/
def Answers (s : State) (o : Res) : Prop := ∃ t, o = .next t ∧ Keeps s t

/-- An instruction that decides the next address itself, if this is one, keeps the queue and the job table in doing so. -/
def JumpKeeps (s : State) (jump : Option (State → State)) : Prop :=
  match jump with
  | some j => ∀ u, Keeps s u → Keeps s (j u)
  | none => True

section
variable {s t u : State}

theorem Keeps.refl (s : State) : Keeps s s := ⟨rfl, id⟩

/-- A change of other fields. -/
theorem Keeps.upd {units audit recorder msix link chans sched power keeper start keys sig cip rng vault fold flash contact reader ceremony
    stile sdc tenants cores gates sram sramTags dram boot rowFaults latches draws out} (h : Keeps s t) :
    Keeps s
      { units := units, audit := audit, recorder := recorder, msix := msix, link := link, chans := chans, jobs := t.jobs, sched := sched,
        power := power, keeper := keeper, start := start, keys := keys, sig := sig, cip := cip, rng := rng, vault := vault, fold := fold,
        flash := flash, contact := contact, reader := reader, ceremony := ceremony, stile := stile, sdc := sdc, tenants := tenants,
        cores := cores, gates := gates, sram := sram, sramTags := sramTags, dram := dram, boot := boot, rowFaults := rowFaults,
        latches := latches, draws := draws, out := out, pending := t.pending } :=
  ⟨h.queue, h.table⟩

/-- A change of every job in its slot, and of other fields. -/
theorem Keeps.mapJobs {f : Nat → Job → Job} {units audit recorder msix link chans sched power keeper start keys sig cip rng vault fold
    flash contact reader ceremony stile sdc tenants cores gates sram sramTags dram boot rowFaults latches draws out} (h : Keeps s t) :
    Keeps s
      { units := units, audit := audit, recorder := recorder, msix := msix, link := link, chans := chans, jobs := mapVals f t.jobs,
        sched := sched, power := power, keeper := keeper, start := start, keys := keys, sig := sig, cip := cip, rng := rng, vault := vault,
        fold := fold, flash := flash, contact := contact, reader := reader, ceremony := ceremony, stile := stile, sdc := sdc,
        tenants := tenants, cores := cores, gates := gates, sram := sram, sramTags := sramTags, dram := dram, boot := boot,
        rowFaults := rowFaults, latches := latches, draws := draws, out := out, pending := t.pending } :=
  ⟨h.queue, fun hs => jobTable_mapVals (s := t) rfl (h.table hs)⟩

/-- A job slot set free, and a change of other fields. -/
theorem Keeps.eraseJob {k : Nat} {units audit recorder msix link chans sched power keeper start keys sig cip rng vault fold flash contact
    reader ceremony stile sdc tenants cores gates sram sramTags dram boot rowFaults latches draws out} (h : Keeps s t) :
    Keeps s
      { units := units, audit := audit, recorder := recorder, msix := msix, link := link, chans := chans, jobs := merase k t.jobs,
        sched := sched, power := power, keeper := keeper, start := start, keys := keys, sig := sig, cip := cip, rng := rng, vault := vault,
        fold := fold, flash := flash, contact := contact, reader := reader, ceremony := ceremony, stile := stile, sdc := sdc,
        tenants := tenants, cores := cores, gates := gates, sram := sram, sramTags := sramTags, dram := dram, boot := boot,
        rowFaults := rowFaults, latches := latches, draws := draws, out := out, pending := t.pending } :=
  ⟨h.queue, fun hs => jobTable_merase (s := t) rfl (h.table hs)⟩

/-- Every job slot set free, and a change of other fields. -/
theorem Keeps.noJobs {units audit recorder msix link chans sched power keeper start keys sig cip rng vault fold flash contact reader
    ceremony stile sdc tenants cores gates sram sramTags dram boot rowFaults latches draws out} (h : Keeps s t) :
    Keeps s
      { units := units, audit := audit, recorder := recorder, msix := msix, link := link, chans := chans, jobs := [], sched := sched,
        power := power, keeper := keeper, start := start, keys := keys, sig := sig, cip := cip, rng := rng, vault := vault, fold := fold,
        flash := flash, contact := contact, reader := reader, ceremony := ceremony, stile := stile, sdc := sdc, tenants := tenants,
        cores := cores, gates := gates, sram := sram, sramTags := sramTags, dram := dram, boot := boot, rowFaults := rowFaults,
        latches := latches, draws := draws, out := out, pending := t.pending } :=
  ⟨h.queue, fun _ => jobTable_nil rfl⟩

theorem Keeps.ite {c : Prop} [Decidable c] (ht : Keeps s t) (hu : Keeps s u) : Keeps s (if c then t else u) := by
  split
  · exact ht
  · exact hu

theorem Answers.next (h : Keeps s t) : Answers s (.next t) := ⟨t, rfl, h⟩

theorem Keeps.of_snd {α : Type} {p : α × State} {a : α} (hp : p = (a, u)) (h : Keeps s p.2) : Keeps s u := by
  rw [hp] at h
  exact h

theorem forAll_keeps {α : Type} {l : List α} {f : α → State → State} (hf : ∀ a u, Keeps s u → Keeps s (f a u)) (h : Keeps s t) :
    Keeps s (forAll l f t) := forAll_ind hf l t h

theorem repeatIdx_keeps {n : Nat} {f : Nat → State → State} (hf : ∀ a u, Keeps s u → Keeps s (f a u)) (h : Keeps s t) :
    Keeps s (repeatIdx n f t) := repeatIdx_ind hf n t h

theorem foldl_keeps {α : Type} {l : List α} {f : State → α → State} (hf : ∀ u a, Keeps s u → Keeps s (f u a)) (h : Keeps s t) :
    Keeps s (l.foldl f t) := by
  induction l generalizing t with
  | nil => exact h
  | cons a l ih => exact ih (hf _ _ h)

theorem getD_keeps {o : Option State} (ho : ∀ v, o = some v → Keeps s v) (h : Keeps s t) : Keeps s (o.getD t) := by
  cases o with
  | none => exact h
  | some v => exact ho v rfl

end

end Sys2Proof.Machine

end

section
/-!
SUPPORT. Each operation of the model keeps the queue and the job table, in the order of their definitions: a rule per operation, which those that use it cite.
-/
namespace Sys2Proof.Machine
open Sys2Proof Sys2Proof.Statements
variable {s t u : State}

theorem modUnit_keeps {p f} (h : Keeps s t) : Keeps s (modUnit p f t) := .upd h

theorem setUnitState_keeps {p st cause} (h : Keeps s t) : Keeps s (setUnitState p st cause t) :=
  .ite h (forAll_keeps (fun _ _ hu => modUnit_keeps hu) (modUnit_keeps h))

theorem emit_keeps {o} (h : Keeps s t) : Keeps s (emit o t) := .upd h

theorem draw_keeps (h : Keeps s t) : Keeps s (draw t).2 := .upd h

theorem drawBytes_keeps {n} (h : Keeps s t) : Keeps s (drawBytes n t).2 := .upd h

theorem takeName_keeps (h : Keeps s t) : Keeps s (takeName t) := .upd h

theorem enqueue_keeps {rs} (h : Keeps s t) : Keeps s (enqueue rs t) := forAll_keeps (fun _ _ hu => .ite (.upd hu) (.upd hu)) h

theorem collect_keeps {tile flushed} (h : Keeps s t) : Keeps s (collect tile flushed t) := enqueue_keeps (.upd h)

theorem recordEvent_keeps {page unit code detail} (h : Keeps s t) : Keeps s (recordEvent page unit code detail t) :=
  .ite (.ite (.upd h) (.upd h)) (.ite (.ite (.ite (collect_keeps (.upd (.upd h))) (.upd (.upd h))) (.upd (.upd h))) (.upd h))

theorem climb_keeps {n p b code} (h : Keeps s t) : Keeps s (climb n p b code t) := by
  induction n generalizing p t with
  | zero => exact h
  | succ n ih => exact .ite (modUnit_keeps h) (ih (modUnit_keeps h))

theorem capture_keeps {p code detail} (h : Keeps s t) : Keeps s (capture p code detail t) := modUnit_keeps h

theorem raiseAs_keeps {p unit code detail} (h : Keeps s t) : Keeps s (raiseAs p unit code detail t) := by
  unfold raiseAs
  refine recordEvent_keeps ?_
  split
  · exact .ite (.upd (capture_keeps (climb_keeps h))) (capture_keeps (climb_keeps h))
  · exact capture_keeps (climb_keeps h)

theorem noteDropped_keeps {before} (h : Keeps s t) : Keeps s (noteDropped before t) := .ite h (raiseAs_keeps h)

theorem raise_keeps {p code detail} (h : Keeps s t) : Keeps s (raise p code detail t) := noteDropped_keeps (raiseAs_keeps h)

theorem raiseChan_keeps {ch code detail} (h : Keeps s t) : Keeps s (raiseChan ch code detail t) := noteDropped_keeps (raiseAs_keeps h)

theorem appendRec_keeps {b} (h : Keeps s t) : Keeps s (appendRec b t) := .upd h

theorem loseRec_keeps (h : Keeps s t) : Keeps s (loseRec t) := .ite (.upd h) (raise_keeps (.upd h))

theorem appendOrLose_keeps {b} (h : Keeps s t) : Keeps s (appendOrLose b t).2 := by
  unfold appendOrLose
  split
  · exact loseRec_keeps h
  · exact appendRec_keeps h

theorem appendReserved_keeps {b} (h : Keeps s t) : Keeps s (appendReserved b t) :=
  .ite (.ite (raise_keeps (.upd h)) (appendRec_keeps (.upd h))) (appendRec_keeps h)

theorem ceremony_keeps {code result subject custodian detail} (h : Keeps s t) : Keeps s (ceremony code result subject custodian detail t) :=
  appendOrLose_keeps h

theorem modCore_keeps {n f} (h : Keeps s t) : Keeps s (modCore n f t) := .upd h

theorem appendConfig_keeps {addr m width old new} (h : Keeps s t) : Keeps s (appendConfig addr m width old new t) :=
  .ite (.ite (appendRec_keeps (.upd h)) (appendRec_keeps h)) (appendOrLose_keeps h)

theorem audited_keeps {addr m width reg taken apply} (hf : ∀ u, Keeps s u → Keeps s (apply u)) (h : Keeps s t) :
    Keeps s (audited addr m width reg taken apply t) :=
  .ite h (.ite (raise_keeps h) (appendConfig_keeps (hf _ h)))

theorem hostWrite_keeps {apply} (hf : ∀ u, Keeps s u → Keeps s (apply u)) (h : Keeps s t) : Keeps s (hostWrite apply t) := .ite (hf _ h) h

theorem sendMsg_keeps {v} (h : Keeps s t) : Keeps s (sendMsg v t) := .ite (emit_keeps (.upd h)) (.ite h (.ite (raise_keeps (.upd h)) (.upd h)))

theorem sendHeld_keeps (h : Keeps s t) : Keeps s (sendHeld t) := .ite (forAll_keeps (fun _ _ hu => emit_keeps hu) (.upd h)) h

theorem clearRow_keeps {p} (h : Keeps s t) : Keeps s (clearRow p t) := .upd h

theorem clearRows_keeps {p n} (h : Keeps s t) : Keeps s (clearRows p n t) := .upd h

theorem modFlash_keeps {f} (h : Keeps s t) : Keeps s (modFlash f t) := .upd h

theorem modSector_keeps {n f} (h : Keeps s t) : Keeps s (modSector n f t) := modFlash_keeps h

theorem modPart_keeps {p f} (h : Keeps s t) : Keeps s (modPart p f t) := modFlash_keeps h

theorem putWord_keeps {i v} (h : Keeps s t) : Keeps s (putWord i v t) := modFlash_keeps (clearRow_keeps h)

theorem countCorrected_keeps {addr} (h : Keeps s t) : Keeps s (countCorrected addr t) := raise_keeps (modSector_keeps (modFlash_keeps h))

theorem clearSector_keeps {n} (h : Keeps s t) : Keeps s (clearSector n t) := modFlash_keeps (clearRows_keeps h)

theorem ledgerWord_keeps {body sector} (h : Keeps s t) : Keeps s (ledgerWord body sector t) := modSector_keeps (modFlash_keeps (putWord_keeps h))

theorem ownErase_keeps {log sec} (hf : ∀ a0 a1 u, Keeps s u → Keeps s (log a0 a1 u)) (h : Keeps s t) : Keeps s (ownErase log sec t) :=
  .ite h (modFlash_keeps (modSector_keeps (hf _ _ _ (clearSector_keeps (hf _ _ _ (draw_keeps h))))))

theorem ledgerTurn_keeps (h : Keeps s t) : Keeps s (ledgerTurn t) := by
  unfold ledgerTurn
  refine ownErase_keeps (fun _ _ _ hu => ledgerWord_keeps hu) (forAll_keeps (fun _ _ hu => ?_) h)
  split
  · exact ledgerWord_keeps (ledgerWord_keeps hu)
  · exact ledgerWord_keeps hu

theorem appendLedger_keeps {body sector} (h : Keeps s t) : Keeps s (appendLedger body sector t) := ledgerWord_keeps (.ite (ledgerTurn_keeps h) h)

theorem appendPair_keeps {first at_ word} (h : Keeps s t) : Keeps s (appendPair first at_ word t) :=
  .ite (ownErase_keeps (fun _ _ _ hu => appendLedger_keeps hu) (putWord_keeps h)) (putWord_keeps h)

theorem appendSelector_keeps {x} (h : Keeps s t) : Keeps s (appendSelector x t) := appendPair_keeps (modFlash_keeps h)

theorem appendCounters_keeps (h : Keeps s t) : Keeps s (appendCounters t) := appendPair_keeps (modFlash_keeps h)

theorem takeCounters_keeps {w} (h : Keeps s t) : Keeps s (takeCounters w t) := modFlash_keeps h

theorem readAreas_keeps (h : Keeps s t) : Keeps s (readAreas t) := by
  unfold readAreas
  split
  · exact .ite h (modFlash_keeps h)
  · exact takeCounters_keeps (.ite h (modFlash_keeps h))

theorem renewLatest_keeps {addr w} (h : Keeps s t) : Keeps s (renewLatest addr w t) := by
  unfold renewLatest
  split
  · exact .ite (appendSelector_keeps h) (.ite (appendCounters_keeps h) h)
  · exact h

theorem noteCorrected_keeps {addr w} (h : Keeps s t) : Keeps s (noteCorrected addr w t) := renewLatest_keeps (countCorrected_keeps h)

theorem noteArea_keeps {first n} (h : Keeps s t) : Keeps s (noteArea first n t) := forAll_keeps (fun _ _ hu => noteCorrected_keeps hu) h

theorem cfgWord_keeps {body} (h : Keeps s t) : Keeps s (cfgWord body t) := by
  unfold cfgWord
  exact modFlash_keeps (putWord_keeps h)

theorem cfgTurn_keeps (h : Keeps s t) : Keeps s (cfgTurn t) :=
  .ite (repeatIdx_keeps (fun _ _ hu => ownErase_keeps (fun _ _ _ hu1 => appendLedger_keeps hu1) hu) (forAll_keeps (fun _ _ hu => cfgWord_keeps hu) (modFlash_keeps h))) (forAll_keeps (fun _ _ hu => cfgWord_keeps hu) (modFlash_keeps h))

theorem configRecord_keeps {key record} (h : Keeps s t) : Keeps s (configRecord key record t) :=
  forAll_keeps (fun _ _ hu => cfgWord_keeps hu) (modFlash_keeps (.ite (cfgTurn_keeps h) h))

theorem eraseConfig_keeps (h : Keeps s t) : Keeps s (eraseConfig t) :=
  modFlash_keeps (repeatIdx_keeps (fun _ _ hu => ownErase_keeps (fun _ _ _ hu1 => appendLedger_keeps hu1) hu) h)

theorem noteRead_keeps {addr count} (h : Keeps s t) : Keeps s (noteRead addr count t) := by
  unfold noteRead
  refine repeatIdx_keeps (fun _ _ hu => ?_) h
  dsimp only
  split
  · exact .ite (noteCorrected_keeps hu) hu
  · exact hu

theorem modChan_keeps {n f} (h : Keeps s t) : Keeps s (modChan n f t) := .upd h

theorem alert_keeps {n b} (h : Keeps s t) : Keeps s (alert n b t) := modChan_keeps h

theorem halt_keeps {n result} (h : Keeps s t) : Keeps s (halt n result t) := raiseChan_keeps (alert_keeps (modChan_keeps h))

theorem settleLines_keeps {n} (h : Keeps s t) : Keeps s (settleLines n t) :=
  .ite h (forAll_keeps (fun _ _ hu => emit_keeps hu) (forAll_keeps (fun _ _ hu => emit_keeps hu) (modChan_keeps h)))

theorem evict_keeps {n} (h : Keeps s t) : Keeps s (evict n t) := settleLines_keeps (modChan_keeps h)

theorem settleAll_keeps (h : Keeps s t) : Keeps s (settleAll t) := forAll_keeps (fun _ _ hu => settleLines_keeps hu) h

theorem dropLines_keeps (h : Keeps s t) : Keeps s (dropLines t) := .upd h

theorem evictAll_keeps (h : Keeps s t) : Keeps s (evictAll t) :=
  .ite (dropLines_keeps (forAll_keeps (fun _ _ hu => forAll_keeps (fun _ _ hu1 => emit_keeps hu1) hu) h)) (dropLines_keeps h)

theorem tryQuiesce_keeps {n} (h : Keeps s t) : Keeps s (tryQuiesce n t) := .ite (raiseChan_keeps (alert_keeps (evict_keeps (modChan_keeps h)))) h

theorem readDirect_keeps {n ls} (h : Keeps s t) : Keeps s (readDirect n ls t) := forAll_keeps (fun _ _ hu => emit_keeps hu) (modChan_keeps h)

theorem examine_keeps {n} (h : Keeps s t) : Keeps s (examine n t) := by
  unfold examine
  refine .ite ?_ h
  extract_lets k pos
  split
  · exact h
  · refine .ite (halt_keeps h) ?_
    split
    · exact halt_keeps h
    · exact .ite h (modChan_keeps h)
    · exact .ite (halt_keeps h) (.ite (halt_keeps h) (.ite (halt_keeps h) (.ite (modChan_keeps h) (readDirect_keeps h))))

theorem takeHead_keeps {n} (h : Keeps s t) : Keeps s (takeHead n t) := by
  unfold takeHead
  dsimp only
  split
  · exact h
  · exact settleLines_keeps (modChan_keeps h)

theorem doorbell_keeps {n p} (h : Keeps s t) : Keeps s (doorbell n p t) :=
  .ite h (.ite (examine_keeps (readDirect_keeps (modChan_keeps h))) (halt_keeps h))

theorem ignorePush_keeps {n} (h : Keeps s t) : Keeps s (ignorePush n t) := raiseChan_keeps (modChan_keeps h)

theorem decidePush_keeps {n} (h : Keeps s t) : Keeps s (decidePush n t) := .ite (examine_keeps (modChan_keeps h)) (ignorePush_keeps h)

theorem resumeKept_keeps (h : Keeps s t) : Keeps s (resumeKept t) := by
  unfold resumeKept
  refine forAll_keeps (fun _ _ hu => ?_) h
  dsimp only
  split
  · exact doorbell_keeps (modChan_keeps (.ite (decidePush_keeps (settleLines_keeps hu)) (settleLines_keeps hu)))
  · exact examine_keeps (.ite (decidePush_keeps (settleLines_keeps hu)) (settleLines_keeps hu))

theorem enableChan_keeps {n} (h : Keeps s t) : Keeps s (enableChan n t) := by
  unfold enableChan
  dsimp only
  split
  · exact .ite (settleLines_keeps (modChan_keeps h)) (raiseChan_keeps (modChan_keeps h))
  · exact raiseChan_keeps h
  · exact h

theorem modEng_keeps {kind idx f} (h : Keeps s t) : Keeps s (modEng kind idx f t) := .upd h

theorem dropStep_keeps {slot step} (h : Keeps s t) : Keeps s (dropStep slot step t) := .upd h

theorem unbind_keeps {slot step} (h : Keeps s t) : Keeps s (unbind slot step t) := .upd h

theorem withdrawChan_keeps {n result} (h : Keeps s t) : Keeps s (withdrawChan n result t) :=
  forAll_keeps (fun _ _ hu => dropStep_keeps hu) (.mapJobs h)

theorem disableChan_keeps {n withdraw} (h : Keeps s t) : Keeps s (disableChan n withdraw t) := by
  unfold disableChan
  split
  · dsimp only
    split
    · exact h
    · exact tryQuiesce_keeps (withdrawChan_keeps (modChan_keeps h))
    · exact tryQuiesce_keeps (withdrawChan_keeps (modChan_keeps h))
    · exact tryQuiesce_keeps (withdrawChan_keeps (modChan_keeps h))
  · dsimp only
    split
    · exact h
    · exact tryQuiesce_keeps (modChan_keeps h)
    · exact tryQuiesce_keeps (modChan_keeps h)
    · exact h

theorem chanRefuse_keeps {n off} (h : Keeps s t) : Keeps s (chanRefuse n off t) := raiseChan_keeps h

theorem chanRing_keeps {n off f} (h : Keeps s t) : Keeps s (chanRing n off f t) := .ite (modChan_keeps h) (chanRefuse_keeps h)

theorem chanWriteWord_keeps {n off v} (h : Keeps s t) : Keeps s (chanWriteWord n off v t) := by
  unfold chanWriteWord
  split
  · exact .ite (enableChan_keeps (modChan_keeps h)) (disableChan_keeps (modChan_keeps h))
  · exact chanRing_keeps h
  · exact chanRing_keeps h
  · exact chanRing_keeps h
  · exact chanRing_keeps h
  · exact .ite h (.ite (doorbell_keeps h) (modChan_keeps h))
  · exact chanRing_keeps h
  · exact chanRing_keeps h
  · exact chanRing_keeps h
  · exact .ite (alert_keeps h) (.ite (tryQuiesce_keeps (modChan_keeps h)) (raiseChan_keeps (alert_keeps h)))
  · exact .ite (chanRefuse_keeps h) (chanRing_keeps h)
  · exact .ite (chanRefuse_keeps h) (modChan_keeps h)
  · exact .ite (chanRefuse_keeps (modChan_keeps h)) (modChan_keeps (modChan_keeps h))
  · exact modChan_keeps h
  · exact modChan_keeps h
  · exact h

theorem chanReadEffect_keeps {n off} (h : Keeps s t) : Keeps s (chanReadEffect n off t) := .ite (modChan_keeps h) h

theorem badAccess_keeps {addr} (h : Keeps s t) : Keeps s (badAccess addr t) := raise_keeps (.upd h)

theorem takeLine_keeps {ch pos line} (h : Keeps s t) : Keeps s (takeLine ch pos line t) :=
  .ite (modChan_keeps h) (.ite (modChan_keeps (modChan_keeps h)) (.ite (emit_keeps (modChan_keeps h)) (modChan_keeps h)))

theorem execRingLineReadDone_keeps {ch index data status why} (h : Keeps s t) : Answers s (execRingLineReadDone ch index data status why t) := by
  unfold execRingLineReadDone
  refine .next (.ite h (.ite (.ite (halt_keeps (takeLine_keeps (.ite (raise_keeps (.upd h)) h))) ?_) (examine_keeps (takeLine_keeps (.ite (raise_keeps (.upd h)) h)))))
  split
  · exact halt_keeps (takeLine_keeps (.ite (raise_keeps (.upd h)) h))
  · exact takeLine_keeps (.ite (raise_keeps (.upd h)) h)

theorem execPushWrite_keeps {ch off data} (h : Keeps s t) : Answers s (execPushWrite ch off data t) :=
  .next (.ite h (.ite (badAccess_keeps h) (.ite (.ite (decidePush_keeps (modChan_keeps (.ite (ignorePush_keeps h) h))) (modChan_keeps (modChan_keeps (.ite (ignorePush_keeps h) h)))) (modChan_keeps (.ite (ignorePush_keeps h) h)))))

theorem execPushAssemblyTimeout_keeps {ch} (h : Keeps s t) : Answers s (execPushAssemblyTimeout ch t) := .next (.ite h (ignorePush_keeps h))

theorem execChnSqDoorbell_keeps {ch value} (h : Keeps s t) : Answers s (execChnSqDoorbell ch value t) :=
  .next (hostWrite_keeps (fun _ hu => chanWriteWord_keeps hu) h)

theorem execChnCqHead_keeps {ch value} (h : Keeps s t) : Answers s (execChnCqHead ch value t) :=
  .next (hostWrite_keeps (fun _ hu => chanWriteWord_keeps hu) h)

theorem chanAuditedWrite_keeps {m n off v} (h : Keeps s t) : Keeps s (chanAuditedWrite m n off v t) :=
  audited_keeps (fun _ hu => chanWriteWord_keeps hu) h

theorem execChnEnable_keeps {m ch} (h : Keeps s t) : Answers s (execChnEnable m ch t) := .next (chanAuditedWrite_keeps h)

theorem execChnDisableDrain_keeps {m ch} (h : Keeps s t) : Answers s (execChnDisableDrain m ch t) := .next (chanAuditedWrite_keeps h)

theorem execChnDisableWithdraw_keeps {m ch} (h : Keeps s t) : Answers s (execChnDisableWithdraw m ch t) := .next (chanAuditedWrite_keeps h)

theorem execSnoopInv_keeps {ch line} (h : Keeps s t) : Answers s (execSnoopInv ch line t) :=
  .next (.ite (.ite (emit_keeps (emit_keeps (modChan_keeps (.upd h)))) (emit_keeps (modChan_keeps (.upd h)))) (emit_keeps h))

theorem execSnoopData_keeps {ch line} (h : Keeps s t) : Answers s (execSnoopData ch line t) := .next (.ite (emit_keeps h) (emit_keeps h))

theorem modJob_keeps {slot f} (h : Keeps s t) : Keeps s (modJob slot f t) := by
  unfold modJob
  split
  · next hj => exact ⟨h.queue, fun hs => jobTable_mput (slot_lt_of_jobTable (h.table hs) hj) rfl (h.table hs)⟩
  · exact h

theorem modStep_keeps {slot i f} (h : Keeps s t) : Keeps s (modStep slot i f t) := modJob_keeps h

theorem dropLedger_keeps {slot} (h : Keeps s t) : Keeps s (dropLedger slot t) := .upd h

theorem dropEntries_keeps {slot first} (h : Keeps s t) : Keeps s (dropEntries slot first t) := .upd h

theorem finishJob_keeps {slot result} (h : Keeps s t) : Keeps s (finishJob slot result t) := modJob_keeps (dropLedger_keeps (dropStep_keeps h))

theorem writePieces_keeps {a bs} (h : Keeps s t) : Keeps s (writePieces a bs t) := forAll_keeps (fun _ _ hu => emit_keeps hu) h

theorem sendOutput_keeps {slot} (h : Keeps s t) : Keeps s (sendOutput slot t) := by
  unfold sendOutput
  split
  · exact h
  · exact .ite h (emit_keeps (writePieces_keeps (modJob_keeps h)))

theorem writeOutput_keeps {slot result bs} (h : Keeps s t) : Keeps s (writeOutput slot result bs t) := sendOutput_keeps (modJob_keeps h)

theorem advanceJob_keeps {slot} (h : Keeps s t) : Keeps s (advanceJob slot t) := by
  unfold advanceJob
  split
  · exact h
  · refine .ite h ?_
    split
    · exact .ite h (.ite (writeOutput_keeps (dropLedger_keeps h)) (finishJob_keeps h))
    · exact .ite (.ite (finishJob_keeps h) (.ite (finishJob_keeps h) (.ite (finishJob_keeps h) (writeOutput_keeps (dropLedger_keeps h))))) h

theorem countSession_keeps {j result} (h : Keeps s t) : Keeps s (countSession j result t) := .ite (.upd h) h

theorem endStep_keeps {slot i d} (h : Keeps s t) : Keeps s (endStep slot i d t) := by
  unfold endStep
  split
  · exact h
  · exact advanceJob_keeps (.ite (modJob_keeps (countSession_keeps (modStep_keeps h))) (countSession_keeps (modStep_keeps h)))

theorem failStep_keeps {slot i result} (h : Keeps s t) : Keeps s (failStep slot i result t) := endStep_keeps (dropStep_keeps h)

theorem abortJob_keeps {slot result} (h : Keeps s t) : Keeps s (abortJob slot result t) := by
  unfold abortJob
  split
  · exact .ite h (finishJob_keeps h)
  · exact h

theorem endWithdrawn_keeps {slot result} (h : Keeps s t) : Keeps s (endWithdrawn slot result t) := by
  unfold endWithdrawn
  split
  · exact .ite h (modJob_keeps (finishJob_keeps h))
  · exact h

theorem moveEntries_keeps {first moves slot} (h : Keeps s t) : Keeps s (moveEntries first moves slot t) := .upd h

theorem useMargin_keeps {first moves slot} (h : Keeps s t) : Keeps s (useMargin first moves slot t) := by
  unfold useMargin
  split
  · exact h
  · exact .ite h (.ite (abortJob_keeps h) (raise_keeps (moveEntries_keeps (.ite (repeatIdx_keeps (fun _ _ hu => .ite (unbind_keeps (modStep_keeps hu)) hu) (modJob_keeps (.upd h))) (modJob_keeps (.upd h))))))

theorem askInput_keeps {slot} (h : Keeps s t) : Keeps s (askInput slot t) := by
  unfold askInput
  split
  · exact h
  · exact .ite h (emit_keeps (modJob_keeps h))

theorem withdrawJob_keeps {result slot} (h : Keeps s t) : Keeps s (withdrawJob result slot t) := by
  unfold withdrawJob
  split
  · exact .ite h (dropStep_keeps (modJob_keeps h))
  · exact h

theorem postEntry_keeps {n cookie sqIndex result flags outLen auditSeq} (h : Keeps s t) : Keeps s (postEntry n cookie sqIndex result flags outLen auditSeq t) :=
  emit_keeps (modChan_keeps h)

theorem wholeLines_keeps {before} (h : Keeps s t) : Keeps s (wholeLines before t) := .upd h

theorem postItem_keeps {n x} (h : Keeps s t) : Keeps s (postItem n x t) := by
  have h1 : Keeps s (postEntry n x.cookie x.sqIndex x.result x.flags x.outLen (if x.result = 0x0B01 then (0, t) else appendOrLose x.record t).1
      (if x.result = 0x0B01 then (0, t) else appendOrLose x.record t).2) := by
    refine postEntry_keeps ?_
    split
    · exact h
    · exact appendOrLose_keeps h
  refine modChan_keeps ?_
  split
  · exact .eraseJob h1
  · exact modChan_keeps h1

theorem postGroup_keeps {n room l} (h : Keeps s t) : Keeps s (postGroup n room l t) := forAll_keeps (fun _ _ hu => .ite (postItem_keeps hu) hu) h

theorem windrow_keeps {n} (h : Keeps s t) : Keeps s (windrow n t) := by
  unfold windrow
  refine .ite (wholeLines_keeps (postGroup_keeps ?_)) (.ite (wholeLines_keeps (postGroup_keeps ?_)) (raiseChan_keeps (alert_keeps (wholeLines_keeps (postGroup_keeps ?_)))))
  · split
    · exact .ite (modChan_keeps (postEntry_keeps (postGroup_keeps h))) (postGroup_keeps h)
    · exact postGroup_keeps h
  · split
    · exact .ite (modChan_keeps (postEntry_keeps (postGroup_keeps h))) (postGroup_keeps h)
    · exact postGroup_keeps h
  · split
    · exact .ite (modChan_keeps (postEntry_keeps (postGroup_keeps h))) (postGroup_keeps h)
    · exact postGroup_keeps h

theorem modPort_keeps {p f} (h : Keeps s t) : Keeps s (modPort p f t) := .upd h

theorem formRoot_keeps (h : Keeps s t) : Keeps s (formRoot t) := .upd h

theorem advanceMark_keeps (h : Keeps s t) : Keeps s (advanceMark t) := .ite (raise_keeps (.upd h)) h

theorem grantNonces_keeps {holder} (h : Keeps s t) : Keeps s (grantNonces holder t) := by
  unfold grantNonces
  extract_lets n
  exact .ite (raise_keeps h) (.ite (advanceMark_keeps (.upd h)) (advanceMark_keeps h))

/-- The next value of a holder whose first block is `(n, e)`, and the state that has taken it (R387). -/
def nonceTaken (holder n e : Nat) (rest : List (Nat × Nat)) (s : State) : Bytes × State :=
  (beBytes 4 s.cip.noncePrefix.toNat ++ beBytes 8 n, { s with cip := { s.cip with holders := mput holder ((n + 1, e) :: rest) s.cip.holders } })

theorem takeNonce_of_cons {holder n e rest} (h : holderBlocks s holder = (n, e) :: rest) : takeNonce holder s = some (nonceTaken holder n e rest s) := by
  simp only [takeNonce, h, nonceTaken]

-- `grantNonces` stands as a variable in a lemma of its own here: unfolded, its sums with 2^20 and 2^32 are too deep for the kernel.
theorem takeNonce_of_granted {holder n e rest} (h : holderBlocks s holder = []) (hg : holderBlocks (grantNonces holder s) holder = (n, e) :: rest) :
    takeNonce holder s = some (nonceTaken holder n e rest (grantNonces holder s)) := by
  unfold takeNonce
  generalize grantNonces holder s = g at hg ⊢
  as_aux_lemma => simp only [h, hg, nonceTaken]

theorem takeNonce_of_none {holder} (h : holderBlocks s holder = []) (hg : holderBlocks (grantNonces holder s) holder = []) :
    takeNonce holder s = none := by
  unfold takeNonce
  generalize grantNonces holder s = g at hg
  as_aux_lemma => simp only [h, hg]

theorem nonceTaken_keeps {holder n e rest} (h : Keeps s t) : Keeps s (nonceTaken holder n e rest t).2 := .upd h

theorem takeNonce_keeps {holder} (h : Keeps s t) : ∀ v, takeNonce holder t = some v → Keeps s v.2 := by
  intro v hv
  cases ht : holderBlocks t holder with
  | cons b rest =>
    rw [takeNonce_of_cons ht] at hv
    exact Option.some.inj hv ▸ nonceTaken_keeps h
  | nil =>
    have hg := grantNonces_keeps (holder := holder) h
    cases hu : holderBlocks (grantNonces holder t) holder with
    | cons b rest =>
      rw [takeNonce_of_granted ht hu] at hv
      generalize grantNonces holder t = g at hg hv
      exact Option.some.inj hv ▸ nonceTaken_keeps hg
    | nil =>
      rw [takeNonce_of_none ht hu] at hv
      cases hv

theorem sealKey_keeps {k fresh} (h : Keeps s t) : ∀ v, sealKey k fresh t = some v → Keeps s v.2 := by
  intro v hv
  obtain ⟨n, hn, rfl⟩ := Option.map_eq_some_iff.mp hv
  exact takeNonce_keeps h n hn

theorem putKey_keeps {b k} (h : Keeps s t) : Keeps s (putKey b k t) := .upd h

theorem storeKey_keeps {b k} (h : Keeps s t) : Keeps s (storeKey b k t) := by
  unfold storeKey
  split
  · exact putKey_keeps (sealKey_keeps h _ ‹_›)
  · exact h

theorem reseal_keeps {b f} (h : Keeps s t) : Keeps s (reseal b f t) := by
  unfold reseal
  split
  · exact h
  · split
    · exact putKey_keeps (sealKey_keeps h _ ‹_›)
    · exact h

theorem modBay_keeps {b f} (h : Keeps s t) : Keeps s (modBay b f t) := .upd h

theorem touchBay_keeps {b k} (h : Keeps s t) : Keeps s (touchBay b k t) := modBay_keeps h

theorem askFill_keeps {b k} (h : Keeps s t) : Keeps s (askFill b k t) := .ite (modBay_keeps h) (.upd (modBay_keeps h))

theorem fetchKey_keeps {b k} (h : Keeps s t) : Keeps s (fetchKey b k t) := .ite (touchBay_keeps h) (askFill_keeps h)

theorem intoBay_keeps {b k count pinned} (h : Keeps s t) : Keeps s (intoBay b k count pinned t) := modBay_keeps h

theorem intoCache_keeps {k} (h : Keeps s t) : Keeps s (intoCache k t) := .ite h (.upd h)

theorem dropFromBays_keeps {k} (h : Keeps s t) : Keeps s (dropFromBays k t) := .upd h

theorem destroyKey_keeps {k} (h : Keeps s t) : Keeps s (destroyKey k t) :=
  .upd (dropFromBays_keeps (.ite (configRecord_keeps (.ite (configRecord_keeps h) h)) (.ite (configRecord_keeps h) h)))

theorem loadBay_keeps {b k y} (h : Keeps s t) : Keeps s (loadBay b k y t) := intoBay_keeps h

theorem pinKey_keeps {b k} (h : Keeps s t) : Keeps s (pinKey b k t) := forAll_keeps (fun _ _ hu => loadBay_keeps hu) (configRecord_keeps (.upd h))

theorem unpinKey_keeps {b} (h : Keeps s t) : Keeps s (unpinKey b t) := .upd (.ite (configRecord_keeps h) h)

theorem closeSession_keeps {n} (h : Keeps s t) : Keeps s (closeSession n t) := .upd h

theorem closeSessionsOf_keeps {app} (h : Keeps s t) : Keeps s (closeSessionsOf app t) := .upd h

theorem sessionAdmit_keeps {x0 slots} (h : Keeps s t) : Keeps s (sessionAdmit x0 slots t).2.2 := by
  unfold sessionAdmit
  split
  · exact h
  · dsimp only
    split
    · exact h
    · split
      · exact .ite (raise_keeps (closeSession_keeps h)) (.upd h)
      · split
        · exact .ite (raise_keeps (closeSession_keeps h)) (.upd h)
        · split
          · exact h
          · split
            · exact closeSession_keeps h
            · exact .upd h

theorem rngTake_keeps {n} (h : Keeps s t) : Keeps s (rngTake n t) := .upd h

theorem makeRoom_keeps {n b ix} (h : Keeps s t) : Keeps s (makeRoom n b ix t).2 := by
  induction n generalizing b ix t with
  | zero => exact h
  | succ n ih =>
    unfold makeRoom
    dsimp only
    split
    · exact h
    · split
      · exact draw_keeps h
      · split <;> exact ih (draw_keeps h)

theorem indexInsert_keeps {ix spillTable key x3 leaf quarter} (h : Keeps s t) : Keeps s (indexInsert ix spillTable key x3 leaf quarter t).2 := by
  unfold indexInsert
  split
  · split
    · dsimp only
      split <;> exact h
    · split
      · dsimp only
        split <;> exact h
      · dsimp only
        split
        · exact h
        · split <;> exact makeRoom_keeps h
  · split
    · dsimp only
      split <;> exact h
    · split
      · dsimp only
        split <;> exact h
      · dsimp only
        split
        · exact h
        · split <;> exact makeRoom_keeps h

theorem boundStore_keeps {x} (h : Keeps s t) : Keeps s (boundStore x t) := .upd h

theorem admitJob_keeps {ch hdr slots first} (h : Keeps s t) (hroom : t.jobs.length < Config.jobSlots) : Keeps s (admitJob ch hdr slots first t) := by
  have h1 : Keeps s (takeHead ch (sessionAdmit hdr slots t).2.2) := takeHead_keeps (sessionAdmit_keeps h)
  have hput : ∀ {j u}, u.pending = (takeHead ch (sessionAdmit hdr slots t).2.2).pending →
      u.jobs = mput (freeSlot t) j (takeHead ch (sessionAdmit hdr slots t).2.2).jobs → Keeps s u := fun hq hj =>
    ⟨hq.trans h1.queue, fun hs => jobTable_mput (Nat.lt_of_le_of_lt (freeSlot_le_length t) hroom) hj (h1.table hs)⟩
  exact .ite (askInput_keeps (hput rfl rfl)) (hput rfl rfl)

theorem refuse_keeps {ch x1 slots result} (h : Keeps s t) : Keeps s (refuse ch x1 slots result t) :=
  .ite (raiseChan_keeps (modChan_keeps (takeHead_keeps h))) (modChan_keeps (takeHead_keeps h))

theorem countRefused_keeps (h : Keeps s t) : Keeps s (countRefused t) := .upd h

theorem recordRead_keeps {block w} (h : Keeps s t) : Keeps s (recordRead block w t) := by
  unfold recordRead
  split
  · exact .upd h
  · exact h

theorem fetchPair_keeps {x0 slots} (h : Keeps s t) : Keeps s (fetchPair x0 slots t) := .ite (forAll_keeps (fun _ _ hu => emit_keeps (.upd hu)) h) h

theorem passTurn_keeps {ch} (h : Keeps s t) : Keeps s (passTurn ch t) := .upd h

theorem skipHead_keeps {ch} (h : Keeps s t) : Keeps s (skipHead ch t) := tryQuiesce_keeps (examine_keeps (takeHead_keeps h))

theorem decideEntry_keeps {ch e} (h : Keeps s t) : Keeps s (decideEntry ch e t) := by
  unfold decideEntry
  dsimp only
  split
  · exact h
  · exact refuse_keeps (countRefused_keeps (raise_keeps (.upd h)))
  · exact refuse_keeps (.ite (countRefused_keeps (.ite (fetchPair_keeps h) h)) h)
  · next hv =>
    have hroom := room_of_slotThere (slotThere_of_verdict hv)
    refine admitJob_keeps (.ite (.upd (recordRead_keeps (.upd h))) (recordRead_keeps (.upd h))) ?_
    split <;> rwa [recordRead_jobs]

theorem decideHead_keeps {ch} (h : Keeps s t) : Keeps s (decideHead ch t) := by
  unfold decideHead
  refine .ite h ?_
  split
  · exact h
  · exact .ite (skipHead_keeps (passTurn_keeps h)) (.ite (withdrawChan_keeps (examine_keeps (decideEntry_keeps (passTurn_keeps h)))) (tryQuiesce_keeps (examine_keeps (decideEntry_keeps (passTurn_keeps h)))))

theorem execJobAdmission_keeps {ch delay} (h : Keeps s t) : Answers s (execJobAdmission ch delay t) :=
  .next (decideHead_keeps (.ite (raise_keeps h) h))

theorem execOpSkip_keeps {ch} (h : Keeps s t) : Answers s (execOpSkip ch t) := by
  unfold execOpSkip
  refine .next ?_
  split
  · exact .ite (decideHead_keeps h) h
  · exact h

theorem execOutputConfirmed_keeps {slot accepted} (h : Keeps s t) : Answers s (execOutputConfirmed slot accepted t) := by
  unfold execOutputConfirmed
  refine .next ?_
  split
  · exact h
  · exact .ite h (.ite (modJob_keeps h) (emit_keeps (raise_keeps (raise_keeps (draw_keeps (.upd (modJob_keeps h)))))))

theorem writeBack_keeps {p page r} (h : Keeps s t) : Keeps s (writeBack p page r t) := .ite (raise_keeps (clearRow_keeps h)) h

theorem modDomain_keeps {d f} (h : Keeps s t) : Keeps s (modDomain d f t) := .upd h

theorem gateCache_keeps (h : Keeps s t) : Keeps s (gateCache t) := .ite (modDomain_keeps (setUnitState_keeps h)) h

theorem loseParked_keeps {kind idx} (h : Keeps s t) : Keeps s (loseParked kind idx t) := by
  unfold loseParked
  split
  · exact h
  · exact .ite (raise_keeps (withdrawJob_keeps (modEng_keeps h))) (withdrawJob_keeps (modEng_keeps h))

theorem loseRunning_keeps {kind idx} (h : Keeps s t) : Keeps s (loseRunning kind idx t) :=
  forAll_keeps (fun _ _ hu => .ite (useMargin_keeps hu) (withdrawJob_keeps hu)) h

theorem failUnit_keeps {p} (h : Keeps s t) : Keeps s (failUnit p t) := by
  unfold failUnit
  refine .ite h ?_
  split
  · split
    · exact raise_keeps (raise_keeps (setUnitState_keeps (loseRunning_keeps (loseParked_keeps h))))
    · exact raise_keeps (setUnitState_keeps (loseRunning_keeps (loseParked_keeps h)))
  · split
    · exact raise_keeps (raise_keeps (setUnitState_keeps h))
    · exact raise_keeps (setUnitState_keeps h)

theorem settleUnit_keeps {p} (h : Keeps s t) : Keeps s (settleUnit p t) := .ite (raise_keeps (modUnit_keeps (setUnitState_keeps h))) h

theorem withdrawUnitJobs_keeps {p} (h : Keeps s t) : Keeps s (withdrawUnitJobs p t) := by
  unfold withdrawUnitJobs
  split
  · exact h
  · exact modUnit_keeps (forAll_keeps (fun _ _ hu => withdrawJob_keeps hu) h)

theorem isolateUnit_keeps {p cause} (h : Keeps s t) : Keeps s (isolateUnit p cause t) := .ite h (raise_keeps (setUnitState_keeps h))

theorem releaseUnit_keeps {p} (h : Keeps s t) : Keeps s (releaseUnit p t) := .ite h (.ite (setUnitState_keeps h) (setUnitState_keeps h))

theorem modRegs_keeps {n f} (h : Keeps s t) : Keeps s (modRegs n f t) := modCore_keeps h

theorem setTag_keeps {n a v} (h : Keeps s t) : Keeps s (setTag n a v t) := by
  unfold setTag
  split
  · exact modCore_keeps h
  · exact .upd h
  · exact h

theorem mendRow_keeps {n a} (h : Keeps s t) : Keeps s (mendRow n a t) := by
  unfold mendRow
  split
  · exact .ite h (writeBack_keeps h)
  · exact h

theorem clearRowAt_keeps {n a} (h : Keeps s t) : Keeps s (clearRowAt n a t) := by
  unfold clearRowAt
  split
  · exact clearRow_keeps h
  · exact h

theorem memPut_keeps {n a b} (h : Keeps s t) : Keeps s (memPut n a b t) := by
  unfold memPut
  split
  · exact modCore_keeps h
  · exact .upd h
  · exact .upd h
  · exact h

theorem memWrite_keeps {n a bs} (h : Keeps s t) : Keeps s (memWrite n a bs t) := forAll_keeps (fun _ _ hu => memPut_keeps (clearRowAt_keeps hu)) h

theorem memPutCap_keeps {n a c} (h : Keeps s t) : Keeps s (memPutCap n a c t) := setTag_keeps (memWrite_keeps h)

theorem wipeContext_keeps {n ctx} (h : Keeps s t) : Keeps s (wipeContext n ctx t) := modCore_keeps h

theorem modGate_keeps {m f} (h : Keeps s t) : Keeps s (modGate m f t) := .upd h

theorem gateRefuse_keeps {m page right addr user dma} (h : Keeps s t) : Keeps s (gateRefuse m page right addr user dma t) :=
  raise_keeps (modGate_keeps h)

theorem dmaWrite_keeps {m a n} (h : Keeps s t) : Keeps s (dmaWrite m a n t).2 := by
  unfold dmaWrite
  split
  · exact h
  · exact gateRefuse_keeps h

theorem popStore_keeps {n} (h : Keeps s t) : Keeps s (popStore n t) := modCore_keeps h

theorem stall_keeps {n} (h : Keeps s t) : Keeps s (stall n t) := modCore_keeps h

theorem writeFrame_keeps {n f r pc v info addr detail} (h : Keeps s t) : Keeps s (writeFrame n f r pc v info addr detail t) :=
  forAll_keeps (fun _ _ hu => setTag_keeps hu) (repeatIdx_keeps (fun _ _ hu => setTag_keeps hu) (memWrite_keeps h))

theorem haltCore_keeps {n} (h : Keeps s t) : Keeps s (haltCore n t) :=
  raise_keeps (failUnit_keeps (modCore_keeps (wipeContext_keeps (wipeContext_keeps (forAll_keeps (fun _ _ hu => withdrawJob_keeps hu) h)))))

theorem endInvocation_keeps {n result} (h : Keeps s t) : Keeps s (endInvocation n result t) := by
  unfold endInvocation
  split
  · exact h
  · exact wipeContext_keeps (failStep_keeps (modCore_keeps h))

theorem takeException_keeps {n v pc info addr detail} (h : Keeps s t) : Keeps s (takeException n v pc info addr detail t) :=
  .ite (haltCore_keeps (modCore_keeps (.ite (endInvocation_keeps (.ite (raise_keeps (raise_keeps (.ite (raise_keeps h) h))) (raise_keeps (.ite (raise_keeps h) h)))) (.ite (raise_keeps h) h)))) (.ite (modRegs_keeps (writeFrame_keeps (modCore_keeps (.ite (endInvocation_keeps (.ite (raise_keeps (raise_keeps (.ite (raise_keeps h) h))) (raise_keeps (.ite (raise_keeps h) h)))) (.ite (raise_keeps h) h))))) (.ite (modRegs_keeps (writeFrame_keeps (raise_keeps (.ite (raise_keeps (modCore_keeps (.ite (endInvocation_keeps (.ite (raise_keeps (raise_keeps (.ite (raise_keeps h) h))) (raise_keeps (.ite (raise_keeps h) h)))) (.ite (raise_keeps h) h)))) (modCore_keeps (.ite (endInvocation_keeps (.ite (raise_keeps (raise_keeps (.ite (raise_keeps h) h))) (raise_keeps (.ite (raise_keeps h) h)))) (.ite (raise_keeps h) h))))))) (haltCore_keeps (modCore_keeps (.ite (endInvocation_keeps (.ite (raise_keeps (raise_keeps (.ite (raise_keeps h) h))) (raise_keeps (.ite (raise_keeps h) h)))) (.ite (raise_keeps h) h))))))

theorem counted_keeps {n} (h : Keeps s t) : Keeps s (counted n t) := modCore_keeps h

theorem raiseCause_keeps {x k} (h : Keeps s t) : Keeps s (raiseCause x k t) :=
  .ite (stall_keeps h) (takeException_keeps (.ite (raise_keeps (.ite (gateRefuse_keeps h) h)) (.ite (gateRefuse_keeps h) h)))

theorem issue_keeps {x sh causes wait act jump} (hf : ∀ u, Keeps s u → Keeps s (act u)) (hj : JumpKeeps s jump) (h : Keeps s t) :
    Answers s (issue x sh causes wait act jump t) := by
  unfold issue
  refine .next ?_
  have h1 : Keeps s (if x.clock < 25000 then { t with sched := { t.sched with clock := BitVec.ofNat 15 x.clock } } else t) := .ite (.upd h) h
  generalize (if x.clock < 25000 then { t with sched := { t.sched with clock := BitVec.ofNat 15 x.clock } } else t) = t1 at h1
  dsimp only
  refine .ite h ?_
  split
  · exact .ite (takeException_keeps (modCore_keeps h1)) (stall_keeps h1)
  · exact takeException_keeps (modCore_keeps h1)
  · refine .ite (.ite (takeException_keeps h1) (stall_keeps h1)) ?_
    split
    · exact raiseCause_keeps h1
    · refine .ite (stall_keeps h1) (.ite ?_ (modRegs_keeps (counted_keeps h1)))
      split
      · exact counted_keeps (hj _ h1)
      · exact modRegs_keeps (counted_keeps (hf _ h1))

theorem issueRegs_keeps {x f} (h : Keeps s t) : Answers s (issueRegs x f t) := issue_keeps (fun _ hu => modRegs_keeps hu) trivial h

theorem fetched_keeps {mnemonic operands x r} (h : Keeps s t) (hr : Answers s r) : Answers s (fetched mnemonic operands x t r) := by
  unfold fetched
  split
  · exact hr
  · exact .next h

theorem issueG_keeps {x rd l f} (h : Keeps s t) : Answers s (issueG x rd l f t) := issueRegs_keeps h

theorem execAmMovS_keeps {x rd rs} (h : Keeps s t) : Answers s (execAmMovS x rd rs t) := fetched_keeps h (issueG_keeps h)

theorem execAmAddS_keeps {x rd rs} (h : Keeps s t) : Answers s (execAmAddS x rd rs t) := fetched_keeps h (issueG_keeps h)

theorem execAmSubS_keeps {x rd rs} (h : Keeps s t) : Answers s (execAmSubS x rd rs t) := fetched_keeps h (issueG_keeps h)

theorem execAmNopS_keeps {x} (h : Keeps s t) : Answers s (execAmNopS x t) := fetched_keeps h (issueRegs_keeps h)

theorem execAmIncS_keeps {x rd} (h : Keeps s t) : Answers s (execAmIncS x rd t) := fetched_keeps h (issueG_keeps h)

theorem execAmDecS_keeps {x rd} (h : Keeps s t) : Answers s (execAmDecS x rd t) := fetched_keeps h (issueG_keeps h)

theorem execAmNotS_keeps {x rd} (h : Keeps s t) : Answers s (execAmNotS x rd t) := fetched_keeps h (issueG_keeps h)

theorem execAmNegS_keeps {x rd} (h : Keeps s t) : Answers s (execAmNegS x rd t) := fetched_keeps h (issueG_keeps h)

theorem execAmShl1S_keeps {x rd} (h : Keeps s t) : Answers s (execAmShl1S x rd t) := fetched_keeps h (issueG_keeps h)

theorem execAmShr1S_keeps {x rd} (h : Keeps s t) : Answers s (execAmShr1S x rd t) := fetched_keeps h (issueG_keeps h)

theorem execAmClrS_keeps {x rd} (h : Keeps s t) : Answers s (execAmClrS x rd t) := fetched_keeps h (issueG_keeps h)

theorem execAmAdd_keeps {x rd rs1 rs2} (h : Keeps s t) : Answers s (execAmAdd x rd rs1 rs2 t) := fetched_keeps h (issueG_keeps h)

theorem execAmSub_keeps {x rd rs1 rs2} (h : Keeps s t) : Answers s (execAmSub x rd rs1 rs2 t) := fetched_keeps h (issueG_keeps h)

theorem execAmAnd_keeps {x rd rs1 rs2} (h : Keeps s t) : Answers s (execAmAnd x rd rs1 rs2 t) := fetched_keeps h (issueG_keeps h)

theorem execAmOr_keeps {x rd rs1 rs2} (h : Keeps s t) : Answers s (execAmOr x rd rs1 rs2 t) := fetched_keeps h (issueG_keeps h)

theorem execAmXor_keeps {x rd rs1 rs2} (h : Keeps s t) : Answers s (execAmXor x rd rs1 rs2 t) := fetched_keeps h (issueG_keeps h)

theorem execAmAndn_keeps {x rd rs1 rs2} (h : Keeps s t) : Answers s (execAmAndn x rd rs1 rs2 t) := fetched_keeps h (issueG_keeps h)

theorem execAmShl_keeps {x rd rs1 rs2} (h : Keeps s t) : Answers s (execAmShl x rd rs1 rs2 t) := fetched_keeps h (issueG_keeps h)

theorem execAmShr_keeps {x rd rs1 rs2} (h : Keeps s t) : Answers s (execAmShr x rd rs1 rs2 t) := fetched_keeps h (issueG_keeps h)

theorem execAmSar_keeps {x rd rs1 rs2} (h : Keeps s t) : Answers s (execAmSar x rd rs1 rs2 t) := fetched_keeps h (issueG_keeps h)

theorem execAmRol_keeps {x rd rs1 rs2} (h : Keeps s t) : Answers s (execAmRol x rd rs1 rs2 t) := fetched_keeps h (issueG_keeps h)

theorem execAmRor_keeps {x rd rs1 rs2} (h : Keeps s t) : Answers s (execAmRor x rd rs1 rs2 t) := fetched_keeps h (issueG_keeps h)

theorem execAmMin_keeps {x rd rs1 rs2} (h : Keeps s t) : Answers s (execAmMin x rd rs1 rs2 t) := fetched_keeps h (issueG_keeps h)

theorem execAmMax_keeps {x rd rs1 rs2} (h : Keeps s t) : Answers s (execAmMax x rd rs1 rs2 t) := fetched_keeps h (issueG_keeps h)

theorem execAmMinu_keeps {x rd rs1 rs2} (h : Keeps s t) : Answers s (execAmMinu x rd rs1 rs2 t) := fetched_keeps h (issueG_keeps h)

theorem execAmMaxu_keeps {x rd rs1 rs2} (h : Keeps s t) : Answers s (execAmMaxu x rd rs1 rs2 t) := fetched_keeps h (issueG_keeps h)

theorem execAmClz_keeps {x rd rs1} (h : Keeps s t) : Answers s (execAmClz x rd rs1 t) := fetched_keeps h (issueG_keeps h)

theorem execAmPopc_keeps {x rd rs1} (h : Keeps s t) : Answers s (execAmPopc x rd rs1 t) := fetched_keeps h (issueG_keeps h)

theorem execAmBswap_keeps {x rd rs1} (h : Keeps s t) : Answers s (execAmBswap x rd rs1 t) := fetched_keeps h (issueG_keeps h)

theorem execAmMul_keeps {x rd rs1 rs2} (h : Keeps s t) : Answers s (execAmMul x rd rs1 rs2 t) := fetched_keeps h (issueG_keeps h)

theorem execAmMulh_keeps {x rd rs1 rs2} (h : Keeps s t) : Answers s (execAmMulh x rd rs1 rs2 t) := fetched_keeps h (issueG_keeps h)

theorem execAmMulhu_keeps {x rd rs1 rs2} (h : Keeps s t) : Answers s (execAmMulhu x rd rs1 rs2 t) := fetched_keeps h (issueG_keeps h)

theorem execAmMac_keeps {x rd rs1 rs2} (h : Keeps s t) : Answers s (execAmMac x rd rs1 rs2 t) := fetched_keeps h (issueG_keeps h)

theorem execAmAddi_keeps {x rd rs1 imm} (h : Keeps s t) : Answers s (execAmAddi x rd rs1 imm t) := fetched_keeps h (issueG_keeps h)

theorem execAmAndi_keeps {x rd rs1 imm} (h : Keeps s t) : Answers s (execAmAndi x rd rs1 imm t) := fetched_keeps h (issueG_keeps h)

theorem execAmOri_keeps {x rd rs1 imm} (h : Keeps s t) : Answers s (execAmOri x rd rs1 imm t) := fetched_keeps h (issueG_keeps h)

theorem execAmXori_keeps {x rd rs1 imm} (h : Keeps s t) : Answers s (execAmXori x rd rs1 imm t) := fetched_keeps h (issueG_keeps h)

theorem execAmShli_keeps {x rd rs1 imm} (h : Keeps s t) : Answers s (execAmShli x rd rs1 imm t) := fetched_keeps h (issueG_keeps h)

theorem execAmShri_keeps {x rd rs1 imm} (h : Keeps s t) : Answers s (execAmShri x rd rs1 imm t) := fetched_keeps h (issueG_keeps h)

theorem execAmSari_keeps {x rd rs1 imm} (h : Keeps s t) : Answers s (execAmSari x rd rs1 imm t) := fetched_keeps h (issueG_keeps h)

theorem execAmRori_keeps {x rd rs1 imm} (h : Keeps s t) : Answers s (execAmRori x rd rs1 imm t) := fetched_keeps h (issueG_keeps h)

theorem execAmAddi3_keeps {x rd rs1 imm} (h : Keeps s t) : Answers s (execAmAddi3 x rd rs1 imm t) := fetched_keeps h (issueG_keeps h)

theorem execAmAndi3_keeps {x rd rs1 imm} (h : Keeps s t) : Answers s (execAmAndi3 x rd rs1 imm t) := fetched_keeps h (issueG_keeps h)

theorem execAmOri3_keeps {x rd rs1 imm} (h : Keeps s t) : Answers s (execAmOri3 x rd rs1 imm t) := fetched_keeps h (issueG_keeps h)

theorem execAmXori3_keeps {x rd rs1 imm} (h : Keeps s t) : Answers s (execAmXori3 x rd rs1 imm t) := fetched_keeps h (issueG_keeps h)

theorem execAmShli3_keeps {x rd rs1 imm} (h : Keeps s t) : Answers s (execAmShli3 x rd rs1 imm t) :=
  fetched_keeps h (issue_keeps (fun _ hu => modRegs_keeps hu) trivial h)

theorem execAmShri3_keeps {x rd rs1 imm} (h : Keeps s t) : Answers s (execAmShri3 x rd rs1 imm t) :=
  fetched_keeps h (issue_keeps (fun _ hu => modRegs_keeps hu) trivial h)

theorem execAmSari3_keeps {x rd rs1 imm} (h : Keeps s t) : Answers s (execAmSari3 x rd rs1 imm t) :=
  fetched_keeps h (issue_keeps (fun _ hu => modRegs_keeps hu) trivial h)

theorem execAmRori3_keeps {x rd rs1 imm} (h : Keeps s t) : Answers s (execAmRori3 x rd rs1 imm t) :=
  fetched_keeps h (issue_keeps (fun _ hu => modRegs_keeps hu) trivial h)

theorem execAmLi_keeps {x rd imm} (h : Keeps s t) : Answers s (execAmLi x rd imm t) := fetched_keeps h (issueG_keeps h)

theorem execAmLi3_keeps {x rd imm} (h : Keeps s t) : Answers s (execAmLi3 x rd imm t) := fetched_keeps h (issueG_keeps h)

theorem execAmLih_keeps {x rd imm} (h : Keeps s t) : Answers s (execAmLih x rd imm t) := fetched_keeps h (issueG_keeps h)

theorem issueP_keeps {x pd f} (h : Keeps s t) : Answers s (issueP x pd f t) := issueRegs_keeps h

theorem execAmCmpeq_keeps {x pd rs1 rs2} (h : Keeps s t) : Answers s (execAmCmpeq x pd rs1 rs2 t) := fetched_keeps h (issueP_keeps h)

theorem execAmCmpne_keeps {x pd rs1 rs2} (h : Keeps s t) : Answers s (execAmCmpne x pd rs1 rs2 t) := fetched_keeps h (issueP_keeps h)

theorem execAmCmplt_keeps {x pd rs1 rs2} (h : Keeps s t) : Answers s (execAmCmplt x pd rs1 rs2 t) := fetched_keeps h (issueP_keeps h)

theorem execAmCmpge_keeps {x pd rs1 rs2} (h : Keeps s t) : Answers s (execAmCmpge x pd rs1 rs2 t) := fetched_keeps h (issueP_keeps h)

theorem execAmCmpltu_keeps {x pd rs1 rs2} (h : Keeps s t) : Answers s (execAmCmpltu x pd rs1 rs2 t) := fetched_keeps h (issueP_keeps h)

theorem execAmCmpgeu_keeps {x pd rs1 rs2} (h : Keeps s t) : Answers s (execAmCmpgeu x pd rs1 rs2 t) := fetched_keeps h (issueP_keeps h)

theorem execAmCmpeqi_keeps {x pd rs1 imm} (h : Keeps s t) : Answers s (execAmCmpeqi x pd rs1 imm t) := fetched_keeps h (issueP_keeps h)

theorem execAmCmpnei_keeps {x pd rs1 imm} (h : Keeps s t) : Answers s (execAmCmpnei x pd rs1 imm t) := fetched_keeps h (issueP_keeps h)

theorem execAmCmplti_keeps {x pd rs1 imm} (h : Keeps s t) : Answers s (execAmCmplti x pd rs1 imm t) := fetched_keeps h (issueP_keeps h)

theorem execAmCmpgei_keeps {x pd rs1 imm} (h : Keeps s t) : Answers s (execAmCmpgei x pd rs1 imm t) := fetched_keeps h (issueP_keeps h)

theorem execAmCmpltui_keeps {x pd rs1 imm} (h : Keeps s t) : Answers s (execAmCmpltui x pd rs1 imm t) := fetched_keeps h (issueP_keeps h)

theorem execAmCmpgeui_keeps {x pd rs1 imm} (h : Keeps s t) : Answers s (execAmCmpgeui x pd rs1 imm t) := fetched_keeps h (issueP_keeps h)

theorem issuePL_keeps {x pd ps1 ps2 f} (h : Keeps s t) : Answers s (issuePL x pd ps1 ps2 f t) := issue_keeps (fun _ hu => modRegs_keeps hu) trivial h

theorem execAmPand_keeps {x pd ps1 ps2} (h : Keeps s t) : Answers s (execAmPand x pd ps1 ps2 t) := fetched_keeps h (issuePL_keeps h)

theorem execAmPor_keeps {x pd ps1 ps2} (h : Keeps s t) : Answers s (execAmPor x pd ps1 ps2 t) := fetched_keeps h (issuePL_keeps h)

theorem execAmPxor_keeps {x pd ps1 ps2} (h : Keeps s t) : Answers s (execAmPxor x pd ps1 ps2 t) := fetched_keeps h (issuePL_keeps h)

theorem execAmPandn_keeps {x pd ps1 ps2} (h : Keeps s t) : Answers s (execAmPandn x pd ps1 ps2 t) := fetched_keeps h (issuePL_keeps h)

theorem execAmMfs_keeps {x rd code} (h : Keeps s t) : Answers s (execAmMfs x rd code t) :=
  fetched_keeps h (issue_keeps (fun _ hu => modRegs_keeps hu) trivial h)

theorem execAmMts_keeps {x code rs} (h : Keeps s t) : Answers s (execAmMts x code rs t) :=
  fetched_keeps h (issue_keeps (fun _ hu => modRegs_keeps hu) trivial h)

theorem issueC_keeps {x cd causes f} (h : Keeps s t) : Answers s (issueC x cd causes f t) := issue_keeps (fun _ hu => modRegs_keeps hu) trivial h

theorem execAmCcopy_keeps {x cd cs} (h : Keeps s t) : Answers s (execAmCcopy x cd cs t) := fetched_keeps h (issueC_keeps h)

theorem execAmCvoid_keeps {x cd} (h : Keeps s t) : Answers s (execAmCvoid x cd t) := fetched_keeps h (issueC_keeps h)

theorem execAmCtrim_keeps {x cd cs rs} (h : Keeps s t) : Answers s (execAmCtrim x cd cs rs t) := fetched_keeps h (issueC_keeps h)

theorem execAmCread_keeps {x rd cs field} (h : Keeps s t) : Answers s (execAmCread x rd cs field t) :=
  fetched_keeps h (issue_keeps (fun _ hu => modRegs_keeps hu) trivial h)

theorem execAmCwrap_keeps {x cd cs ct} (h : Keeps s t) : Answers s (execAmCwrap x cd cs ct t) := fetched_keeps h (issueC_keeps h)

theorem execAmCunwrap_keeps {x cd cs ct} (h : Keeps s t) : Answers s (execAmCunwrap x cd cs ct t) := fetched_keeps h (issueC_keeps h)

theorem execAmCgrant_keeps {x cd cs rs} (h : Keeps s t) : Answers s (execAmCgrant x cd cs rs t) := fetched_keeps h (issueC_keeps h)

theorem execAmCclip_keeps {x cd cs ro rl} (h : Keeps s t) : Answers s (execAmCclip x cd cs ro rl t) := fetched_keeps h (issueC_keeps h)

theorem execAmNop_keeps {x} (h : Keeps s t) : Answers s (execAmNop x t) := fetched_keeps h (issueRegs_keeps h)

theorem issueLoad_keeps {x size signed rd rb cap off} (h : Keeps s t) : Answers s (issueLoad x size signed rd rb cap off t) := by
  unfold issueLoad
  dsimp only
  exact issue_keeps (fun _ hu => modRegs_keeps (mendRow_keeps hu)) trivial h

theorem issueStore_keeps {x size rs rb cap off} (h : Keeps s t) : Answers s (issueStore x size rs rb cap off t) := by
  unfold issueStore
  dsimp only
  refine issue_keeps (fun _ hu => ?_) trivial h
  split
  · exact memWrite_keeps hu
  · exact modCore_keeps hu

theorem issueSplit_keeps {x size perms dest rb cap pl off} (h : Keeps s t) : Answers s (issueSplit x size perms dest rb cap pl off t) := by
  unfold issueSplit
  dsimp only
  exact issue_keeps (fun _ hu => modRegs_keeps (modCore_keeps hu)) trivial h

theorem issueCapStore_keeps {x cs rb cap off} (h : Keeps s t) : Answers s (issueCapStore x cs rb cap off t) := by
  unfold issueCapStore
  dsimp only
  refine issue_keeps (fun _ hu => ?_) trivial h
  split
  · exact memPutCap_keeps hu
  · exact modCore_keeps hu

theorem execAmLdB_keeps {x rd rb cap off} (h : Keeps s t) : Answers s (execAmLdB x rd rb cap off t) := fetched_keeps h (issueLoad_keeps h)

theorem execAmLdH_keeps {x rd rb cap off} (h : Keeps s t) : Answers s (execAmLdH x rd rb cap off t) := fetched_keeps h (issueLoad_keeps h)

theorem execAmLdW_keeps {x rd rb cap off} (h : Keeps s t) : Answers s (execAmLdW x rd rb cap off t) := fetched_keeps h (issueLoad_keeps h)

theorem execAmLdD_keeps {x rd rb cap off} (h : Keeps s t) : Answers s (execAmLdD x rd rb cap off t) := fetched_keeps h (issueLoad_keeps h)

theorem execAmLdsB_keeps {x rd rb cap off} (h : Keeps s t) : Answers s (execAmLdsB x rd rb cap off t) := fetched_keeps h (issueLoad_keeps h)

theorem execAmLdsH_keeps {x rd rb cap off} (h : Keeps s t) : Answers s (execAmLdsH x rd rb cap off t) := fetched_keeps h (issueLoad_keeps h)

theorem execAmLdsW_keeps {x rd rb cap off} (h : Keeps s t) : Answers s (execAmLdsW x rd rb cap off t) := fetched_keeps h (issueLoad_keeps h)

theorem execAmStB_keeps {x rs rb cap off} (h : Keeps s t) : Answers s (execAmStB x rs rb cap off t) := fetched_keeps h (issueStore_keeps h)

theorem execAmStH_keeps {x rs rb cap off} (h : Keeps s t) : Answers s (execAmStH x rs rb cap off t) := fetched_keeps h (issueStore_keeps h)

theorem execAmStW_keeps {x rs rb cap off} (h : Keeps s t) : Answers s (execAmStW x rs rb cap off t) := fetched_keeps h (issueStore_keeps h)

theorem execAmStD_keeps {x rs rb cap off} (h : Keeps s t) : Answers s (execAmStD x rs rb cap off t) := fetched_keeps h (issueStore_keeps h)

theorem execAmLdxD_keeps {x rd rb cap pl off} (h : Keeps s t) : Answers s (execAmLdxD x rd rb cap pl off t) := fetched_keeps h (issueSplit_keeps h)

theorem execAmLdc_keeps {x cd rb cap off} (h : Keeps s t) : Answers s (execAmLdc x cd rb cap off t) :=
  fetched_keeps h (issue_keeps (fun _ hu => modRegs_keeps (mendRow_keeps hu)) trivial h)

theorem execAmStc_keeps {x cs rb cap off} (h : Keeps s t) : Answers s (execAmStc x cs rb cap off t) := fetched_keeps h (issueCapStore_keeps h)

theorem execAmLdcx_keeps {x cd rb cap pl off} (h : Keeps s t) : Answers s (execAmLdcx x cd rb cap pl off t) := fetched_keeps h (issueSplit_keeps h)

theorem execAmStcx_keeps {x cs rb cap off} (h : Keeps s t) : Answers s (execAmStcx x cs rb cap off t) := fetched_keeps h (issueCapStore_keeps h)

theorem issueBranch_keeps {x call target} (h : Keeps s t) : Answers s (issueBranch x call target t) :=
  issue_keeps (fun _ hu => modRegs_keeps hu) trivial h

theorem execAmB_keeps {x disp} (h : Keeps s t) : Answers s (execAmB x disp t) := fetched_keeps h (issueBranch_keeps h)

theorem execAmCall_keeps {x disp} (h : Keeps s t) : Answers s (execAmCall x disp t) := fetched_keeps h (issueBranch_keeps h)

theorem execAmBr_keeps {x rs} (h : Keeps s t) : Answers s (execAmBr x rs t) := fetched_keeps h (issueBranch_keeps h)

theorem execAmCallr_keeps {x rs} (h : Keeps s t) : Answers s (execAmCallr x rs t) := fetched_keeps h (issueBranch_keeps h)

theorem execAmLoop_keeps {x level rc endOff} (h : Keeps s t) : Answers s (execAmLoop x level rc endOff t) :=
  fetched_keeps h (issue_keeps (fun _ hu => hu) (fun _ hu => modRegs_keeps hu) h)

theorem execAmGate_keeps {x cd cs ct} (h : Keeps s t) : Answers s (execAmGate x cd cs ct t) :=
  fetched_keeps h (issue_keeps (fun _ hu => hu) (fun _ hu => modRegs_keeps hu) h)

theorem popLink_keeps {x} (h : Keeps s t) : Keeps s (popLink x t) := by
  unfold popLink
  dsimp only
  split
  · exact h
  · exact modRegs_keeps h
  · exact modRegs_keeps h

theorem execAmRetc_keeps {x} (h : Keeps s t) : Answers s (execAmRetc x t) :=
  fetched_keeps h (issue_keeps (fun _ hu => hu) (fun _ hu => popLink_keeps hu) h)

theorem execAmWait_keeps {x pl} (h : Keeps s t) : Answers s (execAmWait x pl t) := fetched_keeps h (issue_keeps (fun _ hu => hu) trivial h)

theorem execAmFenceS_keeps {x} (h : Keeps s t) : Answers s (execAmFenceS x t) := fetched_keeps h (issue_keeps (fun _ hu => hu) trivial h)

theorem execAmBreak_keeps {x tag} (h : Keeps s t) : Answers s (execAmBreak x tag t) :=
  fetched_keeps h (issue_keeps (fun _ hu => hu) (fun _ hu => takeException_keeps (modRegs_keeps hu)) h)

theorem leaveCore_keeps {slot i} (h : Keeps s t) : Keeps s (leaveCore slot i t) := .upd h

theorem yieldStep_keeps {x} (h : Keeps s t) : Keeps s (yieldStep x t) := by
  unfold yieldStep
  dsimp only
  split
  · exact modRegs_keeps h
  · split
    · exact modRegs_keeps h
    · exact .ite (takeException_keeps (modRegs_keeps h)) (.ite (modStep_keeps (leaveCore_keeps (modCore_keeps (modRegs_keeps h)))) (modEng_keeps (modStep_keeps (leaveCore_keeps (modCore_keeps (modRegs_keeps h))))))

theorem doneStep_keeps {x rs rl} (h : Keeps s t) : Keeps s (doneStep x rs rl t) := by
  unfold doneStep
  dsimp only
  split
  · exact modRegs_keeps h
  · split
    · exact modRegs_keeps h
    · exact endStep_keeps (wipeContext_keeps (leaveCore_keeps (modCore_keeps (modRegs_keeps h))))

theorem execAmYield_keeps {x} (h : Keeps s t) : Answers s (execAmYield x t) :=
  fetched_keeps h (issue_keeps (fun _ hu => hu) (fun _ hu => yieldStep_keeps hu) h)

theorem execAmDone_keeps {x rs rl} (h : Keeps s t) : Answers s (execAmDone x rs rl t) :=
  fetched_keeps h (issue_keeps (fun _ hu => hu) (fun _ hu => doneStep_keeps hu) h)

theorem requestRecord_keeps {code result custodian r v} (h : Keeps s t) : Keeps s (requestRecord code result custodian r v t) := ceremony_keeps h

theorem activate_keeps (h : Keeps s t) : Keeps s (activate t) := by
  unfold activate
  split
  · exact h
  · exact .ite h (.upd h)

theorem modActive_keeps {f} (h : Keeps s t) : Keeps s (modActive f t) := by
  unfold modActive
  split
  · exact h
  · exact .upd h

theorem dropActive_keeps (h : Keeps s t) : Keeps s (dropActive t) := activate_keeps (.upd h)

theorem openRequest_keeps {action subject quorum opcode bytes input} (h : Keeps s t) : Keeps s (openRequest action subject quorum opcode bytes input t) :=
  .ite (requestRecord_keeps (requestRecord_keeps (.upd h))) (raise_keeps (activate_keeps (.upd (requestRecord_keeps (.upd h)))))

theorem expireActive_keeps (h : Keeps s t) : Keeps s (expireActive t) := by
  unfold expireActive
  split
  · exact h
  · exact raise_keeps (dropActive_keeps (requestRecord_keeps h))

theorem cancelActive_keeps (h : Keeps s t) : Keeps s (cancelActive t) := by
  unfold cancelActive
  split
  · exact h
  · exact dropActive_keeps (requestRecord_keeps h)

theorem cancelAll_keeps (h : Keeps s t) : Keeps s (cancelAll t) := .upd (forAll_keeps (fun _ _ hu => requestRecord_keeps hu) h)

theorem loseRequests_keeps (h : Keeps s t) : Keeps s (loseRequests t) := .upd h

theorem sendFold_keeps {p type dst body} (h : Keeps s t) : Keeps s (sendFold p type dst body t) := emit_keeps (modPort_keeps h)

theorem portDown_keeps {p} (h : Keeps s t) : Keeps s (portDown p t) := .ite (raise_keeps (modPort_keeps h)) (modPort_keeps h)

theorem portsDown_keeps {close} (h : Keeps s t) : Keeps s (portsDown close t) :=
  repeatIdx_keeps (fun _ _ hu => portDown_keeps (.ite (sendFold_keeps hu) hu)) h

theorem sendMember_keeps {type m body} (h : Keeps s t) : Keeps s (sendMember type m body t) := by
  unfold sendMember
  split
  · exact sendFold_keeps h
  · exact h

theorem sendChange_keeps {m c} (h : Keeps s t) : Keeps s (sendChange m c t) := by
  unfold sendChange
  refine .ite ?_ (sendMember_keeps h)
  split
  · split
    · exact sendMember_keeps (takeNonce_keeps h _ ‹_›)
    · exact h
  · exact h

theorem noteChange_keeps {what mask} (h : Keeps s t) : Keeps s (noteChange what mask t) :=
  .ite h (forAll_keeps (fun _ _ hu => sendChange_keeps hu) (.upd h))

theorem keyChanged_keeps {b} (h : Keeps s t) : Keeps s (keyChanged b t) := by
  unfold keyChanged
  split
  · exact .ite (noteChange_keeps h) h
  · exact h

theorem ackChange_keeps {m what} (h : Keeps s t) : Keeps s (ackChange m what t) := by
  unfold ackChange
  split
  · exact configRecord_keeps (.upd h)
  · exact h

theorem logTamper_keeps {cause detail value erased} (h : Keeps s t) : Keeps s (logTamper cause detail value erased t) :=
  .ite (raise_keeps (.upd h)) (.upd h)

theorem writeRecord_keeps {state pending cause request} (h : Keeps s t) : Keeps s (writeRecord state pending cause request t) := .upd h

theorem tamperRecord_keeps {r} (h : Keeps s t) : Keeps s (tamperRecord r t) := appendReserved_keeps (.upd h)

theorem destroyStileKey_keeps (h : Keeps s t) : Keeps s (destroyStileKey t) := .ite (.upd h) h

theorem loseSecrets_keeps (h : Keeps s t) : Keeps s (loseSecrets t) := .upd h

theorem tamper_keeps {cause detail value} (h : Keeps s t) : Keeps s (tamper cause detail value t) := by
  unfold tamper
  refine .ite (logTamper_keeps h) (.ite ?_ (loseSecrets_keeps (.upd (writeRecord_keeps (destroyStileKey_keeps (emit_keeps (logTamper_keeps (.upd h))))))))
  split
  · exact tamperRecord_keeps (.upd (.upd (writeRecord_keeps (destroyStileKey_keeps (emit_keeps (logTamper_keeps (.upd h)))))))
  · exact .upd (writeRecord_keeps (destroyStileKey_keeps (emit_keeps (logTamper_keeps (.upd h)))))

theorem countFault_keeps (h : Keeps s t) : Keeps s (countFault t) := .ite (tamper_keeps (.upd h)) (.upd h)

theorem wipeVolatile_keeps (h : Keeps s t) : Keeps s (wipeVolatile t) := .noJobs h

theorem erasePersistent_keeps (h : Keeps s t) : Keeps s (erasePersistent t) := .upd (eraseConfig_keeps h)

theorem removeStileKey_keeps (h : Keeps s t) : Keeps s (removeStileKey t) := .upd h

theorem ownKey_keeps {block cls alg material} (h : Keeps s t) : Keeps s (ownKey block cls alg material t) := storeKey_keeps h

theorem drawScalar_keeps (h : Keeps s t) : Keeps s (drawScalar t).2 := drawBytes_keeps h

theorem beginChain_keeps (h : Keeps s t) : Keeps s (beginChain t) := .upd h

theorem signedIdentity_keeps {point} (h : Keeps s t) : Keeps s (signedIdentity point t).2 := drawBytes_keeps h

theorem enterCommission_keeps (h : Keeps s t) : Keeps s (enterCommission t) :=
  beginChain_keeps (.upd (takeName_keeps (configRecord_keeps (signedIdentity_keeps (ownKey_keeps (ownKey_keeps (ownKey_keeps (drawScalar_keeps (drawBytes_keeps (drawScalar_keeps (raise_keeps (configRecord_keeps (appendCounters_keeps (.upd (draw_keeps (formRoot_keeps (.upd h)))))))))))))))))

theorem finishErasure_keeps (h : Keeps s t) : Keeps s (finishErasure t) :=
  .ite (enterCommission_keeps (.upd (erasePersistent_keeps h))) (takeName_keeps (formRoot_keeps (.upd (erasePersistent_keeps h))))

theorem keeperWipe_keeps {w rosterM roster} (h : Keeps s t) : Keeps s (keeperWipe w rosterM roster t) := by
  unfold keeperWipe
  split
  · exact h
  · exact removeStileKey_keeps (.upd h)
  · exact removeStileKey_keeps (.upd h)
  · exact removeStileKey_keeps (.upd h)

theorem programStaging_keeps (h : Keeps s t) : Keeps s (programStaging t) := .upd h

theorem releaseAlarm_keeps (h : Keeps s t) : Keeps s (releaseAlarm t) := .ite (emit_keeps (.upd h)) h

theorem transition_keeps {target request rosterM roster} (h : Keeps s t) : Keeps s (transition target request rosterM roster t) := by
  unfold transition
  dsimp only
  split
  · exact h
  · exact raise_keeps (.ite (formRoot_keeps (.upd (keeperWipe_keeps (wipeVolatile_keeps (portsDown_keeps (writeRecord_keeps (releaseAlarm_keeps (logTamper_keeps (programStaging_keeps (appendOrLose_keeps (cancelAll_keeps h))))))))))) (.upd (keeperWipe_keeps (wipeVolatile_keeps (portsDown_keeps (writeRecord_keeps (releaseAlarm_keeps (logTamper_keeps (programStaging_keeps (appendOrLose_keeps (cancelAll_keeps h)))))))))))

theorem tamperClose_keeps (h : Keeps s t) : Keeps s (tamperClose t) :=
  .ite h (.upd (takeName_keeps (loseSecrets_keeps (wipeVolatile_keeps (portsDown_keeps h)))))

theorem sensorBits_keeps {cause detail} (h : Keeps s t) : Keeps s (sensorBits cause detail t) := .upd h

theorem execHedgeSensorTrip_keeps {cause detail value} (h : Keeps s t) : Answers s (execHedgeSensorTrip cause detail value t) :=
  .next (.ite h (.ite h (tamper_keeps (sensorBits_keeps h))))

theorem execKeeperSecondsTick_keeps {extMv cellMv} (h : Keeps s t) : Answers s (execKeeperSecondsTick extMv cellMv t) := .next (.upd h)

theorem execPersistentErasureDone_keeps (h : Keeps s t) : Answers s (execPersistentErasureDone t) := .next (.ite (finishErasure_keeps h) h)

theorem maintTake_keeps {a} (h : Keeps s t) : Keeps s (maintTake a t) := forAll_keeps (fun _ _ hu => .upd hu) h

theorem maintStep_keeps {a f} (h : Keeps s t) (hf : ∀ u, Keeps s u → Keeps s (f u)) : Keeps s (maintStep a t f) := .ite (hf _ (maintTake_keeps h)) h

theorem wakeUnit_keeps {p} (h : Keeps s t) : Keeps s (wakeUnit p t) :=
  .ite (setUnitState_keeps (.ite (.upd (modUnit_keeps h)) (modUnit_keeps h))) (modUnit_keeps h)

theorem writeRows_keeps {idx bank x} (h : Keeps s t) : Keeps s (writeRows idx bank x t) := modEng_keeps (.upd h)

theorem bindOn_keeps {slot i kind idx slices class0} (h : Keeps s t) : Keeps s (bindOn slot i kind idx slices class0 t) := by
  unfold bindOn
  refine wakeUnit_keeps (modJob_keeps (modStep_keeps (modEng_keeps (.ite ?_ h))))
  split
  · exact writeRows_keeps h
  · exact h

theorem marginOn_keeps {kind idx slot} (h : Keeps s t) : Keeps s (marginOn kind idx slot t) := by
  unfold marginOn
  split
  · exact useMargin_keeps h
  · exact h

theorem noteRngWait_keeps {slot i} (h : Keeps s t) : Keeps s (noteRngWait slot i t) := by
  unfold noteRngWait
  split
  · exact .ite (.ite (.ite (modStep_keeps h) h) (modStep_keeps (rngTake_keeps h))) h
  · exact h

theorem passChecks_keeps {slot i bays} (h : Keeps s t) : Keeps s (passChecks slot i bays t) := by
  unfold passChecks
  split
  · exact h
  · exact .ite h (forAll_keeps (fun _ _ hu => forAll_keeps (fun _ _ hu1 => touchBay_keeps hu1) hu) (.ite (rngTake_keeps (modStep_keeps h)) (modStep_keeps h)))

theorem bindWaiting_keeps {slot i} (h : Keeps s t) : Keeps s (bindWaiting slot i t) := by
  unfold bindWaiting
  refine askInput_keeps ?_
  split
  · exact .ite h (modStep_keeps h)
  · exact h

theorem askKeys_keeps {missing} (h : Keeps s t) : Keeps s (askKeys missing t) := forAll_keeps (fun _ _ hu => askFill_keeps hu) h

theorem bindLedgerStep_keeps {slot i es} (h : Keeps s t) : Keeps s (bindLedgerStep slot i es t) := by
  unfold bindLedgerStep
  split
  · exact h
  · refine .ite h (.ite (useMargin_keeps h) (.ite (dropEntries_keeps h) ?_))
    dsimp only
    split
    · exact failStep_keeps h
    · exact useMargin_keeps (askKeys_keeps h)
    · exact dropEntries_keeps h
    · exact forAll_keeps (fun _ _ hu1 => bindOn_keeps hu1) (passChecks_keeps h)
    · exact bindWaiting_keeps (forAll_keeps (fun _ _ hu1 => bindOn_keeps hu1) h)

theorem bindLedger_keeps {entries} (h : Keeps s t) : Keeps s (bindLedger entries t) := forAll_keeps (fun _ _ hu => bindLedgerStep_keeps hu) h

theorem nowRuns_keeps {slot} (h : Keeps s t) : Keeps s (nowRuns slot t) := modJob_keeps h

theorem bindStep_keeps {slot i class0} (h : Keeps s t) : Keeps s (bindStep slot i class0 t) := by
  unfold bindStep
  split
  · exact h
  · refine .ite h ?_
    split
    · split
      · exact failStep_keeps h
      · exact modStep_keeps (nowRuns_keeps (passChecks_keeps h))
      · exact bindWaiting_keeps (modStep_keeps (nowRuns_keeps h))
      · exact noteRngWait_keeps h
    · split
      · exact failStep_keeps h
      · exact modStep_keeps (passChecks_keeps h)
      · exact bindWaiting_keeps (modStep_keeps h)
      · exact h
    · split
      · exact .ite (abortJob_keeps h) h
      · split
        · split
          · dsimp only
            split
            · exact failStep_keeps h
            · exact noteRngWait_keeps h
            · exact abortJob_keeps h
            · exact forAll_keeps (fun _ _ hu1 => bindOn_keeps hu1) (passChecks_keeps h)
            · exact bindWaiting_keeps (forAll_keeps (fun _ _ hu1 => bindOn_keeps hu1) h)
          · dsimp only
            split
            · exact failStep_keeps h
            · exact noteRngWait_keeps h
            · exact abortJob_keeps h
            · exact h
            · exact h
        · split
          · dsimp only
            split
            · exact failStep_keeps h
            · exact noteRngWait_keeps h
            · exact askKeys_keeps h
            · exact forAll_keeps (fun _ _ hu1 => bindOn_keeps hu1) (passChecks_keeps h)
            · exact bindWaiting_keeps (forAll_keeps (fun _ _ hu1 => bindOn_keeps hu1) h)
          · dsimp only
            split
            · exact failStep_keeps h
            · exact noteRngWait_keeps h
            · exact askKeys_keeps h
            · exact h
            · exact h

theorem bindJob_keeps {class0 slot} (h : Keeps s t) : Keeps s (bindJob class0 slot t) := by
  unfold bindJob
  split
  · exact h
  · exact .ite h (repeatIdx_keeps (fun _ _ hu => bindStep_keeps hu) h)

theorem inputArrived_keeps {slot i} (h : Keeps s t) : Keeps s (inputArrived slot i t) := by
  unfold inputArrived
  split
  · exact h
  · refine .ite h ?_
    split
    · exact failStep_keeps h
    · exact .ite (passChecks_keeps h) (modStep_keeps (dropStep_keeps h))
    · exact noteRngWait_keeps (modStep_keeps (dropStep_keeps h))

theorem takeInput_keeps {slot data} (h : Keeps s t) : Keeps s (takeInput slot data t) := by
  unfold takeInput
  split
  · exact h
  · exact .ite (modJob_keeps (dmaWrite_keeps h)) (askInput_keeps (modJob_keeps (dmaWrite_keeps h)))

theorem execInputReadDone_keeps {slot data status} (h : Keeps s t) : Answers s (execInputReadDone slot data status t) := by
  unfold execInputReadDone
  refine .next ?_
  split
  · exact h
  · exact .ite h (.ite (abortJob_keeps (raise_keeps (.upd h))) (repeatIdx_keeps (fun _ _ hu1 => inputArrived_keeps hu1) (takeInput_keeps h)))

theorem resumeParked_keeps {key} (h : Keeps s t) : Keeps s (resumeParked key t) := by
  unfold resumeParked
  dsimp only
  split
  · exact h
  · refine .ite h ?_
    split
    · exact h
    · split
      · exact .ite (bindOn_keeps h) h
      · exact h

theorem bindClasses_keeps (h : Keeps s t) : Keeps s (bindClasses t) :=
  .ite (forAll_keeps (fun _ _ hu => bindJob_keeps hu) (.ite (forAll_keeps (fun _ _ hu => bindJob_keeps hu) (forAll_keeps (fun _ _ hu => bindJob_keeps hu) (.ite (forAll_keeps (fun _ _ hu => .ite (bindJob_keeps (.ite (forAll_keeps (fun _ _ hu1 => resumeParked_keeps hu1) hu) hu)) (.ite (forAll_keeps (fun _ _ hu1 => resumeParked_keeps hu1) hu) hu)) h) h))) (forAll_keeps (fun _ _ hu => bindJob_keeps hu) (.ite (forAll_keeps (fun _ _ hu => .ite (bindJob_keeps (.ite (forAll_keeps (fun _ _ hu1 => resumeParked_keeps hu1) hu) hu)) (.ite (forAll_keeps (fun _ _ hu1 => resumeParked_keeps hu1) hu) hu)) h) h)))) (.ite (forAll_keeps (fun _ _ hu => bindJob_keeps hu) (forAll_keeps (fun _ _ hu => bindJob_keeps hu) (.ite (forAll_keeps (fun _ _ hu => .ite (bindJob_keeps (.ite (forAll_keeps (fun _ _ hu1 => resumeParked_keeps hu1) hu) hu)) (.ite (forAll_keeps (fun _ _ hu1 => resumeParked_keeps hu1) hu) hu)) h) h))) (forAll_keeps (fun _ _ hu => bindJob_keeps hu) (.ite (forAll_keeps (fun _ _ hu => .ite (bindJob_keeps (.ite (forAll_keeps (fun _ _ hu1 => resumeParked_keeps hu1) hu) hu)) (.ite (forAll_keeps (fun _ _ hu1 => resumeParked_keeps hu1) hu) hu)) h) h)))

theorem fillLedger_keeps (h : Keeps s t) : Keeps s (fillLedger t) := .upd h

theorem bulkWindow_keeps (h : Keeps s t) : Keeps s (bulkWindow t) := .upd h

theorem countBulk_keeps (h : Keeps s t) : Keeps s (countBulk t) := .upd h

theorem nextSwath_keeps (h : Keeps s t) : Keeps s (nextSwath t) := fillLedger_keeps (.upd h)

theorem fetchPath_keeps (h : Keeps s t) : Keeps s (fetchPath t) := forAll_keeps (fun _ _ hu => forAll_keeps (fun _ _ hu1 => askKeys_keeps hu1) hu) h

theorem askInputs_keeps (h : Keeps s t) : Keeps s (askInputs t) := forAll_keeps (fun _ _ hu => askInput_keeps hu) h

theorem admitPhase_keeps {entries} (h : Keeps s t) : Keeps s (admitPhase t entries) :=
  countBulk_keeps (forAll_keeps (fun _ _ hu => resumeParked_keeps hu) (bindClasses_keeps (bulkWindow_keeps (forAll_keeps (fun _ _ hu => bindJob_keeps hu) (bindLedger_keeps (fetchPath_keeps (askInputs_keeps h)))))))

theorem streamOut_keeps {slot i ran} (h : Keeps s t) : Keeps s (streamOut slot i ran t) := by
  unfold streamOut
  split
  · exact h
  · exact .ite h (writePieces_keeps (modJob_keeps h))

theorem park_keeps {kind idx b j} (h : Keeps s t) : Keeps s (park kind idx b j t) :=
  .ite (streamOut_keeps (modStep_keeps (.ite (.upd (modEng_keeps h)) (modEng_keeps h)))) (.ite (raise_keeps (modStep_keeps (.ite (.upd (modEng_keeps h)) (modEng_keeps h)))) (modStep_keeps (.ite (.upd (modEng_keeps h)) (modEng_keeps h))))

theorem closeEngine_keeps {key} (h : Keeps s t) : Keeps s (closeEngine key t) := by
  unfold closeEngine
  refine forAll_keeps (fun _ _ hu => ?_) h
  split
  · exact modEng_keeps hu
  · exact .ite (.ite (dropEntries_keeps (modStep_keeps (modEng_keeps hu))) (park_keeps hu)) (.ite (park_keeps hu) (.ite (.ite (modCore_keeps hu) (abortJob_keeps (modEng_keeps (modCore_keeps hu)))) (failUnit_keeps (raise_keeps (abortJob_keeps (.upd hu))))))

theorem lateClass0_keeps (h : Keeps s t) : Keeps s (lateClass0 t) := forAll_keeps (fun _ _ hu => abortJob_keeps hu) h

theorem closeEngines_keeps (h : Keeps s t) : Keeps s (closeEngines t) := lateClass0_keeps (forAll_keeps (fun _ _ hu => closeEngine_keeps hu) h)

theorem setMaint_keeps {a st} (h : Keeps s t) : Keeps s (setMaint a st t) := .upd h

theorem rethrottle_keeps (h : Keeps s t) : Keeps s (rethrottle t) := repeatIdx_keeps (fun _ _ hu => .ite (setMaint_keeps hu) hu) h

theorem startActivities_keeps (h : Keeps s t) : Keeps s (startActivities t) :=
  rethrottle_keeps (repeatIdx_keeps (fun _ _ hu => .ite (.ite (.ite hu (raise_keeps (setMaint_keeps hu))) (.ite (.upd (setMaint_keeps hu)) (.ite (.upd (setMaint_keeps hu)) (setMaint_keeps hu)))) hu) (.upd h))

theorem endActivity_keeps {a} (h : Keeps s t) : Keeps s (endActivity a t) := rethrottle_keeps (.upd (setMaint_keeps h))

theorem safePoint_keeps {a} (h : Keeps s t) : Keeps s (safePoint a t) := .ite (raise_keeps (endActivity_keeps h)) h

theorem forceStops_keeps (h : Keeps s t) : Keeps s (forceStops t) := forAll_keeps (fun _ _ hu => safePoint_keeps hu) h

theorem stopActivities_keeps {bitsv} (h : Keeps s t) : Keeps s (stopActivities bitsv t) := by
  unfold stopActivities
  refine repeatIdx_keeps (fun _ _ hu => .ite ?_ hu) h
  split
  · exact endActivity_keeps hu
  · exact hu
  · exact .upd hu

theorem schRefuse_keeps {off} (h : Keeps s t) : Keeps s (schRefuse off t) := raise_keeps h

theorem schWriteWord_keeps {off v} (h : Keeps s t) : Keeps s (schWriteWord off v t) := by
  unfold schWriteWord
  split
  · exact .ite (.upd h) (schRefuse_keeps (.upd h))
  · exact .ite (.upd h) (schRefuse_keeps (.upd h))
  · exact .ite (schRefuse_keeps h) (.upd h)
  · exact .ite (.upd h) (schRefuse_keeps (.upd h))
  · dsimp only
    split
    · exact h
    · exact .ite h (.ite (schRefuse_keeps h) (.upd h))
  · split
    · dsimp only
      split
      · exact h
      · exact .ite (.upd h) h
    · dsimp only
      split
      · exact h
      · exact .ite (.upd h) h
  · exact .upd h
  · exact stopActivities_keeps h
  · exact h

theorem schReadEffect_keeps {off} (h : Keeps s t) : Keeps s (schReadEffect off t) := by
  unfold schReadEffect
  split
  · exact .upd h
  · exact .upd h
  · exact .upd h
  · exact .upd h
  · exact .upd h
  · exact h

theorem execClass2Ageing_keeps {slot} (h : Keeps s t) : Answers s (execClass2Ageing slot t) := by
  unfold execClass2Ageing
  refine .next ?_
  split
  · exact h
  · exact .ite (modJob_keeps (.upd h)) h

theorem execMaintStart_keeps {m activity} (h : Keeps s t) : Answers s (execMaintStart m activity t) := by
  unfold execMaintStart
  refine .next ?_
  split
  · exact audited_keeps (fun _ hu1 => schWriteWord_keeps hu1) h
  · exact schWriteWord_keeps h

theorem execMaintStop_keeps {m activity} (h : Keeps s t) : Answers s (execMaintStop m activity t) :=
  .next (audited_keeps (fun _ hu => schWriteWord_keeps hu) h)

theorem tryEnd_keeps {slot i} (h : Keeps s t) : Keeps s (tryEnd slot i t) := by
  unfold tryEnd
  split
  · exact h
  · dsimp only
    split
    · exact .ite (endStep_keeps h) h
    · exact h

theorem tryStep_keeps {op slot i f} (hf : ∀ c u, Keeps s u → ∀ v, f c u = some v → Keeps s v.2) (h : Keeps s t) : Keeps s (tryStep op slot i f t) := by
  unfold tryStep
  split
  · exact h
  · split
    · exact h
    · exact tryEnd_keeps (modStep_keeps (hf _ _ h _ ‹_›))

theorem runStep_keeps {op slot i f} (hf : ∀ c u, Keeps s u → Keeps s (f c u).2) (h : Keeps s t) : Keeps s (runStep op slot i f t) :=
  tryStep_keeps (fun c u hu => by rintro _ ⟨⟩; exact hf c u hu) h

theorem runPure_keeps {op slot i f} (h : Keeps s t) : Keeps s (runPure op slot i f t) := runStep_keeps (fun _ _ hu => hu) h

theorem nextOffset_keeps {slot i} (h : Keeps s t) : Keeps s (nextOffset slot i t) := by
  unfold nextOffset
  split
  · exact h
  · exact .ite (.ite (modStep_keeps h) h) (advanceJob_keeps (tryEnd_keeps (modStep_keeps h)))

theorem stepEnds_keeps {slot i kind idx b} (h : Keeps s t) : Keeps s (stepEnds slot i kind idx b t) := by
  unfold stepEnds
  split
  · exact h
  · dsimp only
    split
    · exact .ite (endStep_keeps (dropStep_keeps (raise_keeps (.upd (modEng_keeps h))))) (nextOffset_keeps (modStep_keeps (modEng_keeps h)))
    · exact nextOffset_keeps (modStep_keeps (modEng_keeps h))

theorem sendBack_keeps {kind idx} (h : Keeps s t) : Keeps s (sendBack kind idx t) :=
  forAll_keeps (fun _ _ hu => .ite (useMargin_keeps (modStep_keeps (modEng_keeps hu))) (modStep_keeps (modEng_keeps hu))) h

theorem quarantine_keeps {slot i idx} (h : Keeps s t) : Keeps s (quarantine slot i idx t) := by
  unfold quarantine
  dsimp only
  exact countFault_keeps (raise_keeps (raise_keeps (.upd (isolateUnit_keeps (modEng_keeps (loseParked_keeps (sendBack_keeps (failStep_keeps h))))))))

theorem bayRow_keeps {kind idx tag row} (h : Keeps s t) : Keeps s (bayRow kind idx tag row t) := by
  unfold bayRow
  split
  · exact .ite (raise_keeps h) h
  · exact h

theorem execEngineStepEnd_keeps {slot i kind outcome} (h : Keeps s t) : Answers s (execEngineStepEnd slot i kind outcome t) := by
  unfold execEngineStepEnd
  refine .next ?_
  split
  · dsimp only
    split
    · exact .ite h (settleUnit_keeps (stepEnds_keeps h))
    · exact .ite (bayRow_keeps (raise_keeps h)) (settleUnit_keeps (stepEnds_keeps (bayRow_keeps (raise_keeps h))))
    · exact .ite (failUnit_keeps (raise_keeps (abortJob_keeps (raise_keeps h)))) (settleUnit_keeps (abortJob_keeps (raise_keeps h)))
    · exact .ite (quarantine_keeps h) h
  · exact h

theorem execMldsaCutoff_keeps {slot i} (h : Keeps s t) : Answers s (execMldsaCutoff slot i t) := by
  unfold execMldsaCutoff
  refine .next ?_
  split
  · exact .ite (raise_keeps (quarantine_keeps (.upd h))) h
  · exact h

theorem execAbortWipeDone_keeps {engine} (h : Keeps s t) : Answers s (execAbortWipeDone engine t) := .next (.ite (raise_keeps (modEng_keeps h)) h)

theorem execCipherWipeDone_keeps {engine} (h : Keeps s t) : Answers s (execCipherWipeDone engine t) := .next (.ite (raise_keeps (modEng_keeps h)) h)

theorem reseedMask_keeps {idx} (h : Keeps s t) : Keeps s (reseedMask idx t) := .ite (.upd (.upd (rngTake_keeps h))) (.upd (.upd h))

theorem reseedAll_keeps (h : Keeps s t) : Keeps s (reseedAll t) := repeatIdx_keeps (fun _ _ hu => .ite hu (.ite (.upd hu) (reseedMask_keeps hu))) h

theorem reseedOwed_keeps (h : Keeps s t) : Keeps s (reseedOwed t) := forAll_keeps (fun _ _ hu => .ite (reseedMask_keeps hu) hu) h

theorem execMaskReseed_keeps (h : Keeps s t) : Answers s (execMaskReseed t) := .next (.ite (reseedAll_keeps h) (.ite (reseedAll_keeps (.upd h)) h))

theorem execNonceBlockRequest_keeps {holder} (h : Keeps s t) : Answers s (execNonceBlockRequest holder t) := .next (.ite h (grantNonces_keeps h))

theorem signBody_keeps {body} (h : Keeps s t) : Keeps s (signBody body t).2 := drawBytes_keeps h

theorem formCheckpoint_keeps (h : Keeps s t) : Keeps s (formCheckpoint t) := appendOrLose_keeps (.upd h)

theorem execCheckpointSigned_keeps {number passed} (h : Keeps s t) : Answers s (execCheckpointSigned number passed t) := by
  unfold execCheckpointSigned
  refine .next ?_
  split
  · exact h
  · exact .ite h (.ite (raise_keeps h) (.ite (sendMember_keeps (.upd (.upd (signBody_keeps h)))) (.upd (signBody_keeps h))))

theorem execCosignTimeout_keeps {number} (h : Keeps s t) : Answers s (execCosignTimeout number t) := by
  unfold execCosignTimeout
  refine .next ?_
  split
  · exact .ite (raise_keeps (.upd h)) h
  · exact h

theorem deliver_keeps {r} (h : Keeps s t) : Keeps s (deliver r t) := emit_keeps (.upd h)

theorem deliverOld_keeps (h : Keeps s t) : Keeps s (deliverOld t) := forAll_keeps (fun _ _ hu => deliver_keeps hu) (.upd h)

theorem trimHeld_keeps (h : Keeps s t) : Keeps s (trimHeld t) := by
  unfold trimHeld
  extract_lets surplus
  exact .ite h (.upd h)

theorem deliverFresh_keeps (h : Keeps s t) : Keeps s (deliverFresh t) :=
  .ite (raise_keeps (trimHeld_keeps (forAll_keeps (fun _ _ hu => deliver_keeps hu) (.upd h)))) (trimHeld_keeps (forAll_keeps (fun _ _ hu => deliver_keeps hu) (.upd h)))

theorem endDelivery_keeps {before} (h : Keeps s t) : Keeps s (endDelivery before t) := .ite (raise_keeps (.ite (.upd h) h)) (.ite (.upd h) h)

theorem execCheckpointForm_keeps (h : Keeps s t) : Answers s (execCheckpointForm t) := .next (.ite (deliverFresh_keeps (formCheckpoint_keeps h)) h)

theorem appendGap_keeps {reserved} (h : Keeps s t) : Keeps s (appendGap reserved t) := raise_keeps (appendRec_keeps (.upd h))

theorem auditRecover_keeps (h : Keeps s t) : Keeps s (auditRecover t) :=
  .ite (.ite (appendGap_keeps (.upd (.ite (raise_keeps (.ite (.upd h) h)) (.ite (.upd h) h)))) (.ite (raise_keeps (.ite (.upd h) h)) (.ite (.upd h) h))) (.ite (.ite (.ite (appendGap_keeps (raise_keeps (.upd h))) (raise_keeps (.upd h))) h) (.ite (appendGap_keeps (.upd h)) h))

theorem auditFull_keeps (h : Keeps s t) : Keeps s (auditFull t) := .ite (raise_keeps (.upd h)) h

theorem execOpAudCheckpoint_keeps {slot i} (h : Keeps s t) : Answers s (execOpAudCheckpoint slot i t) := .next (runPure_keeps h)

theorem execOpAudSegment_keeps {slot i} (h : Keeps s t) : Answers s (execOpAudSegment slot i t) := .next (runPure_keeps h)

theorem enableRing_keeps (h : Keeps s t) : Keeps s (enableRing t) := .ite (.upd h) (.ite (.upd h) (raise_keeps (.upd h)))

theorem audWriteWord_keeps {off v} (h : Keeps s t) : Keeps s (audWriteWord off v t) := by
  unfold audWriteWord
  split
  · exact .ite (raise_keeps h) (.upd h)
  · exact .ite (raise_keeps h) (.upd h)
  · exact .ite (enableRing_keeps (.ite h (.ite (raise_keeps h) (.upd h)))) (.upd (.ite h (.ite (raise_keeps h) (.upd h))))
  · exact .ite h (.upd h)
  · exact .ite (.upd h) h
  · exact .ite (.upd h) (.ite (.upd (.ite (appendGap_keeps h) h)) h)
  · exact .upd h
  · exact h

theorem audReadEffect_keeps {off} (h : Keeps s t) : Keeps s (audReadEffect off t) := .ite (.upd h) h

theorem audAuditedWrite_keeps {m off v} (h : Keeps s t) : Keeps s (audAuditedWrite m off v t) := audited_keeps (fun _ hu => audWriteWord_keeps hu) h

theorem execAudRingEnable_keeps {m log2} (h : Keeps s t) : Answers s (execAudRingEnable m log2 t) := .next (audAuditedWrite_keeps h)

theorem execAudRingDisable_keeps {m} (h : Keeps s t) : Answers s (execAudRingDisable m t) := .next (audAuditedWrite_keeps h)

theorem execAudRingHead_keeps {value} (h : Keeps s t) : Answers s (execAudRingHead value t) :=
  .next (hostWrite_keeps (fun _ hu => audWriteWord_keeps hu) h)

theorem execAudPolicyToStop_keeps {m} (h : Keeps s t) : Answers s (execAudPolicyToStop m t) := .next (audAuditedWrite_keeps h)

theorem execAudPolicyToGap_keeps {m} (h : Keeps s t) : Answers s (execAudPolicyToGap m t) := .next (audAuditedWrite_keeps h)

theorem translatePin_keeps {inKey c} (h : Keeps s t) : Keeps s (translatePin inKey c t).2 := by
  unfold translatePin
  dsimp only
  split <;> exact drawBytes_keeps h

theorem execOpPayPinTranslate_keeps {slot i} (h : Keeps s t) : Answers s (execOpPayPinTranslate slot i t) :=
  .next (runStep_keeps (fun _ _ hu => translatePin_keeps hu) h)

theorem execOpPayPinTranslateAesDukpt_keeps {slot i} (h : Keeps s t) : Answers s (execOpPayPinTranslateAesDukpt slot i t) :=
  .next (runStep_keeps (fun _ _ hu => translatePin_keeps hu) h)

theorem execOpPayPinTranslateTdesDukpt_keeps {slot i} (h : Keeps s t) : Answers s (execOpPayPinTranslateTdesDukpt slot i t) :=
  .next (runStep_keeps (fun _ _ hu => translatePin_keeps hu) h)

theorem execOpPayPinVerify_keeps {slot i} (h : Keeps s t) : Answers s (execOpPayPinVerify slot i t) := .next (runPure_keeps h)

theorem execOpPayMacGenerate_keeps {slot i} (h : Keeps s t) : Answers s (execOpPayMacGenerate slot i t) := .next (runPure_keeps h)

theorem execOpPayMacVerify_keeps {slot i} (h : Keeps s t) : Answers s (execOpPayMacVerify slot i t) := .next (runPure_keeps h)

theorem execOpPayCvvGenerate_keeps {slot i} (h : Keeps s t) : Answers s (execOpPayCvvGenerate slot i t) := .next (runPure_keeps h)

theorem execOpPayCvvVerify_keeps {slot i} (h : Keeps s t) : Answers s (execOpPayCvvVerify slot i t) := .next (runPure_keeps h)

theorem execOpPayArqcVerify_keeps {slot i} (h : Keeps s t) : Answers s (execOpPayArqcVerify slot i t) := .next (runPure_keeps h)

theorem execOpPayArpcGenerate_keeps {slot i} (h : Keeps s t) : Answers s (execOpPayArpcGenerate slot i t) := .next (runPure_keeps h)

theorem execOpPayFf1Encrypt_keeps {slot i} (h : Keeps s t) : Answers s (execOpPayFf1Encrypt slot i t) := .next (runPure_keeps h)

theorem execOpPayFf1Decrypt_keeps {slot i} (h : Keeps s t) : Answers s (execOpPayFf1Decrypt slot i t) := .next (runPure_keeps h)

theorem execOpPkValidate_keeps {slot i} (h : Keeps s t) : Answers s (execOpPkValidate slot i t) := .next (runPure_keeps h)

theorem withRandom_keeps {op slot i n f} (h : Keeps s t) : Keeps s (withRandom op slot i n f t) := runStep_keeps (fun _ _ hu => drawBytes_keeps hu) h

theorem keepBetween_keeps {slot state} (h : Keeps s t) : Keeps s (keepBetween slot state t) := modJob_keeps h

theorem execOpPkEcdsaSign_keeps {slot i} (h : Keeps s t) : Answers s (execOpPkEcdsaSign slot i t) := by
  unfold execOpPkEcdsaSign
  refine .next (runStep_keeps (fun _ _ hu => ?_) h)
  split
  · exact drawBytes_keeps hu
  · split
    · exact keepBetween_keeps (drawBytes_keeps hu)
    · exact drawBytes_keeps hu

theorem execOpPkEcdsaVerify_keeps {slot i} (h : Keeps s t) : Answers s (execOpPkEcdsaVerify slot i t) := .next (runPure_keeps h)

theorem execOpPkEddsaSign_keeps {slot i} (h : Keeps s t) : Answers s (execOpPkEddsaSign slot i t) := by
  unfold execOpPkEddsaSign
  refine .next (runStep_keeps (fun _ _ hu => ?_) h)
  split
  · exact drawBytes_keeps hu
  · exact .ite (keepBetween_keeps (drawBytes_keeps hu)) (drawBytes_keeps hu)

theorem execOpPkEddsaVerify_keeps {slot i} (h : Keeps s t) : Answers s (execOpPkEddsaVerify slot i t) := .next (runPure_keeps h)

theorem execOpPkEcdh_keeps {slot i} (h : Keeps s t) : Answers s (execOpPkEcdh slot i t) := .next (withRandom_keeps h)

theorem execOpPkRsaSign_keeps {slot i} (h : Keeps s t) : Answers s (execOpPkRsaSign slot i t) := .next (withRandom_keeps h)

theorem execOpPkRsaVerify_keeps {slot i} (h : Keeps s t) : Answers s (execOpPkRsaVerify slot i t) := .next (runPure_keeps h)

theorem execOpPkRsaEncrypt_keeps {slot i} (h : Keeps s t) : Answers s (execOpPkRsaEncrypt slot i t) := .next (withRandom_keeps h)

theorem execOpPkRsaDecrypt_keeps {slot i} (h : Keeps s t) : Answers s (execOpPkRsaDecrypt slot i t) := .next (withRandom_keeps h)

theorem execOpPkMldsaSign_keeps {slot i} (h : Keeps s t) : Answers s (execOpPkMldsaSign slot i t) := .next (withRandom_keeps h)

theorem execOpPkMldsaVerify_keeps {slot i} (h : Keeps s t) : Answers s (execOpPkMldsaVerify slot i t) := .next (runPure_keeps h)

theorem execOpPkMlkemEncaps_keeps {slot i} (h : Keeps s t) : Answers s (execOpPkMlkemEncaps slot i t) := .next (withRandom_keeps h)

theorem execOpPkMlkemDecaps_keeps {slot i} (h : Keeps s t) : Answers s (execOpPkMlkemDecaps slot i t) := .next (withRandom_keeps h)

theorem execOpPkSlhdsaVerify_keeps {slot i} (h : Keeps s t) : Answers s (execOpPkSlhdsaVerify slot i t) := .next (runPure_keeps h)

theorem presign_keeps {slot i} (h : Keeps s t) : Keeps s (presign slot i t) := withRandom_keeps h

theorem finishPresigned_keeps {slot i} (h : Keeps s t) : Keeps s (finishPresigned slot i t) := runPure_keeps h

theorem startSelftest_keeps {engine} (h : Keeps s t) : Keeps s (startSelftest engine t) := .ite (.upd h) h

theorem sigWriteWord_keeps {off v} (h : Keeps s t) : Keeps s (sigWriteWord off v t) := by
  unfold sigWriteWord
  split
  · exact .upd h
  · exact .ite (startSelftest_keeps (.upd h)) (.upd h)
  · exact h

theorem sigReadEffect_keeps {off} (h : Keeps s t) : Keeps s (sigReadEffect off t) := .ite (.upd h) h

theorem execSigSelftestStart_keeps {m engine} (h : Keeps s t) : Answers s (execSigSelftestStart m engine t) :=
  .next (audited_keeps (fun _ hu => sigWriteWord_keeps hu) h)

theorem execSigSelftestEnd_keeps {passed} (h : Keeps s t) : Answers s (execSigSelftestEnd passed t) := by
  unfold execSigSelftestEnd
  refine .next ?_
  split
  · exact h
  · exact .ite (.upd h) (.ite (raise_keeps (releaseUnit_keeps (.upd h))) (failUnit_keeps (raise_keeps (.upd h))))

theorem placeKey_keeps {b k} (h : Keeps s t) : ∀ v, placeKey b k t = some v → Keeps s v.2 := by
  intro v hv
  obtain ⟨r, hr, rfl⟩ := Option.map_eq_some_iff.mp hv
  exact keyChanged_keeps (intoCache_keeps (putKey_keeps (sealKey_keeps h r hr)))

theorem createKey_keeps {c k more} (h : Keeps s t) : Keeps s (createKey c k more t).2 := by
  unfold createKey
  split
  · exact h
  · split
    · exact h
    · split
      · exact placeKey_keeps h _ ‹_›
      · exact h

theorem execOpKeyGenerate_keeps {slot i} (h : Keeps s t) : Answers s (execOpKeyGenerate slot i t) := by
  unfold execOpKeyGenerate
  refine .next (runStep_keeps (fun _ _ hu => ?_) h)
  dsimp only
  split
  · exact hu
  · exact createKey_keeps (drawBytes_keeps hu)

theorem importBlock_keeps {c alg k block} (h : Keeps s t) : Keeps s (importBlock c alg k block t).2 := by
  unfold importBlock
  split
  · dsimp only
    split <;> exact h
  · split
    · dsimp only
      split <;> exact h
    · split
      · dsimp only
        split
        · exact h
        · exact createKey_keeps h
      · dsimp only
        split
        · exact h
        · exact createKey_keeps h

theorem execOpKeyImportX9143_keeps {slot i} (h : Keeps s t) : Answers s (execOpKeyImportX9143 slot i t) :=
  .next (runStep_keeps (fun _ _ hu => importBlock_keeps hu) h)

theorem execOpKeyImportRkl_keeps {slot i} (h : Keeps s t) : Answers s (execOpKeyImportRkl slot i t) := by
  unfold execOpKeyImportRkl
  refine .next (runStep_keeps (fun _ _ hu => ?_) h)
  split
  · dsimp only
    split
    · exact hu
    · split
      · exact hu
      · split
        · exact hu
        · exact importBlock_keeps hu
  · dsimp only
    split
    · exact hu
    · split
      · exact hu
      · split
        · exact hu
        · exact importBlock_keeps hu

theorem execOpKeyImportPublic_keeps {slot i} (h : Keeps s t) : Answers s (execOpKeyImportPublic slot i t) := by
  unfold execOpKeyImportPublic
  refine .next (runStep_keeps (fun _ _ hu => ?_) h)
  dsimp only
  split
  · exact hu
  · split
    · exact hu
    · exact createKey_keeps hu

theorem execOpKeyInfo_keeps {slot i} (h : Keeps s t) : Answers s (execOpKeyInfo slot i t) := by
  unfold execOpKeyInfo
  refine .next (runStep_keeps (fun _ _ hu => ?_) h)
  split
  · exact hu
  · split
    · exact hu
    · split
      · exact hu
      · exact drawBytes_keeps hu

theorem pendingRequest_keeps {c action subject quorum input} (h : Keeps s t) : Keeps s (pendingRequest c action subject quorum input t).2 :=
  openRequest_keeps h

theorem setStatus_keeps {b status} (h : Keeps s t) : Keeps s (setStatus b status t) := keyChanged_keeps (dropFromBays_keeps (reseal_keeps h))

theorem replicateKey_keeps {b mask} (h : Keeps s t) : Keeps s (replicateKey b mask t) := noteChange_keeps h

theorem keyChange_keeps {opcode x1 input} (h : Keeps s t) : Keeps s (keyChange opcode x1 input t).2 := by
  unfold keyChange
  split
  · exact h
  · split
    · exact h
    · split
      · split
        · exact h
        · exact setStatus_keeps h
      · exact setStatus_keeps h
      · exact destroyKey_keeps h
      · exact replicateKey_keeps h

theorem changeKey_keeps {c check} (h : Keeps s t) : Keeps s (changeKey c check t).2 := by
  unfold changeKey
  split
  · exact h
  · split
    · exact h
    · split
      · exact pendingRequest_keeps h
      · exact keyChange_keeps h

theorem execOpKeySetStatus_keeps {slot i} (h : Keeps s t) : Answers s (execOpKeySetStatus slot i t) :=
  .next (runStep_keeps (fun _ _ hu => changeKey_keeps hu) h)

theorem execOpKeyRevoke_keeps {slot i} (h : Keeps s t) : Answers s (execOpKeyRevoke slot i t) :=
  .next (runStep_keeps (fun _ _ hu => changeKey_keeps hu) h)

theorem execOpKeyDestroy_keeps {slot i} (h : Keeps s t) : Answers s (execOpKeyDestroy slot i t) :=
  .next (runStep_keeps (fun _ _ hu => changeKey_keeps hu) h)

theorem execOpKeyReplicate_keeps {slot i} (h : Keeps s t) : Answers s (execOpKeyReplicate slot i t) :=
  .next (runStep_keeps (fun _ _ hu => changeKey_keeps hu) h)

theorem execOpKeyPin_keeps {slot i} (h : Keeps s t) : Answers s (execOpKeyPin slot i t) := by
  unfold execOpKeyPin
  refine .next (runStep_keeps (fun _ _ hu => ?_) h)
  split
  · exact hu
  · split
    · dsimp only
      split
      · exact hu
      · exact pinKey_keeps hu
    · dsimp only
      split <;> exact hu

theorem execOpKeyUnpin_keeps {slot i} (h : Keeps s t) : Answers s (execOpKeyUnpin slot i t) := by
  unfold execOpKeyUnpin
  refine .next (runStep_keeps (fun _ _ hu => ?_) h)
  split
  · exact hu
  · exact unpinKey_keeps hu

theorem bayFull_keeps {bay handle} (h : Keeps s t) : Keeps s (bayFull bay handle t) := .ite (raise_keeps h) (raise_keeps h)

theorem execKeyFillDone_keeps {block bay} (h : Keeps s t) : Answers s (execKeyFillDone block bay t) := by
  unfold execKeyFillDone
  refine .next (.ite h ?_)
  split
  · exact .upd h
  · exact .ite (loadBay_keeps (intoCache_keeps (.upd h))) (bayFull_keeps (loadBay_keeps (intoCache_keeps (.upd h))))

theorem execKeyCacheRebuildBlock_keeps (h : Keeps s t) : Answers s (execKeyCacheRebuildBlock t) := by
  unfold execKeyCacheRebuildBlock
  refine .next (maintStep_keeps h (fun _ hu => ?_))
  split
  · exact raise_keeps (endActivity_keeps hu)
  · refine .ite (raise_keeps (endActivity_keeps ?_)) (safePoint_keeps ?_)
    · split
      · exact forAll_keeps (fun _ _ hu3 => loadBay_keeps hu3) (intoCache_keeps (.upd hu))
      · exact .upd hu
    · split
      · exact forAll_keeps (fun _ _ hu3 => loadBay_keeps hu3) (intoCache_keeps (.upd hu))
      · exact .upd hu

theorem execOpKeyRootLoad_keeps {slot i} (h : Keeps s t) : Answers s (execOpKeyRootLoad slot i t) :=
  .next (runStep_keeps (fun _ _ hu => pendingRequest_keeps hu) h)

theorem execOpKeyTenantSigner_keeps {slot i} (h : Keeps s t) : Answers s (execOpKeyTenantSigner slot i t) :=
  .next (runStep_keeps (fun _ _ hu => pendingRequest_keeps hu) h)

theorem execOpSesAppEnrol_keeps {slot i} (h : Keeps s t) : Answers s (execOpSesAppEnrol slot i t) := by
  unfold execOpSesAppEnrol
  refine .next (runStep_keeps (fun _ _ hu => ?_) h)
  dsimp only
  split
  · exact hu
  · split
    · exact placeKey_keeps (.ite (destroyKey_keeps (closeSessionsOf_keeps hu)) (closeSessionsOf_keeps hu)) _ ‹_›
    · exact hu

theorem execOpSesOpen_keeps {slot i} (h : Keeps s t) : Answers s (execOpSesOpen slot i t) := by
  unfold execOpSesOpen
  refine .next (runStep_keeps (fun _ _ hu => ?_) h)
  split
  · dsimp only
    split
    · exact hu
    · split
      · exact hu
      · split
        · exact hu
        · split
          · exact hu
          · split <;> exact hu
  · dsimp only
    split
    · exact hu
    · split
      · exact hu
      · split
        · exact hu
        · split
          · exact hu
          · split
            · exact hu
            · exact .upd (drawBytes_keeps (drawScalar_keeps (drawBytes_keeps hu)))

theorem execOpSesClose_keeps {slot i} (h : Keeps s t) : Answers s (execOpSesClose slot i t) := by
  unfold execOpSesClose
  refine .next (runStep_keeps (fun _ _ hu => ?_) h)
  split
  · exact hu
  · split
    · exact hu
    · exact closeSession_keeps hu

theorem refuseWrite_keeps {page off} (h : Keeps s t) : Keeps s (refuseWrite page off t) := raise_keeps h

theorem keyWriteWord_keeps {off v} (h : Keeps s t) : Keeps s (keyWriteWord off v t) := by
  unfold keyWriteWord
  split
  · exact .ite (refuseWrite_keeps h) (.upd h)
  · exact .upd h
  · exact .upd h
  · exact .ite (refuseWrite_keeps h) (.upd h)
  · exact h

theorem keyReadEffect_keeps {off} (h : Keeps s t) : Keeps s (keyReadEffect off t) := by
  unfold keyReadEffect
  split
  · exact modBay_keeps h
  · exact modBay_keeps h
  · exact .upd h
  · exact h

theorem execKeyBayFlush_keeps {m bays} (h : Keeps s t) : Answers s (execKeyBayFlush m bays t) :=
  .next (audited_keeps (fun _ hu => keyWriteWord_keeps hu) h)

theorem modVault_keeps {f} (h : Keeps s t) : Keeps s (modVault f t) := .upd h

theorem cacheTarget_keeps {r} (h : Keeps s t) : Keeps s (cacheTarget r t) := by
  unfold cacheTarget
  split
  · exact .ite (modVault_keeps h) h
  · exact modVault_keeps h

theorem sendRead_keeps {x0} (h : Keeps s t) : Keeps s (sendRead x0 t) := by
  unfold sendRead
  split
  · split
    · exact emit_keeps h
    · exact h
  · exact emit_keeps h

theorem takePlane_keeps {p} (h : Keeps s t) : Keeps s (takePlane p t) := modVault_keeps h

theorem issueRead_keeps {job x1} (h : Keeps s t) : Keeps s (issueRead job x1 t) := by
  unfold issueRead
  refine .ite h (sendRead_keeps (modVault_keeps ?_))
  split
  · exact .ite (takePlane_keeps h) h
  · exact h

theorem vaultStep_keeps {op slot i needs f} (hf : ∀ a0 u, Keeps s u → Keeps s (f a0 u).2) (h : Keeps s t) : Keeps s (vaultStep op slot i needs f t) := by
  unfold vaultStep
  split
  · exact h
  · exact .ite (runStep_keeps hf h) (forAll_keeps (fun _ _ hu => issueRead_keeps hu) h)

theorem appendJournal_keeps {kind target slot r ckpt} (h : Keeps s t) : Keeps s (appendJournal kind target slot r ckpt t) :=
  .ite (raise_keeps (.upd h)) (.upd h)

theorem putVersion_keeps {k r} (h : Keeps s t) : Keeps s (putVersion k r t) := appendJournal_keeps (modVault_keeps h)

theorem writeVersion_keeps {k r} (h : Keeps s t) : Keeps s (writeVersion k r t) := by
  unfold writeVersion
  split
  · exact h
  · exact putVersion_keeps (takeNonce_keeps h _ ‹_›)

theorem emptySlot_keeps {k} (h : Keeps s t) : Keeps s (emptySlot k t) := putVersion_keeps h

theorem noteUnmirrored_keeps {before} (h : Keeps s t) : Keeps s (noteUnmirrored before t) := .ite (raise_keeps h) h

theorem noteOverflow_keeps {before} (h : Keeps s t) : Keeps s (noteOverflow before t) :=
  .ite (raise_keeps (.ite (raise_keeps h) h)) (.ite (raise_keeps h) h)

theorem indexRecord_keeps {k r} (h : Keeps s t) : ∀ v, indexRecord k r t = some v → Keeps s v := by
  intro v hv
  unfold indexRecord at hv
  dsimp only at hv
  split at hv
  · cases hv
  · split at hv
    · cases hv
    · cases hv
      exact modVault_keeps (indexInsert_keeps (indexInsert_keeps h))

theorem storeRecord_keeps {k r} (h : Keeps s t) : ∀ v, storeRecord k r t = some v → Keeps s v := by
  intro v hv
  obtain ⟨s1, hs, rfl⟩ := Option.map_eq_some_iff.mp hv
  exact noteOverflow_keeps (modVault_keeps (writeVersion_keeps (indexRecord_keeps h s1 hs)))

theorem unindex_keeps {k r} (h : Keeps s t) : Keeps s (unindex k r t) := by
  unfold unindex
  exact modVault_keeps (modVault_keeps h)

theorem randomToken_keeps {e kept} (h : Keeps s t) : Keeps s (randomToken e kept t).2 := by
  unfold randomToken
  split
  · exact draw_keeps h
  · exact draw_keeps (draw_keeps h)

theorem drawToken_keeps {n d e kept} (h : Keeps s t) : Keeps s (drawToken n d e kept t).2.2 := by
  induction n generalizing t with
  | zero => exact h
  | succ n ih =>
    unfold drawToken
    dsimp only
    split
    · exact ih (randomToken_keeps h)
    · exact randomToken_keeps h

theorem mirrorBody_keeps {seq r} (h : Keeps s t) : Keeps s (mirrorBody seq r t).2 := by
  unfold mirrorBody
  extract_lets head n
  change Keeps s n.2
  subst n
  split
  · exact takeNonce_keeps h _ ‹_›
  · exact h

theorem sendMirror_keeps {seq r} (h : Keeps s t) : Keeps s (sendMirror seq r t) := by
  unfold sendMirror
  split
  · exact sendFold_keeps (mirrorBody_keeps h)
  · exact h

theorem mirrorAfter_keeps {c mode seq r d} (h : Keeps s t) : Keeps s (mirrorAfter c mode seq r d t).2 := by
  unfold mirrorAfter
  split
  · exact h
  · split
    · exact h
    · split
      · exact sendMirror_keeps h
      · exact modJob_keeps (sendMirror_keeps h)

theorem issueToken_keeps {c d pan expiry token} (h : Keeps s t) : Keeps s (issueToken c d pan expiry token t).2 := by
  unfold issueToken
  split
  · exact h
  · dsimp only
    split
    · exact h
    · split
      · exact h
      · exact mirrorAfter_keeps (noteUnmirrored_keeps (modVault_keeps (storeRecord_keeps h _ ‹_›)))

theorem drawIssue_keeps {c d pan expiry kept left} (h : Keeps s t) : Keeps s (drawIssue c d pan expiry kept left t).2 := by
  unfold drawIssue
  dsimp only
  split
  · exact modJob_keeps (drawToken_keeps h)
  · exact issueToken_keeps (modJob_keeps (drawToken_keeps h))

theorem mediaFailed_keeps {k} (h : Keeps s t) : Keeps s (mediaFailed k t).2 := by
  unfold mediaFailed
  dsimp only
  exact raise_keeps h

theorem tokenise_keeps {c} (h : Keeps s t) : Keeps s (tokenise c t).2 := by
  unfold tokenise
  split
  · exact h
  · dsimp only
    split
    · split
      · exact mediaFailed_keeps h
      · split
        · exact h
        · exact writeVersion_keeps h
    · split
      · exact h
      · split
        · exact h
        · split
          · split
            · exact h
            · exact issueToken_keeps h
          · exact drawIssue_keeps h

theorem execOpVltTokenise_keeps {slot i} (h : Keeps s t) : Answers s (execOpVltTokenise slot i t) :=
  .next (vaultStep_keeps (fun _ _ hu => tokenise_keeps hu) h)

theorem withToken_keeps {c f} (hf : ∀ a0 a1 u, Keeps s u → Keeps s (f a0 a1 u).2) (h : Keeps s t) : Keeps s (withToken c f t).2 := by
  unfold withToken
  split
  · exact h
  · dsimp only
    split
    · exact hf _ _ _ h
    · exact mediaFailed_keeps h

theorem detokenise_keeps {c} (h : Keeps s t) : Keeps s (detokenise c t).2 := by
  unfold detokenise
  refine withToken_keeps (fun _ _ _ hu => ?_) h
  split <;> exact hu

theorem execOpVltDetokenise_keeps {slot i} (h : Keeps s t) : Answers s (execOpVltDetokenise slot i t) :=
  .next (vaultStep_keeps (fun _ _ hu => detokenise_keeps hu) h)

theorem execOpVltQuery_keeps {slot i} (h : Keeps s t) : Answers s (execOpVltQuery slot i t) :=
  .next (vaultStep_keeps (fun _ _ hu => withToken_keeps (fun _ _ _ hu1 => hu1) hu) h)

theorem execOpVltLookup_keeps {slot i} (h : Keeps s t) : Answers s (execOpVltLookup slot i t) := by
  unfold execOpVltLookup
  refine .next (vaultStep_keeps (fun _ _ hu => ?_) h)
  split
  · exact hu
  · dsimp only
    split
    · exact hu
    · exact mediaFailed_keeps hu

theorem execOpVltStatusSet_keeps {slot i} (h : Keeps s t) : Answers s (execOpVltStatusSet slot i t) := by
  unfold execOpVltStatusSet
  refine .next (vaultStep_keeps (fun _ _ hu => withToken_keeps (fun _ _ _ hu1 => ?_) hu) h)
  split
  · exact hu1
  · split
    · exact hu1
    · exact mirrorAfter_keeps (noteUnmirrored_keeps (writeVersion_keeps hu1))

theorem writeDomain_keeps {d e} (h : Keeps s t) : Keeps s (writeDomain d e t) := raise_keeps (configRecord_keeps (modVault_keeps h))

theorem execOpVltDomainSet_keeps {slot i} (h : Keeps s t) : Answers s (execOpVltDomainSet slot i t) := by
  unfold execOpVltDomainSet
  refine .next (runStep_keeps ?_ h)
  intro c u hu
  dsimp only
  split
  · exact hu
  · split
    · exact hu
    · dsimp only
      exact noteChange_keeps (writeDomain_keeps hu)

theorem execOpVltDomainInfo_keeps {slot i} (h : Keeps s t) : Answers s (execOpVltDomainInfo slot i t) := .next (runPure_keeps h)

theorem noteDecode_keeps {iterations} (h : Keeps s t) : Keeps s (noteDecode iterations t) := modVault_keeps h

theorem modBlock_keeps {b f} (h : Keeps s t) : Keeps s (modBlock b f t) := modVault_keeps h

theorem dropRead_keeps {r} (h : Keeps s t) : Keeps s (dropRead r t) := forAll_keeps (fun _ _ hu => sendRead_keeps hu) (modVault_keeps h)

theorem countNand_keeps {l} (h : Keeps s t) : Keeps s (countNand l t) := forAll_keeps (fun _ _ hu => .ite (raise_keeps hu) hu) h

theorem clearPage_keeps {page} (h : Keeps s t) : Keeps s (clearPage page t) := clearRows_keeps h

theorem execNandReadDone_keeps {n decoded iterations micros} (h : Keeps s t) : Answers s (execNandReadDone n decoded iterations micros t) := by
  unfold execNandReadDone
  refine .next ?_
  split
  · exact h
  · refine .ite h (.ite (noteDecode_keeps (cacheTarget_keeps (dropRead_keeps (countNand_keeps (.ite (raise_keeps h) h))))) (.ite ?_ (.ite (raise_keeps (modBlock_keeps (modVault_keeps (.ite (raise_keeps h) h)))) ?_)))
    · split
      · exact .ite (useMargin_keeps (raise_keeps (modBlock_keeps (modVault_keeps (.ite (raise_keeps h) h))))) (useMargin_keeps (dropRead_keeps (.ite (raise_keeps h) h)))
      · exact .ite (raise_keeps h) h
    · split
      · split
        · exact failStep_keeps (raise_keeps (dropRead_keeps (raise_keeps h)))
        · exact raise_keeps (dropRead_keeps (raise_keeps h))
      · split
        · exact failStep_keeps (raise_keeps (dropRead_keeps h))
        · exact raise_keeps (dropRead_keeps h)

theorem retire_keeps {b} (h : Keeps s t) : Keeps s (retire b t) :=
  .ite h (.ite (.upd (.ite (raise_keeps (.ite (raise_keeps (modVault_keeps (.ite (raise_keeps (modVault_keeps (raise_keeps (modBlock_keeps h)))) (raise_keeps (modBlock_keeps h))))) (.ite (raise_keeps (modVault_keeps (raise_keeps (modBlock_keeps h)))) (raise_keeps (modBlock_keeps h))))) (.ite (raise_keeps (modVault_keeps (.ite (raise_keeps (modVault_keeps (raise_keeps (modBlock_keeps h)))) (raise_keeps (modBlock_keeps h))))) (.ite (raise_keeps (modVault_keeps (raise_keeps (modBlock_keeps h)))) (raise_keeps (modBlock_keeps h)))))) (.ite (raise_keeps (.ite (raise_keeps (modVault_keeps (.ite (raise_keeps (modVault_keeps (raise_keeps (modBlock_keeps h)))) (raise_keeps (modBlock_keeps h))))) (.ite (raise_keeps (modVault_keeps (raise_keeps (modBlock_keeps h)))) (raise_keeps (modBlock_keeps h))))) (.ite (raise_keeps (modVault_keeps (.ite (raise_keeps (modVault_keeps (raise_keeps (modBlock_keeps h)))) (raise_keeps (modBlock_keeps h))))) (.ite (raise_keeps (modVault_keeps (raise_keeps (modBlock_keeps h)))) (raise_keeps (modBlock_keeps h))))))

theorem checkpointJournal_keeps (h : Keeps s t) : Keeps s (checkpointJournal t) := .ite h (modVault_keeps (appendJournal_keeps h))

theorem execNandProgramDone_keeps {w block page passed} (h : Keeps s t) : Answers s (execNandProgramDone w block page passed t) := by
  unfold execNandProgramDone
  refine .next (.ite h (.ite (retire_keeps (raise_keeps (modVault_keeps h))) ?_))
  split
  · exact modVault_keeps (clearPage_keeps (modBlock_keeps (modVault_keeps h)))
  · exact checkpointJournal_keeps (modVault_keeps (clearPage_keeps (modBlock_keeps (modVault_keeps h))))
  · exact checkpointJournal_keeps (modVault_keeps (clearPage_keeps (modBlock_keeps (modVault_keeps h))))
  · exact clearPage_keeps (modBlock_keeps (modVault_keeps h))
  · exact clearPage_keeps (modBlock_keeps (modVault_keeps h))

theorem beginErase_keeps {b} (h : Keeps s t) : Keeps s (beginErase b t) := emit_keeps (modVault_keeps (modBlock_keeps (appendJournal_keeps h)))

theorem execNandEraseDone_keeps {block passed} (h : Keeps s t) : Answers s (execNandEraseDone block passed t) :=
  .next (.ite h (.ite (modBlock_keeps (appendJournal_keeps (modVault_keeps h))) (retire_keeps (modVault_keeps h))))

theorem mirrorLate_keeps {slot} (h : Keeps s t) : Keeps s (mirrorLate slot t) := by
  unfold mirrorLate
  split
  · exact h
  · split
    · exact h
    · split
      · exact tryEnd_keeps (modStep_keeps (raise_keeps (modJob_keeps h)))
      · exact raise_keeps (modJob_keeps h)

theorem execMirrorTimeout_keeps {slot} (h : Keeps s t) : Answers s (execMirrorTimeout slot t) := by
  unfold execMirrorTimeout
  refine .next ?_
  split
  · split
    · exact .ite (mirrorLate_keeps h) h
    · exact h
  · exact h

theorem execVaultRekeyLeaf_keeps (h : Keeps s t) : Answers s (execVaultRekeyLeaf t) := by
  unfold execVaultRekeyLeaf
  refine .next (maintStep_keeps h (fun _ hu => .ite (endActivity_keeps hu) ?_))
  split
  · dsimp only
    split
    · exact raise_keeps (endActivity_keeps (modVault_keeps (modVault_keeps hu)))
    · exact .ite (safePoint_keeps (modVault_keeps (modVault_keeps (forAll_keeps (fun _ _ hu3 => .ite hu3 (writeVersion_keeps hu3)) (modVault_keeps hu))))) (modVault_keeps (forAll_keeps (fun _ _ hu3 => .ite hu3 (writeVersion_keeps hu3)) (modVault_keeps hu)))
  · dsimp only
    split
    · exact raise_keeps (endActivity_keeps (modVault_keeps hu))
    · exact .ite (safePoint_keeps (modVault_keeps (modVault_keeps (forAll_keeps (fun _ _ hu3 => .ite hu3 (writeVersion_keeps hu3)) hu)))) (modVault_keeps (forAll_keeps (fun _ _ hu3 => .ite hu3 (writeVersion_keeps hu3)) hu))

theorem moveRecord_keeps {k r} (h : Keeps s t) : Keeps s (moveRecord k r t) := by
  unfold moveRecord
  extract_lets s1
  split
  · exact getD_keeps (storeRecord_keeps (emptySlot_keeps (unindex_keeps h))) h
  · exact h

theorem execVaultGcStep_keeps {step} (h : Keeps s t) : Answers s (execVaultGcStep step t) := by
  unfold execVaultGcStep
  refine .next (maintStep_keeps h ?_)
  intro u hu
  cases step with
  | move leaf =>
    refine .ite hu (safePoint_keeps (modVault_keeps (forAll_keeps (fun e v hv => ?_) (.upd hu))))
    exact .ite (emptySlot_keeps (unindex_keeps hv)) (moveRecord_keeps hv)
  | erase b => exact .ite hu (safePoint_keeps (beginErase_keeps hu))
  | finish => exact raise_keeps (endActivity_keeps hu)

theorem refreshBlock_keeps {b} (h : Keeps s t) : Keeps s (refreshBlock b t) := raise_keeps (modVault_keeps (modBlock_keeps h))

theorem execVaultPatrolPage_keeps {block iterations} (h : Keeps s t) : Answers s (execVaultPatrolPage block iterations t) :=
  .next (maintStep_keeps h (fun _ hu => safePoint_keeps (.ite (refreshBlock_keeps (noteDecode_keeps (modVault_keeps hu))) (noteDecode_keeps (modVault_keeps hu)))))

theorem execDramPatrolRow_keeps {channel corrected} (h : Keeps s t) : Answers s (execDramPatrolRow channel corrected t) :=
  .next (maintStep_keeps h (fun _ hu => safePoint_keeps (.ite (raise_keeps (modVault_keeps (.ite (raise_keeps (raise_keeps (clearRow_keeps hu))) (.ite (raise_keeps hu) hu)))) (modVault_keeps (.ite (raise_keeps (raise_keeps (clearRow_keeps hu))) (.ite (raise_keeps hu) hu))))))

theorem execAuditReserveCompaction_keeps {block} (h : Keeps s t) : Answers s (execAuditReserveCompaction block t) :=
  .next (maintStep_keeps h (fun _ hu => .ite (endActivity_keeps hu) (.ite hu (safePoint_keeps (beginErase_keeps (.upd hu))))))

theorem vaultWriteWord_keeps {off w} (h : Keeps s t) : Keeps s (vaultWriteWord off w t) := by
  unfold vaultWriteWord
  split
  · exact .ite (modVault_keeps h) (refuseWrite_keeps h)
  · exact .ite (refuseWrite_keeps h) (modVault_keeps h)
  · exact .ite (refuseWrite_keeps (modVault_keeps h)) (modVault_keeps h)
  · exact h

theorem vaultReadEffect_keeps {off} (h : Keeps s t) : Keeps s (vaultReadEffect off t) := by
  unfold vaultReadEffect
  split
  · exact modVault_keeps h
  · exact modVault_keeps h
  · exact h

theorem stopReplay_keeps (h : Keeps s t) : Keeps s (stopReplay t) := by
  unfold stopReplay
  extract_lets good
  split
  · exact h
  · exact raise_keeps (forAll_keeps (fun _ _ hu => .ite hu (getD_keeps (indexRecord_keeps hu) hu))
      (modVault_keeps (forAll_keeps (fun _ _ hu => .ite hu (unindex_keeps hu)) h)))

theorem execVaultReplayEnd_keeps (h : Keeps s t) : Answers s (execVaultReplayEnd t) := by
  unfold execVaultReplayEnd
  refine .next (.ite h ?_)
  exact raise_keeps (modVault_keeps (forAll_keeps (fun _ _ hu => raise_keeps (modBlock_keeps hu)) (stopReplay_keeps h)))

theorem execOpPayAuthRef_keeps {slot i} (h : Keeps s t) : Answers s (execOpPayAuthRef slot i t) := by
  unfold execOpPayAuthRef
  refine .next ?_
  split
  · exact h
  · refine .ite h ?_
    split
    · exact runPure_keeps h
    · exact vaultStep_keeps (fun _ _ hu2 => detokenise_keeps hu2) h
    · exact runStep_keeps (fun _ _ hu2 => translatePin_keeps hu2) h
    · exact .ite (runPure_keeps h) h
    · exact presign_keeps h
    · exact finishPresigned_keeps h

theorem modRng_keeps {f} (h : Keeps s t) : Keeps s (modRng f t) := .upd h

theorem modSource_keeps {n f} (h : Keeps s t) : Keeps s (modSource n f t) := modRng_keeps h

theorem rngHalt_keeps {source} (h : Keeps s t) : Keeps s (rngHalt source t) := raise_keeps (modRng_keeps h)

theorem rngStart_keeps (h : Keeps s t) : Keeps s (rngStart t) := modRng_keeps h

theorem rngTileOff_keeps (h : Keeps s t) : Keeps s (rngTileOff t) := .ite h (rngHalt_keeps h)

theorem rngTileOn_keeps (h : Keeps s t) : Keeps s (rngTileOn t) := .ite (rngStart_keeps h) h

theorem conditionedBlock_keeps (h : Keeps s t) : Keeps s (conditionedBlock t).2 := drawBytes_keeps h

theorem instantiate_keeps (h : Keeps s t) : Keeps s (instantiate t) := by
  unfold instantiate
  exact modRng_keeps (conditionedBlock_keeps (conditionedBlock_keeps (conditionedBlock_keeps (modRng_keeps h))))

theorem execRngStartupEnd_keeps {tests passed} (h : Keeps s t) : Answers s (execRngStartupEnd tests passed t) :=
  .next (.ite h (.ite (raise_keeps (modRng_keeps (instantiate_keeps (repeatIdx_keeps (fun _ _ hu => modSource_keeps hu) h)))) (rngHalt_keeps (repeatIdx_keeps (fun _ _ hu => modSource_keeps hu) h))))

theorem failSource_keeps {n repetition} (h : Keeps s t) : Keeps s (failSource n repetition t) :=
  .ite (.ite (modRng_keeps (raise_keeps (modRng_keeps (modSource_keeps h)))) (rngHalt_keeps (raise_keeps (modRng_keeps (modSource_keeps h))))) h

theorem execRngSourceFail_keeps {source repetition} (h : Keeps s t) : Answers s (execRngSourceFail source repetition t) := .next (failSource_keeps h)

theorem execRngTrimBlock_keeps {source ones} (h : Keeps s t) : Answers s (execRngTrimBlock source ones t) := .next (.ite h (modSource_keeps h))

theorem execRngEstimateBlock_keeps {source ones lags} (h : Keeps s t) : Answers s (execRngEstimateBlock source ones lags t) :=
  .next (.ite h (.ite (failSource_keeps (modSource_keeps h)) (modSource_keeps h)))

theorem reseed_keeps (h : Keeps s t) : Keeps s (reseed t) := modRng_keeps h

theorem execRngReseedComplete_keeps (h : Keeps s t) : Answers s (execRngReseedComplete t) :=
  .next (.ite (raise_keeps (modRng_keeps (reseed_keeps h))) h)

theorem execDrbgScheduledReseed_keeps (h : Keeps s t) : Answers s (execDrbgScheduledReseed t) :=
  .next (.ite (.ite (reseed_keeps h) (modRng_keeps h)) h)

theorem execConditionedBlockReady_keeps (h : Keeps s t) : Answers s (execConditionedBlockReady t) :=
  .next (.ite h (.ite (modRng_keeps (reseed_keeps (modRng_keeps (conditionedBlock_keeps h)))) (modRng_keeps (conditionedBlock_keeps h))))

theorem fillQueue_keeps (h : Keeps s t) : Keeps s (fillQueue t) := .ite (modRng_keeps h) h

theorem execRngWaitExpiry_keeps {slot i} (h : Keeps s t) : Answers s (execRngWaitExpiry slot i t) := by
  unfold execRngWaitExpiry
  refine .next ?_
  split
  · exact .ite (failStep_keeps h) h
  · exact h

theorem endWaiting_keeps (h : Keeps s t) : Keeps s (endWaiting t) := by
  unfold endWaiting
  refine .ite h (forAll_keeps (fun _ _ hu => ?_) h)
  split
  · exact repeatIdx_keeps (fun _ _ hu2 => .ite (failStep_keeps hu2) hu2) hu
  · exact hu

theorem execRngRebalanceSource_keeps {source passed} (h : Keeps s t) : Answers s (execRngRebalanceSource source passed t) :=
  .next (.ite h (maintStep_keeps h (fun _ hu => .ite (endActivity_keeps (.ite (.ite (modSource_keeps (modRng_keeps (modSource_keeps hu))) (modRng_keeps (modSource_keeps hu))) (.ite (failSource_keeps (modRng_keeps (modSource_keeps hu))) (modRng_keeps (modSource_keeps hu))))) (safePoint_keeps (.ite (.ite (modSource_keeps (modRng_keeps (modSource_keeps hu))) (modRng_keeps (modSource_keeps hu))) (.ite (failSource_keeps (modRng_keeps (modSource_keeps hu))) (modRng_keeps (modSource_keeps hu))))))))

theorem execRngRebalanceTimer_keeps (h : Keeps s t) : Answers s (execRngRebalanceTimer t) := .next (schWriteWord_keeps h)

theorem execOpRngGenerate_keeps {slot i} (h : Keeps s t) : Answers s (execOpRngGenerate slot i t) :=
  .next (runStep_keeps (fun _ _ hu => drawBytes_keeps hu) h)

theorem execOpRngRaw_keeps {slot i passed} (h : Keeps s t) : Answers s (execOpRngRaw slot i passed t) := by
  unfold execOpRngRaw
  refine .next (runStep_keeps (fun _ _ hu => ?_) h)
  split
  · dsimp only
    split <;> exact hu
  · split
    · dsimp only
      split
      · exact hu
      · exact drawBytes_keeps hu
    · dsimp only
      split
      · exact hu
      · exact failSource_keeps (drawBytes_keeps hu)

theorem rngWriteWord_keeps {off v} (h : Keeps s t) : Keeps s (rngWriteWord off v t) := by
  unfold rngWriteWord
  split
  · exact .ite (rngStart_keeps h) h
  · exact .ite (raise_keeps h) (.ite (rngHalt_keeps (modRng_keeps h)) (modRng_keeps h))
  · exact .ite (raise_keeps h) (modRng_keeps h)
  · exact h

theorem rngReadEffect_keeps {off} (h : Keeps s t) : Keeps s (rngReadEffect off t) := by
  unfold rngReadEffect
  split
  · exact modRng_keeps h
  · exact modRng_keeps h
  · exact h

theorem execRngRestart_keeps {m} (h : Keeps s t) : Answers s (execRngRestart m t) := .next (audited_keeps (fun _ hu => rngWriteWord_keeps hu) h)

theorem execRngMinSourcesWrite_keeps {m value} (h : Keeps s t) : Answers s (execRngMinSourcesWrite m value t) :=
  .next (audited_keeps (fun _ hu => rngWriteWord_keeps hu) h)

theorem nonceFor_keeps {c f} (h : Keeps s t) : ∀ v, nonceFor c t f = some v → Keeps s v.2 := by
  have hg := grantNonces_keeps (holder := nonceHolder t c.slot c.i) h
  intro v hv
  unfold nonceFor at hv
  generalize grantNonces (nonceHolder t c.slot c.i) t = g at hg hv
  cases hn : takeNonce (nonceHolder t c.slot c.i) t with
  | some n =>
    rw [hn] at hv
    exact Option.some.inj hv ▸ takeNonce_keeps h n hn
  | none =>
    rw [hn] at hv
    dsimp only at hv
    split at hv
    · exact Option.some.inj hv ▸ hg
    · cases hv

theorem withNonce_keeps {op slot i f} (h : Keeps s t) : Keeps s (withNonce op slot i f t) := tryStep_keeps (fun _ _ hu => nonceFor_keeps hu) h

theorem execOpSymCbcEncrypt_keeps {slot i} (h : Keeps s t) : Answers s (execOpSymCbcEncrypt slot i t) :=
  .next (runStep_keeps (fun _ _ hu => drawBytes_keeps hu) h)

theorem execOpSymCbcDecrypt_keeps {slot i} (h : Keeps s t) : Answers s (execOpSymCbcDecrypt slot i t) := .next (runPure_keeps h)

theorem execOpSymCtrEncrypt_keeps {slot i} (h : Keeps s t) : Answers s (execOpSymCtrEncrypt slot i t) := .next (withNonce_keeps h)

theorem execOpSymCtrDecrypt_keeps {slot i} (h : Keeps s t) : Answers s (execOpSymCtrDecrypt slot i t) := .next (runPure_keeps h)

theorem execOpSymGcmEncrypt_keeps {slot i} (h : Keeps s t) : Answers s (execOpSymGcmEncrypt slot i t) :=
  .next (tryStep_keeps (fun _ _ hu => nonceFor_keeps hu) h)

theorem execOpSymGcmDecrypt_keeps {slot i} (h : Keeps s t) : Answers s (execOpSymGcmDecrypt slot i t) := .next (runPure_keeps h)

theorem execOpSymCmac_keeps {slot i} (h : Keeps s t) : Answers s (execOpSymCmac slot i t) := .next (runPure_keeps h)

theorem execOpSymCmacVerify_keeps {slot i} (h : Keeps s t) : Answers s (execOpSymCmacVerify slot i t) := .next (runPure_keeps h)

theorem execOpSymXtsEncrypt_keeps {slot i} (h : Keeps s t) : Answers s (execOpSymXtsEncrypt slot i t) := .next (runPure_keeps h)

theorem execOpSymXtsDecrypt_keeps {slot i} (h : Keeps s t) : Answers s (execOpSymXtsDecrypt slot i t) := .next (runPure_keeps h)

theorem execOpSymKeyWrap_keeps {slot i} (h : Keeps s t) : Answers s (execOpSymKeyWrap slot i t) := .next (runPure_keeps h)

theorem execOpSymKeyUnwrap_keeps {slot i} (h : Keeps s t) : Answers s (execOpSymKeyUnwrap slot i t) := .next (runPure_keeps h)

theorem startCore_keeps {n} (h : Keeps s t) : Keeps s (startCore n t) := .ite h (modCore_keeps h)

theorem retireTenant_keeps {op} (h : Keeps s t) : Keeps s (retireTenant op t) := by
  unfold retireTenant
  split
  · exact h
  · refine .ite ?_ (.upd h)
    extract_lets k
    clear_value k
    split
    · exact .mapJobs h
    · exact h

theorem pruneTenants_keeps (h : Keeps s t) : Keeps s (pruneTenants t) := .upd h

theorem writeRow_keeps {n row code} (h : Keeps s t) : Keeps s (writeRow n row code t) := modCore_keeps (clearRow_keeps h)

theorem loadTenant_keeps {x0 code rodata row place digest} (h : Keeps s t) : Keeps s (loadTenant x0 code rodata row place digest t) :=
  raise_keeps (.upd (memWrite_keeps (repeatIdx_keeps (fun _ _ hu => repeatIdx_keeps (fun _ _ hu1 => writeRow_keeps hu1) hu) h)))

theorem execOpTenLoad_keeps {slot i} (h : Keeps s t) : Answers s (execOpTenLoad slot i t) := by
  unfold execOpTenLoad
  refine .next (runStep_keeps ?_ h)
  intro c u hu
  have h1 := retireTenant_keeps (op := leAt 6 2 (c.src.take 256)) hu
  dsimp only
  split
  · exact hu
  · split
    · exact hu
    · split
      · dsimp only
        exact raise_keeps hu
      · split
        · dsimp only
          exact loadTenant_keeps h1
        · exact hu

theorem execOpTenUnload_keeps {slot i} (h : Keeps s t) : Answers s (execOpTenUnload slot i t) := by
  unfold execOpTenUnload
  refine .next (runStep_keeps (fun _ _ hu => ?_) h)
  dsimp only
  split
  · exact retireTenant_keeps hu
  · exact hu

theorem execOpTenInfo_keeps {slot i} (h : Keeps s t) : Answers s (execOpTenInfo slot i t) := .next (runPure_keeps h)

theorem execTenantProgramInvoke_keeps {slot i core} (h : Keeps s t) : Answers s (execTenantProgramInvoke slot i core t) := by
  unfold execTenantProgramInvoke
  refine .next ?_
  split
  · split
    · split
      · dsimp only
        split
        · refine .ite h ?_
          split
          · exact modCore_keeps h
          · exact modCore_keeps (memWrite_keeps (memWrite_keeps (wipeContext_keeps h)))
        · exact h
      · dsimp only
        split
        · refine .ite h ?_
          split
          · exact modCore_keeps h
          · exact modCore_keeps (memWrite_keeps (memWrite_keeps (wipeContext_keeps h)))
        · exact h
    · dsimp only
      split
      · refine .ite h ?_
        split
        · exact modCore_keeps h
        · exact modCore_keeps (memWrite_keeps (memWrite_keeps (wipeContext_keeps h)))
      · exact h
  · exact h

theorem execStepBudgetExpiry_keeps {core clock} (h : Keeps s t) : Answers s (execStepBudgetExpiry core clock t) := by
  unfold execStepBudgetExpiry
  refine .next ?_
  dsimp only
  split
  · exact .ite h (.ite (takeException_keeps h) (modCore_keeps h))
  · exact h

theorem execInterruptEntry_keeps {core} (h : Keeps s t) : Answers s (execInterruptEntry core t) := by
  unfold execInterruptEntry
  refine .next ?_
  split
  · exact .ite (.ite (takeException_keeps h) (stall_keeps h)) h
  · exact h

theorem lateStore_keeps {core cause} (h : Keeps s t) : Keeps s (lateStore core cause t) := by
  unfold lateStore
  split
  · exact modCore_keeps (popStore_keeps h)
  · exact h

theorem execLateStoreError_keeps {core cause} (h : Keeps s t) : Answers s (execLateStoreError core cause t) := .next (.ite (lateStore_keeps h) h)

theorem coreReadEffect_keeps {n off} (h : Keeps s t) : Keeps s (coreReadEffect n off t) := by
  unfold coreReadEffect
  split
  · exact modCore_keeps h
  · exact modCore_keeps h
  · exact h

theorem writeRegion_keeps {m n v} (h : Keeps s t) : Keeps s (writeRegion m n v t) := modGate_keeps h

theorem gateWriteWord_keeps {m off v} (h : Keeps s t) : Keeps s (gateWriteWord m off v t) := .ite (writeRegion_keeps h) h

theorem gateReadEffect_keeps {m off} (h : Keeps s t) : Keeps s (gateReadEffect m off t) := .ite (modGate_keeps h) h

theorem runChainable_keeps {op slot i} (h : Keeps s t) : Answers s (runChainable op slot i t) := by
  unfold runChainable
  split
  · exact execOpPkValidate_keeps h
  · exact execOpPkEcdsaSign_keeps h
  · exact execOpPkEcdsaVerify_keeps h
  · exact execOpPkEddsaSign_keeps h
  · exact execOpPkEddsaVerify_keeps h
  · exact execOpPkEcdh_keeps h
  · exact execOpPkRsaSign_keeps h
  · exact execOpPkRsaVerify_keeps h
  · exact execOpPkRsaEncrypt_keeps h
  · exact execOpPkRsaDecrypt_keeps h
  · exact execOpPkMldsaSign_keeps h
  · exact execOpPkMldsaVerify_keeps h
  · exact execOpPkMlkemEncaps_keeps h
  · exact execOpPkMlkemDecaps_keeps h
  · exact execOpPkSlhdsaVerify_keeps h
  · exact execOpSymCbcEncrypt_keeps h
  · exact execOpSymCbcDecrypt_keeps h
  · exact execOpSymCtrEncrypt_keeps h
  · exact execOpSymCtrDecrypt_keeps h
  · exact execOpSymGcmEncrypt_keeps h
  · exact execOpSymGcmDecrypt_keeps h
  · exact execOpSymCmac_keeps h
  · exact execOpSymCmacVerify_keeps h
  · exact execOpSymXtsEncrypt_keeps h
  · exact execOpSymXtsDecrypt_keeps h
  · exact execOpSymKeyWrap_keeps h
  · exact execOpSymKeyUnwrap_keeps h
  · exact execOpPayPinTranslate_keeps h
  · exact execOpPayPinTranslateAesDukpt_keeps h
  · exact execOpPayPinTranslateTdesDukpt_keeps h
  · exact execOpPayPinVerify_keeps h
  · exact execOpPayMacGenerate_keeps h
  · exact execOpPayMacVerify_keeps h
  · exact execOpPayCvvGenerate_keeps h
  · exact execOpPayCvvVerify_keeps h
  · exact execOpPayArqcVerify_keeps h
  · exact execOpPayArpcGenerate_keeps h
  · exact execOpPayFf1Encrypt_keeps h
  · exact execOpPayFf1Decrypt_keeps h
  · exact execOpVltTokenise_keeps h
  · exact execOpVltDetokenise_keeps h
  · exact execOpVltQuery_keeps h
  · exact execOpVltLookup_keeps h
  · exact execOpVltStatusSet_keeps h
  · exact execOpRngGenerate_keeps h
  · split
    · split
      · exact execTenantProgramInvoke_keeps h
      · exact .next h
    · exact .next h

theorem execOpChain_keeps {slot i} (h : Keeps s t) : Answers s (execOpChain slot i t) := by
  unfold execOpChain
  split
  · exact .next h
  · split
    · exact runChainable_keeps h
    · exact .next h

theorem execOpNop_keeps {slot i} (h : Keeps s t) : Answers s (execOpNop slot i t) := .next (runPure_keeps h)

theorem execEvtRateWindowEnd_keeps (h : Keeps s t) : Answers s (execEvtRateWindowEnd t) :=
  .next (.ite (noteDropped_keeps (enqueue_keeps (.upd h))) h)

theorem execPrivilegedRecordClose_keeps (h : Keeps s t) : Answers s (execPrivilegedRecordClose t) := by
  unfold execPrivilegedRecordClose
  refine .next ?_
  split
  · exact .ite (enqueue_keeps (.upd h)) h
  · exact h

theorem collectAll_keeps {flushed} (h : Keeps s t) : Keeps s (collectAll flushed t) := forAll_keeps (fun _ _ hu => collect_keeps hu) h

theorem execTileBufferCollect_keeps (h : Keeps s t) : Answers s (execTileBufferCollect t) := .next (.ite (noteDropped_keeps (collectAll_keeps h)) h)

theorem enterSector_keeps {sector} (h : Keeps s t) : Keeps s (enterSector sector t) :=
  .ite (raise_keeps (.upd (ownErase_keeps (fun _ _ _ hu => appendLedger_keeps hu) (.ite (ownErase_keeps (fun _ _ _ hu => appendLedger_keeps hu) h) h)))) (ownErase_keeps (fun _ _ _ hu => appendLedger_keeps hu) (.ite (ownErase_keeps (fun _ _ _ hu => appendLedger_keeps hu) h) h))

theorem programNext_keeps (h : Keeps s t) : Keeps s (programNext t) := by
  unfold programNext
  split
  · exact h
  · exact .upd (putWord_keeps (.ite (enterSector_keeps h) h))

theorem scanRecords_keeps (h : Keeps s t) : Keeps s (scanRecords t) := .upd h

theorem execRecProgramDone_keeps (h : Keeps s t) : Answers s (execRecProgramDone t) := .next (programNext_keeps h)

theorem cursor_keeps {command} (h : Keeps s t) : Keeps s (cursor command t) := .ite (.upd h) h

theorem execRecCursorOldest_keeps (h : Keeps s t) : Answers s (execRecCursorOldest t) := .next (cursor_keeps h)

theorem execRecCursorNewest_keeps (h : Keeps s t) : Answers s (execRecCursorNewest t) := .next (cursor_keeps h)

theorem execRecCursorSeek_keeps (h : Keeps s t) : Answers s (execRecCursorSeek t) := .next (cursor_keeps h)

theorem execRecCursorNext_keeps (h : Keeps s t) : Answers s (execRecCursorNext t) := .next (cursor_keeps h)

theorem execRecCursorPrevious_keeps (h : Keeps s t) : Answers s (execRecCursorPrevious t) := .next (cursor_keeps h)

theorem execRecWindowLoaded_keeps (h : Keeps s t) : Answers s (execRecWindowLoaded t) := .next (.ite h (.upd h))

theorem recWriteWord_keeps {off v} (h : Keeps s t) : Keeps s (recWriteWord off v t) := by
  unfold recWriteWord
  split
  · exact cursor_keeps h
  · exact .upd h
  · exact .upd h
  · exact h

theorem recReadEffect_keeps {off} (h : Keeps s t) : Keeps s (recReadEffect off t) := .ite (.upd h) h

theorem sysCall_keeps {x group cap rs wait f} (hf : ∀ a0 u, Keeps s u → Keeps s (f a0 u).2) (h : Keeps s t) : Answers s (sysCall x group cap rs wait f t) := by
  unfold sysCall
  dsimp only
  exact issue_keeps (fun _ hu => modRegs_keeps (hf _ _ hu)) trivial h

theorem unstated_keeps (h : Keeps s t) : Keeps s (unstated t).2 := draw_keeps h

theorem flsStatus_keeps {block status} (h : Keeps s t) : Keeps s (flsStatus block status t) := by
  unfold flsStatus
  split
  · exact memWrite_keeps (modFlash_keeps h)
  · exact modFlash_keeps h

theorem flsAccept_keeps {block} (h : Keeps s t) : Keeps s (flsAccept block t) := by
  unfold flsAccept
  split
  · exact memWrite_keeps h
  · exact h

theorem flsRead_keeps {block addr corrected} (h : Keeps s t) : Keeps s (flsRead block addr corrected t).2 := by
  unfold flsRead
  extract_lets sec deliver
  have hdeliver : ∀ {status data u}, Keeps s u → Keeps s (deliver status data u).2 := by
    intro status data u hu
    refine flsStatus_keeps ?_
    split
    · exact memWrite_keeps hu
    · exact hu
  clear_value deliver
  split
  · exact h
  · split
    · exact h
    · split
      · exact h
      · split
        · exact hdeliver (drawBytes_keeps h)
        · split
          · exact hdeliver h
          · exact flsStatus_keeps h
          · extract_lets seen
            split
            · exact flsStatus_keeps h
            · exact hdeliver (.ite (noteCorrected_keeps h) h)

theorem flsProgram_keeps {block addr word} (h : Keeps s t) : Keeps s (flsProgram block addr word t).2 := by
  unfold flsProgram
  extract_lets sec p x s1 s2
  have h1 : Keeps s s1 := modPart_keeps h
  have h2 : Keeps s s2 := by
    subst s2
    split
    · exact modFlash_keeps h1
    · exact h1
  clear_value s1 s2
  repeat' split
  all_goals first | exact h | exact flsStatus_keeps h | exact flsAccept_keeps h2

theorem flsErase_keeps {block addr} (h : Keeps s t) : Keeps s (flsErase block addr t).2 := by
  unfold flsErase
  split
  · exact h
  · split
    · exact h
    · dsimp only
      split
      · exact h
      · split
        · exact h
        · split
          · exact h
          · split
            · exact h
            · refine flsAccept_keeps ?_
              split
              · exact modFlash_keeps (modPart_keeps (appendLedger_keeps h))
              · exact modPart_keeps (appendLedger_keeps h)

theorem flsSuspend_keeps {block addr} (h : Keeps s t) : Keeps s (flsSuspend block addr t).2 := by
  unfold flsSuspend
  dsimp only
  split
  · exact flsAccept_keeps (modPart_keeps h)
  · exact flsStatus_keeps h
  · exact flsStatus_keeps h
  · exact h

theorem flsResume_keeps {block addr} (h : Keeps s t) : Keeps s (flsResume block addr t).2 := by
  unfold flsResume
  split
  · dsimp only
    split <;> exact h
  · dsimp only
    split
    · exact flsStatus_keeps (modPart_keeps h)
    · exact h
    · exact h
    · exact h

theorem flsCommand_keeps {cmd block addr word corrected} (h : Keeps s t) : Keeps s (flsCommand cmd block addr word corrected t).2 := by
  unfold flsCommand
  split
  · exact flsRead_keeps h
  · exact flsProgram_keeps h
  · exact flsErase_keeps h
  · exact flsSuspend_keeps h
  · exact flsResume_keeps h
  · exact h

theorem flsFrom_keeps {cmd src corrected} (h : Keeps s t) : Answers s (flsFrom cmd src corrected t) := by
  unfold flsFrom
  split
  · exact .next (.ite h (flsCommand_keeps h))
  · split
    · exact .next h
    · exact sysCall_keeps (fun _ _ hu => flsCommand_keeps hu) h

theorem execFlsRead_keeps {src corrected} (h : Keeps s t) : Answers s (execFlsRead src corrected t) := flsFrom_keeps h

theorem execFlsProgram_keeps {src} (h : Keeps s t) : Answers s (execFlsProgram src t) := flsFrom_keeps h

theorem execFlsErase_keeps {src} (h : Keeps s t) : Answers s (execFlsErase src t) := flsFrom_keeps h

theorem execFlsSuspend_keeps {src} (h : Keeps s t) : Answers s (execFlsSuspend src t) := flsFrom_keeps h

theorem execFlsResume_keeps {src} (h : Keeps s t) : Answers s (execFlsResume src t) := flsFrom_keeps h

theorem execFlsProgramEnd_keeps {partition} (h : Keeps s t) : Answers s (execFlsProgramEnd partition t) := by
  unfold execFlsProgramEnd
  refine .next ?_
  dsimp only
  split
  · exact h
  · exact flsStatus_keeps (putWord_keeps (modPart_keeps h))

theorem remap_keeps {sec} (h : Keeps s t) : Keeps s (remap sec t).2 := by
  unfold remap
  split
  · exact modSector_keeps (appendLedger_keeps h)
  · exact modSector_keeps h

theorem finishErase_keeps {sec served pulses passed} (h : Keeps s t) : Keeps s (finishErase sec served pulses passed t).2 := by
  unfold finishErase
  split
  · split
    · exact modSector_keeps (clearSector_keeps (.ite (raise_keeps (raise_keeps (modFlash_keeps (modSector_keeps (appendLedger_keeps h))))) (raise_keeps (modFlash_keeps (modSector_keeps (appendLedger_keeps h))))))
    · exact remap_keeps (raise_keeps (.ite (raise_keeps (raise_keeps (modFlash_keeps (modSector_keeps (appendLedger_keeps h))))) (raise_keeps (modFlash_keeps (modSector_keeps (appendLedger_keeps h))))))
  · split
    · exact modSector_keeps (clearSector_keeps (.ite (raise_keeps (modFlash_keeps (modSector_keeps (appendLedger_keeps h)))) (modFlash_keeps (modSector_keeps (appendLedger_keeps h)))))
    · exact remap_keeps (raise_keeps (.ite (raise_keeps (modFlash_keeps (modSector_keeps (appendLedger_keeps h)))) (modFlash_keeps (modSector_keeps (appendLedger_keeps h)))))

theorem execFlsEraseEnd_keeps {partition pulses passed} (h : Keeps s t) : Answers s (execFlsEraseEnd partition pulses passed t) := by
  unfold execFlsEraseEnd
  refine .next ?_
  split
  · dsimp only
    split
    · exact flsStatus_keeps (finishErase_keeps (modPart_keeps h))
    · exact h
  · dsimp only
    split
    · exact flsStatus_keeps (finishErase_keeps (modPart_keeps h))
    · exact h

theorem execFlsSuspendDone_keeps {partition} (h : Keeps s t) : Answers s (execFlsSuspendDone partition t) :=
  .next (.ite (flsStatus_keeps (modPart_keeps h)) h)

theorem flsPowerFail_keeps (h : Keeps s t) : Keeps s (flsPowerFail t) := modFlash_keeps h

theorem flsPowerUp_keeps (h : Keeps s t) : Keeps s (flsPowerUp t) :=
  scanRecords_keeps (readAreas_keeps (noteArea_keeps (modFlash_keeps (forAll_keeps (fun _ _ hu => raise_keeps (modSector_keeps hu)) (forAll_keeps (fun _ _ hu => putWord_keeps hu) h)))))

theorem stagingPoint_keeps (h : Keeps s t) : Keeps s (stagingPoint t) := .ite (safePoint_keeps h) (endActivity_keeps h)

theorem execCodeFlashStagingSector_keeps {sector pulses passed} (h : Keeps s t) : Answers s (execCodeFlashStagingSector sector pulses passed t) := by
  unfold execCodeFlashStagingSector
  refine .next (maintStep_keeps h (fun _ hu => ?_))
  split
  · exact stagingPoint_keeps hu
  · exact .ite (stagingPoint_keeps hu) (stagingPoint_keeps (finishErase_keeps (appendLedger_keeps (modFlash_keeps hu))))

theorem stageWord_keeps {addr word} (h : Keeps s t) : ∀ v, stageWord addr word t = some v → Keeps s v := by
  intro v hv
  unfold stageWord at hv
  dsimp only at hv
  split at hv
  · cases hv
  · cases hv
    exact putWord_keeps h

theorem stageWords_keeps {addr data n} (h : Keeps s t) : Keeps s (stageWords addr data n t).2 := by
  induction n generalizing addr data t with
  | zero => exact h
  | succ n ih =>
    unfold stageWords
    split
    · exact ih (stageWord_keeps h _ ‹_›)
    · exact h

theorem execOpFlsStageWrite_keeps {slot i} (h : Keeps s t) : Answers s (execOpFlsStageWrite slot i t) := by
  unfold execOpFlsStageWrite
  refine .next (runStep_keeps (fun _ _ hu => ?_) h)
  dsimp only
  split
  · exact hu
  · split
    · exact hu
    · exact stageWords_keeps (modFlash_keeps hu)

theorem execOpFlsStageRead_keeps {slot i} (h : Keeps s t) : Answers s (execOpFlsStageRead slot i t) := by
  unfold execOpFlsStageRead
  refine .next (runStep_keeps (fun _ _ hu => ?_) h)
  split
  · exact hu
  · dsimp only
    split
    · exact hu
    · split
      · exact hu
      · split
        · exact noteRead_keeps hu
        · exact hu

theorem execOpFlsStageVerify_keeps {slot i} (h : Keeps s t) : Answers s (execOpFlsStageVerify slot i t) := by
  unfold execOpFlsStageVerify
  refine .next (runStep_keeps ?_ h)
  intro c u hu
  dsimp only
  split
  · exact hu
  · split
    · dsimp only
      exact modFlash_keeps hu
    · exact hu

theorem execOpFlsActivate_keeps {slot i} (h : Keeps s t) : Answers s (execOpFlsActivate slot i t) := by
  unfold execOpFlsActivate
  refine .next (runStep_keeps ?_ h)
  intro c u hu
  dsimp only
  split
  · exact hu
  · split
    · exact hu
    · dsimp only
      exact raise_keeps (appendSelector_keeps hu)

theorem raiseFloors_keeps (h : Keeps s t) : Keeps s (raiseFloors t) := .ite h (appendCounters_keeps (modFlash_keeps h))

theorem flsWriteWord_keeps {off v} (h : Keeps s t) : Keeps s (flsWriteWord off v t) := by
  unfold flsWriteWord
  split
  · exact modFlash_keeps h
  · exact modFlash_keeps h
  · exact h

theorem flsReadEffect_keeps {off} (h : Keeps s t) : Keeps s (flsReadEffect off t) := .ite (modFlash_keeps h) h

theorem receiveKey_keeps {k} (h : Keeps s t) : Keeps s (receiveKey k t) := .upd (storeKey_keeps (dropFromBays_keeps h))

theorem receiveRecord_keeps {x} (h : Keeps s t) : Keeps s (receiveRecord x t) := by
  unfold receiveRecord
  extract_lets r
  split
  · exact writeVersion_keeps h
  · split
    · exact getD_keeps (storeRecord_keeps h) h
    · exact h

theorem nameSign_keeps {body} (h : Keeps s t) : Keeps s (nameSign body t).2 := drawBytes_keeps h

theorem modStile_keeps {f} (h : Keeps s t) : Keeps s (modStile f t) := .upd h

theorem tagWrite_keeps {addr bs} (h : Keeps s t) : Keeps s (tagWrite addr bs t) := modStile_keeps h

theorem tapEntry_keeps {written} (h : Keeps s t) : Keeps s (tapEntry written t) :=
  .ite (modStile_keeps (tagWrite_keeps (.ite (tagWrite_keeps (.ite (tagWrite_keeps (.ite (tagWrite_keeps h) h)) (.ite (tagWrite_keeps h) h))) (.ite (tagWrite_keeps (.ite (tagWrite_keeps h) h)) (.ite (tagWrite_keeps h) h))))) (.ite (tagWrite_keeps (.ite (tagWrite_keeps (.ite (tagWrite_keeps h) h)) (.ite (tagWrite_keeps h) h))) (.ite (tagWrite_keeps (.ite (tagWrite_keeps h) h)) (.ite (tagWrite_keeps h) h)))

theorem tagSend_keeps {bs} (h : Keeps s t) : Keeps s (tagSend bs t) := emit_keeps h

theorem otherFrame_keeps (h : Keeps s t) : Keeps s (otherFrame t) := by
  unfold otherFrame
  split
  · exact modStile_keeps h
  · exact .ite h (modStile_keeps h)
  · exact h

theorem fieldGone_keeps (h : Keeps s t) : Keeps s (fieldGone t) := modStile_keeps h

theorem execStileFieldEntry_keeps (h : Keeps s t) : Answers s (execStileFieldEntry t) :=
  .next (.ite h (modStile_keeps (drawBytes_keeps (fieldGone_keeps h))))

theorem execStileFieldLoss_keeps (h : Keeps s t) : Answers s (execStileFieldLoss t) := .next (fieldGone_keeps h)

theorem tagWake_keeps (h : Keeps s t) : Keeps s (tagWake t) := tagSend_keeps (modStile_keeps h)

theorem execStileReqa_keeps (h : Keeps s t) : Answers s (execStileReqa t) := .next (.ite h (.ite (tagWake_keeps h) (otherFrame_keeps h)))

theorem execStileWupa_keeps (h : Keeps s t) : Answers s (execStileWupa t) := .next (.ite h (.ite (tagWake_keeps h) (otherFrame_keeps h)))

theorem execStileAnticollision_keeps {known} (h : Keeps s t) : Answers s (execStileAnticollision known t) :=
  .next (.ite (tagSend_keeps h) (.ite (otherFrame_keeps h) h))

theorem execStileSelectFrame_keeps {uid bcc} (h : Keeps s t) : Answers s (execStileSelectFrame uid bcc t) :=
  .next (.ite (tagSend_keeps (modStile_keeps h)) (.ite (otherFrame_keeps h) h))

theorem execStileRats_keeps (h : Keeps s t) : Answers s (execStileRats t) :=
  .next (.ite (tagSend_keeps (modStile_keeps h)) (.ite (otherFrame_keeps h) h))

theorem execStileHlta_keeps (h : Keeps s t) : Answers s (execStileHlta t) := .next (.ite (modStile_keeps h) (.ite (otherFrame_keeps h) h))

theorem execStileRBlock_keeps {ack number} (h : Keeps s t) : Answers s (execStileRBlock ack number t) :=
  .next (.ite (.ite (otherFrame_keeps h) h) (.ite (.ite h (tagSend_keeps h)) (.ite h (tagSend_keeps h))))

theorem execStileWtxResponse_keeps (h : Keeps s t) : Answers s (execStileWtxResponse t) := .next (.ite h (.ite (otherFrame_keeps h) h))

theorem execStileDeselect_keeps (h : Keeps s t) : Answers s (execStileDeselect t) :=
  .next (.ite (tagSend_keeps (modStile_keeps h)) (.ite (otherFrame_keeps h) h))

theorem tagAnswer_keeps {data sw} (h : Keeps s t) : Keeps s (tagAnswer data sw t) := tagSend_keeps (modStile_keeps h)

theorem tagServe_keeps {f} (hf : ∀ u, Keeps s u → Keeps s (f u).2.2) (h : Keeps s t) : Keeps s (tagServe f t) :=
  .ite (tagAnswer_keeps (hf _ h)) (.ite (otherFrame_keeps h) h)

theorem tagCommand_keeps {f} (h : Keeps s t) : Keeps s (tagCommand f t) := by
  unfold tagCommand
  refine tagServe_keeps (fun _ hu => ?_) h
  split <;> exact hu

theorem execStileApduSelect_keeps {aid written} (h : Keeps s t) : Answers s (execStileApduSelect aid written t) := by
  unfold execStileApduSelect
  refine .next (.ite (fieldGone_keeps (tapEntry_keeps h)) (tagServe_keeps ?_ h))
  intro u hu
  have h1 : Keeps s (if u.stile.logged then u else tapEntry 4 u) := .ite hu (tapEntry_keeps hu)
  dsimp only
  split
  · exact hu
  · dsimp only
    exact modStile_keeps h1

theorem execStileReadStatement_keeps {offset le} (h : Keeps s t) : Answers s (execStileReadStatement offset le t) := .next (tagCommand_keeps h)

theorem execStileGetStatus_keeps {challenge} (h : Keeps s t) : Answers s (execStileGetStatus challenge t) := .next (tagCommand_keeps h)

theorem execStileReadLog_keeps {back le} (h : Keeps s t) : Answers s (execStileReadLog back le t) := .next (tagCommand_keeps h)

theorem execStileUnlistedFrame_keeps {apdu} (h : Keeps s t) : Answers s (execStileUnlistedFrame apdu t) := by
  unfold execStileUnlistedFrame
  refine .next ?_
  split
  · exact .ite (otherFrame_keeps h) h
  · refine tagServe_keeps (fun _ hu1 => ?_) h
    split
    · exact hu1
    · split
      · exact hu1
      · split
        · exact hu1
        · exact draw_keeps hu1

theorem execStileWtxTimer_keeps (h : Keeps s t) : Answers s (execStileWtxTimer t) := .next (.ite (tagSend_keeps (modStile_keeps h)) h)

theorem execStileWireWrite_keeps {addr data held} (h : Keeps s t) : Answers s (execStileWireWrite addr data held t) :=
  .next (modStile_keeps (tagWrite_keeps h))

theorem refreshStatement_keeps (h : Keeps s t) : Keeps s (refreshStatement t) := tagWrite_keeps (nameSign_keeps h)

theorem execStileStatementRefresh_keeps (h : Keeps s t) : Answers s (execStileStatementRefresh t) := .next (.ite (refreshStatement_keeps h) h)

theorem takeStileKey_keeps {x0} (h : Keeps s t) : Keeps s (takeStileKey x0 t) := modStile_keeps h

theorem execStlKeyHandleWrite_keeps {m handle} (h : Keeps s t) : Answers s (execStlKeyHandleWrite m handle t) :=
  .next (audited_keeps (fun _ hu => takeStileKey_keeps hu) h)

theorem keeperWriteWord_keeps {off v} (h : Keeps s t) : Keeps s (keeperWriteWord off v t) := by
  unfold keeperWriteWord
  split
  · exact takeStileKey_keeps h
  · exact takeStileKey_keeps h
  · exact h

theorem keeperReadEffect_keeps {off} (h : Keeps s t) : Keeps s (keeperReadEffect off t) := .ite (modStile_keeps h) h

theorem modFold_keeps {f} (h : Keeps s t) : Keeps s (modFold f t) := .upd h

theorem hear_keeps {p} (h : Keeps s t) : Keeps s (hear p t) := modPort_keeps h

theorem trainPort_keeps {p} (h : Keeps s t) : Keeps s (trainPort p t) := .ite (modPort_keeps h) h

theorem refusePeer_keeps {p peer} (h : Keeps s t) : Keeps s (refusePeer p peer t) := raise_keeps (modPort_keeps h)

theorem portUp_keeps {p peer} (h : Keeps s t) : Keeps s (portUp p peer t) := .upd (raise_keeps (sendFold_keeps (modPort_keeps h)))

theorem setPort_keeps {p on} (h : Keeps s t) : Keeps s (setPort p on t) :=
  .ite (trainPort_keeps (modPort_keeps h)) (.ite (modPort_keeps h) (.ite (modPort_keeps h) (portDown_keeps (sendFold_keeps (modPort_keeps h)))))

theorem execFoldPortEnable_keeps {m port} (h : Keeps s t) : Answers s (execFoldPortEnable m port t) :=
  .next (.ite h (audited_keeps (fun _ hu => setPort_keeps hu) h))

theorem execFoldPortDisable_keeps {m port} (h : Keeps s t) : Answers s (execFoldPortDisable m port t) :=
  .next (.ite h (audited_keeps (fun _ hu => setPort_keeps hu) h))

theorem loseLink_keeps {p} (h : Keeps s t) : Keeps s (loseLink p t) := .ite (portDown_keeps h) h

theorem execFoldBlockLockLost_keeps {port} (h : Keeps s t) : Answers s (execFoldBlockLockLost port t) := .next (loseLink_keeps h)

theorem execFoldIdleTimeout_keeps {port} (h : Keeps s t) : Answers s (execFoldIdleTimeout port t) := .next (.ite (loseLink_keeps h) h)

theorem execFoldClose_keeps {port} (h : Keeps s t) : Answers s (execFoldClose port t) := .next (loseLink_keeps h)

theorem execFoldHandshakeTimeout_keeps {port} (h : Keeps s t) : Answers s (execFoldHandshakeTimeout port t) := .next (.ite (refusePeer_keeps h) h)

theorem execFoldRefusedRetry_keeps {port} (h : Keeps s t) : Answers s (execFoldRefusedRetry port t) := .next (.ite (modPort_keeps h) h)

theorem ephemeral_keeps (h : Keeps s t) : Keeps s (ephemeral t).2 := drawBytes_keeps (drawScalar_keeps h)

theorem helloBody_keeps {scalar kem} (h : Keeps s t) : Keeps s (helloBody scalar kem t).2 := by
  unfold helloBody
  dsimp only
  exact nameSign_keeps (drawBytes_keeps h)

theorem execFoldBlockLock_keeps {port} (h : Keeps s t) : Answers s (execFoldBlockLock port t) :=
  .next (.ite (.ite (sendFold_keeps (modPort_keeps (helloBody_keeps (ephemeral_keeps (modPort_keeps h))))) (modPort_keeps h)) h)

theorem sendFinish_keeps {p} (h : Keeps s t) : Keeps s (sendFinish p t) := sendFold_keeps h

theorem execFoldHello_keeps {port body} (h : Keeps s t) : Answers s (execFoldHello port body t) := by
  unfold execFoldHello
  refine .next (.ite h (.ite ?_ (.ite ?_ h)))
  · split
    · exact refusePeer_keeps h
    · exact sendFinish_keeps (sendFold_keeps (modPort_keeps (helloBody_keeps (ephemeral_keeps h))))
  · split
    · exact refusePeer_keeps h
    · exact sendFinish_keeps (modPort_keeps h)

theorem execFoldFinish_keeps {port tag} (h : Keeps s t) : Answers s (execFoldFinish port tag t) := by
  unfold execFoldFinish
  refine .next (.ite h ?_)
  split
  · exact refusePeer_keeps h
  · exact .ite (portUp_keeps h) (refusePeer_keeps h)

theorem discardFrame_keeps {p} (h : Keeps s t) : Keeps s (discardFrame p t) := modPort_keeps h

theorem execFoldFrameDiscarded_keeps {port macsec codewords} (h : Keeps s t) : Answers s (execFoldFrameDiscarded port macsec codewords t) :=
  .next (.ite h (.ite (raise_keeps (modPort_keeps (discardFrame_keeps h))) (modPort_keeps (discardFrame_keeps h))))

theorem forwardFrame_keeps {f type} (h : Keeps s t) : Keeps s (forwardFrame f type t) := .ite (emit_keeps h) (discardFrame_keeps h)

theorem receive_keeps {f type serve} (h : Keeps s t) (hf : ∀ u, Keeps s u → Keeps s (serve u)) : Keeps s (receive f type t serve) :=
  .ite h (.ite (discardFrame_keeps h) (.ite (hf _ (hear_keeps h)) (.ite (discardFrame_keeps (hear_keeps h)) (forwardFrame_keeps (hear_keeps h)))))

theorem execFoldEcho_keeps {f} (h : Keeps s t) : Answers s (execFoldEcho f t) := .next (receive_keeps h (fun _ hu => sendFold_keeps hu))

theorem execFoldEchoReply_keeps {f ns} (h : Keeps s t) : Answers s (execFoldEchoReply f ns t) :=
  .next (receive_keeps h (fun _ hu => .ite (raise_keeps (modPort_keeps hu)) (modPort_keeps hu)))

theorem execFoldRoute_keeps {f} (h : Keeps s t) : Answers s (execFoldRoute f t) := .next (receive_keeps h (fun _ hu => modPort_keeps hu))

theorem replaceRecord_keeps {k r} (h : Keeps s t) : Keeps s (replaceRecord k r t) :=
  .ite (writeVersion_keeps h) (getD_keeps (storeRecord_keeps (unindex_keeps h)) h)

theorem endMirrorJob_keeps {slot i d} (h : Keeps s t) : Keeps s (endMirrorJob slot i d t) :=
  tryEnd_keeps (modStep_keeps (modVault_keeps (modJob_keeps h)))

theorem takeNew_keeps {r} (h : Keeps s t) : Keeps s (takeNew r t).2.2 := by
  unfold takeNew
  split
  · exact h
  · exact receiveRecord_keeps h

theorem takeMirror_keeps {src r} (h : Keeps s t) : Keeps s (takeMirror src r t).2.2 := by
  unfold takeMirror
  split
  · extract_lets own
    split
    · split
      · split
        · dsimp only
          exact endMirrorJob_keeps (replaceRecord_keeps h)
        · exact h
      · exact h
    · split
      · dsimp only
        exact replaceRecord_keeps h
      · exact takeNew_keeps h
  · exact takeNew_keeps h

theorem execFoldMirror_keeps {f} (h : Keeps s t) : Answers s (execFoldMirror f t) := by
  unfold execFoldMirror
  refine .next (receive_keeps h (fun _ hu => ?_))
  split
  · exact discardFrame_keeps hu
  · exact .ite hu (sendFold_keeps (takeMirror_keeps hu))

theorem markMirrored_keeps {k} (h : Keeps s t) : Keeps s (markMirrored k t) := .ite (appendJournal_keeps (modVault_keeps h)) h

theorem reissue_keeps {slot i k} (h : Keeps s t) : Keeps s (reissue slot i k t) := by
  unfold reissue
  dsimp only
  split
  · exact appendJournal_keeps (modJob_keeps (modVault_keeps (unindex_keeps h)))
  · refine tryEnd_keeps (modStep_keeps ?_)
    split
    · exact drawIssue_keeps (appendJournal_keeps (modJob_keeps (modVault_keeps (unindex_keeps h))))
    · exact appendJournal_keeps (modJob_keeps (modVault_keeps (unindex_keeps h)))

theorem execFoldMirrorAck_keeps {f} (h : Keeps s t) : Answers s (execFoldMirrorAck f t) := by
  unfold execFoldMirrorAck
  refine .next (receive_keeps h ?_)
  intro u hu
  extract_lets seq status token job
  clear_value job status
  split
  · split
    · exact .ite (endMirrorJob_keeps hu) hu
    · exact hu
  · dsimp only
    refine safePoint_keeps ?_
    split
    · split
      · exact endMirrorJob_keeps (markMirrored_keeps hu)
      · exact markMirrored_keeps hu
    · split
      · exact endMirrorJob_keeps (replaceRecord_keeps hu)
      · exact replaceRecord_keeps hu
    · split
      · exact reissue_keeps hu
      · exact hu
    · exact hu

theorem execFoldKeyRepl_keeps {f} (h : Keeps s t) : Answers s (execFoldKeyRepl f t) := by
  unfold execFoldKeyRepl
  refine .next (receive_keeps h (fun _ hu => ?_))
  split
  · exact discardFrame_keeps hu
  · exact sendMember_keeps (.ite hu (receiveKey_keeps hu))

theorem execFoldKeyAck_keeps {f} (h : Keeps s t) : Answers s (execFoldKeyAck f t) :=
  .next (receive_keeps h (fun _ hu => safePoint_keeps (.ite (raise_keeps (ackChange_keeps hu)) (ackChange_keeps hu))))

theorem execFoldDomainRepl_keeps {f} (h : Keeps s t) : Answers s (execFoldDomainRepl f t) :=
  .next (receive_keeps h (fun _ hu => sendMember_keeps (.ite (writeDomain_keeps hu) hu)))

theorem execFoldDomainAck_keeps {f} (h : Keeps s t) : Answers s (execFoldDomainAck f t) :=
  .next (receive_keeps h (fun _ hu => safePoint_keeps (ackChange_keeps hu)))

theorem execFoldCosignReq_keeps {f} (h : Keeps s t) : Answers s (execFoldCosignReq f t) := by
  unfold execFoldCosignReq
  refine .next (receive_keeps h (fun _ hu => ?_))
  dsimp only
  split
  · exact hu
  · exact .ite hu (sendMember_keeps (signBody_keeps (modFold_keeps hu)))

theorem execFoldCosignResp_keeps {f} (h : Keeps s t) : Answers s (execFoldCosignResp f t) := by
  unfold execFoldCosignResp
  refine .next (receive_keeps h (fun _ hu => ?_))
  split
  · exact hu
  · exact .ite hu (.upd hu)

theorem execFoldResyncState_keeps {f} (h : Keeps s t) : Answers s (execFoldResyncState f t) := .next (receive_keeps h (fun _ hu => modFold_keeps hu))

theorem execFoldResyncItem_keeps {member} (h : Keeps s t) : Answers s (execFoldResyncItem member t) := by
  unfold execFoldResyncItem
  refine .next (maintStep_keeps h (fun _ hu => .ite (raise_keeps (endActivity_keeps (modFold_keeps hu))) (.ite hu ?_)))
  split
  · dsimp only
    split
    · exact sendChange_keeps hu
    · refine .ite ?_ hu
      split
      · exact sendMirror_keeps hu
      · exact hu
  · dsimp only
    split
    · exact sendChange_keeps (sendMember_keeps (modFold_keeps hu))
    · refine .ite ?_ (sendMember_keeps (modFold_keeps hu))
      split
      · exact sendMirror_keeps (sendMember_keeps (modFold_keeps hu))
      · exact sendMember_keeps (modFold_keeps hu)

theorem foldAdmit_keeps (h : Keeps s t) : Keeps s (foldAdmit t) := repeatIdx_keeps (fun _ _ hu => .ite (sendFold_keeps hu) (trainPort_keeps hu)) h

theorem execOpFoldEnrol_keeps {slot i} (h : Keeps s t) : Answers s (execOpFoldEnrol slot i t) := by
  unfold execOpFoldEnrol
  refine .next (runStep_keeps (fun _ _ hu => ?_) h)
  split
  · exact hu
  · dsimp only
    split
    · exact hu
    · split
      · exact hu
      · exact pendingRequest_keeps hu

theorem execOpFoldRemove_keeps {slot i} (h : Keeps s t) : Answers s (execOpFoldRemove slot i t) := by
  unfold execOpFoldRemove
  refine .next (runStep_keeps (fun _ _ hu => ?_) h)
  split
  · exact hu
  · split
    · exact hu
    · exact pendingRequest_keeps hu

theorem execOpFoldInfo_keeps {slot i} (h : Keeps s t) : Answers s (execOpFoldInfo slot i t) := .next (runPure_keeps h)

theorem changeMembers_keeps {input} (h : Keeps s t) : Keeps s (changeMembers input t) :=
  .ite (configRecord_keeps (modFold_keeps h)) (configRecord_keeps (modFold_keeps h))

theorem portWriteWord_keeps {p off v} (h : Keeps s t) : Keeps s (portWriteWord p off v t) := .ite (setPort_keeps h) h

theorem portReadEffect_keeps {p off} (h : Keeps s t) : Keeps s (portReadEffect p off t) := .ite (modPort_keeps h) h

theorem foldWriteWord_keeps {off v} (h : Keeps s t) : Keeps s (foldWriteWord off v t) := by
  unfold foldWriteWord
  split
  · exact .ite (modFold_keeps h) (raise_keeps h)
  · exact .ite (raise_keeps h) (modFold_keeps h)
  · exact h

theorem execOpLcRequest_keeps {slot i} (h : Keeps s t) : Answers s (execOpLcRequest slot i t) := by
  unfold execOpLcRequest
  refine .next (runStep_keeps (fun _ _ hu => ?_) h)
  split
  · exact hu
  · split
    · exact hu
    · split
      · exact hu
      · exact pendingRequest_keeps hu

theorem execOpLcStatus_keeps {slot i} (h : Keeps s t) : Answers s (execOpLcStatus slot i t) := .next (runPure_keeps h)

theorem execOpHdgLogRead_keeps {slot i} (h : Keeps s t) : Answers s (execOpHdgLogRead slot i t) := .next (runPure_keeps h)

theorem execOpSelftest_keeps {slot i failed rng rows} (h : Keeps s t) : Answers s (execOpSelftest slot i failed rng rows t) := by
  unfold execOpSelftest
  refine .next (runStep_keeps ?_ h)
  intro c u hu
  dsimp only
  have h1 : Keeps s (forAll (failed.filter (fun p => (engineOf p).isSome)) failUnit u) := forAll_keeps (fun _ _ hv => failUnit_keeps hv) hu
  exact raise_keeps (.ite (rngTileOff_keeps (failUnit_keeps h1)) h1)

theorem modSdc_keeps {f} (h : Keeps s t) : Keeps s (modSdc f t) := .upd h

theorem sdSend_keeps {command arg data} (h : Keeps s t) : Keeps s (sdSend command arg data t) := emit_keeps (modSdc_keeps h)

theorem sdAgain_keeps (h : Keeps s t) : Keeps s (sdAgain t) := by
  unfold sdAgain
  split
  · exact emit_keeps h
  · exact h

theorem fallBack_keeps (h : Keeps s t) : Keeps s (fallBack t) := raise_keeps (modSdc_keeps h)

theorem tuneCard_keeps {taps} (h : Keeps s t) : Keeps s (tuneCard taps t) :=
  .ite (fallBack_keeps (repeatIdx_keeps (fun _ _ hu => emit_keeps hu) h)) (modSdc_keeps (repeatIdx_keeps (fun _ _ hu => emit_keeps hu) h))

theorem writeDir_keeps {set first count} (h : Keeps s t) : Keeps s (writeDir set first count t) := sdSend_keeps (modSdc_keeps h)

theorem adoptSets_keeps (h : Keeps s t) : Keeps s (adoptSets t) := by
  unfold adoptSets
  dsimp only
  split
  · exact .ite (modSdc_keeps (modSdc_keeps (forAll_keeps (fun _ _ hu => raise_keeps hu) h))) (writeDir_keeps (modSdc_keeps (forAll_keeps (fun _ _ hu => raise_keeps hu) h)))
  · exact modSdc_keeps (forAll_keeps (fun _ _ hu => raise_keeps hu) h)

theorem execSdcInserted_keeps {card} (h : Keeps s t) : Answers s (execSdcInserted card t) :=
  .next (.ite h (.ite (raise_keeps (modSdc_keeps h)) (.ite (adoptSets_keeps (modSdc_keeps (.ite (tuneCard_keeps (raise_keeps (modSdc_keeps h))) (modSdc_keeps (raise_keeps (modSdc_keeps h)))))) (.ite (tuneCard_keeps (raise_keeps (modSdc_keeps h))) (modSdc_keeps (raise_keeps (modSdc_keeps h)))))))

theorem endBackup_keeps {result} (h : Keeps s t) : Keeps s (endBackup result t) := endActivity_keeps (modSdc_keeps h)

theorem execSdcRemoved_keeps (h : Keeps s t) : Answers s (execSdcRemoved t) :=
  .next (.ite h (raise_keeps (forAll_keeps (fun _ _ hu => emit_keeps hu) (modSdc_keeps (.ite (endBackup_keeps h) h)))))

theorem execSdcRetuneTimer_keeps {taps} (h : Keeps s t) : Answers s (execSdcRetuneTimer taps t) := .next (.ite (tuneCard_keeps (modSdc_keeps h)) h)

theorem execSdcCommandDone_keeps {crcOk taps} (h : Keeps s t) : Answers s (execSdcCommandDone crcOk taps t) :=
  .next (.ite h (.ite (modSdc_keeps h) (.ite (modSdc_keeps h) (.ite (fallBack_keeps (modSdc_keeps h)) (sdAgain_keeps (modSdc_keeps (tuneCard_keeps (modSdc_keeps (modSdc_keeps h)))))))))

theorem backupKeys_keeps (h : Keeps s t) : Keeps s (backupKeys t).2 := by
  unfold backupKeys
  suffices hfold : ∀ (l : List (Nat × KeyBlock)) (r : Bytes × State), Keeps s r.2 → Keeps s (l.foldl (fun r e => match takeNonce sdcPage r.2 with
      | some n => (r.1 ++ leavingBlock (backupKey t) n.1 0 e.2, n.2)
      | none => r) r).2 from hfold _ _ h
  intro l
  induction l with
  | nil => exact fun r hr => hr
  | cons e l ih =>
    refine fun r hr => ih _ ?_
    dsimp only
    split
    · next n hn => exact takeNonce_keeps hr n hn
    · exact hr

theorem backupData_keeps (h : Keeps s t) : Keeps s (backupData t).2 := backupKeys_keeps h

theorem ensureLabel_keeps (h : Keeps s t) : Keeps s (ensureLabel t) := .ite h (sdSend_keeps (modSdc_keeps (drawBytes_keeps h)))

theorem openSet_keeps (h : Keeps s t) : Keeps s (openSet t) := by
  unfold openSet
  refine .ite (endBackup_keeps h) (.ite (endBackup_keeps h) (.ite (endBackup_keeps h) (.ite (endBackup_keeps h) ?_)))
  dsimp only
  split
  · exact endBackup_keeps h
  · exact sdSend_keeps (modSdc_keeps (ensureLabel_keeps (modSdc_keeps (sdSend_keeps (backupData_keeps h)))))

theorem writeChunk_keeps (h : Keeps s t) : Keeps s (writeChunk t) := by
  unfold writeChunk
  split
  · exact h
  · refine .ite h ?_
    split
    · exact h
    · exact sdSend_keeps (modSdc_keeps (takeNonce_keeps h _ ‹_›))

theorem execBackupChunk_keeps (h : Keeps s t) : Answers s (execBackupChunk t) :=
  .next (maintStep_keeps h (fun _ hu => .ite (writeChunk_keeps (openSet_keeps hu)) (writeChunk_keeps hu)))

theorem closeSet_keeps {b} (h : Keeps s t) : Keeps s (closeSet b t) :=
  endBackup_keeps (raise_keeps (modSdc_keeps (sdSend_keeps (writeDir_keeps (modSdc_keeps (sdSend_keeps h))))))

theorem execSdcBusyEnd_keeps {error} (h : Keeps s t) : Answers s (execSdcBusyEnd error t) := by
  unfold execSdcBusyEnd
  refine .next ?_
  split
  · exact h
  · exact .ite h (.ite (endBackup_keeps h) (.ite (modSdc_keeps (safePoint_keeps (sdSend_keeps (modSdc_keeps h)))) (.ite (safePoint_keeps (sdSend_keeps (modSdc_keeps h))) (closeSet_keeps (safePoint_keeps (sdSend_keeps (modSdc_keeps h)))))))

theorem restoreSet_keeps {n} (h : Keeps s t) : Keeps s (restoreSet n t).2 := by
  unfold restoreSet
  have hfails : Keeps s (modSdc (fun c => { c with lastResult := 7 }) t) := modSdc_keeps h
  extract_lets fails
  split
  · exact hfails
  · extract_lets p
    split
    · exact hfails
    · split
      · exact hfails
      · dsimp only
        exact modSdc_keeps (forAll_keeps (fun _ _ hu => receiveRecord_keeps hu) (forAll_keeps (fun _ _ hu => writeDomain_keeps hu)
          (forAll_keeps (fun _ _ hu => receiveKey_keeps hu) h)))

theorem archiveCard_keeps (h : Keeps s t) : Keeps s (archiveCard t) := .ite h (raise_keeps (modSdc_keeps (sdSend_keeps (sdSend_keeps h))))

theorem execOpSdcRestore_keeps {slot i} (h : Keeps s t) : Answers s (execOpSdcRestore slot i t) := by
  unfold execOpSdcRestore
  refine .next (runStep_keeps (fun _ _ hu => ?_) h)
  split
  · exact hu
  · split
    · exact hu
    · exact pendingRequest_keeps hu

theorem execOpSdcArchive_keeps {slot i} (h : Keeps s t) : Answers s (execOpSdcArchive slot i t) := by
  unfold execOpSdcArchive
  refine .next (runStep_keeps (fun _ _ hu => ?_) h)
  split
  · exact hu
  · exact pendingRequest_keeps hu

theorem execOpSdcInfo_keeps {slot i} (h : Keeps s t) : Answers s (execOpSdcInfo slot i t) := .next (runPure_keeps h)

theorem sdcWriteWord_keeps {off v} (h : Keeps s t) : Keeps s (sdcWriteWord off v t) := .ite h (.ite (raise_keeps h) (modSdc_keeps h))

theorem sdcReadEffect_keeps {off} (h : Keeps s t) : Keeps s (sdcReadEffect off t) := .ite (modSdc_keeps h) h

theorem keepRoster_keeps {m roster} (h : Keeps s t) : Keeps s (keepRoster m roster t) := by
  unfold keepRoster
  split
  · exact configRecord_keeps (takeNonce_keeps h _ ‹_›)
  · exact h

theorem loadRoot_keeps {domain m roster root} (h : Keeps s t) : Keeps s (loadRoot domain m roster root t) :=
  keepRoster_keeps (.upd (storeKey_keeps (dropFromBays_keeps h)))

theorem lifeAction_keeps {r} (h : Keeps s t) : Keeps s (lifeAction r t).2 := by
  unfold lifeAction
  dsimp only
  split
  · split
    · exact h
    · exact transition_keeps h
  · exact h

theorem performAction_keeps {r release} (h : Keeps s t) : Keeps s (performAction r release t).2 := by
  unfold performAction
  split
  · split
    · exact h
    · exact lifeAction_keeps h
  · split
    · exact loadRoot_keeps h
    · exact h
  · exact loadRoot_keeps h
  · exact changeMembers_keeps h
  · exact restoreSet_keeps h
  · split
    · exact h
    · exact archiveCard_keeps h
  · split
    · exact .ite h (configRecord_keeps (.upd h))
    · exact h
  · exact keyChange_keeps h

theorem meet_keeps {r} (h : Keeps s t) : Keeps s (meet r t) := by
  unfold meet
  dsimp only
  exact activate_keeps (raise_keeps (requestRecord_keeps (performAction_keeps (.upd h))))

theorem beginPass2_keeps (h : Keeps s t) : Keeps s (beginPass2 t) := by
  unfold beginPass2
  split
  · exact h
  · exact modActive_keeps (drawBytes_keeps h)

theorem setPresentation_keeps {reader p} (h : Keeps s t) : Keeps s (setPresentation reader p t) := .upd h

theorem countPresentation_keeps {p} (h : Keeps s t) : Keeps s (countPresentation p t) := by
  unfold countPresentation
  dsimp only
  split
  · exact modActive_keeps h
  · exact .ite (modActive_keeps h) (.ite (beginPass2_keeps (modActive_keeps h)) (meet_keeps (modActive_keeps h)))

theorem modContact_keeps {f} (h : Keeps s t) : Keeps s (modContact f t) := .upd h

theorem deactivate_keeps (h : Keeps s t) : Keeps s (deactivate t) := emit_keeps (emit_keeps (emit_keeps (emit_keeps (modContact_keeps h))))

theorem releaseCard_keeps {reader} (h : Keeps s t) : Keeps s (releaseCard reader t) := .ite (emit_keeps (.upd h)) (deactivate_keeps h)

theorem endWith_keeps {reader outcome} (h : Keeps s t) : Keeps s (endWith reader outcome t) := by
  unfold endWith
  split
  · exact h
  · exact .ite (countPresentation_keeps (requestRecord_keeps (setPresentation_keeps h))) (requestRecord_keeps (setPresentation_keeps h))

theorem endPresentation_keeps {reader outcome} (h : Keeps s t) : Keeps s (endPresentation reader outcome t) := endWith_keeps (releaseCard_keeps h)

theorem apdu_keeps {reader cla ins p1 p2 data} (h : Keeps s t) : Keeps s (apdu reader cla ins p1 p2 data t) := emit_keeps h

theorem authData_keeps {cardSerial} (h : Keeps s t) : Keeps s (authData cardSerial t).2 := by
  unfold authData
  extract_lets e n c head g
  exact nameSign_keeps (t := n.2) (body := head ++ leBytes 8 cardSerial) (drawBytes_keeps (drawScalar_keeps h))

theorem askCard_keeps {reader} (h : Keeps s t) : Keeps s (askCard reader t) := by
  unfold askCard
  split
  · exact h
  · split
    · exact endPresentation_keeps h
    · exact .ite (endPresentation_keeps h) (.ite (endPresentation_keeps h) (.ite (endPresentation_keeps h) (apdu_keeps (setPresentation_keeps h))))

theorem beginPresentation_keeps {reader} (h : Keeps s t) : Keeps s (beginPresentation reader t) := .ite h (apdu_keeps (setPresentation_keeps h))

theorem afterIdentity_keeps {reader p data} (h : Keeps s t) : Keeps s (afterIdentity reader p data t) :=
  .ite (endPresentation_keeps h) (.ite (endPresentation_keeps (setPresentation_keeps h)) (apdu_keeps (setPresentation_keeps (authData_keeps h))))

theorem afterAuth_keeps {reader p data} (h : Keeps s t) : Keeps s (afterAuth reader p data t) := by
  unfold afterAuth
  refine .ite (endPresentation_keeps h) ?_
  dsimp only
  split
  · exact endPresentation_keeps (setPresentation_keeps h)
  · exact setPresentation_keeps h

theorem afterAction_keeps {reader p field} (h : Keeps s t) : Keeps s (afterAction reader p field t) := by
  unfold afterAction
  split
  · exact .ite (endWith_keeps (setPresentation_keeps (releaseCard_keeps h))) (endWith_keeps (setPresentation_keeps (releaseCard_keeps h)))
  · exact endPresentation_keeps h

theorem cardAnswers_keeps {reader data sw} (h : Keeps s t) : Keeps s (cardAnswers reader data sw t) := by
  unfold cardAnswers
  split
  · exact h
  · refine .ite h (.ite (endPresentation_keeps h) ?_)
    split
    · exact apdu_keeps (setPresentation_keeps h)
    · exact afterIdentity_keeps h
    · exact afterAuth_keeps h
    · exact afterAction_keeps h

theorem modReader_keeps {f} (h : Keeps s t) : Keeps s (modReader f t) := .upd h

theorem applyClass_keeps {k} (h : Keeps s t) : Keeps s (applyClass k t) := emit_keeps (emit_keeps (modContact_keeps h))

theorem activateCard_keeps (h : Keeps s t) : Keeps s (activateCard t) := by
  unfold activateCard
  split
  · exact applyClass_keeps h
  · exact h

theorem cardProtocol_keeps (h : Keeps s t) : Keeps s (cardProtocol t) := endWith_keeps (raise_keeps (modContact_keeps (deactivate_keeps h)))

theorem nextClass_keeps (h : Keeps s t) : Keeps s (nextClass t) := by
  unfold nextClass
  split
  · exact applyClass_keeps (deactivate_keeps h)
  · exact cardProtocol_keeps h

theorem execCardInserted_keeps (h : Keeps s t) : Answers s (execCardInserted t) :=
  .next (.ite h (.ite (raise_keeps (modContact_keeps h)) (activateCard_keeps (raise_keeps (modContact_keeps h)))))

theorem execCardRemoved_keeps (h : Keeps s t) : Answers s (execCardRemoved t) :=
  .next (.ite h (endWith_keeps (raise_keeps (modContact_keeps (.ite (deactivate_keeps h) h)))))

theorem execCardShort_keeps (h : Keeps s t) : Answers s (execCardShort t) :=
  .next (.ite h (endWith_keeps (raise_keeps (modContact_keeps (deactivate_keeps h)))))

theorem execCardAtrTimeout_keeps (h : Keeps s t) : Answers s (execCardAtrTimeout t) := .next (.ite (nextClass_keeps h) h)

theorem execCardAtr_keeps {malformed classes t0 t1 fmax} (h : Keeps s t) : Answers s (execCardAtr malformed classes t0 t1 fmax t) :=
  .next (.ite h (.ite (cardProtocol_keeps h) (.ite (nextClass_keeps h) (beginPresentation_keeps (modContact_keeps h)))))

theorem retryCard_keeps (h : Keeps s t) : Keeps s (retryCard t) := .ite (activateCard_keeps (modContact_keeps h)) (modContact_keeps h)

theorem execCardRetry_keeps {m} (h : Keeps s t) : Answers s (execCardRetry m t) := .next (audited_keeps (fun _ hu => retryCard_keeps hu) h)

theorem execCardProtocolTimeout_keeps (h : Keeps s t) : Answers s (execCardProtocolTimeout t) :=
  .next (.ite (cardProtocol_keeps (modContact_keeps h)) h)

theorem rdrSend_keeps {bs} (h : Keeps s t) : Keeps s (rdrSend bs t) := emit_keeps h

theorem fieldOff_keeps (h : Keeps s t) : Keeps s (fieldOff t) := modReader_keeps h

theorem pollA_keeps (h : Keeps s t) : Keeps s (pollA t) := rdrSend_keeps (modReader_keeps h)

theorem pollB_keeps (h : Keeps s t) : Keeps s (pollB t) := rdrSend_keeps (modReader_keeps h)

theorem poll_keeps (h : Keeps s t) : Keeps s (poll t) := .ite (pollA_keeps h) (.ite (pollB_keeps h) (fieldOff_keeps h))

theorem rdrProtocol_keeps (h : Keeps s t) : Keeps s (rdrProtocol t) := endWith_keeps (fieldOff_keeps (raise_keeps h))

theorem antennaFault_keeps {code} (h : Keeps s t) : Keeps s (antennaFault code t) :=
  endWith_keeps (.ite (raise_keeps (fieldOff_keeps (modReader_keeps h))) (fieldOff_keeps (modReader_keeps h)))

theorem execRdrPing_keeps {amplitude antenna} (h : Keeps s t) : Answers s (execRdrPing amplitude antenna t) :=
  .next (.ite h (.ite (antennaFault_keeps (modReader_keeps h)) (.ite (modReader_keeps (modReader_keeps h)) (.ite (.ite (raise_keeps (modReader_keeps h)) (poll_keeps (raise_keeps (modReader_keeps h)))) (modReader_keeps (modReader_keeps h))))))

theorem execRdrAntennaFault_keeps {short} (h : Keeps s t) : Answers s (execRdrAntennaFault short t) := .next (.ite h (antennaFault_keeps h))

theorem takeBits_keeps {more collision} (h : Keeps s t) : Keeps s (takeBits more collision t) :=
  .ite (rdrSend_keeps (raise_keeps (modReader_keeps h))) (.ite (rdrSend_keeps (modReader_keeps h)) (rdrProtocol_keeps h))

theorem raiseRate_keeps {rates} (h : Keeps s t) : Keeps s (raiseRate rates t) := .ite h (rdrSend_keeps h)

theorem execRdrFrameReceived_keeps {frame} (h : Keeps s t) : Answers s (execRdrFrameReceived frame t) := by
  unfold execRdrFrameReceived
  refine .next ?_
  split
  · exact h
  · exact rdrSend_keeps (modReader_keeps h)
  · exact rdrSend_keeps (modReader_keeps h)
  · exact pollB_keeps (modReader_keeps h)
  · exact takeBits_keeps h
  · exact .ite (rdrSend_keeps (modReader_keeps h)) (.ite (rdrSend_keeps (modReader_keeps h)) (rdrProtocol_keeps h))
  · exact beginPresentation_keeps (raiseRate_keeps (modReader_keeps h))
  · exact beginPresentation_keeps (raiseRate_keeps (modReader_keeps h))
  · exact poll_keeps h
  · exact rdrProtocol_keeps h

theorem execRdrResponseTimeout_keeps (h : Keeps s t) : Answers s (execRdrResponseTimeout t) := by
  unfold execRdrResponseTimeout
  refine .next ?_
  split
  · exact h
  · exact .ite (pollB_keeps h) (fieldOff_keeps h)
  · exact fieldOff_keeps h
  · exact rdrProtocol_keeps h

theorem execCardResponse_keeps {reader reply} (h : Keeps s t) : Answers s (execCardResponse reader reply t) := by
  unfold execCardResponse
  refine .next ?_
  split
  · exact cardAnswers_keeps h
  · exact .ite (.ite h (rdrProtocol_keeps h)) (.ite (cardProtocol_keeps (modContact_keeps h)) h)

theorem execBtnAccept_keeps (h : Keeps s t) : Answers s (execBtnAccept t) := by
  have h1 : Keeps s (raise panelPage 0x061E 1 t) := raise_keeps h
  unfold execBtnAccept
  generalize raise panelPage 0x061E 1 t = u at h1
  refine .next ?_
  dsimp only
  split
  · exact askCard_keeps h1
  · exact h1

theorem execBtnReject_keeps (h : Keeps s t) : Answers s (execBtnReject t) := by
  have h1 : Keeps s (raise panelPage 0x061E 2 t) := raise_keeps h
  unfold execBtnReject
  generalize raise panelPage 0x061E 2 t = u at h1
  refine .next ?_
  dsimp only
  split
  · exact endPresentation_keeps h1
  · exact h1

theorem execPresentationButtonTimeout_keeps {reader} (h : Keeps s t) : Answers s (execPresentationButtonTimeout reader t) := by
  unfold execPresentationButtonTimeout
  refine .next ?_
  split
  · exact .ite (endPresentation_keeps h) h
  · exact h

theorem execPresentationAbandon_keeps {reader} (h : Keeps s t) : Answers s (execPresentationAbandon reader t) := by
  unfold execPresentationAbandon
  refine .next ?_
  split
  · exact .ite (endPresentation_keeps h) h
  · exact h

theorem markLate_keeps {number} (h : Keeps s t) : Keeps s (markLate number t) := .upd h

theorem execCeremonyWindowEnd_keeps (h : Keeps s t) : Answers s (execCeremonyWindowEnd t) := by
  unfold execCeremonyWindowEnd
  refine .next ?_
  split
  · split
    · exact .ite (markLate_keeps (expireActive_keeps h)) h
    · exact h
  · exact h

theorem execCeremonyCancel_keeps {m} (h : Keeps s t) : Answers s (execCeremonyCancel m t) :=
  .next (audited_keeps (fun _ hu => cancelActive_keeps hu) h)

theorem contactWriteWord_keeps {off v} (h : Keeps s t) : Keeps s (contactWriteWord off v t) :=
  .ite h (.ite (retryCard_keeps (.ite (raise_keeps (.ite (modContact_keeps h) (raise_keeps h))) (modContact_keeps (.ite (modContact_keeps h) (raise_keeps h))))) (.ite (raise_keeps (.ite (modContact_keeps h) (raise_keeps h))) (modContact_keeps (.ite (modContact_keeps h) (raise_keeps h)))))

theorem contactReadEffect_keeps {off} (h : Keeps s t) : Keeps s (contactReadEffect off t) := .ite (modContact_keeps h) h

theorem readerWriteWord_keeps {off v} (h : Keeps s t) : Keeps s (readerWriteWord off v t) := by
  unfold readerWriteWord
  split
  · exact modReader_keeps h
  · exact .ite (modReader_keeps (.ite (raise_keeps h) (modReader_keeps h))) (raise_keeps (.ite (raise_keeps h) (modReader_keeps h)))
  · exact h

theorem panelWriteWord_keeps {off v} (h : Keeps s t) : Keeps s (panelWriteWord off v t) := by
  unfold panelWriteWord
  split
  · exact .ite (.upd (.upd h)) (raise_keeps (.upd h))
  · exact .ite (cancelActive_keeps h) h
  · exact h

theorem flushJournals_keeps (h : Keeps s t) : Keeps s (flushJournals t) := .ite h (programStaging_keeps (.upd h))

theorem flushFlash_keeps (h : Keeps s t) : Keeps s (flushFlash t) := by
  unfold flushFlash
  refine flsPowerFail_keeps (forAll_keeps (fun _ _ hu => ?_) h)
  split
  · exact putWord_keeps (modPart_keeps hu)
  · exact hu

theorem flushRecorder_keeps {mv} (h : Keeps s t) : Keeps s (flushRecorder mv t) := by
  unfold flushRecorder
  dsimp only
  exact programNext_keeps (.upd (raise_keeps (.upd (repeatIdx_keeps (fun _ _ hu => programNext_keeps hu) (.upd (collectAll_keeps h))))))

theorem freshRecord_keeps (h : Keeps s t) : Keeps s (freshRecord t) := .upd h

theorem dropInvocations_keeps (h : Keeps s t) : Keeps s (dropInvocations t) :=
  forAll_keeps (fun _ _ hu => .ite hu (modCore_keeps (wipeContext_keeps (wipeContext_keeps hu)))) h

theorem resetFunction_keeps (h : Keeps s t) : Keeps s (resetFunction t) :=
  gateCache_keeps (dropInvocations_keeps (.noJobs (evictAll_keeps h)))

theorem execFlr_keeps (h : Keeps s t) : Answers s (execFlr t) := .next (.ite h (raise_keeps (.upd (resetFunction_keeps h))))

theorem cxlActions_keeps {kind last event} (h : Keeps s t) : Keeps s (cxlActions kind last event t) := raise_keeps (.upd (resetFunction_keeps h))

theorem execCxlReset_keeps (h : Keeps s t) : Answers s (execCxlReset t) := .next (.ite h (cxlActions_keeps h))

theorem linkGoesDown_keeps (h : Keeps s t) : Keeps s (linkGoesDown t) := raise_keeps (dropLines_keeps (.upd h))

theorem execHotResetOrLinkDown_keeps {linkDown} (h : Keeps s t) : Answers s (execHotResetOrLinkDown linkDown t) :=
  .next (.ite (.ite (linkGoesDown_keeps h) h) (.upd (cxlActions_keeps (.ite (linkGoesDown_keeps h) h))))

theorem afterReset_keeps (h : Keeps s t) : Keeps s (afterReset t) := .noJobs h

theorem recordResetJobs_keeps (h : Keeps s t) : Keeps s (recordResetJobs t) := forAll_keeps (fun _ _ hu => appendOrLose_keeps hu) h

theorem execConventionalReset_keeps (h : Keeps s t) : Answers s (execConventionalReset t) :=
  .next (.ite h (afterReset_keeps (freshRecord_keeps (flushRecorder_keeps (flushFlash_keeps (flushJournals_keeps (recordResetJobs_keeps h)))))))

theorem modLink_keeps {f} (h : Keeps s t) : Keeps s (modLink f t) := .upd h

theorem sendUnsent_keeps (h : Keeps s t) : Keeps s (sendUnsent t) := forAll_keeps (fun _ _ hu => sendOutput_keeps hu) h

theorem reopen_keeps {before} (h : Keeps s t) : Keeps s (reopen before t) :=
  .ite (resumeKept_keeps (.ite (settleAll_keeps (sendUnsent_keeps h)) h)) (.ite (settleAll_keeps (sendUnsent_keeps h)) h)

theorem ideChanged_keeps {before} (h : Keeps s t) : Keeps s (ideChanged before t) :=
  .ite (reopen_keeps (modLink_keeps h)) (.ite h (raise_keeps (modLink_keeps h)))

theorem cacheFollows_keeps {before} (h : Keeps s t) : Keeps s (cacheFollows before t) :=
  .ite (.ite h (settleAll_keeps (wakeUnit_keeps h))) (.ite (gateCache_keeps (dropLines_keeps h)) h)

theorem execLinkTrained_keeps {cxl width rate eqFailed} (h : Keeps s t) : Answers s (execLinkTrained cxl width rate eqFailed t) :=
  .next (.ite h (cacheFollows_keeps (reopen_keeps (.ite (raise_keeps (.ite (raise_keeps (.ite (raise_keeps (raise_keeps (modLink_keeps h))) (raise_keeps (modLink_keeps h)))) (.ite (raise_keeps (raise_keeps (modLink_keeps h))) (raise_keeps (modLink_keeps h))))) (.ite (raise_keeps (.ite (raise_keeps (raise_keeps (modLink_keeps h))) (raise_keeps (modLink_keeps h)))) (.ite (raise_keeps (raise_keeps (modLink_keeps h))) (raise_keeps (modLink_keeps h))))))))

theorem execBusMasterEnableClear_keeps (h : Keeps s t) : Answers s (execBusMasterEnableClear t) := .next (.ite (raise_keeps (modLink_keeps h)) h)

theorem execBusMasterEnableSet_keeps (h : Keeps s t) : Answers s (execBusMasterEnableSet t) := .next (reopen_keeps (modLink_keeps h))

theorem execD3hotEntry_keeps (h : Keeps s t) : Answers s (execD3hotEntry t) := .next (.ite h (raise_keeps (modLink_keeps h)))

theorem execD0Entry_keeps (h : Keeps s t) : Answers s (execD0Entry t) := .next (reopen_keeps (modLink_keeps h))

theorem execCacheEnableChange_keeps {on} (h : Keeps s t) : Answers s (execCacheEnableChange on t) :=
  .next (.ite h (.ite (cacheFollows_keeps (raise_keeps (modLink_keeps h))) (raise_keeps (cacheFollows_keeps (modLink_keeps (evictAll_keeps h))))))

theorem setStream_keeps {k v} (h : Keeps s t) : Keeps s (setStream k v t) := modLink_keeps h

theorem execIdeIntegrityFail_keeps {stream} (h : Keeps s t) : Answers s (execIdeIntegrityFail stream t) :=
  .next (.ite (ideChanged_keeps (raise_keeps (setStream_keeps h))) h)

theorem doeServe_keeps {f} (hf : ∀ u, Keeps s u → Keeps s (f u)) (h : Keeps s t) : Keeps s (doeServe f t) := .ite h (hf _ h)

theorem execDoeDiscovery_keeps {index} (h : Keeps s t) : Answers s (execDoeDiscovery index t) := .next (doeServe_keeps (fun _ hu => emit_keeps hu) h)

theorem execCdatTableAccess_keeps {handle} (h : Keeps s t) : Answers s (execCdatTableAccess handle t) :=
  .next (doeServe_keeps (fun _ hu => emit_keeps hu) h)

theorem execDoeUnservedRequest_keeps {vendor type} (h : Keeps s t) : Answers s (execDoeUnservedRequest vendor type t) :=
  .next (doeServe_keeps (fun _ hu => .ite hu (raise_keeps (modLink_keeps hu))) h)

theorem spdmError_keeps {code} (h : Keeps s t) : Keeps s (spdmError code t) := raise_keeps (emit_keeps h)

theorem spdmServe_keeps {stage f} (hf : ∀ u, Keeps s u → Keeps s (f u)) (h : Keeps s t) : Keeps s (spdmServe stage f t) :=
  doeServe_keeps (fun _ hu => .ite (spdmError_keeps hu) (.ite (spdmError_keeps hu) (hf _ hu))) h

theorem spdmFrom11_keeps {f} (hf : ∀ u, Keeps s u → Keeps s (f u)) (h : Keeps s t) : Keeps s (spdmFrom11 f t) := .ite (spdmError_keeps h) (hf _ h)

theorem spdmServeData_keeps {stage data f} (hf : ∀ u, Keeps s u → Keeps s (f u)) (h : Keeps s t) : Keeps s (spdmServeData stage data f t) :=
  .ite (spdmServe_keeps hf h) h

theorem execSpdmGetVersion_keeps (h : Keeps s t) : Answers s (execSpdmGetVersion t) :=
  .next (doeServe_keeps (fun _ hu => emit_keeps (modLink_keeps hu)) h)

theorem execSpdmGetCapabilities_keeps {version} (h : Keeps s t) : Answers s (execSpdmGetCapabilities version t) :=
  .next (spdmServe_keeps (fun _ hu => .ite (emit_keeps (modLink_keeps hu)) (spdmError_keeps hu)) h)

theorem execSpdmNegotiateAlgorithms_keeps {supported} (h : Keeps s t) : Answers s (execSpdmNegotiateAlgorithms supported t) :=
  .next (spdmServe_keeps (fun _ hu => .ite (emit_keeps (modLink_keeps hu)) (spdmError_keeps hu)) h)

theorem execSpdmGetDigests_keeps (h : Keeps s t) : Answers s (execSpdmGetDigests t) := .next (spdmServe_keeps (fun _ hu => emit_keeps hu) h)

theorem execSpdmGetCertificate_keeps {slot off len} (h : Keeps s t) : Answers s (execSpdmGetCertificate slot off len t) :=
  .next (spdmServe_keeps (fun _ hu => .ite (spdmError_keeps hu) (emit_keeps hu)) h)

theorem execSpdmChallenge_keeps {slot nonce} (h : Keeps s t) : Answers s (execSpdmChallenge slot nonce t) :=
  .next (spdmServeData_keeps (fun _ hu => .ite (spdmError_keeps hu) (emit_keeps (nameSign_keeps (drawBytes_keeps hu)))) h)

theorem execSpdmGetMeasurements_keeps {index sign nonce} (h : Keeps s t) : Answers s (execSpdmGetMeasurements index sign nonce t) := by
  unfold execSpdmGetMeasurements
  refine .next (spdmServeData_keeps (fun _ hu => ?_) h)
  dsimp only
  split
  · exact spdmError_keeps hu
  · exact .ite (emit_keeps (nameSign_keeps (drawBytes_keeps hu))) (emit_keeps hu)

theorem execSpdmKeyExchange_keeps {session exchange} (h : Keeps s t) : Answers s (execSpdmKeyExchange session exchange t) :=
  .next (spdmServeData_keeps (fun _ hu => spdmFrom11_keeps (fun _ hu1 => .ite (spdmError_keeps hu1) (.ite (spdmError_keeps hu1) (emit_keeps (modLink_keeps (nameSign_keeps (drawScalar_keeps hu1)))))) hu) h)

theorem inSession_keeps {session phase f} (hf : ∀ a0 u, Keeps s u → Keeps s (f a0 u)) (h : Keeps s t) : Keeps s (inSession session phase f t) := by
  unfold inSession
  split
  · exact .ite (hf _ _ h) (spdmError_keeps h)
  · exact spdmError_keeps h

theorem execSpdmFinish_keeps {session verified} (h : Keeps s t) : Answers s (execSpdmFinish session verified t) :=
  .next (spdmServe_keeps (fun _ hu => inSession_keeps (fun _ _ hu1 => .ite (raise_keeps (emit_keeps (modLink_keeps hu1))) (spdmError_keeps (modLink_keeps hu1))) hu) h)

theorem execSpdmHeartbeat_keeps {session} (h : Keeps s t) : Answers s (execSpdmHeartbeat session t) :=
  .next (spdmServe_keeps (fun _ hu => inSession_keeps (fun _ _ hu1 => emit_keeps hu1) hu) h)

theorem execSpdmKeyUpdate_keeps {session} (h : Keeps s t) : Answers s (execSpdmKeyUpdate session t) :=
  .next (spdmServe_keeps (fun _ hu => inSession_keeps (fun _ _ hu1 => emit_keeps (modLink_keeps hu1)) hu) h)

theorem execSpdmEndSession_keeps {session} (h : Keeps s t) : Answers s (execSpdmEndSession session t) :=
  .next (spdmServe_keeps (fun _ hu => inSession_keeps (fun _ _ hu1 => raise_keeps (emit_keeps (modLink_keeps hu1))) hu) h)

theorem execSpdmUnsupportedRequest_keeps {code} (h : Keeps s t) : Answers s (execSpdmUnsupportedRequest code t) :=
  .next (doeServe_keeps (fun _ hu => .ite (spdmError_keeps hu) (raise_keeps (emit_keeps hu))) h)

theorem execIdeKmRequest_keeps {session stream km} (h : Keeps s t) : Answers s (execIdeKmRequest session stream km t) := by
  unfold execIdeKmRequest
  refine .next (spdmServe_keeps (fun _ hu => inSession_keeps (fun _ _ hu1 => .ite (spdmError_keeps hu1) ?_) hu) h)
  split
  · exact emit_keeps hu1
  · exact emit_keeps (modLink_keeps hu1)
  · exact .ite (ideChanged_keeps (emit_keeps (setStream_keeps (modLink_keeps hu1)))) (spdmError_keeps hu1)
  · exact ideChanged_keeps (emit_keeps (setStream_keeps hu1))

theorem execCorrectableLinkError_keeps {status} (h : Keeps s t) : Answers s (execCorrectableLinkError status t) :=
  .next (raise_keeps (emit_keeps (modLink_keeps h)))

theorem setDepth_keeps {d} (h : Keeps s t) : Keeps s (setDepth d t) := settleAll_keeps (modLink_keeps h)

theorem hostWriteWord_keeps {off v} (h : Keeps s t) : Keeps s (hostWriteWord off v t) := by
  unfold hostWriteWord
  split
  · exact .ite (raise_keeps h) (setDepth_keeps h)
  · exact ideChanged_keeps (modLink_keeps h)
  · exact h

theorem hostReadEffect_keeps {off} (h : Keeps s t) : Keeps s (hostReadEffect off t) := .ite (modLink_keeps h) (.ite (modLink_keeps h) h)

theorem modPower_keeps {f} (h : Keeps s t) : Keeps s (modPower f t) := .upd h

theorem setLevel_keeps {n} (h : Keeps s t) : Keeps s (setLevel n t) := .ite h (raise_keeps (modPower_keeps h))

theorem readInput_keeps {mv ma} (h : Keeps s t) : Keeps s (readInput mv ma t) := .ite (raise_keeps (modPower_keeps h)) (modPower_keeps h)

theorem raiseLevel_keeps (h : Keeps s t) : Keeps s (raiseLevel t) := setLevel_keeps h

theorem execCurrentLimitHold_keeps (h : Keeps s t) : Answers s (execCurrentLimitHold t) :=
  .next (.ite (raiseLevel_keeps (raise_keeps (modPower_keeps h))) h)

theorem powerFail_keeps (h : Keeps s t) : Keeps s (powerFail t) := .ite h (setLevel_keeps (loseRequests_keeps (modPower_keeps h)))

theorem execPressureRise_keeps {mv ma} (h : Keeps s t) : Answers s (execPressureRise mv ma t) :=
  .next (.ite (.ite (powerFail_keeps (raiseLevel_keeps (readInput_keeps h))) (raiseLevel_keeps (readInput_keeps h))) h)

theorem execPressureFall_keeps {mv ma} (h : Keeps s t) : Answers s (execPressureFall mv ma t) :=
  .next (.ite h (setLevel_keeps (modPower_keeps (readInput_keeps h))))

theorem execPowerFailStart_keeps {mv rail} (h : Keeps s t) : Answers s (execPowerFailStart mv rail t) :=
  .next (.ite h (powerFail_keeps (.ite (raise_keeps (readInput_keeps h)) (readInput_keeps h))))

theorem execOvervoltageClamp_keeps {mv} (h : Keeps s t) : Answers s (execOvervoltageClamp mv t) := .next (.ite (raise_keeps (modPower_keeps h)) h)

theorem execOvervoltageTimeout_keeps (h : Keeps s t) : Answers s (execOvervoltageTimeout t) :=
  .next (.ite h (powerFail_keeps (.ite (modPower_keeps h) (raise_keeps (modPower_keeps h)))))

theorem execReverseInput_keeps (h : Keeps s t) : Answers s (execReverseInput t) := .next (.ite h (modPower_keeps h))

theorem execPowerFailFlushDone_keeps (h : Keeps s t) : Answers s (execPowerFailFlushDone t) :=
  .next (.ite (modPower_keeps (freshRecord_keeps (flushRecorder_keeps (flushFlash_keeps (flushJournals_keeps h))))) h)

theorem execRailsOff_keeps {input} (h : Keeps s t) : Answers s (execRailsOff input t) := .next (.ite (modPower_keeps (afterReset_keeps h)) h)

theorem gateDomain_keeps {d} (h : Keeps s t) : Keeps s (gateDomain d t) :=
  forAll_keeps (fun _ _ hu => .ite (setUnitState_keeps hu) hu) (modDomain_keeps h)

theorem execDomainIdleGate_keeps {d} (h : Keeps s t) : Answers s (execDomainIdleGate d t) := .next (.ite (gateDomain_keeps h) h)

theorem wakeDomain_keeps {d} (h : Keeps s t) : Keeps s (wakeDomain d t) :=
  forAll_keeps (fun _ _ hu => .ite (setUnitState_keeps hu) hu) (modDomain_keeps h)

theorem execDomainWakeDone_keeps {d} (h : Keeps s t) : Answers s (execDomainWakeDone d t) := .next (.ite (wakeDomain_keeps h) h)

theorem loseContents_keeps {d} (h : Keeps s t) : Keeps s (loseContents d t) :=
  .ite (dropLines_keeps (.ite (modSdc_keeps (.ite (fieldOff_keeps (endWith_keeps (.ite (deactivate_keeps (endWith_keeps (.ite (portsDown_keeps (.ite (forAll_keeps (fun _ _ hu => .upd hu) (.ite (.upd (forAll_keeps (fun _ _ hu => forAll_keeps (fun _ _ hu1 => marginOn_keeps hu1) (modEng_keeps (forAll_keeps (fun _ _ hu1 => withdrawJob_keeps hu1) hu))) h)) (forAll_keeps (fun _ _ hu => forAll_keeps (fun _ _ hu1 => marginOn_keeps hu1) (modEng_keeps (forAll_keeps (fun _ _ hu1 => withdrawJob_keeps hu1) hu))) h))) (.ite (.upd (forAll_keeps (fun _ _ hu => forAll_keeps (fun _ _ hu1 => marginOn_keeps hu1) (modEng_keeps (forAll_keeps (fun _ _ hu1 => withdrawJob_keeps hu1) hu))) h)) (forAll_keeps (fun _ _ hu => forAll_keeps (fun _ _ hu1 => marginOn_keeps hu1) (modEng_keeps (forAll_keeps (fun _ _ hu1 => withdrawJob_keeps hu1) hu))) h)))) (.ite (forAll_keeps (fun _ _ hu => .upd hu) (.ite (.upd (forAll_keeps (fun _ _ hu => forAll_keeps (fun _ _ hu1 => marginOn_keeps hu1) (modEng_keeps (forAll_keeps (fun _ _ hu1 => withdrawJob_keeps hu1) hu))) h)) (forAll_keeps (fun _ _ hu => forAll_keeps (fun _ _ hu1 => marginOn_keeps hu1) (modEng_keeps (forAll_keeps (fun _ _ hu1 => withdrawJob_keeps hu1) hu))) h))) (.ite (.upd (forAll_keeps (fun _ _ hu => forAll_keeps (fun _ _ hu1 => marginOn_keeps hu1) (modEng_keeps (forAll_keeps (fun _ _ hu1 => withdrawJob_keeps hu1) hu))) h)) (forAll_keeps (fun _ _ hu => forAll_keeps (fun _ _ hu1 => marginOn_keeps hu1) (modEng_keeps (forAll_keeps (fun _ _ hu1 => withdrawJob_keeps hu1) hu))) h)))))) (.ite (portsDown_keeps (.ite (forAll_keeps (fun _ _ hu => .upd hu) (.ite (.upd (forAll_keeps (fun _ _ hu => forAll_keeps (fun _ _ hu1 => marginOn_keeps hu1) (modEng_keeps (forAll_keeps (fun _ _ hu1 => withdrawJob_keeps hu1) hu))) h)) (forAll_keeps (fun _ _ hu => forAll_keeps (fun _ _ hu1 => marginOn_keeps hu1) (modEng_keeps (forAll_keeps (fun _ _ hu1 => withdrawJob_keeps hu1) hu))) h))) (.ite (.upd (forAll_keeps (fun _ _ hu => forAll_keeps (fun _ _ hu1 => marginOn_keeps hu1) (modEng_keeps (forAll_keeps (fun _ _ hu1 => withdrawJob_keeps hu1) hu))) h)) (forAll_keeps (fun _ _ hu => forAll_keeps (fun _ _ hu1 => marginOn_keeps hu1) (modEng_keeps (forAll_keeps (fun _ _ hu1 => withdrawJob_keeps hu1) hu))) h)))) (.ite (forAll_keeps (fun _ _ hu => .upd hu) (.ite (.upd (forAll_keeps (fun _ _ hu => forAll_keeps (fun _ _ hu1 => marginOn_keeps hu1) (modEng_keeps (forAll_keeps (fun _ _ hu1 => withdrawJob_keeps hu1) hu))) h)) (forAll_keeps (fun _ _ hu => forAll_keeps (fun _ _ hu1 => marginOn_keeps hu1) (modEng_keeps (forAll_keeps (fun _ _ hu1 => withdrawJob_keeps hu1) hu))) h))) (.ite (.upd (forAll_keeps (fun _ _ hu => forAll_keeps (fun _ _ hu1 => marginOn_keeps hu1) (modEng_keeps (forAll_keeps (fun _ _ hu1 => withdrawJob_keeps hu1) hu))) h)) (forAll_keeps (fun _ _ hu => forAll_keeps (fun _ _ hu1 => marginOn_keeps hu1) (modEng_keeps (forAll_keeps (fun _ _ hu1 => withdrawJob_keeps hu1) hu))) h))))))) (.ite (deactivate_keeps (endWith_keeps (.ite (portsDown_keeps (.ite (forAll_keeps (fun _ _ hu => .upd hu) (.ite (.upd (forAll_keeps (fun _ _ hu => forAll_keeps (fun _ _ hu1 => marginOn_keeps hu1) (modEng_keeps (forAll_keeps (fun _ _ hu1 => withdrawJob_keeps hu1) hu))) h)) (forAll_keeps (fun _ _ hu => forAll_keeps (fun _ _ hu1 => marginOn_keeps hu1) (modEng_keeps (forAll_keeps (fun _ _ hu1 => withdrawJob_keeps hu1) hu))) h))) (.ite (.upd (forAll_keeps (fun _ _ hu => forAll_keeps (fun _ _ hu1 => marginOn_keeps hu1) (modEng_keeps (forAll_keeps (fun _ _ hu1 => withdrawJob_keeps hu1) hu))) h)) (forAll_keeps (fun _ _ hu => forAll_keeps (fun _ _ hu1 => marginOn_keeps hu1) (modEng_keeps (forAll_keeps (fun _ _ hu1 => withdrawJob_keeps hu1) hu))) h)))) (.ite (forAll_keeps (fun _ _ hu => .upd hu) (.ite (.upd (forAll_keeps (fun _ _ hu => forAll_keeps (fun _ _ hu1 => marginOn_keeps hu1) (modEng_keeps (forAll_keeps (fun _ _ hu1 => withdrawJob_keeps hu1) hu))) h)) (forAll_keeps (fun _ _ hu => forAll_keeps (fun _ _ hu1 => marginOn_keeps hu1) (modEng_keeps (forAll_keeps (fun _ _ hu1 => withdrawJob_keeps hu1) hu))) h))) (.ite (.upd (forAll_keeps (fun _ _ hu => forAll_keeps (fun _ _ hu1 => marginOn_keeps hu1) (modEng_keeps (forAll_keeps (fun _ _ hu1 => withdrawJob_keeps hu1) hu))) h)) (forAll_keeps (fun _ _ hu => forAll_keeps (fun _ _ hu1 => marginOn_keeps hu1) (modEng_keeps (forAll_keeps (fun _ _ hu1 => withdrawJob_keeps hu1) hu))) h)))))) (.ite (portsDown_keeps (.ite (forAll_keeps (fun _ _ hu => .upd hu) (.ite (.upd (forAll_keeps (fun _ _ hu => forAll_keeps (fun _ _ hu1 => marginOn_keeps hu1) (modEng_keeps (forAll_keeps (fun _ _ hu1 => withdrawJob_keeps hu1) hu))) h)) (forAll_keeps (fun _ _ hu => forAll_keeps (fun _ _ hu1 => marginOn_keeps hu1) (modEng_keeps (forAll_keeps (fun _ _ hu1 => withdrawJob_keeps hu1) hu))) h))) (.ite (.upd (forAll_keeps (fun _ _ hu => forAll_keeps (fun _ _ hu1 => marginOn_keeps hu1) (modEng_keeps (forAll_keeps (fun _ _ hu1 => withdrawJob_keeps hu1) hu))) h)) (forAll_keeps (fun _ _ hu => forAll_keeps (fun _ _ hu1 => marginOn_keeps hu1) (modEng_keeps (forAll_keeps (fun _ _ hu1 => withdrawJob_keeps hu1) hu))) h)))) (.ite (forAll_keeps (fun _ _ hu => .upd hu) (.ite (.upd (forAll_keeps (fun _ _ hu => forAll_keeps (fun _ _ hu1 => marginOn_keeps hu1) (modEng_keeps (forAll_keeps (fun _ _ hu1 => withdrawJob_keeps hu1) hu))) h)) (forAll_keeps (fun _ _ hu => forAll_keeps (fun _ _ hu1 => marginOn_keeps hu1) (modEng_keeps (forAll_keeps (fun _ _ hu1 => withdrawJob_keeps hu1) hu))) h))) (.ite (.upd (forAll_keeps (fun _ _ hu => forAll_keeps (fun _ _ hu1 => marginOn_keeps hu1) (modEng_keeps (forAll_keeps (fun _ _ hu1 => withdrawJob_keeps hu1) hu))) h)) (forAll_keeps (fun _ _ hu => forAll_keeps (fun _ _ hu1 => marginOn_keeps hu1) (modEng_keeps (forAll_keeps (fun _ _ hu1 => withdrawJob_keeps hu1) hu))) h))))))) (.ite (portsDown_keeps (.ite (forAll_keeps (fun _ _ hu => .upd hu) (.ite (.upd (forAll_keeps (fun _ _ hu => forAll_keeps (fun _ _ hu1 => marginOn_keeps hu1) (modEng_keeps (forAll_keeps (fun _ _ hu1 => withdrawJob_keeps hu1) hu))) h)) (forAll_keeps (fun _ _ hu => forAll_keeps (fun _ _ hu1 => marginOn_keeps hu1) (modEng_keeps (forAll_keeps (fun _ _ hu1 => withdrawJob_keeps hu1) hu))) h))) (.ite (.upd (forAll_keeps (fun _ _ hu => forAll_keeps (fun _ _ hu1 => marginOn_keeps hu1) (modEng_keeps (forAll_keeps (fun _ _ hu1 => withdrawJob_keeps hu1) hu))) h)) (forAll_keeps (fun _ _ hu => forAll_keeps (fun _ _ hu1 => marginOn_keeps hu1) (modEng_keeps (forAll_keeps (fun _ _ hu1 => withdrawJob_keeps hu1) hu))) h)))) (.ite (forAll_keeps (fun _ _ hu => .upd hu) (.ite (.upd (forAll_keeps (fun _ _ hu => forAll_keeps (fun _ _ hu1 => marginOn_keeps hu1) (modEng_keeps (forAll_keeps (fun _ _ hu1 => withdrawJob_keeps hu1) hu))) h)) (forAll_keeps (fun _ _ hu => forAll_keeps (fun _ _ hu1 => marginOn_keeps hu1) (modEng_keeps (forAll_keeps (fun _ _ hu1 => withdrawJob_keeps hu1) hu))) h))) (.ite (.upd (forAll_keeps (fun _ _ hu => forAll_keeps (fun _ _ hu1 => marginOn_keeps hu1) (modEng_keeps (forAll_keeps (fun _ _ hu1 => withdrawJob_keeps hu1) hu))) h)) (forAll_keeps (fun _ _ hu => forAll_keeps (fun _ _ hu1 => marginOn_keeps hu1) (modEng_keeps (forAll_keeps (fun _ _ hu1 => withdrawJob_keeps hu1) hu))) h)))))) (.ite (modSdc_keeps (.ite (fieldOff_keeps (endWith_keeps (.ite (deactivate_keeps (endWith_keeps (.ite (portsDown_keeps (.ite (forAll_keeps (fun _ _ hu => .upd hu) (.ite (.upd (forAll_keeps (fun _ _ hu => forAll_keeps (fun _ _ hu1 => marginOn_keeps hu1) (modEng_keeps (forAll_keeps (fun _ _ hu1 => withdrawJob_keeps hu1) hu))) h)) (forAll_keeps (fun _ _ hu => forAll_keeps (fun _ _ hu1 => marginOn_keeps hu1) (modEng_keeps (forAll_keeps (fun _ _ hu1 => withdrawJob_keeps hu1) hu))) h))) (.ite (.upd (forAll_keeps (fun _ _ hu => forAll_keeps (fun _ _ hu1 => marginOn_keeps hu1) (modEng_keeps (forAll_keeps (fun _ _ hu1 => withdrawJob_keeps hu1) hu))) h)) (forAll_keeps (fun _ _ hu => forAll_keeps (fun _ _ hu1 => marginOn_keeps hu1) (modEng_keeps (forAll_keeps (fun _ _ hu1 => withdrawJob_keeps hu1) hu))) h)))) (.ite (forAll_keeps (fun _ _ hu => .upd hu) (.ite (.upd (forAll_keeps (fun _ _ hu => forAll_keeps (fun _ _ hu1 => marginOn_keeps hu1) (modEng_keeps (forAll_keeps (fun _ _ hu1 => withdrawJob_keeps hu1) hu))) h)) (forAll_keeps (fun _ _ hu => forAll_keeps (fun _ _ hu1 => marginOn_keeps hu1) (modEng_keeps (forAll_keeps (fun _ _ hu1 => withdrawJob_keeps hu1) hu))) h))) (.ite (.upd (forAll_keeps (fun _ _ hu => forAll_keeps (fun _ _ hu1 => marginOn_keeps hu1) (modEng_keeps (forAll_keeps (fun _ _ hu1 => withdrawJob_keeps hu1) hu))) h)) (forAll_keeps (fun _ _ hu => forAll_keeps (fun _ _ hu1 => marginOn_keeps hu1) (modEng_keeps (forAll_keeps (fun _ _ hu1 => withdrawJob_keeps hu1) hu))) h)))))) (.ite (portsDown_keeps (.ite (forAll_keeps (fun _ _ hu => .upd hu) (.ite (.upd (forAll_keeps (fun _ _ hu => forAll_keeps (fun _ _ hu1 => marginOn_keeps hu1) (modEng_keeps (forAll_keeps (fun _ _ hu1 => withdrawJob_keeps hu1) hu))) h)) (forAll_keeps (fun _ _ hu => forAll_keeps (fun _ _ hu1 => marginOn_keeps hu1) (modEng_keeps (forAll_keeps (fun _ _ hu1 => withdrawJob_keeps hu1) hu))) h))) (.ite (.upd (forAll_keeps (fun _ _ hu => forAll_keeps (fun _ _ hu1 => marginOn_keeps hu1) (modEng_keeps (forAll_keeps (fun _ _ hu1 => withdrawJob_keeps hu1) hu))) h)) (forAll_keeps (fun _ _ hu => forAll_keeps (fun _ _ hu1 => marginOn_keeps hu1) (modEng_keeps (forAll_keeps (fun _ _ hu1 => withdrawJob_keeps hu1) hu))) h)))) (.ite (forAll_keeps (fun _ _ hu => .upd hu) (.ite (.upd (forAll_keeps (fun _ _ hu => forAll_keeps (fun _ _ hu1 => marginOn_keeps hu1) (modEng_keeps (forAll_keeps (fun _ _ hu1 => withdrawJob_keeps hu1) hu))) h)) (forAll_keeps (fun _ _ hu => forAll_keeps (fun _ _ hu1 => marginOn_keeps hu1) (modEng_keeps (forAll_keeps (fun _ _ hu1 => withdrawJob_keeps hu1) hu))) h))) (.ite (.upd (forAll_keeps (fun _ _ hu => forAll_keeps (fun _ _ hu1 => marginOn_keeps hu1) (modEng_keeps (forAll_keeps (fun _ _ hu1 => withdrawJob_keeps hu1) hu))) h)) (forAll_keeps (fun _ _ hu => forAll_keeps (fun _ _ hu1 => marginOn_keeps hu1) (modEng_keeps (forAll_keeps (fun _ _ hu1 => withdrawJob_keeps hu1) hu))) h))))))) (.ite (deactivate_keeps (endWith_keeps (.ite (portsDown_keeps (.ite (forAll_keeps (fun _ _ hu => .upd hu) (.ite (.upd (forAll_keeps (fun _ _ hu => forAll_keeps (fun _ _ hu1 => marginOn_keeps hu1) (modEng_keeps (forAll_keeps (fun _ _ hu1 => withdrawJob_keeps hu1) hu))) h)) (forAll_keeps (fun _ _ hu => forAll_keeps (fun _ _ hu1 => marginOn_keeps hu1) (modEng_keeps (forAll_keeps (fun _ _ hu1 => withdrawJob_keeps hu1) hu))) h))) (.ite (.upd (forAll_keeps (fun _ _ hu => forAll_keeps (fun _ _ hu1 => marginOn_keeps hu1) (modEng_keeps (forAll_keeps (fun _ _ hu1 => withdrawJob_keeps hu1) hu))) h)) (forAll_keeps (fun _ _ hu => forAll_keeps (fun _ _ hu1 => marginOn_keeps hu1) (modEng_keeps (forAll_keeps (fun _ _ hu1 => withdrawJob_keeps hu1) hu))) h)))) (.ite (forAll_keeps (fun _ _ hu => .upd hu) (.ite (.upd (forAll_keeps (fun _ _ hu => forAll_keeps (fun _ _ hu1 => marginOn_keeps hu1) (modEng_keeps (forAll_keeps (fun _ _ hu1 => withdrawJob_keeps hu1) hu))) h)) (forAll_keeps (fun _ _ hu => forAll_keeps (fun _ _ hu1 => marginOn_keeps hu1) (modEng_keeps (forAll_keeps (fun _ _ hu1 => withdrawJob_keeps hu1) hu))) h))) (.ite (.upd (forAll_keeps (fun _ _ hu => forAll_keeps (fun _ _ hu1 => marginOn_keeps hu1) (modEng_keeps (forAll_keeps (fun _ _ hu1 => withdrawJob_keeps hu1) hu))) h)) (forAll_keeps (fun _ _ hu => forAll_keeps (fun _ _ hu1 => marginOn_keeps hu1) (modEng_keeps (forAll_keeps (fun _ _ hu1 => withdrawJob_keeps hu1) hu))) h)))))) (.ite (portsDown_keeps (.ite (forAll_keeps (fun _ _ hu => .upd hu) (.ite (.upd (forAll_keeps (fun _ _ hu => forAll_keeps (fun _ _ hu1 => marginOn_keeps hu1) (modEng_keeps (forAll_keeps (fun _ _ hu1 => withdrawJob_keeps hu1) hu))) h)) (forAll_keeps (fun _ _ hu => forAll_keeps (fun _ _ hu1 => marginOn_keeps hu1) (modEng_keeps (forAll_keeps (fun _ _ hu1 => withdrawJob_keeps hu1) hu))) h))) (.ite (.upd (forAll_keeps (fun _ _ hu => forAll_keeps (fun _ _ hu1 => marginOn_keeps hu1) (modEng_keeps (forAll_keeps (fun _ _ hu1 => withdrawJob_keeps hu1) hu))) h)) (forAll_keeps (fun _ _ hu => forAll_keeps (fun _ _ hu1 => marginOn_keeps hu1) (modEng_keeps (forAll_keeps (fun _ _ hu1 => withdrawJob_keeps hu1) hu))) h)))) (.ite (forAll_keeps (fun _ _ hu => .upd hu) (.ite (.upd (forAll_keeps (fun _ _ hu => forAll_keeps (fun _ _ hu1 => marginOn_keeps hu1) (modEng_keeps (forAll_keeps (fun _ _ hu1 => withdrawJob_keeps hu1) hu))) h)) (forAll_keeps (fun _ _ hu => forAll_keeps (fun _ _ hu1 => marginOn_keeps hu1) (modEng_keeps (forAll_keeps (fun _ _ hu1 => withdrawJob_keeps hu1) hu))) h))) (.ite (.upd (forAll_keeps (fun _ _ hu => forAll_keeps (fun _ _ hu1 => marginOn_keeps hu1) (modEng_keeps (forAll_keeps (fun _ _ hu1 => withdrawJob_keeps hu1) hu))) h)) (forAll_keeps (fun _ _ hu => forAll_keeps (fun _ _ hu1 => marginOn_keeps hu1) (modEng_keeps (forAll_keeps (fun _ _ hu1 => withdrawJob_keeps hu1) hu))) h))))))) (.ite (portsDown_keeps (.ite (forAll_keeps (fun _ _ hu => .upd hu) (.ite (.upd (forAll_keeps (fun _ _ hu => forAll_keeps (fun _ _ hu1 => marginOn_keeps hu1) (modEng_keeps (forAll_keeps (fun _ _ hu1 => withdrawJob_keeps hu1) hu))) h)) (forAll_keeps (fun _ _ hu => forAll_keeps (fun _ _ hu1 => marginOn_keeps hu1) (modEng_keeps (forAll_keeps (fun _ _ hu1 => withdrawJob_keeps hu1) hu))) h))) (.ite (.upd (forAll_keeps (fun _ _ hu => forAll_keeps (fun _ _ hu1 => marginOn_keeps hu1) (modEng_keeps (forAll_keeps (fun _ _ hu1 => withdrawJob_keeps hu1) hu))) h)) (forAll_keeps (fun _ _ hu => forAll_keeps (fun _ _ hu1 => marginOn_keeps hu1) (modEng_keeps (forAll_keeps (fun _ _ hu1 => withdrawJob_keeps hu1) hu))) h)))) (.ite (forAll_keeps (fun _ _ hu => .upd hu) (.ite (.upd (forAll_keeps (fun _ _ hu => forAll_keeps (fun _ _ hu1 => marginOn_keeps hu1) (modEng_keeps (forAll_keeps (fun _ _ hu1 => withdrawJob_keeps hu1) hu))) h)) (forAll_keeps (fun _ _ hu => forAll_keeps (fun _ _ hu1 => marginOn_keeps hu1) (modEng_keeps (forAll_keeps (fun _ _ hu1 => withdrawJob_keeps hu1) hu))) h))) (.ite (.upd (forAll_keeps (fun _ _ hu => forAll_keeps (fun _ _ hu1 => marginOn_keeps hu1) (modEng_keeps (forAll_keeps (fun _ _ hu1 => withdrawJob_keeps hu1) hu))) h)) (forAll_keeps (fun _ _ hu => forAll_keeps (fun _ _ hu1 => marginOn_keeps hu1) (modEng_keeps (forAll_keeps (fun _ _ hu1 => withdrawJob_keeps hu1) hu))) h)))))

theorem latchDomain_keeps {d thermal detail} (h : Keeps s t) : Keeps s (latchDomain d thermal detail t) :=
  forAll_keeps (fun _ _ hu => isolateUnit_keeps hu) (loseContents_keeps (modDomain_keeps (raise_keeps h)))

theorem execDomainShortLatch_keeps {d} (h : Keeps s t) : Answers s (execDomainShortLatch d t) := .next (.ite (latchDomain_keeps h) h)

theorem clearDomain_keeps {d} (h : Keeps s t) : Keeps s (clearDomain d t) :=
  forAll_keeps (fun _ _ hu => .ite (releaseUnit_keeps hu) hu) (modDomain_keeps h)

theorem clearDomains_keeps {high mask} (h : Keeps s t) : Keeps s (clearDomains high mask t) :=
  repeatIdx_keeps (fun _ _ hu => .ite (clearDomain_keeps hu) hu) h

theorem execHoldupTest_keeps {uf mv} (h : Keeps s t) : Answers s (execHoldupTest uf mv t) :=
  .next (.ite h (raiseLevel_keeps (.ite (raise_keeps (modPower_keeps h)) (raise_keeps (raise_keeps (modPower_keeps h))))))

theorem modSensor_keeps {k f} (h : Keeps s t) : Keeps s (modSensor k f t) := modPower_keeps h

theorem enterThermal_keeps {plane} (h : Keeps s t) : Keeps s (enterThermal plane t) :=
  .ite (modUnit_keeps h) (raise_keeps (raise_keeps (modUnit_keeps h)))

theorem startThrottle_keeps {k} (h : Keeps s t) : Keeps s (startThrottle k t) := by
  unfold startThrottle
  dsimp only
  split
  · exact enterThermal_keeps (.ite (raise_keeps (raise_keeps (modSensor_keeps h))) (.ite (raise_keeps (raise_keeps (modSensor_keeps h))) (raise_keeps (modSensor_keeps h))))
  · exact .ite (raise_keeps (raise_keeps (modSensor_keeps h))) (.ite (raise_keeps (raise_keeps (modSensor_keeps h))) (raise_keeps (modSensor_keeps h)))

theorem shutDown_keeps {k} (h : Keeps s t) : Keeps s (shutDown k t) := by
  unfold shutDown
  dsimp only
  split
  · exact powerFail_keeps (modSensor_keeps h)
  · exact forAll_keeps (fun _ _ hu => latchDomain_keeps hu) (modSensor_keeps h)

theorem sampleSensor_keeps {k temp odd} (h : Keeps s t) : Keeps s (sampleSensor k temp odd t) :=
  .ite (.ite (modSensor_keeps (modSensor_keeps h)) (raise_keeps (modSensor_keeps (modSensor_keeps h)))) (.ite (shutDown_keeps (.ite (startThrottle_keeps (modSensor_keeps (modSensor_keeps h))) (modSensor_keeps (modSensor_keeps h)))) (.ite (startThrottle_keeps (modSensor_keeps (modSensor_keeps h))) (modSensor_keeps (modSensor_keeps h))))

theorem coolPlanes_keeps (h : Keeps s t) : Keeps s (coolPlanes t) := repeatIdx_keeps (fun _ _ hu => .ite (modUnit_keeps hu) hu) h

theorem execThermalSample_keeps {temps odd} (h : Keeps s t) : Answers s (execThermalSample temps odd t) := by
  unfold execThermalSample
  refine .next (.ite h (coolPlanes_keeps (repeatIdx_keeps (fun _ _ hu => ?_) h)))
  split
  · exact sampleSensor_keeps hu
  · exact hu

theorem execThrottleEnd_keeps {sensor} (h : Keeps s t) : Answers s (execThrottleEnd sensor t) := .next (.ite (raise_keeps (modSensor_keeps h)) h)

theorem execThermalProfileExit_keeps {plane} (h : Keeps s t) : Answers s (execThermalProfileExit plane t) :=
  .next (.ite (raise_keeps (raise_keeps (modUnit_keeps h))) h)

theorem execThermalShutdownRecover_keeps {d} (h : Keeps s t) : Answers s (execThermalShutdownRecover d t) := by
  unfold execThermalShutdownRecover
  refine .next ?_
  split
  · exact h
  · exact .ite (.ite (clearDomain_keeps h) (modSensor_keeps (clearDomain_keeps h))) h

theorem pwrWriteWord_keeps {off v} (h : Keeps s t) : Keeps s (pwrWriteWord off v t) := by
  unfold pwrWriteWord
  split
  · exact clearDomains_keeps h
  · exact clearDomains_keeps h
  · exact .ite (raise_keeps h) (modPower_keeps h)
  · exact .ite (modPower_keeps h) h
  · exact h

theorem pwrReadEffect_keeps {off} (h : Keeps s t) : Keeps s (pwrReadEffect off t) := .ite (modSensor_keeps h) h

theorem execPwrDomainClear_keeps {m high mask} (h : Keeps s t) : Answers s (execPwrDomainClear m high mask t) :=
  .next (audited_keeps (fun _ hu => pwrWriteWord_keeps hu) h)

theorem modStart_keeps {f} (h : Keeps s t) : Keeps s (modStart f t) := .upd h

theorem atStep_keeps {n} (h : Keeps s t) : Keeps s (atStep n t) := modStart_keeps h

theorem execPowerGood_keeps (h : Keeps s t) : Answers s (execPowerGood t) := .next (.ite h (modPower_keeps h))

theorem keyCheckFails_keeps (h : Keeps s t) : Keeps s (keyCheckFails t) :=
  .ite (logTamper_keeps (.upd (loseSecrets_keeps h))) (writeRecord_keeps (destroyStileKey_keeps (emit_keeps (.upd (logTamper_keeps (.upd (loseSecrets_keeps h)))))))

theorem drawBootKeys_keeps (h : Keeps s t) : Keeps s (drawBootKeys t) := .upd (drawBytes_keeps (drawBytes_keeps h))

theorem execPerstRelease_keeps {keyOk} (h : Keeps s t) : Answers s (execPerstRelease keyOk t) :=
  .next (.ite h (takeName_keeps (.ite (keyCheckFails_keeps (.ite (raise_keeps (modPower_keeps (modCore_keeps (modLink_keeps (modStart_keeps (drawBootKeys_keeps (flsPowerUp_keeps h))))))) (modCore_keeps (modLink_keeps (modStart_keeps (drawBootKeys_keeps (flsPowerUp_keeps h))))))) (.ite (raise_keeps (modPower_keeps (modCore_keeps (modLink_keeps (modStart_keeps (drawBootKeys_keeps (flsPowerUp_keeps h))))))) (modCore_keeps (modLink_keeps (modStart_keeps (drawBootKeys_keeps (flsPowerUp_keeps h)))))))))

theorem rootUnitsOn_keeps (h : Keeps s t) : Keeps s (rootUnitsOn t) := forAll_keeps (fun _ _ hu => .ite (setUnitState_keeps hu) hu) h

theorem tryBoot_keeps {l fell} (h : Keeps s t) : Keeps s (tryBoot l fell t) := by
  induction l generalizing fell t with
  | nil => exact modLink_keeps (modCore_keeps (modStart_keeps h))
  | cons e l ih =>
    unfold tryBoot
    split
    · exact ih (raise_keeps h)
    · exact .ite (ih (raise_keeps h)) (.ite (ih (raise_keeps h))
        (rootUnitsOn_keeps (atStep_keeps (modLink_keeps (modStart_keeps (modFlash_keeps h))))))

theorem execBootVerifyDone_keeps {tries} (h : Keeps s t) : Answers s (execBootVerifyDone tries t) := .next (.ite (tryBoot_keeps h) h)

theorem testUnits_keeps {kind count event failing} (h : Keeps s t) : Keeps s (testUnits kind count event failing t) :=
  repeatIdx_keeps (fun _ _ hu => .ite (raise_keeps (failUnit_keeps hu)) (.ite (setUnitState_keeps hu) hu)) h

theorem execUcodeLoadDone_keeps {load} (h : Keeps s t) : Answers s (execUcodeLoadDone load t) := by
  unfold execUcodeLoadDone
  refine .next (.ite h ?_)
  dsimp only
  split
  · exact testUnits_keeps (testUnits_keeps (raise_keeps (atStep_keeps h)))
  · exact .ite (testUnits_keeps (testUnits_keeps (raise_keeps (atStep_keeps h)))) (.ite (testUnits_keeps (testUnits_keeps (raise_keeps (atStep_keeps h)))) (testUnits_keeps (testUnits_keeps (raise_keeps (atStep_keeps (.upd h))))))

theorem replayStep_keeps (h : Keeps s t) : Keeps s (replayStep t) := .ite (atStep_keeps h) h

theorem execDramWipeRegionDone_keeps (h : Keeps s t) : Answers s (execDramWipeRegionDone t) :=
  .next (.ite (replayStep_keeps (atStep_keeps (modStart_keeps h))) h)

theorem bootCounters_keeps (h : Keeps s t) : Keeps s (bootCounters t) := .upd (appendCounters_keeps (modFlash_keeps h))

theorem startRecord_keeps {trailerOk} (h : Keeps s t) : Keeps s (startRecord trailerOk t) :=
  appendReserved_keeps (.upd (.ite (raise_keeps (.ite (.upd h) h)) (.ite (.upd h) h)))

theorem unpoweredTampers_keeps (h : Keeps s t) : Keeps s (unpoweredTampers t) := forAll_keeps (fun _ _ hu => tamperRecord_keeps hu) h

theorem unitsOn_keeps (h : Keeps s t) : Keeps s (unitsOn t) :=
  .ite (forAll_keeps (fun _ _ hu => modUnit_keeps (.ite (setUnitState_keeps hu) hu)) (repeatIdx_keeps (fun _ _ hu => modDomain_keeps hu) h)) (gateCache_keeps (forAll_keeps (fun _ _ hu => modUnit_keeps (.ite (setUnitState_keeps hu) hu)) (repeatIdx_keeps (fun _ _ hu => modDomain_keeps hu) h)))

theorem openBuffers_keeps (h : Keeps s t) : Keeps s (openBuffers t) := modGate_keeps h

theorem execServiceStart_keeps {trailerOk} (h : Keeps s t) : Answers s (execServiceStart trailerOk t) :=
  .next (.ite h (fillLedger_keeps (replayStep_keeps (atStep_keeps (modStart_keeps (unitsOn_keeps (.upd (repeatIdx_keeps (fun _ _ hu => modCore_keeps hu) (unpoweredTampers_keeps (startRecord_keeps (bootCounters_keeps (openBuffers_keeps (formRoot_keeps h)))))))))))))

theorem execModuleReady_keeps {ms} (h : Keeps s t) : Answers s (execModuleReady ms t) :=
  .next (.ite h (schWriteWord_keeps (refreshStatement_keeps (raiseFloors_keeps (modStart_keeps (atStep_keeps h))))))

theorem setClocks_keeps (h : Keeps s t) : Keeps s (setClocks t) :=
  .ite (.ite h (raise_keeps (.upd h))) (raise_keeps (.upd (.ite h (raise_keeps (.upd h)))))

theorem completeMark_keeps (h : Keeps s t) : Keeps s (completeMark t) := by
  unfold completeMark
  split
  · exact h
  · exact appendCounters_keeps (modFlash_keeps (.upd h))

theorem beginSwath_keeps (h : Keeps s t) : Keeps s (beginSwath t) :=
  foldAdmit_keeps (reseedOwed_keeps (completeMark_keeps (fillQueue_keeps (setClocks_keeps (nextSwath_keeps h)))))

theorem execSwathStart_keeps (h : Keeps s t) : Answers s (execSwathStart t) := .next (.ite (admitPhase_keeps (beginSwath_keeps h)) h)

theorem endJobs_keeps {f} (h : Keeps s t) : Keeps s (endJobs f t) := by
  unfold endJobs
  refine forAll_keeps (fun _ _ hu => ?_) h
  split
  · split
    · exact endWithdrawn_keeps hu
    · exact hu
  · exact hu

theorem lateMirrors_keeps (h : Keeps s t) : Keeps s (lateMirrors t) := by
  unfold lateMirrors
  refine forAll_keeps (fun _ _ hu => ?_) h
  split
  · split
    · exact .ite (mirrorLate_keeps hu) hu
    · exact hu
  · exact hu

theorem sweepInvocations_keeps (h : Keeps s t) : Keeps s (sweepInvocations t) := by
  unfold sweepInvocations
  refine forAll_keeps (fun _ _ hu => ?_) h
  dsimp only
  split
  · refine .ite (modCore_keeps (wipeContext_keeps ?_)) ?_
    · split
      · exact .ite (modCore_keeps (wipeContext_keeps hu)) hu
      · exact hu
    · split
      · exact .ite (modCore_keeps (wipeContext_keeps hu)) hu
      · exact hu
  · split
    · exact .ite (modCore_keeps (wipeContext_keeps hu)) hu
    · exact hu

theorem settleUnits_keeps (h : Keeps s t) : Keeps s (settleUnits t) := forAll_keeps (fun _ _ hu => settleUnit_keeps hu) h

theorem closeLoad_keeps (h : Keeps s t) : Keeps s (closeLoad t) := .upd (forAll_keeps (fun _ _ hu => modUnit_keeps hu) (.upd h))

theorem closeResetJobs_keeps (h : Keeps s t) : Keeps s (closeResetJobs t) := forAll_keeps (fun _ _ hu => appendOrLose_keeps hu) (.upd h)

theorem closeWindrows_keeps (h : Keeps s t) : Keeps s (closeWindrows t) := .ite (repeatIdx_keeps (fun _ _ hu => windrow_keeps hu) h) h

theorem closeAlert_keeps {n} (h : Keeps s t) : Keeps s (closeAlert n t) :=
  .ite (raiseChan_keeps (alert_keeps (.ite (alert_keeps h) h))) (.ite (alert_keeps h) h)

theorem closeMessage_keeps {n} (h : Keeps s t) : Keeps s (closeMessage n t) := .ite (sendMsg_keeps (modChan_keeps h)) h

theorem closeAlertMessage_keeps {n} (h : Keeps s t) : Keeps s (closeAlertMessage n t) := .ite (modChan_keeps h) (sendMsg_keeps (modChan_keeps h))

theorem closeVectors_keeps (h : Keeps s t) : Keeps s (closeVectors t) := forAll_keeps (fun _ _ hu => sendMsg_keeps hu) (.upd h)

theorem closeMissed_keeps (h : Keeps s t) : Keeps s (closeMissed t) := .ite h (raise_keeps (.upd h))

theorem closePowerFail_keeps (h : Keeps s t) : Keeps s (closePowerFail t) :=
  .ite (modPower_keeps (repeatIdx_keeps (fun _ _ hu => .ite (gateDomain_keeps hu) hu) h)) h

theorem closeEnergy_keeps {energies inputUj} (h : Keeps s t) : Keeps s (closeEnergy energies inputUj t) :=
  .upd (modPower_keeps (forAll_keeps (fun _ _ hu => modUnit_keeps hu) h))

theorem closeWork_keeps (h : Keeps s t) : Keeps s (closeWork t) :=
  settleUnits_keeps (sweepInvocations_keeps (lateMirrors_keeps (endWaiting_keeps (closeEngines_keeps (endJobs_keeps (.upd h))))))

theorem closeEntries_keeps (h : Keeps s t) : Keeps s (closeEntries t) :=
  endDelivery_keeps (deliverFresh_keeps (closeWindrows_keeps (closeResetJobs_keeps (auditRecover_keeps (deliverOld_keeps h)))))

theorem closeMessages_keeps (h : Keeps s t) : Keeps s (closeMessages t) :=
  sendHeld_keeps (closeVectors_keeps (repeatIdx_keeps (fun _ _ hu => closeAlertMessage_keeps hu) (repeatIdx_keeps (fun _ _ hu => closeMessage_keeps hu) h)))

theorem closePost_keeps (h : Keeps s t) : Keeps s (closePost t) :=
  closeMessages_keeps (auditFull_keeps (repeatIdx_keeps (fun _ _ hu => closeAlert_keeps hu) (repeatIdx_keeps (fun _ _ hu => tryQuiesce_keeps hu) (closeEntries_keeps h))))

theorem closeAfter_keeps (h : Keeps s t) : Keeps s (closeAfter t) :=
  pruneTenants_keeps (.upd (closePowerFail_keeps (tamperClose_keeps (closeMissed_keeps (startActivities_keeps (forceStops_keeps h))))))

theorem execClosePhase_keeps {energies inputUj} (h : Keeps s t) : Answers s (execClosePhase energies inputUj t) :=
  .next (.ite (closeEnergy_keeps (closeAfter_keeps (closePost_keeps (closeLoad_keeps (closeWork_keeps h))))) h)

theorem drainLedger_keeps {p} (h : Keeps s t) : Keeps s (drainLedger p t) := by
  unfold drainLedger
  split
  · exact h
  · exact forAll_keeps (fun _ _ hu => marginOn_keeps hu) h

theorem unitStops_keeps {p} (h : Keeps s t) : Keeps s (unitStops p t) := .ite (rngTileOff_keeps h) h

theorem unitStarts_keeps {p} (h : Keeps s t) : Keeps s (unitStarts p t) := .ite (rngTileOn_keeps h) h

theorem wipeUnit_keeps {p} (h : Keeps s t) : Keeps s (wipeUnit p t) := by
  unfold wipeUnit
  split
  · exact .upd h
  · exact modEng_keeps h
  · exact .ite (.upd h) h

theorem writeIsolate_keeps {p iso} (h : Keeps s t) : Keeps s (writeIsolate p iso t) :=
  .ite (.ite (modUnit_keeps h) (isolateUnit_keeps (unitStops_keeps (withdrawUnitJobs_keeps (modUnit_keeps h))))) (.ite (.ite (unitStarts_keeps (releaseUnit_keeps (wipeUnit_keeps (modUnit_keeps h)))) (releaseUnit_keeps (wipeUnit_keeps (modUnit_keeps h)))) (modUnit_keeps h))

theorem writeEnable_keeps {p en dm} (h : Keeps s t) : Keeps s (writeEnable p en dm t) := by
  unfold writeEnable
  dsimp only
  split
  · exact modUnit_keeps h
  · exact h
  · exact .ite (unitStarts_keeps (modUnit_keeps h)) (.ite (unitStops_keeps (drainLedger_keeps (modUnit_keeps h))) (modUnit_keeps h))
  · exact .ite (raise_keeps (modUnit_keeps h)) (.ite (settleUnit_keeps (withdrawUnitJobs_keeps (modUnit_keeps h))) h)
  · exact .ite (unitStarts_keeps (setUnitState_keeps (modUnit_keeps h))) (modUnit_keeps h)
  · exact .ite (modUnit_keeps h) (unitStops_keeps (settleUnit_keeps (.ite (withdrawUnitJobs_keeps (setUnitState_keeps (modUnit_keeps (modUnit_keeps h)))) (drainLedger_keeps (setUnitState_keeps (modUnit_keeps (modUnit_keeps h)))))))

theorem ctlPage_keeps {v p} (h : Keeps s t) : Keeps s (ctlPage v p t) := .ite (.ite h (writeEnable_keeps (writeIsolate_keeps h))) (modUnit_keeps h)

theorem ctlWrite_keeps {p v} (h : Keeps s t) : Keeps s (ctlWrite p v t) := .ite (raise_keeps h) (forAll_keeps (fun _ _ hu => ctlPage_keeps hu) h)

theorem profileWrite_keeps {p v} (h : Keeps s t) : Keeps s (profileWrite p v t) :=
  .ite h (.ite (raise_keeps h) (.ite (modUnit_keeps h) (.ite (modUnit_keeps h) (raise_keeps (modUnit_keeps h)))))

theorem clearPend_keeps {p mask} (h : Keeps s t) : Keeps s (clearPend p mask t) := forAll_keeps (fun _ _ hu => modUnit_keeps hu) h

theorem showAbove_keeps {n p b} (h : Keeps s t) : Keeps s (showAbove n p b t) := by
  induction n generalizing p b t with
  | zero => exact h
  | succ n ih => exact .ite h (ih (modUnit_keeps h))

theorem maskWrite_keeps {p v} (h : Keeps s t) : Keeps s (maskWrite p v t) := showAbove_keeps (modUnit_keeps h)

theorem routeWrite_keeps {p v} (h : Keeps s t) : Keeps s (routeWrite p v t) := .ite (modUnit_keeps h) (raise_keeps (modUnit_keeps h))

theorem headWriteWord_keeps {p off v} (h : Keeps s t) : Keeps s (headWriteWord p off v t) := by
  unfold headWriteWord
  split
  · exact ctlWrite_keeps h
  · exact profileWrite_keeps h
  · exact forAll_keeps (fun _ _ hu => modUnit_keeps hu) h
  · exact clearPend_keeps h
  · exact maskWrite_keeps h
  · exact routeWrite_keeps h
  · exact forAll_keeps (fun _ _ hu => modUnit_keeps hu) h
  · exact modUnit_keeps h
  · exact h

theorem headReadEffect_keeps {p off} (h : Keeps s t) : Keeps s (headReadEffect p off t) := .ite (modUnit_keeps h) h

theorem headAuditedWrite_keeps {m p off v} (h : Keeps s t) : Keeps s (headAuditedWrite m p off v t) :=
  .ite (audited_keeps (fun _ hu => headWriteWord_keeps hu) h) h

theorem execUnitEnable_keeps {m page} (h : Keeps s t) : Answers s (execUnitEnable m page t) := .next (headAuditedWrite_keeps h)

theorem execUnitDisableDrain_keeps {m page} (h : Keeps s t) : Answers s (execUnitDisableDrain m page t) := .next (headAuditedWrite_keeps h)

theorem execUnitDisableWithdraw_keeps {m page} (h : Keeps s t) : Answers s (execUnitDisableWithdraw m page t) := .next (headAuditedWrite_keeps h)

theorem execUnitIsolate_keeps {m page} (h : Keeps s t) : Answers s (execUnitIsolate m page t) := .next (headAuditedWrite_keeps h)

theorem execUnitUnisolate_keeps {m page} (h : Keeps s t) : Answers s (execUnitUnisolate m page t) := .next (headAuditedWrite_keeps h)

theorem execUnitProfileWrite_keeps {m plane value} (h : Keeps s t) : Answers s (execUnitProfileWrite m plane value t) :=
  .next (.ite (headAuditedWrite_keeps h) h)

theorem execUnitEvtPendClear_keeps {page mask} (h : Keeps s t) : Answers s (execUnitEvtPendClear page mask t) :=
  .next (.ite (hostWrite_keeps (fun _ hu => clearPend_keeps hu) h) h)

theorem execUnitErrCapt3Read_keeps {m page} (h : Keeps s t) : Answers s (execUnitErrCapt3Read m page t) :=
  .next (.ite h (.ite (emit_keeps h) (headReadEffect_keeps (emit_keeps h))))

theorem cipWriteWord_keeps {off v} (h : Keeps s t) : Keeps s (cipWriteWord off v t) := .ite (.upd h) h

theorem cipReadEffect_keeps {off} (h : Keeps s t) : Keeps s (cipReadEffect off t) := .ite (.upd h) (.ite (.upd h) h)

theorem msixWriteWord_keeps {off v} (h : Keeps s t) : Keeps s (msixWriteWord off v t) := .ite (emit_keeps (.upd (.upd h))) (.upd h)

theorem pageWriteWord_keeps {p o v} (h : Keeps s t) : Keeps s (pageWriteWord p o v t) := by
  unfold pageWriteWord
  split
  · exact .ite h (pwrWriteWord_keeps h)
  · exact schWriteWord_keeps h
  · exact hostWriteWord_keeps h
  · exact sigWriteWord_keeps h
  · exact cipWriteWord_keeps h
  · exact vaultWriteWord_keeps h
  · exact keeperWriteWord_keeps h
  · exact gateWriteWord_keeps h
  · exact rngWriteWord_keeps h
  · exact flsWriteWord_keeps h
  · exact keyWriteWord_keeps h
  · exact audWriteWord_keeps h
  · exact recWriteWord_keeps h
  · exact foldWriteWord_keeps h
  · exact portWriteWord_keeps h
  · exact contactWriteWord_keeps h
  · exact readerWriteWord_keeps h
  · exact sdcWriteWord_keeps h
  · exact panelWriteWord_keeps h
  · exact gateWriteWord_keeps h
  · exact h

theorem pageReadEffect_keeps {p o} (h : Keeps s t) : Keeps s (pageReadEffect p o t) := by
  unfold pageReadEffect
  split
  · exact .ite h (pwrReadEffect_keeps h)
  · exact schReadEffect_keeps h
  · exact hostReadEffect_keeps h
  · exact sigReadEffect_keeps h
  · exact cipReadEffect_keeps h
  · exact vaultReadEffect_keeps h
  · exact keeperReadEffect_keeps h
  · exact .ite (coreReadEffect_keeps h) (gateReadEffect_keeps h)
  · exact rngReadEffect_keeps h
  · exact flsReadEffect_keeps h
  · exact keyReadEffect_keeps h
  · exact audReadEffect_keeps h
  · exact recReadEffect_keeps h
  · exact portReadEffect_keeps h
  · exact contactReadEffect_keeps h
  · exact sdcReadEffect_keeps h
  · exact gateReadEffect_keeps h
  · exact h

theorem regWriteWord_keeps {a v} (h : Keeps s t) : Keeps s (regWriteWord a v t) := by
  unfold regWriteWord
  refine .ite (chanWriteWord_keeps h) (.ite h ?_)
  split
  · exact msixWriteWord_keeps h
  · exact h
  · exact h
  · exact h
  · exact .ite (headWriteWord_keeps h) (pageWriteWord_keeps h)

theorem regReadEffect_keeps {a} (h : Keeps s t) : Keeps s (regReadEffect a t) := by
  unfold regReadEffect
  refine .ite (chanReadEffect_keeps h) (.ite h ?_)
  split
  · exact draw_keeps h
  · exact h
  · exact h
  · exact h
  · exact .ite (headReadEffect_keeps h) (pageReadEffect_keeps h)

theorem readWordBy_keeps {m a} (h : Keeps s t) : Keeps s (readWordBy m a t).2 := by
  unfold readWordBy
  split
  · exact .upd (regReadEffect_keeps h)
  · split
    · dsimp only
      split
      · exact .upd h
      · exact regReadEffect_keeps h
    · dsimp only
      split <;> exact regReadEffect_keeps h

theorem readBy_keeps {m a width} (h : Keeps s t) : Keeps s (readBy m a width t).2 := by
  unfold readBy
  split
  · exact regReadEffect_keeps (regReadEffect_keeps h)
  · exact readWordBy_keeps h

theorem execRegisterRead_keeps {m bar2 off width} (h : Keeps s t) : Answers s (execRegisterRead m bar2 off width t) :=
  .next (.ite (emit_keeps h) (.ite (emit_keeps h) (.ite (emit_keeps (readBy_keeps h)) (emit_keeps (badAccess_keeps h)))))

theorem writeWide_keeps {a v} (h : Keeps s t) : Keeps s (writeWide a v t) := by
  unfold writeWide
  refine .ite (.ite (regWriteWord_keeps (regWriteWord_keeps h)) (chanRefuse_keeps h)) ?_
  split
  · exact takeStileKey_keeps h
  · exact .ite (refuseWrite_keeps h) (regWriteWord_keeps (regWriteWord_keeps h))
  · exact regWriteWord_keeps (regWriteWord_keeps h)

theorem writeWordBy_keeps {m a width v} (h : Keeps s t) : Keeps s (writeWordBy m a width v t) :=
  .ite (audited_keeps (fun _ hu => regWriteWord_keeps hu) h) (regWriteWord_keeps h)

theorem writeBy_keeps {m a width v} (h : Keeps s t) : Keeps s (writeBy m a width v t) :=
  .ite (.ite (.ite (audited_keeps (fun _ hu => writeWide_keeps hu) h) (writeWide_keeps h)) (writeWordBy_keeps (writeWordBy_keeps h))) (writeWordBy_keeps h)

theorem execRegisterWrite_keeps {m bar2 off width value} (h : Keeps s t) : Answers s (execRegisterWrite m bar2 off width value t) := by
  unfold execRegisterWrite
  split
  · exact .next h
  · split
    · exact .next h
    · split
      · exact execPushWrite_keeps h
      · exact .next (.ite (writeBy_keeps h) (badAccess_keeps h))

theorem execSmbusRead_keeps {off} (h : Keeps s t) : Answers s (execSmbusRead off t) :=
  .next (.ite h (.ite (emit_keeps (readWordBy_keeps h)) (emit_keeps h)))

theorem execSmbusWrite_keeps {off value} (h : Keeps s t) : Answers s (execSmbusWrite off value t) := .next (.ite (writeBy_keeps h) h)

theorem splitValue_keeps {n e} (h : Keeps s t) : Keeps s (splitValue n e t).2 := by
  unfold splitValue
  repeat' split
  all_goals dsimp only
  · exact readBy_keeps h
  · exact badAccess_keeps h
  · exact mendRow_keeps h
  · exact mendRow_keeps h

theorem execSplitLoadLanding_keeps {core ok} (h : Keeps s t) : Answers s (execSplitLoadLanding core ok t) := by
  unfold execSplitLoadLanding
  refine .next ?_
  split
  · exact h
  · next e rest _ =>
    have h1 : Keeps s (modCore core (fun c => { c with splits := rest }) t) := modCore_keeps h
    have hv := splitValue_keeps (n := core) (e := e) h1
    generalize modCore core (fun c => { c with splits := rest }) t = u at h1 hv
    refine .ite h ?_
    dsimp only
    split
    · exact modRegs_keeps hv
    · refine modRegs_keeps ?_
      split
      · exact raise_keeps h1
      · exact h1

theorem storeEffect_keeps {n w} (h : Keeps s t) : Keeps s (storeEffect n w t) :=
  .ite (.ite (writeBy_keeps h) (modCore_keeps (badAccess_keeps h))) (.ite (memPutCap_keeps h) (memWrite_keeps h))

theorem execBufferedStoreDone_keeps {core} (h : Keeps s t) : Answers s (execBufferedStoreDone core t) := by
  unfold execBufferedStoreDone
  refine .next ?_
  split
  · exact h
  · exact storeEffect_keeps (popStore_keeps h)

theorem effectOnly_keeps {f a} (hf : ∀ a0 u, Keeps s u → Keeps s (f a0 u)) (h : Keeps s t) : Keeps s (effectOnly f a t).2 :=
  unstated_keeps (hf _ _ h)

theorem sysBind_keeps {a} (h : Keeps s t) : Keeps s (sysBind a t) := by
  unfold sysBind
  split
  · exact bindStep_keeps h
  · exact h

theorem sysEnd_keeps {a} (h : Keeps s t) : Keeps s (sysEnd a t) := by
  unfold sysEnd
  dsimp only
  split
  · exact .ite h (settleUnit_keeps (stepEnds_keeps h))
  · exact h

theorem execSysStepBind_keeps {x cap rs} (h : Keeps s t) : Answers s (execSysStepBind x cap rs t) :=
  fetched_keeps h (sysCall_keeps (fun _ _ hu => effectOnly_keeps (fun _ _ hu1 => sysBind_keeps hu1) hu) h)

theorem execSysStepEnd_keeps {x cap rs} (h : Keeps s t) : Answers s (execSysStepEnd x cap rs t) :=
  fetched_keeps h (sysCall_keeps (fun _ _ hu => effectOnly_keeps (fun _ _ hu1 => sysEnd_keeps hu1) hu) h)

theorem execSysWindrowPost_keeps {x cap rs} (h : Keeps s t) : Answers s (execSysWindrowPost x cap rs t) :=
  fetched_keeps h (sysCall_keeps (fun _ _ hu => effectOnly_keeps (fun _ _ hu1 => .ite (deliverFresh_keeps (windrow_keeps hu1)) hu1) hu) h)

theorem execSysLedgerRead_keeps {x cap rs} (h : Keeps s t) : Answers s (execSysLedgerRead x cap rs t) :=
  fetched_keeps h (sysCall_keeps (fun _ _ hu => hu) h)

theorem pinBlock_keeps {b} (h : Keeps s t) : Keeps s (pinBlock b t) := by
  unfold pinBlock
  split
  · exact h
  · exact .ite h (pinKey_keeps h)

theorem execSysKeyFetch_keeps {x cap rs} (h : Keeps s t) : Answers s (execSysKeyFetch x cap rs t) :=
  fetched_keeps h (sysCall_keeps (fun _ _ hu => effectOnly_keeps (fun _ _ hu1 => .ite (fetchKey_keeps hu1) hu1) hu) h)

theorem execSysKeySeal_keeps {x cap rs} (h : Keeps s t) : Answers s (execSysKeySeal x cap rs t) :=
  fetched_keeps h (sysCall_keeps (fun _ _ hu => effectOnly_keeps (fun _ _ hu1 => reseal_keeps hu1) hu) h)

theorem execSysKeyPin_keeps {x cap rs} (h : Keeps s t) : Answers s (execSysKeyPin x cap rs t) :=
  fetched_keeps h (sysCall_keeps (fun _ _ hu => effectOnly_keeps (fun _ _ hu1 => pinBlock_keeps hu1) hu) h)

theorem execSysSessionCheck_keeps {x cap rs} (h : Keeps s t) : Answers s (execSysSessionCheck x cap rs t) :=
  fetched_keeps h (sysCall_keeps (fun _ _ hu => hu) h)

theorem startWake_keeps {d} (h : Keeps s t) : Keeps s (startWake d t) :=
  .ite (forAll_keeps (fun _ _ hu => .ite (setUnitState_keeps hu) hu) (modDomain_keeps h)) h

theorem execSysDomainWake_keeps {x cap rs} (h : Keeps s t) : Answers s (execSysDomainWake x cap rs t) :=
  fetched_keeps h (sysCall_keeps (fun _ _ hu => effectOnly_keeps (fun _ _ hu1 => startWake_keeps hu1) hu) h)

theorem execSysDomainGate_keeps {x cap rs} (h : Keeps s t) : Answers s (execSysDomainGate x cap rs t) :=
  fetched_keeps h (sysCall_keeps (fun _ _ hu => effectOnly_keeps (fun _ _ hu1 => .ite (gateDomain_keeps hu1) hu1) hu) h)

theorem execSysPressureRead_keeps {x cap rs} (h : Keeps s t) : Answers s (execSysPressureRead x cap rs t) :=
  fetched_keeps h (sysCall_keeps (fun _ _ hu => hu) h)

theorem execSysEvtRaise_keeps {x cap rs} (h : Keeps s t) : Answers s (execSysEvtRaise x cap rs t) :=
  fetched_keeps h (sysCall_keeps (fun _ _ hu => effectOnly_keeps (fun _ _ hu1 => raise_keeps hu1) hu) h)

theorem execSysEvtRoute_keeps {x cap rs} (h : Keeps s t) : Answers s (execSysEvtRoute x cap rs t) :=
  fetched_keeps h (sysCall_keeps (fun _ _ hu => effectOnly_keeps (fun _ _ hu1 => headAuditedWrite_keeps hu1) hu) h)

theorem sysRegion_keeps {m b} (h : Keeps s t) : Keeps s (sysRegion m b t) := .ite (writeBy_keeps h) h

theorem execSysGateWrite_keeps {x cap rs} (h : Keeps s t) : Answers s (execSysGateWrite x cap rs t) :=
  fetched_keeps h (sysCall_keeps (fun _ _ hu => effectOnly_keeps (fun _ _ hu1 => sysRegion_keeps hu1) hu) h)

theorem execSysGateSync_keeps {x cap rs} (h : Keeps s t) : Answers s (execSysGateSync x cap rs t) :=
  fetched_keeps h (sysCall_keeps (fun _ _ hu => hu) h)

theorem execSysCoreStart_keeps {x cap rs} (h : Keeps s t) : Answers s (execSysCoreStart x cap rs t) :=
  fetched_keeps h (sysCall_keeps (fun _ _ hu => effectOnly_keeps (fun _ _ hu1 => .ite (startCore_keeps hu1) hu1) hu) h)

theorem execSysCoreStop_keeps {x cap rs} (h : Keeps s t) : Answers s (execSysCoreStop x cap rs t) :=
  fetched_keeps h (sysCall_keeps (fun _ _ hu => effectOnly_keeps (fun _ _ hu1 => .ite (modCore_keeps hu1) hu1) hu) h)

theorem execSysPmWrite_keeps {x cap rs} (h : Keeps s t) : Answers s (execSysPmWrite x cap rs t) :=
  fetched_keeps h (sysCall_keeps (fun _ _ hu => effectOnly_keeps (fun _ _ hu1 => .ite (writeRow_keeps hu1) hu1) hu) h)

theorem execSysHalt_keeps {x cap rs} (h : Keeps s t) : Answers s (execSysHalt x cap rs t) :=
  fetched_keeps h (sysCall_keeps (fun _ _ hu => effectOnly_keeps (fun _ _ hu1 => modCore_keeps hu1) hu) h)

theorem execSysTraceOn_keeps {x cap rs} (h : Keeps s t) : Answers s (execSysTraceOn x cap rs t) :=
  fetched_keeps h (sysCall_keeps (fun _ _ hu => effectOnly_keeps (fun _ _ hu1 => modRegs_keeps hu1) hu) h)

theorem execSysTraceOff_keeps {x cap rs} (h : Keeps s t) : Answers s (execSysTraceOff x cap rs t) :=
  fetched_keeps h (sysCall_keeps (fun _ _ hu => effectOnly_keeps (fun _ _ hu1 => modRegs_keeps hu1) hu) h)

theorem execSysBreakSet_keeps {x cap rs} (h : Keeps s t) : Answers s (execSysBreakSet x cap rs t) :=
  fetched_keeps h (sysCall_keeps (fun _ _ hu => effectOnly_keeps (fun _ _ hu1 => modCore_keeps hu1) hu) h)

end Sys2Proof.Machine

end

section
/-!
SUPPORT. The statements about every command: O38 to O43.
-/
namespace Sys2Proof.Machine
open Sys2Proof Sys2Proof.Statements
variable {s t u : State}

/-- Every command is answered by a next state, which keeps the queue and the job table. -/
theorem exec_keeps (h : Keeps s t) (c : Instr) : Answers s (exec c t) := by
  unfold exec
  cases c with
  | powerGood => exact execPowerGood_keeps h
  | perstRelease => exact execPerstRelease_keeps h
  | bootVerifyDone => exact execBootVerifyDone_keeps h
  | ucodeLoadDone => exact execUcodeLoadDone_keeps h
  | dramWipeRegionDone => exact execDramWipeRegionDone_keeps h
  | serviceStart => exact execServiceStart_keeps h
  | vaultReplayEnd => exact execVaultReplayEnd_keeps h
  | moduleReady => exact execModuleReady_keeps h
  | persistentErasureDone => exact execPersistentErasureDone_keeps h
  | conventionalReset => exact execConventionalReset_keeps h
  | flr => exact execFlr_keeps h
  | cxlReset => exact execCxlReset_keeps h
  | hotResetOrLinkDown => exact execHotResetOrLinkDown_keeps h
  | linkTrained => exact execLinkTrained_keeps h
  | busMasterEnableClear => exact execBusMasterEnableClear_keeps h
  | busMasterEnableSet => exact execBusMasterEnableSet_keeps h
  | d3hotEntry => exact execD3hotEntry_keeps h
  | d0Entry => exact execD0Entry_keeps h
  | cacheEnableChange => exact execCacheEnableChange_keeps h
  | ideIntegrityFail => exact execIdeIntegrityFail_keeps h
  | ideKmRequest => exact execIdeKmRequest_keeps h
  | doeDiscovery => exact execDoeDiscovery_keeps h
  | cdatTableAccess => exact execCdatTableAccess_keeps h
  | spdmGetVersion => exact execSpdmGetVersion_keeps h
  | spdmGetCapabilities => exact execSpdmGetCapabilities_keeps h
  | spdmNegotiateAlgorithms => exact execSpdmNegotiateAlgorithms_keeps h
  | spdmGetDigests => exact execSpdmGetDigests_keeps h
  | spdmGetCertificate => exact execSpdmGetCertificate_keeps h
  | spdmChallenge => exact execSpdmChallenge_keeps h
  | spdmGetMeasurements => exact execSpdmGetMeasurements_keeps h
  | spdmKeyExchange => exact execSpdmKeyExchange_keeps h
  | spdmFinish => exact execSpdmFinish_keeps h
  | spdmHeartbeat => exact execSpdmHeartbeat_keeps h
  | spdmKeyUpdate => exact execSpdmKeyUpdate_keeps h
  | spdmEndSession => exact execSpdmEndSession_keeps h
  | smbusRead => exact execSmbusRead_keeps h
  | smbusWrite => exact execSmbusWrite_keeps h
  | registerWrite => exact execRegisterWrite_keeps h
  | swathStart => exact execSwathStart_keeps h
  | closePhase => exact execClosePhase_keeps h
  | checkpointForm => exact execCheckpointForm_keeps h
  | checkpointSigned => exact execCheckpointSigned_keeps h
  | cosignTimeout => exact execCosignTimeout_keeps h
  | class2Ageing => exact execClass2Ageing_keeps h
  | ringLineReadDone => exact execRingLineReadDone_keeps h
  | snoopInv => exact execSnoopInv_keeps h
  | snoopData => exact execSnoopData_keeps h
  | pushWrite => exact execPushWrite_keeps h
  | pushAssemblyTimeout => exact execPushAssemblyTimeout_keeps h
  | chnSqDoorbell => exact execChnSqDoorbell_keeps h
  | chnCqHead => exact execChnCqHead_keeps h
  | chnEnable => exact execChnEnable_keeps h
  | chnDisableDrain => exact execChnDisableDrain_keeps h
  | chnDisableWithdraw => exact execChnDisableWithdraw_keeps h
  | jobAdmission => exact execJobAdmission_keeps h
  | inputReadDone => exact execInputReadDone_keeps h
  | engineStepEnd => exact execEngineStepEnd_keeps h
  | mldsaCutoff => exact execMldsaCutoff_keeps h
  | outputConfirmed => exact execOutputConfirmed_keeps h
  | keyFillDone => exact execKeyFillDone_keeps h
  | abortWipeDone => exact execAbortWipeDone_keeps h
  | cipherWipeDone => exact execCipherWipeDone_keeps h
  | nonceBlockRequest => exact execNonceBlockRequest_keeps h
  | maskReseed => exact execMaskReseed_keeps h
  | opSkip => exact execOpSkip_keeps h
  | opChain => exact execOpChain_keeps h
  | opNop => exact execOpNop_keeps h
  | opPkValidate => exact execOpPkValidate_keeps h
  | opPkEcdsaSign => exact execOpPkEcdsaSign_keeps h
  | opPkEcdsaVerify => exact execOpPkEcdsaVerify_keeps h
  | opPkEddsaSign => exact execOpPkEddsaSign_keeps h
  | opPkEddsaVerify => exact execOpPkEddsaVerify_keeps h
  | opPkEcdh => exact execOpPkEcdh_keeps h
  | opPkRsaSign => exact execOpPkRsaSign_keeps h
  | opPkRsaVerify => exact execOpPkRsaVerify_keeps h
  | opPkRsaEncrypt => exact execOpPkRsaEncrypt_keeps h
  | opPkRsaDecrypt => exact execOpPkRsaDecrypt_keeps h
  | opPkMldsaSign => exact execOpPkMldsaSign_keeps h
  | opPkMldsaVerify => exact execOpPkMldsaVerify_keeps h
  | opPkMlkemEncaps => exact execOpPkMlkemEncaps_keeps h
  | opPkMlkemDecaps => exact execOpPkMlkemDecaps_keeps h
  | opPkSlhdsaVerify => exact execOpPkSlhdsaVerify_keeps h
  | opSymCbcEncrypt => exact execOpSymCbcEncrypt_keeps h
  | opSymCbcDecrypt => exact execOpSymCbcDecrypt_keeps h
  | opSymCtrEncrypt => exact execOpSymCtrEncrypt_keeps h
  | opSymCtrDecrypt => exact execOpSymCtrDecrypt_keeps h
  | opSymGcmEncrypt => exact execOpSymGcmEncrypt_keeps h
  | opSymGcmDecrypt => exact execOpSymGcmDecrypt_keeps h
  | opSymCmac => exact execOpSymCmac_keeps h
  | opSymCmacVerify => exact execOpSymCmacVerify_keeps h
  | opSymXtsEncrypt => exact execOpSymXtsEncrypt_keeps h
  | opSymXtsDecrypt => exact execOpSymXtsDecrypt_keeps h
  | opSymKeyWrap => exact execOpSymKeyWrap_keeps h
  | opSymKeyUnwrap => exact execOpSymKeyUnwrap_keeps h
  | opPayPinTranslate => exact execOpPayPinTranslate_keeps h
  | opPayPinTranslateAesDukpt => exact execOpPayPinTranslateAesDukpt_keeps h
  | opPayPinTranslateTdesDukpt => exact execOpPayPinTranslateTdesDukpt_keeps h
  | opPayPinVerify => exact execOpPayPinVerify_keeps h
  | opPayMacGenerate => exact execOpPayMacGenerate_keeps h
  | opPayMacVerify => exact execOpPayMacVerify_keeps h
  | opPayCvvGenerate => exact execOpPayCvvGenerate_keeps h
  | opPayCvvVerify => exact execOpPayCvvVerify_keeps h
  | opPayArqcVerify => exact execOpPayArqcVerify_keeps h
  | opPayArpcGenerate => exact execOpPayArpcGenerate_keeps h
  | opPayFf1Encrypt => exact execOpPayFf1Encrypt_keeps h
  | opPayFf1Decrypt => exact execOpPayFf1Decrypt_keeps h
  | opPayAuthRef => exact execOpPayAuthRef_keeps h
  | opVltTokenise => exact execOpVltTokenise_keeps h
  | opVltDetokenise => exact execOpVltDetokenise_keeps h
  | opVltQuery => exact execOpVltQuery_keeps h
  | opVltLookup => exact execOpVltLookup_keeps h
  | opVltStatusSet => exact execOpVltStatusSet_keeps h
  | opVltDomainSet => exact execOpVltDomainSet_keeps h
  | opVltDomainInfo => exact execOpVltDomainInfo_keeps h
  | opKeyGenerate => exact execOpKeyGenerate_keeps h
  | opKeyImportX9143 => exact execOpKeyImportX9143_keeps h
  | opKeyImportRkl => exact execOpKeyImportRkl_keeps h
  | opKeyImportPublic => exact execOpKeyImportPublic_keeps h
  | opKeyInfo => exact execOpKeyInfo_keeps h
  | opKeySetStatus => exact execOpKeySetStatus_keeps h
  | opKeyRevoke => exact execOpKeyRevoke_keeps h
  | opKeyDestroy => exact execOpKeyDestroy_keeps h
  | opKeyReplicate => exact execOpKeyReplicate_keeps h
  | opKeyPin => exact execOpKeyPin_keeps h
  | opKeyUnpin => exact execOpKeyUnpin_keeps h
  | opKeyRootLoad => exact execOpKeyRootLoad_keeps h
  | opKeyTenantSigner => exact execOpKeyTenantSigner_keeps h
  | opSesAppEnrol => exact execOpSesAppEnrol_keeps h
  | opSesOpen => exact execOpSesOpen_keeps h
  | opSesClose => exact execOpSesClose_keeps h
  | opRngGenerate => exact execOpRngGenerate_keeps h
  | opRngRaw => exact execOpRngRaw_keeps h
  | opAudCheckpoint => exact execOpAudCheckpoint_keeps h
  | opAudSegment => exact execOpAudSegment_keeps h
  | opTenLoad => exact execOpTenLoad_keeps h
  | opTenUnload => exact execOpTenUnload_keeps h
  | opTenInfo => exact execOpTenInfo_keeps h
  | tenantProgramInvoke => exact execTenantProgramInvoke_keeps h
  | opFlsStageWrite => exact execOpFlsStageWrite_keeps h
  | opFlsStageRead => exact execOpFlsStageRead_keeps h
  | opFlsStageVerify => exact execOpFlsStageVerify_keeps h
  | opFlsActivate => exact execOpFlsActivate_keeps h
  | opLcRequest => exact execOpLcRequest_keeps h
  | opLcStatus => exact execOpLcStatus_keeps h
  | opHdgLogRead => exact execOpHdgLogRead_keeps h
  | opSelftest => exact execOpSelftest_keeps h
  | opSdcRestore => exact execOpSdcRestore_keeps h
  | opSdcArchive => exact execOpSdcArchive_keeps h
  | opSdcInfo => exact execOpSdcInfo_keeps h
  | opFoldEnrol => exact execOpFoldEnrol_keeps h
  | opFoldRemove => exact execOpFoldRemove_keeps h
  | opFoldInfo => exact execOpFoldInfo_keeps h
  | maintStart => exact execMaintStart_keeps h
  | maintStop => exact execMaintStop_keeps h
  | vaultRekeyLeaf => exact execVaultRekeyLeaf_keeps h
  | vaultGcStep => exact execVaultGcStep_keeps h
  | vaultPatrolPage => exact execVaultPatrolPage_keeps h
  | dramPatrolRow => exact execDramPatrolRow_keeps h
  | keyCacheRebuildBlock => exact execKeyCacheRebuildBlock_keeps h
  | auditReserveCompaction => exact execAuditReserveCompaction_keeps h
  | codeFlashStagingSector => exact execCodeFlashStagingSector_keeps h
  | rngRebalanceSource => exact execRngRebalanceSource_keeps h
  | rngRebalanceTimer => exact execRngRebalanceTimer_keeps h
  | backupChunk => exact execBackupChunk_keeps h
  | foldResyncItem => exact execFoldResyncItem_keeps h
  | nandReadDone => exact execNandReadDone_keeps h
  | nandProgramDone => exact execNandProgramDone_keeps h
  | nandEraseDone => exact execNandEraseDone_keeps h
  | mirrorTimeout => exact execMirrorTimeout_keeps h
  | evtRateWindowEnd => exact execEvtRateWindowEnd_keeps h
  | privilegedRecordClose => exact execPrivilegedRecordClose_keeps h
  | tileBufferCollect => exact execTileBufferCollect_keeps h
  | recProgramDone => exact execRecProgramDone_keeps h
  | recCursorOldest => exact execRecCursorOldest_keeps h
  | recCursorNewest => exact execRecCursorNewest_keeps h
  | recCursorSeek => exact execRecCursorSeek_keeps h
  | recCursorNext => exact execRecCursorNext_keeps h
  | recCursorPrevious => exact execRecCursorPrevious_keeps h
  | recWindowLoaded => exact execRecWindowLoaded_keeps h
  | audRingEnable => exact execAudRingEnable_keeps h
  | audRingDisable => exact execAudRingDisable_keeps h
  | audRingHead => exact execAudRingHead_keeps h
  | audPolicyToStop => exact execAudPolicyToStop_keeps h
  | audPolicyToGap => exact execAudPolicyToGap_keeps h
  | rngStartupEnd => exact execRngStartupEnd_keeps h
  | rngTrimBlock => exact execRngTrimBlock_keeps h
  | rngEstimateBlock => exact execRngEstimateBlock_keeps h
  | rngSourceFail => exact execRngSourceFail_keeps h
  | rngReseedComplete => exact execRngReseedComplete_keeps h
  | drbgScheduledReseed => exact execDrbgScheduledReseed_keeps h
  | rngWaitExpiry => exact execRngWaitExpiry_keeps h
  | rngRestart => exact execRngRestart_keeps h
  | rngMinSourcesWrite => exact execRngMinSourcesWrite_keeps h
  | sigSelftestStart => exact execSigSelftestStart_keeps h
  | sigSelftestEnd => exact execSigSelftestEnd_keeps h
  | keyBayFlush => exact execKeyBayFlush_keeps h
  | stlKeyHandleWrite => exact execStlKeyHandleWrite_keeps h
  | amMovS => exact execAmMovS_keeps h
  | amAddS => exact execAmAddS_keeps h
  | amSubS => exact execAmSubS_keeps h
  | amNopS => exact execAmNopS_keeps h
  | amIncS => exact execAmIncS_keeps h
  | amDecS => exact execAmDecS_keeps h
  | amNotS => exact execAmNotS_keeps h
  | amNegS => exact execAmNegS_keeps h
  | amShl1S => exact execAmShl1S_keeps h
  | amShr1S => exact execAmShr1S_keeps h
  | amClrS => exact execAmClrS_keeps h
  | amAdd => exact execAmAdd_keeps h
  | amSub => exact execAmSub_keeps h
  | amAnd => exact execAmAnd_keeps h
  | amOr => exact execAmOr_keeps h
  | amXor => exact execAmXor_keeps h
  | amAndn => exact execAmAndn_keeps h
  | amShl => exact execAmShl_keeps h
  | amShr => exact execAmShr_keeps h
  | amSar => exact execAmSar_keeps h
  | amRol => exact execAmRol_keeps h
  | amRor => exact execAmRor_keeps h
  | amMin => exact execAmMin_keeps h
  | amMax => exact execAmMax_keeps h
  | amMinu => exact execAmMinu_keeps h
  | amMaxu => exact execAmMaxu_keeps h
  | amClz => exact execAmClz_keeps h
  | amPopc => exact execAmPopc_keeps h
  | amBswap => exact execAmBswap_keeps h
  | amMul => exact execAmMul_keeps h
  | amMulh => exact execAmMulh_keeps h
  | amMulhu => exact execAmMulhu_keeps h
  | amMac => exact execAmMac_keeps h
  | amAddi => exact execAmAddi_keeps h
  | amAndi => exact execAmAndi_keeps h
  | amOri => exact execAmOri_keeps h
  | amXori => exact execAmXori_keeps h
  | amShli => exact execAmShli_keeps h
  | amShri => exact execAmShri_keeps h
  | amSari => exact execAmSari_keeps h
  | amRori => exact execAmRori_keeps h
  | amLi => exact execAmLi_keeps h
  | amAddi3 => exact execAmAddi3_keeps h
  | amAndi3 => exact execAmAndi3_keeps h
  | amOri3 => exact execAmOri3_keeps h
  | amXori3 => exact execAmXori3_keeps h
  | amShli3 => exact execAmShli3_keeps h
  | amShri3 => exact execAmShri3_keeps h
  | amSari3 => exact execAmSari3_keeps h
  | amRori3 => exact execAmRori3_keeps h
  | amLi3 => exact execAmLi3_keeps h
  | amLih => exact execAmLih_keeps h
  | amCmpeq => exact execAmCmpeq_keeps h
  | amCmpne => exact execAmCmpne_keeps h
  | amCmplt => exact execAmCmplt_keeps h
  | amCmpge => exact execAmCmpge_keeps h
  | amCmpltu => exact execAmCmpltu_keeps h
  | amCmpgeu => exact execAmCmpgeu_keeps h
  | amCmpeqi => exact execAmCmpeqi_keeps h
  | amCmpnei => exact execAmCmpnei_keeps h
  | amCmplti => exact execAmCmplti_keeps h
  | amCmpgei => exact execAmCmpgei_keeps h
  | amCmpltui => exact execAmCmpltui_keeps h
  | amCmpgeui => exact execAmCmpgeui_keeps h
  | amPand => exact execAmPand_keeps h
  | amPor => exact execAmPor_keeps h
  | amPxor => exact execAmPxor_keeps h
  | amPandn => exact execAmPandn_keeps h
  | amMfs => exact execAmMfs_keeps h
  | amMts => exact execAmMts_keeps h
  | amLdB => exact execAmLdB_keeps h
  | amLdH => exact execAmLdH_keeps h
  | amLdW => exact execAmLdW_keeps h
  | amLdD => exact execAmLdD_keeps h
  | amLdsB => exact execAmLdsB_keeps h
  | amLdsH => exact execAmLdsH_keeps h
  | amLdsW => exact execAmLdsW_keeps h
  | amStB => exact execAmStB_keeps h
  | amStH => exact execAmStH_keeps h
  | amStW => exact execAmStW_keeps h
  | amStD => exact execAmStD_keeps h
  | amLdxD => exact execAmLdxD_keeps h
  | amLdc => exact execAmLdc_keeps h
  | amStc => exact execAmStc_keeps h
  | amLdcx => exact execAmLdcx_keeps h
  | amStcx => exact execAmStcx_keeps h
  | amB => exact execAmB_keeps h
  | amCall => exact execAmCall_keeps h
  | amBr => exact execAmBr_keeps h
  | amCallr => exact execAmCallr_keeps h
  | amLoop => exact execAmLoop_keeps h
  | amGate => exact execAmGate_keeps h
  | amRetc => exact execAmRetc_keeps h
  | amCcopy => exact execAmCcopy_keeps h
  | amCtrim => exact execAmCtrim_keeps h
  | amCread => exact execAmCread_keeps h
  | amCwrap => exact execAmCwrap_keeps h
  | amCunwrap => exact execAmCunwrap_keeps h
  | amCvoid => exact execAmCvoid_keeps h
  | amCgrant => exact execAmCgrant_keeps h
  | amCclip => exact execAmCclip_keeps h
  | amWait => exact execAmWait_keeps h
  | amFenceS => exact execAmFenceS_keeps h
  | amYield => exact execAmYield_keeps h
  | amDone => exact execAmDone_keeps h
  | amBreak => exact execAmBreak_keeps h
  | amNop => exact execAmNop_keeps h
  | sysStepBind => exact execSysStepBind_keeps h
  | sysStepEnd => exact execSysStepEnd_keeps h
  | sysWindrowPost => exact execSysWindrowPost_keeps h
  | sysLedgerRead => exact execSysLedgerRead_keeps h
  | sysKeyFetch => exact execSysKeyFetch_keeps h
  | sysKeySeal => exact execSysKeySeal_keeps h
  | sysKeyPin => exact execSysKeyPin_keeps h
  | sysSessionCheck => exact execSysSessionCheck_keeps h
  | sysDomainWake => exact execSysDomainWake_keeps h
  | sysDomainGate => exact execSysDomainGate_keeps h
  | sysPressureRead => exact execSysPressureRead_keeps h
  | sysEvtRaise => exact execSysEvtRaise_keeps h
  | sysEvtRoute => exact execSysEvtRoute_keeps h
  | sysGateWrite => exact execSysGateWrite_keeps h
  | sysGateSync => exact execSysGateSync_keeps h
  | sysCoreStart => exact execSysCoreStart_keeps h
  | sysCoreStop => exact execSysCoreStop_keeps h
  | sysPmWrite => exact execSysPmWrite_keeps h
  | sysHalt => exact execSysHalt_keeps h
  | sysTraceOn => exact execSysTraceOn_keeps h
  | sysTraceOff => exact execSysTraceOff_keeps h
  | sysBreakSet => exact execSysBreakSet_keeps h
  | flsRead => exact execFlsRead_keeps h
  | flsProgram => exact execFlsProgram_keeps h
  | flsErase => exact execFlsErase_keeps h
  | flsSuspend => exact execFlsSuspend_keeps h
  | flsResume => exact execFlsResume_keeps h
  | flsProgramEnd => exact execFlsProgramEnd_keeps h
  | flsEraseEnd => exact execFlsEraseEnd_keeps h
  | flsSuspendDone => exact execFlsSuspendDone_keeps h
  | splitLoadLanding => exact execSplitLoadLanding_keeps h
  | lateStoreError => exact execLateStoreError_keeps h
  | interruptEntry => exact execInterruptEntry_keeps h
  | stepBudgetExpiry => exact execStepBudgetExpiry_keeps h
  | unitEnable => exact execUnitEnable_keeps h
  | unitDisableDrain => exact execUnitDisableDrain_keeps h
  | unitDisableWithdraw => exact execUnitDisableWithdraw_keeps h
  | unitIsolate => exact execUnitIsolate_keeps h
  | unitUnisolate => exact execUnitUnisolate_keeps h
  | unitProfileWrite => exact execUnitProfileWrite_keeps h
  | unitEvtPendClear => exact execUnitEvtPendClear_keeps h
  | unitErrCapt3Read => exact execUnitErrCapt3Read_keeps h
  | domainIdleGate => exact execDomainIdleGate_keeps h
  | domainWakeDone => exact execDomainWakeDone_keeps h
  | domainShortLatch => exact execDomainShortLatch_keeps h
  | pwrDomainClear => exact execPwrDomainClear_keeps h
  | powerFailStart => exact execPowerFailStart_keeps h
  | powerFailFlushDone => exact execPowerFailFlushDone_keeps h
  | railsOff => exact execRailsOff_keeps h
  | overvoltageClamp => exact execOvervoltageClamp_keeps h
  | overvoltageTimeout => exact execOvervoltageTimeout_keeps h
  | reverseInput => exact execReverseInput_keeps h
  | currentLimitHold => exact execCurrentLimitHold_keeps h
  | pressureRise => exact execPressureRise_keeps h
  | pressureFall => exact execPressureFall_keeps h
  | holdupTest => exact execHoldupTest_keeps h
  | thermalSample => exact execThermalSample_keeps h
  | throttleEnd => exact execThrottleEnd_keeps h
  | thermalProfileExit => exact execThermalProfileExit_keeps h
  | thermalShutdownRecover => exact execThermalShutdownRecover_keeps h
  | hedgeSensorTrip => exact execHedgeSensorTrip_keeps h
  | keeperSecondsTick => exact execKeeperSecondsTick_keeps h
  | cardInserted => exact execCardInserted_keeps h
  | cardRemoved => exact execCardRemoved_keeps h
  | cardShort => exact execCardShort_keeps h
  | cardAtrTimeout => exact execCardAtrTimeout_keeps h
  | cardRetry => exact execCardRetry_keeps h
  | cardResponse => exact execCardResponse_keeps h
  | btnAccept => exact execBtnAccept_keeps h
  | btnReject => exact execBtnReject_keeps h
  | presentationButtonTimeout => exact execPresentationButtonTimeout_keeps h
  | presentationAbandon => exact execPresentationAbandon_keeps h
  | ceremonyWindowEnd => exact execCeremonyWindowEnd_keeps h
  | ceremonyCancel => exact execCeremonyCancel_keeps h
  | rdrPing => exact execRdrPing_keeps h
  | rdrAntennaFault => exact execRdrAntennaFault_keeps h
  | rdrFrameReceived => exact execRdrFrameReceived_keeps h
  | stileFieldEntry => exact execStileFieldEntry_keeps h
  | stileFieldLoss => exact execStileFieldLoss_keeps h
  | stileReqa => exact execStileReqa_keeps h
  | stileWupa => exact execStileWupa_keeps h
  | stileAnticollision => exact execStileAnticollision_keeps h
  | stileSelectFrame => exact execStileSelectFrame_keeps h
  | stileRats => exact execStileRats_keeps h
  | stileHlta => exact execStileHlta_keeps h
  | stileRBlock => exact execStileRBlock_keeps h
  | stileWtxResponse => exact execStileWtxResponse_keeps h
  | stileDeselect => exact execStileDeselect_keeps h
  | stileApduSelect => exact execStileApduSelect_keeps h
  | stileReadStatement => exact execStileReadStatement_keeps h
  | stileGetStatus => exact execStileGetStatus_keeps h
  | stileReadLog => exact execStileReadLog_keeps h
  | stileWtxTimer => exact execStileWtxTimer_keeps h
  | stileWireWrite => exact execStileWireWrite_keeps h
  | stileStatementRefresh => exact execStileStatementRefresh_keeps h
  | sdcInserted => exact execSdcInserted_keeps h
  | sdcRemoved => exact execSdcRemoved_keeps h
  | sdcRetuneTimer => exact execSdcRetuneTimer_keeps h
  | sdcCommandDone => exact execSdcCommandDone_keeps h
  | sdcBusyEnd => exact execSdcBusyEnd_keeps h
  | foldPortEnable => exact execFoldPortEnable_keeps h
  | foldPortDisable => exact execFoldPortDisable_keeps h
  | foldBlockLock => exact execFoldBlockLock_keeps h
  | foldBlockLockLost => exact execFoldBlockLockLost_keeps h
  | foldHandshakeTimeout => exact execFoldHandshakeTimeout_keeps h
  | foldRefusedRetry => exact execFoldRefusedRetry_keeps h
  | foldIdleTimeout => exact execFoldIdleTimeout_keeps h
  | foldHello => exact execFoldHello_keeps h
  | foldFinish => exact execFoldFinish_keeps h
  | foldEcho => exact execFoldEcho_keeps h
  | foldEchoReply => exact execFoldEchoReply_keeps h
  | foldRoute => exact execFoldRoute_keeps h
  | foldMirror => exact execFoldMirror_keeps h
  | foldMirrorAck => exact execFoldMirrorAck_keeps h
  | foldKeyRepl => exact execFoldKeyRepl_keeps h
  | foldKeyAck => exact execFoldKeyAck_keeps h
  | foldDomainRepl => exact execFoldDomainRepl_keeps h
  | foldDomainAck => exact execFoldDomainAck_keeps h
  | foldCosignReq => exact execFoldCosignReq_keeps h
  | foldCosignResp => exact execFoldCosignResp_keeps h
  | foldResyncState => exact execFoldResyncState_keeps h
  | foldClose => exact execFoldClose_keeps h
  | registerRead => exact execRegisterRead_keeps h
  | doeUnservedRequest => exact execDoeUnservedRequest_keeps h
  | spdmUnsupportedRequest => exact execSpdmUnsupportedRequest_keeps h
  | correctableLinkError => exact execCorrectableLinkError_keeps h
  | foldFrameDiscarded => exact execFoldFrameDiscarded_keeps h
  | cardAtr => exact execCardAtr_keeps h
  | cardProtocolTimeout => exact execCardProtocolTimeout_keeps h
  | rdrResponseTimeout => exact execRdrResponseTimeout_keeps h
  | stileUnlistedFrame => exact execStileUnlistedFrame_keeps h
  | bufferedStoreDone => exact execBufferedStoreDone_keeps h
  | conditionedBlockReady => exact execConditionedBlockReady_keeps h

theorem keeps_of_exec {c : Instr} (hc : exec c s = .next t) : Keeps s t := by
  obtain ⟨u, hu, hk⟩ := exec_keeps (.refl s) c
  rw [hc] at hu
  cases hu
  exact hk

/-- What a step takes from the queue, and that it keeps the job table. -/
theorem step_keeps (hs : step s = .next t) : t.pending = s.pending.tail ∧ (JobTable s → JobTable t) := by
  unfold step at hs
  split at hs
  · next hq =>
    cases hs
    exact ⟨by rw [hq]; rfl, id⟩
  · next c rest hq =>
    obtain ⟨hqueue, htable⟩ := keeps_of_exec hs
    exact ⟨by rw [hqueue, hq]; rfl, htable⟩

/-- Settles O38: `step` by its two cases. -/
theorem stepRunsTheFrontCommand : Obligations.StepRunsTheFrontCommand := by
  unfold Obligations.StepRunsTheFrontCommand
  refine ⟨fun c rest s => rfl, fun s hs => ?_⟩
  unfold step
  rw [hs]

/-- Settles O39: the answers of `exec_keeps` are next states. -/
theorem everyCommandIsAnswered : Obligations.EveryCommandIsAnswered := by
  unfold Obligations.EveryCommandIsAnswered
  intro c s
  obtain ⟨t, ht, -⟩ := exec_keeps (.refl s) c
  exact ⟨t, ht⟩

/-- Settles O40: by `exec_keeps` no effect changes the queue. -/
theorem commandsLeaveTheQueueAlone : Obligations.CommandsLeaveTheQueueAlone := by
  unfold Obligations.CommandsLeaveTheQueueAlone
  exact ⟨fun _ _ _ hc => (keeps_of_exec hc).queue, fun _ _ hs => (step_keeps hs).1⟩

/-- Settles O41: by `exec_keeps`, whatever command is in front. -/
theorem stepsKeepTheJobTable : Obligations.StepsKeepTheJobTable := by
  unfold Obligations.StepsKeepTheJobTable
  exact fun _ _ htable hs => (step_keeps hs).2 htable

/-- Settles O42: at reset the table is empty. -/
theorem resetHasAJobTable : Obligations.ResetHasAJobTable := by
  unfold Obligations.ResetHasAJobTable
  exact jobTable_nil rfl

/-- Settles O43: the fields as `State.reset` gives them. -/
theorem resetValues : Obligations.ResetValues := by
  unfold Obligations.ResetValues
  exact ⟨rfl, rfl, rfl, fun _ => ⟨rfl, rfl⟩, rfl, rfl, rfl, rfl, rfl, rfl, fun _ => ⟨rfl, rfl⟩, rfl, rfl, rfl, rfl, rfl, rfl, rfl, rfl, rfl⟩

end Sys2Proof.Machine

end

section
/-!
SUPPORT. A function used a number of times, and lists.
-/
namespace Sys2Proof.Machine
open Sys2Proof Sys2Proof.Statements

/-! ### A function used a number of times -/

section
variable {α : Type} {f : α → α}

/-- `f` used `n` times. -/
def iter (f : α → α) : Nat → α → α
  | 0, x => x
  | n + 1, x => iter f n (f x)

theorem iter_succ (n : Nat) (x : α) : iter f (n + 1) x = iter f n (f x) := rfl

theorem iter_add (m n : Nat) (x : α) : iter f (m + n) x = iter f m (iter f n x) := by
  induction n generalizing x with
  | zero => rfl
  | succ n ih => exact ih (f x)

theorem iter_injective (hf : Function.Injective f) (n : Nat) : Function.Injective (iter f n) := by
  induction n with
  | zero => exact fun _ _ h => h
  | succ n ih => exact fun _ _ h => hf (ih h)

end

/-! ### Lists -/

section
variable {α : Type} {d : α} {i : Nat}

theorem getD_of_lt {l : List α} (h : i < l.length) : l.getD i d = l[i] := (List.getElem_eq_getD d).symm

theorem getD_of_le {l : List α} (h : l.length ≤ i) : l.getD i d = d := by
  rw [List.getD_eq_getElem?_getD, List.getElem?_eq_none h, Option.getD_none]

theorem takeWhile_of_all {p : α → Bool} {l : List α} (h : ∀ x ∈ l, p x = true) : l.takeWhile p = l := by
  induction l with
  | nil => rfl
  | cons x l ih => rw [List.takeWhile_cons, if_pos (h x List.mem_cons_self), ih fun y hy => h y (List.mem_cons_of_mem x hy)]

theorem getD_append_of_lt {l m : List α} (h : i < l.length) : (l ++ m).getD i d = l.getD i d := by
  rw [List.getD_eq_getElem?_getD, List.getD_eq_getElem?_getD, List.getElem?_append_left h]

theorem getD_append_add (l m : List α) : (l ++ m).getD (l.length + i) d = m.getD i d := by
  rw [List.getD_eq_getElem?_getD, List.getD_eq_getElem?_getD, List.getElem?_append_right (Nat.le_add_right ..), Nat.add_sub_cancel_left]

end

end Sys2Proof.Machine

end

section
/-!
SUPPORT. Instructions of the cores that change registers alone: the values they compute, and how one issues.
-/
namespace Sys2Proof.Machine
open Sys2Proof Sys2Proof.Statements

/-! ### Values -/

theorem zx_eq {w : Nat} (v : BitVec w) : zx v = BitVec.ofNat 64 v.toNat := (BitVec.ofNat_toNat 64 v).symm

theorem sx_eq {w : Nat} (v : BitVec w) : sx v = BitVec.ofInt 64 v.toInt := rfl

theorem add_sx {w : Nat} (a : BitVec 64) (v : BitVec w) : a + sx v = BitVec.ofInt 64 (a.toInt + v.toInt) := by
  rw [sx_eq, BitVec.ofInt_add, BitVec.ofInt_toInt]

theorem mul_eq_ofNat (a b : BitVec 64) : a * b = BitVec.ofNat 64 (a.toNat * b.toNat) := rfl

theorem min_of_slt (a b : BitVec 64) : (if a.slt b then a else b) = BitVec.ofInt 64 (min a.toInt b.toInt) := by
  simp only [BitVec.slt_iff_toInt_lt]
  split
  · next h => rw [Int.min_eq_left (Int.le_of_lt h), BitVec.ofInt_toInt]
  · next h => rw [Int.min_eq_right (Int.not_lt.mp h), BitVec.ofInt_toInt]

theorem max_of_slt (a b : BitVec 64) : (if a.slt b then b else a) = BitVec.ofInt 64 (max a.toInt b.toInt) := by
  simp only [BitVec.slt_iff_toInt_lt]
  split
  · next h => rw [Int.max_eq_right (Int.le_of_lt h), BitVec.ofInt_toInt]
  · next h => rw [Int.max_eq_left (Int.not_lt.mp h), BitVec.ofInt_toInt]

theorem min_of_ult (a b : BitVec 64) : (if a.ult b then a else b) = BitVec.ofNat 64 (min a.toNat b.toNat) := by
  simp only [BitVec.ult_iff_toNat_lt]
  split
  · next h => rw [Nat.min_eq_left (Nat.le_of_lt h), BitVec.ofNat_toNat, BitVec.setWidth_eq]
  · next h => rw [Nat.min_eq_right (Nat.not_lt.mp h), BitVec.ofNat_toNat, BitVec.setWidth_eq]

theorem max_of_ult (a b : BitVec 64) : (if a.ult b then b else a) = BitVec.ofNat 64 (max a.toNat b.toNat) := by
  simp only [BitVec.ult_iff_toNat_lt]
  split
  · next h => rw [Nat.max_eq_right (Nat.le_of_lt h), BitVec.ofNat_toNat, BitVec.setWidth_eq]
  · next h => rw [Nat.max_eq_left (Nat.not_lt.mp h), BitVec.ofNat_toNat, BitVec.setWidth_eq]

/-- The elements up to the first that fails the test are as many as its position. -/
theorem length_takeWhile_range {p : Nat → Bool} {n k : Nat} (hk : k ≤ n) (hp : ∀ i < k, p i = true) (hstop : k < n → p k = false) :
    ((List.range n).takeWhile p).length = k := by
  obtain ⟨m, rfl⟩ := Nat.exists_eq_add_of_le hk
  rw [List.range_add, List.takeWhile_append_of_pos (by simpa using hp)]
  cases m with
  | zero => simp
  | succ m => simp [List.range_succ_eq_map, hstop (by omega)]

theorem leadingZeros_eq (a : BitVec 64) : leadingZeros a = if a = 0 then 64 else 63 - a.toNat.log2 := by
  unfold leadingZeros
  split
  · next h => exact length_takeWhile_range (Nat.le_refl _) (fun i _ => by simp [h]) (fun h => absurd h (Nat.lt_irrefl _))
  · next h =>
    have hne : a.toNat ≠ 0 := fun h0 => h (BitVec.eq_of_toNat_eq h0)
    have hlog : a.toNat.log2 < 64 := (Nat.log2_lt hne).mpr a.isLt
    refine length_takeWhile_range (by omega) (fun i hi => ?_) (fun _ => ?_)
    · have hlt : a.toNat < 2 ^ (63 - i) := (Nat.log2_lt hne).mp (by omega)
      simp [BitVec.getLsbD, Nat.testBit_lt_two_pow hlt]
    · rw [show 63 - (63 - a.toNat.log2) = a.toNat.log2 by omega]
      simp [BitVec.getLsbD, Nat.testBit_log2 hne]

theorem decide_slt (a b : BitVec 64) : a.slt b = decide (a.toInt < b.toInt) := rfl

theorem not_slt (a b : BitVec 64) : (!a.slt b) = decide (b.toInt ≤ a.toInt) := by
  rw [decide_slt, ← decide_not, decide_eq_decide]
  omega

theorem decide_ult (a b : BitVec 64) : a.ult b = decide (a.toNat < b.toNat) := rfl

theorem not_ult (a b : BitVec 64) : (!a.ult b) = decide (b.toNat ≤ a.toNat) := by
  rw [decide_ult, ← decide_not, decide_eq_decide]
  omega

theorem toInt_sx {w : Nat} (v : BitVec w) (hw : w ≤ 64) : (sx v).toInt = v.toInt := BitVec.toInt_signExtend_of_le hw

/-! ### Instructions that issue -/

section
variable {x : Issue} {i : Instr} {m : String} {ops : List Int} {s s0 t : State} {r : Res}

/-- What a command for an instruction answers where the row at the pc spells it. -/
theorem issued_of_fetched (hi : spellingOf i = some (m, ops)) (he : exec i s0 = fetched m ops x s0 r) (hr : r = .next t) : Issued i x s0 t := by
  intro hs
  rw [he, fetched_eq hi, if_pos hs, hr]

/-- Its general register takes what `f` makes of the registers. -/
theorem issued_gives {rd l f v} (h : TakesEffect (atIssue x s0) x {} []) (hi : spellingOf i = some (m, ops)) (he : exec i s0 = fetched m ops x s0 (issueG x rd l f s0))
    (hv : f (regsOf x (atIssue x s0)) = v) : Issued i x s0 (gives x rd l v (atIssue x s0)) :=
  issued_of_fetched hi he (issueG_eq h hv)

/-- Its predicate takes what `f` makes of the registers. -/
theorem issued_givesP {pd f v} (h : TakesEffect (atIssue x s0) x {} []) (hi : spellingOf i = some (m, ops)) (he : exec i s0 = fetched m ops x s0 (issueP x pd f s0))
    (hv : f (regsOf x (atIssue x s0)) = v) : Issued i x s0 (givesP x pd v (atIssue x s0)) :=
  issued_of_fetched hi he (issueP_eq h hv)

theorem needs_of_true {b : Bool} {c : CoreCause} (hb : b = true) : needs b c = [] := by
  rw [hb]
  rfl

/-- It changes registers alone, where its operands allow it. -/
theorem issued_afterRegs {causes f g} (h : TakesEffect (atIssue x s0) x {} []) (hi : spellingOf i = some (m, ops))
    (he : exec i s0 = fetched m ops x s0 (issue x {} causes (fun _ => false) (modRegs x.core f) none s0)) (hc : causes (atIssue x s0) = [])
    (hf : f (regsOf x (atIssue x s0)) = g (regsOf x (atIssue x s0))) : Issued i x s0 (afterRegs x g (atIssue x s0)) :=
  issued_of_fetched hi he ((issue_none (hc ▸ h) rfl).trans (congrArg _ (afterRegs_congr hf)))

theorem shortFormsWriteTheirResult : ShortFormsWriteTheirResult := by
  unfold ShortFormsWriteTheirResult
  intro s0 x rd rs h
  exact ⟨issued_gives h rfl rfl rfl, issued_gives h rfl rfl rfl, issued_gives h rfl rfl rfl, issued_gives h rfl rfl rfl, issued_gives h rfl rfl rfl,
    issued_gives h rfl rfl rfl, issued_gives h rfl rfl rfl, issued_gives h rfl rfl rfl, issued_gives h rfl rfl rfl, issued_gives h rfl rfl rfl,
    issued_of_fetched rfl rfl (issueRegs_eq h), issued_of_fetched rfl rfl (issueRegs_eq h)⟩

theorem registerFormsWriteTheirResult : RegisterFormsWriteTheirResult := by
  unfold RegisterFormsWriteTheirResult
  intro s0 x rd rs1 rs2 h
  exact ⟨issued_gives h rfl rfl rfl, issued_gives h rfl rfl rfl, issued_gives h rfl rfl rfl, issued_gives h rfl rfl rfl, issued_gives h rfl rfl rfl,
    issued_gives h rfl rfl rfl, issued_gives h rfl rfl rfl, issued_gives h rfl rfl rfl, issued_gives h rfl rfl rfl, issued_gives h rfl rfl rfl,
    issued_gives h rfl rfl rfl, issued_gives h rfl rfl (min_of_slt _ _), issued_gives h rfl rfl (max_of_slt _ _), issued_gives h rfl rfl (min_of_ult _ _),
    issued_gives h rfl rfl (max_of_ult _ _), issued_gives h rfl rfl (congrArg _ (leadingZeros_eq _)), issued_gives h rfl rfl rfl, issued_gives h rfl rfl rfl,
    issued_gives h rfl rfl (mul_eq_ofNat _ _), issued_gives h rfl rfl rfl, issued_gives h rfl rfl rfl, issued_gives h rfl rfl (congrArg _ (mul_eq_ofNat _ _))⟩

theorem immediateFormsWriteTheirResult : ImmediateFormsWriteTheirResult := by
  unfold ImmediateFormsWriteTheirResult
  intro s0 x rd rs1 i5 i10 i20 i25 h
  refine ⟨issued_gives h rfl rfl (add_sx _ _), issued_gives h rfl rfl (congrArg _ (zx_eq _)), issued_gives h rfl rfl (congrArg _ (zx_eq _)),
    issued_gives h rfl rfl (congrArg _ (zx_eq _)), issued_gives h rfl rfl rfl, issued_gives h rfl rfl rfl, issued_gives h rfl rfl rfl, issued_gives h rfl rfl rfl,
    issued_gives h rfl rfl (sx_eq _), issued_gives h rfl rfl (add_sx _ _), issued_gives h rfl rfl (congrArg _ (zx_eq _)), issued_gives h rfl rfl (congrArg _ (zx_eq _)),
    issued_gives h rfl rfl (congrArg _ (zx_eq _)), fun hi => ?_, issued_gives h rfl rfl (sx_eq _), issued_gives h rfl rfl (congrArg _ (zx_eq _))⟩
  have hn := needs_of_true (c := cause 6) (decide_eq_true hi)
  exact ⟨issued_afterRegs h rfl rfl hn rfl, issued_afterRegs h rfl rfl hn rfl, issued_afterRegs h rfl rfl hn rfl, issued_afterRegs h rfl rfl hn rfl⟩

theorem comparesAndPredicateLogic : ComparesAndPredicateLogic := by
  unfold ComparesAndPredicateLogic
  intro s0 x pd ps1 ps2 rs1 rs2 i20 h
  have hi : (sx i20).toInt = i20.toInt := toInt_sx i20 (by omega)
  refine ⟨issued_givesP h rfl rfl rfl, issued_givesP h rfl rfl rfl, issued_givesP h rfl rfl (decide_slt _ _), issued_givesP h rfl rfl (not_slt _ _),
    issued_givesP h rfl rfl (decide_ult _ _), issued_givesP h rfl rfl (not_ult _ _), issued_givesP h rfl rfl rfl, issued_givesP h rfl rfl rfl,
    issued_givesP h rfl rfl ?_, issued_givesP h rfl rfl ?_, issued_givesP h rfl rfl (decide_ult _ _), issued_givesP h rfl rfl (not_ult _ _), fun h1 h2 => ?_⟩
  · rw [decide_slt, hi]
  · rw [not_slt, hi]
  · have hn : needs (!pFailed (regsOf x (atIssue x s0)) ps1 && !pFailed (regsOf x (atIssue x s0)) ps2) (cause 9) = [] := needs_of_true (by rw [h1, h2]; rfl)
    exact ⟨issued_afterRegs h rfl rfl hn rfl, issued_afterRegs h rfl rfl hn rfl, issued_afterRegs h rfl rfl hn rfl, issued_afterRegs h rfl rfl hn rfl⟩

theorem specialRegisterMoves : SpecialRegisterMoves := by
  unfold SpecialRegisterMoves
  intro s0 x rd rs code h
  refine ⟨fun w hw => ?_, rfl, rfl, rfl, rfl, issued_afterRegs h rfl rfl rfl rfl, issued_afterRegs h rfl rfl rfl rfl, issued_afterRegs h rfl rfl rfl rfl,
    issued_afterRegs h rfl rfl rfl rfl, issued_afterRegs h rfl rfl rfl rfl, issued_afterRegs h rfl rfl rfl rfl⟩
  have hn : needs (specialReg (atIssue x s0) x.core code.toNat).isSome (cause 6) = [] := needs_of_true (by rw [hw]; rfl)
  refine issued_of_fetched rfl rfl ((issue_none (hn.symm ▸ h) rfl).trans ?_)
  rw [hw]
  rfl

end
end Sys2Proof.Machine

end

section
/-!
SUPPORT. What program rows spell. O44, O45.
-/
namespace Sys2Proof.Machine
open Sys2Proof Sys2Proof.Statements

/-! ### What rows spell -/

theorem decodePayload_movS (rd rs : BitVec 3) : decodePayload 1 (rd.toNat * 8 + rs.toNat) = some ("MOV_S", [(rd.toNat : Int), rs.toNat]) := by
  have h1 := rd.isLt
  have h2 := rs.isLt
  have ha : bits 7 6 (rd.toNat * 8 + rs.toNat) = 0 := by unfold bits; omega
  have hb : bits 5 3 (rd.toNat * 8 + rs.toNat) = rd.toNat := by unfold bits; omega
  have hc : bits 2 0 (rd.toNat * 8 + rs.toNat) = rs.toNat := by unfold bits; omega
  simp only [decodePayload, decodeShort, field, ha, hb, hc]

theorem decodePayload_mac (rd a b : BitVec 5) :
    decodePayload 2 (0x1B * 2 ^ 15 + rd.toNat * 2 ^ 10 + a.toNat * 2 ^ 5 + b.toNat) = some ("MAC", [(rd.toNat : Int), a.toNat, b.toNat]) := by
  have h1 := rd.isLt
  have h2 := a.isLt
  have h3 := b.isLt
  generalize hp : 0x1B * 2 ^ 15 + rd.toNat * 2 ^ 10 + a.toNat * 2 ^ 5 + b.toNat = p
  have hop : bits 21 15 p = 0x1B := by unfold bits; omega
  have hrd : bits 14 10 p = rd.toNat := by unfold bits; omega
  have ha : bits 9 5 p = a.toNat := by unfold bits; omega
  have hb : bits 4 0 p = b.toNat := by unfold bits; omega
  simp only [decodePayload, hop, decodeRegisters, field, hrd, ha, hb]
  rfl

theorem decodePayload_ldD (rd rb : BitVec 5) (cap : BitVec 3) (k : BitVec 2) :
    decodePayload 2 (0x43 * 2 ^ 15 + rd.toNat * 2 ^ 10 + rb.toNat * 2 ^ 5 + cap.toNat * 2 ^ 2 + k.toNat)
      = some ("LD_D", [(rd.toNat : Int), rb.toNat, cap.toNat, 8 * k.toNat]) := by
  have h1 := rd.isLt
  have h2 := rb.isLt
  have h3 := cap.isLt
  have h4 := k.isLt
  generalize hp : 0x43 * 2 ^ 15 + rd.toNat * 2 ^ 10 + rb.toNat * 2 ^ 5 + cap.toNat * 2 ^ 2 + k.toNat = p
  have hop : bits 21 15 p = 0x43 := by unfold bits; omega
  have hrd : bits 14 10 p = rd.toNat := by unfold bits; omega
  have hrb : bits 9 5 p = rb.toNat := by unfold bits; omega
  have hcap : bits 4 2 p = cap.toNat := by unfold bits; omega
  have hk : bits 1 0 p = k.toNat := by unfold bits; omega
  simp only [decodePayload, hop, decodeControl, field, hrd, hrb, hcap, hk]
  rfl

theorem signedField_toInt {d : BitVec 30} {p : Nat} (h : bits 29 0 p = d.toNat) : signedField 29 0 p = d.toInt := by
  simp only [signedField, h, BitVec.toInt_eq_toNat_cond]
  split <;> split <;> omega

theorem decodePayload_b (d : BitVec 30) : decodePayload 3 (0x30 * 2 ^ 30 + d.toNat) = some ("B", [d.toInt]) := by
  have h1 := d.isLt
  generalize hp : 0x30 * 2 ^ 30 + d.toNat = p
  have hop : bits 35 30 p = 0x30 := by unfold bits; omega
  have hd : bits 29 0 p = d.toNat := by unfold bits; omega
  simp only [decodePayload, hop, decodeWideMemory, signedField_toInt hd]
  rfl

theorem decodePayload_li3 (rd : BitVec 5) (i : BitVec 25) : decodePayload 3 (0x08 * 2 ^ 30 + rd.toNat * 2 ^ 25 + i.toNat) = some ("LI3", [(rd.toNat : Int), i.toNat]) := by
  have h1 := rd.isLt
  have h2 := i.isLt
  generalize hp : 0x08 * 2 ^ 30 + rd.toNat * 2 ^ 25 + i.toNat = p
  have hop : bits 35 30 p = 8 := by unfold bits; omega
  have hrd : bits 29 25 p = rd.toNat := by unfold bits; omega
  have hi : bits 24 0 p = i.toNat := by unfold bits; omega
  simp only [decodePayload, hop, decodeWideRegisters, field, hrd, hi]
  rfl

section
variable (s : State) (n row : Nat) (code : Bytes)

theorem coreAt_writeRow : coreAt (writeRow n row code s) n
    = { coreAt s n with program := mput row { code := fit 28 code, rowSeal := sealOfRow s n row (fit 28 code) } (coreAt s n).program } :=
  (coreAt_modCore ..).trans (if_pos rfl)

/-- The row that the sealing port writes. -/
theorem program_writeRow : mfind row (coreAt (writeRow n row code s) n).program = some { code := fit 28 code, rowSeal := sealOfRow s n row (fit 28 code) } := by
  rw [coreAt_writeRow, mfind_mput, if_pos rfl]

theorem sealFails_writeRow : sealFails (writeRow n row code s) n row = false := by
  unfold sealFails
  rw [program_writeRow]
  simp [sealOfRow, coreSealKey, coreAt_writeRow]

theorem syllableAt_writeRow {i : Nat} (hi : i < 16) :
    syllableAt (writeRow n row code s) n (16 * row + i) = some (bits 13 0 (leNat (fit 28 code) / 2 ^ (14 * i))) := by
  unfold syllableAt
  rw [show (16 * row + i) / 16 = row by omega, show (16 * row + i) % 16 = i by omega, program_writeRow]
  rfl
end

theorem rowsSpellInstructions : RowsSpellInstructions := by
  unfold RowsSpellInstructions
  refine ⟨decodePayload_movS, rfl, decodePayload_mac, decodePayload_ldD, decodePayload_b, decodePayload_li3,
    fun s n row code => ⟨sealFails_writeRow s n row code, fun i => syllableAt_writeRow s n row code⟩, fun s x rd rs1 rs2 hs => ?_⟩
  exact (fetched_eq rfl).trans (if_neg (by rw [hs]; exact Bool.false_ne_true))

/-- Settles O44: what rows spell by the fields of a payload, and each operation by what an instruction that takes effect does. -/
theorem arithmeticFormsWriteTheirResult : Obligations.ArithmeticFormsWriteTheirResult := by
  unfold Obligations.ArithmeticFormsWriteTheirResult
  exact ⟨rowsSpellInstructions, shortFormsWriteTheirResult, registerFormsWriteTheirResult, immediateFormsWriteTheirResult⟩

/-- Settles O45: by what an instruction that takes effect does. -/
theorem predicatesAndSpecialRegisters : Obligations.PredicatesAndSpecialRegisters := by
  unfold Obligations.PredicatesAndSpecialRegisters
  exact ⟨comparesAndPredicateLogic, specialRegisterMoves⟩

end Sys2Proof.Machine

end

section
/-!
SUPPORT. Delayed writes and memory. O1, O2.
-/
namespace Sys2Proof.Machine
open Sys2Proof Sys2Proof.Statements

/-! ### Delayed writes -/

section
variable {r : CoreRegs} {w : PendWrite}

/-- The registers with one write under way. -/
def waitingFor (w : PendWrite) (r : CoreRegs) : CoreRegs := { r with pending := [w] }

theorem writeG_eq_waitingFor (h : r.pending = []) (rd : BitVec 5) (v : BitVec 64) (l : Nat) :
    writeG rd v l r = waitingFor { dest := rd.toNat, value := v.setWidth 128, tag := false, left := l + 1 } r := by
  simp only [writeG, later, waitingFor, h, List.nil_append]

/-- A write that has more than one tick to go comes one nearer. -/
theorem tick_waiting {k : Nat} : tick (waitingFor { w with left := k + 2 } r) = waitingFor { w with left := k + 1 } r := by
  simp [tick, waitingFor]

/-- The last tick makes the write. -/
theorem tick_last : tick (waitingFor { w with left := 1 } r) = putReg w.dest w.value w.tag { r with pending := [] } := by
  simp [tick, waitingFor]

theorem tick_of_none (h : r.pending = []) : tick r = r := by
  obtain ⟨g, p, pfail, c, loops, st, pc, pending, delay, shadow, returned, links⟩ := r
  cases h
  rfl

theorem repeat_tick_waiting {k n : Nat} (h : n ≤ k) : Nat.repeat tick n (waitingFor { w with left := k + 1 } r) = waitingFor { w with left := k - n + 1 } r := by
  induction n with
  | zero => rfl
  | succ n ih =>
    rw [Nat.repeat, ih (by omega), show k - n = k - (n + 1) + 1 by omega, tick_waiting]

theorem repeat_tick_of_none (h : r.pending = []) (n : Nat) : Nat.repeat tick n r = r := by
  induction n with
  | zero => rfl
  | succ n ih => rw [Nat.repeat, ih, tick_of_none h]

theorem repeat_tick_made {k n : Nat} (hr : r.pending = []) (h : k < n) :
    Nat.repeat tick n (waitingFor { w with left := k + 1 } r) = putReg w.dest w.value w.tag r := by
  have hput : (putReg w.dest w.value w.tag r).pending = [] := by
    unfold putReg
    split
    · exact hr
    · split
      · exact hr
      · split <;> exact hr
  induction n with
  | zero => omega
  | succ n ih =>
    rw [Nat.repeat]
    by_cases hn : k < n
    · rw [ih hn, tick_of_none hput]
    · obtain rfl : k = n := by omega
      rw [repeat_tick_waiting (Nat.le_refl k), Nat.sub_self, tick_last, ← hr]

theorem gRead_putReg (rd : BitVec 5) (v : BitVec 64) (r : CoreRegs) : gRead (putReg rd.toNat (v.setWidth 128) false r) rd = if rd = 0 then 0 else v := by
  unfold gRead
  split
  · rfl
  · next h =>
    have hne : rd.toNat ≠ 0 := fun h0 => h (BitVec.eq_of_toNat_eq h0)
    have hlt := rd.isLt
    unfold putReg
    rw [if_neg (by omega), if_pos (by omega), mget_mset, if_pos rfl, BitVec.setWidth_setWidth_of_le _ (by omega), BitVec.setWidth_eq]

end

/-- Settles O1: the one write under way comes a tick nearer with each instruction, and the last tick makes it. -/
theorem delayedWritesBecomeVisible : Obligations.DelayedWritesBecomeVisible := by
  unfold Obligations.DelayedWritesBecomeVisible
  intro r rd v l n hr
  rw [writeG_eq_waitingFor hr]
  split
  · next hn =>
    rw [repeat_tick_waiting (w := { dest := rd.toNat, value := v.setWidth 128, tag := false, left := l + 1 }) hn]
    rfl
  · next hn =>
    rw [repeat_tick_made (w := { dest := rd.toNat, value := v.setWidth 128, tag := false, left := l + 1 }) hr (by omega)]
    exact gRead_putReg rd v r

/-! ### Memory -/

theorem memByte_clearRowAt (n a m b : Nat) (s : State) : memByte (clearRowAt n a s) m b = memByte s m b := by
  unfold clearRowAt
  split <;> rfl

theorem memTag_clearRowAt (n a m b : Nat) (s : State) : memTag (clearRowAt n a s) m b = memTag s m b := by
  unfold clearRowAt
  split <;> rfl

theorem memTag_memPut_same (n a : Nat) (v : Byte) (s : State) : memTag (memPut n a v s) n a = false := by
  unfold memTag memPut
  cases ha : spaceOf a <;> simp [coreAt_modCore, mget_mset]

theorem memTag_memPut_other {n a b : Nat} {v : Byte} {s : State} (h : memTag s n b = false) : memTag (memPut n a v s) n b = false := by
  have hset : ∀ (m : AMap Bool) (i j : Nat), mget false m j = false → mget false (mset false m i false) j = false := fun m i j hj => by
    rw [mget_mset]
    split
    · rfl
    · exact hj
  unfold memTag at *
  unfold memPut
  cases hb : spaceOf b <;> simp only [hb] at h ⊢
  · split
    · rw [coreAt_modCore, if_pos rfl]
      exact hset _ _ _ h
    all_goals exact h
  · split
    · exact h
    · exact hset _ _ _ h
    all_goals exact h

/-- An address of R521 that holds bytes. -/
def HoldsBytes (a : Nat) : Prop := spaceOf a = .data ∨ spaceOf a = .sram ∨ spaceOf a = .dram

/-- The writes of `bs` from the address `a + k` on. -/
def writesFrom (n a k : Nat) (bs : Bytes) (s : State) : State := forAll (bs.zipIdx k) (fun e t => memPut n (a + e.2) e.1 (clearRowAt n (a + e.2) t)) s

theorem memWrite_eq_writesFrom (n a : Nat) (bs : Bytes) (s : State) : memWrite n a bs s = writesFrom n a 0 bs s := rfl

theorem writesFrom_cons (n a k : Nat) (b : Byte) (bs : Bytes) (s : State) :
    writesFrom n a k (b :: bs) s = writesFrom n a (k + 1) bs (memPut n (a + k) b (clearRowAt n (a + k) s)) := rfl

theorem memByte_writesFrom_other {n a k b : Nat} {bs : Bytes} {s : State} (hbs : ∀ i < bs.length, HoldsBytes (a + k + i)) (hb : b < a + k ∨ a + k + bs.length ≤ b) :
    memByte (writesFrom n a k bs s) n b = memByte s n b := by
  induction bs generalizing k s with
  | nil => rfl
  | cons c bs ih =>
    simp only [List.length_cons] at hbs hb
    rw [writesFrom_cons, ih (fun i hi => by rw [show a + (k + 1) + i = a + k + (i + 1) by omega]; exact hbs _ (by omega)) (by omega),
      memByte_memPut _ (a + k) _ _ _ (hbs 0 (by omega)), if_neg (by omega), memByte_clearRowAt]

theorem memByte_writesFrom_same {n a k i : Nat} {bs : Bytes} {s : State} (hbs : ∀ i < bs.length, HoldsBytes (a + k + i)) (hi : i < bs.length) :
    memByte (writesFrom n a k bs s) n (a + k + i) = bs[i] := by
  induction bs generalizing k i s with
  | nil => exact absurd hi (Nat.not_lt_zero i)
  | cons c bs ih =>
    have hrest : ∀ i < bs.length, HoldsBytes (a + (k + 1) + i) := fun i hi => by
      rw [show a + (k + 1) + i = a + k + (i + 1) by omega]
      exact hbs _ (by simpa using hi)
    rw [writesFrom_cons]
    cases i with
    | zero => rw [memByte_writesFrom_other hrest (by omega), Nat.add_zero, memByte_memPut _ (a + k) _ _ _ (hbs 0 hi), if_pos rfl, List.getElem_cons_zero]
    | succ i => rw [show a + k + (i + 1) = a + (k + 1) + i by omega, ih hrest (by simpa using hi), List.getElem_cons_succ]

theorem memTag_writesFrom_of_false {n a k b : Nat} {bs : Bytes} {s : State} (h : memTag s n b = false) : memTag (writesFrom n a k bs s) n b = false := by
  induction bs generalizing k s with
  | nil => exact h
  | cons c bs ih => exact ih (memTag_memPut_other ((memTag_clearRowAt ..).trans h))

theorem memTag_writesFrom_same {n a k i : Nat} {bs : Bytes} {s : State} (hi : i < bs.length) : memTag (writesFrom n a k bs s) n (a + k + i) = false := by
  induction bs generalizing k i s with
  | nil => exact absurd hi (Nat.not_lt_zero i)
  | cons c bs ih =>
    rw [writesFrom_cons]
    cases i with
    | zero => exact memTag_writesFrom_of_false (memTag_memPut_same ..)
    | succ i =>
      rw [show a + k + (i + 1) = a + (k + 1) + i by omega]
      exact ih (by simpa using hi)

/-- Data memory is a core's own (R521). -/
theorem memByte_memPut_core {n m a b : Nat} {v : Byte} {s : State} (hm : m ≠ n) (hb : spaceOf b = .data) : memByte (memPut n a v s) m b = memByte s m b := by
  unfold memByte memPut
  rw [hb]
  cases spaceOf a <;> simp only [coreAt_modCore, if_neg hm] <;> rfl

theorem memByte_writesFrom_core {n m a k b : Nat} {bs : Bytes} {s : State} (hm : m ≠ n) (hb : spaceOf b = .data) :
    memByte (writesFrom n a k bs s) m b = memByte s m b := by
  induction bs generalizing k s with
  | nil => rfl
  | cons c bs ih => rw [writesFrom_cons, ih, memByte_memPut_core hm hb, memByte_clearRowAt]

/-- Settles O2: a write puts its bytes one after another. -/
theorem memoryReadsWhatWasWritten : Obligations.MemoryReadsWhatWasWritten := by
  unfold Obligations.MemoryReadsWhatWasWritten
  intro s n a bs hbs
  rw [memWrite_eq_writesFrom]
  refine ⟨List.ext_getElem (by simp [memRead]) fun i hi hi' => ?_, fun b hb => memByte_writesFrom_other hbs hb, fun i hi => memTag_writesFrom_same hi,
    fun m hm b hb => memByte_writesFrom_core hm hb⟩
  simp only [memRead, List.getElem_map, List.getElem_range]
  exact memByte_writesFrom_same hbs hi'

end Sys2Proof.Machine

end

section
/-!
SUPPORT. The row code: bytes as a field, codewords, and what the decoder makes of one error. O37.
-/
namespace Sys2Proof.Machine
open Sys2Proof Sys2Proof.Statements

/-! ### Maps of bytes that respect XOR -/

/-- The map respects XOR: it is linear over the field of two elements. -/
def XorMap (L : Byte → Byte) : Prop := ∀ x y, L (x ^^^ y) = L x ^^^ L y

section
variable {L M : Byte → Byte}

theorem XorMap.zero (h : XorMap L) : L 0 = 0 := by
  have h0 := h 0 0
  rwa [BitVec.xor_self, BitVec.xor_self] at h0

theorem XorMap.comp (h : XorMap L) (g : XorMap M) : XorMap (fun x => L (M x)) := fun x y => (congrArg L (g x y)).trans (h _ _)

theorem XorMap.iterate (h : XorMap L) (n : Nat) : XorMap (iter L n) := by
  induction n with
  | zero => exact fun _ _ => rfl
  | succ n ih => exact fun x y => by rw [iter_succ, h, ih, ← iter_succ, ← iter_succ]

/-- The bits of a byte at the places of `l`, put together. -/
def bitsAt (l : List Nat) (e : Byte) : Byte := l.foldr (fun i r => r ^^^ if e.getLsbD i then 1#8 <<< i else 0) 0

theorem bitsAt_range : ∀ e : Byte, bitsAt (List.range 8) e = e := by decide +kernel

theorem XorMap.bitsAt_eq (h : XorMap L) (g : XorMap M) {l : List Nat} (hb : ∀ i ∈ l, L (1#8 <<< i) = M (1#8 <<< i)) (e : Byte) :
    L (bitsAt l e) = M (bitsAt l e) := by
  induction l with
  | nil => exact h.zero.trans g.zero.symm
  | cons i l ih =>
    change L (bitsAt l e ^^^ _) = M (bitsAt l e ^^^ _)
    rw [h, g, ih (fun j hj => hb j (List.mem_cons_of_mem _ hj))]
    split
    · rw [hb i List.mem_cons_self]
    · rw [h.zero, g.zero]

/-- Two such maps are the same where they agree on the eight single bits. -/
theorem XorMap.eq_of_bits (h : XorMap L) (g : XorMap M) (hb : ∀ i ∈ List.range 8, L (1#8 <<< i) = M (1#8 <<< i)) (e : Byte) : L e = M e := by
  rw [← bitsAt_range e]
  exact h.bitsAt_eq g hb e

end

/-! ### The field, by the powers of its element α: `iter gfTwice k` multiplies by α to the power k (R18) -/

theorem ite_xor (a b : Bool) (x : Byte) : (if (a ^^ b) = true then x else 0) = (if a then x else 0) ^^^ (if b then x else 0) := by
  cases a <;> cases b <;> simp

theorem ite_xor_right (a : Bool) (x y : Byte) : (if a then x ^^^ y else 0) = (if a then x else 0) ^^^ (if a then y else 0) := by
  cases a <;> simp

theorem xor_xor_xor_comm (a b c d : Byte) : a ^^^ b ^^^ (c ^^^ d) = a ^^^ c ^^^ (b ^^^ d) := by ac_rfl

theorem gfTwice_eq (a : Byte) : gfTwice a = (a <<< 1) ^^^ (if a.getLsbD 7 then 0x1D else 0) := by
  unfold gfTwice
  split <;> simp

theorem gfTwice_xorMap : XorMap gfTwice := fun a b => by
  rw [gfTwice_eq, gfTwice_eq, gfTwice_eq, BitVec.getLsbD_xor, BitVec.shiftLeft_xor_distrib, ite_xor, xor_xor_xor_comm]

/-- A product, by the bits of its first factor at the places of `l`. -/
def timesAt (l : List Nat) (a b : Byte) : Byte := l.foldr (fun i r => gfTwice r ^^^ (if a.getLsbD i then b else 0)) 0

theorem timesAt_xorMap (l : List Nat) (a : Byte) : XorMap (timesAt l a) := fun x y => by
  induction l with
  | nil => exact (BitVec.xor_self (x := (0 : Byte))).symm
  | cons i l ih =>
    change gfTwice (timesAt l a (x ^^^ y)) ^^^ _ = (gfTwice (timesAt l a x) ^^^ _) ^^^ (gfTwice (timesAt l a y) ^^^ _)
    rw [ih, gfTwice_xorMap, ite_xor_right, xor_xor_xor_comm]

theorem timesAt_xorMap_left (l : List Nat) (b : Byte) : XorMap (fun a => timesAt l a b) := fun x y => by
  change timesAt l (x ^^^ y) b = timesAt l x b ^^^ timesAt l y b
  induction l with
  | nil => exact (BitVec.xor_self (x := (0 : Byte))).symm
  | cons i l ih =>
    change gfTwice (timesAt l (x ^^^ y) b) ^^^ _ = (gfTwice (timesAt l x b) ^^^ _) ^^^ (gfTwice (timesAt l y b) ^^^ _)
    rw [ih, gfTwice_xorMap, BitVec.getLsbD_xor, ite_xor, xor_xor_xor_comm]

theorem gfTimes_xorMap (a : Byte) : XorMap (gfTimes a) := timesAt_xorMap (List.range 8) a

theorem gfTimes_xorMap_left (b : Byte) : XorMap (fun a => gfTimes a b) := timesAt_xorMap_left (List.range 8) b

theorem gfTimes_alpha {k : Nat} (hk : k < 41) (b : Byte) : gfTimes (gfAlpha k) b = iter gfTwice k b := by
  have hbits : ∀ k < 41, ∀ i ∈ List.range 8, gfTimes (gfAlpha k) (1#8 <<< i) = iter gfTwice k (1#8 <<< i) := by decide +kernel
  exact (gfTimes_xorMap _).eq_of_bits (gfTwice_xorMap.iterate k) (hbits k hk) b

/-- Multiplication by α, of bytes as numbers. -/
def natTwice (n : Nat) : Nat := if n < 128 then 2 * n else (2 * n) ^^^ 285

theorem toNat_gfTwice : ∀ e : Byte, (gfTwice e).toNat = natTwice e.toNat := by decide +kernel

theorem toNat_iterate_gfTwice (k : Nat) (e : Byte) : (iter gfTwice k e).toNat = iter natTwice k e.toNat := by
  induction k generalizing e with
  | zero => rfl
  | succ k ih => rw [iter_succ, ih, toNat_gfTwice, ← iter_succ]

/-- The first forty multiples of a byte by powers of α are other bytes. -/
theorem iterate_gfTwice_ne {e : Byte} (he : e ≠ 0) {d : Nat} (hd : d < 40) : iter gfTwice (d + 1) e ≠ e := by
  have hne : ∀ n < 256, n ≠ 0 → ∀ d < 40, iter natTwice (d + 1) n ≠ n := by decide +kernel
  intro h
  exact hne e.toNat e.isLt (fun h0 => he (BitVec.eq_of_toNat_eq h0)) d hd (by rw [← toNat_iterate_gfTwice, h])

theorem gfTwice_injective : Function.Injective gfTwice := by
  have hker : ∀ x : Byte, gfTwice x = 0 → x = 0 := by decide +kernel
  intro x y h
  rw [← BitVec.xor_eq_zero_iff]
  exact hker _ (by rw [gfTwice_xorMap, h, BitVec.xor_self]; rfl)

/-- Powers of α below 41 are told apart by what they make of any byte but 0. -/
theorem iterate_gfTwice_lt {e : Byte} (he : e ≠ 0) {i k : Nat} (hi : i < k) (hk : k < 41) : iter gfTwice i e ≠ iter gfTwice k e := by
  obtain ⟨d, rfl⟩ : ∃ d, k = i + (d + 1) := ⟨k - i - 1, by omega⟩
  rw [iter_add]
  exact fun h => iterate_gfTwice_ne he (d := d) (by omega) (iter_injective gfTwice_injective i h).symm

/-! ### One erroneous byte -/

/-- The word with the byte e added at the place k. -/
def flipAt (k : Nat) (e : Byte) (w : List Byte) : List Byte := w.set k (w.getD k 0 ^^^ e)

section
variable {k : Nat} {e : Byte} {u v w : List Byte}

theorem flipAt_cons_zero (c : Byte) : flipAt 0 e (c :: w) = (c ^^^ e) :: w := rfl

theorem flipAt_cons_succ (c : Byte) : flipAt (k + 1) e (c :: w) = c :: flipAt k e w := rfl

@[simp] theorem length_flipAt : (flipAt k e w).length = w.length := by simp [flipAt]

theorem getElem_flipAt {i : Nat} (hi : i < w.length) : (flipAt k e w)[i]'(by simpa) = if k = i then w[i] ^^^ e else w[i] := by
  simp only [flipAt, List.getElem_set]
  split
  · next h => rw [h, getD_of_lt hi]
  · rfl

theorem flipAt_append_left (h : k < u.length) : flipAt k e (u ++ v) = flipAt k e u ++ v := by
  rw [flipAt, flipAt, List.set_append_left _ _ h, getD_append_of_lt h]

theorem flipAt_append_right : flipAt (u.length + k) e (u ++ v) = u ++ flipAt k e v := by
  rw [flipAt, flipAt, List.set_append_right _ _ (by omega), getD_append_add, Nat.add_sub_cancel_left]

theorem flipAt_flipAt : flipAt k e (flipAt k e w) = w := by
  refine List.ext_getElem (by simp) fun i hi hi' => ?_
  rw [getElem_flipAt (by simpa using hi'), getElem_flipAt hi']
  split
  · rw [BitVec.xor_assoc, BitVec.xor_self, BitVec.xor_zero]
  · rfl

theorem zipWith_flipAt {m : List Byte} : List.zipWith (· ^^^ ·) (flipAt k e u) m = flipAt k e (List.zipWith (· ^^^ ·) u m) := by
  refine List.ext_getElem (by simp) fun i hi hi' => ?_
  simp only [length_flipAt, List.length_zipWith, Nat.lt_min] at hi hi'
  rw [getElem_flipAt (by simp; omega)]
  simp only [List.getElem_zipWith, getElem_flipAt hi'.1]
  split
  · ac_rfl
  · rfl

end

/-! ### Codewords -/

/-- The value of a polynomial at α to the power j. -/
def valueAt (j : Nat) (w : List Byte) : Byte := w.foldr (fun c r => c ^^^ iter gfTwice j r) 0

theorem valueAt_cons (j : Nat) (c : Byte) (w : List Byte) : valueAt j (c :: w) = c ^^^ iter gfTwice j (valueAt j w) := rfl

theorem polyAt_alpha {j : Nat} (hj : j < 41) (w : List Byte) : polyAt (gfAlpha j) w = valueAt j w := by
  unfold polyAt valueAt
  simp only [gfTimes_alpha hj]

section
variable (j : Nat)

theorem iterate_xor (x y : Byte) : iter gfTwice j (x ^^^ y) = iter gfTwice j x ^^^ iter gfTwice j y := gfTwice_xorMap.iterate j x y

theorem iterate_zero : iter gfTwice j 0 = 0 := (gfTwice_xorMap.iterate j).zero

theorem valueAt_append (u v : List Byte) : valueAt j (u ++ v) = valueAt j u ^^^ iter gfTwice (j * u.length) (valueAt j v) := by
  induction u with
  | nil => exact (BitVec.zero_xor).symm
  | cons c u ih =>
    rw [List.cons_append, valueAt_cons, ih, valueAt_cons, iterate_xor, List.length_cons, Nat.mul_succ, Nat.add_comm, iter_add, BitVec.xor_assoc]

theorem valueAt_zipWith {u v : List Byte} (h : u.length = v.length) : valueAt j (List.zipWith (· ^^^ ·) u v) = valueAt j u ^^^ valueAt j v := by
  induction u generalizing v with
  | nil =>
    obtain rfl := List.length_eq_zero_iff.mp h.symm
    exact (BitVec.xor_self (x := (0 : Byte))).symm
  | cons c u ih =>
    cases v with
    | nil => cases h
    | cons d v => rw [List.zipWith_cons_cons, valueAt_cons, ih (by simpa using h), valueAt_cons, valueAt_cons, iterate_xor, xor_xor_xor_comm]

/-- An error at the place k of a word. -/
theorem valueAt_flipAt {w : List Byte} {k : Nat} (hk : k < w.length) (e : Byte) : valueAt j (flipAt k e w) = valueAt j w ^^^ iter gfTwice (j * k) e := by
  induction w generalizing k with
  | nil => cases hk
  | cons c w ih =>
    cases k with
    | zero =>
      rw [flipAt_cons_zero, valueAt_cons, valueAt_cons, Nat.mul_zero, show iter gfTwice 0 e = e from rfl]
      ac_rfl
    | succ k =>
      rw [flipAt_cons_succ, valueAt_cons, valueAt_cons, ih (by simpa using hk), iterate_xor, ← BitVec.xor_assoc, ← iter_add, Nat.mul_succ,
        Nat.add_comm]

end

/-- At a root of the generator, its lower coefficients have the value of the fourth power of the root. -/
theorem valueAt_generator {j : Nat} (hj : j < 4) (f : Byte) : valueAt j ((rowGenerator.take 4).map (gfTimes f)) = iter gfTwice (4 * j) f := by
  have hmap : ∀ g : List Byte, XorMap (fun f => valueAt j (g.map (gfTimes f))) := by
    intro g
    induction g with
    | nil => exact fun _ _ => (BitVec.xor_self (x := (0 : Byte))).symm
    | cons c g ih =>
      intro x y
      change gfTimes (x ^^^ y) c ^^^ iter gfTwice j (valueAt j (g.map (gfTimes (x ^^^ y)))) = _
      rw [show valueAt j (g.map (gfTimes (x ^^^ y))) = _ from ih x y, show gfTimes (x ^^^ y) c = _ from gfTimes_xorMap_left c x y, iterate_xor, xor_xor_xor_comm]
      rfl
  have hbits : ∀ j < 4, ∀ i ∈ List.range 8, valueAt j ((rowGenerator.take 4).map (gfTimes (1#8 <<< i))) = iter gfTwice (4 * j) (1#8 <<< i) := by decide +kernel
  exact (hmap _).eq_of_bits (gfTwice_xorMap.iterate _) (hbits j hj) f

theorem rowStep_eq (c0 c1 c2 c3 m : Byte) :
    rowStep [c0, c1, c2, c3] m = List.zipWith (· ^^^ ·) [0, c0, c1, c2] ((rowGenerator.take 4).map (gfTimes (c3 ^^^ m))) := by
  simp only [rowStep, List.zipWith_map_right, List.take, List.getD_cons_succ, List.getD_cons_zero]

theorem length_rowStep {c : List Byte} (h : c.length = 4) (m : Byte) : (rowStep c m).length = 4 := by
  have hg : (rowGenerator.take 4).length = 4 := by decide +kernel
  simp [rowStep, hg, h]

theorem valueAt_rowStep {j : Nat} (hj : j < 4) {c : List Byte} (h : c.length = 4) (m : Byte) :
    valueAt j (rowStep c m) = iter gfTwice j (valueAt j c) ^^^ iter gfTwice (4 * j) m := by
  have hg : (rowGenerator.take 4).length = 4 := by decide +kernel
  match c, h with
  | [c0, c1, c2, c3], _ =>
    rw [rowStep_eq, valueAt_zipWith j (by rw [List.length_map, hg]; rfl), valueAt_generator hj, iterate_xor]
    simp only [valueAt_cons, iterate_xor, show valueAt j [] = 0 from rfl, iterate_zero, ← iter_add]
    rw [show 4 * j = j + (j + (j + j)) by omega]
    ac_rfl

theorem length_rowRemainder (m : List Byte) : (rowRemainder m).length = 4 := by
  unfold rowRemainder
  rw [List.foldl_reverse]
  induction m with
  | nil => rfl
  | cons b m ih => exact length_rowStep ih b

theorem rowRemainder_cons (b : Byte) (m : List Byte) : rowRemainder (b :: m) = rowStep (rowRemainder m) b := by
  simp [rowRemainder]

/-- The remainder of a message, which stands below it, has its value at every root of the generator. -/
theorem valueAt_rowRemainder {j : Nat} (hj : j < 4) (m : List Byte) : valueAt j (rowRemainder m) = iter gfTwice (4 * j) (valueAt j m) := by
  induction m with
  | nil =>
    rw [show valueAt j [] = 0 from rfl, iterate_zero, show rowRemainder [] = [0, 0, 0, 0] from rfl]
    have hz : iter gfTwice j 0#8 = 0#8 := iterate_zero j
    simp [valueAt, hz]
  | cons b m ih =>
    rw [rowRemainder_cons, valueAt_rowStep hj (length_rowRemainder m), ih, valueAt_cons, iterate_xor, ← iter_add, ← iter_add,
      Nat.add_comm, BitVec.xor_comm]

theorem valueAt_codeword {j : Nat} (hj : j < 4) (m : List Byte) : valueAt j (rowRemainder m ++ m) = 0 := by
  rw [valueAt_append, length_rowRemainder, valueAt_rowRemainder hj, Nat.mul_comm, BitVec.xor_self]
  rfl

/-- One error in a word that was stored has its syndromes. -/
theorem valueAt_codeword_flipAt {j k : Nat} {e : Byte} {m : List Byte} (hj : j < 4) (hk : k < 4 + m.length) :
    valueAt j (flipAt k e (rowRemainder m ++ m)) = iter gfTwice (j * k) e := by
  rw [valueAt_flipAt j (by rw [List.length_append, length_rowRemainder]; exact hk), valueAt_codeword hj]
  exact BitVec.zero_xor

/-! ### The decoder -/

theorem rowSyndromes_eq (w : List Byte) : rowSyndromes w = [valueAt 0 w, valueAt 1 w, valueAt 2 w, valueAt 3 w] := by
  simp only [rowSyndromes, List.map_cons, List.map_nil, polyAt_alpha (show 0 < 41 by omega), polyAt_alpha (show 1 < 41 by omega), polyAt_alpha (show 2 < 41 by omega),
    polyAt_alpha (show 3 < 41 by omega)]

/-- The syndromes of an error e at the place k. -/
def errorSyndromes (k : Nat) (e : Byte) : List Byte := [e, iter gfTwice k e, iter gfTwice (2 * k) e, iter gfTwice (3 * k) e]

theorem errorPlace_errorSyndromes {k : Nat} {e : Byte} (hk : k < 41) (he : e ≠ 0) : errorPlace (errorSyndromes k e) = some k := by
  unfold errorPlace
  rw [List.find?_range_eq_some]
  refine ⟨?_, List.mem_range.mpr hk, fun i hi => ?_⟩
  · simp only [errorSyndromes, List.all_cons, List.all_nil, List.getD_cons_zero, List.getD_cons_succ, gfTimes_alpha hk, ← iter_add, Bool.and_true,
      show k + k = 2 * k by omega, show k + 2 * k = 3 * k by omega, decide_true]
  · simp [errorSyndromes, gfTimes_alpha (Nat.lt_trans hi hk), iterate_gfTwice_lt he hi hk]

section
variable {stored : Bytes} {addr : BitVec 40} {mask : Bytes}

/-- The word that the decoder looks at: the check bytes with the mask taken off, the data and the address. -/
def wordRead (stored : Bytes) (addr : BitVec 40) (mask : Bytes) : List Byte :=
  List.zipWith (· ^^^ ·) (fit 4 (stored.drop 32)) (fit 4 mask) ++ rowMessage (fit 32 stored) addr

theorem readRow_eq_good (h : ∀ j < 4, valueAt j (wordRead stored addr mask) = 0) : readRow stored addr mask = .good (fit 32 stored) := by
  unfold readRow
  rw [if_pos]
  change rowSyndromes (wordRead stored addr mask) = _
  rw [rowSyndromes_eq, h 0 (by omega), h 1 (by omega), h 2 (by omega), h 3 (by omega)]

/-- A row with one error at the place k. -/
theorem readRow_of_error {k : Nat} {e : Byte} (hk : k < 41) (he : e ≠ 0) (h : ∀ j < 4, valueAt j (wordRead stored addr mask) = iter gfTwice (j * k) e) :
    readRow stored addr mask = if k < 4 then .corrected (fit 32 stored)
      else if k < 36 then .corrected (flipAt (k - 4) e (fit 32 stored)) else .wrongAddress := by
  have hs : rowSyndromes (wordRead stored addr mask) = errorSyndromes k e := by
    rw [rowSyndromes_eq, h 0 (by omega), h 1 (by omega), h 2 (by omega), h 3 (by omega), Nat.zero_mul, Nat.one_mul]
    rfl
  have hne : errorSyndromes k e ≠ [0, 0, 0, 0] := fun h0 => he (List.cons.inj h0).1
  have hget : (errorSyndromes k e).getD 0 0 = e := rfl
  unfold wordRead at hs
  unfold readRow
  simp only [hs, hne, if_false, hget, he, errorPlace_errorSyndromes hk he, flipAt]

end

/-! ### Stored rows -/

theorem length_fit (n : Nat) (bs : Bytes) : (fit n bs).length = n := by
  change (bs.take n ++ List.replicate (n - (bs.take n).length) 0).length = n
  have hle := List.length_take_le n bs
  rw [List.length_append, List.length_replicate]
  omega

theorem fit_of_length {n : Nat} {bs : Bytes} (h : bs.length = n) : fit n bs = bs := by
  subst h
  simp [fit, slice, zeros]

theorem fit_append {n : Nat} {as : Bytes} (h : as.length = n) (bs : Bytes) : fit n (as ++ bs) = as := by
  subst h
  simp [fit, slice, zeros]

theorem zipWith_xor_self {u m : Bytes} (h : u.length = m.length) : List.zipWith (· ^^^ ·) (List.zipWith (· ^^^ ·) u m) m = u := by
  refine List.ext_getElem (by simp [h]) fun i hi hi' => ?_
  rw [List.getElem_zipWith, List.getElem_zipWith, BitVec.xor_assoc, BitVec.xor_self, BitVec.xor_zero]

/-- The bytes of an address. -/
theorem leBytes_address (a : BitVec 40) :
    leBytes 5 a.toNat = [a.extractLsb' 0 8, a.extractLsb' 8 8, a.extractLsb' 16 8, a.extractLsb' 24 8, a.extractLsb' 32 8] := by
  have hx : ∀ n, a.extractLsb' n 8 = BitVec.ofNat 8 (a.toNat / 2 ^ n) := fun n => congrArg (BitVec.ofNat 8) (Nat.shiftRight_eq_div_pow ..)
  simp only [leBytes, hx, Nat.div_div_eq_div_mul, Nat.reduceMul, Nat.reducePow, Nat.div_one]

theorem length_leBytes (n v : Nat) : (leBytes n v).length = n := by
  induction n generalizing v with
  | zero => rfl
  | succ n ih => rw [leBytes, List.length_cons, ih]

theorem getElem_leBytes_address (a : BitVec 40) {k : Nat} (hk : k < 5) :
    (leBytes 5 a.toNat)[k]'(by rw [length_leBytes]; exact hk) = a.extractLsb' (8 * k) 8 := by
  simp only [leBytes_address]
  match k, hk with
  | 0, _ | 1, _ | 2, _ | 3, _ | 4, _ => rfl

/-- A byte of an address that differs in one byte. -/
theorem extractLsb'_xor_shift (a : BitVec 40) (e : Byte) {i k : Nat} (hi : i < 5) (hk : k < 5) :
    (a ^^^ (e.setWidth 40 <<< (8 * i))).extractLsb' (8 * k) 8 = if k = i then a.extractLsb' (8 * k) 8 ^^^ e else a.extractLsb' (8 * k) 8 := by
  refine BitVec.eq_of_getLsbD_eq fun b hb => ?_
  rcases Nat.lt_trichotomy k i with h | h | h
  · rw [if_neg (by omega)]
    simp [hb, show 8 * k + b < 8 * i by omega]
  · subst h
    rw [if_pos rfl]
    simp [hb, show 8 * k + b < 40 by omega]
  · rw [if_neg (by omega)]
    simp [hb, BitVec.getLsbD_of_ge e (8 * k + b - 8 * i) (by omega)]

section
variable {data mask : Bytes} {addr : BitVec 40} (hdata : data.length = 32)
include hdata

theorem wordRead_append {check : Bytes} (hc : check.length = 4) :
    wordRead (data ++ check) addr mask = List.zipWith (· ^^^ ·) check (fit 4 mask) ++ (data ++ leBytes 5 addr.toNat) := by
  rw [wordRead, fit_append hdata, rowMessage, fit_of_length hdata, ← hdata, List.drop_left, fit_of_length hc]

/-- The check bytes of a row, without the mask. -/
theorem storeRow_eq : storeRow data addr mask = data ++ List.zipWith (· ^^^ ·) (rowRemainder (data ++ leBytes 5 addr.toNat)) (fit 4 mask) := by
  rw [storeRow, rowMessage, fit_of_length hdata]

theorem readRow_storeRow : readRow (storeRow data addr mask) addr mask = .good data := by
  have hlen : (rowRemainder (data ++ leBytes 5 addr.toNat)).length = (fit 4 mask).length := by rw [length_rowRemainder, length_fit]
  rw [storeRow_eq hdata, readRow_eq_good, fit_append hdata]
  intro j hj
  rw [wordRead_append hdata (by simp [length_rowRemainder, length_fit]), zipWith_xor_self hlen, valueAt_codeword hj]

theorem readRow_flipAt {p : Nat} {e : Byte} (hp : p < 36) (he : e ≠ 0) : readRow (flipAt p e (storeRow data addr mask)) addr mask = .corrected data := by
  have hlen : (rowRemainder (data ++ leBytes 5 addr.toNat)).length = (fit 4 mask).length := by rw [length_rowRemainder, length_fit]
  have hcheck : (List.zipWith (· ^^^ ·) (rowRemainder (data ++ leBytes 5 addr.toNat)) (fit 4 mask)).length = 4 := by
    rw [List.length_zipWith, ← hlen, length_rowRemainder, Nat.min_self]
  rw [storeRow_eq hdata]
  by_cases hlow : p < 32
  · have hset : (flipAt p e data).length = 32 := by rw [length_flipAt, hdata]
    rw [flipAt_append_left (by omega), readRow_of_error (k := 4 + p) (by omega) he, if_neg (by omega), if_pos (by omega), fit_append hset, Nat.add_sub_cancel_left,
      flipAt_flipAt]
    intro j hj
    rw [wordRead_append hset hcheck, zipWith_xor_self hlen, ← flipAt_append_left (by omega), ← flipAt_append_right, length_rowRemainder,
      valueAt_codeword_flipAt hj (by rw [List.length_append, length_leBytes]; omega)]
  · obtain ⟨i, rfl⟩ : ∃ i, p = data.length + i := ⟨p - 32, by omega⟩
    rw [flipAt_append_right, readRow_of_error (k := i) (by omega) he, if_pos (by omega), fit_append hdata]
    intro j hj
    rw [wordRead_append hdata (by rw [length_flipAt, hcheck]), zipWith_flipAt, zipWith_xor_self hlen, ← flipAt_append_left (by rw [length_rowRemainder]; omega),
      valueAt_codeword_flipAt hj (by rw [List.length_append, length_leBytes]; omega)]

/-- A row read at an address that differs in one byte. -/
theorem readRow_wrongAddress {i : Nat} {e : Byte} (hi : i < 5) (he : e ≠ 0) :
    readRow (storeRow data (addr ^^^ (e.setWidth 40 <<< (8 * i))) mask) addr mask = .wrongAddress := by
  have haddr : leBytes 5 addr.toNat = flipAt i e (leBytes 5 (addr ^^^ (e.setWidth 40 <<< (8 * i))).toNat) := by
    refine List.ext_getElem (by simp [length_leBytes]) fun k hk _ => ?_
    rw [length_leBytes] at hk
    rw [getElem_flipAt (by rw [length_leBytes]; exact hk), getElem_leBytes_address _ hk, getElem_leBytes_address _ hk, extractLsb'_xor_shift addr e hi hk]
    split
    · next h => rw [if_pos h.symm, BitVec.xor_assoc, BitVec.xor_self, BitVec.xor_zero]
    · next h => rw [if_neg (Ne.symm h)]
  generalize addr ^^^ (e.setWidth 40 <<< (8 * i)) = other at haddr
  have hlen : (rowRemainder (data ++ leBytes 5 other.toNat)).length = (fit 4 mask).length := by rw [length_rowRemainder, length_fit]
  have hcheck : (List.zipWith (· ^^^ ·) (rowRemainder (data ++ leBytes 5 other.toNat)) (fit 4 mask)).length = 4 := by
    rw [List.length_zipWith, ← hlen, length_rowRemainder, Nat.min_self]
  rw [storeRow_eq hdata, readRow_of_error (k := 4 + (data.length + i)) (by omega) he, if_neg (by omega), if_neg (by omega)]
  intro j hj
  rw [wordRead_append hdata hcheck, zipWith_xor_self hlen, haddr, ← flipAt_append_right, ← flipAt_append_right, length_rowRemainder,
    valueAt_codeword_flipAt hj (by rw [List.length_append, length_leBytes]; omega)]

end

/-! ### Places -/

/-- Raising an event leaves the stored rows and the boot record as they were. -/
@[simp] theorem raise_rowFaults (p code detail : Nat) (s : State) : (raise p code detail s).rowFaults = s.rowFaults ∧ (raise p code detail s).boot = s.boot := by
  have h := (raise_same p code detail s).1
  unfold SameButEvents at h
  rw [h]
  exact ⟨rfl, rfl⟩

section
variable {s : State} {p : RowPlace} {data : Bytes}

theorem storeRow_fit_mask (addr : BitVec 40) (mask : Bytes) : storeRow data addr mask = storeRow data addr (fit 4 mask) := by
  rw [storeRow, storeRow, fit_of_length (length_fit 4 mask)]

theorem readPlace_of_none (h : mfind p.address.toNat s.rowFaults = none) : readPlace s p data = .good (fit 32 data) := by
  unfold readPlace
  rw [h]
  rfl

theorem rowText_plain (hp : p.space ≠ .dram) (enc : Bool) : rowText s enc p data = fit 32 data := by
  cases p <;> first | rfl | exact absurd rfl hp

theorem length_storeRow (addr : BitVec 40) (mask : Bytes) : (storeRow data addr mask).length = 36 := by
  simp [storeRow, length_fit, length_rowRemainder]

/-- A row with one byte e added. -/
theorem xorBytes_single {w : Bytes} {n : Nat} {e : Byte} (hw : w.length = 36) : xorBytes w ((List.replicate 36 0).set n e) = flipAt n e w := by
  refine List.ext_getElem (by simp [xorBytes, hw]) fun i hi hi' => ?_
  rw [length_flipAt] at hi'
  simp only [xorBytes, List.getElem_zipWith, List.getElem_set, List.getElem_replicate, getElem_flipAt hi']
  split
  · rfl
  · exact BitVec.xor_zero

/-- A stored row of a space that is not encrypted reads corrected where it has taken one byte. -/
theorem readPlace_of_error {n : Nat} {e : Byte} (hdata : data.length = 32) (hp : p.space ≠ .dram) (hn : n < 36) (he : e ≠ 0)
    (h : mfind p.address.toNat s.rowFaults = some ((List.replicate 36 0).set n e)) : readPlace s p data = .corrected data := by
  have hget : mget [] s.rowFaults p.address.toNat = (List.replicate 36 0).set n e := by rw [mget, h]; rfl
  have hrow : storedRow s p data = flipAt n e (storeRow data p.address (rowMask s p.space)) := by
    rw [storedRow, hget, fit_of_length (by simp), rowText_plain hp, fit_of_length hdata, xorBytes_single (length_storeRow ..)]
  unfold readPlace
  rw [h, hrow, readRow_flipAt hdata hn he]
  simp [rowText_plain hp, fit_of_length hdata]

end

/-- Settles O37: a stored row is a codeword, whose syndromes are those of the one error it has taken. -/
theorem rowCodeCorrectsOneByte : Obligations.RowCodeCorrectsOneByte := by
  unfold Obligations.RowCodeCorrectsOneByte
  refine ⟨fun data mask addr hdata _ => ⟨readRow_storeRow hdata, fun p e hp he => readRow_flipAt hdata hp he, fun i e hi he => readRow_wrongAddress hdata hi he⟩,
    fun s p data hdata => ⟨fun h => ?_, fun n e hp hn he h => ?_⟩⟩
  · rw [readPlace_of_none h, fit_of_length hdata]
  · have hread := readPlace_of_error hdata hp hn he h
    refine ⟨hread, fun _ => ?_⟩
    rw [hread, readPlace_of_none, fit_of_length hdata]
    simp [writeBack, RowRead.mended, clearRow, mfind_merase]

end Sys2Proof.Machine

end

section
/-!
SUPPORT. A capability load of a row that is corrected. O46, refuted.
-/
namespace Sys2Proof.Machine
open Sys2Proof Sys2Proof.Statements

/-! ### A capability load of a corrected row -/

/-- Core 0 in firmware mode, with a program capability, a capability for all of its data memory, and an erroneous first byte in that memory's row 0. -/
def oneErrorState : State :=
  { cores := [(0, { mode := .firmware, regs := { c := [(0, mkCap 0 0x20000 pEX 0 true false), (1, mkCap 0 0x40000 (pLD + pLDC) 0 false false)] } })]
    rowFaults := [((RowPlace.data 0 0).address.toNat, (List.replicate 36 0).set 0 1)] }

/-- An instruction of two syllables on core 0. -/
def onCore0 : Issue := { core := 0 }

theorem takesEffect_oneErrorState : TakesEffect (atIssue onCore0 oneErrorState) onCore0 { shadowBad := true } [] where
  runs := by decide +kernel
  calm := fun _ => by decide +kernel
  fetched := by decide +kernel
  placed := by decide +kernel
  guardKnown := by decide +kernel
  guardOn := by decide +kernel
  allowed := rfl
  unbroken := by decide +kernel

theorem reaches_oneErrorState : Reaches (atIssue onCore0 oneErrorState) onCore0 1 (pLD + pLDC) 16 55 0 := by
  unfold Reaches
  decide +kernel

theorem coreRow_zero : coreRow 0 0 = some (.data 0 0) := by decide

/-- The row reads corrected where its fault is that one byte. -/
theorem rowSeen_zero {s : State} (h : mfind (RowPlace.data 0 0).address.toNat s.rowFaults = some ((List.replicate 36 0).set 0 1)) :
    rowSeen s 0 0 = .corrected (memRead s 0 (0 / 32 * 32) 32) := by
  unfold rowSeen
  rw [coreRow_zero]
  exact readPlace_of_error (by simp [memRead]) (by decide) (by decide) (by decide) h

theorem fault_oneErrorState : mfind (RowPlace.data 0 0).address.toNat (atIssue onCore0 oneErrorState).rowFaults = some ((List.replicate 36 0).set 0 1) := by
  decide +kernel

theorem rowLost_oneErrorState : rowLost (atIssue onCore0 oneErrorState) 0 0 = false := by
  unfold rowLost
  rw [coreRow_zero, rowSeen_zero fault_oneErrorState]
  exact Bool.and_false _

/-- A load of the row writes it back, corrected. -/
theorem mfind_mendRow_zero {s : State} (h : mfind (RowPlace.data 0 0).address.toNat s.rowFaults = some ((List.replicate 36 0).set 0 1)) :
    mfind (RowPlace.data 0 0).address.toNat (mendRow 0 0 s).rowFaults = none := by
  unfold mendRow
  rw [coreRow_zero, rowSeen_zero h]
  simp [h, writeBack, RowRead.mended, clearRow, mfind_merase]

theorem rowFaults_afterRegs (x : Issue) (f : CoreRegs → CoreRegs) (s : State) : (afterRegs x f s).rowFaults = s.rowFaults := by
  simp [afterRegs, counted]

/-- An instruction whose own causes are none. -/
theorem issue_of_clear {x : Issue} {sh causes wait act s0} (h : TakesEffect (atIssue x s0) x sh []) (hc : causes (atIssue x s0) = []) (hw : wait (atIssue x s0) = false) :
    issue x sh causes wait act none s0 = .next (modRegs x.core (advance x.len sh.branch) (counted x.core (act (atIssue x s0)))) :=
  issue_none (hc ▸ h) hw

/-- What an LDC that takes effect does. -/
theorem issued_amLdc {x : Issue} {cd cap : BitVec 3} {rb : BitVec 5} {off : Int} {s0 : State} (h : TakesEffect (atIssue x s0) x { shadowBad := true } [])
    (hc : accessCauses (atIssue x s0) x cap (pLD + pLDC) 16 55 (addrOf x (atIssue x s0) rb off) ++ localCause 16 (addrOf x (atIssue x s0) rb off)
      ++ dataCause (atIssue x s0) x (addrOf x (atIssue x s0) rb off) = []) :
    Issued (.amLdc x cd rb cap off) x s0
      (givesC x cd 5 (loadCap (atIssue x s0) x.core (addrOf x (atIssue x s0) rb off)) (mendRow x.core (addrOf x (atIssue x s0) rb off) (atIssue x s0))) :=
  issued_of_fetched rfl rfl (issue_of_clear h hc rfl)

section
variable {s : State} {x : Issue} {cap : BitVec 3} {perms size right a : Nat}

theorem accessCauses_of_reaches (h : Reaches s x cap perms size right a) : accessCauses s x cap perms size right a = [] := by
  obtain ⟨htag, hsealed, hholds, hbase, htop, halign, hspace, hgate⟩ := h
  unfold regsOf at *
  simp [accessCauses, needs, htag, hsealed, hholds, hbase, htop, halign, hspace, hgate]

theorem localCause_of_data (h : spaceOf a = .data) : localCause size a = [] := needs_of_true (decide_eq_true h)

theorem dataCause_of_delivered (hx : x.badData = false) (h : rowLost s x.core a = false) : dataCause s x a = [] := needs_of_true (by rw [hx, h]; rfl)

end

/-- Refutes O46: the last clause of its loads leaves a corrected row as it was. In `oneErrorState` the first byte of row 0 of the data memory is in error; LDC reads the row
corrected and writes it back (R26), as the other loads do, and the statement keeps the error. -/
theorem not_loadsAndStoresReachMemory : ¬ Obligations.LoadsAndStoresReachMemory := by
  unfold Obligations.LoadsAndStoresReachMemory LocalLoadsReadDataMemory
  rintro ⟨hloads, -⟩
  have haddr : addrOf onCore0 (atIssue onCore0 oneErrorState) 1 0 = 0 := by decide +kernel
  have hload := hloads oneErrorState onCore0 0 1 2 1 0 takesEffect_oneErrorState rfl
  dsimp only at hload
  rw [haddr] at hload
  obtain ⟨-, -, -, -, hldc⟩ := hload (by decide) rowLost_oneErrorState
  have hspelled : spelledBy (.amLdc onCore0 2 1 1 0) onCore0 oneErrorState = true := by decide +kernel
  have hclaim := hldc reaches_oneErrorState hspelled
  have hlost : rowLost (atIssue onCore0 oneErrorState) onCore0.core 0 = false := rowLost_oneErrorState
  have hclear : accessCauses (atIssue onCore0 oneErrorState) onCore0 1 (pLD + pLDC) 16 55 0 ++ localCause 16 0 ++ dataCause (atIssue onCore0 oneErrorState) onCore0 0
      = [] := by
    rw [accessCauses_of_reaches reaches_oneErrorState, localCause_of_data (by decide), dataCause_of_delivered rfl hlost, List.nil_append, List.nil_append]
  have hexec := issued_amLdc (cd := 2) (cap := 1) (rb := 1) (off := 0) takesEffect_oneErrorState (haddr.symm ▸ hclear) hspelled
  rw [hexec, haddr] at hclaim
  have hrow := congrArg State.rowFaults (Host.Outcome.next.inj hclaim)
  simp only [givesC, rowFaults_afterRegs] at hrow
  have hfault := fault_oneErrorState
  rw [← hrow] at hfault
  exact absurd (hfault.symm.trans (mfind_mendRow_zero fault_oneErrorState)) nofun

end Sys2Proof.Machine

end

section
/-!
SUPPORT. Branches and loops. O47.
-/
namespace Sys2Proof.Machine
open Sys2Proof Sys2Proof.Statements

/-! ### Branches and loops -/

section
variable {x : Issue} {i : Instr} {m : String} {ops : List Int} {s0 : State} {sh : Shape}

/-- An instruction that decides the next address itself. -/
theorem issued_jump {causes wait act j} (h : TakesEffect (atIssue x s0) x sh []) (hi : spellingOf i = some (m, ops))
    (he : exec i s0 = fetched m ops x s0 (issue x sh causes wait act (some j) s0)) (hc : causes (atIssue x s0) = []) (hw : wait (atIssue x s0) = false) :
    Issued i x s0 (counted x.core (j (atIssue x s0))) :=
  issued_of_fetched hi he (issue_some (hc ▸ h) hw)

/-- One that moves on to the next address. -/
theorem issued_next {causes wait act} (h : TakesEffect (atIssue x s0) x sh []) (hi : spellingOf i = some (m, ops))
    (he : exec i s0 = fetched m ops x s0 (issue x sh causes wait act none s0)) (hc : causes (atIssue x s0) = []) (hw : wait (atIssue x s0) = false) :
    Issued i x s0 (modRegs x.core (advance x.len sh.branch) (counted x.core (act (atIssue x s0)))) :=
  issued_of_fetched hi he (issue_of_clear h hc hw)

end

/-- A write that becomes visible changes a register and nothing else. -/
theorem putReg_frame (d : Nat) (v : BitVec 128) (t : Bool) (r : CoreRegs) :
    (putReg d v t r).st = r.st ∧ (putReg d v t r).loops = r.loops ∧ (putReg d v t r).pc = r.pc ∧ (putReg d v t r).links = r.links := by
  unfold putReg
  split
  · exact ⟨rfl, rfl, rfl, rfl⟩
  · split
    · exact ⟨rfl, rfl, rfl, rfl⟩
    · split <;> exact ⟨rfl, rfl, rfl, rfl⟩

theorem foldl_putReg_frame (l : List PendWrite) (r : CoreRegs) :
    let q := l.foldl (fun r w => putReg w.dest w.value w.tag r) r
    q.st = r.st ∧ q.loops = r.loops ∧ q.pc = r.pc ∧ q.links = r.links := by
  induction l generalizing r with
  | nil => exact ⟨rfl, rfl, rfl, rfl⟩
  | cons w l ih =>
    obtain ⟨hst, hloops, hpc, hlinks⟩ := putReg_frame w.dest w.value w.tag r
    obtain ⟨gst, gloops, gpc, glinks⟩ := ih (putReg w.dest w.value w.tag r)
    exact ⟨gst.trans hst, gloops.trans hloops, gpc.trans hpc, glinks.trans hlinks⟩

@[simp] theorem tick_frame (r : CoreRegs) : (tick r).st = r.st ∧ (tick r).loops = r.loops ∧ (tick r).pc = r.pc ∧ (tick r).links = r.links :=
  foldl_putReg_frame _ _

/-- A branch: its target, and a call's link, are pending while the delay slot runs. -/
theorem issued_branch {x : Issue} {i : Instr} {m : String} {ops : List Int} {s0 : State} {call : Bool} {target : CoreRegs → BitVec 18} {f : CoreRegs → CoreRegs}
    (h : TakesEffect (atIssue x s0) x { branch := true, shadowBad := true } []) (hi : spellingOf i = some (m, ops))
    (he : exec i s0 = fetched m ops x s0 (issueBranch x call target s0))
    (hf : takeBranch (target (regsOf x (atIssue x s0))) (if call then writeG 31 (BitVec.ofNat 64 (afterSlot (atIssue x s0) x)) 1 (regsOf x (atIssue x s0))
      else regsOf x (atIssue x s0)) = f (regsOf x (atIssue x s0))) :
    Issued i x s0 (modRegs x.core (advance x.len true) (counted x.core (modRegs x.core f (atIssue x s0)))) := by
  have hnext := issued_next h hi he rfl rfl
  dsimp only at hnext
  have hregs := modRegs_congr (s := atIssue x s0) (n := x.core) (f := fun r => takeBranch (target r)
    (if call then writeG 31 (BitVec.ofNat 64 (afterSlot (atIssue x s0) x)) 1 r else r)) (g := f) hf
  rwa [hregs] at hnext

theorem branchesHaveOneDelaySlot : BranchesHaveOneDelaySlot := by
  unfold BranchesHaveOneDelaySlot
  refine ⟨fun s0 x disp rs h => ?_, fun r len target h0 h1 hp => ?_⟩
  · exact ⟨issued_branch h rfl rfl rfl, issued_branch h rfl rfl rfl, issued_branch h rfl rfl rfl, issued_branch h rfl rfl rfl⟩
  · simp [advance, takeBranch, h0, h1]

theorem loopsRepeatTheirBody : LoopsRepeatTheirBody := by
  unfold LoopsRepeatTheirBody
  refine ⟨fun s0 x level rc endOff h hc => ?_, fun r len hp h1 h0 hle => ⟨fun hn => ?_, fun hn => ?_⟩⟩
  · have hloop := issued_jump (i := .amLoop x level rc endOff) h rfl rfl hc rfl
    dsimp only at hloop ⊢
    refine ⟨fun hr => ?_, fun hr => ?_⟩
    · refine cast (congrArg (fun u => Issued (.amLoop x level rc endOff) x s0 (counted x.core u)) ?_) hloop
      exact modRegs_congr (if_pos hr)
    · refine cast (congrArg (fun u => Issued (.amLoop x level rc endOff) x s0 (counted x.core u)) ?_) hloop
      exact modRegs_congr (if_neg hr)
  · have hne : r.loops.lc0 - 1#32 ≠ 0#32 := by bv_omega
    simp [advance, hp, h1, h0, hle, hne]
  · simp [advance, hp, h1, h0, hle, hn]

/-- Settles O47: a branch and LOOP by what an instruction that takes effect does, what follows by `advance`. -/
theorem branchesAndLoopsDirectExecution : Obligations.BranchesAndLoopsDirectExecution := by
  unfold Obligations.BranchesAndLoopsDirectExecution
  exact ⟨branchesHaveOneDelaySlot, loopsRepeatTheirBody⟩

end Sys2Proof.Machine

end

section
/-!
SUPPORT. Gates, capabilities and the gates of movers. O48.
-/
namespace Sys2Proof.Machine
open Sys2Proof Sys2Proof.Statements

/-! ### Gates and their return -/

section
variable {s : State} {x : Issue} {f : CoreRegs → CoreRegs}

theorem regsOf_counted_modRegs : regsOf x (counted x.core (modRegs x.core f s)) = f (regsOf x s) := by
  simp [regsOf, counted, coreAt_modCore, coreAt_modRegs]

theorem capBase_mkCap {b l p o : Nat} {e g : Bool} (hb : b < 2 ^ 40) : capBase (mkCap b l p o e g) = b := by
  simp only [capBase, mkCap, BitVec.toNat_ofNat]
  omega

theorem capBase_lt (c : Cap) : capBase c < 2 ^ 40 := Nat.mod_lt _ (by decide)

theorem capBase_unsealed (c : Cap) : capBase (unsealed c) = capBase c := capBase_mkCap (capBase_lt c)

/-- What the gate reads of the capability registers 3 to 7 with the tags cleared. -/
def untagged (r : CoreRegs) (m : AMap Cap) : AMap Cap :=
  (List.range 5).foldl (fun m i => mset {} m (i + 3) { cRead r (BitVec.ofNat 3 (i + 3)) with tag := false }) m

theorem tag_untagged (r : CoreRegs) (m : AMap Cap) {i : Nat} (hlow : 3 ≤ i) (hhigh : i < 8) : (mget {} (untagged r m) i).tag = false := by
  simp only [untagged, show List.range 5 = [0, 1, 2, 3, 4] from rfl, List.foldl, mget_mset]
  obtain rfl | rfl | rfl | rfl | rfl : i = 3 ∨ i = 4 ∨ i = 5 ∨ i = 6 ∨ i = 7 := by omega
  all_goals rfl

theorem append_eq_nil {α : Type} {as bs : List α} (h : as ++ bs = []) : as = [] ∧ bs = [] := List.append_eq_nil_iff.mp h

theorem of_needs_eq_nil {b : Bool} {c : CoreCause} (h : needs b c = []) : b = true := by
  cases b with
  | true => rfl
  | false => cases h

theorem gateCallsAndReturns : GateCallsAndReturns := by
  unfold GateCallsAndReturns
  refine ⟨fun s0 x cd cs ct h hc hd => ?_, fun s0 x g rest h hd hl hlen => ?_⟩
  · intro r hs
    have hgate := issued_jump (i := .amGate x cd cs ct) h rfl rfl hc (by simp only [hd]; rfl) hs
    refine ⟨_, hgate, ?_⟩
    rw [regsOf_counted_modRegs]
    have hcd : 3 ≤ cd.toNat := by
      unfold gateCauses at hc
      exact of_decide_eq_true (of_needs_eq_nil (append_eq_nil (append_eq_nil (append_eq_nil hc).1).1).1)
    refine ⟨?_, rfl, ?_, ?_, fun i hi hne => ?_, rfl, rfl, ?_⟩
    · exact congrArg (BitVec.ofNat 18) (capBase_unsealed (cRead (regsOf x (atIssue x s0)) cs))
    · simp only [enterGate, cRead, mget_mset]
      rw [if_neg (by simp; omega)]
      rfl
    · simp only [enterGate, cRead, mget_mset, if_true]
      rfl
    · simp only [enterGate, cRead, mget_mset]
      rw [if_neg (fun h => hne (BitVec.eq_of_toNat_eq h)), if_neg (by omega)]
      exact tag_untagged _ _ hi i.isLt
    · exact ⟨_, rfl, rfl, rfl, rfl⟩
  · intro hs
    have hpop : popLink x (atIssue x s0) = modRegs x.core (fun r => { tick r with
        pc := g.pc, st := g.st, loops := g.loops, links := rest, delay := false, shadow := 2, returned := true
        c := (g.caps.zipIdx).foldl (fun m e => mset {} m (e.2 + 3) e.1) (mset {} (tick r).c 0 g.c0) }) (atIssue x s0) := by
      unfold popLink regsOf at *
      dsimp only
      rw [hl]
    have hret := issued_jump (i := .amRetc x) h rfl rfl (by unfold regsOf at hl; rw [hl]) (by simp only [hd]; rfl) hs
    refine ⟨_, hret, ?_⟩
    rw [hpop, regsOf_counted_modRegs]
    obtain ⟨caps, hcaps⟩ : ∃ caps, caps = g.caps := ⟨_, rfl⟩
    rw [← hcaps] at hlen ⊢
    match caps, hlen with
    | [v0, v1, v2, v3, v4], _ =>
      refine ⟨rfl, rfl, rfl, rfl, rfl, ?_, fun i hi => ?_⟩
      · simp [cRead, mget_mset]
      · match i, hi with
        | 0, _ | 1, _ | 2, _ | 3, _ | 4, _ => simp [cRead, mget_mset]
end

/-! ### The capability-forming instructions -/

/-- An instruction without a shadow that changes registers alone. -/
theorem issued_afterRegsBad {x : Issue} {i : Instr} {m : String} {ops : List Int} {s0 : State} {f g : CoreRegs → CoreRegs} {causes : State → List CoreCause}
    (h : TakesEffect (atIssue x s0) x { shadowBad := true } []) (hi : spellingOf i = some (m, ops))
    (he : exec i s0 = fetched m ops x s0 (issue x { shadowBad := true } causes (fun _ => false) (modRegs x.core f) none s0))
    (hc : causes (atIssue x s0) = []) (hf : f (regsOf x (atIssue x s0)) = g (regsOf x (atIssue x s0))) :
    Issued i x s0 (afterRegs x g (atIssue x s0)) := by
  rw [← afterRegs_congr (f := f) hf]
  exact issued_next h hi he hc rfl

theorem ofNat_b2n (b : Bool) : BitVec.ofNat 64 (b2n b) = if b then 1 else 0 := by cases b <;> rfl

theorem needs_of_eq {b : Bool} {c : CoreCause} (h : b = true) : needs b c = [] := h ▸ rfl

theorem capabilityFormingInstructions : CapabilityFormingInstructions := by
  unfold CapabilityFormingInstructions
  intro s0 x cd cs ct rd rs ro rl h s r c k
  refine ⟨?_, ?_, ?_, ?_, ?_, fun ht hsl => ?_, fun ht hk hsl hg hgk hh h1 => ?_, fun ht hk hsl hgk hh h1 => ?_, fun ht hg h0 h1 h2 => ?_,
    fun ht hsl hg hle => ?_⟩
  · exact issued_afterRegsBad h rfl rfl rfl rfl
  · exact issued_afterRegsBad h rfl rfl rfl rfl
  · exact issued_afterRegsBad h rfl rfl rfl rfl
  · exact issued_afterRegsBad h rfl rfl rfl rfl
  · exact issued_afterRegsBad h rfl rfl rfl (congrArg (fun v => writeG rd v 1 r) (ofNat_b2n c.tag))
  · exact issued_afterRegsBad h rfl rfl (by
      show needs c.tag _ ++ needs (!capSealed c) _ = []
      simp [ht, hsl, needs]) rfl
  · exact issued_afterRegsBad h rfl rfl (by
      show needs (c.tag && k.tag) _ ++ needs (!capSealed c && !capGrant c && capGrant k && holds k pSEAL && decide (1 ≤ capType k)) _ = []
      simp [ht, hk, hsl, hg, hgk, hh, h1, needs]) rfl
  · exact issued_afterRegsBad h rfl rfl (by
      show needs (c.tag && k.tag) _ ++ needs (capSealed c && capGrant k && holds k pUNSEAL && decide (capType k = capType c)) _ = []
      simp [ht, hk, hsl, hgk, hh, h1, needs]) rfl
  · exact issued_afterRegsBad h rfl rfl (by
      show needs c.tag _ ++ needs (capGrant c && decide (capType c = 0 ∧ 1 ≤ (gRead r rs).toNat ∧ (gRead r rs).toNat ≤ 4095)) _ = []
      simp [ht, hg, h0, h1, h2, needs]) rfl
  · refine issued_afterRegsBad h rfl rfl ?_ (congrArg (fun v => writeC cd v 1 r) ?_)
    · show needs c.tag _ ++ needs (!capSealed c && !capGrant c) _ ++ needs (decide ((gRead r ro).toNat + (gRead r rl).toNat ≤ capLen c)) _ = []
      simp [ht, hsl, hg, hle, needs]
    · show ({ mkCap (capBase c + (gRead r ro).toNat) (gRead r rl).toNat (capPerms c) (capType c) (capEntry c) false with tag := c.tag } : Cap) = _
      rw [ht]
      rfl

/-! ### The gate of a mover -/

theorem gatePermits_samePage {s : State} {m right x y : Nat} {user default_ : Bool} (h : x / 4096 = y / 4096) :
    gatePermits s m user right x default_ = gatePermits s m user right y default_ := by
  unfold gatePermits
  rw [h]

theorem mem_dmaAccesses {a n lo len : Nat} : (lo, len) ∈ dmaAccesses a n ↔
    ∃ i < (a + n + 255) / 256 - a / 256, lo = max a (256 * (a / 256 + i)) ∧ len = min (a + n) (256 * (a / 256 + i + 1)) - lo ∧ 0 < len := by
  simp only [dmaAccesses, List.mem_filter, List.mem_map, List.mem_range, decide_eq_true_eq, Prod.mk.injEq]
  constructor
  · rintro ⟨⟨i, hi, rfl, rfl⟩, hpos⟩
    exact ⟨i, hi, rfl, rfl, hpos⟩
  · rintro ⟨i, hi, rfl, rfl, hpos⟩
    exact ⟨⟨i, hi, rfl, rfl⟩, hpos⟩

/-- Each access of a DMA job lies in the job. -/
theorem start_of_mem_dmaAccesses {a n lo len : Nat} (h : (lo, len) ∈ dmaAccesses a n) : a ≤ lo ∧ lo < a + n := by
  obtain ⟨i, _, rfl, rfl, hpos⟩ := mem_dmaAccesses.mp h
  omega

/-- Each byte of a DMA job is of the 256-byte block of some access of the job that starts no later. -/
theorem access_of_byte {a n y : Nat} (ha : a ≤ y) (hy : y < a + n) : ∃ e ∈ dmaAccesses a n, e.1 ≤ y ∧ e.1 / 4096 = y / 4096 := by
  refine ⟨(max a (256 * (a / 256 + (y / 256 - a / 256))), min (a + n) (256 * (a / 256 + (y / 256 - a / 256) + 1)) - max a (256 * (a / 256 + (y / 256 - a / 256)))),
    mem_dmaAccesses.mpr ⟨y / 256 - a / 256, ?_, rfl, rfl, ?_⟩, ?_, ?_⟩
  · omega
  · omega
  · dsimp only; omega
  · dsimp only; omega

/-- The accesses of a DMA job are in the order of their addresses. -/
theorem dmaAccesses_sorted (a n : Nat) : (dmaAccesses a n).Pairwise (fun e f => e.1 ≤ f.1) := by
  refine List.Pairwise.filter _ (List.pairwise_map.mpr (List.pairwise_lt_range.imp fun h => ?_))
  dsimp only
  omega

theorem gateAt_gateRefuse {m page right addr : Nat} {user dma : Bool} {s : State} :
    gateAt (gateRefuse m page right addr user dma s) m = { gateAt s m with
      addr := BitVec.ofNat 40 addr, count := satInc (gateAt s m).count, user := user, dma := dma, x := decide (right = 57), w := decide (right = 56), r := decide (right = 55) } := by
  simp [gateRefuse, gateAt, modGate, mget_mupd]

theorem dmaJobsStopAtTheGate : DmaJobsStopAtTheGate := by
  unfold DmaJobsStopAtTheGate
  intro m a n s
  cases hf : (dmaAccesses a n).find? (fun x => !gatePermits s m true 56 x.1 false) with
  | none =>
    have hd : dmaWrite m a n s = ({ written := n }, s) := by simp only [dmaWrite, hf]
    refine ⟨fun _ => ⟨by rw [hd], by rw [hd], fun y ha hy => ?_⟩, fun x hx => by simp [hd] at hx⟩
    obtain ⟨e, he, _, hpage⟩ := access_of_byte ha hy
    have hpermits := List.find?_eq_none.mp hf e he
    rw [← gatePermits_samePage hpage]
    simpa using hpermits
  | some e =>
    have hd : dmaWrite m a n s = ({ written := e.1 - a, refused := some e.1 }, gateRefuse m (gatePage m) 56 e.1 true true s) := by simp only [dmaWrite, hf]
    obtain ⟨hrefused, before, after, hsplit, hbefore⟩ := List.find?_eq_some_iff_append.mp hf
    have hstart := start_of_mem_dmaAccesses (lo := e.1) (len := e.2) (List.mem_of_find?_eq_some hf)
    refine ⟨fun hx => by simp [hd] at hx, fun x hx => ?_⟩
    obtain rfl : e.1 = x := by rw [hd] at hx; exact Option.some.inj hx
    rw [hd]
    refine ⟨hstart.1, hstart.2, rfl, by simpa using hrefused, fun y ha hy => ?_, ?_⟩
    · obtain ⟨f, hmem, hle, hpage⟩ := access_of_byte ha (Nat.lt_trans hy hstart.2)
      rw [← gatePermits_samePage hpage]
      have hsorted := dmaAccesses_sorted a n
      rw [hsplit] at hmem hsorted
      have hfirst : f ∈ before := by
        rcases List.mem_append.mp hmem with hb | hb
        · exact hb
        · have hlater : e.1 ≤ f.1 := by
            rcases List.mem_cons.mp hb with rfl | hb
            · exact Nat.le_refl _
            · exact (List.pairwise_cons.mp (List.pairwise_append.mp hsorted).2.1).1 f hb
          omega
      simpa using hbefore f hfirst
    · rw [gateAt_gateRefuse]
      exact ⟨rfl, rfl, rfl, rfl, rfl⟩

/-- Settles O48: gates by what they change, the forming instructions by their conditions, a mover's job by the first access refused. -/
theorem gatesAndCapabilities : Obligations.GatesAndCapabilities := by
  unfold Obligations.GatesAndCapabilities
  exact ⟨gateCallsAndReturns, capabilityFormingInstructions, dmaJobsStopAtTheGate⟩

end Sys2Proof.Machine

end

section
/-!
SUPPORT. Waits, breaks and the ends of tenant invocations. O3.
-/
namespace Sys2Proof.Machine
open Sys2Proof Sys2Proof.Statements

/-! ### Waits, breaks and the ends of tenant invocations -/

theorem mput_mput {β : Type} (k : Nat) (v w : β) (m : AMap β) : mput k w (mput k v m) = mput k w m := by
  induction m with
  | nil => simp [mput]
  | cons e m ih =>
    obtain ⟨j, u⟩ := e
    by_cases hlt : k < j
    · simp [mput, hlt]
    · by_cases heq : j = k <;> simp [mput, hlt, heq, ih]

theorem merase_mput {β : Type} (k : Nat) (v : β) (m : AMap β) : merase k (mput k v m) = merase k m := by
  induction m with
  | nil => simp [mput, merase]
  | cons e m ih =>
    obtain ⟨j, u⟩ := e
    by_cases hlt : k < j
    · simp [mput, hlt, merase]
    · by_cases heq : j = k <;> simp [mput, merase, hlt, heq, ih]

/-- To change a listed record to itself first makes no difference to a later change of it. -/
theorem mupd_mupd_id {β : Type} [DecidableEq β] {d : β} {m : AMap β} {k : Nat} {f g : β → β} (h : mget d m k ≠ d) (hg : g (mget d m k) = mget d m k) :
    mupd d (mupd d m k g) k f = mupd d m k f := by
  have hsame : mget d (mupd d m k g) k = mget d m k := by rw [mget_mupd, if_pos rfl, hg]
  show mset d (mupd d m k g) k (f (mget d (mupd d m k g) k)) = mset d m k (f (mget d m k))
  rw [hsame]
  simp only [mupd, mset, hg, if_neg h, mput_mput, merase_mput]

/-- A core that runs does not stand at its reset state. -/
theorem core_ne_reset {s : State} {n : Nat} (h : coreRuns s n = true) : coreAt s n ≠ {} := by
  intro he
  simp [coreRuns, he] at h

/-- An instruction that changes no register. -/
theorem afterRegs_id {x : Issue} {s : State} (h : coreRuns s x.core = true) :
    afterRegs x id s = modRegs x.core (advance x.len false) (counted x.core s) := by
  have hcores : mupd {} (mupd {} s.cores x.core (fun c => { c with regs := id c.regs })) x.core
      (fun c => { c with issued := satInc c.issued, sinceTrace := c.sinceTrace + 1 }) =
      mupd {} s.cores x.core (fun c => { c with issued := satInc c.issued, sinceTrace := c.sinceTrace + 1 }) := mupd_mupd_id (core_ne_reset h) rfl
  have hcounted : counted x.core (modRegs x.core id s) = counted x.core s := by
    unfold counted modRegs modCore
    rw [hcores]
  rw [afterRegs, hcounted]

/-- Leaving a core takes blocks off engines and nothing else, and no core changes with a step. -/
theorem coreAt_leaveCore (slot i n : Nat) (s : State) : coreAt (leaveCore slot i s) n = coreAt s n := rfl

theorem coreAt_modStep (slot i n : Nat) (f : StepRun → StepRun) (s : State) : coreAt (modStep slot i f s) n = coreAt s n := by
  unfold coreAt; simp

theorem coreAt_modEng (p k n : Nat) (f : Engine → Engine) (s : State) : coreAt (modEng p k f s) n = coreAt s n := rfl

/-- A tenant invocation that yields is parked with the registers that the core then has. -/
theorem core_of_yieldStep {x : Issue} {s : State} {v : Invocation} {j : Job} (hr : (coreAt s x.core).running = some v) (hj : jobAt s v.slot = some j)
    (hl : lastStep s v j = false) :
    coreAt (yieldStep x s) x.core = { coreAt (modRegs x.core (advance x.len false) s) x.core with
      mode := .idle, running := none, parked := some (v, advance x.len false (regsOf x s)) } := by
  unfold yieldStep
  simp only [hr, hj, hl, Bool.false_eq_true, if_false]
  split <;> simp [coreAt_modStep, coreAt_modEng, coreAt_leaveCore, coreAt_modCore, coreAt_modRegs, regsOf]

/-- Settles O3: each by what an instruction that takes effect does; a core that runs does not stand at its reset state, so that nothing but the count and the
address changes where the instruction has no effect of its own. -/
theorem waitsBreaksAndTenantEnds : Obligations.WaitsBreaksAndTenantEnds := by
  unfold Obligations.WaitsBreaksAndTenantEnds
  refine ⟨fun s0 x pl h hp hs => ?_, fun s0 x h hs => ?_, fun s0 x tag h hd => ?_, ?_, ?_⟩
  · have hwait := issued_next (i := .amWait x pl) h rfl rfl (needs_of_eq (by unfold regsOf at hp; rw [hp]; rfl))
      (by simpa [List.any_eq_false] using hs)
    rw [afterRegs_id h.runs]
    exact hwait
  · have hfence := issued_next (i := .amFenceS x) h rfl rfl rfl (by rw [hs]; rfl)
    rw [afterRegs_id h.runs]
    exact hfence
  · exact issued_jump (i := .amBreak x tag) h rfl rfl rfl (congrArg (!·) hd)
  · intro s0 x v j h s hd hv hj hl hsp
    have hyield := issued_jump (i := .amYield x) h rfl rfl rfl (congrArg (!·) hd) hsp
    refine ⟨_, hyield, ?_⟩
    rw [show coreAt (counted x.core (yieldStep x s)) x.core = _ from coreAt_modCore .., core_of_yieldStep hv hj hl]
    simp
  · intro s0 x rs rl v j h s r hdr s1 out hd hv hj hz hlen
    have hdone := issued_jump (i := .amDone x rs rl) h rfl rfl rfl (congrArg (!·) hd)
    have hstep : doneStep x rs rl s = endStep v.slot v.step { result := 0, bytes := out } (wipeContext x.core r.st.ctx.toNat s1) := by
      have hok : decide (gRead (coreAt s x.core).regs rs = 0 ∧ (gRead (coreAt s x.core).regs rl).toNat ≤ dstCapacity s j v.step) = true :=
        decide_eq_true ⟨hz, hlen⟩
      unfold doneStep
      simp only [hv, hj, hok, if_true]
      rfl
    rw [hstep] at hdone
    exact hdone

end Sys2Proof.Machine

end

section
/-!
SUPPORT. The functions of SYS. O4.
-/
namespace Sys2Proof.Machine
open Sys2Proof Sys2Proof.Statements

/-! ### The functions of SYS -/

/-- A capability that allows one group is one of those that SYS needs at all. -/
theorem sysCauses_of_allows {s : State} {x : Issue} {cap : BitVec 3} {group : Nat} (h : Allows s x cap group) :
    sysCauses group cap (regsOf x s) = [] := by
  obtain ⟨htag, hsealed, hholds⟩ := h
  have hperms : 256 ≤ capPerms (cRead (regsOf x s) cap) := by
    have hle : Nat.land (capPerms (cRead (regsOf x s) cap)) (2 ^ (8 + group)) ≤ capPerms (cRead (regsOf x s) cap) := Nat.and_le_left
    rw [of_decide_eq_true hholds] at hle
    exact Nat.le_trans (Nat.pow_le_pow_right (n := 2) (by decide) (Nat.le_add_right 8 group)) hle
  have hany : ((List.range 8).any fun i => let k := cRead (regsOf x s) (BitVec.ofNat 3 i); k.tag && !capSealed k && decide (256 ≤ capPerms k)) = true := by
    refine List.any_eq_true.mpr ⟨cap.toNat, List.mem_range.mpr cap.isLt, ?_⟩
    simp [htag, hsealed, hperms]
  simp [sysCauses, hany, htag, hsealed, hholds, needs]

section
variable {x : Issue} {i : Instr} {m : String} {ops : List Int} {s0 : State} {cap : BitVec 3} {rs : BitVec 5} {group : Nat}

/-- A SYS whose function answers `r`. -/
theorem issued_sys {f : Nat → State → Nat × State} {r : Nat × State} (h : TakesEffect (atIssue x s0) x { shadowBad := true } []) (ha : Allows (atIssue x s0) x cap group)
    (hi : spellingOf i = some (m, ops)) (he : exec i s0 = fetched m ops x s0 (sysCall x group cap rs noWait f s0))
    (hf : f (gRead (regsOf x (atIssue x s0)) rs).toNat (atIssue x s0) = r) : Issued i x s0 (sysDone x rs r) := by
  subst hf
  have hnext := issued_next (causes := fun s => sysCauses group cap (coreAt s x.core).regs) (wait := fun _ => false)
    (act := fun s => modRegs x.core (writeG rs (BitVec.ofNat 64 (f (gRead (coreAt s x.core).regs rs).toNat s).1) 4) (f (gRead (coreAt s x.core).regs rs).toNat s).2)
    h hi he (sysCauses_of_allows ha) rfl
  exact hnext

/-- A SYS with an effect alone. -/
theorem issued_sysEffect {f : Nat → State → State} {t : State} (h : TakesEffect (atIssue x s0) x { shadowBad := true } []) (ha : Allows (atIssue x s0) x cap group)
    (hi : spellingOf i = some (m, ops)) (he : exec i s0 = fetched m ops x s0 (sysCall x group cap rs noWait (effectOnly f) s0))
    (hf : f (gRead (regsOf x (atIssue x s0)) rs).toNat (atIssue x s0) = t) : Issued i x s0 (sysEffect x rs t) :=
  issued_sys h ha hi he (congrArg unstated hf)

end

theorem sysBind_of_job {s : State} {a : Nat} {j : Job} (h : jobAt s (bits 15 0 a) = some j) :
    sysBind a s = bindStep (bits 15 0 a) (bits 19 16 a) (decide (j.runClass = 0)) s := by
  simp only [sysBind, h]

theorem sysEnd_of_running {s : State} {a idx : Nat} {b : Bound} {j : Job} (hb : runningOn s (bits 27 24 a) (bits 15 0 a) (bits 19 16 a) = some (idx, b))
    (hj : jobAt s (bits 15 0 a) = some j) (hc : (stepAt j (bits 19 16 a)).checked = true) (he : endsHere (stepAt j (bits 19 16 a)) (bits 27 24 a) b = true) :
    sysEnd a s = settleUnit (enginePage (bits 27 24 a) idx) (stepEnds (bits 15 0 a) (bits 19 16 a) (bits 27 24 a) idx b s) := by
  simp [sysEnd, hb, hj, hc, he]

/-- Settles O4: each by what a SYS that its capability allows does. -/
theorem sysFunctionsTakeEffect : Obligations.SysFunctionsTakeEffect := by
  unfold Obligations.SysFunctionsTakeEffect
  intro s0 x cap rs h s a n block
  refine ⟨fun ha => ⟨fun j hj => ?_, fun idx b j hb hj hc he => ?_, fun h64 hl => ?_, ?_⟩, fun ha => ⟨fun k hk => ?_, ?_, ?_, ?_⟩,
    fun ha => ⟨?_, fun h64 hon hmay => ?_, ?_⟩, fun ha => ⟨?_, ?_⟩, fun ha => ⟨fun hgate hregion => ?_, ?_⟩,
    fun ha => ⟨fun hcore hother => ?_, fun hcore => ?_, fun hcore hrow => ?_, ?_⟩, fun ha => ⟨?_, ?_, ?_⟩⟩
  · exact issued_sysEffect h ha rfl rfl (sysBind_of_job hj)
  · exact issued_sysEffect h ha rfl rfl (sysEnd_of_running hb hj hc he)
  · exact issued_sysEffect h ha rfl rfl (if_pos ⟨h64, hl⟩)
  · exact issued_sys h ha rfl rfl rfl
  · exact issued_sysEffect h ha rfl rfl (if_pos (Option.isSome_iff_exists.mpr ⟨k, hk⟩))
  · exact issued_sysEffect h ha rfl rfl rfl
  · exact issued_sysEffect h ha rfl rfl rfl
  · exact issued_sys h ha rfl rfl (congrArg (·, s) (by cases (mfind a s.keys.sessions).isSome <;> rfl))
  · exact issued_sysEffect h ha rfl rfl rfl
  · exact issued_sysEffect h ha rfl rfl (if_pos ⟨h64, hon, hmay⟩)
  · exact issued_sys h ha rfl rfl rfl
  · exact issued_sysEffect h ha rfl rfl rfl
  · exact issued_sysEffect h ha rfl rfl rfl
  · exact issued_sysEffect h ha rfl rfl (if_pos ⟨hgate, hregion⟩)
  · exact issued_sys h ha rfl rfl rfl
  · exact issued_sysEffect h ha rfl rfl (if_pos ⟨hcore, hother⟩)
  · exact issued_sysEffect h ha rfl rfl (if_pos hcore)
  · exact issued_sysEffect h ha rfl rfl (if_pos (Or.inl ⟨hcore, hrow⟩))
  · exact issued_sysEffect h ha rfl rfl rfl
  · exact issued_sysEffect h ha rfl rfl rfl
  · exact issued_sysEffect h ha rfl rfl rfl
  · exact issued_sysEffect h ha rfl rfl rfl

end Sys2Proof.Machine

end

section
/-!
SUPPORT. The operations on the steps of jobs: how one answers; the public-key operations. O6.
-/
namespace Sys2Proof.Machine
open Sys2Proof Sys2Proof.Statements

/-! ### Operations on the steps of jobs: how one answers -/

section
variable {c : Instr} {op slot i : Nat} {s t : State} {k : Call} {d : Delivered}

theorem tryStep_of_call {f : Call → State → Option (Delivered × State)} (h : callAt s op slot i = some k) (hf : f k s = some (d, t)) :
    tryStep op slot i f s = delivers slot i d t := by
  simp only [tryStep, h, hf]
  rfl

/-- A step whose operation answers, with the state it leaves. -/
theorem exec_of_runStep {f : Call → State → Delivered × State} (hc : exec c s = .next (runStep op slot i f s)) (h : callAt s op slot i = some k) (hf : f k s = (d, t)) :
    exec c s = .next (delivers slot i d t) :=
  hc.trans (congrArg Host.Outcome.next (tryStep_of_call h (congrArg some hf)))

/-- An operation whose result needs nothing but its step. -/
theorem runs_of_runPure {f : Call → State → Delivered} {cond : Call → State → Prop} {g : Call → State → Delivered}
    (hc : ∀ s, exec c s = .next (runPure op slot i f s)) (hf : ∀ s k, callAt s op slot i = some k → cond k s → f k s = g k s) : Runs c op slot i cond g :=
  fun s _ h hcond => exec_of_runStep (hc s) h (Prod.ext (hf s _ h hcond) rfl)

/-- An operation that draws random bytes. -/
theorem runsWithRandom_of_runStep {n : Call → Nat} {f : Call → State → Delivered × State} {cond : Call → State → Prop} {g : Call → Bytes → Delivered}
    (hc : ∀ s, exec c s = .next (runStep op slot i f s))
    (hf : ∀ s k, callAt s op slot i = some k → cond k s → f k s = (g k (drawBytes (n k) s).1, (drawBytes (n k) s).2)) :
    RunsWithRandom c op slot i n cond g :=
  fun s _ h hcond => exec_of_runStep (hc s) h (hf s _ h hcond)

theorem runsWithRandom_of_withRandom {n : Nat} {f : Call → Bytes → Delivered} {cond : Call → State → Prop} {g : Call → Bytes → Delivered}
    (hc : ∀ s, exec c s = .next (withRandom op slot i n f s)) (hf : ∀ s k r, cond k s → f k r = g k r) : RunsWithRandom c op slot i (fun _ => n) cond g :=
  runsWithRandom_of_runStep hc (fun s k _ hcond => Prod.ext (hf s k _ hcond) rfl)

end

/-! ### The public-key operations -/

/-- A verification with a key of the key store takes the key's algorithm and material, and its whole second operand as the signature. -/
theorem verifyParts_of_key {op : Nat} {k : Call} (h : k.keyA.isSome = true) : verifyParts op k = (algA k, matA k, k.aux, false) := by
  obtain ⟨key, hkey⟩ := Option.isSome_iff_exists.mp h
  simp only [verifyParts, algA, matA, hkey]

theorem verifyEcdsa_of_key {k : Call} (h : k.keyA.isSome = true) (hl : k.aux.length = sigLen (algA k)) (hr : ecdsaRange (algA k) k.aux = none) :
    verifyEcdsa k = Statements.verdict (Config.accepts "ECDSA verification" [algArg (algA k), matA k, k.aux, curveHash (algA k) k.src]) (curveHash (algA k) k.src) := by
  simp [verifyEcdsa, verifyParts_of_key h, hl, hr, unlessBad, Statements.verdict]

theorem contextError_eq_none {a : Bytes} {rest : Nat} (h : a ≠ []) (hl : a.length = 1 + byteAt 0 a + rest) : contextError a rest = none := by
  simp [contextError, orElse, h, hl]

/-- Settles O6: each operation by the answer of its step where no operand is out of its range. -/
theorem publicKeyOperationsRun : Obligations.PublicKeyOperationsRun := by
  unfold Obligations.PublicKeyOperationsRun
  intro slot i
  refine ⟨?_, fun s k h ha halg => ?_, ?_, ?_, fun s k h ha => ?_, ?_, ?_, ?_, ?_, ?_, ?_, ?_, ?_, ?_, ?_, ?_, ?_⟩
  · refine runs_of_runPure (fun _ => rfl) (fun s k _ hl => ?_)
    rw [if_neg (by omega)]
    rfl
  · exact exec_of_runStep rfl h (by simp [ha, halg])
  · exact runsWithRandom_of_runStep (fun _ => rfl) (fun s k _ hcond => by simp [hcond.1, hcond.2])
  · exact runs_of_runPure (fun _ => rfl) (fun s k _ ⟨hkey, hl, hr⟩ => verifyEcdsa_of_key hkey hl hr)
  · exact exec_of_runStep rfl h (by simp [ha])
  · refine runs_of_runPure (fun _ => rfl) (fun s k _ ⟨hkey, hl, he, hle⟩ => ?_)
    simp [verifyParts_of_key hkey, hl, he, Nat.not_le.mpr hle, unlessBad, Statements.verdict]
  · exact runsWithRandom_of_withRandom (fun _ => rfl) (fun s k r ⟨hw, hp⟩ => by simp [hw, hp, unlessBad])
  · exact runsWithRandom_of_withRandom (fun _ => rfl) (fun s k r hl => by simp [hl, orElse, unlessBad])
  · exact runs_of_runPure (fun _ => rfl) (fun s k _ he => by simp [he, unlessBad, Statements.verdict])
  · exact runsWithRandom_of_withRandom (fun _ => rfl) (fun s k r ⟨hl, hle⟩ => by simp [hl, Nat.not_lt.mpr hle, orElse, unlessBad])
  · exact runsWithRandom_of_withRandom (fun _ => rfl) (fun s k r ⟨hl, he, hv⟩ => by simp [hl, he, hv, unlessBad])
  · exact runsWithRandom_of_withRandom (fun _ => rfl) (fun s k r ⟨hl, he, hv⟩ => by simp [hl, he, hv, unlessBad])
  · exact runsWithRandom_of_withRandom (fun _ => rfl) (fun s k r ⟨hne, hl⟩ => by simp [contextError_eq_none (rest := 0) hne hl, unlessBad])
  · exact runs_of_runPure (fun _ => rfl) (fun s k _ ⟨hne, hl⟩ => by simp [contextError_eq_none hne hl, unlessBad, Statements.verdict])
  · exact runsWithRandom_of_withRandom (fun _ => rfl) (fun s k r ⟨ha, he⟩ => by simp [ha, he, unlessBad])
  · exact runsWithRandom_of_withRandom (fun _ => rfl) (fun s k r hl => by simp [hl, orElse, unlessBad])
  · exact runs_of_runPure (fun _ => rfl) (fun s k _ ⟨hne, hl⟩ => by simp [contextError_eq_none hne hl, unlessBad, Statements.verdict])

end Sys2Proof.Machine

end

section
/-!
SUPPORT. The cipher operations: their answers, and counter mode undone by itself. O49, O7.
-/
namespace Sys2Proof.Machine
open Sys2Proof Sys2Proof.Statements

/-! ### The symmetric operations -/

/-- A call names its own step. -/
theorem callAt_names {s : State} {op slot i : Nat} {k : Call} (h : callAt s op slot i = some k) : k.slot = slot ∧ k.i = i := by
  unfold callAt at h
  split at h
  · cases h
  · dsimp only at h
    split at h
    · cases h
    · obtain rfl := Option.some.inj h
      exact ⟨rfl, rfl⟩

theorem nonceFor_of_taken {s s1 : State} {op slot i : Nat} {k : Call} {n : Bytes} {f : Bytes → Delivered} (h : callAt s op slot i = some k)
    (hn : takeNonce (nonceHolder s slot i) s = some (n, s1)) : nonceFor k s f = some (f n, s1) := by
  obtain ⟨hslot, hi⟩ := callAt_names h
  subst hslot hi
  simp only [nonceFor, hn]

theorem symmetricOperationsRun : SymmetricOperationsRun := by
  unfold SymmetricOperationsRun
  intro slot i aux
  refine ⟨?_, ?_, fun s k n s1 h hn => ?_, ?_, fun s k n s1 h hn => ?_, ?_, ?_, ?_, ?_, ?_, ?_, ?_⟩
  · exact runsWithRandom_of_runStep (fun _ => rfl) (fun _ _ _ _ => rfl)
  · exact runs_of_runPure (fun _ => rfl) (fun _ _ _ _ => rfl)
  · exact congrArg Host.Outcome.next (tryStep_of_call h (nonceFor_of_taken h hn))
  · exact runs_of_runPure (fun _ => rfl) (fun _ _ _ _ => rfl)
  · exact congrArg Host.Outcome.next (tryStep_of_call h (nonceFor_of_taken h hn))
  · exact runs_of_runPure (fun _ => rfl) (fun _ _ _ _ => rfl)
  · exact runs_of_runPure (fun _ => rfl) (fun _ _ _ _ => rfl)
  · exact runs_of_runPure (fun _ => rfl) (fun s k _ _ => by simp [Statements.verdict, aux])
  · exact runs_of_runPure (fun _ => rfl) (fun _ _ _ _ => rfl)
  · exact runs_of_runPure (fun _ => rfl) (fun _ _ _ _ => rfl)
  · exact runs_of_runPure (fun _ => rfl) (fun _ _ _ _ => rfl)
  · exact runs_of_runPure (fun _ => rfl) (fun _ _ _ _ => rfl)

theorem length_beBytes (n v : Nat) : (beBytes n v).length = n := by rw [beBytes, List.length_reverse, length_leBytes]

theorem noncesAreTakenInOrder : NoncesAreTakenInOrder := by
  unfold NoncesAreTakenInOrder
  intro s holder next top rest h
  refine ⟨_, _, takeNonce_of_cons h, ?_, ?_, ?_⟩
  · exact (mfind_mput _ _ _ _).trans (if_pos rfl)
  · rw [List.length_append, length_beBytes, length_beBytes]
  · exact List.drop_left' (length_beBytes 4 _)

/-- Settles O49: each operation by the answer of its step, the nonces by what taking one changes. -/
theorem cipherOperationsRun : Obligations.CipherOperationsRun := by
  unfold Obligations.CipherOperationsRun
  exact ⟨symmetricOperationsRun, noncesAreTakenInOrder⟩

/-! ### GCM -/

theorem ceilDiv_sixteen {n : Nat} (h : 0 < n) : ceilDiv n 16 = ceilDiv (n - 16) 16 + 1 := by
  unfold ceilDiv
  omega

theorem chunks_nil (n : Nat) : chunks (n + 1) [] = [] := by
  simp [chunks, ceilDiv]

theorem chunks_of_ne_nil {data : Bytes} (h : data ≠ []) : chunks 16 data = data.take 16 :: chunks 16 (data.drop 16) := by
  unfold chunks
  rw [ceilDiv_sixteen (List.length_pos_iff.2 h), List.range_succ_eq_map, List.map_cons, List.map_map, List.length_drop]
  simp only [Nat.zero_mul, List.drop_zero, List.cons.injEq, true_and]
  refine List.map_congr_left fun i _ => ?_
  simp only [Function.comp, List.drop_drop, Nat.succ_eq_add_one]
  congr 2
  omega

theorem xorBytes_xorBytes {a b : Bytes} (h : a.length ≤ b.length) : xorBytes (xorBytes a b) b = a := by
  induction a generalizing b with
  | nil => rfl
  | cons x a ih =>
    match b, h with
    | y :: b, h =>
      simp only [xorBytes, List.zipWith_cons_cons, List.cons.injEq]
      exact ⟨by rw [BitVec.xor_assoc, BitVec.xor_self, BitVec.xor_zero], ih (Nat.le_of_succ_le_succ h)⟩

theorem length_xorBytes (a b : Bytes) : (xorBytes a b).length = min a.length b.length := List.length_zipWith

/-- Data combined with a key stream, block `i` of it from the stream's block `i + from`. -/
def streamX (block : Nat → Bytes) (first : Nat) (data : Bytes) : Bytes := ((chunks 16 data).zipIdx first).flatMap (fun e => xorBytes e.1 (block e.2))

theorem ctrX_eq_streamX (k counter data : Bytes) :
    ctrX k counter data = streamX (fun i => aesE k (counter.take 12 ++ beBytes 4 ((beNat (slice 12 4 counter) + i) % 2 ^ 32))) 0 data := rfl

theorem streamX_nil (block : Nat → Bytes) (first : Nat) : streamX block first [] = [] := by
  rw [streamX, chunks_nil]
  rfl

theorem streamX_of_ne_nil (block : Nat → Bytes) (first : Nat) {data : Bytes} (h : data ≠ []) :
    streamX block first data = xorBytes (data.take 16) (block first) ++ streamX block (first + 1) (data.drop 16) := by
  rw [streamX, chunks_of_ne_nil h, List.zipIdx_cons, List.flatMap_cons]
  rfl

/-- A key stream of whole blocks undoes itself. -/
theorem streamX_streamX {block : Nat → Bytes} (hb : ∀ i, (block i).length = 16) (first : Nat) (data : Bytes) :
    streamX block first (streamX block first data) = data := by
  by_cases h : data = []
  · rw [h, streamX_nil, streamX_nil]
  · have hlen : (xorBytes (data.take 16) (block first)).length = min 16 data.length := by
      rw [length_xorBytes, hb, List.length_take]
      omega
    have hpos := List.length_pos_iff.2 h
    have hne : streamX block first data ≠ [] := by
      intro he
      have := congrArg List.length he
      rw [streamX_of_ne_nil _ _ h, List.length_append, hlen, List.length_nil] at this
      omega
    have ih := streamX_streamX hb (first + 1) (data.drop 16)
    rw [streamX_of_ne_nil _ _ hne, streamX_of_ne_nil _ _ h]
    by_cases hlong : 16 ≤ data.length
    · rw [List.take_left' (by omega), List.drop_left' (by omega), xorBytes_xorBytes (by rw [hb, List.length_take]; omega), ih, List.take_append_drop]
    · have hdrop : data.drop 16 = [] := List.drop_eq_nil_of_le (by omega)
      rw [hdrop, streamX_nil, List.append_nil, List.take_of_length_le (by omega), List.drop_eq_nil_of_le (by omega), streamX_nil, List.append_nil,
        xorBytes_xorBytes (by rw [hb, List.length_take]; omega), List.take_of_length_le (by omega)]
termination_by data.length

theorem ctrX_ctrX (k counter data : Bytes) : ctrX k counter (ctrX k counter data) = data := by
  simp only [ctrX_eq_streamX]
  exact streamX_streamX (fun _ => length_beBytes 16 _) 0 data

theorem length_gcmTag (k nonce aad ct : Bytes) : (gcmTag k nonce aad ct).length = 16 := by
  rw [gcmTag, length_xorBytes, length_beBytes, aesE, length_beBytes]
  rfl

/-- Settles O7: counter mode undoes itself, and both sides form the tag of the same ciphertext. -/
theorem gcmDecryptionUndoesEncryption : Obligations.GcmDecryptionUndoesEncryption := by
  unfold Obligations.GcmDecryptionUndoesEncryption
  intro key nonce aad plain _
  have htake : ∀ ct : Bytes, (ct ++ gcmTag key nonce aad ct).length - 16 = ct.length := fun ct => by
    rw [List.length_append, length_gcmTag]
    omega
  simp only [gcmD, gcmE, htake, List.take_left, List.drop_left, if_true, ctrX_ctrX]

end Sys2Proof.Machine

end

section
/-!
SUPPORT. Payment operations and chains. O50.
-/
namespace Sys2Proof.Machine
open Sys2Proof Sys2Proof.Statements

/-! ### Payment operations and chains -/

theorem runPure_of_call {op slot i : Nat} {s : State} {k : Call} {f : Call → State → Delivered} (h : callAt s op slot i = some k) :
    runPure op slot i f s = delivers slot i (f k s) s :=
  tryStep_of_call (f := fun c t => some (f c t, t)) h rfl

/-- A translation of a PIN block whose PIN can be read. -/
theorem translates_of_pin {c : Instr} {op slot i : Nat} {key : Call → Bytes × Nat} (hc : ∀ s, exec c s = .next (runStep op slot i (translatePin key) s)) (pin : List Nat) :
    RunsWithRandom c op slot i (fun _ => 16)
      (fun k _ => pinDecode (byteAt 0 k.src) (pinPlain (byteAt 0 k.src) (key k).2 (key k).1 (slice 32 16 k.src) (accountDigits (slice 16 10 k.src))) = some pin)
      (fun k r => ok (pinEncode (byteAt 1 k.src) (algB k) (matB k) (accountDigits (slice 16 10 k.src)) pin r)) :=
  runsWithRandom_of_runStep hc (fun s k _ hpin => by simp only [translatePin, hpin])

theorem ite_eq_verdict {p : Prop} [Decidable p] (out : Bytes) : (if p then ok out else bad 0x0405) = Statements.verdict (decide p) out := by
  simp [Statements.verdict]

theorem paymentOperationsRun : PaymentOperationsRun := by
  unfold PaymentOperationsRun
  intro slot i account translates
  refine ⟨?_, ?_, ?_, ?_, fun pin => ?_, ?_, ?_, ?_, ?_, ?_, ?_, ?_, ?_, fun s j k hj hop hk => ?_, fun s j hj hop hst => ?_⟩
  · exact translates_of_pin fun _ => rfl
  · exact translates_of_pin fun _ => rfl
  · exact translates_of_pin fun _ => rfl
  · exact runs_of_runPure (fun _ => rfl) (fun s k _ hpin => by simp only [hpin])
  · exact runs_of_runPure (fun _ => rfl) (fun s k _ hpin => by simp only [hpin, ite_eq_verdict])
  · exact runs_of_runPure (fun _ => rfl) (fun _ _ _ _ => rfl)
  · exact runs_of_runPure (fun _ => rfl) (fun _ _ _ _ => ite_eq_verdict _)
  · exact runs_of_runPure (fun _ => rfl) (fun _ _ _ _ => rfl)
  · exact runs_of_runPure (fun _ => rfl) (fun _ _ _ _ => ite_eq_verdict _)
  · exact runs_of_runPure (fun _ => rfl) (fun _ _ _ _ => ite_eq_verdict _)
  · exact runs_of_runPure (fun _ => rfl) (fun _ _ _ _ => rfl)
  · exact runs_of_runPure (fun _ => rfl) (fun _ _ _ _ => rfl)
  · exact runs_of_runPure (fun _ => rfl) (fun _ _ _ hchained => if_pos hchained)
  · show execOpPayAuthRef slot 0 s = _
    simp only [execOpPayAuthRef, hj, hop, ne_eq, not_true_eq_false, if_false]
    exact congrArg Host.Outcome.next (runPure_of_call hk)
  · show execOpPayAuthRef slot 3 s = _
    simp only [execOpPayAuthRef, hj, hop, ne_eq, not_true_eq_false, if_false, if_neg hst]

/-- A chain runs its step by the step's opcode. -/
theorem exec_opChain {s : State} {slot i : Nat} {j : Job} (hj : jobAt s slot = some j) (hc : isChained j = true) :
    exec (.opChain slot i) s = runChainable (stepAt j i).step.opcode slot i s := by
  show execOpChain slot i s = _
  simp only [execOpChain, hj, hc, if_true]

theorem chainsAndNop : ChainsAndNop := by
  unfold ChainsAndNop
  refine ⟨fun s slot i j hj hc => ?_, fun slot i => runs_of_runPure (fun _ => rfl) (fun _ _ _ _ => rfl)⟩
  intro op
  have hchain := exec_opChain (i := i) hj hc
  refine ⟨fun hop => ?_, fun hop => ?_, fun hop => ?_, fun hop => ?_, fun k hop hk n s1 hn => ?_⟩
  · exact hchain.trans (by rw [show (stepAt j i).step.opcode = 0x0224 from hop]; rfl)
  · exact hchain.trans (by rw [show (stepAt j i).step.opcode = 0x0112 from hop]; rfl)
  · exact hchain.trans (by rw [show (stepAt j i).step.opcode = 0x0402 from hop]; rfl)
  · exact hchain.trans (by rw [show (stepAt j i).step.opcode = 0x0301 from hop]; rfl)
  · refine hchain.trans ?_
    rw [show (stepAt j i).step.opcode = 0x0211 from hop]
    exact congrArg Host.Outcome.next (tryStep_of_call hk (nonceFor_of_taken hk hn))

/-- Settles O50: each operation by the answer of its step, a chain by its step's opcode. -/
theorem paymentAndChainedOperationsRun : Obligations.PaymentAndChainedOperationsRun := by
  unfold Obligations.PaymentAndChainedOperationsRun
  exact ⟨paymentOperationsRun, chainsAndNop⟩

end Sys2Proof.Machine

end

section
/-!
SUPPORT. The vault operations and the versions they journal. O51.
-/
namespace Sys2Proof.Machine
open Sys2Proof Sys2Proof.Statements

/-! ### The vault operations -/

section
variable {c : Instr} {op slot i : Nat}

theorem runsTo_of_runStep {f : Call → State → Delivered × State} {cond : Call → State → Prop} {d : Call → State → Delivered} {t : Call → State → State}
    (hc : ∀ s, exec c s = .next (runStep op slot i f s)) (hf : ∀ s k, cond k s → f k s = (d k s, t k s)) : RunsTo c op slot i cond d t :=
  fun s k h hcond => exec_of_runStep (hc s) h (hf s k hcond)

/-- A vault step that has all it reads at hand. -/
theorem runsTo_of_vaultStep {needs : Call → State → List NandTarget} {f : Call → State → Delivered × State} {cond : Call → State → Prop}
    {d : Call → State → Delivered} {t : Call → State → State} (hc : ∀ s, exec c s = .next (vaultStep op slot i needs f s))
    (hn : ∀ s k, cond k s → AtHand s slot i (needs k s)) (hf : ∀ s k, cond k s → f k s = (d k s, t k s)) : RunsTo c op slot i cond d t := by
  intro s k h hcond
  have hstep : vaultStep op slot i needs f s = runStep op slot i f s := by
    have hhand := hn s k hcond
    unfold AtHand at hhand
    simp only [vaultStep, h, hhand, if_true]
  exact exec_of_runStep ((hc s).trans (congrArg Host.Outcome.next hstep)) h (hf s k hcond)

end

theorem withToken_of_found {k : Call} {s : State} {slot i n : Nat} {f : Nat → VaultRec → State → Delivered × State} (h : Found k s slot i n) :
    withToken k f s = f n (recordAt s n) s := by
  obtain ⟨_, hfind, hread⟩ := h
  simp only [withToken, hfind, hread, if_true]

theorem vaultOperationsRun : VaultOperationsRun := by
  unfold VaultOperationsRun
  intro slot i n
  refine ⟨?_, ?_, ?_, ?_, ?_, ?_, ?_, runs_of_runPure (fun _ => rfl) (fun _ _ _ _ => rfl)⟩
  · refine runsTo_of_vaultStep (fun _ => rfl) (fun s k hcond => hcond.1) (fun s k ⟨_, hrw, hfind, hread, hst⟩ => ?_)
    simp [tokenise, hrw, hfind, hread, hst]
  · refine runsTo_of_vaultStep (fun _ => rfl) (fun s k hcond => hcond.1) (fun s k ⟨_, hrw, hfind, hstate, hlimit, hmethod⟩ => ?_)
    simp [tokenise, hrw, hfind, hstate, hlimit, hmethod]
  · refine runsTo_of_vaultStep (fun _ => rfl) (fun s k hcond => hcond.1.1) (fun s k ⟨hfound, hactive, hexpired⟩ => ?_)
    rw [detokenise, withToken_of_found hfound]
    simp [hactive, hexpired]
  · exact runsTo_of_vaultStep (fun _ => rfl) (fun s k hcond => hcond.1) (fun s k hfound => withToken_of_found hfound)
  · refine runsTo_of_vaultStep (fun _ => rfl) (fun s k hcond => hcond.1) (fun s k ⟨_, hfind, hread⟩ => ?_)
    simp only [hfind, hread, if_true]
  · refine runsTo_of_vaultStep (fun _ => rfl) (fun s k hcond => hcond.1.1) (fun s k ⟨hfound, hdeleted, hrw, hmirror, hstatus, hexpiry⟩ => ?_)
    rw [withToken_of_found hfound]
    simp [hdeleted, hrw, hmirror, hstatus, hexpiry, mirrorAfter]
  · refine runsTo_of_runStep (fun _ => rfl) (fun s k ⟨hok, hchange, hmethod⟩ => ?_)
    simp [hok, hchange, hmethod]

/-! ### The versions of vault records -/

/-- The vault and the key store are as they were. -/
structure SameStores (s t : State) : Prop where
  vault : t.vault = s.vault
  keys : t.keys = s.keys

theorem SameStores.ite {p : Prop} [Decidable p] {s t u : State} (ht : SameStores s t) (hu : SameStores s u) : SameStores s (if p then t else u) := by
  split
  · exact ht
  · exact hu

theorem SameStores.upd {s t : State} {u : Ciphers} (h : SameStores s t) : SameStores s { t with cip := u } := ⟨h.vault, h.keys⟩

theorem SameStores.raise {s t : State} (h : SameStores s t) (p code detail : Nat) : SameStores s (raise p code detail t) := by
  obtain ⟨hvault, hkeys⟩ := h
  exact ⟨by simp [hvault], by simp [hkeys]⟩

theorem advanceMark_sameStores {s t : State} (h : SameStores s t) : SameStores s (advanceMark t) := .ite (.raise (.upd h) _ _ _) h

/-- A block of nonces is granted in the cipher engines' registers. -/
theorem grantNonces_sameStores (holder : Nat) (s : State) : SameStores s (grantNonces holder s) := by
  have hs : SameStores s s := ⟨rfl, rfl⟩
  unfold grantNonces
  extract_lets n
  exact .ite (.raise hs _ _ _) (.ite (advanceMark_sameStores (.upd hs)) (advanceMark_sameStores hs))

theorem nonceTaken_sameStores {holder n e : Nat} {rest : List (Nat × Nat)} {s g t : State} {m : Bytes} (hg : SameStores s g)
    (h : some (nonceTaken holder n e rest g) = some (m, t)) : SameStores s t := by
  obtain rfl := congrArg Prod.snd (Option.some.inj h)
  exact ⟨hg.vault, hg.keys⟩

theorem takeNonce_sameStores {holder : Nat} {s t : State} {n : Bytes} (h : takeNonce holder s = some (n, t)) : SameStores s t := by
  cases hs : holderBlocks s holder with
  | cons b rest => exact nonceTaken_sameStores ⟨rfl, rfl⟩ ((takeNonce_of_cons hs).symm.trans h)
  | nil =>
    have hgranted := grantNonces_sameStores holder s
    cases hg : holderBlocks (grantNonces holder s) holder with
    | cons b rest => exact nonceTaken_sameStores hgranted ((takeNonce_of_granted hs hg).symm.trans h)
    | nil =>
      rw [takeNonce_of_none hs hg] at h
      cases h

/-- What appending to the journal does to the vault. -/
theorem appendJournal_vault (kind target slot ckpt : Nat) (r : Option VaultRec) (s : State) :
    (appendJournal kind target slot r ckpt s).vault.records = s.vault.records ∧ (appendJournal kind target slot r ckpt s).keys = s.keys ∧
    (appendJournal kind target slot r ckpt s).vault.nextSeq = s.vault.nextSeq + 1 ∧
    ∃ e, (appendJournal kind target slot r ckpt s).vault.journal = s.vault.journal ++ [e] ∧ e.seq = s.vault.nextSeq ∧ e.kind = kind ∧ e.target = target ∧
      e.slot = slot ∧ e.record = r ∧ e.mac = journalMac s { e with mac := [] } := by
  unfold appendJournal
  extract_lets v e0 e s1
  split
  · simp only [raise_frame]
    exact ⟨rfl, rfl, rfl, e, rfl, rfl, rfl, rfl, rfl, rfl, rfl⟩
  · exact ⟨rfl, rfl, rfl, e, rfl, rfl, rfl, rfl, rfl, rfl, rfl⟩

/-- Keys derived of the module's root do not depend on the rest of the state. -/
theorem moduleKey_congr {s t : State} (h : t.keys = s.keys) (purpose scheme version : Nat) : moduleKey t purpose scheme version = moduleKey s purpose scheme version := by
  rw [moduleKey, moduleKey, h]

theorem journalMac_congr {s t : State} (h : t.keys = s.keys) (e : JournalEntry) : journalMac t e = journalMac s e := by
  rw [journalMac, journalMac, moduleKey_congr h]

/-- The version that a record takes with a nonce: the nonce, the key's generation and the seal. -/
def versionOf (s : State) (r : VaultRec) (nonce : Bytes) : VaultRec :=
  { r with nonce := nonce, keyGen := s.vault.keyGen, sealed_ := sealRecord s { r with nonce := nonce, keyGen := s.vault.keyGen } }

theorem recordVersionsAreJournalled : RecordVersionsAreJournalled := by
  unfold RecordVersionsAreJournalled
  intro s n r _ _ hnonce
  obtain ⟨⟨nonce, t⟩, htake⟩ := Option.isSome_iff_exists.mp hnonce
  obtain ⟨hvault, hkeys⟩ := takeNonce_sameStores htake
  have hwrite : writeVersion n r s = putVersion n (versionOf t r nonce) t := by
    simp only [writeVersion, htake]
    rfl
  obtain ⟨hrecords, hjkeys, hseq, e, hjournal, heseq, hkind, htarget, hslot, hrecord, hmac⟩ :=
    appendJournal_vault 1 (n / 64) (n % 64) 0 (some (versionOf t r nonce)) (modVault (fun v => { v with records := mset {} v.records n (versionOf t r nonce) }) t)
  have hat : ∀ m, recordAt (writeVersion n r s) m = if m = n then versionOf t r nonce else recordAt s m := fun m => by
    rw [hwrite, recordAt, putVersion, hrecords, recordAt, ← hvault]
    exact mget_mset ..
  have hsame : recordAt (writeVersion n r s) n = versionOf t r nonce := (hat n).trans (if_pos rfl)
  refine ⟨⟨_, rfl, ?_⟩, fun m hm => (hat m).trans (if_neg hm), ?_, ⟨e, ?_, ?_, hkind, htarget, hslot, ?_, ?_⟩, ?_⟩
  · rw [hsame]
    exact ⟨rfl, rfl, rfl, rfl, rfl, rfl⟩
  · rw [hwrite, ← hvault]
    exact hseq
  · rw [hwrite, ← hvault]
    exact hjournal
  · rw [← hvault]
    exact heseq
  · rw [hsame]
    exact hrecord
  · rw [hwrite]
    exact hmac.trans (journalMac_congr hjkeys.symm _)
  · rw [hsame]
    show gcmE (moduleKey t 0x82 3 t.vault.keyGen) nonce _ _ = gcmE (moduleKey s 0x82 3 s.vault.keyGen) nonce _ _
    rw [moduleKey_congr hkeys, hvault]
    rfl

/-- Settles O51: each operation by the answer of its step on records at hand, a version by the nonce taken and the journal's new entry. -/
theorem tokenVaultOperationsRun : Obligations.TokenVaultOperationsRun := by
  unfold Obligations.TokenVaultOperationsRun
  exact ⟨vaultOperationsRun, recordVersionsAreJournalled⟩

end Sys2Proof.Machine

end

section
/-!
SUPPORT. What a configuration record changes.
-/
namespace Sys2Proof.Machine
open Sys2Proof Sys2Proof.Statements

/-! ### What a write to the code flash leaves alone -/

/-- Nothing but the code flash, its row errors and the free values drawn has changed. -/
structure FlashOnly (s t : State) : Prop where
  eq : t = { s with flash := t.flash, draws := t.draws, rowFaults := t.rowFaults }

namespace FlashOnly
variable {s t : State}

theorem refl (s : State) : FlashOnly s s := ⟨rfl⟩

/-- A further change of the code flash, its row errors and the draws. -/
theorem upd {f : Flash} {d : Nat} {r : AMap (List Byte)} (h : FlashOnly s t) : FlashOnly s { t with flash := f, draws := d, rowFaults := r } :=
  ⟨by rw [h.eq]⟩

theorem ite {p : Prop} [Decidable p] {u : State} (ht : FlashOnly s t) (hu : FlashOnly s u) : FlashOnly s (if p then t else u) := by
  split
  · exact ht
  · exact hu

theorem modFlash {f : Flash → Flash} (h : FlashOnly s t) : FlashOnly s (modFlash f t) := .upd h

theorem modSector {n : Nat} {f : FlsSector → FlsSector} (h : FlashOnly s t) : FlashOnly s (modSector n f t) := .upd h

theorem putWord {i : Nat} {v : Option Bytes} (h : FlashOnly s t) : FlashOnly s (putWord i v t) := modFlash (upd h)

theorem clearSector {n : Nat} (h : FlashOnly s t) : FlashOnly s (clearSector n t) := modFlash (upd h)

theorem ledgerWord {body : Bytes} {sector : Nat} (h : FlashOnly s t) : FlashOnly s (ledgerWord body sector t) := modSector (modFlash (putWord h))

theorem ownErase {log : Bytes → Nat → State → State} {sec : Nat} (hlog : ∀ b n u, FlashOnly s u → FlashOnly s (log b n u)) (h : FlashOnly s t) :
    FlashOnly s (ownErase log sec t) :=
  .ite h (modFlash (modSector (hlog _ _ _ (clearSector (hlog _ _ _ (.upd h))))))

theorem ledgerTurn (h : FlashOnly s t) : FlashOnly s (ledgerTurn t) := by
  unfold Machine.ledgerTurn
  refine ownErase (fun _ _ _ hu => ledgerWord hu) (forAll_ind (fun _ _ hu => ?_) _ _ h)
  split
  · exact ledgerWord (ledgerWord hu)
  · exact ledgerWord hu

theorem appendLedger {body : Bytes} {sector : Nat} (h : FlashOnly s t) : FlashOnly s (appendLedger body sector t) := ledgerWord (.ite (ledgerTurn h) h)

theorem cfgWord {body : Bytes} (h : FlashOnly s t) : FlashOnly s (cfgWord body t) := by
  unfold Machine.cfgWord
  exact modFlash (putWord h)

theorem cfgTurn (h : FlashOnly s t) : FlashOnly s (cfgTurn t) := by
  have hcopied := forAll_ind (f := Machine.cfgWord) (fun _ _ hu => cfgWord hu) (t.flash.cfgLive.flatMap (fun e => cfgBodies e.1 e.2)) _
    (modFlash (f := fun f => { f with cfgSecond := !f.cfgSecond, cfgNext := 0 }) h)
  exact .ite (repeatIdx_ind (fun _ _ hu => ownErase (fun _ _ _ hv => appendLedger hv) hu) _ _ hcopied) hcopied

/-- A configuration record changes the code flash alone. -/
theorem configRecord {key : Nat} {record : Bytes} (h : FlashOnly s t) : FlashOnly s (configRecord key record t) :=
  forAll_ind (fun _ _ hu => cfgWord hu) _ _ (modFlash (.ite (cfgTurn h) h))

theorem keys (h : FlashOnly s t) : t.keys = s.keys := by rw [h.eq]

end FlashOnly

end Sys2Proof.Machine

end

section
/-!
SUPPORT. The key operations, created keys, applications and sessions. O52, O8.
-/
namespace Sys2Proof.Machine
open Sys2Proof Sys2Proof.Statements

/-! ### What a change of a key tells the fold -/

namespace SameStores
variable {s t : State}

theorem trans {u : State} (h : SameStores s t) (h' : SameStores t u) : SameStores s u := ⟨h'.vault.trans h.vault, h'.keys.trans h.keys⟩

theorem sendMember (type m : Nat) (body : Bytes) (h : SameStores s t) : SameStores s (sendMember type m body t) := by
  unfold Machine.sendMember
  split
  · exact ⟨h.vault, h.keys⟩
  · exact h

theorem sendChange (m : Nat) (c : Change) (h : SameStores s t) : SameStores s (sendChange m c t) := by
  unfold Machine.sendChange
  refine .ite ?_ (sendMember _ _ _ h)
  split
  · split
    · next n s1 htake => exact sendMember _ _ _ (h.trans (takeNonce_sameStores htake))
    · exact h
  · exact h

theorem noteChange (what mask : Nat) (h : SameStores s t) : SameStores s (noteChange what mask t) := by
  unfold Machine.noteChange
  exact .ite h (forAll_ind (p := SameStores s) (fun m _ hu => sendChange m _ hu) _ _ ⟨h.vault, h.keys⟩)

theorem keyChanged (b : Nat) (h : SameStores s t) : SameStores s (keyChanged b t) := by
  unfold Machine.keyChanged
  split
  · exact .ite (noteChange _ _ h) h
  · exact h

end SameStores

/-! ### The key operations -/

theorem changeKey_of_plain {k : Call} {s : State} {x : KeyBlock} {check : KeyBlock → Option Nat} (hx : subjectOf k s = some x) (hq : x.quorum = 0)
    (hc : check x = none) : changeKey k check s = keyChange k.step.opcode (selected k.job k.step.selA) k.src s := by
  simp [changeKey, hx, hc, hq]

theorem keyNamed_of_subject {k : Call} {s : State} {x : KeyBlock} (hx : subjectOf k s = some x) : keyNamed s (selected k.job k.step.selA) = some x := hx

/-- A key taken out of the bays' pins. -/
theorem unpinKey_keys (b : Nat) (s : State) : (unpinKey b s).keys.pins = s.keys.pins.filter (fun x => decide (x ≠ b)) ∧
    (unpinKey b s).keys.rebuild = s.keys.rebuild.filter (fun x => decide (x ≠ b)) ∧ (unpinKey b s).keys.keys = s.keys.keys := by
  have hkeys : (if b ∈ s.keys.pins then configRecord (cfgKey 2 b) [] s else s).keys = s.keys :=
    (FlashOnly.ite (.configRecord (.refl s)) (.refl s)).keys
  unfold unpinKey
  dsimp only
  rw [hkeys]
  exact ⟨rfl, rfl, rfl⟩

theorem keyOperationsRun : KeyOperationsRun := by
  unfold KeyOperationsRun
  intro slot i
  refine ⟨?_, ?_, ?_, ?_, ?_, ?_, ?_, ?_, ?_⟩
  · intro m made
    refine runsTo_of_runStep (fun _ => rfl) (fun s k ⟨hx, hgen, halg, htemplate⟩ => ?_)
    simp only [hx, hgen, halg, htemplate, not_true_eq_false, ne_eq, or_self, if_false, made, m]
    by_cases hpair : 0x30 ≤ byteAt 0 k.src <;> simp [hpair]
  · exact runsTo_of_runStep (fun _ => rfl) (fun _ _ _ => rfl)
  · intro s k m h x o hpoint hlen hchecked hm
    refine exec_of_runStep rfl h ?_
    have hpointOk : (pointError 0x0102 (k.src.take 97)).isSome = false := by simpa using hpoint
    subst hm
    exact (if_neg (by rw [hpointOk]; decide)).trans ((if_neg (not_not_intro hlen)).trans (if_neg (not_not_intro hchecked)))
  · refine runsTo_of_runStep (fun _ => rfl) (fun s k ⟨hx, hcls, halg, htemplate, hvalue⟩ => ?_)
    simp only [hx, hcls, halg, htemplate, hvalue, not_true_eq_false, ne_eq, or_self, if_false]
  · intro s k x h hx
    refine ⟨fun haes => ?_, fun haes htdes => ?_⟩
    · exact exec_of_runStep rfl h (by simp only [hx, haes, if_true])
    · exact exec_of_runStep rfl h (by simp [hx, haes, htdes])
  · intro x plain sealable
    refine ⟨?_, ?_, ?_, ?_, ?_, ?_, ?_⟩
    · refine runsTo_of_runStep (fun _ => rfl) (fun s k ⟨⟨hx, hq⟩, hop, hvalue, hst, hseal⟩ => ?_)
      rw [changeKey_of_plain hx hq (by simp [Nat.not_lt.mpr hvalue, hst])]
      have hsome := Option.isSome_iff_ne_none.mp hseal
      simp [keyChange, keyNamed_of_subject hx, hop, hsome, hst]
      rfl
    · refine runsTo_of_runStep (fun _ => rfl) (fun s k ⟨⟨hx, hq⟩, hop, hseal⟩ => ?_)
      rw [changeKey_of_plain hx hq rfl]
      have hsome := Option.isSome_iff_ne_none.mp hseal
      simp [keyChange, keyNamed_of_subject hx, hop, hsome]
      rfl
    · refine runsTo_of_runStep (fun _ => rfl) (fun s k ⟨⟨hx, hq⟩, hop⟩ => ?_)
      rw [changeKey_of_plain hx hq rfl]
      simp [keyChange, keyNamed_of_subject hx, hop]
      rfl
    · refine runsTo_of_runStep (fun _ => rfl) (fun s k ⟨⟨hx, hq⟩, hop, hexport, husage⟩ => ?_)
      rw [changeKey_of_plain hx hq (if_pos ⟨hexport, husage⟩)]
      simp [keyChange, keyNamed_of_subject hx, hop]
      rfl
    · refine runsTo_of_runStep (fun _ => rfl) (fun s k ⟨hx, hq⟩ => ?_)
      simp [changeKey, hx, hq, pendingRequest]
    · refine runsTo_of_runStep (fun _ => rfl) (fun s k ⟨hx, hpin, hfits⟩ => ?_)
      simp only [hx, hpin, hfits, if_true, if_false]
    · refine runsTo_of_runStep (fun _ => rfl) (fun s k ⟨hx, hpin, hfits⟩ => ?_)
      simp [hx, hpin, hfits]
  · intro s k h hx
    obtain ⟨hpins, hrebuild, hkeys⟩ := unpinKey_keys (subjectBlock k) s
    refine ⟨unpinKey (subjectBlock k) s, exec_of_runStep rfl h ?_, ?_, ?_, fun b hb => ?_, hkeys⟩
    · rw [if_neg (by simpa [Option.isSome_iff_ne_none] using hx)]
      rfl
    · rw [hpins]; simp
    · rw [hrebuild]; simp
    · rw [hpins]; simp [hb]
  · exact runsTo_of_runStep (fun _ => rfl) (fun _ _ _ => rfl)
  · exact runsTo_of_runStep (fun _ => rfl) (fun _ _ _ => rfl)

/-- A key placed at a block stands there under its handle, and every other key is as it was. -/
theorem placeKey_of_nonce {b : Nat} {k : KeyBlock} {s : State} (h : (takeNonce keyPage s).isSome = true) :
    ∃ t y, placeKey b k s = some (mkHandle s.keys.domain k.cls (mget 0 s.keys.gens b) b, t) ∧
      t.keys.keys = mput b y s.keys.keys ∧ y.handle = mkHandle s.keys.domain k.cls (mget 0 s.keys.gens b) b ∧ y.material = k.material ∧ y.cls = k.cls ∧ y.usage = k.usage := by
  obtain ⟨⟨nonce, s1⟩, htake⟩ := Option.isSome_iff_exists.mp h
  have hplace : ∃ y : KeyBlock, placeKey b k s = some (mkHandle s.keys.domain k.cls (mget 0 s.keys.gens b) b, keyChanged b (intoCache b (putKey b y s1))) ∧
      y.handle = mkHandle s.keys.domain k.cls (mget 0 s.keys.gens b) b ∧ y.material = k.material ∧ y.cls = k.cls ∧ y.usage = k.usage := by
    simp only [placeKey, sealKey, htake, Option.map_some]
    exact ⟨_, rfl, rfl, rfl, rfl, rfl⟩
  obtain ⟨y, hplace, hy⟩ := hplace
  refine ⟨_, y, hplace, ?_, hy⟩
  have hcache : (intoCache b (putKey b y s1)).keys.keys = mput b y s1.keys.keys := by
    unfold intoCache
    split <;> rfl
  rw [((SameStores.keyChanged b ⟨rfl, rfl⟩ : SameStores (intoCache b (putKey b y s1)) _)).keys, hcache, (takeNonce_sameStores htake).keys]

theorem placeKey_of_no_nonce {b : Nat} {k : KeyBlock} {s : State} (h : takeNonce keyPage s = none) : placeKey b k s = none := by
  simp only [placeKey, sealKey, h, Option.map_none]

theorem createdKeysAreStored : CreatedKeysAreStored := by
  unfold CreatedKeysAreStored
  intro s k x hlen
  have hroom : ¬ k.job.hdr.outLen < 8 + ([] : Bytes).length := by
    rw [List.length_nil]
    omega
  refine ⟨fun hfree => ?_, fun b hfree hnonce => ?_, fun b hfree hnonce => ?_⟩
  · simp only [createKey, if_neg hroom, hfree]
  · simp only [createKey, if_neg hroom, hfree, placeKey_of_no_nonce hnonce]
  · obtain ⟨t, y, hplace, hkeys, hy⟩ := placeKey_of_nonce (b := b) (k := x) hnonce
    refine ⟨_, t, ?_, rfl, ⟨y, ?_, hy⟩, fun m hm => ?_⟩
    · simp only [createKey, if_neg hroom, hfree, hplace, List.append_nil]
    · rw [keyAt, hkeys, mfind_mput, if_pos rfl]
    · rw [keyAt, hkeys, mfind_mput, if_neg hm]
      rfl

/-- Settles O52: each operation by the answer of its step, a created key by its place, its nonce and the frames of what tells others of it. -/
theorem keyStoreOperationsRun : Obligations.KeyStoreOperationsRun := by
  unfold Obligations.KeyStoreOperationsRun
  exact ⟨keyOperationsRun, createdKeysAreStored⟩

/-! ### Applications and sessions -/

theorem runStep_of_call {op slot i : Nat} {s : State} {k : Call} {f : Call → State → Delivered × State} (h : callAt s op slot i = some k) :
    runStep op slot i f s = delivers slot i (f k s).1 (f k s).2 :=
  tryStep_of_call (f := fun c t => some (f c t)) h rfl

/-- Settles O8: each by the answer of its step. -/
theorem sessionOperationsRun : Obligations.SessionOperationsRun := by
  unfold Obligations.SessionOperationsRun
  intro slot i
  refine ⟨fun s k h hn hpoint hnone hd t hplace => ?_, fun s k hd t h hn hpoint hsome hplace => ?_, fun s k num h hn hsome hblock hzero hsig hpoint hkem hfree => ?_,
    fun s k n h hn hsession => ⟨?_, ?_, fun m hm => ?_⟩⟩
  · refine exec_of_runStep rfl h ?_
    simp only [if_neg (Nat.not_lt.mpr hn), hpoint, hnone, Option.isSome_none, Bool.false_eq_true, if_false, hplace]
  · refine exec_of_runStep rfl h ?_
    simp only [if_neg (Nat.not_lt.mpr hn), hpoint, hsome, if_true, hplace]
  · have hchecks : ¬ (1023 < leAt 0 2 k.src ∨ (keyAt s (appBlock (leAt 0 2 k.src))).isNone = true ∨
        handleBlock (selected k.job k.step.selA) ≠ appBlock (leAt 0 2 k.src)) := by
      rw [← Option.not_isSome]
      simp [Nat.not_lt.mpr hn, hsome, hblock]
    show ∃ d u tag, Host.Outcome.next (runStep 0x0511 slot i _ s) = .next (delivers slot i d u) ∧ _
    rw [runStep_of_call h]
    simp only [if_neg hchecks, hzero, hsig, hpoint, hkem, hfree, ne_eq, not_true_eq_false, if_false, Option.isSome_none, Bool.false_eq_true]
    exact ⟨_, _, _, rfl, rfl, by simp only [ok, List.append_assoc, List.take_left' (length_leBytes 2 num)], rfl, rfl⟩
  · refine exec_of_runStep rfl h ?_
    simp [hn, Option.isSome_iff_ne_none.mp hsession]
  · exact (mfind_merase _ _ _).trans (if_pos rfl)
  · exact (mfind_merase _ _ _).trans (if_neg hm)

end Sys2Proof.Machine

end

section
/-!
SUPPORT. A read of the code flash that corrects a word. O53, refuted.
-/
namespace Sys2Proof.Machine
open Sys2Proof Sys2Proof.Statements

/-! ### A read of the code flash that corrects a word -/

/-- A step whose engine work has not ended holds its result back. -/
theorem tryEnd_of_work {slot i : Nat} {s : State} {j : Job} (hj : jobAt s slot = some j) (hw : workDone (stepAt j i).work = false) : tryEnd slot i s = s := by
  unfold tryEnd
  simp only [hj, hw]
  split <;> simp

/-- A word of the inactive boot slot with its first byte in error, and a step that reads it while work of its engine is left. -/
def stageReadState : State :=
  { jobs := [(0, { hdr := { opcode := 0x0F11 }, input := [0, 0, 0, 0, 0, 0, 0, 0, 32, 0, 0, 0],
                   steps := [{ step := { opcode := 0x0F11 }, checked := true, work := [[{ kind := 0, slices := 1 }]] }] })],
    flash := { words := [(131072, some (List.replicate 32 0))] },
    rowFaults := [((RowPlace.codeFlash (32 * 131072)).address.toNat, (List.replicate 36 0).set 0 1)] }

theorem flashRead_of_error {s : State} {i n : Nat} {w : Bytes} {e : Byte} (hw : w.length = 32) (hn : n < 36) (he : e ≠ 0)
    (h : mfind (RowPlace.codeFlash (32 * i)).address.toNat s.rowFaults = some ((List.replicate 36 0).set n e)) : flashRead s i w = .corrected w := by
  unfold flashRead
  simp only [h]
  rw [fit_of_length (by simp), xorBytes_single (length_storeRow (data := w) _ _), readRow_flipAt hw hn he]

theorem flashRead_stageReadState : flashRead stageReadState 131072 (List.replicate 32 0) = .corrected (List.replicate 32 0) :=
  flashRead_of_error (n := 0) (e := 1) (by simp) (by decide) (by decide) (by decide +kernel)

theorem delivers_flash {t : State} (h : t.jobs = stageReadState.jobs) (d : Delivered) : (delivers 0 0 d t).flash = t.flash := by
  have hjob : ∃ j, jobAt (modStep 0 0 (fun x => { x with delivered := some d }) t) 0 = some j ∧ workDone (stepAt j 0).work = false := by
    simp only [modStep, modJob, h, stageReadState, mfind, if_true, jobAt, mput, Nat.lt_irrefl, if_false]
    exact ⟨_, rfl, rfl⟩
  obtain ⟨j, hj, hw⟩ := hjob
  rw [delivers, tryEnd_of_work hj hw]
  simp

section
variable {s : State} {addr : Nat} {w v : Bytes}

theorem readWords_of_corrected (hi : (sectorAt s (addr / 0x10000)).interrupted = false) (hat : wordAt s (wordIndex s addr) = some (some w))
    (hread : flashRead s (wordIndex s addr) w = .corrected v) : readWords s addr 1 = some (fit 32 v) := by
  simp [readWords, readWord, hi, hat, hread, RowRead.delivers]

theorem noteRead_of_corrected (hat : wordAt s (wordIndex s addr) = some (some w)) (hread : flashRead s (wordIndex s addr) w = .corrected v) :
    noteRead addr 1 s = noteCorrected addr w s := by
  simp [noteRead, repeatIdx, hat, hread, RowRead.mended]

/-- A correction in a sector that holds no area of the module itself is counted, and nothing is written. -/
theorem noteCorrected_counts (h : addr / 0x10000 < 128) :
    (noteCorrected addr w s).flash.corrected = satInc s.flash.corrected ∧ (noteCorrected addr w s).jobs = s.jobs := by
  have hrenew : renewLatest addr w (countCorrected addr s) = countCorrected addr s := by
    unfold renewLatest
    extract_lets sec
    split
    · rw [if_neg (by omega), if_neg (by omega)]
    · rfl
  rw [noteCorrected, hrenew]
  simp [countCorrected, modSector, modFlash]

end

theorem wordIndex_stageReadState : wordIndex stageReadState 0x400000 = 131072 := by decide

theorem wordAt_stageReadState : wordAt stageReadState (wordIndex stageReadState 0x400000) = some (some (List.replicate 32 0)) := by
  rw [wordIndex_stageReadState]
  decide

theorem corrected_stageReadState : flashRead stageReadState (wordIndex stageReadState 0x400000) (List.replicate 32 0) = .corrected (List.replicate 32 0) := by
  rw [wordIndex_stageReadState]
  exact flashRead_stageReadState

theorem readWords_stageReadState : readWords stageReadState 0x400000 1 = some (List.replicate 32 0) :=
  (readWords_of_corrected (by decide) wordAt_stageReadState corrected_stageReadState).trans (by decide)

/-- Refutes O53: a staging read whose word has a byte in error delivers the word corrected, and counts the correction (R606); the statement leaves the state as it was. -/
theorem not_deviceOperationsRun : ¬ Obligations.DeviceOperationsRun := by
  unfold Obligations.DeviceOperationsRun StagingOperationsRun
  rintro ⟨-, hstaging, -, -⟩
  obtain ⟨-, hread, -, -⟩ := hstaging 0 0
  obtain ⟨k, hk⟩ : ∃ k, callAt stageReadState 0x0F11 0 0 = some k := Option.isSome_iff_exists.mp (by decide)
  have hsrc : k.src = [0, 0, 0, 0, 0, 0, 0, 0, 32, 0, 0, 0] := by
    have hcall : (callAt stageReadState 0x0F11 0 0).map Call.src = some [0, 0, 0, 0, 0, 0, 0, 0, 32, 0, 0, 0] := by decide
    rw [hk] at hcall
    exact Option.some.inj hcall
  have hclaim := hread (List.replicate 32 0) stageReadState k hk (by
    dsimp only
    rw [hsrc]
    exact ⟨by decide, by decide, by decide, by decide, by decide, by decide, by decide, readWords_stageReadState⟩)
  have hexec : exec (.opFlsStageRead 0 0) stageReadState = .next (delivers 0 0 (ok (List.replicate 32 0)) (noteRead 0x400000 1 stageReadState)) := by
    refine exec_of_runStep rfl hk ?_
    rw [hsrc]
    have hwords : readWords stageReadState (inactiveBase stageReadState (byteAt 0 [0, 0, 0, 0, 0, 0, 0, 0, 32, 0, 0, 0]) +
        leAt 4 4 [0, 0, 0, 0, 0, 0, 0, 0, 32, 0, 0, 0] / 32 * 32)
        (ceilDiv (leAt 4 4 [0, 0, 0, 0, 0, 0, 0, 0, 32, 0, 0, 0] % 32 + leAt 8 4 [0, 0, 0, 0, 0, 0, 0, 0, 32, 0, 0, 0]) 32) = some (List.replicate 32 0) :=
      readWords_stageReadState
    simp only [hwords]
    rfl
  rw [hexec] at hclaim
  have hflash := congrArg (fun s => s.flash.corrected) (Host.Outcome.next.inj hclaim)
  obtain ⟨hcount, hjobs⟩ := noteCorrected_counts (s := stageReadState) (addr := 0x400000) (w := List.replicate 32 0) (by decide)
  rw [noteRead_of_corrected wordAt_stageReadState corrected_stageReadState] at hflash
  simp only [delivers_flash hjobs, delivers_flash rfl, hcount] at hflash
  exact absurd hflash (by decide)

end Sys2Proof.Machine

end

section
/-!
SUPPORT. Tenant images and invocations. O9.
-/
namespace Sys2Proof.Machine
open Sys2Proof Sys2Proof.Statements

/-! ### Tenant images and invocations -/

/-- A call is of a job's step of its opcode. -/
theorem callAt_job {s : State} {op slot i : Nat} {k : Call} (h : callAt s op slot i = some k) : ∃ j, jobAt s slot = some j ∧ (stepAt j i).step.opcode = op := by
  unfold callAt at h
  split at h
  · cases h
  · next j hj =>
    dsimp only at h
    split at h
    · cases h
    · next hc =>
      exact ⟨j, hj, Decidable.byContradiction fun hop => hc (.inr (.inl hop))⟩

theorem retireTenant_of_not_loaded {s : State} {op : Nat} (h : tenantLoaded s op = false) : retireTenant op s = s := by
  have hnone : mfind op s.tenants = none := by simpa [tenantLoaded] using h
  simp only [retireTenant, hnone]

theorem tenants_loadTenant (h code rodata digest : Bytes) (row place : Nat) (s : State) : mfind (leAt 6 2 h) (loadTenant h code rodata row place digest s).tenants =
    some { header := h, code := code, rodata := rodata, digest := digest, firstRow := row, place := place } := by
  unfold loadTenant
  dsimp only
  rw [(raise_frame _ _ _ _).2.2.2.2.2.2.2.2.2.2.2.2.2.2.2.2.2.2.2.2.1]
  exact (mfind_mput _ _ _ _).trans (if_pos rfl)

/-- Settles O9: each by the answer of its step, an invocation by the core's record that it leaves. -/
theorem tenantOperationsRun : Obligations.TenantOperationsRun := by
  unfold Obligations.TenantOperationsRun
  intro slot i
  refine ⟨?_, ?_, fun y => ?_, ?_⟩
  · intro s k row place h x hd signed hok halg hlen hsigned hloaded hrow hplace
    refine ⟨_, exec_of_runStep rfl h ?_, tenants_loadTenant hd _ _ _ _ _ s⟩
    dsimp only
    rw [retireTenant_of_not_loaded hloaded, if_neg (not_or.mpr ⟨not_not_intro hok, not_not_intro halg⟩)]
    rw [if_neg (by rw [halg]; exact not_not_intro hlen), if_neg (by rw [halg]; exact not_not_intro hsigned), hrow, hplace]
  · exact runsTo_of_runStep (fun _ => rfl) (fun s k hloaded => if_pos hloaded)
  · exact runs_of_runPure (fun _ => rfl) (fun s k _ hy => by simp only [hy])
  · intro s core op b k y hrun hop hk hy hidle hhalted hcore
    obtain ⟨j, hj, hopcode⟩ := callAt_job hk
    have hstarts : ¬ (core ≠ core ∨ ¬ isTenantOp op = true ∨ (coreAt s core).running.isSome = true ∨ (coreAt s core).halted = true) := by
      simp [hop, hidle, hhalted]
    refine ⟨fun hparked => ?_, fun v r hparked hslot hstep hsteps => ?_⟩
    · show ∃ t, execTenantProgramInvoke slot i core s = .next t ∧ _
      simp only [execTenantProgramInvoke, hrun, hj, hopcode, hk, hy, if_neg hstarts, hparked]
      refine ⟨_, rfl, ?_⟩
      rw [coreAt_modCore, if_pos rfl]
      exact ⟨rfl, rfl, rfl, _, rfl, rfl, rfl, rfl⟩
    · show ∃ t, execTenantProgramInvoke slot i core s = .next t ∧ _
      obtain ⟨n, hn⟩ : ∃ n, v.steps = n + 1 := ⟨v.steps - 1, by omega⟩
      simp only [execTenantProgramInvoke, hrun, hj, hopcode, hk, hy, if_neg hstarts, hparked, hslot, hstep, and_self, if_true, hn]
      refine ⟨_, rfl, ?_⟩
      rw [coreAt_modCore, if_pos rfl]
      exact ⟨rfl, rfl, rfl⟩

end Sys2Proof.Machine

end

section
/-!
SUPPORT. What a channel's own bookkeeping leaves alone.
-/
namespace Sys2Proof.Machine
open Sys2Proof Sys2Proof.Statements

/-! ### What a channel's own bookkeeping leaves alone -/

theorem noteDropped_same (before : BitVec 16) (s : State) : SameButEvents s (noteDropped before s) := by
  unfold noteDropped
  split
  · exact .refl s
  · exact (raiseAs_same _ _ _ _ s).1

theorem raiseChan_same (ch code detail : Nat) (s : State) : SameButEvents s (raiseChan ch code detail s) :=
  (raiseAs_same _ _ _ _ s).1.trans (noteDropped_same _ _)

/-- Between the two states nothing but channels, events and outputs has changed, no other channel at all, and of channel `ch` neither where its rings stand nor what
waits to be posted; and the channel does not begin to quiesce. -/
structure ChanQuiet (ch : Nat) (s t : State) : Prop where
  rest : t = { s with chans := t.chans, units := t.units, msix := t.msix, recorder := t.recorder, out := t.out }
  others : ∀ n, n ≠ ch → chanAt t n = chanAt s n
  sqHead : (chanAt t ch).sqHead = (chanAt s ch).sqHead
  refusals : (chanAt t ch).refusals = (chanAt s ch).refusals
  cqHead : (chanAt t ch).cqHead = (chanAt s ch).cqHead
  quiescing : (chanAt t ch).state = .quiescing → (chanAt s ch).state = .quiescing

namespace ChanQuiet
variable {ch : Nat} {s t u : State}

theorem refl (ch : Nat) (s : State) : ChanQuiet ch s s := ⟨rfl, fun _ _ => rfl, rfl, rfl, rfl, id⟩

theorem trans (h : ChanQuiet ch s t) (g : ChanQuiet ch t u) : ChanQuiet ch s u :=
  ⟨by rw [g.rest, h.rest], fun n hn => (g.others n hn).trans (h.others n hn), g.sqHead.trans h.sqHead, g.refusals.trans h.refusals, g.cqHead.trans h.cqHead,
    fun hu => h.quiescing (g.quiescing hu)⟩

theorem ite {p : Prop} [Decidable p] (ht : ChanQuiet ch s t) (hu : ChanQuiet ch s u) : ChanQuiet ch s (if p then t else u) := by
  split
  · exact ht
  · exact hu

/-- What changes no channel changes nothing of it. -/
theorem of_chans (hr : u = { t with units := u.units, msix := u.msix, recorder := u.recorder, out := u.out }) (h : ChanQuiet ch s t) : ChanQuiet ch s u := by
  have hchans : u.chans = t.chans := by rw [hr]
  have hat : ∀ n, chanAt u n = chanAt t n := fun n => by rw [chanAt, chanAt, hchans]
  exact h.trans ⟨by rw [hr], fun n _ => hat n, by rw [hat], by rw [hat], by rw [hat], by rw [hat]; exact id⟩

theorem events (hs : SameButEvents t u) (h : ChanQuiet ch s t) : ChanQuiet ch s u :=
  h.of_chans (by unfold SameButEvents at hs; rw [hs])

theorem emit {o : Output} (h : ChanQuiet ch s t) : ChanQuiet ch s (emit o t) := h.of_chans rfl

theorem modChan {f : Chan → Chan} (hs : ∀ c, (f c).sqHead = c.sqHead) (hr : ∀ c, (f c).refusals = c.refusals) (hc : ∀ c, (f c).cqHead = c.cqHead)
    (hq : ∀ c, (f c).state = .quiescing → c.state = .quiescing) (h : ChanQuiet ch s t) : ChanQuiet ch s (modChan ch f t) := by
  have hat : chanAt (Machine.modChan ch f t) ch = f (chanAt t ch) := by rw [chanAt_modChan, if_pos rfl]
  exact h.trans ⟨rfl, fun n hn => by rw [chanAt_modChan, if_neg hn], by rw [hat, hs], by rw [hat, hr], by rw [hat, hc], by rw [hat]; exact hq _⟩

theorem alert {b : Nat} (h : ChanQuiet ch s t) : ChanQuiet ch s (alert ch b t) := by
  refine modChan (fun c => ?_) (fun c => ?_) (fun c => ?_) (fun c => ?_) h <;> split <;> first | rfl | exact id

theorem raiseChan {code detail : Nat} (h : ChanQuiet ch s t) : ChanQuiet ch s (raiseChan ch code detail t) := h.events (raiseChan_same ..)

theorem halt {result : Nat} (h : ChanQuiet ch s t) : ChanQuiet ch s (halt ch result t) :=
  raiseChan (alert (modChan (fun _ => rfl) (fun _ => rfl) (fun _ => rfl) (fun _ hq => by cases hq) h))

theorem readDirect {ls : List Nat} (h : ChanQuiet ch s t) : ChanQuiet ch s (readDirect ch ls t) :=
  forAll_ind (p := ChanQuiet ch s) (fun _ _ hu => emit hu) _ _ (modChan (fun _ => rfl) (fun _ => rfl) (fun _ => rfl) (fun _ => id) h)

theorem settleLines (h : ChanQuiet ch s t) : ChanQuiet ch s (settleLines ch t) := by
  refine .ite h ?_
  exact forAll_ind (p := ChanQuiet ch s) (fun _ _ hu => emit hu) _ _
    (forAll_ind (p := ChanQuiet ch s) (fun _ _ hu => emit hu) _ _ (modChan (fun _ => rfl) (fun _ => rfl) (fun _ => rfl) (fun _ => id) h))

theorem evict (h : ChanQuiet ch s t) : ChanQuiet ch s (evict ch t) := settleLines (modChan (fun _ => rfl) (fun _ => rfl) (fun _ => rfl) (fun _ => id) h)

theorem tryQuiesce (h : ChanQuiet ch s t) : ChanQuiet ch s (tryQuiesce ch t) :=
  .ite (raiseChan (alert (evict (modChan (fun _ => rfl) (fun _ => rfl) (fun _ => rfl) (fun _ hq => by cases hq) h)))) h

theorem examine (h : ChanQuiet ch s t) : ChanQuiet ch s (examine ch t) := by
  unfold Machine.examine
  refine .ite ?_ h
  extract_lets k pos
  split
  · exact h
  · refine .ite (halt h) ?_
    split
    · exact halt h
    · exact .ite h (modChan (fun _ => rfl) (fun _ => rfl) (fun _ => rfl) (fun _ => id) h)
    · exact .ite (halt h) (.ite (halt h) (.ite (halt h) (.ite (modChan (fun _ => rfl) (fun _ => rfl) (fun _ => rfl) (fun _ => id) h) (readDirect h))))

theorem jobs (h : ChanQuiet ch s t) : t.jobs = s.jobs := by rw [h.rest]

theorem audit (h : ChanQuiet ch s t) : t.audit = s.audit := by rw [h.rest]

end ChanQuiet

end Sys2Proof.Machine

end

section
/-!
SUPPORT. Entries admitted, refused and skipped. O10.
-/
namespace Sys2Proof.Machine
open Sys2Proof Sys2Proof.Statements

/-! ### Entries taken off a submission ring -/

section
variable {s t : State} {ch : Nat} {e : Entry}

/-- The consumer index moves past the entry that stood at the head. -/
theorem takeHead_of_head (he : (chanAt s ch).head = some e) :
    ∃ f : Chan → Chan, ChanQuiet ch (modChan ch f s) (takeHead ch s) ∧ (f (chanAt s ch)).sqHead = (chanAt s ch).sqHead + BitVec.ofNat 32 (e.slots.length / 64) ∧
      (f (chanAt s ch)).refusals = (chanAt s ch).refusals ∧ (f (chanAt s ch)).state = (chanAt s ch).state := by
  unfold takeHead
  extract_lets c
  rw [he]
  exact ⟨_, ChanQuiet.settleLines (.refl ch _), rfl, rfl, rfl⟩

/-- The head taken: where the ring then stands, what waits, and what else is as it was. -/
structure Taken (ch : Nat) (e : Entry) (s t : State) : Prop where
  sqHead : (chanAt t ch).sqHead = (chanAt s ch).sqHead + BitVec.ofNat 32 (e.slots.length / 64)
  refusals : (chanAt t ch).refusals = (chanAt s ch).refusals
  jobs : t.jobs = s.jobs
  audit : t.audit = s.audit
  quiescing : (chanAt t ch).state = .quiescing → (chanAt s ch).state = .quiescing

theorem taken_takeHead (he : (chanAt s ch).head = some e) : Taken ch e s (takeHead ch s) := by
  obtain ⟨f, hquiet, hsq, hrefusals, hstate⟩ := takeHead_of_head he
  have hat : chanAt (modChan ch f s) ch = f (chanAt s ch) := by rw [chanAt_modChan, if_pos rfl]
  refine ⟨?_, ?_, hquiet.jobs, hquiet.audit, fun hq => ?_⟩
  · rw [hquiet.sqHead, hat, hsq]
  · rw [hquiet.refusals, hat, hrefusals]
  · rw [← hstate, ← hat]
    exact hquiet.quiescing hq

theorem Taken.quiet {u : State} (h : Taken ch e s t) (g : ChanQuiet ch t u) : Taken ch e s u :=
  ⟨g.sqHead.trans h.sqHead, g.refusals.trans h.refusals, g.jobs.trans h.jobs, g.audit.trans h.audit, fun hu => h.quiescing (g.quiescing hu)⟩

/-- After an entry is decided, a channel that does not quiesce looks at its next one. -/
theorem quiet_lookOn (h : (chanAt t ch).state ≠ .quiescing) :
    ChanQuiet ch t (let s2 := examine ch t
      if (chanAt s2 ch).state = .quiescing ∧ (chanAt s2 ch).withdrawing then withdrawChan ch 0x0A01 s2 else tryQuiesce ch s2) := by
  have hexamined := ChanQuiet.examine (ChanQuiet.refl ch t)
  dsimp only
  rw [if_neg (fun hq => h (hexamined.quiescing hq.1))]
  exact hexamined.tryQuiesce

/-- The decision looks at nothing that passing the turn changes. -/
theorem verdict_passTurn (s : State) (ch n v : Nat) (h : Header) (slots : Bytes) : verdict (passTurn n s) ch v h slots = verdict s ch v h slots := rfl

theorem decideHead_of_real (hturn : nextTurn s = some ch) (he : (chanAt s ch).head = some e) (hreal : (parseHeader e.slots).opcode ≠ 0x0F00)
    (hq : (chanAt (decideEntry ch e (passTurn ch s)) ch).state ≠ .quiescing) : ChanQuiet ch (decideEntry ch e (passTurn ch s)) (decideHead ch s) := by
  have hlook := quiet_lookOn hq
  unfold decideHead
  simp only [hturn, he, ne_eq, not_true_eq_false, if_false, if_neg hreal]
  exact hlook

/-! ### An entry refused -/

/-- What `refuse` leaves: one item more that waits to be posted. -/
theorem refuse_of_head {h : Header} {slots : Bytes} {r : Nat} (he : (chanAt s ch).head = some e) :
    ∃ w : Waiting, (chanAt (refuse ch h slots r s) ch).refusals = (chanAt s ch).refusals ++ [w] ∧ w.result = r ∧ w.cookie = h.cookie ∧ w.opcode = h.opcode ∧
      (chanAt (refuse ch h slots r s) ch).sqHead = (chanAt s ch).sqHead + BitVec.ofNat 32 (e.slots.length / 64) ∧ (refuse ch h slots r s).jobs = s.jobs ∧
      ((chanAt (refuse ch h slots r s) ch).state = .quiescing → (chanAt s ch).state = .quiescing) := by
  have htaken := taken_takeHead he
  let w : Waiting := { cookie := h.cookie, sqIndex := h.stamp, result := r, cls := h.cls, swath := now s, opcode := h.opcode, keyA := h.keyA, inDig := inputDigest slots [] }
  have hat : chanAt (modChan ch (fun c => { c with refusals := c.refusals ++ [w] }) (takeHead ch s)) ch =
      { chanAt (takeHead ch s) ch with refusals := (chanAt (takeHead ch s) ch).refusals ++ [w] } := by rw [chanAt_modChan, if_pos rfl]
  have hquiet : ChanQuiet ch (modChan ch (fun c => { c with refusals := c.refusals ++ [w] }) (takeHead ch s)) (refuse ch h slots r s) :=
    .ite (.raiseChan (.refl ..)) (.refl ..)
  refine ⟨w, ?_, rfl, rfl, rfl, ?_, hquiet.jobs.trans htaken.jobs, fun hq => htaken.quiescing ?_⟩
  · rw [hquiet.refusals, hat, htaken.refusals]
  · rw [hquiet.sqHead, hat]
    exact htaken.sqHead
  · have hq' := hquiet.quiescing hq
    rwa [hat] at hq'

theorem fetchPair_frame (h : Header) (slots : Bytes) (s : State) : (fetchPair h slots s).chans = s.chans ∧ (fetchPair h slots s).jobs = s.jobs := by
  unfold fetchPair
  split
  · refine forAll_ind (p := fun t : State => t.chans = s.chans ∧ t.jobs = s.jobs) (fun _ _ ht => ?_) _ _ ⟨rfl, rfl⟩
    exact ht
  · exact ⟨rfl, rfl⟩

/-- What the counters of a refusal change besides: neither channels nor jobs. -/
theorem countedRefusal_frame (h : Header) (slots : Bytes) (r : Nat) (counted : Bool) (s : State) :
    let t := if counted then countRefused (if r = 0x0202 then fetchPair h slots s else s) else s
    t.chans = s.chans ∧ t.jobs = s.jobs := by
  cases counted with
  | false => exact ⟨rfl, rfl⟩
  | true =>
    by_cases hr : r = 0x0202
    · simp only [hr, if_true]
      exact fetchPair_frame h slots s
    · simp only [hr, if_true, if_false]
      exact ⟨rfl, rfl⟩

/-! ### An entry admitted -/

theorem sessionAdmit_frame (h : Header) (slots : Bytes) (s : State) : (sessionAdmit h slots s).2.2.chans = s.chans ∧ (sessionAdmit h slots s).2.2.jobs = s.jobs := by
  unfold sessionAdmit
  split
  · exact ⟨rfl, rfl⟩
  · extract_lets n
    split
    · exact ⟨rfl, rfl⟩
    · extract_lets e1 fail
      have hfail : ∀ u, (fail u).chans = u.chans ∧ (fail u).jobs = u.jobs := fun u => by
        simp only [fail]
        split
        · simp [closeSession]
        · exact ⟨rfl, rfl⟩
      split
      · exact hfail s
      · split
        · exact hfail s
        · split
          · exact ⟨rfl, rfl⟩
          · dsimp only
            split <;> exact ⟨rfl, rfl⟩

/-- Asking for input changes how much of it the job has asked for. -/
theorem askInput_jobs (slot : Nat) {j : Job} (hj : jobAt s slot = some j) :
    (∃ n, jobAt (askInput slot s) slot = some { j with asked := n }) ∧ (∀ k, k ≠ slot → jobAt (askInput slot s) k = jobAt s k) ∧ (askInput slot s).chans = s.chans := by
  simp only [askInput, hj]
  split
  · exact ⟨⟨j.asked, hj⟩, fun _ _ => rfl, rfl⟩
  · refine ⟨⟨j.asked + if isChained j then j.hdr.inLen else min 4096 (j.hdr.inLen - j.asked), ?_⟩, fun k hk => ?_, by simp [emit]⟩
    · exact (jobAt_modJob ..).trans (by rw [if_pos rfl, hj]; rfl)
    · exact (jobAt_modJob ..).trans (if_neg hk)

theorem recordRead_frame (block : Option Nat) (w : Nat) (s : State) : (recordRead block w s).chans = s.chans ∧ (recordRead block w s).jobs = s.jobs := by
  unfold recordRead
  split <;> exact ⟨rfl, rfl⟩

/-- What admission counts changes neither channels nor jobs. -/
theorem admission_frame (h : Header) (slots : Bytes) (first : Option Nat) (l : List LedgerSwath) (visible : Nat) (s : State) :
    ∃ u : State, u.chans = s.chans ∧ u.jobs = s.jobs ∧
      (let s0 := recordRead (if h.cls = 0 then class0Block s h slots else none) (first.getD 0 + keySwaths s h slots) { s with sched := { s.sched with ledger := l } }
       let s2 := if h.cls = 0 then
           { s0 with sched := { s0.sched with admitted := satInc s0.sched.admitted, spilled := if first = some (visible + 2) then satInc s0.sched.spilled else s0.sched.spilled } }
         else s0
       admitJob ch h slots first s2) = admitJob ch h slots first u := by
  obtain ⟨hchans, hjobs⟩ :=
    recordRead_frame (if h.cls = 0 then class0Block s h slots else none) (first.getD 0 + keySwaths s h slots) { s with sched := { s.sched with ledger := l } }
  extract_lets src s0 src0 s2
  have hcounted : s2.chans = s0.chans ∧ s2.jobs = s0.jobs := by
    simp only [s2]
    split <;> exact ⟨rfl, rfl⟩
  exact ⟨s2, hcounted.1.trans hchans, hcounted.2.trans hjobs, rfl⟩

theorem admitJob_of_head {h : Header} {slots : Bytes} {first : Option Nat} (he : (chanAt s ch).head = some e) :
    ∃ j, jobAt (admitJob ch h slots first s) (freeSlot s) = some j ∧ j.hdr = h ∧ j.chan = ch ∧ j.runClass = h.cls ∧ j.first = first ∧ j.stage = .admitted ∧
      (∀ k, k ≠ freeSlot s → jobAt (admitJob ch h slots first s) k = jobAt s k) ∧
      (chanAt (admitJob ch h slots first s) ch).sqHead = (chanAt s ch).sqHead + BitVec.ofNat 32 (e.slots.length / 64) ∧
      ((chanAt (admitJob ch h slots first s) ch).state = .quiescing → (chanAt s ch).state = .quiescing) := by
  obtain ⟨hschans, hsjobs⟩ := sessionAdmit_frame h slots s
  unfold admitJob
  extract_lets slot r j0 opened j s1 src s2
  have hat : chanAt r.2.2 ch = chanAt s ch := by rw [chanAt, hschans, chanAt]
  have htaken : Taken ch e r.2.2 s1 := taken_takeHead (by rw [hat]; exact he)
  have hjob : jobAt s2 slot = some j := (mfind_mput _ _ _ _).trans (if_pos rfl)
  have hothers : ∀ k, k ≠ slot → jobAt s2 k = jobAt s k := fun k hk => by
    refine (mfind_mput _ _ _ _).trans ((if_neg hk).trans ?_)
    rw [htaken.jobs, hsjobs]
    rfl
  have hsq : (chanAt s2 ch).sqHead = (chanAt s ch).sqHead + BitVec.ofNat 32 (e.slots.length / 64) := by rw [← hat]; exact htaken.sqHead
  have hstate : (chanAt s2 ch).state = .quiescing → (chanAt s ch).state = .quiescing := fun hq => by rw [← hat]; exact htaken.quiescing hq
  split
  · obtain ⟨⟨n, hn⟩, hk, hc⟩ := askInput_jobs slot hjob
    have hchan : chanAt (askInput slot s2) ch = chanAt s2 ch := by rw [chanAt, hc, chanAt]
    refine ⟨_, hn, rfl, rfl, rfl, rfl, rfl, fun k hne => (hk k hne).trans (hothers k hne), ?_, ?_⟩
    · rw [hchan]; exact hsq
    · rw [hchan]; exact hstate
  · exact ⟨j, hjob, rfl, rfl, rfl, rfl, rfl, hothers, hsq, hstate⟩

end

/-- Settles O10: the decision of the entry at the head, the head taken, and the look at the next one that changes nothing of either. -/
theorem entriesAreAdmittedRefusedOrSkipped : Obligations.EntriesAreAdmittedRefusedOrSkipped := by
  unfold Obligations.EntriesAreAdmittedRefusedOrSkipped
  intro s ch delay e c h past
  refine ⟨fun hd hdelay => ?_, fun he hturn hskip => ?_⟩
  · obtain ⟨he, hturn, hrun, hreal, -⟩ := hd
    have hexec : exec (.jobAdmission ch delay) s = .next (decideHead ch s) := by
      show Host.Outcome.next (decideHead ch (if _ then _ else s)) = _
      rw [if_neg (fun hlate => Nat.not_lt.mpr hdelay hlate.2)]
    have hrunning : (chanAt s ch).state ≠ .quiescing := by rw [hrun]; decide
    refine ⟨fun first l hv => ?_, fun r counted hv => ?_⟩
    · have hdecide : ∃ u : State, u.chans = s.chans ∧ u.jobs = s.jobs ∧ decideEntry ch e (passTurn ch s) = admitJob ch h e.slots first u := by
        have hv' : verdict (passTurn ch s) ch e.visible (parseHeader e.slots) e.slots = .admitAt first l := hv
        unfold decideEntry
        simp only [hv']
        exact admission_frame h e.slots first l e.visible (passTurn ch s)
      obtain ⟨u, hchans, hjobs, hdecide⟩ := hdecide
      have hat : chanAt u ch = chanAt s ch := by rw [chanAt, hchans, chanAt]
      have hslot : freeSlot u = freeSlot s := by rw [freeSlot, hjobs, freeSlot]
      obtain ⟨j, hj, hhdr, hchan, hcls, hfirst, hstage, hothers, hsq, hq⟩ := admitJob_of_head (h := h) (slots := e.slots) (first := first) (s := u) (by rw [hat]; exact he)
      have hquiet := decideHead_of_real hturn he hreal (by rw [hdecide]; exact fun hq' => hrunning (hat ▸ hq hq'))
      rw [hdecide] at hquiet
      have hjobAt : ∀ k, jobAt (decideHead ch s) k = jobAt (admitJob ch h e.slots first u) k := fun k => by rw [jobAt, hquiet.jobs, jobAt]
      refine ⟨_, j, hexec, ?_, hhdr, hchan, hcls, hfirst, hstage, ?_, fun k hk => ?_⟩
      · rw [hjobAt, ← hslot, hj]
      · rw [hquiet.sqHead, hsq, hat]
      · rw [hjobAt, hothers k (hslot ▸ hk), jobAt, hjobs, jobAt]
    · have hdecide : ∃ u : State, u.chans = s.chans ∧ u.jobs = s.jobs ∧ decideEntry ch e (passTurn ch s) = refuse ch h e.slots r u := by
        refine ⟨_, (countedRefusal_frame h e.slots r counted (passTurn ch s)).1, (countedRefusal_frame h e.slots r counted (passTurn ch s)).2, ?_⟩
        have hv' : verdict (passTurn ch s) ch e.visible (parseHeader e.slots) e.slots = .refuseWith r counted := hv
        unfold decideEntry
        simp only [hv']
        rfl
      obtain ⟨u, hchans, hjobs, hdecide⟩ := hdecide
      have hat : chanAt u ch = chanAt s ch := by rw [chanAt, hchans, chanAt]
      obtain ⟨w, hw, hresult, hcookie, hopcode, hsq, hj, hq⟩ := refuse_of_head (h := h) (slots := e.slots) (r := r) (s := u) (by rw [hat]; exact he)
      have hquiet := decideHead_of_real hturn he hreal (by rw [hdecide]; exact fun hq' => hrunning (hat ▸ hq hq'))
      rw [hdecide] at hquiet
      refine ⟨_, w, hexec, ?_, hresult, hcookie, hopcode, ?_, ?_⟩
      · rw [hquiet.refusals, hw, hat]
      · rw [hquiet.sqHead, hsq, hat]
      · rw [hquiet.jobs, hj, hjobs]
  · have htaken : Taken ch e (passTurn ch s) (takeHead ch (passTurn ch s)) := taken_takeHead he
    have hdone := htaken.quiet (.tryQuiesce (.examine (.refl ..)))
    refine ⟨decideHead ch s, ?_, ?_⟩
    · show execOpSkip ch s = _
      have he' : (chanAt s ch).head = some e := he
      simp only [execOpSkip, he', if_pos (show (parseHeader e.slots).opcode = 0x0F00 from hskip)]
    · have hhead : decideHead ch s = skipHead ch (passTurn ch s) := by
        have he' : (chanAt s ch).head = some e := he
        simp only [decideHead, hturn, he', ne_eq, not_true_eq_false, if_false, if_pos (show (parseHeader e.slots).opcode = 0x0F00 from hskip)]
      rw [hhead]
      exact ⟨hdone.sqHead, hdone.jobs, hdone.audit⟩

end Sys2Proof.Machine

end

section
/-!
SUPPORT. How a job's result reaches the job. O5.
-/
namespace Sys2Proof.Machine
open Sys2Proof Sys2Proof.Statements

/-! ### How a job's result reaches the job -/

section
variable {s t : State} {slot : Nat} {j : Job}

theorem jobAt_modJob_same {f : Job → Job} (h : jobAt s slot = some j) : jobAt (modJob slot f s) slot = some (f j) := by
  rw [jobAt_modJob, if_pos rfl, h]
  rfl

theorem jobAt_modJob_other {n : Nat} {f : Job → Job} (h : n ≠ slot) : jobAt (modJob slot f s) n = jobAt s n := by
  rw [jobAt_modJob, if_neg h]

theorem jobAt_modStep_same {i : Nat} {f : StepRun → StepRun} (h : jobAt s slot = some j) :
    jobAt (modStep slot i f s) slot = some { j with steps := j.steps.set i (f (stepAt j i)) } := jobAt_modJob_same h

theorem jobAt_finishJob (h : jobAt s slot = some j) (result : Nat) :
    jobAt (finishJob slot result s) slot = some { j with stage := .finished, result := result, finished := now s, steps := j.steps.map dropKeys } :=
  jobAt_modJob_same (s := dropLedger slot (dropStep slot none s)) h

/-! #### Jobs other than the one at a slot -/

/-- All jobs but the one at the slot are as they were. -/
def OnlyJob (slot : Nat) (s t : State) : Prop := ∀ n, n ≠ slot → jobAt t n = jobAt s n

theorem OnlyJob.refl (slot : Nat) (s : State) : OnlyJob slot s s := fun _ _ => rfl

theorem OnlyJob.ite {p : Prop} [Decidable p] {u : State} (ht : OnlyJob slot s t) (hu : OnlyJob slot s u) : OnlyJob slot s (if p then t else u) := by
  split
  · exact ht
  · exact hu

theorem OnlyJob.modJob {f : Job → Job} (h : OnlyJob slot s t) : OnlyJob slot s (modJob slot f t) := fun n hn => (jobAt_modJob_other hn).trans (h n hn)

theorem OnlyJob.of_jobs {u : State} (hj : u.jobs = t.jobs) (h : OnlyJob slot s t) : OnlyJob slot s u := fun n hn => by
  rw [jobAt, hj]
  exact h n hn

theorem jobs_writePieces (a : Nat) (bs : Bytes) (s : State) : (writePieces a bs s).jobs = s.jobs :=
  forAll_ind (p := fun t : State => t.jobs = s.jobs) (f := fun (p : Nat × Bytes) t => emit (.hostWrite p.1 p.2) t) (fun _ _ h => h) _ _ rfl

theorem out_forAll_emit {α : Type} (f : α → Output) (l : List α) (s : State) : (forAll l (fun a t => emit (f a) t) s).out = (l.map f).reverse ++ s.out := by
  induction l generalizing s with
  | nil => rfl
  | cons a l ih =>
    show (forAll l (fun a t => emit (f a) t) (emit (f a) s)).out = _
    rw [ih, List.map_cons, List.reverse_cons, List.append_assoc]
    rfl

/-- The pieces are written in their order. -/
theorem out_writePieces (a : Nat) (bs : Bytes) (s : State) :
    (writePieces a bs s).out = ((pieces (bs.length / 4096 + 2) a bs).map (fun p => Output.hostWrite p.1 p.2)).reverse ++ s.out := out_forAll_emit _ _ s

theorem OnlyJob.sendOutput (h : OnlyJob slot s t) : OnlyJob slot s (sendOutput slot t) := by
  unfold Machine.sendOutput
  split
  · exact h
  · exact .ite h (.of_jobs (jobs_writePieces ..) (.modJob h))

theorem OnlyJob.writeOutput {result : Nat} {bs : Bytes} (h : OnlyJob slot s t) : OnlyJob slot s (writeOutput slot result bs t) := .sendOutput (.modJob h)

theorem OnlyJob.finishJob {result : Nat} (h : OnlyJob slot s t) : OnlyJob slot s (finishJob slot result t) := .modJob h

theorem OnlyJob.advanceJob (h : OnlyJob slot s t) : OnlyJob slot s (advanceJob slot t) := by
  unfold Machine.advanceJob
  split
  · exact h
  · refine .ite h ?_
    extract_lets running
    split
    · exact .ite h (.ite (.writeOutput h) (.finishJob h))
    · exact .ite (.ite (.finishJob h) (.ite (.finishJob h) (.ite (.finishJob h) (.writeOutput h)))) h

theorem OnlyJob.endStep {i : Nat} {d : Delivered} (h : OnlyJob slot s t) : OnlyJob slot s (endStep slot i d t) := by
  unfold Machine.endStep
  split
  · exact h
  · extract_lets st tooSmall r out ended s1 s2
    have hs1 : OnlyJob slot s s1 := .of_jobs (by simp only [s1, countSession]; split <;> rfl) (.modJob h)
    exact .advanceJob (.ite (.modJob hs1) hs1)

theorem OnlyJob.delivers {i : Nat} {d : Delivered} (h : OnlyJob slot s t) : OnlyJob slot s (delivers slot i d t) := by
  have hm : OnlyJob slot s (modStep slot i (fun x => { x with delivered := some d }) t) := .modJob h
  unfold Statements.delivers tryEnd
  split
  · exact hm
  · dsimp only
    split
    · exact .ite (.endStep hm) hm
    · exact hm

/-! #### A job of one step -/

/-- The step of an operation as its end leaves it. -/
def endedStep (s : State) (d : Delivered) (x : StepRun) : StepRun :=
  { dropKeys x with stage := .ended, result := d.result, bytes := if success d.result then d.bytes else [], secret := d.secret, lastSwath := now s, work := [], delivered := none }

/-- A job of its own, with no engine work left, whose one step has not ended. -/
structure OneStep (s : State) (slot : Nat) (j : Job) (x : StepRun) : Prop where
  job : jobAt s slot = some j
  own : isChained j = false
  steps : j.steps = [x]
  open_ : x.stage ≠ .ended
  notOutputting : j.stage ≠ .outputting
  notFinished : j.stage ≠ .finished
  done : workDone x.work = true
  unmirrored : j.mirrorWait = none

variable {x : StepRun}

theorem countSession_frame (j : Job) (result : Nat) (s : State) : (countSession j result s).jobs = s.jobs ∧ (countSession j result s).sched = s.sched ∧
    (countSession j result s).link = s.link ∧ (countSession j result s).out = s.out := by
  unfold countSession
  split <;> exact ⟨rfl, rfl, rfl, rfl⟩

/-- Its result ends the step, and the job with it: what is left is to advance a job whose step has ended. -/
theorem OneStep.delivers (h : OneStep s slot j x) (d : Delivered) :
    ∃ u : State, Statements.delivers slot 0 d s = advanceJob slot u ∧ jobAt u slot = some { j with steps := [endedStep s d x] } ∧
      u.sched = s.sched ∧ u.link = s.link ∧ u.out = s.out := by
  have hx : stepAt j 0 = x := by rw [stepAt, h.steps]; rfl
  have hdelivered : jobAt (modStep slot 0 (fun x => { x with delivered := some d }) s) slot = some { j with steps := [{ x with delivered := some d }] } := by
    rw [jobAt_modStep_same h.job, hx, h.steps]
    rfl
  have hend : Statements.delivers slot 0 d s = endStep slot 0 d (modStep slot 0 (fun x => { x with delivered := some d }) s) := by
    unfold Statements.delivers tryEnd
    simp only [hdelivered, stepAt, List.getD_cons_zero]
    exact if_pos ⟨h.done, h.open_, h.unmirrored⟩
  rw [hend]
  unfold endStep
  have hchain : isChained { j with steps := [{ x with delivered := some d }] } = false := h.own
  simp only [hdelivered, hchain, Bool.false_and, Bool.false_eq_true, if_false]
  obtain ⟨hjobs, hsched, hlink, hout⟩ := countSession_frame { j with steps := [{ x with delivered := some d }] } d.result
    (modStep slot 0 (endedStep (modStep slot 0 (fun x => { x with delivered := some d }) s) d) (modStep slot 0 (fun x => { x with delivered := some d }) s))
  refine ⟨_, rfl, ?_, ?_, ?_, ?_⟩
  · refine (congrArg (mfind slot) hjobs).trans ((jobAt_modStep_same hdelivered).trans ?_)
    simp [stepAt, endedStep, dropKeys, now]
  · exact hsched.trans (by simp)
  · exact hlink.trans (by simp)
  · exact hout.trans (by simp)

/-- A failure finishes the job, with no output. -/
theorem advanceJob_of_failure {u : State} (hu : jobAt u slot = some { j with steps := [x] }) (hx : x.stage = .ended) (hr : success x.result = false)
    (hown : isChained j = false) (ho : j.stage ≠ .outputting) (hf : j.stage ≠ .finished) : advanceJob slot u = finishJob slot x.result u := by
  have hchain : isChained { j with steps := [x] } = false := hown
  unfold advanceJob
  simp [hu, hx, hr, ho, hf, hchain]

/-- A success with output begins to write it. -/
theorem advanceJob_of_output {u : State} (hu : jobAt u slot = some { j with steps := [x] }) (hx : x.stage = .ended) (hr : x.result = 0) (hsecret : x.secret = false)
    (hb : x.bytes ≠ []) (hlen : x.bytes.length ≤ j.hdr.outLen) (hown : isChained j = false) (ho : j.stage ≠ .outputting) (hf : j.stage ≠ .finished) :
    advanceJob slot u = writeOutput slot 0 x.bytes (dropLedger slot u) := by
  have hchain : isChained { j with steps := [x] } = false := hown
  have hsuccess : success 0 = true := rfl
  unfold advanceJob
  simp [hu, hx, hr, hsecret, hb, Nat.not_lt.mpr hlen, ho, hf, hchain, hsuccess]

/-- Writing output: at once with the read that confirms it, or as soon as memory requests may be made. -/
theorem writeOutput_of_job {u : State} {bs : Bytes} (hu : jobAt u slot = some j) (hw : j.written = []) (result : Nat) :
    ∃ j1, jobAt (writeOutput slot result bs u) slot = some j1 ∧ j1.stage = .outputting ∧ j1.result = result ∧ j1.out = bs ∧
      (mayRequest u = true → j1.unsent = false ∧ j1.written = bs ∧
        (writeOutput slot result bs u).out = .hostRead j.hdr.outPtr 0
          :: (((pieces (bs.length / 4096 + 2) j.hdr.outPtr bs).map (fun p => Output.hostWrite p.1 p.2)).reverse ++ u.out)) ∧
      (mayRequest u = false → j1.unsent = true ∧ (writeOutput slot result bs u).out = u.out) := by
  have hready := jobAt_modJob_same (f := fun j => { j with stage := .outputting, result := result, out := bs, unsent := true }) hu
  have hmay : mayRequest (modJob slot (fun j => { j with stage := .outputting, result := result, out := bs, unsent := true }) u) = mayRequest u := by simp [mayRequest]
  unfold writeOutput sendOutput
  simp only [hready, hmay]
  by_cases hopen : mayRequest u = true
  · rw [if_neg (by simp [hopen])]
    have hsent := jobAt_modJob_same (f := fun j => { j with written := j.out, unsent := false }) hready
    refine ⟨_, (congrArg (mfind slot) (jobs_writePieces ..)).trans hsent, rfl, rfl, rfl, fun _ => ⟨rfl, rfl, ?_⟩, fun hclosed => absurd hopen (by simp [hclosed])⟩
    simp only [hw, List.length_nil, Nat.add_zero, List.drop_zero]
    show _ :: (writePieces _ _ _).out = _
    rw [out_writePieces]
    simp
  · rw [if_pos (Or.inr (Or.inr hopen))]
    exact ⟨_, hready, rfl, rfl, rfl, fun h => absurd h hopen, fun _ => ⟨rfl, by simp⟩⟩

end

/-- Settles O5: the step's end, then the job's; no other job is touched on the way. -/
theorem resultsReachTheJob : Obligations.ResultsReachTheJob := by
  unfold Obligations.ResultsReachTheJob
  intro s slot j x hj hown hsteps hopen ho hf hdone hmirror hw
  have hone : OneStep s slot j x := ⟨hj, hown, hsteps, hopen, ho, hf, hdone, hmirror⟩
  refine ⟨fun d hd => ?_, fun d hresult hsecret hbytes hlen => ?_, fun d n hn => OnlyJob.delivers (.refl slot s) n hn⟩
  · obtain ⟨u, hend, hu, hsched, -, -⟩ := hone.delivers d
    have hfinish := advanceJob_of_failure hu rfl hd hown ho hf
    refine ⟨_, (congrArg (jobAt · slot) (hend.trans hfinish)).trans (jobAt_finishJob hu _), rfl, rfl, rfl, ?_⟩
    exact congrArg (fun c : Sched => c.swath.toNat) hsched
  · obtain ⟨u, hend, hu, hsched, hlink, hout⟩ := hone.delivers d
    have hsuccess : success d.result = true := by rw [hresult]; rfl
    have hended : (endedStep s d x).bytes = d.bytes := if_pos hsuccess
    have hwrite := advanceJob_of_output hu rfl hresult hsecret (hended ▸ hbytes) (hended ▸ hlen) hown ho hf
    have hall := hend.trans hwrite
    rw [hended] at hall
    obtain ⟨j1, hj1, hstage, hres, hj1out, hmay, hnot⟩ := writeOutput_of_job (u := dropLedger slot u) (bs := d.bytes) hu hw 0
    have hmayU : mayRequest (dropLedger slot u) = mayRequest s := by simp only [mayRequest, dropLedger, hlink]
    have houtU : (dropLedger slot u).out = s.out := hout
    rw [hmayU, houtU] at hmay
    rw [hmayU, houtU] at hnot
    rw [hall]
    exact ⟨j1, hj1, hstage, hres, hj1out, hmay, hnot⟩

end Sys2Proof.Machine

end

section
/-!
SUPPORT. The input of a job and the confirmation of its output. O12.
-/
namespace Sys2Proof.Machine
open Sys2Proof Sys2Proof.Statements

/-! ### The input of a job -/

section
variable {s t : State} {slot : Nat} {j : Job}

theorem dmaWrite_jobs (m a n : Nat) (s : State) : (dmaWrite m a n s).2.jobs = s.jobs := by
  unfold dmaWrite
  split
  · rfl
  · simp [gateRefuse]

/-- Costing the input changes what work the steps have. -/
theorem costInput_frame (s : State) (j : Job) :
    (costInput s j).inputRead = j.inputRead ∧ (costInput s j).stage = j.stage ∧ (costInput s j).refusedAt = j.refusedAt ∧ (costInput s j).input = j.input ∧
      (costInput s j).moved = j.moved ∧ ∀ x ∈ (costInput s j).steps, ∃ y ∈ j.steps, x.stage = y.stage := by
  unfold costInput
  split
  · exact ⟨rfl, rfl, rfl, rfl, rfl, fun x hx => ⟨x, hx, rfl⟩⟩
  · refine ⟨rfl, rfl, rfl, rfl, rfl, fun x hx => ?_⟩
    obtain ⟨e, he, rfl⟩ := List.mem_map.mp hx
    refine ⟨e.1, List.fst_mem_of_mem_zipIdx he, ?_⟩
    split <;> rfl

/-- Input that arrives makes a step go on only where the step waits for it at an engine. -/
theorem inputArrived_of_waiting {i : Nat} (h : ∀ j, jobAt s slot = some j → ∀ x ∈ j.steps, x.stage ≠ .bound ∧ x.stage ≠ .parked) : inputArrived slot i s = s := by
  unfold inputArrived
  split
  · rfl
  · next j hj =>
    refine if_pos (Or.inl ?_)
    have hstep : (stepAt j i).stage ≠ .bound ∧ (stepAt j i).stage ≠ .parked := by
      unfold stepAt
      by_cases hi : i < j.steps.length
      · rw [getD_of_lt hi]
        exact h j hj _ (List.getElem_mem hi)
      · rw [getD_of_le (by omega)]
        decide
    exact fun hor => hor.elim hstep.1 hstep.2

theorem repeatIdx_inputArrived {n : Nat} (h : ∀ j, jobAt s slot = some j → ∀ x ∈ j.steps, x.stage ≠ .bound ∧ x.stage ≠ .parked) :
    repeatIdx n (fun i t => inputArrived slot i t) s = s :=
  repeatIdx_ind (p := fun t => t = s) (fun i t ht => by rw [ht]; exact inputArrived_of_waiting h) n s rfl

theorem abortJob_of_job (hj : jobAt s slot = some j) (hf : j.stage ≠ .finished) (result : Nat) : abortJob slot result s = finishJob slot result s := by
  simp only [abortJob, hj, if_neg hf]

/-- Input taken: as far as the mover's gate lets it pass. -/
theorem takeInput_of_job (hj : jobAt s slot = some j) {data : Bytes} (hd : data ≠ []) (hl : j.input.length + data.length ≤ j.asked) :
    let d := (dmaWrite jobMover (operandAddr slot + j.input.length % 0x4000) data.length s).1
    ∃ j1, jobAt (takeInput slot data s) slot = some j1 ∧ j1.inputRead = true ∧ j1.stage = j.stage ∧ j1.refusedAt = d.refused ∧
      j1.input = j.input ++ data.take d.written ∧ j1.moved = j.moved + d.written ∧ ∀ x ∈ j1.steps, ∃ y ∈ j.steps, x.stage = y.stage := by
  intro d
  have hnew : data.take (j.asked - j.input.length) = data := List.take_of_length_le (by omega)
  have hread : (j.inputRead || !data.isEmpty) = true := by simp [hd]
  unfold takeInput
  simp only [hj, hnew]
  have hjob : jobAt (dmaWrite jobMover (operandAddr slot + j.input.length % 0x4000) data.length s).2 slot = some j := by rw [jobAt, dmaWrite_jobs]; exact hj
  obtain ⟨hiread, hstage, hrefused, hinput, hmoved, hsteps⟩ := costInput_frame s { j with
      inputRead := j.inputRead || !data.isEmpty, moved := j.moved + d.written, refusedAt := d.refused,
      buf := if isChained j then bufWrite j.buf j.input.length false (data.take d.written) else j.buf, input := j.input ++ data.take d.written }
  have htaken := jobAt_modJob_same (f := fun j => costInput s { j with
      inputRead := j.inputRead || !data.isEmpty, moved := j.moved + d.written, refusedAt := d.refused,
      buf := if isChained j then bufWrite j.buf j.input.length false (data.take d.written) else j.buf, input := j.input ++ data.take d.written }) hjob
  split
  · exact ⟨_, htaken, hiread.trans hread, hstage, hrefused, hinput, hmoved, hsteps⟩
  · obtain ⟨⟨n, hn⟩, -, -⟩ := askInput_jobs slot htaken
    exact ⟨_, hn, hiread.trans hread, hstage, hrefused, hinput, hmoved, hsteps⟩

end

/-- Settles O12: input taken as far as the gate lets it pass, a poisoned read by the job's end, a confirmation by what it changes of the job. -/
theorem jobsProgress : Obligations.JobsProgress := by
  unfold Obligations.JobsProgress
  intro s slot j hj
  refine ⟨fun hf ho hw hi hasked hrefused => ⟨fun data hsteps hne hlen => ?_, fun data => ?_⟩, fun ho hw accepted => ?_⟩
  · obtain ⟨j1, hj1, hread, hstage, href, hinput, hmoved, hsame⟩ := takeInput_of_job hj hne hlen
    have hquiet : ∀ k, jobAt (takeInput slot data s) slot = some k → ∀ x ∈ k.steps, x.stage ≠ .bound ∧ x.stage ≠ .parked := fun k hk x hx => by
      rw [hj1] at hk
      obtain rfl := Option.some.inj hk
      obtain ⟨y, hy, hxy⟩ := hsame x hx
      rw [hxy]
      exact hsteps y hy
    have hgate := dmaJobsStopAtTheGate
    unfold DmaJobsStopAtTheGate at hgate
    refine ⟨takeInput slot data s, j1, ?_, hj1, hread, hstage, href, hinput, hmoved, fun hnone => ((hgate jobMover _ data.length s).1 hnone).1⟩
    show execInputReadDone slot data .good s = _
    unfold execInputReadDone
    simp only [hj]
    rw [if_neg (by simp [hf, ho, hw, hi, hrefused, Nat.not_le.mpr hasked]), if_neg (by decide), repeatIdx_inputArrived hquiet]
  · have hraised : jobAt (raise phyPage 0x0111 j.hdr.inPtr { s with link := { s.link with poisoned := satInc s.link.poisoned } }) slot = some j := by
      rw [jobAt, (raise_frame _ _ _ _).2.2.2.1]
      exact hj
    refine ⟨finishJob slot 0x0406 (raise phyPage 0x0111 j.hdr.inPtr { s with link := { s.link with poisoned := satInc s.link.poisoned } }), _, ?_,
      jobAt_finishJob hraised _, rfl, rfl, ?_⟩
    · show execInputReadDone slot data .poisoned s = _
      unfold execInputReadDone
      simp only [hj]
      rw [if_neg (by simp [hf, ho, hw, hi, hrefused, Nat.not_le.mpr hasked]), if_pos trivial, abortJob_of_job hraised hf]
    · simp [finishJob, dropLedger, dropStep]
  · have hconfirmed := jobAt_modJob_same (f := fun j => { j with stage := .finished, finished := now s, outIncomplete := j.outIncomplete || !accepted }) hj
    have hexec : ∃ t, exec (.outputConfirmed slot accepted) s = .next t ∧
        t.jobs = (modJob slot (fun j => { j with stage := .finished, finished := now s, outIncomplete := j.outIncomplete || !accepted }) s).jobs := by
      show ∃ t, execOutputConfirmed slot accepted s = .next t ∧ _
      unfold execOutputConfirmed
      simp only [hj]
      rw [if_neg (by simp [ho, hw])]
      cases accepted with
      | true => exact ⟨_, rfl, rfl⟩
      | false =>
        refine ⟨_, rfl, ?_⟩
        simp [draw]
    obtain ⟨t, hexec, hjobs⟩ := hexec
    exact ⟨t, _, hexec, (congrArg (mfind slot) hjobs).trans hconfirmed, rfl, rfl, rfl, rfl⟩

end Sys2Proof.Machine

end

section
/-!
SUPPORT. Completions, records and checkpoints. O14, O15, O16.
-/
namespace Sys2Proof.Machine
open Sys2Proof Sys2Proof.Statements

/-! ### Completions, records and checkpoints -/

theorem chanAt_postEntry (n cookie sqIndex result flags outLen auditSeq m : Nat) (s : State) :
    chanAt (postEntry n cookie sqIndex result flags outLen auditSeq s) m = chanAt (modChan n (fun c => { c with cqTail := c.cqTail + 1 }) s) m := rfl

/-- What follows an entry posted for a job: the slot is free and the channel counts the entry. -/
def freedAndCounted (n k : Nat) (x : Item) (s t : State) : State :=
  modChan n (fun c => { c with posted := c.posted + 1, postedClass0 := c.postedClass0 || decide (x.cls = 0), postedFirst := if c.posted = 0 then now s else c.postedFirst })
    { t with jobs := merase k t.jobs }

theorem chanAt_freedAndCounted (n k : Nat) (x : Item) (s t : State) : chanAt (freedAndCounted n k x s t) n = { chanAt t n with
    posted := (chanAt t n).posted + 1, postedClass0 := (chanAt t n).postedClass0 || decide (x.cls = 0),
    postedFirst := if (chanAt t n).posted = 0 then now s else (chanAt t n).postedFirst } :=
  (chanAt_modChan ..).trans (if_pos rfl)

/-- Settles O14: the record appended, the entry posted, the slot freed. -/
theorem completionsAreRecordedAndReleased : Obligations.CompletionsAreRecordedAndReleased := by
  unfold Obligations.CompletionsAreRecordedAndReleased
  intro s n k x hslot hresult hgap t c
  have hpost : t = freedAndCounted n k x s (postEntry n x.cookie x.sqIndex x.result x.flags x.outLen s.audit.next (appendRec x.record s)) := by
    simp only [t, postItem, appendOrLose, hslot, if_neg hresult, hgap]
    rfl
  have hentry : chanAt (postEntry n x.cookie x.sqIndex x.result x.flags x.outLen s.audit.next (appendRec x.record s)) n = { c with cqTail := c.cqTail + 1 } :=
    (chanAt_postEntry ..).trans ((chanAt_modChan ..).trans (if_pos rfl))
  have hchan : (chanAt t n).cqTail = c.cqTail + 1 ∧ (chanAt t n).posted = c.posted + 1 := by
    rw [hpost, chanAt_freedAndCounted, hentry]
    exact ⟨rfl, rfl⟩
  have hjobs : t.jobs = merase k s.jobs := by rw [hpost]; simp [freedAndCounted, postEntry, emit, appendRec]
  refine ⟨hchan.1, hchan.2, ?_, fun m hm => ?_, ?_, ?_, ?_, fun m hm => ?_⟩
  · rw [jobAt, hjobs, mfind_merase, if_pos rfl]
  · rw [jobAt, hjobs, mfind_merase, if_neg hm]
    rfl
  · rw [hpost]
    simp only [freedAndCounted, postEntry, emit, modChan_frame]
    rfl
  · rw [hpost]; simp [freedAndCounted, postEntry, emit, appendRec]
  · rw [hpost]; simp [freedAndCounted, postEntry, emit, appendRec]
  · rw [hpost, freedAndCounted, chanAt_modChan, if_neg hm]
    exact (chanAt_postEntry n x.cookie x.sqIndex x.result x.flags x.outLen s.audit.next m (appendRec x.record s)).trans ((chanAt_modChan ..).trans (if_neg hm))

@[simp] theorem length_zeros (n : Nat) : (zeros n).length = n := List.length_replicate

/-- Settles O15: the fields of each kind add up to 48 bytes, and appending is one step of the chain. -/
theorem auditRecordsFormAChain : Obligations.AuditRecordsFormAChain := by
  unfold Obligations.AuditRecordsFormAChain
  refine ⟨fun r => ?_, fun b s => ⟨_, rfl, rfl, rfl, rfl⟩⟩
  cases hb : r.body <;> simp [encodeRec, hb, length_leBytes, length_fit]

theorem mfind_filter_keys {β : Type} (p : Nat → Bool) (k : Nat) (m : AMap β) : mfind k (m.filter (fun e => p e.1)) = if p k then mfind k m else none := by
  induction m with
  | nil => simp [mfind]
  | cons e m ih =>
    obtain ⟨j, v⟩ := e
    by_cases hj : p j
    · rw [List.filter_cons_of_pos (p := fun e : Nat × β => p e.1) hj]
      by_cases hk : j = k
      · subst hk
        simp [mfind, hj]
      · simp [mfind, hk, ih]
    · rw [List.filter_cons_of_neg (p := fun e : Nat × β => p e.1) (by simpa using hj), ih]
      by_cases hk : j = k
      · subst hk
        simp [hj]
      · simp [mfind, hk]

/-- The checkpoints, and the number of the next, are as they were. -/
structure SameCkpts (s t : State) : Prop where
  ckpts : t.audit.ckpts = s.audit.ckpts
  next : t.audit.nextCkpt = s.audit.nextCkpt

theorem SameCkpts.ite {p : Prop} [Decidable p] {s t u : State} (ht : SameCkpts s t) (hu : SameCkpts s u) : SameCkpts s (if p then t else u) := by
  split
  · exact ht
  · exact hu

theorem SameCkpts.raise {s t : State} (p code detail : Nat) (h : SameCkpts s t) : SameCkpts s (raise p code detail t) := by
  obtain ⟨hc, hn⟩ := h
  exact ⟨by simpa using hc, by simpa using hn⟩

theorem SameCkpts.held {l : List AuditRec} {s t : State} (h : SameCkpts s t) : SameCkpts s { t with audit := { t.audit with held := l } } := ⟨h.ckpts, h.next⟩

theorem SameCkpts.trimHeld {s t : State} (h : SameCkpts s t) : SameCkpts s (trimHeld t) := by
  unfold Machine.trimHeld
  extract_lets surplus
  exact .ite h (.held h)

/-- Delivering records to the ring leaves the checkpoints as they are. -/
theorem deliverFresh_ckpts (s : State) : SameCkpts s (deliverFresh s) := by
  have hlist : ∀ l : List AuditRec, ∀ u : State, SameCkpts s u → SameCkpts s (forAll l deliver u) := fun l u hu =>
    forAll_ind (p := SameCkpts s) (f := deliver) (fun _ _ hv => ⟨hv.ckpts, hv.next⟩) l u hu
  exact .ite (.raise _ _ _ (.trimHeld (hlist _ _ ⟨rfl, rfl⟩))) (.trimHeld (hlist _ _ ⟨rfl, rfl⟩))

theorem appendOrLose_ckpts (b : AuditBody) (s : State) :
    SameCkpts s (appendOrLose b s).2 := by
  unfold appendOrLose
  split
  · exact .ite ⟨rfl, rfl⟩ (.raise _ _ _ ⟨rfl, rfl⟩)
  · exact ⟨rfl, rfl⟩

/-- The checkpoint formed is kept, with those of the last 32,768 numbers. -/
theorem formCheckpoint_ckpts (s : State) :
    mfind s.audit.nextCkpt (formCheckpoint s).audit.ckpts =
      some { number := s.audit.nextCkpt, count := s.audit.next - 1, swath := now s, epoch := s.sched.epoch.toNat, chain := s.audit.chain } ∧
    (formCheckpoint s).audit.nextCkpt = s.audit.nextCkpt + 1 := by
  unfold formCheckpoint
  extract_lets a c store
  have hkept := appendOrLose_ckpts (.checkpoint c.number c.count c.chain) { s with audit := { a with nextCkpt := a.nextCkpt + 1, ckpts := store } }
  refine ⟨?_, hkept.next⟩
  rw [hkept.ckpts]
  show mfind c.number (((mput c.number c a.ckpts)).filter _) = some c
  rw [mfind_filter_keys (fun k => decide (c.number < k + 32768)), mfind_mput, if_pos rfl, if_pos (by simp)]

/-- Signing draws random bytes and changes nothing else. -/
theorem signBody_state (body : Bytes) (s : State) : (signBody body s).2 = (drawBytes 64 s).2 := by
  unfold signBody
  dsimp only

/-- Settles O16: the checkpoint formed and kept among the last, the signatures made, the wait ended. -/
theorem checkpointsAreFormedAndSigned : Obligations.CheckpointsAreFormedAndSigned := by
  unfold Obligations.CheckpointsAreFormedAndSigned
  intro s
  refine ⟨fun hphase hswath hstalled hid hnew => ?_, fun n c hc hheld => ⟨?_, fun hcosign => ?_⟩, fun n w hw hle => ?_⟩
  · have hkept : SameCkpts (formCheckpoint s) (deliverFresh (formCheckpoint s)) := deliverFresh_ckpts _
    obtain ⟨hckpts, hnext⟩ := formCheckpoint_ckpts s
    refine ⟨deliverFresh (formCheckpoint s), { number := s.audit.nextCkpt, count := s.audit.next - 1, swath := now s, epoch := s.sched.epoch.toNat, chain := s.audit.chain },
      ?_, ?_, rfl, rfl, rfl, rfl, rfl, ?_⟩
    · show execCheckpointForm s = _
      unfold execCheckpointForm
      extract_lets here
      refine congrArg Host.Outcome.next (if_pos ⟨hphase, hswath, by simp [hstalled], hid, ?_⟩)
      rw [List.any_eq_true]
      rintro ⟨e, he, hhere⟩
      obtain ⟨hs, hepoch⟩ := of_decide_eq_true hhere
      exact (hnew e he).elim (fun h => h hs) (fun h => h hepoch)
    · rw [hkept.ckpts]
      exact hckpts
    · rw [hkept.next]
      exact hnext
  · show execCheckpointSigned n false s = _
    simp [execCheckpointSigned, hc, hheld]
  · show ∃ t d, execCheckpointSigned n true s = .next t ∧ _
    have hkept : (signBody (checkpointBody s c) s).2.audit = s.audit := by rw [signBody_state]; rfl
    simp only [execCheckpointSigned, hc, hheld]
    generalize signBody (checkpointBody s c) s = r at hkept ⊢
    simp only [hkept, hcosign]
    exact ⟨_, _, rfl, (mfind_mput _ _ _ _).trans (if_pos rfl), rfl, rfl, rfl, rfl, rfl, rfl⟩
  · refine ⟨raise (foldPage 0) 0x061F n { s with audit := { s.audit with cosignWait := merase n s.audit.cosignWait } }, ?_, ?_, ?_⟩
    · show execCosignTimeout n s = _
      simp only [execCosignTimeout, hw, if_pos hle]
    · rw [(raise_frame _ _ _ _).1]
      exact (mfind_merase _ _ _).trans (if_pos rfl)
    · rw [(raise_frame _ _ _ _).1]

end Sys2Proof.Machine

end

section
/-!
SUPPORT. What an operation leaves alone: the parts of the state, and a rule per operation.
-/
namespace Sys2Proof.Machine
open Sys2Proof Sys2Proof.Statements

/-! ### What an operation leaves alone: the parts of the state -/

/-- The parts of the state that a rule below may list as changed: its fields, and what is asked about singly within them. -/
inductive Part
  | units | audit | recorder | msix | link | chans | jobs | sched | power | keeper | start | keys | sig | cip | rng | vault | fold | flash | contact | reader | ceremony
  | stile | sdc | tenants | cores | gates | sram | sramTags | dram | boot | rowFaults | latches | draws | out | pending
  | linkReset | sensors | domains | flashEpoch | chain | chainNext | keeperRecord | queue | records | journal
  deriving DecidableEq

/-- The part is the same in both states. -/
def Part.Same (p : Part) (s t : State) : Prop :=
  match p with
  | .units => t.units = s.units | .audit => t.audit = s.audit | .recorder => t.recorder = s.recorder | .msix => t.msix = s.msix | .link => t.link = s.link
  | .chans => t.chans = s.chans | .jobs => t.jobs = s.jobs | .sched => t.sched = s.sched | .power => t.power = s.power | .keeper => t.keeper = s.keeper
  | .start => t.start = s.start | .keys => t.keys = s.keys | .sig => t.sig = s.sig | .cip => t.cip = s.cip | .rng => t.rng = s.rng | .vault => t.vault = s.vault
  | .fold => t.fold = s.fold | .flash => t.flash = s.flash | .contact => t.contact = s.contact | .reader => t.reader = s.reader | .ceremony => t.ceremony = s.ceremony
  | .stile => t.stile = s.stile | .sdc => t.sdc = s.sdc | .tenants => t.tenants = s.tenants | .cores => t.cores = s.cores | .gates => t.gates = s.gates
  | .sram => t.sram = s.sram | .sramTags => t.sramTags = s.sramTags | .dram => t.dram = s.dram | .boot => t.boot = s.boot | .rowFaults => t.rowFaults = s.rowFaults
  | .latches => t.latches = s.latches | .draws => t.draws = s.draws | .out => t.out = s.out | .pending => t.pending = s.pending
  | .linkReset => t.link.inReset = s.link.inReset
  | .sensors => t.power.sensors = s.power.sensors
  | .domains => t.power.domains = s.power.domains
  | .flashEpoch => t.flash.epoch = s.flash.epoch
  | .chain => t.audit.chain = s.audit.chain
  | .chainNext => t.audit.next = s.audit.next
  | .keeperRecord => t.keeper.record = s.keeper.record
  | .queue => t.ceremony.queue = s.ceremony.queue
  | .records => t.vault.records = s.vault.records
  | .journal => t.vault.journal = s.vault.journal

/-- The part is none of those listed. -/
def Part.Clear (p : Part) (l : List Part) : Prop := l.all (p != ·) = true

theorem Part.Clear.mono {p : Part} {l m : List Part} (h : p.Clear m) (hl : l.all m.contains = true) : p.Clear l := by
  simp only [Part.Clear, List.all_eq_true, List.contains_iff_mem, bne_iff_ne] at *
  exact fun q hq => h q (hl q hq)

section
variable {s t u : State} {π : Part}

theorem Part.Same.refl (s : State) : π.Same s s := by
  cases π <;> rfl

theorem Part.Same.trans (h : π.Same s t) (g : π.Same t u) : π.Same s u := by
  cases π <;> exact Eq.trans g h

theorem Part.Same.ite {c : Prop} [Decidable c] (ht : π.Same s t) (hu : π.Same s u) : π.Same s (if c then t else u) := by
  split
  · exact ht
  · exact hu

/-- A change of no more than the parts listed. -/
theorem Part.Same.change {l : List Part} (hπ : π.Clear l) (h : π.Same s t) (hu : ∀ q : Part, q.Clear l → q.Same t u) : π.Same s u := h.trans (hu π hπ)

theorem Part.Same.units {x} (hπ : π.Clear [.units]) (h : π.Same s t) : π.Same s { t with units := x } :=
  h.trans (by cases π <;> first | exact rfl | cases hπ)

theorem Part.Same.audit {x} (hπ : π.Clear [.audit, .chain, .chainNext]) (h : π.Same s t) : π.Same s { t with audit := x } :=
  h.trans (by cases π <;> first | exact rfl | cases hπ)

theorem Part.Same.auditChange {x} {l : List Part} (hπ : π.Clear l) (h : π.Same s t) (hu : ∀ q : Part, q.Clear l → q.Same t { t with audit := x }) :
    π.Same s { t with audit := x } := h.trans (hu π hπ)

theorem Part.Same.recorder {x} (hπ : π.Clear [.recorder]) (h : π.Same s t) : π.Same s { t with recorder := x } :=
  h.trans (by cases π <;> first | exact rfl | cases hπ)

theorem Part.Same.msix {x} (hπ : π.Clear [.msix]) (h : π.Same s t) : π.Same s { t with msix := x } :=
  h.trans (by cases π <;> first | exact rfl | cases hπ)

theorem Part.Same.link {x} (hπ : π.Clear [.link, .linkReset]) (h : π.Same s t) : π.Same s { t with link := x } :=
  h.trans (by cases π <;> first | exact rfl | cases hπ)

theorem Part.Same.linkChange {x} {l : List Part} (hπ : π.Clear l) (h : π.Same s t) (hu : ∀ q : Part, q.Clear l → q.Same t { t with link := x }) :
    π.Same s { t with link := x } := h.trans (hu π hπ)

theorem Part.Same.chans {x} (hπ : π.Clear [.chans]) (h : π.Same s t) : π.Same s { t with chans := x } :=
  h.trans (by cases π <;> first | exact rfl | cases hπ)

theorem Part.Same.jobs {x} (hπ : π.Clear [.jobs]) (h : π.Same s t) : π.Same s { t with jobs := x } :=
  h.trans (by cases π <;> first | exact rfl | cases hπ)

theorem Part.Same.sched {x} (hπ : π.Clear [.sched]) (h : π.Same s t) : π.Same s { t with sched := x } :=
  h.trans (by cases π <;> first | exact rfl | cases hπ)

theorem Part.Same.power {x} (hπ : π.Clear [.power, .sensors, .domains]) (h : π.Same s t) : π.Same s { t with power := x } :=
  h.trans (by cases π <;> first | exact rfl | cases hπ)

theorem Part.Same.powerChange {x} {l : List Part} (hπ : π.Clear l) (h : π.Same s t) (hu : ∀ q : Part, q.Clear l → q.Same t { t with power := x }) :
    π.Same s { t with power := x } := h.trans (hu π hπ)

theorem Part.Same.keeper {x} (hπ : π.Clear [.keeper, .keeperRecord]) (h : π.Same s t) : π.Same s { t with keeper := x } :=
  h.trans (by cases π <;> first | exact rfl | cases hπ)

theorem Part.Same.keeperChange {x} {l : List Part} (hπ : π.Clear l) (h : π.Same s t) (hu : ∀ q : Part, q.Clear l → q.Same t { t with keeper := x }) :
    π.Same s { t with keeper := x } := h.trans (hu π hπ)

theorem Part.Same.start {x} (hπ : π.Clear [.start]) (h : π.Same s t) : π.Same s { t with start := x } :=
  h.trans (by cases π <;> first | exact rfl | cases hπ)

theorem Part.Same.keys {x} (hπ : π.Clear [.keys]) (h : π.Same s t) : π.Same s { t with keys := x } :=
  h.trans (by cases π <;> first | exact rfl | cases hπ)

theorem Part.Same.sig {x} (hπ : π.Clear [.sig]) (h : π.Same s t) : π.Same s { t with sig := x } :=
  h.trans (by cases π <;> first | exact rfl | cases hπ)

theorem Part.Same.cip {x} (hπ : π.Clear [.cip]) (h : π.Same s t) : π.Same s { t with cip := x } :=
  h.trans (by cases π <;> first | exact rfl | cases hπ)

theorem Part.Same.rng {x} (hπ : π.Clear [.rng]) (h : π.Same s t) : π.Same s { t with rng := x } :=
  h.trans (by cases π <;> first | exact rfl | cases hπ)

theorem Part.Same.vault {x} (hπ : π.Clear [.vault, .records, .journal]) (h : π.Same s t) : π.Same s { t with vault := x } :=
  h.trans (by cases π <;> first | exact rfl | cases hπ)

theorem Part.Same.vaultChange {x} {l : List Part} (hπ : π.Clear l) (h : π.Same s t) (hu : ∀ q : Part, q.Clear l → q.Same t { t with vault := x }) :
    π.Same s { t with vault := x } := h.trans (hu π hπ)

theorem Part.Same.fold {x} (hπ : π.Clear [.fold]) (h : π.Same s t) : π.Same s { t with fold := x } :=
  h.trans (by cases π <;> first | exact rfl | cases hπ)

theorem Part.Same.flash {x} (hπ : π.Clear [.flash, .flashEpoch]) (h : π.Same s t) : π.Same s { t with flash := x } :=
  h.trans (by cases π <;> first | exact rfl | cases hπ)

theorem Part.Same.flashChange {x} {l : List Part} (hπ : π.Clear l) (h : π.Same s t) (hu : ∀ q : Part, q.Clear l → q.Same t { t with flash := x }) :
    π.Same s { t with flash := x } := h.trans (hu π hπ)

theorem Part.Same.contact {x} (hπ : π.Clear [.contact]) (h : π.Same s t) : π.Same s { t with contact := x } :=
  h.trans (by cases π <;> first | exact rfl | cases hπ)

theorem Part.Same.reader {x} (hπ : π.Clear [.reader]) (h : π.Same s t) : π.Same s { t with reader := x } :=
  h.trans (by cases π <;> first | exact rfl | cases hπ)

theorem Part.Same.ceremony {x} (hπ : π.Clear [.ceremony, .queue]) (h : π.Same s t) : π.Same s { t with ceremony := x } :=
  h.trans (by cases π <;> first | exact rfl | cases hπ)

theorem Part.Same.ceremonyChange {x} {l : List Part} (hπ : π.Clear l) (h : π.Same s t) (hu : ∀ q : Part, q.Clear l → q.Same t { t with ceremony := x }) :
    π.Same s { t with ceremony := x } := h.trans (hu π hπ)

theorem Part.Same.stile {x} (hπ : π.Clear [.stile]) (h : π.Same s t) : π.Same s { t with stile := x } :=
  h.trans (by cases π <;> first | exact rfl | cases hπ)

theorem Part.Same.sdc {x} (hπ : π.Clear [.sdc]) (h : π.Same s t) : π.Same s { t with sdc := x } :=
  h.trans (by cases π <;> first | exact rfl | cases hπ)

theorem Part.Same.tenants {x} (hπ : π.Clear [.tenants]) (h : π.Same s t) : π.Same s { t with tenants := x } :=
  h.trans (by cases π <;> first | exact rfl | cases hπ)

theorem Part.Same.cores {x} (hπ : π.Clear [.cores]) (h : π.Same s t) : π.Same s { t with cores := x } :=
  h.trans (by cases π <;> first | exact rfl | cases hπ)

theorem Part.Same.gates {x} (hπ : π.Clear [.gates]) (h : π.Same s t) : π.Same s { t with gates := x } :=
  h.trans (by cases π <;> first | exact rfl | cases hπ)

theorem Part.Same.sram {x} (hπ : π.Clear [.sram]) (h : π.Same s t) : π.Same s { t with sram := x } :=
  h.trans (by cases π <;> first | exact rfl | cases hπ)

theorem Part.Same.sramTags {x} (hπ : π.Clear [.sramTags]) (h : π.Same s t) : π.Same s { t with sramTags := x } :=
  h.trans (by cases π <;> first | exact rfl | cases hπ)

theorem Part.Same.dram {x} (hπ : π.Clear [.dram]) (h : π.Same s t) : π.Same s { t with dram := x } :=
  h.trans (by cases π <;> first | exact rfl | cases hπ)

theorem Part.Same.boot {x} (hπ : π.Clear [.boot]) (h : π.Same s t) : π.Same s { t with boot := x } :=
  h.trans (by cases π <;> first | exact rfl | cases hπ)

theorem Part.Same.rowFaults {x} (hπ : π.Clear [.rowFaults]) (h : π.Same s t) : π.Same s { t with rowFaults := x } :=
  h.trans (by cases π <;> first | exact rfl | cases hπ)

theorem Part.Same.latches {x} (hπ : π.Clear [.latches]) (h : π.Same s t) : π.Same s { t with latches := x } :=
  h.trans (by cases π <;> first | exact rfl | cases hπ)

theorem Part.Same.draws {x} (hπ : π.Clear [.draws]) (h : π.Same s t) : π.Same s { t with draws := x } :=
  h.trans (by cases π <;> first | exact rfl | cases hπ)

theorem Part.Same.out {x} (hπ : π.Clear [.out]) (h : π.Same s t) : π.Same s { t with out := x } :=
  h.trans (by cases π <;> first | exact rfl | cases hπ)

theorem Part.Same.pending {x} (hπ : π.Clear [.pending]) (h : π.Same s t) : π.Same s { t with pending := x } :=
  h.trans (by cases π <;> first | exact rfl | cases hπ)

theorem forAll_leaves {α : Type} {l : List α} {f : α → State → State} (hf : ∀ a u, π.Same s u → π.Same s (f a u)) (h : π.Same s t) :
    π.Same s (forAll l f t) := forAll_ind hf l t h

theorem repeatIdx_leaves {n : Nat} {f : Nat → State → State} (hf : ∀ a u, π.Same s u → π.Same s (f a u)) (h : π.Same s t) :
    π.Same s (repeatIdx n f t) := repeatIdx_ind hf n t h

theorem foldl_leaves {α : Type} {l : List α} {f : State → α → State} (hf : ∀ u a, π.Same s u → π.Same s (f u a)) (h : π.Same s t) :
    π.Same s (l.foldl f t) := by
  induction l generalizing t with
  | nil => exact h
  | cons a l ih => exact ih (hf _ _ h)

theorem getD_leaves {o : Option State} (ho : ∀ v, o = some v → π.Same s v) (h : π.Same s t) : π.Same s (o.getD t) := by
  cases o with
  | none => exact h
  | some v => exact ho v rfl

theorem Part.Same.of_snd {α : Type} {p : α × State} {a : α} (hp : p = (a, u)) (h : π.Same s p.2) : π.Same s u := by
  rw [hp] at h
  exact h

end

/-- A command answered by a state is answered by that one. -/
theorem answered {c : Instr} {s t : State} {P : State → Prop} (h : exec c s = .next t) (hp : P t) : ∃ t, exec c s = .next t ∧ P t := ⟨t, h, hp⟩

section
variable {s t u : State} {π : Part}

theorem modUnit_leaves {p f} (hπ : π.Clear [.units]) (h : π.Same s t) : π.Same s (modUnit p f t) := h.units hπ

theorem setUnitState_leaves {p st cause} (hπ : π.Clear [.units]) (h : π.Same s t) : π.Same s (setUnitState p st cause t) :=
  .ite h (forAll_leaves (fun _ _ hu => modUnit_leaves hπ hu) (modUnit_leaves hπ h))

theorem emit_leaves {o} (hπ : π.Clear [.out]) (h : π.Same s t) : π.Same s (emit o t) := h.out hπ

theorem draw_leaves (hπ : π.Clear [.draws]) (h : π.Same s t) : π.Same s (draw t).2 := h.draws hπ

theorem drawBytes_leaves {n} (hπ : π.Clear [.draws]) (h : π.Same s t) : π.Same s (drawBytes n t).2 := h.draws hπ

theorem enqueue_leaves {rs} (hπ : π.Clear [.recorder]) (h : π.Same s t) : π.Same s (enqueue rs t) := forAll_leaves (fun _ _ hu => .ite (hu.recorder hπ) (hu.recorder hπ)) h

theorem collect_leaves {tile flushed} (hπ : π.Clear [.recorder]) (h : π.Same s t) : π.Same s (collect tile flushed t) := enqueue_leaves hπ (h.recorder hπ)

theorem recordEvent_leaves {page unit code detail} (hπ : π.Clear [.recorder]) (h : π.Same s t) : π.Same s (recordEvent page unit code detail t) :=
  .ite (.ite (h.recorder hπ) (h.recorder hπ)) (.ite (.ite (.ite (collect_leaves hπ (.recorder hπ (h.recorder hπ))) (.recorder hπ (h.recorder hπ))) (.recorder hπ (h.recorder hπ))) (h.recorder hπ))

theorem climb_leaves {n p b code} (hπ : π.Clear [.units]) (h : π.Same s t) : π.Same s (climb n p b code t) := by
  induction n generalizing p t with
  | zero => exact h
  | succ n ih => exact .ite (modUnit_leaves hπ h) (ih (modUnit_leaves hπ h))

theorem capture_leaves {p code detail} (hπ : π.Clear [.units]) (h : π.Same s t) : π.Same s (capture p code detail t) := modUnit_leaves hπ h

theorem raiseAs_leaves {p unit code detail} (hπ : π.Clear [.units, .recorder, .msix]) (h : π.Same s t) : π.Same s (raiseAs p unit code detail t) := by
  unfold raiseAs
  refine recordEvent_leaves (hπ.mono rfl) ?_
  split
  · exact .ite (.msix (hπ.mono rfl) (capture_leaves (hπ.mono rfl) (climb_leaves (hπ.mono rfl) h))) (capture_leaves (hπ.mono rfl) (climb_leaves (hπ.mono rfl) h))
  · exact capture_leaves (hπ.mono rfl) (climb_leaves (hπ.mono rfl) h)

theorem noteDropped_leaves {before} (hπ : π.Clear [.units, .recorder, .msix]) (h : π.Same s t) : π.Same s (noteDropped before t) := .ite h (raiseAs_leaves hπ h)

theorem raise_leaves {p code detail} (hπ : π.Clear [.units, .recorder, .msix]) (h : π.Same s t) : π.Same s (raise p code detail t) := noteDropped_leaves hπ (raiseAs_leaves hπ h)

theorem raiseChan_leaves {ch code detail} (hπ : π.Clear [.units, .recorder, .msix]) (h : π.Same s t) : π.Same s (raiseChan ch code detail t) := noteDropped_leaves hπ (raiseAs_leaves hπ h)

theorem appendRec_leaves {b} (hπ : π.Clear [.audit, .chain, .chainNext]) (h : π.Same s t) : π.Same s (appendRec b t) := h.audit hπ

theorem loseRec_leaves (hπ : π.Clear [.units, .audit, .recorder, .msix]) (h : π.Same s t) : π.Same s (loseRec t) := .ite (h.change hπ fun q hq => by cases q <;> first | exact Bool.noConfusion hq | exact rfl) (raise_leaves (hπ.mono rfl) (h.change hπ fun q hq => by cases q <;> first | exact Bool.noConfusion hq | exact rfl))

theorem appendOrLose_leaves {b} (hπ : π.Clear [.units, .audit, .recorder, .msix, .chain, .chainNext]) (h : π.Same s t) : π.Same s (appendOrLose b t).2 := by
  unfold appendOrLose
  split
  · exact loseRec_leaves (hπ.mono rfl) h
  · exact appendRec_leaves (hπ.mono rfl) h

theorem appendReserved_leaves {b} (hπ : π.Clear [.units, .audit, .recorder, .msix, .chain, .chainNext]) (h : π.Same s t) : π.Same s (appendReserved b t) :=
  .ite (.ite (raise_leaves (hπ.mono rfl) (h.audit (hπ.mono rfl))) (appendRec_leaves (hπ.mono rfl) (h.audit (hπ.mono rfl)))) (appendRec_leaves (hπ.mono rfl) h)

theorem ceremony_leaves {code result subject custodian detail} (hπ : π.Clear [.units, .audit, .recorder, .msix, .chain, .chainNext]) (h : π.Same s t) : π.Same s (ceremony code result subject custodian detail t) :=
  appendOrLose_leaves hπ h

theorem modCore_leaves {n f} (hπ : π.Clear [.cores]) (h : π.Same s t) : π.Same s (modCore n f t) := h.cores hπ

theorem appendConfig_leaves {addr m width old new} (hπ : π.Clear [.units, .audit, .recorder, .msix, .chain, .chainNext]) (h : π.Same s t) : π.Same s (appendConfig addr m width old new t) :=
  .ite (.ite (appendRec_leaves (hπ.mono rfl) (h.audit (hπ.mono rfl))) (appendRec_leaves (hπ.mono rfl) h)) (appendOrLose_leaves hπ h)

theorem clearRow_leaves {p} (hπ : π.Clear [.rowFaults]) (h : π.Same s t) : π.Same s (clearRow p t) := h.rowFaults hπ

theorem clearRows_leaves {p n} (hπ : π.Clear [.rowFaults]) (h : π.Same s t) : π.Same s (clearRows p n t) := h.rowFaults hπ

theorem modFlash_leaves {f} (hπ : π.Clear [.flash, .flashEpoch]) (h : π.Same s t) : π.Same s (modFlash f t) := h.flash hπ

theorem modFlash_change {l f} (hπ : π.Clear l) (h : π.Same s t) (hu : ∀ q : Part, q.Clear l → q.Same t (modFlash f t)) : π.Same s (modFlash f t) := h.trans (hu π hπ)

theorem modSector_leaves {n f} (hπ : π.Clear [.flash]) (h : π.Same s t) : π.Same s (modSector n f t) := modFlash_change hπ h fun q hq => by cases q <;> first | exact Bool.noConfusion hq | exact rfl

theorem modPart_leaves {p f} (hπ : π.Clear [.flash]) (h : π.Same s t) : π.Same s (modPart p f t) := modFlash_change hπ h fun q hq => by cases q <;> first | exact Bool.noConfusion hq | exact rfl

theorem putWord_leaves {i v} (hπ : π.Clear [.flash, .rowFaults]) (h : π.Same s t) : π.Same s (putWord i v t) := modFlash_change hπ (clearRow_leaves (hπ.mono rfl) h) fun q hq => by cases q <;> first | exact Bool.noConfusion hq | exact rfl

theorem clearSector_leaves {n} (hπ : π.Clear [.flash, .rowFaults]) (h : π.Same s t) : π.Same s (clearSector n t) := modFlash_change hπ (clearRows_leaves (hπ.mono rfl) h) fun q hq => by cases q <;> first | exact Bool.noConfusion hq | exact rfl

theorem ledgerWord_leaves {body sector} (hπ : π.Clear [.flash, .rowFaults]) (h : π.Same s t) : π.Same s (ledgerWord body sector t) := modSector_leaves (hπ.mono rfl) (modFlash_change hπ (putWord_leaves hπ h) fun q hq => by cases q <;> first | exact Bool.noConfusion hq | exact rfl)

theorem ownErase_leaves {log sec} (hπ : π.Clear [.flash, .rowFaults, .draws]) (hf : ∀ a0 a1 u, π.Same s u → π.Same s (log a0 a1 u)) (h : π.Same s t) : π.Same s (ownErase log sec t) :=
  .ite h (modFlash_change hπ (modSector_leaves (hπ.mono rfl) (hf _ _ _ (clearSector_leaves (hπ.mono rfl) (hf _ _ _ (draw_leaves (hπ.mono rfl) h))))) fun q hq => by cases q <;> first | exact Bool.noConfusion hq | exact rfl)

theorem ledgerTurn_leaves (hπ : π.Clear [.flash, .rowFaults, .draws]) (h : π.Same s t) : π.Same s (ledgerTurn t) := by
  unfold ledgerTurn
  refine ownErase_leaves hπ (fun _ _ _ hu => ledgerWord_leaves (hπ.mono rfl) hu) (forAll_leaves (fun _ _ hu => ?_) h)
  split
  · exact ledgerWord_leaves (hπ.mono rfl) (ledgerWord_leaves (hπ.mono rfl) hu)
  · exact ledgerWord_leaves (hπ.mono rfl) hu

theorem appendLedger_leaves {body sector} (hπ : π.Clear [.flash, .rowFaults, .draws]) (h : π.Same s t) : π.Same s (appendLedger body sector t) := ledgerWord_leaves (hπ.mono rfl) (.ite (ledgerTurn_leaves hπ h) h)

theorem appendPair_leaves {first at_ word} (hπ : π.Clear [.flash, .rowFaults, .draws]) (h : π.Same s t) : π.Same s (appendPair first at_ word t) :=
  .ite (ownErase_leaves hπ (fun _ _ _ hu => appendLedger_leaves hπ hu) (putWord_leaves (hπ.mono rfl) h)) (putWord_leaves (hπ.mono rfl) h)

theorem appendCounters_leaves (hπ : π.Clear [.flash, .rowFaults, .draws]) (h : π.Same s t) : π.Same s (appendCounters t) := appendPair_leaves hπ (modFlash_change hπ h fun q hq => by cases q <;> first | exact Bool.noConfusion hq | exact rfl)

theorem cfgWord_leaves {body} (hπ : π.Clear [.flash, .rowFaults]) (h : π.Same s t) : π.Same s (cfgWord body t) := by
  unfold cfgWord
  exact modFlash_change hπ (putWord_leaves hπ h) fun q hq => by cases q <;> first | exact Bool.noConfusion hq | exact rfl

theorem cfgTurn_leaves (hπ : π.Clear [.flash, .rowFaults, .draws]) (h : π.Same s t) : π.Same s (cfgTurn t) :=
  .ite (repeatIdx_leaves (fun _ _ hu => ownErase_leaves hπ (fun _ _ _ hu1 => appendLedger_leaves hπ hu1) hu) (forAll_leaves (fun _ _ hu => cfgWord_leaves (hπ.mono rfl) hu) (modFlash_change hπ h fun q hq => by cases q <;> first | exact Bool.noConfusion hq | exact rfl))) (forAll_leaves (fun _ _ hu => cfgWord_leaves (hπ.mono rfl) hu) (modFlash_change hπ h fun q hq => by cases q <;> first | exact Bool.noConfusion hq | exact rfl))

theorem configRecord_leaves {key record} (hπ : π.Clear [.flash, .rowFaults, .draws]) (h : π.Same s t) : π.Same s (configRecord key record t) :=
  forAll_leaves (fun _ _ hu => cfgWord_leaves (hπ.mono rfl) hu) (modFlash_change hπ (.ite (cfgTurn_leaves hπ h) h) fun q hq => by cases q <;> first | exact Bool.noConfusion hq | exact rfl)

theorem modChan_leaves {n f} (hπ : π.Clear [.chans]) (h : π.Same s t) : π.Same s (modChan n f t) := h.chans hπ

theorem dropLines_leaves (hπ : π.Clear [.chans]) (h : π.Same s t) : π.Same s (dropLines t) := h.chans hπ

theorem modEng_leaves {kind idx f} (hπ : π.Clear [.sched]) (h : π.Same s t) : π.Same s (modEng kind idx f t) := h.sched hπ

theorem dropStep_leaves {slot step} (hπ : π.Clear [.sched]) (h : π.Same s t) : π.Same s (dropStep slot step t) := h.sched hπ

theorem unbind_leaves {slot step} (hπ : π.Clear [.sched]) (h : π.Same s t) : π.Same s (unbind slot step t) := h.sched hπ

theorem chanReadEffect_leaves {n off} (hπ : π.Clear [.chans]) (h : π.Same s t) : π.Same s (chanReadEffect n off t) := .ite (modChan_leaves hπ h) h

theorem modJob_leaves {slot f} (hπ : π.Clear [.jobs]) (h : π.Same s t) : π.Same s (modJob slot f t) := by
  unfold modJob
  split
  · next hj => exact h.jobs hπ
  · exact h

theorem modStep_leaves {slot i f} (hπ : π.Clear [.jobs]) (h : π.Same s t) : π.Same s (modStep slot i f t) := modJob_leaves hπ h

theorem dropLedger_leaves {slot} (hπ : π.Clear [.sched]) (h : π.Same s t) : π.Same s (dropLedger slot t) := h.sched hπ

theorem finishJob_leaves {slot result} (hπ : π.Clear [.jobs, .sched]) (h : π.Same s t) : π.Same s (finishJob slot result t) := modJob_leaves (hπ.mono rfl) (dropLedger_leaves (hπ.mono rfl) (dropStep_leaves (hπ.mono rfl) h))

theorem abortJob_leaves {slot result} (hπ : π.Clear [.jobs, .sched]) (h : π.Same s t) : π.Same s (abortJob slot result t) := by
  unfold abortJob
  split
  · exact .ite h (finishJob_leaves hπ h)
  · exact h

theorem moveEntries_leaves {first moves slot} (hπ : π.Clear [.sched]) (h : π.Same s t) : π.Same s (moveEntries first moves slot t) := h.sched hπ

theorem useMargin_leaves {first moves slot} (hπ : π.Clear [.units, .recorder, .msix, .jobs, .sched]) (h : π.Same s t) : π.Same s (useMargin first moves slot t) := by
  unfold useMargin
  split
  · exact h
  · exact .ite h (.ite (abortJob_leaves (hπ.mono rfl) h) (raise_leaves (hπ.mono rfl) (moveEntries_leaves (hπ.mono rfl) (.ite (repeatIdx_leaves (fun _ _ hu => .ite (unbind_leaves (hπ.mono rfl) (modStep_leaves (hπ.mono rfl) hu)) hu) (modJob_leaves (hπ.mono rfl) (h.sched (hπ.mono rfl)))) (modJob_leaves (hπ.mono rfl) (h.sched (hπ.mono rfl)))))))

theorem withdrawJob_leaves {result slot} (hπ : π.Clear [.jobs, .sched]) (h : π.Same s t) : π.Same s (withdrawJob result slot t) := by
  unfold withdrawJob
  split
  · exact .ite h (dropStep_leaves (hπ.mono rfl) (modJob_leaves (hπ.mono rfl) h))
  · exact h

theorem modPort_leaves {p f} (hπ : π.Clear [.fold]) (h : π.Same s t) : π.Same s (modPort p f t) := h.fold hπ

theorem formRoot_leaves (hπ : π.Clear [.keys]) (h : π.Same s t) : π.Same s (formRoot t) := h.keys hπ

theorem advanceMark_leaves (hπ : π.Clear [.units, .recorder, .msix, .cip]) (h : π.Same s t) : π.Same s (advanceMark t) := .ite (raise_leaves (hπ.mono rfl) (h.cip (hπ.mono rfl))) h

theorem grantNonces_leaves {holder} (hπ : π.Clear [.units, .recorder, .msix, .cip]) (h : π.Same s t) : π.Same s (grantNonces holder t) := by
  unfold grantNonces
  extract_lets n
  exact .ite (raise_leaves (hπ.mono rfl) h) (.ite (advanceMark_leaves hπ (h.cip (hπ.mono rfl))) (advanceMark_leaves hπ h))

theorem nonceTaken_leaves {holder n e rest} (hπ : π.Clear [.cip]) (h : π.Same s t) : π.Same s (nonceTaken holder n e rest t).2 := h.cip hπ

theorem takeNonce_leaves {holder} (hπ : π.Clear [.units, .recorder, .msix, .cip]) (h : π.Same s t) : ∀ v, takeNonce holder t = some v → π.Same s v.2 := by
  intro v hv
  cases ht : holderBlocks t holder with
  | cons b rest =>
    rw [takeNonce_of_cons ht] at hv
    exact Option.some.inj hv ▸ nonceTaken_leaves (hπ.mono rfl) h
  | nil =>
    have hg := grantNonces_leaves hπ (holder := holder) h
    cases hu : holderBlocks (grantNonces holder t) holder with
    | cons b rest =>
      rw [takeNonce_of_granted ht hu] at hv
      generalize grantNonces holder t = g at hg hv
      exact Option.some.inj hv ▸ nonceTaken_leaves (hπ.mono rfl) hg
    | nil =>
      rw [takeNonce_of_none ht hu] at hv
      cases hv

theorem sealKey_leaves {k fresh} (hπ : π.Clear [.units, .recorder, .msix, .cip]) (h : π.Same s t) : ∀ v, sealKey k fresh t = some v → π.Same s v.2 := by
  intro v hv
  obtain ⟨n, hn, rfl⟩ := Option.map_eq_some_iff.mp hv
  exact takeNonce_leaves hπ h n hn

theorem putKey_leaves {b k} (hπ : π.Clear [.keys]) (h : π.Same s t) : π.Same s (putKey b k t) := h.keys hπ

theorem storeKey_leaves {b k} (hπ : π.Clear [.units, .recorder, .msix, .keys, .cip]) (h : π.Same s t) : π.Same s (storeKey b k t) := by
  unfold storeKey
  split
  · exact putKey_leaves (hπ.mono rfl) (sealKey_leaves (hπ.mono rfl) h _ ‹_›)
  · exact h

theorem reseal_leaves {b f} (hπ : π.Clear [.units, .recorder, .msix, .keys, .cip]) (h : π.Same s t) : π.Same s (reseal b f t) := by
  unfold reseal
  split
  · exact h
  · split
    · exact putKey_leaves (hπ.mono rfl) (sealKey_leaves (hπ.mono rfl) h _ ‹_›)
    · exact h

theorem modBay_leaves {b f} (hπ : π.Clear [.keys]) (h : π.Same s t) : π.Same s (modBay b f t) := h.keys hπ

theorem dropFromBays_leaves {k} (hπ : π.Clear [.keys]) (h : π.Same s t) : π.Same s (dropFromBays k t) := h.keys hπ

theorem destroyKey_leaves {k} (hπ : π.Clear [.keys, .flash, .rowFaults, .draws]) (h : π.Same s t) : π.Same s (destroyKey k t) :=
  .keys (hπ.mono rfl) (dropFromBays_leaves (hπ.mono rfl) (.ite (configRecord_leaves (hπ.mono rfl) (.ite (configRecord_leaves (hπ.mono rfl) h) h)) (.ite (configRecord_leaves (hπ.mono rfl) h) h)))

theorem makeRoom_leaves {n b ix} (hπ : π.Clear [.draws]) (h : π.Same s t) : π.Same s (makeRoom n b ix t).2 := by
  induction n generalizing b ix t with
  | zero => exact h
  | succ n ih =>
    unfold makeRoom
    dsimp only
    split
    · exact h
    · split
      · exact draw_leaves hπ h
      · split <;> exact ih (draw_leaves hπ h)

theorem indexInsert_leaves {ix spillTable key x3 leaf quarter} (hπ : π.Clear [.draws]) (h : π.Same s t) : π.Same s (indexInsert ix spillTable key x3 leaf quarter t).2 := by
  unfold indexInsert
  split
  · split
    · dsimp only
      split <;> exact h
    · split
      · dsimp only
        split <;> exact h
      · dsimp only
        split
        · exact h
        · split <;> exact makeRoom_leaves hπ h
  · split
    · dsimp only
      split <;> exact h
    · split
      · dsimp only
        split <;> exact h
      · dsimp only
        split
        · exact h
        · split <;> exact makeRoom_leaves hπ h

theorem modDomain_leaves {d f} (hπ : π.Clear [.power, .domains]) (h : π.Same s t) : π.Same s (modDomain d f t) := h.change hπ fun q hq => by cases q <;> first | exact Bool.noConfusion hq | exact rfl

theorem loseParked_leaves {kind idx} (hπ : π.Clear [.units, .recorder, .msix, .jobs, .sched]) (h : π.Same s t) : π.Same s (loseParked kind idx t) := by
  unfold loseParked
  split
  · exact h
  · exact .ite (raise_leaves (hπ.mono rfl) (withdrawJob_leaves (hπ.mono rfl) (modEng_leaves (hπ.mono rfl) h))) (withdrawJob_leaves (hπ.mono rfl) (modEng_leaves (hπ.mono rfl) h))

theorem loseRunning_leaves {kind idx} (hπ : π.Clear [.units, .recorder, .msix, .jobs, .sched]) (h : π.Same s t) : π.Same s (loseRunning kind idx t) :=
  forAll_leaves (fun _ _ hu => .ite (useMargin_leaves hπ hu) (withdrawJob_leaves (hπ.mono rfl) hu)) h

theorem failUnit_leaves {p} (hπ : π.Clear [.units, .recorder, .msix, .jobs, .sched]) (h : π.Same s t) : π.Same s (failUnit p t) := by
  unfold failUnit
  refine .ite h ?_
  split
  · split
    · exact raise_leaves (hπ.mono rfl) (raise_leaves (hπ.mono rfl) (setUnitState_leaves (hπ.mono rfl) (loseRunning_leaves hπ (loseParked_leaves hπ h))))
    · exact raise_leaves (hπ.mono rfl) (setUnitState_leaves (hπ.mono rfl) (loseRunning_leaves hπ (loseParked_leaves hπ h)))
  · split
    · exact raise_leaves (hπ.mono rfl) (raise_leaves (hπ.mono rfl) (setUnitState_leaves (hπ.mono rfl) h))
    · exact raise_leaves (hπ.mono rfl) (setUnitState_leaves (hπ.mono rfl) h)

theorem isolateUnit_leaves {p cause} (hπ : π.Clear [.units, .recorder, .msix]) (h : π.Same s t) : π.Same s (isolateUnit p cause t) := .ite h (raise_leaves hπ (setUnitState_leaves (hπ.mono rfl) h))

theorem releaseUnit_leaves {p} (hπ : π.Clear [.units]) (h : π.Same s t) : π.Same s (releaseUnit p t) := .ite h (.ite (setUnitState_leaves hπ h) (setUnitState_leaves hπ h))

theorem modGate_leaves {m f} (hπ : π.Clear [.gates]) (h : π.Same s t) : π.Same s (modGate m f t) := h.gates hπ

theorem requestRecord_leaves {code result custodian r v} (hπ : π.Clear [.units, .audit, .recorder, .msix, .chain, .chainNext]) (h : π.Same s t) : π.Same s (requestRecord code result custodian r v t) := ceremony_leaves hπ h

theorem activate_leaves (hπ : π.Clear [.ceremony, .queue]) (h : π.Same s t) : π.Same s (activate t) := by
  unfold activate
  split
  · exact h
  · exact .ite h (h.ceremony hπ)

theorem modActive_leaves {f} (hπ : π.Clear [.ceremony, .queue]) (h : π.Same s t) : π.Same s (modActive f t) := by
  unfold modActive
  split
  · exact h
  · exact h.ceremony hπ

theorem cancelAll_leaves (hπ : π.Clear [.units, .audit, .recorder, .msix, .ceremony, .chain, .chainNext, .queue]) (h : π.Same s t) : π.Same s (cancelAll t) := .ceremony (hπ.mono rfl) (forAll_leaves (fun _ _ hu => requestRecord_leaves (hπ.mono rfl) hu) h)

theorem loseRequests_leaves (hπ : π.Clear [.ceremony, .queue]) (h : π.Same s t) : π.Same s (loseRequests t) := h.ceremony hπ

theorem sendFold_leaves {p type dst body} (hπ : π.Clear [.fold, .out]) (h : π.Same s t) : π.Same s (sendFold p type dst body t) := emit_leaves (hπ.mono rfl) (modPort_leaves (hπ.mono rfl) h)

theorem portDown_leaves {p} (hπ : π.Clear [.units, .recorder, .msix, .fold]) (h : π.Same s t) : π.Same s (portDown p t) := .ite (raise_leaves (hπ.mono rfl) (modPort_leaves (hπ.mono rfl) h)) (modPort_leaves (hπ.mono rfl) h)

theorem portsDown_leaves {close} (hπ : π.Clear [.units, .recorder, .msix, .fold, .out]) (h : π.Same s t) : π.Same s (portsDown close t) :=
  repeatIdx_leaves (fun _ _ hu => portDown_leaves (hπ.mono rfl) (.ite (sendFold_leaves (hπ.mono rfl) hu) hu)) h

theorem sendMember_leaves {type m body} (hπ : π.Clear [.fold, .out]) (h : π.Same s t) : π.Same s (sendMember type m body t) := by
  unfold sendMember
  split
  · exact sendFold_leaves hπ h
  · exact h

theorem sendChange_leaves {m c} (hπ : π.Clear [.units, .recorder, .msix, .cip, .fold, .out]) (h : π.Same s t) : π.Same s (sendChange m c t) := by
  unfold sendChange
  refine .ite ?_ (sendMember_leaves (hπ.mono rfl) h)
  split
  · split
    · exact sendMember_leaves (hπ.mono rfl) (takeNonce_leaves (hπ.mono rfl) h _ ‹_›)
    · exact h
  · exact h

theorem noteChange_leaves {what mask} (hπ : π.Clear [.units, .recorder, .msix, .cip, .fold, .out]) (h : π.Same s t) : π.Same s (noteChange what mask t) :=
  .ite h (forAll_leaves (fun _ _ hu => sendChange_leaves hπ hu) (h.fold (hπ.mono rfl)))

theorem keyChanged_leaves {b} (hπ : π.Clear [.units, .recorder, .msix, .cip, .fold, .out]) (h : π.Same s t) : π.Same s (keyChanged b t) := by
  unfold keyChanged
  split
  · exact .ite (noteChange_leaves hπ h) h
  · exact h

theorem logTamper_leaves {cause detail value erased} (hπ : π.Clear [.units, .recorder, .msix, .keeper]) (h : π.Same s t) : π.Same s (logTamper cause detail value erased t) :=
  .ite (raise_leaves (hπ.mono rfl) (h.change hπ fun q hq => by cases q <;> first | exact Bool.noConfusion hq | exact rfl)) (h.change hπ fun q hq => by cases q <;> first | exact Bool.noConfusion hq | exact rfl)

theorem writeRecord_leaves {state pending cause request} (hπ : π.Clear [.keeper, .keeperRecord]) (h : π.Same s t) : π.Same s (writeRecord state pending cause request t) := h.keeper hπ

theorem destroyStileKey_leaves (hπ : π.Clear [.stile]) (h : π.Same s t) : π.Same s (destroyStileKey t) := .ite (h.stile hπ) h

theorem wipeVolatile_leaves (hπ : π.Clear [.chans, .jobs, .sched, .keys, .vault, .ceremony, .tenants, .cores, .sram, .sramTags, .dram, .boot, .rowFaults, .queue]) (h : π.Same s t) : π.Same s (wipeVolatile t) := h.change hπ fun q hq => by cases q <;> first | exact Bool.noConfusion hq | exact rfl

theorem removeStileKey_leaves (hπ : π.Clear [.stile]) (h : π.Same s t) : π.Same s (removeStileKey t) := h.stile hπ

theorem drawScalar_leaves (hπ : π.Clear [.draws]) (h : π.Same s t) : π.Same s (drawScalar t).2 := drawBytes_leaves hπ h

theorem keeperWipe_leaves {w rosterM roster} (hπ : π.Clear [.keeper, .stile, .draws]) (h : π.Same s t) : π.Same s (keeperWipe w rosterM roster t) := by
  unfold keeperWipe
  split
  · exact h
  · exact removeStileKey_leaves (hπ.mono rfl) (h.change hπ fun q hq => by cases q <;> first | exact Bool.noConfusion hq | exact rfl)
  · exact removeStileKey_leaves (hπ.mono rfl) (h.change hπ fun q hq => by cases q <;> first | exact Bool.noConfusion hq | exact rfl)
  · exact removeStileKey_leaves (hπ.mono rfl) (h.change hπ fun q hq => by cases q <;> first | exact Bool.noConfusion hq | exact rfl)

theorem programStaging_leaves (hπ : π.Clear [.audit]) (h : π.Same s t) : π.Same s (programStaging t) := h.change hπ fun q hq => by cases q <;> first | exact Bool.noConfusion hq | exact rfl

theorem releaseAlarm_leaves (hπ : π.Clear [.keeper, .out]) (h : π.Same s t) : π.Same s (releaseAlarm t) := .ite (emit_leaves (hπ.mono rfl) (h.change hπ fun q hq => by cases q <;> first | exact Bool.noConfusion hq | exact rfl)) h

theorem transition_leaves {target request rosterM roster} (hπ : π.Clear [.units, .audit, .recorder, .msix, .chans, .jobs, .sched, .keeper, .start, .keys, .vault, .fold, .ceremony, .stile, .tenants, .cores, .sram, .sramTags, .dram, .boot, .rowFaults, .draws, .out, .chain, .chainNext, .keeperRecord, .queue]) (h : π.Same s t) : π.Same s (transition target request rosterM roster t) := by
  unfold transition
  dsimp only
  split
  · exact h
  · exact raise_leaves (hπ.mono rfl) (.ite (formRoot_leaves (hπ.mono rfl) (.vaultChange hπ (keeperWipe_leaves (hπ.mono rfl) (wipeVolatile_leaves (hπ.mono rfl) (portsDown_leaves (hπ.mono rfl) (writeRecord_leaves (hπ.mono rfl) (releaseAlarm_leaves (hπ.mono rfl) (logTamper_leaves (hπ.mono rfl) (programStaging_leaves (hπ.mono rfl) (appendOrLose_leaves (hπ.mono rfl) (cancelAll_leaves (hπ.mono rfl) h))))))))) fun q hq => by cases q <;> first | exact Bool.noConfusion hq | exact rfl)) (.start (hπ.mono rfl) (keeperWipe_leaves (hπ.mono rfl) (wipeVolatile_leaves (hπ.mono rfl) (portsDown_leaves (hπ.mono rfl) (writeRecord_leaves (hπ.mono rfl) (releaseAlarm_leaves (hπ.mono rfl) (logTamper_leaves (hπ.mono rfl) (programStaging_leaves (hπ.mono rfl) (appendOrLose_leaves (hπ.mono rfl) (cancelAll_leaves (hπ.mono rfl) h)))))))))))

theorem marginOn_leaves {kind idx slot} (hπ : π.Clear [.units, .recorder, .msix, .jobs, .sched]) (h : π.Same s t) : π.Same s (marginOn kind idx slot t) := by
  unfold marginOn
  split
  · exact useMargin_leaves hπ h
  · exact h

theorem setMaint_leaves {a st} (hπ : π.Clear [.sched]) (h : π.Same s t) : π.Same s (setMaint a st t) := h.sched hπ

theorem rethrottle_leaves (hπ : π.Clear [.sched]) (h : π.Same s t) : π.Same s (rethrottle t) := repeatIdx_leaves (fun _ _ hu => .ite (setMaint_leaves hπ hu) hu) h

theorem endActivity_leaves {a} (hπ : π.Clear [.sched]) (h : π.Same s t) : π.Same s (endActivity a t) := rethrottle_leaves hπ (.sched hπ (setMaint_leaves hπ h))

theorem safePoint_leaves {a} (hπ : π.Clear [.units, .recorder, .msix, .sched]) (h : π.Same s t) : π.Same s (safePoint a t) := .ite (raise_leaves (hπ.mono rfl) (endActivity_leaves (hπ.mono rfl) h)) h

theorem schReadEffect_leaves {off} (hπ : π.Clear [.sched]) (h : π.Same s t) : π.Same s (schReadEffect off t) := by
  unfold schReadEffect
  split
  · exact h.sched hπ
  · exact h.sched hπ
  · exact h.sched hπ
  · exact h.sched hπ
  · exact h.sched hπ
  · exact h

theorem audReadEffect_leaves {off} (hπ : π.Clear [.audit]) (h : π.Same s t) : π.Same s (audReadEffect off t) := .ite (h.change hπ fun q hq => by cases q <;> first | exact Bool.noConfusion hq | exact rfl) h

theorem sigReadEffect_leaves {off} (hπ : π.Clear [.sig]) (h : π.Same s t) : π.Same s (sigReadEffect off t) := .ite (h.sig hπ) h

theorem setStatus_leaves {b status} (hπ : π.Clear [.units, .recorder, .msix, .keys, .cip, .fold, .out]) (h : π.Same s t) : π.Same s (setStatus b status t) := keyChanged_leaves (hπ.mono rfl) (dropFromBays_leaves (hπ.mono rfl) (reseal_leaves (hπ.mono rfl) h))

theorem replicateKey_leaves {b mask} (hπ : π.Clear [.units, .recorder, .msix, .cip, .fold, .out]) (h : π.Same s t) : π.Same s (replicateKey b mask t) := noteChange_leaves hπ h

theorem keyChange_leaves {opcode x1 input} (hπ : π.Clear [.units, .recorder, .msix, .keys, .cip, .fold, .flash, .rowFaults, .draws, .out]) (h : π.Same s t) : π.Same s (keyChange opcode x1 input t).2 := by
  unfold keyChange
  split
  · exact h
  · split
    · exact h
    · split
      · split
        · exact h
        · exact setStatus_leaves (hπ.mono rfl) h
      · exact setStatus_leaves (hπ.mono rfl) h
      · exact destroyKey_leaves (hπ.mono rfl) h
      · exact replicateKey_leaves (hπ.mono rfl) h

theorem keyReadEffect_leaves {off} (hπ : π.Clear [.keys]) (h : π.Same s t) : π.Same s (keyReadEffect off t) := by
  unfold keyReadEffect
  split
  · exact modBay_leaves hπ h
  · exact modBay_leaves hπ h
  · exact h.keys hπ
  · exact h

theorem modVault_leaves {f} (hπ : π.Clear [.vault, .records, .journal]) (h : π.Same s t) : π.Same s (modVault f t) := h.vault hπ

theorem modVault_change {l f} (hπ : π.Clear l) (h : π.Same s t) (hu : ∀ q : Part, q.Clear l → q.Same t (modVault f t)) : π.Same s (modVault f t) := h.trans (hu π hπ)

theorem appendJournal_leaves {kind target slot r ckpt} (hπ : π.Clear [.units, .recorder, .msix, .vault, .journal]) (h : π.Same s t) : π.Same s (appendJournal kind target slot r ckpt t) :=
  .ite (raise_leaves (hπ.mono rfl) (h.change hπ fun q hq => by cases q <;> first | exact Bool.noConfusion hq | exact rfl)) (h.change hπ fun q hq => by cases q <;> first | exact Bool.noConfusion hq | exact rfl)

theorem putVersion_leaves {k r} (hπ : π.Clear [.units, .recorder, .msix, .vault, .records, .journal]) (h : π.Same s t) : π.Same s (putVersion k r t) := appendJournal_leaves (hπ.mono rfl) (modVault_leaves (hπ.mono rfl) h)

theorem writeVersion_leaves {k r} (hπ : π.Clear [.units, .recorder, .msix, .cip, .vault, .records, .journal]) (h : π.Same s t) : π.Same s (writeVersion k r t) := by
  unfold writeVersion
  split
  · exact h
  · exact putVersion_leaves (hπ.mono rfl) (takeNonce_leaves (hπ.mono rfl) h _ ‹_›)

theorem noteOverflow_leaves {before} (hπ : π.Clear [.units, .recorder, .msix]) (h : π.Same s t) : π.Same s (noteOverflow before t) :=
  .ite (raise_leaves hπ (.ite (raise_leaves hπ h) h)) (.ite (raise_leaves hπ h) h)

theorem indexRecord_leaves {k r} (hπ : π.Clear [.vault, .draws, .records, .journal]) (h : π.Same s t) : ∀ v, indexRecord k r t = some v → π.Same s v := by
  intro v hv
  unfold indexRecord at hv
  dsimp only at hv
  split at hv
  · cases hv
  · split at hv
    · cases hv
    · cases hv
      exact modVault_leaves (hπ.mono rfl) (indexInsert_leaves (hπ.mono rfl) (indexInsert_leaves (hπ.mono rfl) h))

theorem storeRecord_leaves {k r} (hπ : π.Clear [.units, .recorder, .msix, .cip, .vault, .draws, .records, .journal]) (h : π.Same s t) : ∀ v, storeRecord k r t = some v → π.Same s v := by
  intro v hv
  obtain ⟨s1, hs, rfl⟩ := Option.map_eq_some_iff.mp hv
  exact noteOverflow_leaves (hπ.mono rfl) (modVault_leaves (hπ.mono rfl) (writeVersion_leaves (hπ.mono rfl) (indexRecord_leaves (hπ.mono rfl) h s1 hs)))

theorem writeDomain_leaves {d e} (hπ : π.Clear [.units, .recorder, .msix, .vault, .flash, .rowFaults, .draws]) (h : π.Same s t) : π.Same s (writeDomain d e t) := raise_leaves (hπ.mono rfl) (configRecord_leaves (hπ.mono rfl) (modVault_change hπ h fun q hq => by cases q <;> first | exact Bool.noConfusion hq | exact rfl))

theorem vaultReadEffect_leaves {off} (hπ : π.Clear [.vault]) (h : π.Same s t) : π.Same s (vaultReadEffect off t) := by
  unfold vaultReadEffect
  split
  · exact modVault_change hπ h fun q hq => by cases q <;> first | exact Bool.noConfusion hq | exact rfl
  · exact modVault_change hπ h fun q hq => by cases q <;> first | exact Bool.noConfusion hq | exact rfl
  · exact h

theorem modRng_leaves {f} (hπ : π.Clear [.rng]) (h : π.Same s t) : π.Same s (modRng f t) := h.rng hπ

theorem conditionedBlock_leaves (hπ : π.Clear [.draws]) (h : π.Same s t) : π.Same s (conditionedBlock t).2 := drawBytes_leaves hπ h

theorem rngReadEffect_leaves {off} (hπ : π.Clear [.rng]) (h : π.Same s t) : π.Same s (rngReadEffect off t) := by
  unfold rngReadEffect
  split
  · exact modRng_leaves hπ h
  · exact modRng_leaves hπ h
  · exact h

theorem coreReadEffect_leaves {n off} (hπ : π.Clear [.cores]) (h : π.Same s t) : π.Same s (coreReadEffect n off t) := by
  unfold coreReadEffect
  split
  · exact modCore_leaves hπ h
  · exact modCore_leaves hπ h
  · exact h

theorem gateReadEffect_leaves {m off} (hπ : π.Clear [.gates]) (h : π.Same s t) : π.Same s (gateReadEffect m off t) := .ite (modGate_leaves hπ h) h

theorem collectAll_leaves {flushed} (hπ : π.Clear [.recorder]) (h : π.Same s t) : π.Same s (collectAll flushed t) := forAll_leaves (fun _ _ hu => collect_leaves hπ hu) h

theorem enterSector_leaves {sector} (hπ : π.Clear [.units, .recorder, .msix, .flash, .rowFaults, .draws]) (h : π.Same s t) : π.Same s (enterSector sector t) :=
  .ite (raise_leaves (hπ.mono rfl) (.recorder (hπ.mono rfl) (ownErase_leaves (hπ.mono rfl) (fun _ _ _ hu => appendLedger_leaves (hπ.mono rfl) hu) (.ite (ownErase_leaves (hπ.mono rfl) (fun _ _ _ hu => appendLedger_leaves (hπ.mono rfl) hu) h) h)))) (ownErase_leaves (hπ.mono rfl) (fun _ _ _ hu => appendLedger_leaves (hπ.mono rfl) hu) (.ite (ownErase_leaves (hπ.mono rfl) (fun _ _ _ hu => appendLedger_leaves (hπ.mono rfl) hu) h) h))

theorem programNext_leaves (hπ : π.Clear [.units, .recorder, .msix, .flash, .rowFaults, .draws]) (h : π.Same s t) : π.Same s (programNext t) := by
  unfold programNext
  split
  · exact h
  · exact .recorder (hπ.mono rfl) (putWord_leaves (hπ.mono rfl) (.ite (enterSector_leaves hπ h) h))

theorem recReadEffect_leaves {off} (hπ : π.Clear [.recorder]) (h : π.Same s t) : π.Same s (recReadEffect off t) := .ite (h.recorder hπ) h

theorem flsPowerFail_leaves (hπ : π.Clear [.flash]) (h : π.Same s t) : π.Same s (flsPowerFail t) := modFlash_change hπ h fun q hq => by cases q <;> first | exact Bool.noConfusion hq | exact rfl

theorem flsReadEffect_leaves {off} (hπ : π.Clear [.flash]) (h : π.Same s t) : π.Same s (flsReadEffect off t) := .ite (modFlash_change hπ h fun q hq => by cases q <;> first | exact Bool.noConfusion hq | exact rfl) h

theorem receiveKey_leaves {k} (hπ : π.Clear [.units, .recorder, .msix, .keys, .cip]) (h : π.Same s t) : π.Same s (receiveKey k t) := .keys (hπ.mono rfl) (storeKey_leaves hπ (dropFromBays_leaves (hπ.mono rfl) h))

theorem receiveRecord_leaves {x} (hπ : π.Clear [.units, .recorder, .msix, .cip, .vault, .draws, .records, .journal]) (h : π.Same s t) : π.Same s (receiveRecord x t) := by
  unfold receiveRecord
  extract_lets r
  split
  · exact writeVersion_leaves (hπ.mono rfl) h
  · split
    · exact getD_leaves (storeRecord_leaves hπ h) h
    · exact h

theorem nameSign_leaves {body} (hπ : π.Clear [.draws]) (h : π.Same s t) : π.Same s (nameSign body t).2 := drawBytes_leaves hπ h

theorem modStile_leaves {f} (hπ : π.Clear [.stile]) (h : π.Same s t) : π.Same s (modStile f t) := h.stile hπ

theorem keeperReadEffect_leaves {off} (hπ : π.Clear [.stile]) (h : π.Same s t) : π.Same s (keeperReadEffect off t) := .ite (modStile_leaves hπ h) h

theorem modFold_leaves {f} (hπ : π.Clear [.fold]) (h : π.Same s t) : π.Same s (modFold f t) := h.fold hπ

theorem ephemeral_leaves (hπ : π.Clear [.draws]) (h : π.Same s t) : π.Same s (ephemeral t).2 := drawBytes_leaves hπ (drawScalar_leaves hπ h)

theorem helloBody_leaves {scalar kem} (hπ : π.Clear [.draws]) (h : π.Same s t) : π.Same s (helloBody scalar kem t).2 := by
  unfold helloBody
  dsimp only
  exact nameSign_leaves hπ (drawBytes_leaves hπ h)

theorem changeMembers_leaves {input} (hπ : π.Clear [.fold, .flash, .rowFaults, .draws]) (h : π.Same s t) : π.Same s (changeMembers input t) :=
  .ite (configRecord_leaves (hπ.mono rfl) (modFold_leaves (hπ.mono rfl) h)) (configRecord_leaves (hπ.mono rfl) (modFold_leaves (hπ.mono rfl) h))

theorem portReadEffect_leaves {p off} (hπ : π.Clear [.fold]) (h : π.Same s t) : π.Same s (portReadEffect p off t) := .ite (modPort_leaves hπ h) h

theorem modSdc_leaves {f} (hπ : π.Clear [.sdc]) (h : π.Same s t) : π.Same s (modSdc f t) := h.sdc hπ

theorem sdSend_leaves {command arg data} (hπ : π.Clear [.sdc, .out]) (h : π.Same s t) : π.Same s (sdSend command arg data t) := emit_leaves (hπ.mono rfl) (modSdc_leaves (hπ.mono rfl) h)

theorem sdAgain_leaves (hπ : π.Clear [.out]) (h : π.Same s t) : π.Same s (sdAgain t) := by
  unfold sdAgain
  split
  · exact emit_leaves hπ h
  · exact h

theorem restoreSet_leaves {n} (hπ : π.Clear [.units, .recorder, .msix, .keys, .cip, .vault, .flash, .sdc, .rowFaults, .draws, .records, .journal]) (h : π.Same s t) : π.Same s (restoreSet n t).2 := by
  unfold restoreSet
  have hfails : π.Same s (modSdc (fun c => { c with lastResult := 7 }) t) := modSdc_leaves (hπ.mono rfl) h
  extract_lets fails
  split
  · exact hfails
  · extract_lets p
    split
    · exact hfails
    · split
      · exact hfails
      · dsimp only
        exact modSdc_leaves (hπ.mono rfl) (forAll_leaves (fun _ _ hu => receiveRecord_leaves (hπ.mono rfl) hu) (forAll_leaves (fun _ _ hu => writeDomain_leaves (hπ.mono rfl) hu)
          (forAll_leaves (fun _ _ hu => receiveKey_leaves (hπ.mono rfl) hu) h)))

theorem archiveCard_leaves (hπ : π.Clear [.units, .recorder, .msix, .sdc, .out]) (h : π.Same s t) : π.Same s (archiveCard t) := .ite h (raise_leaves (hπ.mono rfl) (modSdc_leaves (hπ.mono rfl) (sdSend_leaves (hπ.mono rfl) (sdSend_leaves (hπ.mono rfl) h))))

theorem sdcReadEffect_leaves {off} (hπ : π.Clear [.sdc]) (h : π.Same s t) : π.Same s (sdcReadEffect off t) := .ite (modSdc_leaves hπ h) h

theorem keepRoster_leaves {m roster} (hπ : π.Clear [.units, .recorder, .msix, .cip, .flash, .rowFaults, .draws]) (h : π.Same s t) : π.Same s (keepRoster m roster t) := by
  unfold keepRoster
  split
  · exact configRecord_leaves (hπ.mono rfl) (takeNonce_leaves (hπ.mono rfl) h _ ‹_›)
  · exact h

theorem loadRoot_leaves {domain m roster root} (hπ : π.Clear [.units, .recorder, .msix, .keys, .cip, .flash, .rowFaults, .draws]) (h : π.Same s t) : π.Same s (loadRoot domain m roster root t) :=
  keepRoster_leaves (hπ.mono rfl) (.keys (hπ.mono rfl) (storeKey_leaves (hπ.mono rfl) (dropFromBays_leaves (hπ.mono rfl) h)))

theorem lifeAction_leaves {r} (hπ : π.Clear [.units, .audit, .recorder, .msix, .chans, .jobs, .sched, .keeper, .start, .keys, .vault, .fold, .ceremony, .stile, .tenants, .cores, .sram, .sramTags, .dram, .boot, .rowFaults, .draws, .out, .chain, .chainNext, .keeperRecord, .queue]) (h : π.Same s t) : π.Same s (lifeAction r t).2 := by
  unfold lifeAction
  dsimp only
  split
  · split
    · exact h
    · exact transition_leaves hπ h
  · exact h

theorem performAction_leaves {r release} (hπ : π.Clear [.units, .audit, .recorder, .msix, .chans, .jobs, .sched, .keeper, .start, .keys, .cip, .vault, .fold, .flash, .ceremony, .stile, .sdc, .tenants, .cores, .sram, .sramTags, .dram, .boot, .rowFaults, .draws, .out, .chain, .chainNext, .keeperRecord, .queue, .records, .journal]) (h : π.Same s t) : π.Same s (performAction r release t).2 := by
  unfold performAction
  split
  · split
    · exact h
    · exact lifeAction_leaves (hπ.mono rfl) h
  · split
    · exact loadRoot_leaves (hπ.mono rfl) h
    · exact h
  · exact loadRoot_leaves (hπ.mono rfl) h
  · exact changeMembers_leaves (hπ.mono rfl) h
  · exact restoreSet_leaves (hπ.mono rfl) h
  · split
    · exact h
    · exact archiveCard_leaves (hπ.mono rfl) h
  · split
    · exact .ite h (configRecord_leaves (hπ.mono rfl) (h.keys (hπ.mono rfl)))
    · exact h
  · exact keyChange_leaves (hπ.mono rfl) h

theorem meet_leaves {r} (hπ : π.Clear [.units, .audit, .recorder, .msix, .chans, .jobs, .sched, .keeper, .start, .keys, .cip, .vault, .fold, .flash, .ceremony, .stile, .sdc, .tenants, .cores, .sram, .sramTags, .dram, .boot, .rowFaults, .draws, .out, .chain, .chainNext, .keeperRecord, .queue, .records, .journal]) (h : π.Same s t) : π.Same s (meet r t) := by
  unfold meet
  dsimp only
  exact activate_leaves (hπ.mono rfl) (raise_leaves (hπ.mono rfl) (requestRecord_leaves (hπ.mono rfl) (performAction_leaves hπ (h.ceremony (hπ.mono rfl)))))

theorem beginPass2_leaves (hπ : π.Clear [.ceremony, .draws, .queue]) (h : π.Same s t) : π.Same s (beginPass2 t) := by
  unfold beginPass2
  split
  · exact h
  · exact modActive_leaves (hπ.mono rfl) (drawBytes_leaves (hπ.mono rfl) h)

theorem setPresentation_leaves {reader p} (hπ : π.Clear [.ceremony]) (h : π.Same s t) : π.Same s (setPresentation reader p t) := by
  cases reader
  · exact h.change hπ fun q hq => by cases q <;> first | exact Bool.noConfusion hq | exact rfl
  · exact h.change hπ fun q hq => by cases q <;> first | exact Bool.noConfusion hq | exact rfl

theorem countPresentation_leaves {p} (hπ : π.Clear [.units, .audit, .recorder, .msix, .chans, .jobs, .sched, .keeper, .start, .keys, .cip, .vault, .fold, .flash, .ceremony, .stile, .sdc, .tenants, .cores, .sram, .sramTags, .dram, .boot, .rowFaults, .draws, .out, .chain, .chainNext, .keeperRecord, .queue, .records, .journal]) (h : π.Same s t) : π.Same s (countPresentation p t) := by
  unfold countPresentation
  dsimp only
  split
  · exact modActive_leaves (hπ.mono rfl) h
  · exact .ite (modActive_leaves (hπ.mono rfl) h) (.ite (beginPass2_leaves (hπ.mono rfl) (modActive_leaves (hπ.mono rfl) h)) (meet_leaves hπ (modActive_leaves (hπ.mono rfl) h)))

theorem modContact_leaves {f} (hπ : π.Clear [.contact]) (h : π.Same s t) : π.Same s (modContact f t) := h.contact hπ

theorem deactivate_leaves (hπ : π.Clear [.contact, .out]) (h : π.Same s t) : π.Same s (deactivate t) := emit_leaves (hπ.mono rfl) (emit_leaves (hπ.mono rfl) (emit_leaves (hπ.mono rfl) (emit_leaves (hπ.mono rfl) (modContact_leaves (hπ.mono rfl) h))))

theorem releaseCard_leaves {reader} (hπ : π.Clear [.contact, .reader, .out]) (h : π.Same s t) : π.Same s (releaseCard reader t) := .ite (emit_leaves (hπ.mono rfl) (h.reader (hπ.mono rfl))) (deactivate_leaves (hπ.mono rfl) h)

theorem endWith_leaves {reader outcome} (hπ : π.Clear [.units, .audit, .recorder, .msix, .chans, .jobs, .sched, .keeper, .start, .keys, .cip, .vault, .fold, .flash, .ceremony, .stile, .sdc, .tenants, .cores, .sram, .sramTags, .dram, .boot, .rowFaults, .draws, .out, .chain, .chainNext, .keeperRecord, .queue, .records, .journal]) (h : π.Same s t) : π.Same s (endWith reader outcome t) := by
  unfold endWith
  split
  · exact h
  · exact .ite (countPresentation_leaves hπ (requestRecord_leaves (hπ.mono rfl) (setPresentation_leaves (hπ.mono rfl) h))) (requestRecord_leaves (hπ.mono rfl) (setPresentation_leaves (hπ.mono rfl) h))

theorem modReader_leaves {f} (hπ : π.Clear [.reader]) (h : π.Same s t) : π.Same s (modReader f t) := h.reader hπ

theorem applyClass_leaves {k} (hπ : π.Clear [.contact, .out]) (h : π.Same s t) : π.Same s (applyClass k t) := emit_leaves (hπ.mono rfl) (emit_leaves (hπ.mono rfl) (modContact_leaves (hπ.mono rfl) h))

theorem activateCard_leaves (hπ : π.Clear [.contact, .out]) (h : π.Same s t) : π.Same s (activateCard t) := by
  unfold activateCard
  split
  · exact applyClass_leaves hπ h
  · exact h

theorem fieldOff_leaves (hπ : π.Clear [.reader]) (h : π.Same s t) : π.Same s (fieldOff t) := modReader_leaves hπ h

theorem contactReadEffect_leaves {off} (hπ : π.Clear [.contact]) (h : π.Same s t) : π.Same s (contactReadEffect off t) := .ite (modContact_leaves hπ h) h

theorem flushJournals_leaves (hπ : π.Clear [.audit, .vault]) (h : π.Same s t) : π.Same s (flushJournals t) := .ite h (programStaging_leaves (hπ.mono rfl) (h.change hπ fun q hq => by cases q <;> first | exact Bool.noConfusion hq | exact rfl))

theorem flushFlash_leaves (hπ : π.Clear [.flash, .rowFaults]) (h : π.Same s t) : π.Same s (flushFlash t) := by
  unfold flushFlash
  refine flsPowerFail_leaves (hπ.mono rfl) (forAll_leaves (fun _ _ hu => ?_) h)
  split
  · exact putWord_leaves hπ (modPart_leaves (hπ.mono rfl) hu)
  · exact hu

theorem flushRecorder_leaves {mv} (hπ : π.Clear [.units, .recorder, .msix, .flash, .rowFaults, .draws]) (h : π.Same s t) : π.Same s (flushRecorder mv t) := by
  unfold flushRecorder
  dsimp only
  exact programNext_leaves hπ (.recorder (hπ.mono rfl) (raise_leaves (hπ.mono rfl) (.recorder (hπ.mono rfl) (repeatIdx_leaves (fun _ _ hu => programNext_leaves hπ hu) (.recorder (hπ.mono rfl) (collectAll_leaves (hπ.mono rfl) h))))))

theorem modLink_leaves {f} (hπ : π.Clear [.link, .linkReset]) (h : π.Same s t) : π.Same s (modLink f t) := h.link hπ

theorem modLink_change {l f} (hπ : π.Clear l) (h : π.Same s t) (hu : ∀ q : Part, q.Clear l → q.Same t (modLink f t)) : π.Same s (modLink f t) := h.trans (hu π hπ)

theorem hostReadEffect_leaves {off} (hπ : π.Clear [.link]) (h : π.Same s t) : π.Same s (hostReadEffect off t) := .ite (modLink_change hπ h fun q hq => by cases q <;> first | exact Bool.noConfusion hq | exact rfl) (.ite (modLink_change hπ h fun q hq => by cases q <;> first | exact Bool.noConfusion hq | exact rfl) h)

theorem modPower_leaves {f} (hπ : π.Clear [.power, .sensors, .domains]) (h : π.Same s t) : π.Same s (modPower f t) := h.power hπ

theorem modPower_change {l f} (hπ : π.Clear l) (h : π.Same s t) (hu : ∀ q : Part, q.Clear l → q.Same t (modPower f t)) : π.Same s (modPower f t) := h.trans (hu π hπ)

theorem setLevel_leaves {n} (hπ : π.Clear [.units, .recorder, .msix, .power]) (h : π.Same s t) : π.Same s (setLevel n t) := .ite h (raise_leaves (hπ.mono rfl) (modPower_change hπ h fun q hq => by cases q <;> first | exact Bool.noConfusion hq | exact rfl))

theorem readInput_leaves {mv ma} (hπ : π.Clear [.units, .recorder, .msix, .power]) (h : π.Same s t) : π.Same s (readInput mv ma t) := .ite (raise_leaves (hπ.mono rfl) (modPower_change hπ h fun q hq => by cases q <;> first | exact Bool.noConfusion hq | exact rfl)) (modPower_change hπ h fun q hq => by cases q <;> first | exact Bool.noConfusion hq | exact rfl)

theorem raiseLevel_leaves (hπ : π.Clear [.units, .recorder, .msix, .power]) (h : π.Same s t) : π.Same s (raiseLevel t) := setLevel_leaves hπ h

theorem powerFail_leaves (hπ : π.Clear [.units, .recorder, .msix, .power, .ceremony, .queue]) (h : π.Same s t) : π.Same s (powerFail t) := .ite h (setLevel_leaves (hπ.mono rfl) (loseRequests_leaves (hπ.mono rfl) (modPower_change hπ h fun q hq => by cases q <;> first | exact Bool.noConfusion hq | exact rfl)))

theorem loseContents_leaves {d} (hπ : π.Clear [.units, .audit, .recorder, .msix, .chans, .jobs, .sched, .keeper, .start, .keys, .cip, .vault, .fold, .flash, .contact, .reader, .ceremony, .stile, .sdc, .tenants, .cores, .sram, .sramTags, .dram, .boot, .rowFaults, .draws, .out, .chain, .chainNext, .keeperRecord, .queue, .records, .journal]) (h : π.Same s t) : π.Same s (loseContents d t) :=
  .ite (dropLines_leaves (hπ.mono rfl) (.ite (modSdc_leaves (hπ.mono rfl) (.ite (fieldOff_leaves (hπ.mono rfl) (endWith_leaves (hπ.mono rfl) (.ite (deactivate_leaves (hπ.mono rfl) (endWith_leaves (hπ.mono rfl) (.ite (portsDown_leaves (hπ.mono rfl) (.ite (forAll_leaves (fun _ _ hu => (hu.keys (hπ.mono rfl)).cores (hπ.mono rfl)) (.ite (.keys (hπ.mono rfl) (forAll_leaves (fun _ _ hu => forAll_leaves (fun _ _ hu1 => marginOn_leaves (hπ.mono rfl) hu1) (modEng_leaves (hπ.mono rfl) (forAll_leaves (fun _ _ hu1 => withdrawJob_leaves (hπ.mono rfl) hu1) hu))) h)) (forAll_leaves (fun _ _ hu => forAll_leaves (fun _ _ hu1 => marginOn_leaves (hπ.mono rfl) hu1) (modEng_leaves (hπ.mono rfl) (forAll_leaves (fun _ _ hu1 => withdrawJob_leaves (hπ.mono rfl) hu1) hu))) h))) (.ite (.keys (hπ.mono rfl) (forAll_leaves (fun _ _ hu => forAll_leaves (fun _ _ hu1 => marginOn_leaves (hπ.mono rfl) hu1) (modEng_leaves (hπ.mono rfl) (forAll_leaves (fun _ _ hu1 => withdrawJob_leaves (hπ.mono rfl) hu1) hu))) h)) (forAll_leaves (fun _ _ hu => forAll_leaves (fun _ _ hu1 => marginOn_leaves (hπ.mono rfl) hu1) (modEng_leaves (hπ.mono rfl) (forAll_leaves (fun _ _ hu1 => withdrawJob_leaves (hπ.mono rfl) hu1) hu))) h)))) (.ite (forAll_leaves (fun _ _ hu => (hu.keys (hπ.mono rfl)).cores (hπ.mono rfl)) (.ite (.keys (hπ.mono rfl) (forAll_leaves (fun _ _ hu => forAll_leaves (fun _ _ hu1 => marginOn_leaves (hπ.mono rfl) hu1) (modEng_leaves (hπ.mono rfl) (forAll_leaves (fun _ _ hu1 => withdrawJob_leaves (hπ.mono rfl) hu1) hu))) h)) (forAll_leaves (fun _ _ hu => forAll_leaves (fun _ _ hu1 => marginOn_leaves (hπ.mono rfl) hu1) (modEng_leaves (hπ.mono rfl) (forAll_leaves (fun _ _ hu1 => withdrawJob_leaves (hπ.mono rfl) hu1) hu))) h))) (.ite (.keys (hπ.mono rfl) (forAll_leaves (fun _ _ hu => forAll_leaves (fun _ _ hu1 => marginOn_leaves (hπ.mono rfl) hu1) (modEng_leaves (hπ.mono rfl) (forAll_leaves (fun _ _ hu1 => withdrawJob_leaves (hπ.mono rfl) hu1) hu))) h)) (forAll_leaves (fun _ _ hu => forAll_leaves (fun _ _ hu1 => marginOn_leaves (hπ.mono rfl) hu1) (modEng_leaves (hπ.mono rfl) (forAll_leaves (fun _ _ hu1 => withdrawJob_leaves (hπ.mono rfl) hu1) hu))) h)))))) (.ite (portsDown_leaves (hπ.mono rfl) (.ite (forAll_leaves (fun _ _ hu => (hu.keys (hπ.mono rfl)).cores (hπ.mono rfl)) (.ite (.keys (hπ.mono rfl) (forAll_leaves (fun _ _ hu => forAll_leaves (fun _ _ hu1 => marginOn_leaves (hπ.mono rfl) hu1) (modEng_leaves (hπ.mono rfl) (forAll_leaves (fun _ _ hu1 => withdrawJob_leaves (hπ.mono rfl) hu1) hu))) h)) (forAll_leaves (fun _ _ hu => forAll_leaves (fun _ _ hu1 => marginOn_leaves (hπ.mono rfl) hu1) (modEng_leaves (hπ.mono rfl) (forAll_leaves (fun _ _ hu1 => withdrawJob_leaves (hπ.mono rfl) hu1) hu))) h))) (.ite (.keys (hπ.mono rfl) (forAll_leaves (fun _ _ hu => forAll_leaves (fun _ _ hu1 => marginOn_leaves (hπ.mono rfl) hu1) (modEng_leaves (hπ.mono rfl) (forAll_leaves (fun _ _ hu1 => withdrawJob_leaves (hπ.mono rfl) hu1) hu))) h)) (forAll_leaves (fun _ _ hu => forAll_leaves (fun _ _ hu1 => marginOn_leaves (hπ.mono rfl) hu1) (modEng_leaves (hπ.mono rfl) (forAll_leaves (fun _ _ hu1 => withdrawJob_leaves (hπ.mono rfl) hu1) hu))) h)))) (.ite (forAll_leaves (fun _ _ hu => (hu.keys (hπ.mono rfl)).cores (hπ.mono rfl)) (.ite (.keys (hπ.mono rfl) (forAll_leaves (fun _ _ hu => forAll_leaves (fun _ _ hu1 => marginOn_leaves (hπ.mono rfl) hu1) (modEng_leaves (hπ.mono rfl) (forAll_leaves (fun _ _ hu1 => withdrawJob_leaves (hπ.mono rfl) hu1) hu))) h)) (forAll_leaves (fun _ _ hu => forAll_leaves (fun _ _ hu1 => marginOn_leaves (hπ.mono rfl) hu1) (modEng_leaves (hπ.mono rfl) (forAll_leaves (fun _ _ hu1 => withdrawJob_leaves (hπ.mono rfl) hu1) hu))) h))) (.ite (.keys (hπ.mono rfl) (forAll_leaves (fun _ _ hu => forAll_leaves (fun _ _ hu1 => marginOn_leaves (hπ.mono rfl) hu1) (modEng_leaves (hπ.mono rfl) (forAll_leaves (fun _ _ hu1 => withdrawJob_leaves (hπ.mono rfl) hu1) hu))) h)) (forAll_leaves (fun _ _ hu => forAll_leaves (fun _ _ hu1 => marginOn_leaves (hπ.mono rfl) hu1) (modEng_leaves (hπ.mono rfl) (forAll_leaves (fun _ _ hu1 => withdrawJob_leaves (hπ.mono rfl) hu1) hu))) h))))))) (.ite (deactivate_leaves (hπ.mono rfl) (endWith_leaves (hπ.mono rfl) (.ite (portsDown_leaves (hπ.mono rfl) (.ite (forAll_leaves (fun _ _ hu => (hu.keys (hπ.mono rfl)).cores (hπ.mono rfl)) (.ite (.keys (hπ.mono rfl) (forAll_leaves (fun _ _ hu => forAll_leaves (fun _ _ hu1 => marginOn_leaves (hπ.mono rfl) hu1) (modEng_leaves (hπ.mono rfl) (forAll_leaves (fun _ _ hu1 => withdrawJob_leaves (hπ.mono rfl) hu1) hu))) h)) (forAll_leaves (fun _ _ hu => forAll_leaves (fun _ _ hu1 => marginOn_leaves (hπ.mono rfl) hu1) (modEng_leaves (hπ.mono rfl) (forAll_leaves (fun _ _ hu1 => withdrawJob_leaves (hπ.mono rfl) hu1) hu))) h))) (.ite (.keys (hπ.mono rfl) (forAll_leaves (fun _ _ hu => forAll_leaves (fun _ _ hu1 => marginOn_leaves (hπ.mono rfl) hu1) (modEng_leaves (hπ.mono rfl) (forAll_leaves (fun _ _ hu1 => withdrawJob_leaves (hπ.mono rfl) hu1) hu))) h)) (forAll_leaves (fun _ _ hu => forAll_leaves (fun _ _ hu1 => marginOn_leaves (hπ.mono rfl) hu1) (modEng_leaves (hπ.mono rfl) (forAll_leaves (fun _ _ hu1 => withdrawJob_leaves (hπ.mono rfl) hu1) hu))) h)))) (.ite (forAll_leaves (fun _ _ hu => (hu.keys (hπ.mono rfl)).cores (hπ.mono rfl)) (.ite (.keys (hπ.mono rfl) (forAll_leaves (fun _ _ hu => forAll_leaves (fun _ _ hu1 => marginOn_leaves (hπ.mono rfl) hu1) (modEng_leaves (hπ.mono rfl) (forAll_leaves (fun _ _ hu1 => withdrawJob_leaves (hπ.mono rfl) hu1) hu))) h)) (forAll_leaves (fun _ _ hu => forAll_leaves (fun _ _ hu1 => marginOn_leaves (hπ.mono rfl) hu1) (modEng_leaves (hπ.mono rfl) (forAll_leaves (fun _ _ hu1 => withdrawJob_leaves (hπ.mono rfl) hu1) hu))) h))) (.ite (.keys (hπ.mono rfl) (forAll_leaves (fun _ _ hu => forAll_leaves (fun _ _ hu1 => marginOn_leaves (hπ.mono rfl) hu1) (modEng_leaves (hπ.mono rfl) (forAll_leaves (fun _ _ hu1 => withdrawJob_leaves (hπ.mono rfl) hu1) hu))) h)) (forAll_leaves (fun _ _ hu => forAll_leaves (fun _ _ hu1 => marginOn_leaves (hπ.mono rfl) hu1) (modEng_leaves (hπ.mono rfl) (forAll_leaves (fun _ _ hu1 => withdrawJob_leaves (hπ.mono rfl) hu1) hu))) h)))))) (.ite (portsDown_leaves (hπ.mono rfl) (.ite (forAll_leaves (fun _ _ hu => (hu.keys (hπ.mono rfl)).cores (hπ.mono rfl)) (.ite (.keys (hπ.mono rfl) (forAll_leaves (fun _ _ hu => forAll_leaves (fun _ _ hu1 => marginOn_leaves (hπ.mono rfl) hu1) (modEng_leaves (hπ.mono rfl) (forAll_leaves (fun _ _ hu1 => withdrawJob_leaves (hπ.mono rfl) hu1) hu))) h)) (forAll_leaves (fun _ _ hu => forAll_leaves (fun _ _ hu1 => marginOn_leaves (hπ.mono rfl) hu1) (modEng_leaves (hπ.mono rfl) (forAll_leaves (fun _ _ hu1 => withdrawJob_leaves (hπ.mono rfl) hu1) hu))) h))) (.ite (.keys (hπ.mono rfl) (forAll_leaves (fun _ _ hu => forAll_leaves (fun _ _ hu1 => marginOn_leaves (hπ.mono rfl) hu1) (modEng_leaves (hπ.mono rfl) (forAll_leaves (fun _ _ hu1 => withdrawJob_leaves (hπ.mono rfl) hu1) hu))) h)) (forAll_leaves (fun _ _ hu => forAll_leaves (fun _ _ hu1 => marginOn_leaves (hπ.mono rfl) hu1) (modEng_leaves (hπ.mono rfl) (forAll_leaves (fun _ _ hu1 => withdrawJob_leaves (hπ.mono rfl) hu1) hu))) h)))) (.ite (forAll_leaves (fun _ _ hu => (hu.keys (hπ.mono rfl)).cores (hπ.mono rfl)) (.ite (.keys (hπ.mono rfl) (forAll_leaves (fun _ _ hu => forAll_leaves (fun _ _ hu1 => marginOn_leaves (hπ.mono rfl) hu1) (modEng_leaves (hπ.mono rfl) (forAll_leaves (fun _ _ hu1 => withdrawJob_leaves (hπ.mono rfl) hu1) hu))) h)) (forAll_leaves (fun _ _ hu => forAll_leaves (fun _ _ hu1 => marginOn_leaves (hπ.mono rfl) hu1) (modEng_leaves (hπ.mono rfl) (forAll_leaves (fun _ _ hu1 => withdrawJob_leaves (hπ.mono rfl) hu1) hu))) h))) (.ite (.keys (hπ.mono rfl) (forAll_leaves (fun _ _ hu => forAll_leaves (fun _ _ hu1 => marginOn_leaves (hπ.mono rfl) hu1) (modEng_leaves (hπ.mono rfl) (forAll_leaves (fun _ _ hu1 => withdrawJob_leaves (hπ.mono rfl) hu1) hu))) h)) (forAll_leaves (fun _ _ hu => forAll_leaves (fun _ _ hu1 => marginOn_leaves (hπ.mono rfl) hu1) (modEng_leaves (hπ.mono rfl) (forAll_leaves (fun _ _ hu1 => withdrawJob_leaves (hπ.mono rfl) hu1) hu))) h))))))) (.ite (portsDown_leaves (hπ.mono rfl) (.ite (forAll_leaves (fun _ _ hu => (hu.keys (hπ.mono rfl)).cores (hπ.mono rfl)) (.ite (.keys (hπ.mono rfl) (forAll_leaves (fun _ _ hu => forAll_leaves (fun _ _ hu1 => marginOn_leaves (hπ.mono rfl) hu1) (modEng_leaves (hπ.mono rfl) (forAll_leaves (fun _ _ hu1 => withdrawJob_leaves (hπ.mono rfl) hu1) hu))) h)) (forAll_leaves (fun _ _ hu => forAll_leaves (fun _ _ hu1 => marginOn_leaves (hπ.mono rfl) hu1) (modEng_leaves (hπ.mono rfl) (forAll_leaves (fun _ _ hu1 => withdrawJob_leaves (hπ.mono rfl) hu1) hu))) h))) (.ite (.keys (hπ.mono rfl) (forAll_leaves (fun _ _ hu => forAll_leaves (fun _ _ hu1 => marginOn_leaves (hπ.mono rfl) hu1) (modEng_leaves (hπ.mono rfl) (forAll_leaves (fun _ _ hu1 => withdrawJob_leaves (hπ.mono rfl) hu1) hu))) h)) (forAll_leaves (fun _ _ hu => forAll_leaves (fun _ _ hu1 => marginOn_leaves (hπ.mono rfl) hu1) (modEng_leaves (hπ.mono rfl) (forAll_leaves (fun _ _ hu1 => withdrawJob_leaves (hπ.mono rfl) hu1) hu))) h)))) (.ite (forAll_leaves (fun _ _ hu => (hu.keys (hπ.mono rfl)).cores (hπ.mono rfl)) (.ite (.keys (hπ.mono rfl) (forAll_leaves (fun _ _ hu => forAll_leaves (fun _ _ hu1 => marginOn_leaves (hπ.mono rfl) hu1) (modEng_leaves (hπ.mono rfl) (forAll_leaves (fun _ _ hu1 => withdrawJob_leaves (hπ.mono rfl) hu1) hu))) h)) (forAll_leaves (fun _ _ hu => forAll_leaves (fun _ _ hu1 => marginOn_leaves (hπ.mono rfl) hu1) (modEng_leaves (hπ.mono rfl) (forAll_leaves (fun _ _ hu1 => withdrawJob_leaves (hπ.mono rfl) hu1) hu))) h))) (.ite (.keys (hπ.mono rfl) (forAll_leaves (fun _ _ hu => forAll_leaves (fun _ _ hu1 => marginOn_leaves (hπ.mono rfl) hu1) (modEng_leaves (hπ.mono rfl) (forAll_leaves (fun _ _ hu1 => withdrawJob_leaves (hπ.mono rfl) hu1) hu))) h)) (forAll_leaves (fun _ _ hu => forAll_leaves (fun _ _ hu1 => marginOn_leaves (hπ.mono rfl) hu1) (modEng_leaves (hπ.mono rfl) (forAll_leaves (fun _ _ hu1 => withdrawJob_leaves (hπ.mono rfl) hu1) hu))) h)))))) (.ite (modSdc_leaves (hπ.mono rfl) (.ite (fieldOff_leaves (hπ.mono rfl) (endWith_leaves (hπ.mono rfl) (.ite (deactivate_leaves (hπ.mono rfl) (endWith_leaves (hπ.mono rfl) (.ite (portsDown_leaves (hπ.mono rfl) (.ite (forAll_leaves (fun _ _ hu => (hu.keys (hπ.mono rfl)).cores (hπ.mono rfl)) (.ite (.keys (hπ.mono rfl) (forAll_leaves (fun _ _ hu => forAll_leaves (fun _ _ hu1 => marginOn_leaves (hπ.mono rfl) hu1) (modEng_leaves (hπ.mono rfl) (forAll_leaves (fun _ _ hu1 => withdrawJob_leaves (hπ.mono rfl) hu1) hu))) h)) (forAll_leaves (fun _ _ hu => forAll_leaves (fun _ _ hu1 => marginOn_leaves (hπ.mono rfl) hu1) (modEng_leaves (hπ.mono rfl) (forAll_leaves (fun _ _ hu1 => withdrawJob_leaves (hπ.mono rfl) hu1) hu))) h))) (.ite (.keys (hπ.mono rfl) (forAll_leaves (fun _ _ hu => forAll_leaves (fun _ _ hu1 => marginOn_leaves (hπ.mono rfl) hu1) (modEng_leaves (hπ.mono rfl) (forAll_leaves (fun _ _ hu1 => withdrawJob_leaves (hπ.mono rfl) hu1) hu))) h)) (forAll_leaves (fun _ _ hu => forAll_leaves (fun _ _ hu1 => marginOn_leaves (hπ.mono rfl) hu1) (modEng_leaves (hπ.mono rfl) (forAll_leaves (fun _ _ hu1 => withdrawJob_leaves (hπ.mono rfl) hu1) hu))) h)))) (.ite (forAll_leaves (fun _ _ hu => (hu.keys (hπ.mono rfl)).cores (hπ.mono rfl)) (.ite (.keys (hπ.mono rfl) (forAll_leaves (fun _ _ hu => forAll_leaves (fun _ _ hu1 => marginOn_leaves (hπ.mono rfl) hu1) (modEng_leaves (hπ.mono rfl) (forAll_leaves (fun _ _ hu1 => withdrawJob_leaves (hπ.mono rfl) hu1) hu))) h)) (forAll_leaves (fun _ _ hu => forAll_leaves (fun _ _ hu1 => marginOn_leaves (hπ.mono rfl) hu1) (modEng_leaves (hπ.mono rfl) (forAll_leaves (fun _ _ hu1 => withdrawJob_leaves (hπ.mono rfl) hu1) hu))) h))) (.ite (.keys (hπ.mono rfl) (forAll_leaves (fun _ _ hu => forAll_leaves (fun _ _ hu1 => marginOn_leaves (hπ.mono rfl) hu1) (modEng_leaves (hπ.mono rfl) (forAll_leaves (fun _ _ hu1 => withdrawJob_leaves (hπ.mono rfl) hu1) hu))) h)) (forAll_leaves (fun _ _ hu => forAll_leaves (fun _ _ hu1 => marginOn_leaves (hπ.mono rfl) hu1) (modEng_leaves (hπ.mono rfl) (forAll_leaves (fun _ _ hu1 => withdrawJob_leaves (hπ.mono rfl) hu1) hu))) h)))))) (.ite (portsDown_leaves (hπ.mono rfl) (.ite (forAll_leaves (fun _ _ hu => (hu.keys (hπ.mono rfl)).cores (hπ.mono rfl)) (.ite (.keys (hπ.mono rfl) (forAll_leaves (fun _ _ hu => forAll_leaves (fun _ _ hu1 => marginOn_leaves (hπ.mono rfl) hu1) (modEng_leaves (hπ.mono rfl) (forAll_leaves (fun _ _ hu1 => withdrawJob_leaves (hπ.mono rfl) hu1) hu))) h)) (forAll_leaves (fun _ _ hu => forAll_leaves (fun _ _ hu1 => marginOn_leaves (hπ.mono rfl) hu1) (modEng_leaves (hπ.mono rfl) (forAll_leaves (fun _ _ hu1 => withdrawJob_leaves (hπ.mono rfl) hu1) hu))) h))) (.ite (.keys (hπ.mono rfl) (forAll_leaves (fun _ _ hu => forAll_leaves (fun _ _ hu1 => marginOn_leaves (hπ.mono rfl) hu1) (modEng_leaves (hπ.mono rfl) (forAll_leaves (fun _ _ hu1 => withdrawJob_leaves (hπ.mono rfl) hu1) hu))) h)) (forAll_leaves (fun _ _ hu => forAll_leaves (fun _ _ hu1 => marginOn_leaves (hπ.mono rfl) hu1) (modEng_leaves (hπ.mono rfl) (forAll_leaves (fun _ _ hu1 => withdrawJob_leaves (hπ.mono rfl) hu1) hu))) h)))) (.ite (forAll_leaves (fun _ _ hu => (hu.keys (hπ.mono rfl)).cores (hπ.mono rfl)) (.ite (.keys (hπ.mono rfl) (forAll_leaves (fun _ _ hu => forAll_leaves (fun _ _ hu1 => marginOn_leaves (hπ.mono rfl) hu1) (modEng_leaves (hπ.mono rfl) (forAll_leaves (fun _ _ hu1 => withdrawJob_leaves (hπ.mono rfl) hu1) hu))) h)) (forAll_leaves (fun _ _ hu => forAll_leaves (fun _ _ hu1 => marginOn_leaves (hπ.mono rfl) hu1) (modEng_leaves (hπ.mono rfl) (forAll_leaves (fun _ _ hu1 => withdrawJob_leaves (hπ.mono rfl) hu1) hu))) h))) (.ite (.keys (hπ.mono rfl) (forAll_leaves (fun _ _ hu => forAll_leaves (fun _ _ hu1 => marginOn_leaves (hπ.mono rfl) hu1) (modEng_leaves (hπ.mono rfl) (forAll_leaves (fun _ _ hu1 => withdrawJob_leaves (hπ.mono rfl) hu1) hu))) h)) (forAll_leaves (fun _ _ hu => forAll_leaves (fun _ _ hu1 => marginOn_leaves (hπ.mono rfl) hu1) (modEng_leaves (hπ.mono rfl) (forAll_leaves (fun _ _ hu1 => withdrawJob_leaves (hπ.mono rfl) hu1) hu))) h))))))) (.ite (deactivate_leaves (hπ.mono rfl) (endWith_leaves (hπ.mono rfl) (.ite (portsDown_leaves (hπ.mono rfl) (.ite (forAll_leaves (fun _ _ hu => (hu.keys (hπ.mono rfl)).cores (hπ.mono rfl)) (.ite (.keys (hπ.mono rfl) (forAll_leaves (fun _ _ hu => forAll_leaves (fun _ _ hu1 => marginOn_leaves (hπ.mono rfl) hu1) (modEng_leaves (hπ.mono rfl) (forAll_leaves (fun _ _ hu1 => withdrawJob_leaves (hπ.mono rfl) hu1) hu))) h)) (forAll_leaves (fun _ _ hu => forAll_leaves (fun _ _ hu1 => marginOn_leaves (hπ.mono rfl) hu1) (modEng_leaves (hπ.mono rfl) (forAll_leaves (fun _ _ hu1 => withdrawJob_leaves (hπ.mono rfl) hu1) hu))) h))) (.ite (.keys (hπ.mono rfl) (forAll_leaves (fun _ _ hu => forAll_leaves (fun _ _ hu1 => marginOn_leaves (hπ.mono rfl) hu1) (modEng_leaves (hπ.mono rfl) (forAll_leaves (fun _ _ hu1 => withdrawJob_leaves (hπ.mono rfl) hu1) hu))) h)) (forAll_leaves (fun _ _ hu => forAll_leaves (fun _ _ hu1 => marginOn_leaves (hπ.mono rfl) hu1) (modEng_leaves (hπ.mono rfl) (forAll_leaves (fun _ _ hu1 => withdrawJob_leaves (hπ.mono rfl) hu1) hu))) h)))) (.ite (forAll_leaves (fun _ _ hu => (hu.keys (hπ.mono rfl)).cores (hπ.mono rfl)) (.ite (.keys (hπ.mono rfl) (forAll_leaves (fun _ _ hu => forAll_leaves (fun _ _ hu1 => marginOn_leaves (hπ.mono rfl) hu1) (modEng_leaves (hπ.mono rfl) (forAll_leaves (fun _ _ hu1 => withdrawJob_leaves (hπ.mono rfl) hu1) hu))) h)) (forAll_leaves (fun _ _ hu => forAll_leaves (fun _ _ hu1 => marginOn_leaves (hπ.mono rfl) hu1) (modEng_leaves (hπ.mono rfl) (forAll_leaves (fun _ _ hu1 => withdrawJob_leaves (hπ.mono rfl) hu1) hu))) h))) (.ite (.keys (hπ.mono rfl) (forAll_leaves (fun _ _ hu => forAll_leaves (fun _ _ hu1 => marginOn_leaves (hπ.mono rfl) hu1) (modEng_leaves (hπ.mono rfl) (forAll_leaves (fun _ _ hu1 => withdrawJob_leaves (hπ.mono rfl) hu1) hu))) h)) (forAll_leaves (fun _ _ hu => forAll_leaves (fun _ _ hu1 => marginOn_leaves (hπ.mono rfl) hu1) (modEng_leaves (hπ.mono rfl) (forAll_leaves (fun _ _ hu1 => withdrawJob_leaves (hπ.mono rfl) hu1) hu))) h)))))) (.ite (portsDown_leaves (hπ.mono rfl) (.ite (forAll_leaves (fun _ _ hu => (hu.keys (hπ.mono rfl)).cores (hπ.mono rfl)) (.ite (.keys (hπ.mono rfl) (forAll_leaves (fun _ _ hu => forAll_leaves (fun _ _ hu1 => marginOn_leaves (hπ.mono rfl) hu1) (modEng_leaves (hπ.mono rfl) (forAll_leaves (fun _ _ hu1 => withdrawJob_leaves (hπ.mono rfl) hu1) hu))) h)) (forAll_leaves (fun _ _ hu => forAll_leaves (fun _ _ hu1 => marginOn_leaves (hπ.mono rfl) hu1) (modEng_leaves (hπ.mono rfl) (forAll_leaves (fun _ _ hu1 => withdrawJob_leaves (hπ.mono rfl) hu1) hu))) h))) (.ite (.keys (hπ.mono rfl) (forAll_leaves (fun _ _ hu => forAll_leaves (fun _ _ hu1 => marginOn_leaves (hπ.mono rfl) hu1) (modEng_leaves (hπ.mono rfl) (forAll_leaves (fun _ _ hu1 => withdrawJob_leaves (hπ.mono rfl) hu1) hu))) h)) (forAll_leaves (fun _ _ hu => forAll_leaves (fun _ _ hu1 => marginOn_leaves (hπ.mono rfl) hu1) (modEng_leaves (hπ.mono rfl) (forAll_leaves (fun _ _ hu1 => withdrawJob_leaves (hπ.mono rfl) hu1) hu))) h)))) (.ite (forAll_leaves (fun _ _ hu => (hu.keys (hπ.mono rfl)).cores (hπ.mono rfl)) (.ite (.keys (hπ.mono rfl) (forAll_leaves (fun _ _ hu => forAll_leaves (fun _ _ hu1 => marginOn_leaves (hπ.mono rfl) hu1) (modEng_leaves (hπ.mono rfl) (forAll_leaves (fun _ _ hu1 => withdrawJob_leaves (hπ.mono rfl) hu1) hu))) h)) (forAll_leaves (fun _ _ hu => forAll_leaves (fun _ _ hu1 => marginOn_leaves (hπ.mono rfl) hu1) (modEng_leaves (hπ.mono rfl) (forAll_leaves (fun _ _ hu1 => withdrawJob_leaves (hπ.mono rfl) hu1) hu))) h))) (.ite (.keys (hπ.mono rfl) (forAll_leaves (fun _ _ hu => forAll_leaves (fun _ _ hu1 => marginOn_leaves (hπ.mono rfl) hu1) (modEng_leaves (hπ.mono rfl) (forAll_leaves (fun _ _ hu1 => withdrawJob_leaves (hπ.mono rfl) hu1) hu))) h)) (forAll_leaves (fun _ _ hu => forAll_leaves (fun _ _ hu1 => marginOn_leaves (hπ.mono rfl) hu1) (modEng_leaves (hπ.mono rfl) (forAll_leaves (fun _ _ hu1 => withdrawJob_leaves (hπ.mono rfl) hu1) hu))) h))))))) (.ite (portsDown_leaves (hπ.mono rfl) (.ite (forAll_leaves (fun _ _ hu => (hu.keys (hπ.mono rfl)).cores (hπ.mono rfl)) (.ite (.keys (hπ.mono rfl) (forAll_leaves (fun _ _ hu => forAll_leaves (fun _ _ hu1 => marginOn_leaves (hπ.mono rfl) hu1) (modEng_leaves (hπ.mono rfl) (forAll_leaves (fun _ _ hu1 => withdrawJob_leaves (hπ.mono rfl) hu1) hu))) h)) (forAll_leaves (fun _ _ hu => forAll_leaves (fun _ _ hu1 => marginOn_leaves (hπ.mono rfl) hu1) (modEng_leaves (hπ.mono rfl) (forAll_leaves (fun _ _ hu1 => withdrawJob_leaves (hπ.mono rfl) hu1) hu))) h))) (.ite (.keys (hπ.mono rfl) (forAll_leaves (fun _ _ hu => forAll_leaves (fun _ _ hu1 => marginOn_leaves (hπ.mono rfl) hu1) (modEng_leaves (hπ.mono rfl) (forAll_leaves (fun _ _ hu1 => withdrawJob_leaves (hπ.mono rfl) hu1) hu))) h)) (forAll_leaves (fun _ _ hu => forAll_leaves (fun _ _ hu1 => marginOn_leaves (hπ.mono rfl) hu1) (modEng_leaves (hπ.mono rfl) (forAll_leaves (fun _ _ hu1 => withdrawJob_leaves (hπ.mono rfl) hu1) hu))) h)))) (.ite (forAll_leaves (fun _ _ hu => (hu.keys (hπ.mono rfl)).cores (hπ.mono rfl)) (.ite (.keys (hπ.mono rfl) (forAll_leaves (fun _ _ hu => forAll_leaves (fun _ _ hu1 => marginOn_leaves (hπ.mono rfl) hu1) (modEng_leaves (hπ.mono rfl) (forAll_leaves (fun _ _ hu1 => withdrawJob_leaves (hπ.mono rfl) hu1) hu))) h)) (forAll_leaves (fun _ _ hu => forAll_leaves (fun _ _ hu1 => marginOn_leaves (hπ.mono rfl) hu1) (modEng_leaves (hπ.mono rfl) (forAll_leaves (fun _ _ hu1 => withdrawJob_leaves (hπ.mono rfl) hu1) hu))) h))) (.ite (.keys (hπ.mono rfl) (forAll_leaves (fun _ _ hu => forAll_leaves (fun _ _ hu1 => marginOn_leaves (hπ.mono rfl) hu1) (modEng_leaves (hπ.mono rfl) (forAll_leaves (fun _ _ hu1 => withdrawJob_leaves (hπ.mono rfl) hu1) hu))) h)) (forAll_leaves (fun _ _ hu => forAll_leaves (fun _ _ hu1 => marginOn_leaves (hπ.mono rfl) hu1) (modEng_leaves (hπ.mono rfl) (forAll_leaves (fun _ _ hu1 => withdrawJob_leaves (hπ.mono rfl) hu1) hu))) h)))))

theorem latchDomain_leaves {d thermal detail} (hπ : π.Clear [.units, .audit, .recorder, .msix, .chans, .jobs, .sched, .power, .keeper, .start, .keys, .cip, .vault, .fold, .flash, .contact, .reader, .ceremony, .stile, .sdc, .tenants, .cores, .sram, .sramTags, .dram, .boot, .rowFaults, .draws, .out, .domains, .chain, .chainNext, .keeperRecord, .queue, .records, .journal]) (h : π.Same s t) : π.Same s (latchDomain d thermal detail t) :=
  forAll_leaves (fun _ _ hu => isolateUnit_leaves (hπ.mono rfl) hu) (loseContents_leaves (hπ.mono rfl) (modDomain_leaves (hπ.mono rfl) (raise_leaves (hπ.mono rfl) h)))

theorem clearDomain_leaves {d} (hπ : π.Clear [.units, .power, .domains]) (h : π.Same s t) : π.Same s (clearDomain d t) :=
  forAll_leaves (fun _ _ hu => .ite (releaseUnit_leaves (hπ.mono rfl) hu) hu) (modDomain_leaves (hπ.mono rfl) h)

theorem modSensor_leaves {k f} (hπ : π.Clear [.power, .sensors]) (h : π.Same s t) : π.Same s (modSensor k f t) := modPower_change hπ h fun q hq => by cases q <;> first | exact Bool.noConfusion hq | exact rfl

theorem enterThermal_leaves {plane} (hπ : π.Clear [.units, .recorder, .msix]) (h : π.Same s t) : π.Same s (enterThermal plane t) :=
  .ite (modUnit_leaves (hπ.mono rfl) h) (raise_leaves hπ (raise_leaves hπ (modUnit_leaves (hπ.mono rfl) h)))

theorem startThrottle_leaves {k} (hπ : π.Clear [.units, .recorder, .msix, .power, .sensors]) (h : π.Same s t) : π.Same s (startThrottle k t) := by
  unfold startThrottle
  dsimp only
  split
  · exact enterThermal_leaves (hπ.mono rfl) (.ite (raise_leaves (hπ.mono rfl) (raise_leaves (hπ.mono rfl) (modSensor_leaves (hπ.mono rfl) h))) (.ite (raise_leaves (hπ.mono rfl) (raise_leaves (hπ.mono rfl) (modSensor_leaves (hπ.mono rfl) h))) (raise_leaves (hπ.mono rfl) (modSensor_leaves (hπ.mono rfl) h))))
  · exact .ite (raise_leaves (hπ.mono rfl) (raise_leaves (hπ.mono rfl) (modSensor_leaves (hπ.mono rfl) h))) (.ite (raise_leaves (hπ.mono rfl) (raise_leaves (hπ.mono rfl) (modSensor_leaves (hπ.mono rfl) h))) (raise_leaves (hπ.mono rfl) (modSensor_leaves (hπ.mono rfl) h)))

theorem shutDown_leaves {k} (hπ : π.Clear [.units, .audit, .recorder, .msix, .chans, .jobs, .sched, .power, .keeper, .start, .keys, .cip, .vault, .fold, .flash, .contact, .reader, .ceremony, .stile, .sdc, .tenants, .cores, .sram, .sramTags, .dram, .boot, .rowFaults, .draws, .out, .sensors, .domains, .chain, .chainNext, .keeperRecord, .queue, .records, .journal]) (h : π.Same s t) : π.Same s (shutDown k t) := by
  unfold shutDown
  dsimp only
  split
  · exact powerFail_leaves (hπ.mono rfl) (modSensor_leaves (hπ.mono rfl) h)
  · exact forAll_leaves (fun _ _ hu => latchDomain_leaves (hπ.mono rfl) hu) (modSensor_leaves (hπ.mono rfl) h)

theorem sampleSensor_leaves {k temp odd} (hπ : π.Clear [.units, .audit, .recorder, .msix, .chans, .jobs, .sched, .power, .keeper, .start, .keys, .cip, .vault, .fold, .flash, .contact, .reader, .ceremony, .stile, .sdc, .tenants, .cores, .sram, .sramTags, .dram, .boot, .rowFaults, .draws, .out, .sensors, .domains, .chain, .chainNext, .keeperRecord, .queue, .records, .journal]) (h : π.Same s t) : π.Same s (sampleSensor k temp odd t) :=
  .ite (.ite (modSensor_leaves (hπ.mono rfl) (modSensor_leaves (hπ.mono rfl) h)) (raise_leaves (hπ.mono rfl) (modSensor_leaves (hπ.mono rfl) (modSensor_leaves (hπ.mono rfl) h)))) (.ite (shutDown_leaves hπ (.ite (startThrottle_leaves (hπ.mono rfl) (modSensor_leaves (hπ.mono rfl) (modSensor_leaves (hπ.mono rfl) h))) (modSensor_leaves (hπ.mono rfl) (modSensor_leaves (hπ.mono rfl) h)))) (.ite (startThrottle_leaves (hπ.mono rfl) (modSensor_leaves (hπ.mono rfl) (modSensor_leaves (hπ.mono rfl) h))) (modSensor_leaves (hπ.mono rfl) (modSensor_leaves (hπ.mono rfl) h))))

theorem coolPlanes_leaves (hπ : π.Clear [.units]) (h : π.Same s t) : π.Same s (coolPlanes t) := repeatIdx_leaves (fun _ _ hu => .ite (modUnit_leaves hπ hu) hu) h

theorem pwrReadEffect_leaves {off} (hπ : π.Clear [.power, .sensors]) (h : π.Same s t) : π.Same s (pwrReadEffect off t) := .ite (modSensor_leaves hπ h) h

theorem openBuffers_leaves (hπ : π.Clear [.gates]) (h : π.Same s t) : π.Same s (openBuffers t) := modGate_leaves hπ h

theorem headReadEffect_leaves {p off} (hπ : π.Clear [.units]) (h : π.Same s t) : π.Same s (headReadEffect p off t) := .ite (modUnit_leaves hπ h) h

theorem cipReadEffect_leaves {off} (hπ : π.Clear [.cip]) (h : π.Same s t) : π.Same s (cipReadEffect off t) := .ite (h.cip hπ) (.ite (h.cip hπ) h)

theorem pageReadEffect_leaves {p o} (hπ : π.Clear [.audit, .recorder, .link, .sched, .power, .keys, .sig, .cip, .rng, .vault, .fold, .flash, .contact, .stile, .sdc, .cores, .gates, .sensors]) (h : π.Same s t) : π.Same s (pageReadEffect p o t) := by
  unfold pageReadEffect
  split
  · exact .ite h (pwrReadEffect_leaves (hπ.mono rfl) h)
  · exact schReadEffect_leaves (hπ.mono rfl) h
  · exact hostReadEffect_leaves (hπ.mono rfl) h
  · exact sigReadEffect_leaves (hπ.mono rfl) h
  · exact cipReadEffect_leaves (hπ.mono rfl) h
  · exact vaultReadEffect_leaves (hπ.mono rfl) h
  · exact keeperReadEffect_leaves (hπ.mono rfl) h
  · exact .ite (coreReadEffect_leaves (hπ.mono rfl) h) (gateReadEffect_leaves (hπ.mono rfl) h)
  · exact rngReadEffect_leaves (hπ.mono rfl) h
  · exact flsReadEffect_leaves (hπ.mono rfl) h
  · exact keyReadEffect_leaves (hπ.mono rfl) h
  · exact audReadEffect_leaves (hπ.mono rfl) h
  · exact recReadEffect_leaves (hπ.mono rfl) h
  · exact portReadEffect_leaves (hπ.mono rfl) h
  · exact contactReadEffect_leaves (hπ.mono rfl) h
  · exact sdcReadEffect_leaves (hπ.mono rfl) h
  · exact gateReadEffect_leaves (hπ.mono rfl) h
  · exact h

theorem regReadEffect_leaves {a} (hπ : π.Clear [.units, .audit, .recorder, .link, .chans, .sched, .power, .keys, .sig, .cip, .rng, .vault, .fold, .flash, .contact, .stile, .sdc, .cores, .gates, .draws, .sensors]) (h : π.Same s t) : π.Same s (regReadEffect a t) := by
  unfold regReadEffect
  refine .ite (chanReadEffect_leaves (hπ.mono rfl) h) (.ite h ?_)
  split
  · exact draw_leaves (hπ.mono rfl) h
  · exact h
  · exact h
  · exact h
  · exact .ite (headReadEffect_leaves (hπ.mono rfl) h) (pageReadEffect_leaves (hπ.mono rfl) h)

end

end Sys2Proof.Machine

end

section
/-!
SUPPORT. Registers read and written over the link and the SMBus. O20.
-/
namespace Sys2Proof.Machine
open Sys2Proof Sys2Proof.Statements

/-! ### Registers read and written over the link and the SMBus -/

section
variable {s : State} {m : Master} {off v : Nat}

theorem goodAccess_four (h : off % 4 = 0) : goodAccess off 4 = true := by simp [goodAccess, h]

theorem execRegisterRead_of_good (hoff : off % 4 = 0) (hopen : m = .host → s.link.inReset = .none) :
    exec (.registerRead m false off 4) s = .next (emit (.regRead (masterCode m) 4 (readWordBy m off s).1) (readWordBy m off s).2) := by
  have hno : ¬ (m = .host ∧ s.link.inReset ≠ .none) := fun h => h.2 (hopen h.1)
  change execRegisterRead m false off 4 s = _
  simp [execRegisterRead, hno, goodAccess_four hoff, barAddr, readBy]

theorem execRegisterWrite_of_good (hoff : off % 4 = 0) (hopen : m = .host → s.link.inReset = .none) :
    exec (.registerWrite m false off 4 v) s = .next (writeWordBy m off 4 (v % 2 ^ 32) s) := by
  have hno : ¬ (m = .host ∧ s.link.inReset ≠ .none) := fun h => h.2 (hopen h.1)
  change execRegisterWrite m false off 4 v s = _
  simp [execRegisterWrite, hno, goodAccess_four hoff, barAddr, writeBy]

theorem readWordBy_of_plain (hl : latchLow off = false) (hn : mfind (masterCode m * 2 ^ 32 + off) s.latches = none) :
    readWordBy m off s = (regWord s off, regReadEffect off s) := by
  simp only [readWordBy, hl, hn, Bool.false_eq_true, if_false]

theorem readWordBy_of_low (hl : latchLow off = true) :
    readWordBy m off s = (regWord s off, { regReadEffect off s with
      latches := mput (masterCode m * 2 ^ 32 + (off + 4)) (BitVec.ofNat 32 (regWord s (off + 4))) s.latches }) := by
  simp only [readWordBy, hl, if_true]

/-- The word above a low word that its reader has read answers what was latched with it (R755). -/
theorem readWordBy_of_latched {w : BitVec 32} (hl : latchLow off = true) (hh : latchLow (off + 4) = false)
    (hw : mfind (masterCode m * 2 ^ 32 + (off + 4)) s.latches = some w) :
    (readWordBy m (off + 4) s).1 = w.toNat := by
  simp only [readWordBy, hh, hw, Bool.false_eq_true, if_false, Nat.le_add_left, Nat.add_sub_cancel, hl, and_self, if_true]

theorem writeWordBy_of_plain {w : Nat} (h : auditedNow s off = false) : writeWordBy m off w v s = regWriteWord off v s := by
  simp only [writeWordBy, h, Bool.false_eq_true, if_false]

theorem writeWordBy_of_audited (hopen : m = .host → s.link.inReset = .none) (h : auditedNow s off = true) (hd : writeDiscarded (regBase off) s = false) :
    writeWordBy m off 4 v s = recordedAs (regBase off) m (fun s => regWhole s off) (regWhole (regWriteWord off v s) off + regTaken off v s)
      (regWriteWord off v) s := by
  have hno : ¬ (m = .host ∧ s.link.inReset ≠ .none) := fun h => h.2 (hopen h.1)
  simp only [writeWordBy, h, if_true, audited, hno, if_false, hd, Bool.false_eq_true, recordedAs]

theorem writeWordBy_of_discarded (hopen : m = .host → s.link.inReset = .none) (h : auditedNow s off = true) (hd : writeDiscarded (regBase off) s = true) :
    writeWordBy m off 4 v s = raise auditPage 0x0527 (regBase off % 2 ^ 31) s := by
  have hno : ¬ (m = .host ∧ s.link.inReset ≠ .none) := fun h => h.2 (hopen h.1)
  simp only [writeWordBy, h, if_true, audited, hno, if_false, hd]

theorem smbusRead_of_served (ha : smbusAnswers s = true) (hs : smbusServes off = true) :
    exec (.smbusRead off) s = .next (emit (.smbus (readWordBy .smbus off s).1) (readWordBy .smbus off s).2) := by
  change execSmbusRead off s = _
  simp [execSmbusRead, ha, hs]

theorem smbusRead_of_unserved (ha : smbusAnswers s = true) (hs : smbusServes off = false) :
    exec (.smbusRead off) s = .next (emit (.smbus 0xFFFFFFFF) s) := by
  change execSmbusRead off s = _
  simp [execSmbusRead, ha, hs]

theorem smbusWrite_scratch (ha : smbusAnswers s = true) :
    exec (.smbusWrite (modulePage * 0x1000 + 0x0F0) v) s = .next (writeBy .smbus (modulePage * 0x1000 + 0x0F0) 4 v s) := by
  change execSmbusWrite _ v s = _
  simp [execSmbusWrite, ha]

/-- A low word's read latches the high word, which its reader's next read of that answers (R755). -/
theorem highWord_of_lowRead (hoff : off % 4 = 0) (hopen : m = .host → s.link.inReset = .none) (hl : latchLow off = true) (hh : latchLow (off + 4) = false) :
    ∃ t, exec (.registerRead m false off 4) s = .next t ∧ t.out.head? = some (.regRead (masterCode m) 4 (regWord s off)) ∧
      ∃ u, exec (.registerRead m false (off + 4) 4) t = .next u ∧ u.out.head? = some (.regRead (masterCode m) 4 (regWord s (off + 4) % 2 ^ 32)) := by
  refine ⟨_, execRegisterRead_of_good hoff hopen, by rw [readWordBy_of_low hl]; rfl, _, execRegisterRead_of_good (by omega) ?_, ?_⟩
  · intro hm
    rw [readWordBy_of_low hl]
    exact Eq.trans (regReadEffect_leaves (π := .linkReset) (s := s) rfl rfl) (hopen hm)
  · have hw : mfind (masterCode m * 2 ^ 32 + (off + 4)) (emit (.regRead (masterCode m) 4 (readWordBy m off s).1) (readWordBy m off s).2).latches
        = some (BitVec.ofNat 32 (regWord s (off + 4))) := by
      rw [readWordBy_of_low hl]
      exact (mfind_mput ..).trans (if_pos rfl)
    change some (Output.regRead (masterCode m) 4 _) = _
    rw [readWordBy_of_latched hl hh hw, BitVec.toNat_ofNat]

end

/-- Settles O20: each access read through the model's register page functions, and the latch that a low word's read leaves for its reader. -/
theorem registersAreReadAndWritten : Obligations.RegistersAreReadAndWritten := by
  unfold Obligations.RegistersAreReadAndWritten
  intro s m off v hoff _ hopen
  refine ⟨fun hl hn => ?_, highWord_of_lowRead hoff hopen, fun ha => ?_, fun ha hd => ?_, fun ha hd => ?_, fun hs => ⟨smbusRead_of_unserved hs, fun hv hl hn => ?_, smbusWrite_scratch hs⟩⟩
  · rw [execRegisterRead_of_good hoff hopen, readWordBy_of_plain hl hn]
  · rw [execRegisterWrite_of_good hoff hopen, writeWordBy_of_plain ha]
  · rw [execRegisterWrite_of_good hoff hopen, writeWordBy_of_audited hopen ha hd]
  · rw [execRegisterWrite_of_good hoff hopen, writeWordBy_of_discarded hopen ha hd]
  · rw [smbusRead_of_served hs hv, readWordBy_of_plain hl hn]

end Sys2Proof.Machine

end

section
/-!
SUPPORT. Audited writes of a register field.
-/
namespace Sys2Proof.Machine
open Sys2Proof Sys2Proof.Statements

/-! ### Audited writes of a register field -/

section
variable {s : State} {m : Master} {addr : RegAddr} {width : Nat} {reg taken : State → Nat} {apply : State → State}

/-- A write that its master may make and the chain can take has its effect with one CONFIG record (R32, R462). -/
theorem audited_of_open (h : WriteOpen addr m s) :
    audited addr m width reg taken apply s = appendConfig addr m width (reg s) (reg (apply s) + taken s) (apply s) := by
  obtain ⟨hopen, hd⟩ := h
  have hno : ¬ (m = .host ∧ s.link.inReset ≠ .none) := fun h => h.2 (hopen h.1)
  simp only [audited, hno, if_false, hd, Bool.false_eq_true]

/-- Of a write recorded as it reads, the record is of the register before it and after it. -/
theorem audited_noSets (h : WriteOpen addr m s) : audited addr m 4 reg noSets apply s = recorded addr m reg apply s := audited_of_open h

/-- A record of a configuration write is no more than what the chain, its events and their interrupts hold. -/
theorem same_appendConfig {π : Part} {old new : Nat} (hπ : π.Clear [.units, .audit, .recorder, .msix, .chain, .chainNext]) : π.Same s (appendConfig addr m width old new s) :=
  appendConfig_leaves hπ (.refl s)

end

end Sys2Proof.Machine

end

section
/-!
SUPPORT. The noise sources and the generator. O21.
-/
namespace Sys2Proof.Machine
open Sys2Proof Sys2Proof.Statements

/-! ### The noise sources and the generator -/

section
variable {s : State} {n k : Nat}

theorem sourceAt_modSource_same {f : Source → Source} : sourceAt (modSource n f s) n = f (sourceAt s n) := (sourceAt_modSource ..).trans (if_pos rfl)

theorem sourceAt_modSource_other {f : Source → Source} (h : k ≠ n) : sourceAt (modSource n f s) k = sourceAt s k := (sourceAt_modSource ..).trans (if_neg h)

theorem sourceAt_of_rng {t : State} (h : t.rng = s.rng) (k : Nat) : sourceAt t k = sourceAt s k := by rw [sourceAt, sourceAt, h]

theorem sourceAt_modRng {f : Rng → Rng} (h : ∀ r, (f r).sources = r.sources) (k : Nat) : sourceAt (modRng f s) k = sourceAt s k := by
  rw [sourceAt, sourceAt, modRng, h]

theorem conditionedBlock_rng (s : State) : (conditionedBlock s).2.rng = s.rng := conditionedBlock_leaves (π := .rng) rfl rfl

/-- The start of the DRBG leaves the sources as they are (R515). -/
theorem instantiate_sources (s : State) : (instantiate s).rng.sources = s.rng.sources := by
  change (conditionedBlock _).2.rng.sources = _
  rw [conditionedBlock_rng, conditionedBlock_rng, conditionedBlock_rng]
  rfl

theorem sourceAt_instantiate (s : State) (k : Nat) : sourceAt (instantiate s) k = sourceAt s k := by
  rw [sourceAt, sourceAt, instantiate_sources]

/-- Setting each of the first sources sets those and no others. -/
theorem sourceAt_repeat (N : Nat) (f : Nat → Source → Source) (s : State) (k : Nat) :
    sourceAt (repeatIdx N (fun n t => modSource n (f n) t) s) k = (if k < N then f k (sourceAt s k) else sourceAt s k) ∧
      (repeatIdx N (fun n t => modSource n (f n) t) s).rng.min = s.rng.min := by
  unfold repeatIdx
  induction N with
  | zero => exact ⟨rfl, rfl⟩
  | succ N ih =>
    obtain ⟨ih, hmin⟩ := ih
    rw [List.range_succ, List.foldl_append]
    refine ⟨?_, hmin⟩
    change sourceAt (modSource N (f N) _) k = _
    rw [sourceAt_modSource]
    by_cases hk : k = N
    · subst hk
      rw [if_pos rfl, if_pos (Nat.lt_succ_self k), ih, if_neg (Nat.lt_irrefl k)]
    · rw [if_neg hk, ih]
      simp only [show k < N + 1 ↔ k < N by omega]

theorem startupEnd_passed {passed : BitVec 16} (hs : s.rng.state = .starting)
    (hmin : s.rng.min.toNat ≤ ((List.range 16).filter (fun n => passed.getLsbD n)).length) :
    ∃ t, exec (.rngStartupEnd true passed) s = .next t ∧ t.rng.state = .running ∧ t.rng.level = 65536 ∧ ∀ n < 16, (sourceAt t n).healthy = passed.getLsbD n := by
  have hsrc := sourceAt_repeat 16 (fun n x => { x with healthy := passed.getLsbD n, atEnd := 0 }) s
  have hcount : healthyCount (repeatIdx 16 (fun n t => modSource n (fun x => { x with healthy := passed.getLsbD n, atEnd := 0 }) t) s)
      = ((List.range 16).filter (fun n => passed.getLsbD n)).length := by
    refine congrArg List.length (List.filter_congr fun n hn => ?_)
    rw [(hsrc n).1, if_pos (List.mem_range.mp hn)]
  refine answered (congrArg Host.Outcome.next ((if_neg (not_not_intro hs)).trans (if_pos ⟨rfl, ?enough⟩))) ⟨?_, ?_, fun n hn => ?_⟩
  case enough =>
    rw [hcount]
    exact hmin
  · simp only [raise_frame]
    rfl
  · simp only [raise_frame]
    rfl
  · rw [sourceAt_of_rng (raise_leaves (π := .rng) rfl rfl)]
    rw [sourceAt_modRng (fun _ => by rfl), sourceAt_instantiate, (hsrc n).1, if_pos hn]

/-- A generator that stops has nothing to give (R513). -/
theorem rngHalt_rng (n : Nat) (s : State) :
    (rngHalt n s).rng = { s.rng with state := .halted, level := 0, pool := [], drbg := none, given := 0, due := false } := raise_leaves (π := .rng) rfl rfl

theorem startupEnd_failed {passed : BitVec 16} (hs : s.rng.state = .starting) :
    ∃ t, exec (.rngStartupEnd false passed) s = .next t ∧ t.rng.state = .halted ∧ t.rng.level = 0 :=
  answered (congrArg Host.Outcome.next ((if_neg (not_not_intro hs)).trans (if_neg fun h => Bool.noConfusion h.1)))
    ⟨congrArg Rng.state (rngHalt_rng ..), congrArg Rng.level (rngHalt_rng ..)⟩

/-- A trim code takes a step within its 8 bits (R500). -/
theorem trim_toInt {v d : Int} (hv : -128 ≤ v ∧ v ≤ 127) (hd : d = max (-128) (v - 1) ∨ d = min 127 (v + 1) ∨ d = v) : (BitVec.ofInt 8 d).toInt = d := by
  rw [BitVec.toInt_ofInt]
  exact Int.bmod_eq_of_le (by omega) (by omega)

theorem trimBlock_trims {ones : Nat} (hn : n < 16) (hs : s.rng.state ≠ .halted) :
    ∃ t, exec (.rngTrimBlock n ones) s = .next t ∧ (sourceAt t n).trim.toInt
        = (let v := (sourceAt s n).trim.toInt; if 528 < ones then max (-128) (v - 1) else if ones < 496 then min 127 (v + 1) else v) ∧
      ∀ k, k ≠ n → sourceAt t k = sourceAt s k := by
  refine answered (congrArg Host.Outcome.next (if_neg (by simp [hs, hn]))) ⟨?_, fun k hk => sourceAt_modSource_other hk⟩
  rw [sourceAt_modSource_same]
  have hv : -128 ≤ (sourceAt s n).trim.toInt ∧ (sourceAt s n).trim.toInt ≤ 127 := by
    have := BitVec.toInt_lt (x := (sourceAt s n).trim)
    have := BitVec.le_toInt (x := (sourceAt s n).trim)
    omega
  refine trim_toInt hv ?_
  split
  · exact .inl rfl
  · split
    · exact .inr (.inl rfl)
    · exact .inr (.inr rfl)

theorem estimateBlock_shown {ones : Nat} {lags : BitVec 32} (hn : n < 16) (hs : s.rng.state ≠ .halted) (hend : (sourceAt s n).atEnd < 4) :
    ∃ t, exec (.rngEstimateBlock n ones lags) s = .next t ∧ (sourceAt t n).ones = BitVec.ofNat 13 ones ∧
      (sourceAt t n).lag1 = lags.setWidth 8 ∧ (sourceAt t n).lag4 = (lags >>> 24).setWidth 8 ∧ (sourceAt t n).healthy = (sourceAt s n).healthy := by
  refine answered (congrArg Host.Outcome.next ((if_neg (by simp [hs, hn])).trans (if_neg (by simp [hend])))) ?_
  rw [sourceAt_modSource_same]
  exact ⟨rfl, rfl, rfl, rfl⟩

/-- A source taken out of conditioning leaves one healthy source less. -/
theorem healthyCount_drop {t : State} (hn : n < 16) (hh : (sourceAt s n).healthy = true) (hout : (sourceAt t n).healthy = false)
    (hrest : ∀ k, k ≠ n → (sourceAt t k).healthy = (sourceAt s k).healthy) : healthyCount t = healthyCount s - 1 := by
  have hfilter : (List.range 16).filter (fun k => (sourceAt t k).healthy) = ((List.range 16).filter (fun k => (sourceAt s k).healthy)).erase n := by
    rw [List.Nodup.erase_eq_filter (List.nodup_range.filter _), List.filter_filter]
    refine List.filter_congr fun k _ => ?_
    by_cases hk : k = n
    · subst hk
      simp [hout]
    · simp [hk, hrest k hk]
  rw [healthyCount, hfilter, List.length_erase_of_mem (List.mem_filter.mpr ⟨List.mem_range.mpr hn, hh⟩)]
  rfl

theorem sourceFail_fails {repetition : Bool} (hn : n < 16) (hs : s.rng.state = .running ∨ s.rng.state = .reseeding) (hh : (sourceAt s n).healthy = true) :
    ∃ t, exec (.rngSourceFail n repetition) s = .next t ∧ (sourceAt t n).healthy = false ∧ t.rng.level = 0 ∧
      t.rng.state = (if s.rng.min.toNat ≤ healthyCount s - 1 then .reseeding else .halted) := by
  refine ⟨failSource n repetition s, rfl, ?_⟩
  unfold failSource
  rw [if_pos ⟨hs, hn, hh⟩]
  extract_lets s1 s2
  have hsources : s1.rng.sources = (modSource n (fun x => { x with healthy := false }) s).rng.sources := by
    cases repetition <;> rfl
  have hmin : s1.rng.min = s.rng.min := by
    cases repetition <;> rfl
  have hrng : s2.rng = s1.rng := raise_leaves (π := .rng) rfl rfl
  have hsrc : ∀ k, sourceAt s2 k = sourceAt (modSource n (fun x => { x with healthy := false }) s) k := fun k => by
    rw [sourceAt, sourceAt, hrng, hsources]
  have hout : (sourceAt s2 n).healthy = false := by rw [hsrc, sourceAt_modSource_same]
  have hcount : healthyCount s2 = healthyCount s - 1 :=
    healthyCount_drop hn hh hout fun k hk => by rw [hsrc, sourceAt_modSource_other hk]
  rw [hcount, hrng, hmin]
  clear_value s2
  split
  · exact ⟨hout, rfl, rfl⟩
  · have hr := rngHalt_rng n s2
    refine ⟨?_, congrArg Rng.level hr, congrArg Rng.state hr⟩
    rw [sourceAt, hr]
    exact hout

theorem reseedComplete_runs (hs : s.rng.state = .reseeding) (hp : 3 ≤ s.rng.pool.length) :
    ∃ t, exec .rngReseedComplete s = .next t ∧ t.rng.state = .running ∧ t.rng.pool = s.rng.pool.drop 3 ∧
      t.rng.drbg = s.rng.drbg.map (drbgUpdate (s.rng.pool.take 3).flatten) ∧ t.rng.reseeds = satInc s.rng.reseeds := by
  refine answered (congrArg Host.Outcome.next (if_pos ⟨hs, hp⟩)) ?_
  simp only [raise_frame]
  exact ⟨rfl, rfl, rfl, rfl⟩

theorem conditionedBlock_pooled (hs : s.rng.state = .running ∨ s.rng.state = .reseeding) (hdue : s.rng.due = false) (hsrc : creditedSources s ≠ [])
    (hp : s.rng.pool.length < 8) :
    ∃ t, exec .conditionedBlockReady s = .next t ∧ t.rng.pool = s.rng.pool ++ [(conditionedBlock s).1] ∧ t.rng.credited = s.rng.credited + 1024 ∧
      t.rng.state = s.rng.state := by
  have hr : (conditionedBlock s).2.rng = s.rng := conditionedBlock_rng s
  refine answered (congrArg Host.Outcome.next ((if_neg ?may).trans (if_neg ?notDue))) ⟨?_, ?_, ?_⟩
  case may =>
    rintro (h | h | h)
    · exact h hs
    · exact hsrc h
    · omega
  case notDue =>
    rintro ⟨h, -⟩
    change (conditionedBlock s).2.rng.due = true at h
    rw [hr, hdue] at h
    cases h
  · change (conditionedBlock s).2.rng.pool ++ _ = _
    rw [hr]
  · change (conditionedBlock s).2.rng.credited + 1024 = _
    rw [hr]
  · change (conditionedBlock s).2.rng.state = _
    rw [hr]

/-- A source isolated, failed or under test gives nothing that counts; with no other there is no block. -/
theorem conditionedBlock_of_noneCredited (h : ∀ n < 16, (sourceAt s n).healthy = true → maintRuns s 9 = true ∧ s.rng.rebalance = n) :
    exec .conditionedBlockReady s = .next s := by
  refine congrArg Host.Outcome.next (if_pos (.inr (.inl (List.filter_eq_nil_iff.mpr fun n hn hc => ?_))))
  simp only [Bool.and_eq_true, Bool.not_eq_true', Bool.and_eq_false_iff] at hc
  obtain ⟨hh, hc⟩ := hc
  obtain ⟨hm, hb⟩ := h n (List.mem_range.mp hn) hh
  simp [hm, hb] at hc

theorem rngRestart_starts {m : Master} (hw : WriteOpen (pageAddr rngTile 0x104) m s) (hs : s.rng.state = .running ∨ s.rng.state = .halted)
    (ht : rngTileWorks s = true) :
    ∃ t, exec (.rngRestart m) s = .next t ∧ t.rng.state = .starting ∧ t.rng.level = 0 ∧ t.rng.pool = [] ∧ t.rng.drbg = none := by
  refine answered (congrArg Host.Outcome.next (audited_of_open hw)) ?_
  have happly : rngWriteWord 0x104 1 s = rngStart s := if_pos (by rcases hs with hs | hs <;> simp [restartTaken, hs, ht, bit])
  have hr : ∀ old new, (appendConfig (pageAddr rngTile 0x104) m 4 old new (rngWriteWord 0x104 1 s)).rng = (rngStart s).rng :=
    fun old new => Eq.trans (same_appendConfig (π := .rng) rfl) (congrArg State.rng happly)
  rw [hr]
  exact ⟨rfl, rfl, rfl, rfl⟩

theorem minSources_written {m : Master} {v : BitVec 32} (hw : WriteOpen (pageAddr rngTile 0x108) m s) (hlo : 4 ≤ v.toNat % 32) (hhi : v.toNat % 32 ≤ 16) :
    ∃ t, exec (.rngMinSourcesWrite m v) s = .next t ∧ t.rng.min.toNat = v.toNat % 32 ∧
      ((s.rng.state = .running ∨ s.rng.state = .reseeding) → healthyCount s < v.toNat % 32 → t.rng.state = .halted) := by
  refine answered (congrArg Host.Outcome.next (audited_of_open hw)) ?_
  have hr : ∀ old new, (appendConfig (pageAddr rngTile 0x108) m 4 old new (rngWriteWord 0x108 v.toNat s)).rng = (rngWriteWord 0x108 v.toNat s).rng :=
    fun old new => same_appendConfig (π := .rng) rfl
  have happly : rngWriteWord 0x108 v.toNat s = if (s.rng.state = .running ∨ s.rng.state = .reseeding) ∧ healthyCount s < v.toNat % 32
      then rngHalt 0 (modRng (fun r => { r with min := BitVec.ofNat 5 (v.toNat % 32) }) s)
      else modRng (fun r => { r with min := BitVec.ofNat 5 (v.toNat % 32) }) s := if_neg (by omega)
  have hmin : (BitVec.ofNat 5 (v.toNat % 32)).toNat = v.toNat % 32 := by
    rw [BitVec.toNat_ofNat]
    omega
  rw [hr, happly]
  split
  · rw [rngHalt_rng]
    exact ⟨hmin, fun _ _ => rfl⟩
  · next h => exact ⟨hmin, fun hs hc => absurd ⟨hs, hc⟩ h⟩

end

/-- Settles O21: each command of the generator under the conditions on it. -/
theorem noiseSourcesAndGenerator : Obligations.NoiseSourcesAndGenerator := by
  unfold Obligations.NoiseSourcesAndGenerator
  intro s
  refine ⟨fun passed hs => ⟨startupEnd_passed hs, startupEnd_failed hs⟩, fun n ones hn hs => ⟨trimBlock_trims hn hs, fun lags => estimateBlock_shown hn hs⟩,
    fun n rep hn hs hh => sourceFail_fails hn hs hh, reseedComplete_runs, fun hs hg => ⟨fun hp => ?_, fun hp => ?_⟩, conditionedBlock_pooled,
    conditionedBlock_of_noneCredited, fun slot i j hj hw hr hst hc hle => ?_, fun m => rngRestart_starts, fun m v => minSources_written⟩
  · exact answered (congrArg Host.Outcome.next ((if_pos ⟨hs, hg⟩).trans (if_pos hp))) ⟨rfl, rfl, rfl⟩
  · exact answered (congrArg Host.Outcome.next ((if_pos ⟨hs, hg⟩).trans (if_neg (Nat.not_le.mpr hp)))) ⟨rfl, rfl⟩
  · change execRngWaitExpiry slot i s = _
    simp only [execRngWaitExpiry, hj]
    exact congrArg Host.Outcome.next (if_pos ⟨hw, hr, hst, by simp [hc], hle⟩)

end Sys2Proof.Machine

end

section
/-!
SUPPORT. The end of a rate window that a full record queue meets. O23, refuted.
-/
namespace Sys2Proof.Machine
open Sys2Proof Sys2Proof.Statements

/-! ### The end of a rate window that a full record queue meets -/

section
variable {s : State}

theorem mput_ne_nil {β : Type} (k : Nat) (v : β) (m : AMap β) : mput k v m ≠ [] := by
  intro h
  have hk := mfind_mput k k v m
  rw [h, if_pos rfl] at hk
  cases hk

theorem enqueue_counts (rs : List EvRec) (s : State) : (enqueue rs s).recorder.counts = s.recorder.counts := by
  unfold enqueue
  refine forAll_ind (p := fun t => t.recorder.counts = s.recorder.counts) (fun r t h => ?_) rs s rfl
  dsimp only
  split <;> exact h

theorem collect_counts (tile : Nat) (flushed : Bool) (s : State) : (collect tile flushed s).recorder.counts = s.recorder.counts := enqueue_counts ..

/-- An occurrence of a code that is not privileged is counted in its rate window (R490). -/
theorem recordEvent_counts_ne_nil {page unit code detail : Nat} (hp : isPriv code = false) : (recordEvent page unit code detail s).recorder.counts ≠ [] := by
  unfold recordEvent
  extract_lets r same folded src k c limit c1 s1 tile buf s2 fault
  have hs1 : s1.recorder.counts ≠ [] := by
    change mset {} s.recorder.counts k c1 ≠ []
    have hc1 : c1 ≠ {} := by
      intro h
      have hn : c1.n = c.n + 1 := by
        change (if c.n = limit then ({ n := c.n + 1, first := now s % 2 ^ 48, detail := detail } : RateCount) else { c with n := c.n + 1 }).n = _
        split <;> rfl
      rw [h] at hn
      cases hn
    rw [mset, if_neg hc1]
    exact mput_ne_nil _ _ _
  rw [if_neg (by simp [hp])]
  split
  · split
    · split
      · rw [collect_counts]
        exact hs1
      · exact hs1
    · exact hs1
  · exact hs1

/-- Records lost since they were last counted raise an event, which the new rate window counts (R488, R490). -/
theorem noteDropped_counts_ne_nil {before : BitVec 16} (h : s.recorder.dropped ≠ before) : (noteDropped before s).recorder.counts ≠ [] := by
  unfold noteDropped
  rw [if_neg h]
  unfold raiseAs
  extract_lets b rose s1 s2
  clear_value s2
  exact recordEvent_counts_ne_nil (code := 0x0520) (by decide)

/-- The last swath of a rate window in which one code came nine times, with these records in the queue. -/
def fullQueueState (queue : List EvRec) : State :=
  { State.reset with
    sched := { State.reset.sched with swath := 4095 }
    recorder := { State.reset.recorder with
      queue := queue
      counts := [(0, { n := 9 })] } }

/-- The summary that finds no place in the queue. -/
def lostSummary : EvRec := { code := 0, epoch := 0, swath := 0, unit := 0, repeats := 1, summary := true, detail := 0 }

theorem summaries_fullQueueState (queue : List EvRec) :
    (fullQueueState queue).recorder.counts.filterMap (fun e => summaryOf (fullQueueState queue) e.1 e.2) = [lostSummary] := rfl

theorem enqueue_lostSummary (hq : 3840 ≤ s.recorder.queue.length) :
    (enqueue [lostSummary] s).recorder.dropped = satInc s.recorder.dropped := by
  change (if lostSummary.priv = true ∨ s.recorder.queue.length < 4096 - 256 then _ else _ : State).recorder.dropped = _
  rw [if_neg (by simp [lostSummary]; omega)]

end

/-- Refutes O23: at the end of the rate window a summary that finds the record queue full is lost, and the event that says so (0x0520) is the first counted in the new
window, so the counts are not empty. -/
theorem not_recorderKeepsItsRecords : ¬ Obligations.RecorderKeepsItsRecords := by
  unfold Obligations.RecorderKeepsItsRecords
  intro h
  obtain ⟨queue, hq⟩ : ∃ l : List EvRec, l.length = 3840 := ⟨List.replicate 3840 lostSummary, List.length_replicate⟩
  obtain ⟨hwindow, -⟩ := h (fullQueueState queue)
  obtain ⟨t, ht, hcounts, -⟩ := hwindow rfl
  have ht' : t = noteDropped 0 (enqueue [lostSummary] { fullQueueState queue with recorder := { (fullQueueState queue).recorder with counts := [] } }) := by
    rw [← summaries_fullQueueState queue]
    exact (Host.Outcome.next.inj ht).symm
  refine noteDropped_counts_ne_nil (fun hd => ?_) (ht' ▸ hcounts)
  rw [enqueue_lostSummary (Nat.le_of_eq hq.symm)] at hd
  have h1 : satInc (0 : BitVec 16) = 0 := hd
  exact absurd h1 (by decide)

end Sys2Proof.Machine

end

section
/-!
SUPPORT. Sensors, and the thermal states that end. O60.
-/
namespace Sys2Proof.Machine
open Sys2Proof Sys2Proof.Statements

/-! ### Sensors, and the thermal states that end -/

section
variable {s t : State} {k d : Nat}

theorem sensorAt_modSensor_same (k : Nat) (f : Sensor → Sensor) (s : State) : sensorAt (modSensor k f s) k = f (sensorAt s k) := (sensorAt_modSensor ..).trans (if_pos rfl)

theorem sensorAt_of_sensors (h : t.power.sensors = s.power.sensors) (k : Nat) : sensorAt t k = sensorAt s k := by rw [sensorAt, sensorAt, h]

theorem domainAtP_of_domains (h : t.power.domains = s.power.domains) (d : Nat) : domainAtP t d = domainAtP s d := by rw [domainAtP, domainAtP, h]

/-- A plane that throttles marks the sensor that saw it (R749). -/
theorem sensorAt_startThrottle (k : Nat) (s : State) : sensorAt (startThrottle k s) k = { sensorAt s k with throttled := true, cool := 0 } := by
  have hsens : (startThrottle k s).power.sensors = (modSensor k (fun x => { x with throttled := true, cool := 0 }) s).power.sensors := by
    unfold startThrottle
    extract_lets degrees s1 s2
    have hs1 : Part.sensors.Same (modSensor k (fun x => { x with throttled := true, cool := 0 }) s) s1 := raise_leaves rfl rfl
    have hs2 : Part.sensors.Same (modSensor k (fun x => { x with throttled := true, cool := 0 }) s) s2 :=
      .ite (raise_leaves rfl hs1) (.ite (raise_leaves rfl hs1) hs1)
    split
    · exact enterThermal_leaves (π := .sensors) rfl hs2
    · exact hs2
  rw [sensorAt_of_sensors hsens, sensorAt_modSensor_same]

/-- A thermal shutdown marks the sensor that asked for it (R750). -/
theorem sensorAt_shutDown (k : Nat) (s : State) : sensorAt (shutDown k s) k = { sensorAt s k with shut := true, cold := 0 } := by
  have hsens : (shutDown k s).power.sensors = (modSensor k (fun x => { x with shut := true, cold := 0 }) s).power.sensors := by
    unfold shutDown
    dsimp only
    split
    · exact powerFail_leaves (π := .sensors) rfl rfl
    · exact forAll_leaves (π := .sensors) (fun _ _ hu => latchDomain_leaves rfl hu) rfl
  rw [sensorAt_of_sensors hsens, sensorAt_modSensor_same]

theorem sampleSensor_sound (k : Nat) (v : BitVec 10) (odd : Bool) (s : State) :
    let t := sampleSensor k v odd s
    (sensorAt t k).temp = v ∧ (sensorAt t k).faulty = (odd || decide (v.toInt < -100 ∨ 300 < v.toInt)) ∧
      ((sensorAt t k).faulty = false → (210 ≤ v.toInt → (sensorAt t k).throttled = true) ∧ (240 ≤ v.toInt → (sensorAt t k).shut = true)) ∧
      ((sensorAt t k).faulty = true → (sensorAt t k).throttled = (sensorAt s k).throttled ∧ (sensorAt t k).shut = (sensorAt s k).shut) := by
  intro r
  by_cases hodd : odd = true ∨ v.toInt < -100 ∨ 300 < v.toInt
  · -- An implausible reading: the sensor's record alone, with its fault.
    have hr : sensorAt r k = { sensorAt s k with
        temp := v, max := if (sensorAt s k).seen = true ∧ v.toInt < (sensorAt s k).max.toInt then (sensorAt s k).max else v, seen := true, faulty := true, cool := 0, cold := 0 } := by
      change sensorAt (sampleSensor k v odd s) k = _
      unfold sampleSensor
      extract_lets t old s1 s2
      rw [if_pos hodd]
      have hs2 : sensorAt (if old.faulty = true then s2 else raise modulePage 0x070E k s2) k = sensorAt s2 k := by
        split
        · rfl
        · exact sensorAt_of_sensors (raise_leaves (π := .sensors) rfl rfl) k
      rw [hs2, sensorAt_modSensor_same, sensorAt_modSensor_same]
    have hfaulty : (odd || decide (v.toInt < -100 ∨ 300 < v.toInt)) = true := by simpa using hodd
    rw [hr, hfaulty]
    exact ⟨rfl, rfl, fun h => Bool.noConfusion h, fun _ => ⟨rfl, rfl⟩⟩
  · obtain ⟨x, hx, htemp, hfault, hthr, hshut⟩ : ∃ x, x = sensorAt r k ∧ x.temp = v ∧ x.faulty = false ∧
        (210 ≤ v.toInt → x.throttled = true) ∧ (240 ≤ v.toInt → x.shut = true) := by
      refine ⟨_, rfl, ?_⟩
      change (sensorAt (sampleSensor k v odd s) k).temp = v ∧ (sensorAt (sampleSensor k v odd s) k).faulty = false ∧
        (210 ≤ v.toInt → (sensorAt (sampleSensor k v odd s) k).throttled = true) ∧ (240 ≤ v.toInt → (sensorAt (sampleSensor k v odd s) k).shut = true)
      unfold sampleSensor
      extract_lets t old s1 s2 s2' s3
      rw [if_neg hodd]
      have hs2 : (sensorAt s2' k).temp = v ∧ (sensorAt s2' k).faulty = false ∧ (sensorAt s2' k).throttled = old.throttled ∧ (sensorAt s2' k).shut = old.shut := by
        rw [sensorAt_modSensor_same, sensorAt_modSensor_same]
        exact ⟨rfl, rfl, rfl, rfl⟩
      obtain ⟨htemp, hfault, hthr, hshut⟩ := hs2
      clear_value s2'
      have hs3 : (sensorAt s3 k).temp = v ∧ (sensorAt s3 k).faulty = false ∧ (210 ≤ v.toInt → (sensorAt s3 k).throttled = true) ∧ (sensorAt s3 k).shut = old.shut := by
        by_cases hstart : 210 ≤ t ∧ ¬ old.throttled = true
        · rw [show s3 = startThrottle k s2' from if_pos hstart, sensorAt_startThrottle]
          exact ⟨htemp, hfault, fun _ => rfl, hshut⟩
        · rw [show s3 = s2' from if_neg hstart]
          exact ⟨htemp, hfault, fun h => hthr.trans (by simpa using not_and.mp hstart h), hshut⟩
      obtain ⟨htemp, hfault, hthr, hshut⟩ := hs3
      clear_value s3
      split
      · rw [sensorAt_shutDown]
        exact ⟨htemp, hfault, hthr, fun _ => rfl⟩
      · next hno => exact ⟨htemp, hfault, hthr, fun h => hshut.trans (by simpa using not_and.mp hno h)⟩
    rw [← hx]
    have hplausible : (odd || decide (v.toInt < -100 ∨ 300 < v.toInt)) = false := by simpa using hodd
    exact ⟨htemp, hfault.trans hplausible.symm, fun _ => ⟨hthr, hshut⟩, fun h => absurd (hfault.symm.trans h) Bool.false_ne_true⟩

theorem sensorsAreSampled : SensorsAreSampled := fun s k v odd => sampleSensor_sound k v odd s

theorem throttleEnd_ends (hk : k < 48) (ht : (sensorAt s k).throttled = true) (hc : 64 ≤ (sensorAt s k).cool) :
    ∃ t, exec (.throttleEnd k) s = .next t ∧ (sensorAt t k).throttled = false ∧ (sensorAt t k).temp = (sensorAt s k).temp := by
  refine answered (congrArg Host.Outcome.next (if_pos ⟨hk, ht, hc⟩)) ?_
  rw [sensorAt_of_sensors (raise_leaves (π := .sensors) rfl rfl), sensorAt_modSensor_same]
  exact ⟨rfl, rfl⟩

theorem thermalProfileExit_exits {plane : Nat} (hp : plane < 6) (h4 : (unitAt s (mkPage plane 0 0 0)).profile = 4)
    (hc : 4096 ≤ (unitAt s (mkPage plane 0 0 0)).coolSwaths) :
    ∃ t, exec (.thermalProfileExit plane) s = .next t ∧ (unitAt t (mkPage plane 0 0 0)).profile = (unitAt s (mkPage plane 0 0 0)).requested := by
  refine answered (congrArg Host.Outcome.next (if_pos ⟨hp, h4, hc⟩)) ?_
  simp only [raise_unit]
  rw [unitAt_modUnit, if_pos rfl]

/-- A domain that is cleared is on, and not for its temperature off (R752). -/
theorem domainAtP_clearDomain (d : Nat) (s : State) : domainAtP (clearDomain d s) d = { domainAtP s d with state := .on, thermal := false } := by
  have h : (clearDomain d s).power.domains = (modDomain d (fun x => { x with state := .on, thermal := false }) s).power.domains :=
    forAll_leaves (π := .domains) (fun _ _ hu => .ite (releaseUnit_leaves rfl hu) hu) rfl
  rw [domainAtP_of_domains h, domainAtP_modDomain, if_pos rfl]

theorem thermalShutdown_recovers (hk : domainSensor d = some k) (hl : (domainAtP s d).state = .latched) (ht : (domainAtP s d).thermal = true)
    (hc : 4096 ≤ (sensorAt s k).cold) :
    ∃ t, exec (.thermalShutdownRecover d) s = .next t ∧ (domainAtP t d).state = .on ∧ (domainAtP t d).thermal = false := by
  have hexec : exec (.thermalShutdownRecover d) s = .next (if (sensorDomains k).any (fun e => (domainAtP (clearDomain d s) e).thermal) then clearDomain d s
      else modSensor k (fun y => { y with shut := false, cold := 0 }) (clearDomain d s)) := by
    change execThermalShutdownRecover d s = _
    unfold execThermalShutdownRecover
    simp only [hk]
    rw [if_pos ⟨hl, ht, hc⟩]
  refine answered hexec ?_
  have hd : ∀ t, t.power.domains = (clearDomain d s).power.domains → (domainAtP t d).state = .on ∧ (domainAtP t d).thermal = false := fun t h => by
    rw [domainAtP_of_domains h, domainAtP_clearDomain]
    exact ⟨rfl, rfl⟩
  split
  · exact hd _ rfl
  · exact hd _ rfl

theorem thermalStatesEnd : ThermalStatesEnd := fun _ =>
  ⟨fun _ _ hg => congrArg Host.Outcome.next (if_neg (not_not_intro hg)), fun _ => throttleEnd_ends, fun _ => thermalProfileExit_exits, fun _ _ => thermalShutdown_recovers⟩

end

/-- Settles O60: what a sample writes of its sensor, and the ends of the thermal states. -/
theorem sensorsAndThermalStates : Obligations.SensorsAndThermalStates := by
  unfold Obligations.SensorsAndThermalStates
  exact ⟨sensorsAreSampled, thermalStatesEnd⟩

end Sys2Proof.Machine

end

section
/-!
SUPPORT. Tamper causes and the keeper's seconds. O26.
-/
namespace Sys2Proof.Machine
open Sys2Proof Sys2Proof.Statements

/-! ### Tamper causes and the keeper's seconds -/

section
variable {s : State} {cause detail value : Nat}

/-- An entry of the tamper log: the newest first, 96 in all, and one more counted (R716). -/
theorem logTamper_keeper (cause detail value : Nat) (erased : Bool) (s : State) :
    (logTamper cause detail value erased s).keeper = { s.keeper with
      log := (({ seq := s.keeper.entries.toNat + 1, seconds := s.keeper.seconds.toNat, cause := cause, detail := detail, before := s.keeper.record.state,
                 powered := s.power.good, erased := erased, value := BitVec.ofNat 16 value } : TamperRec) :: s.keeper.log).take 96
      entries := s.keeper.entries + 1 } := by
  unfold logTamper
  extract_lets k r s1
  split
  · exact raise_leaves (π := .keeper) rfl rfl
  · rfl

theorem destroyStileKey_keeper (s : State) : (destroyStileKey s).keeper = s.keeper := destroyStileKey_leaves (π := .keeper) rfl rfl

/-- A tripped sensor shows in its bit, and nowhere else in the keeper's state (R733). -/
theorem sensorBits_keeper (cause detail : Nat) (s : State) : ∃ a b c d e, (sensorBits cause detail s).keeper =
    { s.keeper with mesh := a, closed := b, dark := c, tempOk := d, supplyOk := e } := by
  unfold sensorBits
  dsimp only
  split <;> (try split) <;> exact ⟨_, _, _, _, _, rfl⟩

/-- What entry into TAMPERED leaves in the keeper (R707, R710, R715). -/
structure EntersTampered (s : State) (cause : Nat) (k : Keeper) : Prop where
  state : k.record.state = .tampered
  prev : k.record.prev = s.keeper.record.state
  cause : k.record.cause = cause
  key : k.key = false
  alarm : k.alarm = true
  entries : k.entries = s.keeper.entries + 1

/-- The state once a tamper cause is logged, the battery-backed key erased, the alarm raised and TAMPERED entered, before the response (R707). -/
def tamperedState (cause detail value : Nat) (s : State) : State :=
  let s1 := logTamper cause detail value true { s with keeper := { s.keeper with key := false, alarm := true, tampered := true } }
  let s2 := writeRecord .tampered false cause 0 (destroyStileKey (emit (.pin "HEDGE_ALARM_N" false) s1))
  { s2 with start := { s2.start with erasing := false } }

theorem tamperedState_keeper (cause detail value : Nat) (s : State) :
    EntersTampered s cause (tamperedState cause detail value s).keeper ∧ (tamperedState cause detail value s).keeper.log ≠ [] := by
  unfold tamperedState
  extract_lets src s1 s2
  have hs1 := logTamper_keeper cause detail value true { s with keeper := { s.keeper with key := false, alarm := true, tampered := true } }
  have hk : (destroyStileKey (emit (.pin "HEDGE_ALARM_N" false) s1)).keeper = s1.keeper := destroyStileKey_keeper _
  have hs1' : s1.keeper = _ := hs1
  have hs2 : s2.keeper = (writeRecord .tampered false cause 0 s1).keeper := by
    change (writeRecord .tampered false cause 0 _).keeper = _
    unfold writeRecord
    dsimp only
    rw [hk]
  change EntersTampered s cause s2.keeper ∧ s2.keeper.log ≠ []
  rw [hs2]
  unfold writeRecord
  dsimp only
  rw [hs1']
  exact ⟨⟨rfl, rfl, rfl, rfl, rfl, rfl⟩, List.cons_ne_nil _ _⟩

theorem tamper_of_entry (h1 : s.keeper.record.state ≠ .tampered) (h2 : s.keeper.record.state ≠ .decommissioned) :
    tamper cause detail value s = if s.power.good = true then
        (match (tamperedState cause detail value s).keeper.log with
        | r :: _ => tamperRecord r { tamperedState cause detail value s with keeper := { (tamperedState cause detail value s).keeper with respond := true } }
        | [] => tamperedState cause detail value s)
      else loseSecrets (tamperedState cause detail value s) :=
  if_neg (not_or.mpr ⟨h1, h2⟩)

theorem tamper_enters (h1 : s.keeper.record.state ≠ .tampered) (h2 : s.keeper.record.state ≠ .decommissioned) :
    EntersTampered s cause (tamper cause detail value s).keeper ∧ (s.power.good = true → (tamper cause detail value s).keeper.respond = true) ∧
      (s.power.good = false → (tamper cause detail value s).keeper.secretGen = none) := by
  rw [tamper_of_entry h1 h2]
  obtain ⟨hk, hlog⟩ := tamperedState_keeper cause detail value s
  generalize tamperedState cause detail value s = u at hk hlog ⊢
  split
  · next hg =>
    split
    · next r rest hr =>
      have h : ∀ v, (tamperRecord r v).keeper = { v.keeper with recorded := r.seq } := fun v => appendReserved_leaves (π := .keeper) rfl rfl
      rw [h]
      exact ⟨⟨hk.state, hk.prev, hk.cause, hk.key, hk.alarm, hk.entries⟩, fun _ => rfl, fun hno => absurd (hg.symm.trans hno) (by decide)⟩
    · next hr => exact absurd hr hlog
  · next hg => exact ⟨⟨hk.state, hk.prev, hk.cause, hk.key, hk.alarm, hk.entries⟩, fun h => absurd h hg, fun _ => rfl⟩

/-- A cause of the mesh, the case, light or temperature is acted on, powered or not (R706). -/
theorem exec_hedgeSensorTrip {v : BitVec 16} (hlo : 1 ≤ cause) (hhi : cause ≤ 5) :
    exec (.hedgeSensorTrip cause detail v) s = .next (tamper cause detail v.toNat (sensorBits cause detail s)) :=
  congrArg Host.Outcome.next ((if_neg (by omega)).trans (if_neg (by omega)))

theorem sensorTrip_enters {v : BitVec 16} (hlo : 1 ≤ cause) (hhi : cause ≤ 5) (h1 : s.keeper.record.state ≠ .tampered)
    (h2 : s.keeper.record.state ≠ .decommissioned) :
    ∃ t, exec (.hedgeSensorTrip cause detail v) s = .next t ∧ t.keeper.record.state = .tampered ∧ t.keeper.record.prev = s.keeper.record.state ∧
      t.keeper.record.cause = cause ∧ t.keeper.key = false ∧ t.keeper.alarm = true ∧ t.keeper.entries = s.keeper.entries + 1 ∧
      (s.power.good = true → t.keeper.respond = true) ∧ (s.power.good = false → t.keeper.secretGen = none) := by
  refine answered (exec_hedgeSensorTrip hlo hhi) ?_
  obtain ⟨a, b, c, d, e, hbits⟩ := sensorBits_keeper cause detail s
  have hrec : (sensorBits cause detail s).keeper.record = s.keeper.record := by rw [hbits]
  have hent : (sensorBits cause detail s).keeper.entries = s.keeper.entries := by rw [hbits]
  obtain ⟨hk, hgood, hbad⟩ := tamper_enters (s := sensorBits cause detail s) (cause := cause) (detail := detail) (value := v.toNat) (by rw [hrec]; exact h1) (by rw [hrec]; exact h2)
  exact ⟨hk.state, hk.prev.trans (congrArg StateRec.state hrec), hk.cause, hk.key, hk.alarm, hk.entries.trans (congrArg (· + 1) hent), hgood, hbad⟩

theorem sensorTrip_logged {v : BitVec 16} (hlo : 1 ≤ cause) (hhi : cause ≤ 5) (h : s.keeper.record.state = .tampered ∨ s.keeper.record.state = .decommissioned) :
    ∃ t, exec (.hedgeSensorTrip cause detail v) s = .next t ∧ t.keeper.record = s.keeper.record ∧ t.keeper.key = s.keeper.key ∧ t.jobs = s.jobs ∧
      t.keeper.entries = s.keeper.entries + 1 := by
  refine answered (exec_hedgeSensorTrip hlo hhi) ?_
  obtain ⟨a, b, c, d, e, hbits⟩ := sensorBits_keeper cause detail s
  have hrec : (sensorBits cause detail s).keeper.record = s.keeper.record := by rw [hbits]
  have ht : tamper cause detail v.toNat (sensorBits cause detail s) = logTamper cause detail v.toNat false (sensorBits cause detail s) :=
    if_pos (by rw [hrec]; exact h)
  have hjobs : (logTamper cause detail v.toNat false (sensorBits cause detail s)).jobs = (sensorBits cause detail s).jobs := logTamper_leaves (π := .jobs) rfl rfl
  rw [ht, hjobs, logTamper_keeper, hbits]
  exact ⟨rfl, rfl, rfl, rfl⟩

end

/-- Settles O26: the entry into TAMPERED with all that it writes of the keeper, and the two states in which a cause is logged alone. -/
theorem tamperAndKeeper : Obligations.TamperAndKeeper := by
  unfold Obligations.TamperAndKeeper
  exact fun s => ⟨fun cause detail v hlo hhi => ⟨sensorTrip_enters hlo hhi, sensorTrip_logged hlo hhi⟩, fun ext cell => ⟨_, rfl, rfl, rfl, rfl, rfl, rfl⟩⟩

end Sys2Proof.Machine

end

section
/-!
SUPPORT. The input, the pressure levels and the power-fail sequence. O25.
-/
namespace Sys2Proof.Machine
open Sys2Proof Sys2Proof.Statements

/-! ### The input, the pressure levels and the power-fail sequence -/

section
variable {s : State} {mv ma : Nat}

/-- A level entered is the pressure, with the swath of its entry (R737). -/
theorem setLevel_power (n : Nat) (s : State) : ∃ since, (setLevel n s).power = { s.power with pressure := BitVec.ofNat 2 n, levelSince := since } := by
  unfold setLevel
  split
  · next h =>
    refine ⟨s.power.levelSince, ?_⟩
    rw [← h, BitVec.ofNat_toNat, BitVec.setWidth_eq]
  · exact ⟨_, raise_leaves (π := .power) rfl rfl⟩

theorem readInput_power (mv ma : Nat) (s : State) : (readInput mv ma s).power =
    { s.power with mv := BitVec.ofNat 16 mv, ma := BitVec.ofNat 16 ma, currentLimit := s.power.currentLimit && decide (18000 ≤ ma) } := by
  unfold readInput
  extract_lets low s1
  split
  · exact raise_leaves (π := .power) rfl rfl
  · rfl

/-- The sequence begins: every request is lost, and the level is 3 (R735). -/
theorem powerFail_power (hg : s.power.good = true) (hf : s.power.failSeq = false) :
    ∃ since, (powerFail s).power = { s.power with failSeq := true, failMv := s.power.mv.toNat, failStep := 1, pressure := 3, levelSince := since } := by
  rw [show powerFail s = setLevel 3 (loseRequests (modPower (fun p => { p with failSeq := true, failMv := p.mv.toNat, failStep := 1 }) s)) from
    if_neg (by simp [hg, hf])]
  exact setLevel_power 3 _

theorem powerFail_queue (hg : s.power.good = true) (hf : s.power.failSeq = false) : (powerFail s).ceremony.queue = [] := by
  rw [show powerFail s = setLevel 3 (loseRequests (modPower (fun p => { p with failSeq := true, failMv := p.mv.toNat, failStep := 1 }) s)) from
    if_neg (by simp [hg, hf])]
  exact setLevel_leaves (π := .queue) (s := loseRequests (modPower _ s)) rfl rfl

theorem powerFail_of_begun (h : s.power.failSeq = true) : powerFail s = s := if_pos (.inl h)

theorem pressureOf_le (p : Power) : pressureOf p ≤ 3 := by
  unfold pressureOf
  split
  · exact Nat.le_refl 3
  · split
    · omega
    · split <;> omega

theorem toNat_level {n : Nat} (h : n ≤ 3) : (BitVec.ofNat 2 n).toNat = n := by
  rw [BitVec.toNat_ofNat]
  omega

theorem powerFailStart_starts (hg : s.power.good = true) (hf : s.power.failSeq = false) (rail : Bool) :
    ∃ t, exec (.powerFailStart mv rail) s = .next t ∧ t.power.failSeq = true ∧ t.power.failStep = 1 ∧ t.power.pressure = 3 ∧
      t.ceremony.queue = [] ∧ t.jobs = s.jobs := by
  have hexec : exec (.powerFailStart mv rail) s = .next (powerFail (if rail then raise modulePage 0x0708 mv (readInput mv s.power.ma.toNat s) else readInput mv s.power.ma.toNat s)) :=
    congrArg Host.Outcome.next (if_neg (by simp [hg, hf]))
  refine answered hexec ?_
  generalize hu : (if rail then raise modulePage 0x0708 mv (readInput mv s.power.ma.toNat s) else readInput mv s.power.ma.toNat s) = u
  have hpower : u.power = (readInput mv s.power.ma.toNat s).power := by
    rw [← hu]
    exact Part.Same.ite (π := .power) (raise_leaves rfl rfl) rfl
  have hjobs : u.jobs = s.jobs := by
    rw [← hu]
    exact Part.Same.ite (π := .jobs) (raise_leaves rfl (readInput_leaves rfl rfl)) (readInput_leaves rfl rfl)
  have hug : u.power.good = true := by rw [hpower, readInput_power]; exact hg
  have huf : u.power.failSeq = false := by rw [hpower, readInput_power]; exact hf
  obtain ⟨since, hp⟩ := powerFail_power hug huf
  rw [hp]
  exact ⟨rfl, rfl, rfl, powerFail_queue hug huf, Eq.trans (powerFail_leaves (π := .jobs) (s := u) rfl rfl) hjobs⟩

theorem overvoltageTimeout_opens (hg : s.power.good = true) (hf : s.power.failSeq = false) (hopen : s.power.switchOpen = false) :
    ∃ t, exec .overvoltageTimeout s = .next t ∧ t.power.switchOpen = true ∧ t.power.failSeq = true := by
  refine answered (congrArg Host.Outcome.next (if_neg (by simp [hg, hopen]))) ?_
  have hkeep : ∀ u : State, u.power = (modPower (fun p => { p with switchOpen := true }) s).power → (powerFail u).power.switchOpen = true ∧ (powerFail u).power.failSeq = true :=
    fun u hu => by
      obtain ⟨since, hp⟩ := powerFail_power (s := u) (by rw [hu]; exact hg) (by rw [hu]; exact hf)
      rw [hp, hu]
      exact ⟨rfl, rfl⟩
  exact hkeep _ (Part.Same.ite (π := .power) rfl (raise_leaves rfl rfl))

theorem pressureFall_falls (hg : s.power.good = true) (hf : s.power.failSeq = false) (hs : s.power.levelSince + 64 ≤ now s) :
    ∃ t, exec (.pressureFall mv ma) s = .next t ∧ t.power.pressure.toNat = min s.power.pressure.toNat (pressureOf t.power) ∧ t.power.mv = BitVec.ofNat 16 mv := by
  refine answered (congrArg Host.Outcome.next (if_neg (by simp [hg, hf]; omega))) ?_
  generalize hu : modPower (fun p => { p with cond2 := p.cond2 && p.currentLimit, overvoltage := p.overvoltage && decide (42000 < mv) }) (readInput mv ma s) = u
  have hup : u.power.pressure = s.power.pressure ∧ u.power.mv = BitVec.ofNat 16 mv := by
    rw [← hu]
    change (readInput mv ma s).power.pressure = _ ∧ (readInput mv ma s).power.mv = _
    rw [readInput_power]
    exact ⟨rfl, rfl⟩
  obtain ⟨since, hp⟩ := setLevel_power (min u.power.pressure.toNat (pressureOf u.power)) u
  have hle := pressureOf_le u.power
  rw [hp, ← hup.1]
  exact ⟨toNat_level (by omega), hup.2⟩

theorem raiseLevel_power (s : State) : ∃ since, (raiseLevel s).power =
    { s.power with pressure := BitVec.ofNat 2 (max s.power.pressure.toNat (pressureOf s.power)), levelSince := since } := setLevel_power _ s

/-- The level that is raised is the higher of the old one and the one whose condition holds (R737). -/
theorem raiseLevel_pressure (s : State) : (raiseLevel s).power.pressure.toNat = max s.power.pressure.toNat (pressureOf (raiseLevel s).power) := by
  obtain ⟨since, hp⟩ := raiseLevel_power s
  have hle := pressureOf_le s.power
  have hlt := s.power.pressure.isLt
  rw [hp]
  exact toNat_level (by omega)

theorem holdupTest_tests {uf : Nat} (hg : s.power.good = true) (hf : s.power.failSeq = false) :
    ∃ t, exec (.holdupTest uf mv) s = .next t ∧ t.power.holdupUf = BitVec.ofNat 16 uf ∧ t.power.holdupOk = decide (750 ≤ uf ∧ 45000 ≤ mv) := by
  refine answered (congrArg Host.Outcome.next (if_neg (by simp [hg, hf]))) ?_
  have hkeep : ∀ u : State, u.power = (modPower (fun p => { p with holdupUf := BitVec.ofNat 16 uf, holdupMv := BitVec.ofNat 16 mv, holdupOk := decide (750 ≤ uf ∧ 45000 ≤ mv) }) s).power →
      (raiseLevel u).power.holdupUf = BitVec.ofNat 16 uf ∧ (raiseLevel u).power.holdupOk = decide (750 ≤ uf ∧ 45000 ≤ mv) := fun u hu => by
    obtain ⟨since, hp⟩ := raiseLevel_power u
    rw [hp, hu]
    exact ⟨rfl, rfl⟩
  exact hkeep _ (Part.Same.ite (π := .power) (raise_leaves rfl rfl) (raise_leaves rfl (raise_leaves rfl rfl)))

theorem pressureRise_rises (hg : s.power.good = true) :
    ∃ t, exec (.pressureRise mv ma) s = .next t ∧ t.power.pressure.toNat = max s.power.pressure.toNat (pressureOf t.power) ∧ t.power.mv = BitVec.ofNat 16 mv := by
  refine answered (congrArg Host.Outcome.next (if_pos hg)) ?_
  have hin := readInput_power mv ma s
  have hpress : (raiseLevel (readInput mv ma s)).power.pressure.toNat = max s.power.pressure.toNat (pressureOf (raiseLevel (readInput mv ma s)).power) := by
    rw [raiseLevel_pressure, hin]
  obtain ⟨since, hp⟩ := raiseLevel_power (readInput mv ma s)
  have hmv : (raiseLevel (readInput mv ma s)).power.mv = BitVec.ofNat 16 mv := by rw [hp, hin]
  have hgood : (raiseLevel (readInput mv ma s)).power.good = true := by rw [hp, hin]; exact hg
  generalize raiseLevel (readInput mv ma s) = u at hpress hmv hgood ⊢
  split
  · cases hf : u.power.failSeq with
    | true =>
      rw [powerFail_of_begun hf]
      exact ⟨hpress, hmv⟩
    | false =>
      obtain ⟨since', hp'⟩ := powerFail_power hgood hf
      rw [hp']
      have hlt := s.power.pressure.isLt
      refine ⟨?_, hmv⟩
      change 3 = max s.power.pressure.toNat 3
      omega
  · exact ⟨hpress, hmv⟩

theorem currentLimitHold_holds (hg : s.power.good = true) (hc : s.power.cond2 = false) :
    ∃ t, exec .currentLimitHold s = .next t ∧ t.power.currentLimit = true ∧ t.power.cond2 = true ∧ 2 ≤ t.power.pressure.toNat := by
  refine answered (congrArg Host.Outcome.next (if_pos ⟨hg, by simp [hc]⟩)) ?_
  generalize hu : raise modulePage 0x0704 s.power.mv.toNat (modPower (fun p => { p with currentLimit := true, cond2 := true }) s) = u
  have hup : u.power = { s.power with currentLimit := true, cond2 := true } := by
    rw [← hu]
    exact raise_leaves (π := .power) rfl rfl
  obtain ⟨since, hp⟩ := raiseLevel_power u
  have hlevel : 2 ≤ pressureOf (raiseLevel u).power := by
    have h2 : pressure2 (raiseLevel u).power = true := by
      rw [hp, hup]
      exact Bool.or_true _
    rw [pressureOf, h2]
    split
    · omega
    · exact Nat.le_refl 2
  refine ⟨by rw [hp, hup], by rw [hp, hup], ?_⟩
  rw [raiseLevel_pressure]
  omega

theorem overvoltageClamp_clamps (hg : s.power.good = true) (hmv : 42000 < mv) (ho : s.power.overvoltage = false) :
    ∃ t, exec (.overvoltageClamp mv) s = .next t ∧ t.power.overvoltage = true ∧ t.power.mv = BitVec.ofNat 16 mv ∧ t.power.failSeq = s.power.failSeq := by
  refine answered (congrArg Host.Outcome.next (if_pos ⟨hg, hmv, by simp [ho]⟩)) ?_
  simp only [raise_frame]
  exact ⟨rfl, rfl, rfl⟩

theorem flushDone_ends (hf : s.power.failSeq = true) (hs : s.power.failStep = 2) :
    ∃ t, exec .powerFailFlushDone s = .next t ∧ t.power.failStep = 5 ∧ t.keeper.record.state = s.keeper.record.state ∧ t.keeper.record.seq = s.keeper.record.seq + 1 := by
  refine answered (congrArg Host.Outcome.next (if_pos ⟨hf, hs⟩)) ?_
  have hk : (flushRecorder s.power.failMv (flushFlash (flushJournals s))).keeper = s.keeper :=
    flushRecorder_leaves (π := .keeper) rfl (flushFlash_leaves rfl (flushJournals_leaves rfl rfl))
  generalize flushRecorder s.power.failMv (flushFlash (flushJournals s)) = u at hk ⊢
  refine ⟨rfl, ?_, ?_⟩
  · change u.keeper.record.state = _
    rw [hk]
  · change u.keeper.record.seq + 1 = _
    rw [hk]

theorem railsOff_off (input : Bool) (hf : s.power.failSeq = true) (hs : s.power.failStep = 5) :
    ∃ t, exec (.railsOff input) s = .next t ∧ t.power.good = input ∧ t.power.failSeq = false ∧ t.jobs = [] ∧ t.chans = [] ∧
      t.keeper.record = s.keeper.record ∧ t.start.begun = false :=
  answered (congrArg Host.Outcome.next (if_pos ⟨hf, hs⟩)) ⟨rfl, rfl, rfl, rfl, rfl, rfl⟩

end

/-- Settles O25: each command of the power stage under the conditions on it. -/
theorem powerInputAndFailure : Obligations.PowerInputAndFailure := by
  unfold Obligations.PowerInputAndFailure
  intro s
  refine ⟨fun hg hf => ⟨fun _ => powerFailStart_starts hg hf, overvoltageTimeout_opens hg hf, fun hs _ _ => pressureFall_falls hg hf hs, fun _ _ => holdupTest_tests hg hf⟩,
    fun hg => ⟨fun _ _ => pressureRise_rises hg, currentLimitHold_holds hg, fun _ => overvoltageClamp_clamps hg⟩, fun hg => ?_,
    fun hf => ⟨flushDone_ends hf, fun hs input => railsOff_off input hf hs⟩⟩
  exact answered (congrArg Host.Outcome.next (if_neg (by simp [hg]))) ⟨rfl, hg⟩

end Sys2Proof.Machine

end

section
/-!
SUPPORT. Presentations of a card, and the contact card. O27.
-/
namespace Sys2Proof.Machine
open Sys2Proof Sys2Proof.Statements

/-! ### Presentations of a card, and how they end -/

section
variable {s t : State} {reader : Bool} {π : Part}

theorem presentationAt_of_ceremony (h : t.ceremony = s.ceremony) (reader : Bool) : presentationAt t reader = presentationAt s reader := by
  rw [presentationAt, presentationAt, h]

theorem presentationAt_setPresentation (reader : Bool) (p : Option Presentation) (s : State) : presentationAt (setPresentation reader p s) reader = p := by
  cases reader <;> rfl

/-- A presentation that ends without counting is gone, and its record is made (R651, R652). -/
theorem endWith_failed {outcome : Nat} (ho : outcome ≠ 0) :
    presentationAt (endWith reader outcome s) reader = none ∧
      ∀ π : Part, π.Clear [.units, .audit, .recorder, .msix, .ceremony, .chain, .chainNext] → π.Same s (endWith reader outcome s) := by
  unfold endWith
  split
  · next hp => exact ⟨hp, fun π _ => .refl s⟩
  · dsimp only
    rw [if_neg ho, if_neg ho]
    refine ⟨?_, fun π hπ => requestRecord_leaves (hπ.mono rfl) (setPresentation_leaves (hπ.mono rfl) (.refl s))⟩
    rw [presentationAt_of_ceremony (requestRecord_leaves (π := .ceremony) rfl rfl), presentationAt_setPresentation]

theorem endWith_gone (reader : Bool) {outcome : Nat} (ho : outcome ≠ 0) (s : State) : presentationAt (endWith reader outcome s) reader = none := (endWith_failed ho).1

theorem endWith_same {outcome : Nat} (ho : outcome ≠ 0) (hπ : π.Clear [.units, .audit, .recorder, .msix, .ceremony, .chain, .chainNext]) :
    π.Same s (endWith reader outcome s) := (endWith_failed ho).2 π hπ

theorem endPresentation_ends {outcome : Nat} (ho : outcome ≠ 0) :
    presentationAt (endPresentation reader outcome s) reader = none ∧ (endPresentation reader outcome s).ceremony.queue = s.ceremony.queue := by
  refine ⟨endWith_gone reader ho _, Eq.trans (endWith_same (π := .queue) (s := releaseCard reader s) ho rfl) ?_⟩
  cases reader <;> rfl

/-! ### The contact card -/

theorem cardInserted_activates (hp : s.contact.present = false) (ha : s.audit.stalled = false) (hc : s.contact.classAllow.getLsbD 2 = true) :
    ∃ t, exec .cardInserted s = .next t ∧ t.contact.present = true ∧ t.contact.active = true ∧ t.contact.cls = 3 ∧ t.contact.clock = 4 ∧ t.contact.bar = .none := by
  refine answered (congrArg Host.Outcome.next ((if_neg (by simp [hp])).trans (if_neg (by simp [ha])))) ?_
  generalize hu : raise contactPage 0x0610 0 (modContact (fun c => { c with present := true, bar := .none }) s) = u
  have hcontact : u.contact = { s.contact with present := true, bar := .none } := by
    rw [← hu]
    exact raise_leaves (π := .contact) rfl rfl
  have hclass : allowedClasses u = 3 :: [2, 1].filter (fun k : BitVec 2 => u.contact.classAllow.getLsbD (k.toNat - 1)) :=
    List.filter_cons_of_pos (by rw [hcontact]; exact hc)
  unfold activateCard
  rw [hclass]
  change ({ u.contact with active := true, clock := 4, protocol := 0, cls := 3 } : Contact).present = true ∧ _
  rw [hcontact]
  refine ⟨rfl, rfl, rfl, rfl, ?_⟩
  change u.contact.bar = .none
  rw [hcontact]

theorem cardRemoved_ends (hp : s.contact.present = true) :
    ∃ t, exec .cardRemoved s = .next t ∧ t.contact.present = false ∧ t.ceremony.contact = none ∧ (s.contact.active = true → t.contact.active = false) := by
  refine answered (congrArg Host.Outcome.next (if_neg (by simp [hp]))) ?_
  dsimp only
  generalize hu : (if s.contact.active = true then deactivate s else s) = u
  have hactive : s.contact.active = true → u.contact.active = false := fun h => by
    rw [← hu, if_pos h]
    rfl
  generalize hv : raise contactPage 0x0611 0 (modContact (fun c => { c with present := false, bar := .none }) u) = v
  have hcontact : (endWith false 7 v).contact = { u.contact with present := false, bar := .none } := by
    refine Eq.trans (endWith_same (π := .contact) (s := v) (by decide) rfl) ?_
    rw [← hv]
    exact raise_leaves (π := .contact) rfl rfl
  rw [hcontact]
  exact ⟨rfl, endWith_gone false (by decide) v, hactive⟩

/-- A card given up is off, with the bar set, and its presentation is ended (R633, R635). -/
theorem givenUp {f : Contact → Contact} {code : Nat} (s : State) :
    (endWith false 7 (raise contactPage code 0 (modContact f (deactivate s)))).contact = f { s.contact with active := false, clock := 0, protocol := 0, cls := 0 } ∧
      (endWith false 7 (raise contactPage code 0 (modContact f (deactivate s)))).ceremony.contact = none ∧
      (endWith false 7 (raise contactPage code 0 (modContact f (deactivate s)))).ceremony.queue = s.ceremony.queue := by
  have hsame : ∀ π : Part, π.Clear [.units, .audit, .recorder, .msix, .ceremony, .chain, .chainNext] →
      π.Same (modContact f (deactivate s)) (endWith false 7 (raise contactPage code 0 (modContact f (deactivate s)))) :=
    fun π hπ => (raise_leaves (hπ.mono rfl) (.refl _)).trans (endWith_same (by decide) hπ)
  exact ⟨hsame .contact rfl, endWith_gone false (by decide) _, hsame .queue rfl⟩

theorem cardShort_ends (ha : s.contact.active = true) :
    ∃ t, exec .cardShort s = .next t ∧ t.contact.active = false ∧ t.contact.bar = .short ∧ t.ceremony.contact = none ∧ t.ceremony.queue = s.ceremony.queue := by
  refine answered (congrArg Host.Outcome.next (if_neg (by simp [ha]))) ?_
  obtain ⟨hc, hp, hq⟩ := givenUp (f := fun c => { c with bar := .short }) (code := 0x0612) s
  rw [hc]
  exact ⟨rfl, rfl, hp, hq⟩

theorem cardProtocol_contact (s : State) : (cardProtocol s).contact = { s.contact with active := false, clock := 0, protocol := 0, cls := 0, bar := .protocol } :=
  (givenUp (f := fun c => { c with bar := .protocol }) (code := 0x0613) s).1

theorem protocolTimeout_ends (ha : s.contact.active = true) :
    ∃ t, exec .cardProtocolTimeout s = .next t ∧ t.contact.active = false ∧ t.contact.bar = .protocol ∧ t.contact.timeouts = satInc s.contact.timeouts := by
  refine answered (congrArg Host.Outcome.next (if_pos ha)) ?_
  rw [cardProtocol_contact]
  exact ⟨rfl, rfl, rfl⟩

theorem parityError_ends (ha : s.contact.active = true) :
    ∃ t, exec (.cardResponse false .parityError) s = .next t ∧ t.contact.active = false ∧ t.contact.bar = .protocol ∧ t.contact.parity = satInc s.contact.parity := by
  refine answered (congrArg Host.Outcome.next (if_pos ha)) ?_
  rw [cardProtocol_contact]
  exact ⟨rfl, rfl, rfl⟩

theorem awaitsAtr_of (ha : s.contact.active = true) (hp : s.contact.protocol = 0) : awaitsAtr s = true := by simp [awaitsAtr, ha, hp]

theorem atrTimeout_next (ha : s.contact.active = true) (hp : s.contact.protocol = 0) (hc : s.contact.cls = 3) (hb : s.contact.classAllow.getLsbD 1 = true) :
    ∃ t, exec .cardAtrTimeout s = .next t ∧ t.contact.active = true ∧ t.contact.cls = 2 ∧ t.contact.clock = 4 := by
  have hclass : (allowedClasses s).filter (fun k => decide (k.toNat < s.contact.cls.toNat)) =
      2 :: ([1].filter (fun k : BitVec 2 => s.contact.classAllow.getLsbD (k.toNat - 1))).filter (fun k => decide (k.toNat < s.contact.cls.toNat)) := by
    have h2 : [2, 1].filter (fun k : BitVec 2 => s.contact.classAllow.getLsbD (k.toNat - 1)) =
        2 :: [1].filter (fun k : BitVec 2 => s.contact.classAllow.getLsbD (k.toNat - 1)) := List.filter_cons_of_pos hb
    rw [hc]
    unfold allowedClasses
    rw [List.filter_cons, h2]
    split
    · rw [List.filter_cons_of_neg (by decide), List.filter_cons_of_pos (by decide)]
    · rw [List.filter_cons_of_pos (by decide)]
  refine answered (t := applyClass 2 (deactivate s)) ?_ ⟨rfl, rfl, rfl⟩
  change execCardAtrTimeout s = _
  rw [execCardAtrTimeout, if_pos (awaitsAtr_of ha hp), nextClass, hclass]

theorem atrTimeout_last (ha : s.contact.active = true) (hp : s.contact.protocol = 0) (hc : s.contact.cls = 1) :
    ∃ t, exec .cardAtrTimeout s = .next t ∧ t.contact.active = false ∧ t.contact.bar = .protocol := by
  have hclass : (allowedClasses s).filter (fun k => decide (k.toNat < s.contact.cls.toNat)) = [] := by
    refine List.filter_eq_nil_iff.mpr fun k hk => ?_
    have hall : ∀ k ∈ ([3, 2, 1] : List (BitVec 2)), ¬ decide (k.toNat < (1#2).toNat) = true := by decide
    rw [hc]
    exact hall k (List.mem_filter.1 hk).1
  refine answered (t := cardProtocol s) ?_ ?_
  · change execCardAtrTimeout s = _
    rw [execCardAtrTimeout, if_pos (awaitsAtr_of ha hp), nextClass, hclass]
  · rw [cardProtocol_contact]
    exact ⟨rfl, rfl⟩

theorem cardAtr_presents (ha : s.contact.active = true) (hp : s.contact.protocol = 0) {classes : BitVec 3} {t0 t1 : Bool} {fmax : Nat} (ht : (t0 || t1) = true)
    (hc : classes.getLsbD (s.contact.cls.toNat - 1) = true) (hs : s.audit.stalled = false) :
    ∃ t, exec (.cardAtr false classes t0 t1 fmax) s = .next t ∧ t.contact.protocol = (if t1 then 2 else 1) ∧
      t.contact.clock = BitVec.ofNat 8 (max 1 (min (min fmax 20) s.contact.clkMax.toNat)) ∧ t.ceremony.contact = some { step := 2, begun := now s } ∧
      t.out = .card false [0x00, 0xA4, 0x04, 0x00, 0xF0, 0x4E, 0x43, 0x41, 0x01] :: s.out := by
  refine answered (congrArg Host.Outcome.next ((if_neg (by simp [awaitsAtr_of ha hp])).trans ((if_neg ?_).trans ((if_neg (by simp [hc])).trans (if_neg ?_))))) ⟨rfl, rfl, rfl, rfl⟩
  · rcases Bool.or_eq_true _ _ |>.mp ht with h | h <;> simp [h]
  · change ¬ s.audit.stalled = true
    simp [hs]

theorem cardRetry_recorded (m : Master) (hw : WriteOpen (contactTile * 0x1000 + 0x100) m s) :
    exec (.cardRetry m) s = .next (recordedAs (contactTile * 0x1000 + 0x100) m cardCtl
      (cardCtl (retryCard s) + (if s.contact.bar ≠ .none ∨ (s.contact.present = true ∧ s.contact.active = false ∧ s.audit.stalled = false) then 1 else 0)) retryCard s) := by
  have htaken : retryTaken s = if s.contact.bar ≠ .none ∨ (s.contact.present = true ∧ s.contact.active = false ∧ s.audit.stalled = false) then 1 else 0 := by
    simp [retryTaken, b2n, and_assoc]
  rw [← htaken]
  exact congrArg Host.Outcome.next (audited_of_open hw)

end

/-- Settles O27: the contact interface after each command, with the presentation that ends or begins. -/
theorem contactCardIsServed : Obligations.ContactCardIsServed := by
  unfold Obligations.ContactCardIsServed
  exact fun s => ⟨cardInserted_activates, cardRemoved_ends, fun ha => ⟨cardShort_ends ha, protocolTimeout_ends ha, parityError_ends ha⟩,
    fun ha hp => ⟨atrTimeout_next ha hp, atrTimeout_last ha hp, fun classes t0 t1 fmax => cardAtr_presents ha hp⟩, cardRetry_recorded⟩

end Sys2Proof.Machine

end

section
/-!
SUPPORT. Buttons, presentations and windows. O28.
-/
namespace Sys2Proof.Machine
open Sys2Proof Sys2Proof.Statements

/-! ### Buttons, presentations and windows -/

section
variable {s t : State} {reader : Bool} {p : Presentation} {r : Request}

theorem askedFirst_contact (hp : s.ceremony.contact = some p) (hr : s.ceremony.reader = none) (h5 : p.step = 5) : askedFirst s = some false := by
  simp [askedFirst, hp, hr, h5]

theorem askedFirst_of_ceremony (h : t.ceremony = s.ceremony) : askedFirst t = askedFirst s := by
  rw [askedFirst, askedFirst, h]

/-- The card that was asked first, when a button is pressed, is the contact card where it alone waits (R650, R651). -/
theorem button_asks (code : Nat) (hp : s.ceremony.contact = some p) (hr : s.ceremony.reader = none) (h5 : p.step = 5) :
    askedFirst (raise panelPage 0x061E code s) = some false :=
  (askedFirst_of_ceremony (raise_leaves (π := .ceremony) rfl rfl)).trans (askedFirst_contact hp hr h5)

theorem btnAccept_asks (hp : s.ceremony.contact = some p) (hr : s.ceremony.reader = none) (h5 : p.step = 5) (hq : s.ceremony.queue.head? = some r)
    (hlate : p.late = false) (hpass : r.pass ≠ 2) :
    ∃ t x, exec .btnAccept s = .next t ∧ t.ceremony.contact = some x ∧ x.step = 6 ∧ x.counter = p.counter + 1 ∧ t.ceremony.queue = s.ceremony.queue := by
  have hcer : (raise panelPage 0x061E 1 s).ceremony = s.ceremony := raise_leaves (π := .ceremony) rfl rfl
  have hexec : exec .btnAccept s = .next (askCard false (raise panelPage 0x061E 1 s)) := by
    change execBtnAccept s = _
    simp only [execBtnAccept, button_asks 1 hp hr h5]
  rw [hexec]
  generalize raise panelPage 0x061E 1 s = u at hcer ⊢
  have hp' : presentationAt u false = some p := by
    change u.ceremony.contact = _
    rw [hcer, hp]
  have hq' : activeRequest u = some r := by rw [activeRequest, hcer, hq]
  simp only [askCard, hp', hq', hlate, hpass, Bool.false_eq_true, if_false, false_and]
  refine ⟨_, _, rfl, rfl, rfl, rfl, ?_⟩
  change u.ceremony.queue = _
  rw [hcer]

theorem btnReject_ends (hp : s.ceremony.contact = some p) (hr : s.ceremony.reader = none) (h5 : p.step = 5) :
    ∃ t, exec .btnReject s = .next t ∧ t.ceremony.contact = none ∧ t.ceremony.queue = s.ceremony.queue := by
  have hcer : (raise panelPage 0x061E 2 s).ceremony = s.ceremony := raise_leaves (π := .ceremony) rfl rfl
  have hexec : exec .btnReject s = .next (endPresentation false 5 (raise panelPage 0x061E 2 s)) := by
    change execBtnReject s = _
    simp only [execBtnReject, button_asks 2 hp hr h5]
  obtain ⟨hnone, hqueue⟩ := endPresentation_ends (reader := false) (outcome := 5) (s := raise panelPage 0x061E 2 s) (by decide)
  exact answered hexec ⟨hnone, hqueue.trans (congrArg Ceremony.queue hcer)⟩

theorem buttonTimeout_ends (hp : presentationAt s reader = some p) (h5 : p.step = 5) (hle : p.asked + 1500000 ≤ now s) :
    ∃ t, exec (.presentationButtonTimeout reader) s = .next t ∧ presentationAt t reader = none ∧ t.ceremony.queue = s.ceremony.queue := by
  refine answered (t := endPresentation reader 6 s) ?_ (endPresentation_ends (by decide))
  change execPresentationButtonTimeout reader s = _
  simp only [execPresentationButtonTimeout, hp]
  rw [if_pos ⟨h5, hle⟩]

theorem abandon_ends (hp : presentationAt s reader = some p) (hle : p.begun + 3000000 ≤ now s) :
    ∃ t, exec (.presentationAbandon reader) s = .next t ∧ presentationAt t reader = none ∧ t.ceremony.queue = s.ceremony.queue := by
  refine answered (t := endPresentation reader 7 s) ?_ (endPresentation_ends (by decide))
  change execPresentationAbandon reader s = _
  simp only [execPresentationAbandon, hp]
  exact congrArg Host.Outcome.next (if_pos hle)

theorem selected_asksIdentity (hp : presentationAt s reader = some p) (h2 : p.step = 2) :
    exec (.cardResponse reader (.apdu [] 0x9000)) s = .next (emit (.card reader [0x80, 0xCA, 0, 0]) (setPresentation reader (some { p with step := 3 }) s)) := by
  change Host.Outcome.next (cardAnswers reader [] 0x9000 s) = _
  simp only [cardAnswers, hp, h2]
  rfl

theorem refusal_ends {data : Bytes} {sw : Nat} (hp : presentationAt s reader = some p) (h2 : 2 ≤ p.step) (h5 : p.step ≠ 5) (hsw : sw ≠ 0x9000) :
    ∃ t, exec (.cardResponse reader (.apdu data sw)) s = .next t ∧ presentationAt t reader = none ∧ t.ceremony.queue = s.ceremony.queue := by
  refine answered (t := endPresentation reader 8 s) ?_ (endPresentation_ends (by decide))
  change Host.Outcome.next (cardAnswers reader data sw s) = _
  simp only [cardAnswers, hp]
  rw [if_neg (by omega), if_pos hsw]

/-- Becoming active changes no request's number (R650). -/
theorem activate_numbers (s : State) : (activate s).ceremony.queue.map (·.number) = s.ceremony.queue.map (·.number) := by
  unfold activate
  split
  · rfl
  · next r rest hq =>
    split
    · rfl
    · rw [hq]
      rfl

theorem activate_window (s : State) : ∀ x, (activate s).ceremony.queue.head? = some x → x.windowEnd.isSome = true := by
  unfold activate
  split
  · next hq =>
    rw [hq]
    exact fun x h => nomatch h
  · next r rest hq =>
    split
    · next hw =>
      rw [hq]
      rintro x ⟨⟩
      exact hw
    · rintro x ⟨⟩
      rfl

theorem dropActive_numbers {rest : List Request} (hq : s.ceremony.queue = r :: rest) : (dropActive s).ceremony.queue.map (·.number) = rest.map (·.number) := by
  unfold dropActive
  rw [activate_numbers]
  change (s.ceremony.queue.drop 1).map _ = _
  rw [hq]
  rfl

theorem requestRecord_ceremony {code result v : Nat} {custodian : Bytes} : (requestRecord code result custodian r v s).ceremony = s.ceremony :=
  requestRecord_leaves (π := .ceremony) rfl rfl

theorem cancelActive_drops {rest : List Request} (hq : s.ceremony.queue = r :: rest) :
    (cancelActive s).ceremony.queue.map (·.number) = rest.map (·.number) ∧ ∀ x, (cancelActive s).ceremony.queue.head? = some x → x.windowEnd.isSome = true := by
  have hc : cancelActive s = dropActive (requestRecord 0x0105 0x0A01 [] r r.counted.length s) := by
    simp only [cancelActive, activeRequest, hq, List.head?_cons]
  rw [hc]
  exact ⟨dropActive_numbers (by rw [requestRecord_ceremony, hq]), activate_window _⟩

theorem markLate_late {number a c : Nat} {d : Bytes} {b : Bool} (hp : presentationAt (markLate number s) b = some p) (hr : p.request = some (number, a, c, d)) :
    p.late = true := by
  have hmark : ∀ q : Option Presentation, q.map (fun x => match x.request with | some (n, _) => if n = number then { x with late := true } else x | none => x) = some p →
      p.late = true := by
    intro q hq
    obtain ⟨x, -, rfl⟩ := Option.map_eq_some_iff.mp hq
    revert hr
    split
    · split
      · exact fun _ => rfl
      · next n e hx hn =>
        intro hr
        rw [hx] at hr
        exact absurd (congrArg Prod.fst (Option.some.inj hr)) hn
    · next hx =>
      intro hr
      rw [hx] at hr
      cases hr
  cases b
  · exact hmark _ hp
  · exact hmark _ hp

theorem windowEnd_expires {rest : List Request} {e : Nat} (hq : s.ceremony.queue = r :: rest) (hw : r.windowEnd = some e) (hle : e ≤ now s) :
    ∃ t, exec .ceremonyWindowEnd s = .next t ∧ t.ceremony.queue.map (·.number) = rest.map (·.number) ∧
      (∀ (b : Bool) (p : Presentation) (a c : Nat) (d : Bytes), presentationAt t b = some p → p.request = some (r.number, a, c, d) → p.late = true) := by
  have hx : expireActive s = raise keyPage 0x0525 r.action (dropActive (requestRecord 0x0104 0x0001 [] r r.counted.length s)) := by
    simp only [expireActive, activeRequest, hq, List.head?_cons]
  refine answered (t := markLate r.number (expireActive s)) ?_ ⟨?_, fun b p a c d => markLate_late⟩
  · change execCeremonyWindowEnd s = _
    simp only [execCeremonyWindowEnd, activeRequest, hq, List.head?_cons, hw]
    exact congrArg Host.Outcome.next (if_pos hle)
  · change (expireActive s).ceremony.queue.map _ = _
    rw [hx, raise_leaves (π := .ceremony) (s := dropActive _) rfl rfl]
    exact dropActive_numbers (by rw [requestRecord_ceremony, hq])

theorem cancel_recorded (m : Master) (hw : WriteOpen (panelTile * 0x1000 + 0x110) m s) :
    exec (.ceremonyCancel m) s = .next (recordedAs (panelTile * 0x1000 + 0x110) m (fun _ => 0) (if (activeRequest s).isSome then 1 else 0) cancelActive s) := by
  refine congrArg Host.Outcome.next ((audited_of_open hw).trans ?_)
  rw [Nat.zero_add]
  rfl

end

/-- Settles O28: what each button, time limit and answer makes of a presentation, and what ends a window. -/
theorem ceremoniesProceed : Obligations.CeremoniesProceed := by
  unfold Obligations.CeremoniesProceed
  exact fun s => ⟨fun p r hp hr h5 hq => ⟨btnAccept_asks hp hr h5 hq, btnReject_ends hp hr h5⟩,
    fun reader p hp => ⟨buttonTimeout_ends hp, abandon_ends hp, selected_asksIdentity hp, fun data sw => refusal_ends hp⟩,
    fun r rest e hq => ⟨windowEnd_expires hq, cancelActive_drops hq⟩, cancel_recorded⟩

end Sys2Proof.Machine

end

section
/-!
SUPPORT. The contactless reader. O29.
-/
namespace Sys2Proof.Machine
open Sys2Proof Sys2Proof.Statements

/-! ### The contactless reader -/

section
variable {s : State}

theorem ping_moved {a : BitVec 8} (ho : s.reader.stage = .off) (hn : s.reader.antenna = 0) (hd : pingDue s = true)
    (hm : s.reader.threshold.toNat ≤ (if s.reader.baseline.toNat ≤ a.toNat then a.toNat - s.reader.baseline.toNat else s.reader.baseline.toNat - a.toNat))
    (hs : s.audit.stalled = false) (hA : s.reader.typeA = true) :
    ∃ t, exec (.rdrPing a 0) s = .next t ∧ t.reader.stage = .reqa ∧ t.reader.last = a ∧ t.out = .card true [0x26] :: s.out := by
  refine answered (congrArg Host.Outcome.next ((if_neg (by simp [ho, hd])).trans ((if_neg (by decide)).trans ((if_neg (not_not_intro hn)).trans ((if_pos hm).trans
    (if_neg (by simp [hs]))))))) ?_
  generalize hu : raise readerPage 0x0614 0 (modReader (fun r => { r with last := a, pingAt := some (now s) }) s) = u
  have hr : u.reader = { s.reader with last := a, pingAt := some (now s) } := by
    rw [← hu]
    exact raise_leaves (π := .reader) rfl rfl
  have hout : u.out = s.out := by
    rw [← hu]
    exact raise_leaves (π := .out) rfl rfl
  have hpoll : poll u = pollA u := if_pos (by rw [hr]; exact hA)
  rw [hpoll]
  change RdrStage.reqa = .reqa ∧ u.reader.last = a ∧ _ :: u.out = _
  rw [hr, hout]
  exact ⟨rfl, rfl, rfl⟩

theorem ping_still {a : BitVec 8} (ho : s.reader.stage = .off) (hn : s.reader.antenna = 0) (hd : pingDue s = true)
    (hm : (if s.reader.baseline.toNat ≤ a.toNat then a.toNat - s.reader.baseline.toNat else s.reader.baseline.toNat - a.toNat) < s.reader.threshold.toNat) :
    exec (.rdrPing a 0) s = .next { s with reader := { s.reader with last := a, pingAt := some (now s), baseline := moveBaseline s.reader.baseline a } } :=
  congrArg Host.Outcome.next ((if_neg (by simp [ho, hd])).trans ((if_neg (by decide)).trans ((if_neg (not_not_intro hn)).trans (if_neg (Nat.not_le.mpr hm)))))

theorem antennaFault_off (short : Bool) (ho : s.reader.stage ≠ .off) :
    ∃ t, exec (.rdrAntennaFault short) s = .next t ∧ t.reader.stage = .off ∧ t.reader.antenna = (if short then 2 else 1) ∧ t.ceremony.reader = none := by
  refine answered (congrArg Host.Outcome.next (if_neg ho)) ?_
  unfold antennaFault
  extract_lets s1
  have hr : (endWith true 7 (if s.reader.antenna = 0 then raise readerPage 0x0615 (if short = true then (2 : BitVec 2) else 1).toNat s1 else s1)).reader = s1.reader :=
    Part.Same.trans (π := .reader) (.ite (raise_leaves rfl rfl) rfl) (endWith_same (by decide) rfl)
  rw [hr]
  exact ⟨rfl, rfl, endWith_gone true (by decide) _⟩

/-- A protocol failure turns the field off and ends the presentation (R639). -/
theorem rdrProtocol_off (s : State) : (rdrProtocol s).reader.stage = .off ∧ (rdrProtocol s).reader.card = 0 ∧ (rdrProtocol s).ceremony.reader = none := by
  unfold rdrProtocol
  have hr : (endWith true 7 (fieldOff (raise readerPage 0x0617 0 s))).reader = (fieldOff (raise readerPage 0x0617 0 s)).reader :=
    endWith_same (π := .reader) (by decide) rfl
  rw [hr]
  exact ⟨rfl, rfl, endWith_gone true (by decide) _⟩

theorem uid_selected (h : s.reader.stage = .anticollision) {more : List Bool} (hl : (s.reader.known ++ more).length = 40)
    (hb : bccOf ((packBits (s.reader.known ++ more)).take 4) = (packBits (s.reader.known ++ more)).getD 4 0) :
    ∃ t, exec (.rdrFrameReceived (.uid more false)) s = .next t ∧ t.reader.stage = .select ∧ t.reader.known = s.reader.known ++ more := by
  have hexec : exec (.rdrFrameReceived (.uid more false)) s = .next (takeBits more false s) := by
    change execRdrFrameReceived (.uid more false) s = _
    unfold execRdrFrameReceived
    rw [h]
  have htake : takeBits more false s = rdrSend ([selCode s.reader.level, 0x70] ++ packBits (s.reader.known ++ more))
      (modReader (fun r => { r with known := s.reader.known ++ more, stage := .select }) s) := by
    unfold takeBits
    dsimp only
    rw [if_neg Bool.false_ne_true, if_pos ⟨hl, hb⟩]
  exact answered (hexec.trans (congrArg Host.Outcome.next htake)) ⟨rfl, rfl⟩

theorem ats_presents (h : s.reader.stage = .rats) (hs : s.audit.stalled = false) (rates : Nat) :
    ∃ t, exec (.rdrFrameReceived (.ats rates)) s = .next t ∧ t.reader.stage = .session ∧ t.reader.card = 1 ∧
      t.ceremony.reader = some { step := 2, begun := now s } := by
  refine answered (t := beginPresentation true (raiseRate rates (modReader (fun r => { r with stage := .session, card := 1 }) s))) ?_ ?_
  · change execRdrFrameReceived (.ats rates) s = _
    unfold execRdrFrameReceived
    rw [h]
  · have hrate : ∀ u : State, ∃ o, raiseRate rates u = { u with out := o } := fun u => by
      unfold raiseRate
      dsimp only
      split
      · exact ⟨_, rfl⟩
      · exact ⟨_, rfl⟩
    obtain ⟨o, ho⟩ := hrate (modReader (fun r => { r with stage := .session, card := 1 }) s)
    have hbegin : ∀ u : State, u.audit.stalled = false →
        beginPresentation true u = apdu true 0x00 0xA4 0x04 0x00 [0xF0, 0x4E, 0x43, 0x41, 0x01] (setPresentation true (some { step := 2, begun := now u }) u) :=
      fun u hu => if_neg (by simp [hu])
    rw [hbegin (raiseRate rates _) (by rw [ho]; exact hs), ho]
    exact ⟨rfl, rfl, rfl⟩

theorem atqa_anticollision (h : s.reader.stage = .reqa) : exec (.rdrFrameReceived .atqa) s
    = .next { s with reader := { s.reader with stage := .anticollision, known := [], level := 0 }, out := .card true [0x93, 0x20] :: s.out } := by
  change execRdrFrameReceived .atqa s = _
  unfold execRdrFrameReceived
  rw [h]
  rfl

theorem sak_rats (h : s.reader.stage = .select) {v : Nat} (h2 : bit 2 v = false) (h5 : bit 5 v = true) :
    exec (.rdrFrameReceived (.sak v)) s = .next { s with reader := { s.reader with stage := .rats }, out := .card true [0xE0, 0x80] :: s.out } := by
  change execRdrFrameReceived (.sak v) s = _
  unfold execRdrFrameReceived
  rw [h]
  exact congrArg Host.Outcome.next ((if_neg (by simp [h2])).trans (if_pos h5))

theorem timeout_session (h : s.reader.stage = .session) :
    ∃ t, exec .rdrResponseTimeout s = .next t ∧ t.reader.stage = .off ∧ t.reader.card = 0 ∧ t.ceremony.reader = none := by
  refine answered (t := rdrProtocol s) ?_ (rdrProtocol_off s)
  change execRdrResponseTimeout s = _
  simp only [execRdrResponseTimeout, h]

theorem timeout_reqa (h : s.reader.stage = .reqa) (hB : s.reader.typeB = true) : ∃ t, exec .rdrResponseTimeout s = .next t ∧ t.reader.stage = .reqb := by
  refine answered (t := pollB s) ?_ rfl
  change execRdrResponseTimeout s = _
  simp only [execRdrResponseTimeout, h, hB, if_true]

end

/-- Settles O29: the reader's stages, one command at a time. -/
theorem readerFindsCards : Obligations.ReaderFindsCards := by
  unfold Obligations.ReaderFindsCards
  exact fun s => ⟨fun a ho hn hd => ⟨ping_moved ho hn hd, ping_still ho hn hd⟩, antennaFault_off, atqa_anticollision, fun h more => uid_selected h,
    fun h v => sak_rats h, ats_presents, timeout_session, timeout_reqa⟩

end Sys2Proof.Machine

end

section
/-!
SUPPORT. The backup card. O31.
-/
namespace Sys2Proof.Machine
open Sys2Proof Sys2Proof.Statements

/-! ### The backup card -/

section
variable {s t u : State}

/-- What a card tells of itself at its insertion, and the mode it runs in (R671 to R675). -/
structure SameCard (s t : State) : Prop where
  card : t.sdc.card = s.sdc.card
  label : t.sdc.label = s.sdc.label
  lastBlock : t.sdc.lastBlock = s.sdc.lastBlock
  mode : t.sdc.mode = s.sdc.mode
  tap : t.sdc.tap = s.sdc.tap

theorem SameCard.of_sdc (h : t.sdc = s.sdc) : SameCard s t := ⟨by rw [h], by rw [h], by rw [h], by rw [h], by rw [h]⟩

theorem SameCard.trans (h : SameCard s t) (g : SameCard t u) : SameCard s u :=
  ⟨g.card.trans h.card, g.label.trans h.label, g.lastBlock.trans h.lastBlock, g.mode.trans h.mode, g.tap.trans h.tap⟩

theorem sdSend_sameCard (command arg : Nat) (data : Bytes) (s : State) : SameCard s (sdSend command arg data s) := ⟨rfl, rfl, rfl, rfl, rfl⟩

theorem writeDir_sameCard (n first blocks : Nat) (s : State) : SameCard s (writeDir n first blocks s) := ⟨rfl, rfl, rfl, rfl, rfl⟩

/-- The sets a card holds are adopted with nothing else of the card changed (R676, R678). -/
theorem adoptSets_sameCard (s : State) : SameCard s (adoptSets s) := by
  unfold adoptSets
  extract_lets named s1 s2
  have h1 : s1.sdc = s.sdc := forAll_leaves (π := .sdc) (fun _ _ hu => raise_leaves rfl hu) rfl
  have h2 : SameCard s s2 := (SameCard.of_sdc h1).trans ⟨rfl, rfl, rfl, rfl, rfl⟩
  split
  · split
    · exact h2.trans ⟨rfl, rfl, rfl, rfl, rfl⟩
    · exact h2.trans (writeDir_sameCard ..)
  · exact h2

theorem adoptHeld_sameCard (d : Option SdDir) (x : List SdSet) (s : State) : SameCard s (adoptSets (modSdc (fun c => { c with dir := d, sets := x }) s)) :=
  SameCard.trans (t := modSdc (fun c => { c with dir := d, sets := x }) s) ⟨rfl, rfl, rfl, rfl, rfl⟩ (adoptSets_sameCard _)

theorem fallBack_sdc (s : State) : (fallBack s).sdc = { s.sdc with mode := 4, reissued := false } := raise_leaves (π := .sdc) rfl rfl

theorem tuningBlocks_sdc (s : State) : (repeatIdx 64 (fun _ t => emit (.sd 19 0 []) t) s).sdc = s.sdc :=
  repeatIdx_leaves (π := .sdc) (fun _ _ hu => hu.out rfl) rfl

/-- Tuning finds the centre of the longest run of taps, where that is of 8 at least (R673). -/
theorem tuneCard_of_run {taps : Nat} (s : State) (h : 8 ≤ (longestRun taps).2) :
    (tuneCard taps s).sdc = { s.sdc with tunedAt := now s, tap := BitVec.ofNat 6 (runCentre (longestRun taps)), mode := 5 } := by
  unfold tuneCard
  extract_lets r s1
  rw [if_neg (Nat.not_lt.mpr h)]
  exact congrArg (fun c : Sdc => { c with tunedAt := now s, tap := BitVec.ofNat 6 (runCentre r), mode := 5 }) (tuningBlocks_sdc s)

theorem tuneCard_of_noRun {taps : Nat} (s : State) (h : (longestRun taps).2 < 8) : (tuneCard taps s).sdc = { s.sdc with mode := 4, reissued := false } := by
  unfold tuneCard
  extract_lets r s1
  rw [if_pos h, fallBack_sdc]
  exact congrArg (fun c : Sdc => { c with mode := 4, reissued := false }) (tuningBlocks_sdc s)

/-- Tuning tells nothing new of the card itself. -/
theorem tuneCard_keepsCard (taps : Nat) (s : State) :
    (tuneCard taps s).sdc.card = s.sdc.card ∧ (tuneCard taps s).sdc.label = s.sdc.label ∧ (tuneCard taps s).sdc.lastBlock = s.sdc.lastBlock := by
  rcases Nat.lt_or_ge (longestRun taps).2 8 with h | h
  · rw [tuneCard_of_noRun s h]
    exact ⟨rfl, rfl, rfl⟩
  · rw [tuneCard_of_run s h]
    exact ⟨rfl, rfl, rfl⟩

/-- The state in which a card inserted is known, before its mode is set (R671). -/
def cardKnown (card : SdCard) (s : State) : State :=
  let s1 := modSdc (fun c => { c with card := cardCode s card, permWp := card.permWp, tmpWp := card.tmpWp, wpSwitch := card.wpSwitch, offers := BitVec.ofNat 3 (min card.offers 5),
                                      lastBlock := card.lastBlock, label := card.label, reissued := false }) s
  raise sdcPage 0x0618 s1.sdc.latest s1

/-- The state with the card's mode set (R673, R674). -/
def cardModed (card : SdCard) (s : State) : State :=
  if min (min card.offers 5) s.sdc.modeMax.toNat = 5 then tuneCard card.taps (cardKnown card s)
  else modSdc (fun c => { c with mode := BitVec.ofNat 3 (min (min card.offers 5) s.sdc.modeMax.toNat) }) (cardKnown card s)

theorem cardKnown_sdc (card : SdCard) (s : State) : (cardKnown card s).sdc.card = cardCode s card ∧ (cardKnown card s).sdc.label = card.label ∧
    (cardKnown card s).sdc.lastBlock = card.lastBlock := by
  have h : (cardKnown card s).sdc = _ := raise_leaves (π := .sdc) rfl rfl
  rw [h]
  exact ⟨rfl, rfl, rfl⟩

theorem cardModed_card (card : SdCard) (s : State) : (cardModed card s).sdc.card = cardCode s card ∧ (cardModed card s).sdc.label = card.label ∧
    (cardModed card s).sdc.lastBlock = card.lastBlock := by
  have hk := cardKnown_sdc card s
  unfold cardModed
  generalize cardKnown card s = u at hk ⊢
  split
  · obtain ⟨hc, hl, hb⟩ := tuneCard_keepsCard card.taps u
    rw [hc, hl, hb]
    exact hk
  · exact hk

/-- A card inserted is read, moded, and where it is one of the module's own its sets are adopted (R671 to R678). -/
theorem sdcInserted_state (card : SdCard) (hno : s.sdc.card = 0) : ∃ t, exec (.sdcInserted card) s = .next t ∧
    ((cardCode s card = 4 ∧ t = cardKnown card s) ∨ (cardCode s card ≠ 4 ∧ SameCard (cardModed card s) t)) := by
  have hexec : exec (.sdcInserted card) s = .next (if cardCode s card = 4 then cardKnown card s else
      if cardCode s card = 1 then adoptSets (modSdc (fun c => { c with dir := card.dirs.foldl (fun (a : Option SdDir) d => match a with | some x => if x.seq < d.seq then some d else a | none => some d) none, sets := card.sets }) (cardModed card s))
      else cardModed card s) := congrArg Host.Outcome.next (if_neg (not_not_intro hno))
  refine answered hexec ?_
  split
  · next h => exact .inl ⟨h, rfl⟩
  · next h =>
    refine .inr ⟨h, ?_⟩
    split
    · exact adoptHeld_sameCard _ _ _
    · exact .of_sdc rfl

theorem sdcInserted_read (card : SdCard) (hno : s.sdc.card = 0) :
    ∃ t, exec (.sdcInserted card) s = .next t ∧ t.sdc.card = cardCode s card ∧ t.sdc.label = card.label ∧ t.sdc.lastBlock = card.lastBlock := by
  obtain ⟨t, ht, ⟨-, hk⟩ | ⟨-, h⟩⟩ := sdcInserted_state card hno
  · refine ⟨t, ht, ?_⟩
    rw [hk]
    exact cardKnown_sdc card s
  · obtain ⟨hc, hl, hb⟩ := cardModed_card card s
    exact ⟨t, ht, h.card.trans hc, h.label.trans hl, h.lastBlock.trans hb⟩

theorem cardCode_of_supported {card : SdCard} (h : card.supported = true) : cardCode s card ≠ 4 := by
  unfold cardCode
  dsimp only
  rw [if_neg (by simp [h])]
  split
  · decide
  · split <;> decide

theorem sdcInserted_slow (card : SdCard) (hno : s.sdc.card = 0) (hs : card.supported = true) (hm : min (min card.offers 5) s.sdc.modeMax.toNat < 5) :
    ∃ t, exec (.sdcInserted card) s = .next t ∧ t.sdc.mode.toNat = min (min card.offers 5) s.sdc.modeMax.toNat := by
  obtain ⟨t, ht, ⟨h4, -⟩ | ⟨-, h⟩⟩ := sdcInserted_state card hno
  · exact absurd h4 (cardCode_of_supported hs)
  · refine ⟨t, ht, ?_⟩
    rw [h.mode, show cardModed card s = _ from if_neg (Nat.ne_of_lt hm)]
    change (BitVec.ofNat 3 (min (min card.offers 5) s.sdc.modeMax.toNat)).toNat = _
    rw [BitVec.toNat_ofNat]
    omega

theorem sdcInserted_tuned (card : SdCard) (hno : s.sdc.card = 0) (hs : card.supported = true) (ho : 5 ≤ card.offers) (hm : 5 ≤ s.sdc.modeMax.toNat)
    (hr : 8 ≤ (longestRun card.taps).2) :
    ∃ t, exec (.sdcInserted card) s = .next t ∧ t.sdc.mode = 5 ∧ t.sdc.tap = BitVec.ofNat 6 (runCentre (longestRun card.taps)) := by
  obtain ⟨t, ht, ⟨h4, -⟩ | ⟨-, h⟩⟩ := sdcInserted_state card hno
  · exact absurd h4 (cardCode_of_supported hs)
  · refine ⟨t, ht, ?_⟩
    rw [h.mode, h.tap, show cardModed card s = _ from if_pos (by omega), tuneCard_of_run _ hr]
    exact ⟨rfl, rfl⟩

theorem sdcRemoved_off (hc : s.sdc.card ≠ 0) : ∃ t, exec .sdcRemoved s = .next t ∧ t.sdc.card = 0 ∧ t.sdc.mode = 7 ∧ t.sdc.backup = none ∧ t.sdc.crc = s.sdc.crc ∧
    (s.sdc.backup.isSome = true → t.sdc.lastResult = 3) := by
  refine answered (congrArg Host.Outcome.next (if_neg hc)) ?_
  dsimp only
  generalize hu : (if s.sdc.backup.isSome = true then endBackup 3 s else s) = u
  have hcrc : u.sdc.crc = s.sdc.crc ∧ (s.sdc.backup.isSome = true → u.sdc.lastResult = 3) := by
    have hend : (endBackup 3 s).sdc = { s.sdc with backup := none, lastResult := 3 } := endActivity_leaves (π := .sdc) rfl rfl
    rw [← hu]
    split
    · rw [hend]
      exact ⟨rfl, fun _ => rfl⟩
    · next h => exact ⟨rfl, fun hb => absurd hb h⟩
  generalize hv : raise sdcPage 0x0619 s.sdc.latest _ = v
  have hsdc : v.sdc = { modeMax := u.sdc.modeMax, lastResult := u.sdc.lastResult, crc := u.sdc.crc, retunes := u.sdc.retunes } := by
    rw [← hv]
    exact raise_leaves (π := .sdc) rfl (forAll_leaves (π := .sdc) (fun _ _ hu => hu.out rfl) rfl)
  rw [hsdc]
  exact ⟨rfl, rfl, rfl, hcrc.1, hcrc.2⟩

theorem retune_tunes {taps : Nat} (hm : s.sdc.mode = 5) (hb : s.sdc.backup = none) (hd : s.sdc.tunedAt + 50000 ≤ now s) :
    ∃ t, exec (.sdcRetuneTimer taps) s = .next t ∧ t.sdc.retunes = satInc s.sdc.retunes ∧
      (8 ≤ (longestRun taps).2 → t.sdc.mode = 5 ∧ t.sdc.tap = BitVec.ofNat 6 (runCentre (longestRun taps))) ∧ ((longestRun taps).2 < 8 → t.sdc.mode = 4) := by
  refine answered (congrArg Host.Outcome.next (if_pos ⟨hm, by simp [cardBusy, hb], hd⟩)) ?_
  rcases Nat.lt_or_ge (longestRun taps).2 8 with h | h
  · rw [tuneCard_of_noRun _ h]
    exact ⟨rfl, fun h' => absurd h (Nat.not_lt.mpr h'), fun _ => rfl⟩
  · rw [tuneCard_of_run _ h]
    exact ⟨rfl, fun _ => ⟨rfl, rfl⟩, fun h' => absurd h' (Nat.not_lt.mpr h)⟩

theorem crcError_retunes {taps : Nat} (hm : s.sdc.mode = 5) (hr : s.sdc.reissued = false) (h : 8 ≤ (longestRun taps).2) :
    ∃ t, exec (.sdcCommandDone false taps) s = .next t ∧ t.sdc.mode = 5 ∧ t.sdc.reissued = true ∧ t.sdc.crc = satInc s.sdc.crc ∧
      t.sdc.retunes = satInc s.sdc.retunes := by
  refine answered (congrArg Host.Outcome.next ((if_neg (by rw [hm]; decide)).trans ((if_neg Bool.false_ne_true).trans ((if_neg (not_not_intro hm)).trans
    (if_neg (by simp [hr])))))) ?_
  have hagain : ∀ u : State, (sdAgain u).sdc = u.sdc := fun u => sdAgain_leaves (π := .sdc) rfl rfl
  have htune := tuneCard_of_run (modSdc (fun c => { c with retunes := satInc c.retunes }) (modSdc (fun c => { c with crc := satInc c.crc }) s)) h
  rw [hagain]
  generalize tuneCard taps _ = u at htune ⊢
  change u.sdc.mode = 5 ∧ decide (u.sdc.mode = 5) = true ∧ u.sdc.crc = _ ∧ u.sdc.retunes = _
  rw [htune]
  exact ⟨rfl, rfl, rfl, rfl⟩

theorem crcError_fallsBack {taps : Nat} (hm : s.sdc.mode = 5) (hr : s.sdc.reissued = true) :
    ∃ t, exec (.sdcCommandDone false taps) s = .next t ∧ t.sdc.mode = 4 ∧ t.sdc.crc = satInc s.sdc.crc := by
  refine answered (congrArg Host.Outcome.next ((if_neg (by rw [hm]; decide)).trans ((if_neg Bool.false_ne_true).trans ((if_neg (not_not_intro hm)).trans (if_pos hr))))) ?_
  rw [fallBack_sdc]
  exact ⟨rfl, rfl⟩

theorem busyEnd_error {b : Backup} (hb : s.sdc.backup = some b) (hbusy : b.busy = true) :
    ∃ t, exec (.sdcBusyEnd true) s = .next t ∧ t.sdc.backup = none ∧ t.sdc.lastResult = 8 := by
  have hend : (endBackup 8 s).sdc = { s.sdc with backup := none, lastResult := 8 } := endActivity_leaves (π := .sdc) rfl rfl
  refine answered (t := endBackup 8 s) ?_ ?_
  · change execSdcBusyEnd true s = _
    simp only [execSdcBusyEnd, hb, hbusy, not_true_eq_false, if_false, if_true]
  · rw [hend]
    exact ⟨rfl, rfl⟩

theorem busyEnd_chunk {b : Backup} (hb : s.sdc.backup = some b) (hbusy : b.busy = true) (hrun : maintRuns s 2 = true)
    (hstop : s.sched.stopPending.getLsbD 2 = false) (hmore : b.chunk + 1 < chunkCount b.data) :
    ∃ t, exec (.sdcBusyEnd false) s = .next t ∧ t.sdc.backup = some { b with busy := false, chunk := b.chunk + 1 } := by
  change ∃ t, execSdcBusyEnd false s = .next t ∧ _
  simp only [execSdcBusyEnd, hb, hbusy, not_true_eq_false, Bool.false_eq_true, if_false]
  generalize hu : sdSend 24 _ _ _ = u
  have hsched : u.sched = s.sched := by
    rw [← hu]
    rfl
  have hbackup : u.sdc.backup = some { b with busy := false, chunk := b.chunk + 1 } := by
    rw [← hu]
    rfl
  have hsafe : safePoint 2 u = u := if_neg (by rw [hsched, hstop]; decide)
  have hruns : maintRuns u 2 = true := by
    rw [maintRuns, maintAt, hsched]
    exact hrun
  rw [hsafe, hruns, if_neg (not_not_intro rfl), if_pos hmore]
  exact ⟨u, rfl, hbackup⟩

end

/-- Settles O31: what the slot holds of its card after each command. -/
theorem backupCardIsServed : Obligations.BackupCardIsServed := by
  unfold Obligations.BackupCardIsServed
  exact fun s => ⟨fun hno card => ⟨sdcInserted_read card hno, sdcInserted_slow card hno, sdcInserted_tuned card hno⟩, sdcRemoved_off,
    fun taps hm hb => ⟨retune_tunes hm hb, crcError_retunes hm, crcError_fallsBack hm⟩, fun b hb hbusy => ⟨busyEnd_error hb hbusy, busyEnd_chunk hb hbusy⟩⟩

end Sys2Proof.Machine

end

section
/-!
SUPPORT. A fold port. O32.
-/
namespace Sys2Proof.Machine
open Sys2Proof Sys2Proof.Statements

/-! ### A fold port -/

section
variable {s t : State} {p q : Nat}

theorem portAt_of_fold (h : t.fold = s.fold) (q : Nat) : portAt t q = portAt s q := by rw [portAt, portAt, h]

theorem portAt_modPort_same (p : Nat) (f : FoldPort → FoldPort) (s : State) : portAt (modPort p f s) p = f (portAt s p) :=
  (portAt_modPort ..).trans (if_pos rfl)

theorem portAt_modPort_other (f : FoldPort → FoldPort) (s : State) (h : q ≠ p) : portAt (modPort p f s) q = portAt s q :=
  (portAt_modPort ..).trans (if_neg h)

/-- A frame sent counts in its sequence number alone (R690). -/
theorem portAt_sendFold_same (p type dst : Nat) (body : Bytes) (s : State) : ∃ sent, portAt (sendFold p type dst body s) p = { portAt s p with sent := sent } :=
  ⟨_, portAt_modPort_same p _ s⟩

theorem portAt_sendFold_other (type dst : Nat) (body : Bytes) (s : State) (h : q ≠ p) : portAt (sendFold p type dst body s) q = portAt s q :=
  portAt_modPort_other _ s h

theorem setPort_trains (hd : (portAt s p).state = .down) (ha : foldAllowed s = true) : (portAt (setPort p true s) p).state = .training := by
  have hset : setPort p true s = modPort p (enterPort (modPort p (fun x => { x with enable := true }) s) .training) (modPort p (fun x => { x with enable := true }) s) := by
    refine (if_pos rfl).trans (if_pos ⟨?_, ?_, ha⟩) <;> rw [portAt_modPort_same]
    exact hd
  rw [hset, portAt_modPort_same]
  rfl

/-- A port that goes down forgets its session and keeps its setting (R696). -/
theorem portAt_portDown (p : Nat) (s : State) :
    portAt (portDown p s) p = { enable := (portAt s p).enable, fec := (portAt s p).fec, discards := (portAt s p).discards } := by
  have hfold : (portDown p s).fold = (modPort p (fun x => { enable := x.enable, fec := x.fec, discards := x.discards }) s).fold := by
    unfold portDown
    extract_lets x s1
    exact Part.Same.ite (π := .fold) (raise_leaves rfl rfl) rfl
  rw [portAt_of_fold hfold, portAt_modPort_same]

theorem setPort_closes (hu : (portAt s p).state = .up) : (portAt (setPort p false s) p).state = .down ∧ (portAt (setPort p false s) p).enable = false := by
  have hset : setPort p false s = portDown p (sendFold p fClose 0xFF [] (modPort p (fun x => { x with enable := false }) s)) :=
    (if_neg Bool.false_ne_true).trans ((if_neg (by rw [hu]; decide)).trans (if_neg (by rw [hu]; decide)))
  obtain ⟨sent, hsent⟩ := portAt_sendFold_same p fClose 0xFF [] (modPort p (fun x => { x with enable := false }) s)
  rw [hset, portAt_portDown, hsent, portAt_modPort_same]
  exact ⟨rfl, rfl⟩

/-- What a HELLO draws and signs leaves the fold as it is. -/
theorem hello_fold (point kem : Bytes) (s : State) : (helloBody point kem (ephemeral s).2).2.fold = s.fold :=
  helloBody_leaves (π := .fold) rfl (ephemeral_leaves rfl rfl)

theorem blockLock_handshakes (hp : p ≤ 1) (ht : (portAt s p).state = .training) :
    ∃ t, exec (.foldBlockLock p) s = .next t ∧ (portAt t p).state = .handshake ∧ ∀ q, q ≠ p → portAt t q = portAt s q := by
  refine answered (congrArg Host.Outcome.next (if_pos ⟨hp, ht⟩)) ?_
  have h1 : (portAt (modPort p (enterPort s .handshake) s) p).state = .handshake ∧ ∀ q, q ≠ p → portAt (modPort p (enterPort s .handshake) s) q = portAt s q := by
    rw [portAt_modPort_same]
    exact ⟨rfl, fun q hq => portAt_modPort_other _ s hq⟩
  dsimp only
  generalize modPort p (enterPort s .handshake) s = u at h1 ⊢
  split
  · obtain ⟨hst, hrest⟩ := h1
    have hf := hello_fold ((ephemeral u).1.take 48) (std "ML-KEM encapsulation key" 1184 [leBytes 2 0x0142, (ephemeral u).1.drop 48]) u
    generalize helloBody _ _ _ = h at hf ⊢
    have hsent := portAt_sendFold_same p fHello 0xFF h.1 (modPort p (fun x => { x with keys := (ephemeral u).1, hello := h.1 }) h.2)
    refine ⟨?_, fun q hq => ?_⟩
    · obtain ⟨sent, hsent⟩ := hsent
      rw [hsent, portAt_modPort_same, portAt_of_fold hf]
      exact hst
    · rw [portAt_sendFold_other _ _ _ _ hq, portAt_modPort_other _ _ hq, portAt_of_fold hf]
      exact hrest q hq
  · exact h1

theorem refusePeer_refuses (p peer : Nat) (s : State) : (portAt (refusePeer p peer s) p).state = .refused ∧ (portAt (refusePeer p peer s) p).keys = [] := by
  have hfold : (refusePeer p peer s).fold = (modPort p (fun x => { enable := x.enable, state := .refused, since := now s, fec := x.fec, discards := x.discards }) s).fold :=
    raise_leaves (π := .fold) rfl rfl
  rw [portAt_of_fold hfold, portAt_modPort_same]
  exact ⟨rfl, rfl⟩

theorem hello_awaited (hp : p ≤ 1) (hh : (portAt s p).state = .handshake) (hn : (portAt s p).peerHello = []) :
    ¬ (1 < p ∨ (portAt s p).state ≠ .handshake ∨ (portAt s p).peerHello ≠ []) := by
  rintro (h | h | h)
  · omega
  · exact h hh
  · exact h hn

theorem hello_refused {body : Bytes} (hp : p ≤ 1) (hh : (portAt s p).state = .handshake) (hn : (portAt s p).peerHello = [])
    (hi : isInitiatorHello body = true) (hlt : helloSerial body < deviceSerial s) (hm : helloMember s body = none) :
    ∃ t, exec (.foldHello p body) s = .next t ∧ (portAt t p).state = .refused := by
  refine answered (t := refusePeer p 0xFF s) ?_ (refusePeer_refuses ..).1
  refine congrArg Host.Outcome.next ((if_neg (hello_awaited hp hh hn)).trans ((if_pos ⟨hi, hlt⟩).trans ?_))
  rw [hm]

theorem hello_taken {body : Bytes} {i : Nat} (hp : p ≤ 1) (hh : (portAt s p).state = .handshake) (hn : (portAt s p).peerHello = [])
    (hi : isInitiatorHello body = true) (hlt : helloSerial body < deviceSerial s) (hm : helloMember s body = some i) :
    ∃ t, exec (.foldHello p body) s = .next t ∧ (portAt t p).state = .handshake ∧ (portAt t p).peerHello = body := by
  change ∃ t, execFoldHello p body s = .next t ∧ _
  unfold execFoldHello
  dsimp only
  rw [if_neg (hello_awaited hp hh hn), if_pos ⟨hi, hlt⟩, hm]
  dsimp only
  generalize std "ML-KEM ciphertext" 1088 _ = kem
  have hf := hello_fold ((ephemeral s).1.take 48) kem s
  generalize helloBody _ _ _ = h at hf ⊢
  generalize sessionKeys _ _ _ _ = keys
  obtain ⟨sent, h1⟩ := portAt_sendFold_same p fHello 0xFF h.1 (modPort p (fun x => { x with hello := h.1, peerHello := body, keys := keys, heard := now s }) h.2)
  generalize hu : sendFold p fHello 0xFF h.1 _ = u at h1 ⊢
  obtain ⟨sent', h2⟩ := portAt_sendFold_same p fFinish 0xFF (finishTag (portAt u p).keys (if isInitiator (portAt u p) then 0x49 else 0x52) (transcript (portAt u p))) u
  refine ⟨_, rfl, ?_⟩
  change (portAt (sendFold p fFinish 0xFF _ u) p).state = _ ∧ (portAt (sendFold p fFinish 0xFF _ u) p).peerHello = _
  rw [h2, h1, portAt_modPort_same, portAt_of_fold hf]
  exact ⟨hh, rfl⟩

theorem portUp_up (p i : Nat) (s : State) : (portAt (portUp p i s) p).state = .up ∧ (portAt (portUp p i s) p).peer = BitVec.ofNat 8 i ∧
    (portUp p i s).fold.members = s.fold.members := by
  unfold portUp
  extract_lets s1 s2 s3
  have hfold : s3.fold = s2.fold := raise_leaves (π := .fold) rfl rfl
  obtain ⟨sent, hsent⟩ := portAt_sendFold_same p 0x18 0xFF (leBytes 1 (routeMask s1 p)) s1
  have hport : portAt s3 p = { portAt s1 p with sent := sent } := (portAt_of_fold hfold p).trans hsent
  have hs1 : portAt s1 p = { enterPort s .up (portAt s p) with peer := BitVec.ofNat 8 i, samples := [] } := portAt_modPort_same ..
  change (portAt s3 p).state = _ ∧ (portAt s3 p).peer = _ ∧ s3.fold.members = _
  rw [hport, hs1, hfold]
  exact ⟨rfl, rfl, rfl⟩

theorem exec_foldFinish {tag : Bytes} {i : Nat} (hp : p ≤ 1) (hh : (portAt s p).state = .handshake) (hn : (portAt s p).peerHello ≠ [])
    (hm : helloMember s (portAt s p).peerHello = some i) :
    exec (.foldFinish p tag) s = .next (if tag = finishTag (portAt s p).keys (if isInitiator (portAt s p) then 0x52 else 0x49) (transcript (portAt s p))
      then portUp p i s else refusePeer p i s) := by
  refine congrArg Host.Outcome.next ((if_neg ?_).trans ?_)
  · rintro (h | h | h)
    · omega
    · exact h hh
    · exact hn h
  · rw [hm]

theorem loseLink_down (hp : p ≤ 1) (hu : (portAt s p).state = .up) :
    (portAt (loseLink p s) p).state = .down ∧ (portAt (loseLink p s) p).enable = (portAt s p).enable ∧ (portAt (loseLink p s) p).keys = [] := by
  rw [show loseLink p s = portDown p s from if_pos ⟨hp, .inr (.inr hu)⟩, portAt_portDown]
  exact ⟨rfl, rfl, rfl⟩

theorem frame_discarded (hp : p ≤ 1) (macsec : Bool) (codewords : Nat) :
    ∃ t, exec (.foldFrameDiscarded p macsec codewords) s = .next t ∧ (portAt t p).discards = satInc (portAt s p).discards ∧
      (portAt t p).fec = satAdd (portAt s p).fec codewords ∧ (portAt t p).state = (portAt s p).state := by
  refine answered (congrArg Host.Outcome.next (if_neg (Nat.not_lt.mpr hp))) ?_
  rw [portAt_of_fold (Part.Same.ite (π := .fold) (raise_leaves rfl rfl) rfl), portAt_modPort_same, discardFrame, portAt_modPort_same]
  exact ⟨rfl, rfl, rfl⟩

end

/-- Settles O32: what the port holds after each command. -/
theorem foldPortsComeUpAndGoDown : Obligations.FoldPortsComeUpAndGoDown := by
  unfold Obligations.FoldPortsComeUpAndGoDown
  intro s p hp
  refine ⟨fun m hw => ⟨?_, ?_⟩, setPort_trains, setPort_closes, blockLock_handshakes hp, fun hh hn body hi hlt => ⟨hello_refused hp hh hn hi hlt, fun i => hello_taken hp hh hn hi hlt⟩,
    fun hh hn i tag hm => ⟨fun htag => ?_, fun htag => ?_⟩, fun hu => ⟨⟨_, rfl, loseLink_down hp hu⟩, fun hle => ?_, ⟨_, rfl, loseLink_down hp hu⟩⟩,
    fun hh hle => answered (congrArg Host.Outcome.next (if_pos ⟨hp, hh, hle⟩)) (refusePeer_refuses ..),
    fun hr hle => answered (congrArg Host.Outcome.next (if_pos ⟨hp, hr, hle⟩)) ?_, frame_discarded hp⟩
  · exact congrArg Host.Outcome.next ((if_neg (Nat.not_lt.mpr hp)).trans (audited_noSets hw))
  · exact congrArg Host.Outcome.next ((if_neg (Nat.not_lt.mpr hp)).trans (audited_noSets hw))
  · exact answered ((exec_foldFinish hp hh hn hm).trans (congrArg Host.Outcome.next (if_pos htag))) (portUp_up ..)
  · exact answered ((exec_foldFinish hp hh hn hm).trans (congrArg Host.Outcome.next (if_neg htag))) (refusePeer_refuses ..).1
  · exact answered (congrArg Host.Outcome.next (if_pos hle)) (loseLink_down hp hu)
  · rw [portAt_modPort_same]
    exact ⟨rfl, rfl⟩

end Sys2Proof.Machine

end

section
/-!
SUPPORT. Frames of a fold session. O33.
-/
namespace Sys2Proof.Machine
open Sys2Proof Sys2Proof.Statements

/-! ### Frames of a fold session -/

section
variable {s : State} {f : FoldFrame}

/-- A frame for the module or its neighbour over a port that is up is heard and served (R690, R692). -/
theorem receive_of_arrives (ha : Arrives s f) (type : Nat) (serve : State → State) : receive f type s serve = serve (hear f.port s) :=
  (if_neg (Nat.not_lt.mpr ha.port)).trans ((if_neg (not_not_intro ha.up)).trans (if_pos ha.here))

theorem portAt_hear (f : FoldFrame) (s : State) : portAt (hear f.port s) f.port = { portAt s f.port with heard := now s } := portAt_modPort_same ..

theorem echoReply_sampled (ha : Arrives s f) (ns : Nat) :
    ∃ t, exec (.foldEchoReply f ns) s = .next t ∧ (portAt t f.port).samples = (min ns 0xFFFFF :: (portAt (hear f.port s) f.port).samples).take 16 := by
  refine answered (congrArg Host.Outcome.next (receive_of_arrives ha _ _)) ?_
  dsimp only
  rw [portAt_of_fold (Part.Same.ite (π := .fold) (raise_leaves rfl rfl) rfl), portAt_modPort_same]

theorem byteAt_lt (n : Nat) (bs : Bytes) : byteAt n bs < 256 := (bs.getD n 0).isLt

theorem route_taken (ha : Arrives s f) :
    ∃ t, exec (.foldRoute f) s = .next t ∧ (portAt t f.port).reach.toNat = byteAt 0 f.body ∧ (portAt t f.port).state = .up := by
  refine answered (congrArg Host.Outcome.next (receive_of_arrives ha _ _)) ?_
  rw [portAt_modPort_same, portAt_hear]
  refine ⟨?_, ha.up⟩
  change (BitVec.ofNat 8 (byteAt 0 f.body)).toNat = _
  rw [BitVec.toNat_ofNat, Nat.mod_eq_of_lt (byteAt_lt 0 f.body)]

theorem takeMirror_of_new {src : Nat} {r : VaultRec} (h : findPan s r.domain r.pan = none) : takeMirror src r s = takeNew r s := by
  unfold takeMirror
  rw [h]

theorem exec_mirror {seq : Nat} {r : VaultRec} (ha : Arrives s f) (ho : openMirror (hear f.port s) f.body = some (seq, r)) (hr : (hear f.port s).vault.ready = true)
    (hp : findPan (hear f.port s) r.domain r.pan = none) : exec (.foldMirror f) s =
      .next (sendFold f.port 0x21 f.src (leBytes 8 seq ++ leBytes 1 (takeNew r (hear f.port s)).1 ++ fit 10 (takeNew r (hear f.port s)).2.1) (takeNew r (hear f.port s)).2.2) := by
  refine congrArg Host.Outcome.next ((receive_of_arrives ha _ _).trans ?_)
  dsimp only
  rw [ho]
  dsimp only
  rw [if_neg (not_not_intro hr), takeMirror_of_new hp]

theorem mirror_new {seq : Nat} {r : VaultRec} (ha : Arrives s f) (ho : openMirror (hear f.port s) f.body = some (seq, r)) (hr : (hear f.port s).vault.ready = true)
    (hp : findPan (hear f.port s) r.domain r.pan = none) (ht : findToken (hear f.port s) r.domain r.token = none) : exec (.foldMirror f) s
      = .next (sendFold f.port 0x21 f.src (leBytes 8 seq ++ leBytes 1 0 ++ zeros 10) (receiveRecord { r with usage := 0, unmirrored := false } (hear f.port s))) := by
  have hnew : takeNew r (hear f.port s) = (0, zeros 10, receiveRecord { r with usage := 0, unmirrored := false } (hear f.port s)) := by
    unfold takeNew
    rw [ht]
  rw [exec_mirror ha ho hr hp, hnew]
  rfl

theorem mirror_collides {seq k : Nat} {r : VaultRec} (ha : Arrives s f) (ho : openMirror (hear f.port s) f.body = some (seq, r)) (hr : (hear f.port s).vault.ready = true)
    (hp : findPan (hear f.port s) r.domain r.pan = none) (ht : findToken (hear f.port s) r.domain r.token = some k) : exec (.foldMirror f) s
      = .next (sendFold f.port 0x21 f.src (leBytes 8 seq ++ leBytes 1 2 ++ zeros 10) (hear f.port s)) := by
  have hnew : takeNew r (hear f.port s) = (2, zeros 10, hear f.port s) := by
    unfold takeNew
    rw [ht]
  rw [exec_mirror ha ho hr hp, hnew]
  rfl

theorem mirrorAck_marks {k : Nat} (ha : Arrives s f) (hk : seqRecord (hear f.port s) (leAt 0 8 f.body) = some k) (h0 : byteAt 8 f.body = 0)
    (hj : mirrorJob (hear f.port s) (leAt 0 8 f.body) = none) : exec (.foldMirrorAck f) s = .next (safePoint 1 (markMirrored k (hear f.port s))) := by
  refine congrArg Host.Outcome.next ((receive_of_arrives ha _ _).trans ?_)
  dsimp only
  rw [hk, h0, hj]
  rfl

theorem exec_keyRepl {k : KeyBlock} (ha : Arrives s f) (hk : openBlock (replicationKey (hear f.port s)) (deviceSerial (hear f.port s)) f.body = some k) :
    exec (.foldKeyRepl f) s = .next (sendMember 0x31 f.src (leBytes 8 k.handle ++ leBytes 1 (b2n (holdsOther (hear f.port s) k)))
      (if holdsOther (hear f.port s) k then hear f.port s else receiveKey k (hear f.port s))) := by
  refine congrArg Host.Outcome.next ((receive_of_arrives ha _ _).trans ?_)
  dsimp only
  rw [hk]

theorem keyRepl_taken {k : KeyBlock} (ha : Arrives s f) (hk : openBlock (replicationKey (hear f.port s)) (deviceSerial (hear f.port s)) f.body = some k)
    (ho : holdsOther (hear f.port s) k = false) :
    exec (.foldKeyRepl f) s = .next (sendMember 0x31 f.src (leBytes 8 k.handle ++ leBytes 1 0) (receiveKey k (hear f.port s))) := by
  rw [exec_keyRepl ha hk, ho]
  rfl

theorem keyRepl_refused {k : KeyBlock} (ha : Arrives s f) (hk : openBlock (replicationKey (hear f.port s)) (deviceSerial (hear f.port s)) f.body = some k)
    (ho : holdsOther (hear f.port s) k = true) :
    exec (.foldKeyRepl f) s = .next (sendMember 0x31 f.src (leBytes 8 k.handle ++ leBytes 1 1) (hear f.port s)) := by
  rw [exec_keyRepl ha hk, ho]
  rfl

theorem keyAck_acknowledged (ha : Arrives s f) (h1 : byteAt 8 f.body ≠ 1) :
    exec (.foldKeyAck f) s = .next (safePoint 1 (ackChange f.src (handleBlock (leAt 0 8 f.body)) (hear f.port s))) := by
  refine congrArg Host.Outcome.next ((receive_of_arrives ha _ _).trans ?_)
  dsimp only
  rw [if_neg h1]

theorem domainRepl_taken (ha : Arrives s f) (hd : leAt 0 2 f.body < 4096) (ho : domainOk (fit 64 (f.body.drop 2)) = true) : exec (.foldDomainRepl f) s
    = .next (sendMember 0x33 f.src (leBytes 2 (leAt 0 2 f.body) ++ leBytes 1 0) (writeDomain (leAt 0 2 f.body) (fit 64 (f.body.drop 2)) (hear f.port s))) := by
  refine congrArg Host.Outcome.next ((receive_of_arrives ha _ _).trans ?_)
  have hgood : (decide (leAt 0 2 f.body < 4096) && domainOk (fit 64 (f.body.drop 2))) = true := by simp [hd, ho]
  dsimp only
  rw [hgood, if_pos rfl]
  rfl

theorem exec_cosignReq {m : Nat} {e : Member} (ha : Arrives s f)
    (hm : (hear f.port s).fold.members.find? (fun e => decide (e.2.serial = leAt 36 8 f.body)) = some (m, e)) :
    exec (.foldCosignReq f) s = .next (if leAt 8 8 f.body ≤ mget 0 (hear f.port s).fold.cosigned m then hear f.port s else
      let g := signBody (fit 128 f.body) (modFold (fun x => { x with cosigned := mset 0 x.cosigned m (leAt 8 8 f.body) }) (hear f.port s))
      sendMember 0x41 f.src (leBytes 8 (deviceSerial (hear f.port s)) ++ fit 96 g.1.1 ++ fit 3309 g.1.2) g.2) := by
  refine congrArg Host.Outcome.next ((receive_of_arrives ha _ _).trans ?_)
  dsimp only
  rw [hm]

theorem sendMember_cosigned (type m : Nat) (body : Bytes) (s : State) : (sendMember type m body s).fold.cosigned = s.fold.cosigned := by
  unfold sendMember
  split <;> rfl

theorem cosignReq_signed {m : Nat} {e : Member} (ha : Arrives s f)
    (hm : (hear f.port s).fold.members.find? (fun e => decide (e.2.serial = leAt 36 8 f.body)) = some (m, e))
    (hlt : mget 0 (hear f.port s).fold.cosigned m < leAt 8 8 f.body) :
    ∃ t, exec (.foldCosignReq f) s = .next t ∧ mget 0 t.fold.cosigned m = leAt 8 8 f.body := by
  refine answered ((exec_cosignReq ha hm).trans (congrArg Host.Outcome.next (if_neg (Nat.not_le.mpr hlt)))) ?_
  dsimp only
  rw [sendMember_cosigned, signBody_state]
  exact (mget_mset ..).trans (if_pos rfl)

/-- A value changed in its place is found changed, under the same key. -/
theorem mfind_map_same {β : Type} {n : Nat} {c : β} (f : β → β) (m : AMap β) (h : mfind n m = some c) :
    mfind n (m.map (fun e => if e.1 = n then (n, f e.2) else e)) = some (f c) := by
  induction m with
  | nil => cases h
  | cons e m ih =>
    obtain ⟨k, v⟩ := e
    unfold mfind at h
    rw [List.map_cons]
    by_cases hk : k = n
    · rw [if_pos hk] at h
      obtain rfl := Option.some.inj h
      rw [if_pos hk]
      exact if_pos rfl
    · rw [if_neg hk] at h
      rw [if_neg hk]
      exact (if_neg hk).trans (ih h)

/-- A checkpoint with the co-signature that a response carries (R698). -/
def cosignedBy (body : Bytes) (c : Checkpoint) : Checkpoint :=
  { c with cosigned := true, peerSerial := leAt 0 8 body, peerEcdsa := slice 8 96 body, peerMldsa := slice 104 3309 body }

theorem cosignResp_taken {n e : Nat} {rest : List (Nat × Nat)} (ha : Arrives s f) (hw : (hear f.port s).audit.cosignWait = (n, e) :: rest)
    (hsrc : f.src = (hear f.port s).audit.peer.toNat) (hle : now (hear f.port s) ≤ e) :
    ∃ t, exec (.foldCosignResp f) s = .next t ∧ t.audit.cosignWait = rest ∧ t.audit.chain = (hear f.port s).audit.chain ∧
      ∀ c, mfind n (hear f.port s).audit.ckpts = some c → ∃ d, mfind n t.audit.ckpts = some d ∧ d.cosigned = true ∧ d.chain = c.chain ∧ d.number = c.number := by
  have hserve := receive_of_arrives ha 0x41 (fun t =>
    match t.audit.cosignWait with
    | [] => t
    | (n, until_) :: rest =>
      if f.src ≠ t.audit.peer.toNat ∨ until_ < now t then t
      else { t with audit := { t.audit with cosignWait := rest, ckpts := t.audit.ckpts.map (fun e => if e.1 = n then (n, cosignedBy f.body e.2) else e) } })
  have hno : ¬ (f.src ≠ (hear f.port s).audit.peer.toNat ∨ e < now (hear f.port s)) := by
    rintro (h | h)
    · exact h hsrc
    · omega
  generalize hear f.port s = u at *
  refine answered (congrArg Host.Outcome.next hserve) ?_
  dsimp only
  rw [hw]
  dsimp only
  rw [if_neg hno]
  exact ⟨rfl, rfl, fun c hc => ⟨cosignedBy f.body c, mfind_map_same (cosignedBy f.body) _ hc, rfl, rfl, rfl⟩⟩

theorem resyncState_noted (ha : Arrives s f) : ∃ t, exec (.foldResyncState f) s = .next t ∧ mget 0 t.fold.peerCursors f.src = leAt 0 8 f.body :=
  answered (congrArg Host.Outcome.next (receive_of_arrives ha _ _)) ((mget_mset ..).trans (if_pos rfl))

end

/-- Settles O33: a frame that arrives is heard, and served as its type says. -/
theorem foldFramesAreServed : Obligations.FoldFramesAreServed := by
  unfold Obligations.FoldFramesAreServed
  intro s f
  refine ⟨fun ha => ⟨congrArg Host.Outcome.next (receive_of_arrives ha _ _), echoReply_sampled ha, route_taken ha,
      fun seq r ho hr hp => ⟨mirror_new ha ho hr hp, fun k => mirror_collides ha ho hr hp⟩, fun k => mirrorAck_marks ha,
      fun k hk => ⟨keyRepl_taken ha hk, keyRepl_refused ha hk⟩, keyAck_acknowledged ha, domainRepl_taken ha, congrArg Host.Outcome.next (receive_of_arrives ha _ _),
      fun m e hm => ⟨fun hle => (exec_cosignReq ha hm).trans (congrArg Host.Outcome.next (if_pos hle)), cosignReq_signed ha hm⟩,
      fun n e rest => cosignResp_taken ha, resyncState_noted ha⟩,
    fun hport hup => congrArg Host.Outcome.next ((if_neg (Nat.not_lt.mpr hport)).trans (if_pos hup))⟩

end Sys2Proof.Machine

end

section
/-!
SUPPORT. Exceptions of a core. O34.
-/
namespace Sys2Proof.Machine
open Sys2Proof Sys2Proof.Statements

/-! ### Exceptions of a core -/

section
variable {s t u : State} {n v pc info addr detail : Nat}

/-- Core `n` is in the same mode with the same registers. -/
structure SameContext (n : Nat) (s t : State) : Prop where
  mode : (coreAt t n).mode = (coreAt s n).mode
  regs : (coreAt t n).regs = (coreAt s n).regs

theorem SameContext.of_cores (h : t.cores = s.cores) : SameContext n s t := by
  have hc : coreAt t n = coreAt s n := by rw [coreAt, coreAt, h]
  exact ⟨by rw [hc], by rw [hc]⟩

theorem SameContext.trans (h : SameContext n s t) (g : SameContext n t u) : SameContext n s u := ⟨g.mode.trans h.mode, g.regs.trans h.regs⟩

theorem SameContext.modCore {m : Nat} {f : Core → Core} (hm : ∀ c, (f c).mode = c.mode) (hr : ∀ c, (f c).regs = c.regs) (h : SameContext n s t) :
    SameContext n s (modCore m f t) := by
  refine h.trans ⟨?_, ?_⟩ <;> rw [coreAt_modCore] <;> split
  · next he => rw [hm, he]
  · rfl
  · next he => rw [hr, he]
  · rfl

/-- Writing memory changes no core's registers (R521). -/
theorem memWrite_context (m a : Nat) (bs : Bytes) (h : SameContext n s t) : SameContext n s (memWrite m a bs t) := by
  refine forAll_ind (p := SameContext n s) (fun e u hu => ?_) _ _ h
  have hclear : SameContext n s (clearRowAt m (a + e.2) u) := by
    unfold clearRowAt
    split
    · exact hu.trans (.of_cores rfl)
    · exact hu
  unfold memPut
  split
  · exact hclear.modCore (fun _ => rfl) (fun _ => rfl)
  · exact hclear.trans (.of_cores rfl)
  · exact hclear.trans (.of_cores rfl)
  · exact hclear

theorem setTag_context (m a : Nat) (b : Bool) (h : SameContext n s t) : SameContext n s (setTag m a b t) := by
  unfold setTag
  split
  · exact h.modCore (fun _ => rfl) (fun _ => rfl)
  · exact h.trans (.of_cores rfl)
  · exact h

theorem writeFrame_context (m f : Nat) (r : CoreRegs) (pc v info addr detail : Nat) (h : SameContext n s t) : SameContext n s (writeFrame m f r pc v info addr detail t) :=
  forAll_ind (p := SameContext n s) (fun _ _ hu => setTag_context _ _ _ hu) _ _
    (repeatIdx_ind (p := SameContext n s) (fun _ _ hu => setTag_context _ _ _ hu) _ _ (memWrite_context _ _ _ h))

theorem interrupt_taken (hn : n < 16) (hv : (requested s n).foldl (fun b v => match b with | none => some v | some x => some (min x v)) none = some v)
    (hrun : coreRuns s n = true) (hie : (coreAt s n).regs.st.ie = true) (hdelay : (coreAt s n).regs.delay = false) (hshadow : (coreAt s n).regs.shadow = 0)
    (hover : (coreAt s n).overrun = none) (hlate : (coreAt s n).late = []) (htrace : (coreAt s n).regs.st.trace = false) :
    exec (.interruptEntry n) s = .next (if drained (coreAt s n) then takeException n v (coreAt s n).regs.pc.toNat 0 0 0 s else stall n s) := by
  change execInterruptEntry n s = _
  unfold execInterruptEntry
  dsimp only
  split
  · next w hw =>
    obtain rfl : w = v := Option.some.inj (hw.symm.trans hv)
    exact congrArg Host.Outcome.next (if_pos ⟨hn, hrun, hie, by simp [hdelay], hshadow, hover, hlate, by simp [htrace]⟩)
  · next hw => cases hw.symm.trans hv

theorem stall_counts (n : Nat) (s : State) : (coreAt (stall n s) n).stalls = satInc (coreAt s n).stalls ∧ (coreAt (stall n s) n).regs = (coreAt s n).regs := by
  rw [stall, coreAt_modCore, if_pos rfl]
  exact ⟨rfl, rfl⟩

theorem takeException_of_usable {k : Cap} (hk : memCap s n (vectorEntry v + 32) = k) (hu : entryUsable s n v = true)
    (h1 : (coreAt s n).regs.st.mode ≠ 1) (h2 : (coreAt s n).regs.st.mode ≠ 2) (h14 : v ≠ 14) :
    takeException n v pc info addr detail s =
      modRegs n (enterHandler s n v (capBase k + capLen k - 384) (if n = 16 then 3 else 0) (mkCap (capBase k) (capLen k - 384) (capPerms k) 0 false false)
        (.exception v (capBase k + capLen k - 384) k))
      (writeFrame n (capBase k + capLen k - 384) (coreAt s n).regs pc v info addr detail
        (modCore n (fun c => { c with mode := .firmware, sinceTrace := if v = 13 then 0 else c.sinceTrace }) s)) := by
  unfold takeException
  dsimp only
  rw [if_neg h14, decide_eq_false h1, if_neg Bool.false_ne_true, if_neg h2, if_pos hu, hk, if_neg h14]

theorem enterHandler_c7 (s : State) (n v f mode : Nat) (c6 : Cap) (link : CoreLink) (r : CoreRegs) :
    cRead (enterHandler s n v f mode c6 link r) 7 = mkCap f 384 (pLD + pST + pLDC + pSTC) 0 false false := by
  unfold enterHandler cRead
  dsimp only
  rw [mget_mset, if_pos (show (7 : BitVec 3).toNat = 7 from rfl)]

/-- What a core holds once a frame is written and a handler entered (R579, R580). -/
theorem entered_context {f mode : Nat} {c6 : Cap} {link : CoreLink} {r : CoreRegs} (hm : (coreAt u n).mode = .firmware) (hr : (coreAt u n).regs = r) :
    let t := modRegs n (enterHandler s n v f mode c6 link) (writeFrame n f r pc v info addr detail u)
    (coreAt t n).mode = .firmware ∧ ∃ q, (coreAt t n).regs = q ∧ q.pending = [] ∧ q.shadow = 0 ∧ q.links = link :: r.links ∧
      cRead q 7 = mkCap f 384 (pLD + pST + pLDC + pSTC) 0 false false := by
  have hctx : SameContext n u (writeFrame n f r pc v info addr detail u) := writeFrame_context n f r pc v info addr detail ⟨rfl, rfl⟩
  generalize writeFrame n f r pc v info addr detail u = w at hctx ⊢
  dsimp only
  rw [coreAt_modRegs, if_pos rfl]
  refine ⟨hctx.mode.trans hm, _, rfl, rfl, rfl, ?_, enterHandler_c7 ..⟩
  change link :: (coreAt w n).regs.links = _
  rw [hctx.regs, hr]

/-- A handler entered from firmware through a usable entry: the frame below the stack's top, with the capability over it, and a link kept (R579, R580). -/
theorem takeException_enters (hu : entryUsable s n v = true) (h1 : (coreAt s n).regs.st.mode ≠ 1) (h2 : (coreAt s n).regs.st.mode ≠ 2) (h14 : v ≠ 14) :
    let k := memCap s n (vectorEntry v + 32)
    let t := takeException n v pc info addr detail s
    (coreAt t n).mode = .firmware ∧ ∃ q, (coreAt t n).regs = q ∧ q.pending = [] ∧ q.shadow = 0 ∧
      q.links = .exception v (capBase k + capLen k - 384) k :: (coreAt s n).regs.links ∧
      cRead q 7 = mkCap (capBase k + capLen k - 384) 384 (pLD + pST + pLDC + pSTC) 0 false false := by
  dsimp only
  generalize hk : memCap s n (vectorEntry v + 32) = k
  rw [takeException_of_usable hk hu h1 h2 h14]
  exact entered_context (by rw [coreAt_modCore, if_pos rfl]) (by rw [coreAt_modCore, if_pos rfl])

/-- In the refuge a further exception halts the core (R586). -/
theorem takeException_halts (h2 : (coreAt s n).regs.st.mode = 2) :
    (coreAt (takeException n v pc info addr detail s) n).halted = true ∧ (coreAt (takeException n v pc info addr detail s) n).mode = .idle := by
  have hhalt : ∀ u : State, (coreAt (haltCore n u) n).halted = true ∧ (coreAt (haltCore n u) n).mode = .idle := fun u => by
    unfold haltCore
    extract_lets c lost s1 s2
    have hcores : (raise (corePage n) 0x0508 n (failUnit (corePage n) s2)).cores = s2.cores := raise_leaves (π := .cores) rfl (failUnit_leaves rfl rfl)
    rw [coreAt, hcores]
    change (coreAt s2 n).halted = true ∧ (coreAt s2 n).mode = .idle
    rw [coreAt_modCore, if_pos rfl]
    exact ⟨rfl, rfl⟩
  unfold takeException
  extract_lets r tenant opcode s0 s1 s2 s3 boot
  rw [if_pos h2]
  exact hhalt _

theorem budget_ended {clock : Nat} {w : Invocation} (hr : (coreAt s n).running = some w) (hle : w.from_ + w.budget ≤ clock) (ho : (coreAt s n).overrun = none) :
    exec (.stepBudgetExpiry n clock) s = .next (if ¬ (coreAt s n).regs.delay = true ∧ (coreAt s n).regs.shadow = 0 ∧ drained (coreAt s n) = true
      then takeException n 14 (coreAt s n).regs.pc.toNat 0 0 (w.opcode % 65536) s
      else modCore n (fun c => { c with overrun := some (w.opcode % 65536) }) s) := by
  change execStepBudgetExpiry n clock s = _
  unfold execStepBudgetExpiry
  dsimp only
  rw [hr]
  refine congrArg Host.Outcome.next (if_neg ?_)
  rintro (h | h)
  · omega
  · simp [ho] at h

end

/-- Settles O34: where an exception is taken, what it enters with, and the end of a step's budget. -/
theorem coreExceptionsAreTaken : Obligations.CoreExceptionsAreTaken := by
  unfold Obligations.CoreExceptionsAreTaken
  refine ⟨fun s n v hn hv => ?_, fun s n v pc info addr detail => ⟨fun hu h1 h2 h14 => takeException_enters hu h1 h2 h14, takeException_halts⟩,
    fun s n clock w hr hle ho => ⟨fun hd hs hdr => ?_, fun h => ?_⟩⟩
  · intro c hrun hie hdelay hshadow hover hlate htrace
    have hexec := interrupt_taken hn hv hrun hie hdelay hshadow hover hlate htrace
    exact ⟨fun hd => hexec.trans (congrArg Host.Outcome.next (if_pos hd)),
      fun hd => answered (hexec.trans (congrArg Host.Outcome.next (if_neg (by simpa using hd)))) (stall_counts n s)⟩
  · exact (budget_ended hr hle ho).trans (congrArg Host.Outcome.next (if_pos ⟨by simp [hd], hs, hdr⟩))
  · refine (budget_ended hr hle ho).trans (congrArg Host.Outcome.next (if_neg ?_))
    rintro ⟨hd, hs, hdr⟩
    rcases h with h | h | h
    · exact hd h
    · exact h hs
    · exact absurd (hdr.symm.trans h) (by decide)

end Sys2Proof.Machine

end

section
/-!
SUPPORT. What more operations leave alone. O17.
-/
namespace Sys2Proof.Machine
open Sys2Proof Sys2Proof.Statements

section
variable {s t u : State} {π : Part}

theorem takeName_leaves (hπ : π.Clear [.keys]) (h : π.Same s t) : π.Same s (takeName t) := h.keys hπ

theorem countCorrected_leaves {addr} (hπ : π.Clear [.units, .recorder, .msix, .flash]) (h : π.Same s t) : π.Same s (countCorrected addr t) := raise_leaves (hπ.mono rfl) (modSector_leaves (hπ.mono rfl) (modFlash_change hπ h fun q hq => by cases q <;> first | exact Bool.noConfusion hq | exact rfl))

theorem appendSelector_leaves {x} (hπ : π.Clear [.flash, .rowFaults, .draws]) (h : π.Same s t) : π.Same s (appendSelector x t) := appendPair_leaves hπ (modFlash_change hπ h fun q hq => by cases q <;> first | exact Bool.noConfusion hq | exact rfl)

theorem takeCounters_leaves {w} (hπ : π.Clear [.flash, .flashEpoch]) (h : π.Same s t) : π.Same s (takeCounters w t) := modFlash_leaves hπ h

theorem readAreas_leaves (hπ : π.Clear [.flash, .flashEpoch]) (h : π.Same s t) : π.Same s (readAreas t) := by
  unfold readAreas
  split
  · exact .ite h (modFlash_leaves hπ h)
  · exact takeCounters_leaves hπ (.ite h (modFlash_leaves hπ h))

theorem renewLatest_leaves {addr w} (hπ : π.Clear [.flash, .rowFaults, .draws]) (h : π.Same s t) : π.Same s (renewLatest addr w t) := by
  unfold renewLatest
  split
  · exact .ite (appendSelector_leaves hπ h) (.ite (appendCounters_leaves hπ h) h)
  · exact h

theorem noteCorrected_leaves {addr w} (hπ : π.Clear [.units, .recorder, .msix, .flash, .rowFaults, .draws]) (h : π.Same s t) : π.Same s (noteCorrected addr w t) := renewLatest_leaves (hπ.mono rfl) (countCorrected_leaves (hπ.mono rfl) h)

theorem noteArea_leaves {first n} (hπ : π.Clear [.units, .recorder, .msix, .flash, .rowFaults, .draws]) (h : π.Same s t) : π.Same s (noteArea first n t) := forAll_leaves (fun _ _ hu => noteCorrected_leaves hπ hu) h

theorem alert_leaves {n b} (hπ : π.Clear [.chans]) (h : π.Same s t) : π.Same s (alert n b t) := modChan_leaves hπ h

theorem halt_leaves {n result} (hπ : π.Clear [.units, .recorder, .msix, .chans]) (h : π.Same s t) : π.Same s (halt n result t) := raiseChan_leaves (hπ.mono rfl) (alert_leaves (hπ.mono rfl) (modChan_leaves (hπ.mono rfl) h))

theorem settleLines_leaves {n} (hπ : π.Clear [.chans, .out]) (h : π.Same s t) : π.Same s (settleLines n t) :=
  .ite h (forAll_leaves (fun _ _ hu => emit_leaves (hπ.mono rfl) hu) (forAll_leaves (fun _ _ hu => emit_leaves (hπ.mono rfl) hu) (modChan_leaves (hπ.mono rfl) h)))

theorem settleAll_leaves (hπ : π.Clear [.chans, .out]) (h : π.Same s t) : π.Same s (settleAll t) := forAll_leaves (fun _ _ hu => settleLines_leaves hπ hu) h

theorem evictAll_leaves (hπ : π.Clear [.chans, .out]) (h : π.Same s t) : π.Same s (evictAll t) :=
  .ite (dropLines_leaves (hπ.mono rfl) (forAll_leaves (fun _ _ hu => forAll_leaves (fun _ _ hu1 => emit_leaves (hπ.mono rfl) hu1) hu) h)) (dropLines_leaves (hπ.mono rfl) h)

theorem readDirect_leaves {n ls} (hπ : π.Clear [.chans, .out]) (h : π.Same s t) : π.Same s (readDirect n ls t) := forAll_leaves (fun _ _ hu => emit_leaves (hπ.mono rfl) hu) (modChan_leaves (hπ.mono rfl) h)

theorem examine_leaves {n} (hπ : π.Clear [.units, .recorder, .msix, .chans, .out]) (h : π.Same s t) : π.Same s (examine n t) := by
  unfold examine
  refine .ite ?_ h
  extract_lets k pos
  split
  · exact h
  · refine .ite (halt_leaves (hπ.mono rfl) h) ?_
    split
    · exact halt_leaves (hπ.mono rfl) h
    · exact .ite h (modChan_leaves (hπ.mono rfl) h)
    · exact .ite (halt_leaves (hπ.mono rfl) h) (.ite (halt_leaves (hπ.mono rfl) h) (.ite (halt_leaves (hπ.mono rfl) h) (.ite (modChan_leaves (hπ.mono rfl) h) (readDirect_leaves (hπ.mono rfl) h))))

theorem doorbell_leaves {n p} (hπ : π.Clear [.units, .recorder, .msix, .chans, .out]) (h : π.Same s t) : π.Same s (doorbell n p t) :=
  .ite h (.ite (examine_leaves hπ (readDirect_leaves (hπ.mono rfl) (modChan_leaves (hπ.mono rfl) h))) (halt_leaves (hπ.mono rfl) h))

theorem ignorePush_leaves {n} (hπ : π.Clear [.units, .recorder, .msix, .chans]) (h : π.Same s t) : π.Same s (ignorePush n t) := raiseChan_leaves (hπ.mono rfl) (modChan_leaves (hπ.mono rfl) h)

theorem decidePush_leaves {n} (hπ : π.Clear [.units, .recorder, .msix, .chans, .out]) (h : π.Same s t) : π.Same s (decidePush n t) := .ite (examine_leaves hπ (modChan_leaves (hπ.mono rfl) h)) (ignorePush_leaves (hπ.mono rfl) h)

theorem resumeKept_leaves (hπ : π.Clear [.units, .recorder, .msix, .chans, .out]) (h : π.Same s t) : π.Same s (resumeKept t) := by
  unfold resumeKept
  refine forAll_leaves (fun _ _ hu => ?_) h
  dsimp only
  split
  · exact doorbell_leaves hπ (modChan_leaves (hπ.mono rfl) (.ite (decidePush_leaves hπ (settleLines_leaves (hπ.mono rfl) hu)) (settleLines_leaves (hπ.mono rfl) hu)))
  · exact examine_leaves hπ (.ite (decidePush_leaves hπ (settleLines_leaves (hπ.mono rfl) hu)) (settleLines_leaves (hπ.mono rfl) hu))

theorem writePieces_leaves {a bs} (hπ : π.Clear [.out]) (h : π.Same s t) : π.Same s (writePieces a bs t) := forAll_leaves (fun _ _ hu => emit_leaves hπ hu) h

theorem sendOutput_leaves {slot} (hπ : π.Clear [.jobs, .out]) (h : π.Same s t) : π.Same s (sendOutput slot t) := by
  unfold sendOutput
  split
  · exact h
  · exact .ite h (emit_leaves (hπ.mono rfl) (writePieces_leaves (hπ.mono rfl) (modJob_leaves (hπ.mono rfl) h)))

theorem intoBay_leaves {b k count pinned} (hπ : π.Clear [.keys]) (h : π.Same s t) : π.Same s (intoBay b k count pinned t) := modBay_leaves hπ h

theorem intoCache_leaves {k} (hπ : π.Clear [.keys]) (h : π.Same s t) : π.Same s (intoCache k t) := .ite h (h.keys hπ)

theorem loadBay_leaves {b k y} (hπ : π.Clear [.keys]) (h : π.Same s t) : π.Same s (loadBay b k y t) := intoBay_leaves hπ h

theorem gateCache_leaves (hπ : π.Clear [.units, .power, .domains]) (h : π.Same s t) : π.Same s (gateCache t) := .ite (modDomain_leaves (hπ.mono rfl) (setUnitState_leaves (hπ.mono rfl) h)) h

theorem clearRowAt_leaves {n a} (hπ : π.Clear [.rowFaults]) (h : π.Same s t) : π.Same s (clearRowAt n a t) := by
  unfold clearRowAt
  split
  · exact clearRow_leaves hπ h
  · exact h

theorem memPut_leaves {n a b} (hπ : π.Clear [.cores, .sram, .sramTags, .dram]) (h : π.Same s t) : π.Same s (memPut n a b t) := by
  unfold memPut
  split
  · exact modCore_leaves (hπ.mono rfl) h
  · exact h.change hπ fun q hq => by cases q <;> first | exact Bool.noConfusion hq | exact rfl
  · exact .dram (hπ.mono rfl) h
  · exact h

theorem memWrite_leaves {n a bs} (hπ : π.Clear [.cores, .sram, .sramTags, .dram, .rowFaults]) (h : π.Same s t) : π.Same s (memWrite n a bs t) := forAll_leaves (fun _ _ hu => memPut_leaves (hπ.mono rfl) (clearRowAt_leaves (hπ.mono rfl) hu)) h

theorem wipeContext_leaves {n ctx} (hπ : π.Clear [.cores]) (h : π.Same s t) : π.Same s (wipeContext n ctx t) := modCore_leaves hπ h

theorem tamperRecord_leaves {r} (hπ : π.Clear [.units, .audit, .recorder, .msix, .keeper, .chain, .chainNext]) (h : π.Same s t) : π.Same s (tamperRecord r t) := appendReserved_leaves (hπ.mono rfl) (h.change hπ fun q hq => by cases q <;> first | exact Bool.noConfusion hq | exact rfl)

theorem maintTake_leaves {a} (hπ : π.Clear [.sched]) (h : π.Same s t) : π.Same s (maintTake a t) := forAll_leaves (fun _ _ hu => hu.sched hπ) h

theorem wakeUnit_leaves {p} (hπ : π.Clear [.units, .power, .domains]) (h : π.Same s t) : π.Same s (wakeUnit p t) :=
  .ite (setUnitState_leaves (hπ.mono rfl) (.ite (.powerChange hπ (modUnit_leaves (hπ.mono rfl) h) fun q hq => by cases q <;> first | exact Bool.noConfusion hq | exact rfl) (modUnit_leaves (hπ.mono rfl) h))) (modUnit_leaves (hπ.mono rfl) h)

theorem fillLedger_leaves (hπ : π.Clear [.sched]) (h : π.Same s t) : π.Same s (fillLedger t) := h.sched hπ

theorem stopActivities_leaves {bitsv} (hπ : π.Clear [.sched]) (h : π.Same s t) : π.Same s (stopActivities bitsv t) := by
  unfold stopActivities
  refine repeatIdx_leaves (fun _ _ hu => .ite ?_ hu) h
  split
  · exact endActivity_leaves hπ hu
  · exact hu
  · exact hu.sched hπ

theorem schRefuse_leaves {off} (hπ : π.Clear [.units, .recorder, .msix]) (h : π.Same s t) : π.Same s (schRefuse off t) := raise_leaves hπ h

theorem schWriteWord_leaves {off v} (hπ : π.Clear [.units, .recorder, .msix, .sched]) (h : π.Same s t) : π.Same s (schWriteWord off v t) := by
  unfold schWriteWord
  split
  · exact .ite (h.sched (hπ.mono rfl)) (schRefuse_leaves (hπ.mono rfl) (h.sched (hπ.mono rfl)))
  · exact .ite (h.sched (hπ.mono rfl)) (schRefuse_leaves (hπ.mono rfl) (h.sched (hπ.mono rfl)))
  · exact .ite (schRefuse_leaves (hπ.mono rfl) h) (h.sched (hπ.mono rfl))
  · exact .ite (h.sched (hπ.mono rfl)) (schRefuse_leaves (hπ.mono rfl) (h.sched (hπ.mono rfl)))
  · dsimp only
    split
    · exact h
    · exact .ite h (.ite (schRefuse_leaves (hπ.mono rfl) h) (h.sched (hπ.mono rfl)))
  · split
    · dsimp only
      split
      · exact h
      · exact .ite (h.sched (hπ.mono rfl)) h
    · dsimp only
      split
      · exact h
      · exact .ite (h.sched (hπ.mono rfl)) h
  · exact h.sched (hπ.mono rfl)
  · exact stopActivities_leaves (hπ.mono rfl) h
  · exact h

theorem sendRead_leaves {x0} (hπ : π.Clear [.out]) (h : π.Same s t) : π.Same s (sendRead x0 t) := by
  unfold sendRead
  split
  · split
    · exact emit_leaves hπ h
    · exact h
  · exact emit_leaves hπ h

theorem noteDecode_leaves {iterations} (hπ : π.Clear [.vault]) (h : π.Same s t) : π.Same s (noteDecode iterations t) := modVault_change hπ h fun q hq => by cases q <;> first | exact Bool.noConfusion hq | exact rfl

theorem modBlock_leaves {b f} (hπ : π.Clear [.vault]) (h : π.Same s t) : π.Same s (modBlock b f t) := modVault_change hπ h fun q hq => by cases q <;> first | exact Bool.noConfusion hq | exact rfl

theorem dropRead_leaves {r} (hπ : π.Clear [.vault, .out]) (h : π.Same s t) : π.Same s (dropRead r t) := forAll_leaves (fun _ _ hu => sendRead_leaves (hπ.mono rfl) hu) (modVault_change hπ h fun q hq => by cases q <;> first | exact Bool.noConfusion hq | exact rfl)

theorem countNand_leaves {l} (hπ : π.Clear [.units, .recorder, .msix]) (h : π.Same s t) : π.Same s (countNand l t) := forAll_leaves (fun _ _ hu => .ite (raise_leaves hπ hu) hu) h

theorem clearPage_leaves {page} (hπ : π.Clear [.rowFaults]) (h : π.Same s t) : π.Same s (clearPage page t) := clearRows_leaves hπ h

theorem checkpointJournal_leaves (hπ : π.Clear [.units, .recorder, .msix, .vault, .journal]) (h : π.Same s t) : π.Same s (checkpointJournal t) := .ite h (modVault_change hπ (appendJournal_leaves hπ h) fun q hq => by cases q <;> first | exact Bool.noConfusion hq | exact rfl)

theorem beginErase_leaves {b} (hπ : π.Clear [.units, .recorder, .msix, .vault, .out, .journal]) (h : π.Same s t) : π.Same s (beginErase b t) := emit_leaves (hπ.mono rfl) (modVault_change hπ (modBlock_leaves (hπ.mono rfl) (appendJournal_leaves (hπ.mono rfl) h)) fun q hq => by cases q <;> first | exact Bool.noConfusion hq | exact rfl)

theorem refreshBlock_leaves {b} (hπ : π.Clear [.units, .recorder, .msix, .vault]) (h : π.Same s t) : π.Same s (refreshBlock b t) := raise_leaves (hπ.mono rfl) (modVault_change hπ (modBlock_leaves (hπ.mono rfl) h) fun q hq => by cases q <;> first | exact Bool.noConfusion hq | exact rfl)

theorem scanRecords_leaves (hπ : π.Clear [.recorder]) (h : π.Same s t) : π.Same s (scanRecords t) := h.recorder hπ

theorem remap_leaves {sec} (hπ : π.Clear [.flash, .rowFaults, .draws]) (h : π.Same s t) : π.Same s (remap sec t).2 := by
  unfold remap
  split
  · exact modSector_leaves (hπ.mono rfl) (appendLedger_leaves hπ h)
  · exact modSector_leaves (hπ.mono rfl) h

theorem finishErase_leaves {sec served pulses passed} (hπ : π.Clear [.units, .recorder, .msix, .flash, .rowFaults, .draws, .flashEpoch]) (h : π.Same s t) : π.Same s (finishErase sec served pulses passed t).2 := by
  unfold finishErase
  split
  · split
    · exact modSector_leaves (hπ.mono rfl) (clearSector_leaves (hπ.mono rfl) (.ite (raise_leaves (hπ.mono rfl) (raise_leaves (hπ.mono rfl) (modFlash_leaves (hπ.mono rfl) (modSector_leaves (hπ.mono rfl) (appendLedger_leaves (hπ.mono rfl) h))))) (raise_leaves (hπ.mono rfl) (modFlash_leaves (hπ.mono rfl) (modSector_leaves (hπ.mono rfl) (appendLedger_leaves (hπ.mono rfl) h))))))
    · exact remap_leaves (hπ.mono rfl) (raise_leaves (hπ.mono rfl) (.ite (raise_leaves (hπ.mono rfl) (raise_leaves (hπ.mono rfl) (modFlash_leaves (hπ.mono rfl) (modSector_leaves (hπ.mono rfl) (appendLedger_leaves (hπ.mono rfl) h))))) (raise_leaves (hπ.mono rfl) (modFlash_leaves (hπ.mono rfl) (modSector_leaves (hπ.mono rfl) (appendLedger_leaves (hπ.mono rfl) h))))))
  · split
    · exact modSector_leaves (hπ.mono rfl) (clearSector_leaves (hπ.mono rfl) (.ite (raise_leaves (hπ.mono rfl) (modFlash_leaves (hπ.mono rfl) (modSector_leaves (hπ.mono rfl) (appendLedger_leaves (hπ.mono rfl) h)))) (modFlash_leaves (hπ.mono rfl) (modSector_leaves (hπ.mono rfl) (appendLedger_leaves (hπ.mono rfl) h)))))
    · exact remap_leaves (hπ.mono rfl) (raise_leaves (hπ.mono rfl) (.ite (raise_leaves (hπ.mono rfl) (modFlash_leaves (hπ.mono rfl) (modSector_leaves (hπ.mono rfl) (appendLedger_leaves (hπ.mono rfl) h)))) (modFlash_leaves (hπ.mono rfl) (modSector_leaves (hπ.mono rfl) (appendLedger_leaves (hπ.mono rfl) h)))))

theorem flsPowerUp_leaves (hπ : π.Clear [.units, .recorder, .msix, .flash, .rowFaults, .draws, .flashEpoch]) (h : π.Same s t) : π.Same s (flsPowerUp t) :=
  scanRecords_leaves (hπ.mono rfl) (readAreas_leaves (hπ.mono rfl) (noteArea_leaves (hπ.mono rfl) (modFlash_leaves (hπ.mono rfl) (forAll_leaves (fun _ _ hu => raise_leaves (hπ.mono rfl) (modSector_leaves (hπ.mono rfl) hu)) (forAll_leaves (fun _ _ hu => putWord_leaves (hπ.mono rfl) hu) h)))))

theorem stagingPoint_leaves (hπ : π.Clear [.units, .recorder, .msix, .sched]) (h : π.Same s t) : π.Same s (stagingPoint t) := .ite (safePoint_leaves hπ h) (endActivity_leaves (hπ.mono rfl) h)

theorem raiseFloors_leaves (hπ : π.Clear [.flash, .rowFaults, .draws]) (h : π.Same s t) : π.Same s (raiseFloors t) := .ite h (appendCounters_leaves hπ (modFlash_change hπ h fun q hq => by cases q <;> first | exact Bool.noConfusion hq | exact rfl))

theorem tagWrite_leaves {addr bs} (hπ : π.Clear [.stile]) (h : π.Same s t) : π.Same s (tagWrite addr bs t) := modStile_leaves hπ h

theorem refreshStatement_leaves (hπ : π.Clear [.stile, .draws]) (h : π.Same s t) : π.Same s (refreshStatement t) := tagWrite_leaves (hπ.mono rfl) (nameSign_leaves (hπ.mono rfl) h)

theorem freshRecord_leaves (hπ : π.Clear [.keeper, .keeperRecord]) (h : π.Same s t) : π.Same s (freshRecord t) := h.keeper hπ

theorem dropInvocations_leaves (hπ : π.Clear [.cores]) (h : π.Same s t) : π.Same s (dropInvocations t) :=
  forAll_leaves (fun _ _ hu => .ite hu (modCore_leaves hπ (wipeContext_leaves hπ (wipeContext_leaves hπ hu)))) h

theorem resetFunction_leaves (hπ : π.Clear [.units, .audit, .link, .chans, .jobs, .sched, .power, .vault, .flash, .cores, .out, .domains]) (h : π.Same s t) : π.Same s (resetFunction t) :=
  gateCache_leaves (hπ.mono rfl) (dropInvocations_leaves (hπ.mono rfl) (Part.Same.change (l := [.audit, .link, .chans, .jobs, .sched, .vault, .flash]) (hπ.mono rfl) (evictAll_leaves (hπ.mono rfl) h)
    fun q hq => by cases q <;> first | exact Bool.noConfusion hq | exact rfl))

theorem cxlActions_leaves {kind last event} (hπ : π.Clear [.units, .audit, .recorder, .msix, .link, .chans, .jobs, .sched, .power, .vault, .flash, .cores, .out, .linkReset, .domains]) (h : π.Same s t) : π.Same s (cxlActions kind last event t) := raise_leaves (hπ.mono rfl) (.link (hπ.mono rfl) (resetFunction_leaves (hπ.mono rfl) h))

theorem linkGoesDown_leaves (hπ : π.Clear [.units, .recorder, .msix, .link, .chans]) (h : π.Same s t) : π.Same s (linkGoesDown t) := raise_leaves (hπ.mono rfl) (dropLines_leaves (hπ.mono rfl) (h.change hπ fun q hq => by cases q <;> first | exact Bool.noConfusion hq | exact rfl))

theorem recordResetJobs_leaves (hπ : π.Clear [.units, .audit, .recorder, .msix, .chain, .chainNext]) (h : π.Same s t) : π.Same s (recordResetJobs t) := forAll_leaves (fun _ _ hu => appendOrLose_leaves hπ hu) h

theorem sendUnsent_leaves (hπ : π.Clear [.jobs, .out]) (h : π.Same s t) : π.Same s (sendUnsent t) := forAll_leaves (fun _ _ hu => sendOutput_leaves hπ hu) h

theorem reopen_leaves {before} (hπ : π.Clear [.units, .recorder, .msix, .chans, .jobs, .out]) (h : π.Same s t) : π.Same s (reopen before t) :=
  .ite (resumeKept_leaves (hπ.mono rfl) (.ite (settleAll_leaves (hπ.mono rfl) (sendUnsent_leaves (hπ.mono rfl) h)) h)) (.ite (settleAll_leaves (hπ.mono rfl) (sendUnsent_leaves (hπ.mono rfl) h)) h)

theorem ideChanged_leaves {before} (hπ : π.Clear [.units, .recorder, .msix, .link, .chans, .jobs, .out]) (h : π.Same s t) : π.Same s (ideChanged before t) :=
  .ite (reopen_leaves (hπ.mono rfl) (modLink_change hπ h fun q hq => by cases q <;> first | exact Bool.noConfusion hq | exact rfl)) (.ite h (raise_leaves (hπ.mono rfl) (modLink_change hπ h fun q hq => by cases q <;> first | exact Bool.noConfusion hq | exact rfl)))

theorem cacheFollows_leaves {before} (hπ : π.Clear [.units, .chans, .power, .out, .domains]) (h : π.Same s t) : π.Same s (cacheFollows before t) :=
  .ite (.ite h (settleAll_leaves (hπ.mono rfl) (wakeUnit_leaves (hπ.mono rfl) h))) (.ite (gateCache_leaves (hπ.mono rfl) (dropLines_leaves (hπ.mono rfl) h)) h)

theorem modStart_leaves {f} (hπ : π.Clear [.start]) (h : π.Same s t) : π.Same s (modStart f t) := h.start hπ

theorem atStep_leaves {n} (hπ : π.Clear [.start]) (h : π.Same s t) : π.Same s (atStep n t) := modStart_leaves hπ h

theorem drawBootKeys_leaves (hπ : π.Clear [.boot, .draws]) (h : π.Same s t) : π.Same s (drawBootKeys t) := .boot (hπ.mono rfl) (drawBytes_leaves (hπ.mono rfl) (drawBytes_leaves (hπ.mono rfl) h))

theorem rootUnitsOn_leaves (hπ : π.Clear [.units]) (h : π.Same s t) : π.Same s (rootUnitsOn t) := forAll_leaves (fun _ _ hu => .ite (setUnitState_leaves hπ hu) hu) h

theorem testUnits_leaves {kind count event failing} (hπ : π.Clear [.units, .recorder, .msix, .jobs, .sched]) (h : π.Same s t) : π.Same s (testUnits kind count event failing t) :=
  repeatIdx_leaves (fun _ _ hu => .ite (raise_leaves (hπ.mono rfl) (failUnit_leaves hπ hu)) (.ite (setUnitState_leaves (hπ.mono rfl) hu) hu)) h

theorem replayStep_leaves (hπ : π.Clear [.start]) (h : π.Same s t) : π.Same s (replayStep t) := .ite (atStep_leaves hπ h) h

theorem startRecord_leaves {trailerOk} (hπ : π.Clear [.units, .audit, .recorder, .msix, .chain, .chainNext]) (h : π.Same s t) : π.Same s (startRecord trailerOk t) :=
  appendReserved_leaves hπ (.audit (hπ.mono rfl) (.ite (raise_leaves (hπ.mono rfl) (.ite (h.audit (hπ.mono rfl)) h)) (.ite (h.audit (hπ.mono rfl)) h)))

theorem unpoweredTampers_leaves (hπ : π.Clear [.units, .audit, .recorder, .msix, .keeper, .chain, .chainNext]) (h : π.Same s t) : π.Same s (unpoweredTampers t) := forAll_leaves (fun _ _ hu => tamperRecord_leaves hπ hu) h

theorem unitsOn_leaves (hπ : π.Clear [.units, .power, .domains]) (h : π.Same s t) : π.Same s (unitsOn t) :=
  .ite (forAll_leaves (fun _ _ hu => modUnit_leaves (hπ.mono rfl) (.ite (setUnitState_leaves (hπ.mono rfl) hu) hu)) (repeatIdx_leaves (fun _ _ hu => modDomain_leaves (hπ.mono rfl) hu) h)) (gateCache_leaves hπ (forAll_leaves (fun _ _ hu => modUnit_leaves (hπ.mono rfl) (.ite (setUnitState_leaves (hπ.mono rfl) hu) hu)) (repeatIdx_leaves (fun _ _ hu => modDomain_leaves (hπ.mono rfl) hu) h)))

theorem wipeUnit_leaves {p} (hπ : π.Clear [.sched, .keys, .cores]) (h : π.Same s t) : π.Same s (wipeUnit p t) := by
  unfold wipeUnit
  split
  · exact .cores (hπ.mono rfl) h
  · exact modEng_leaves (hπ.mono rfl) h
  · exact .ite (.keys (hπ.mono rfl) h) h

end

end Sys2Proof.Machine

end

section
/-!
SUPPORT. Start-up. O17.
-/
namespace Sys2Proof.Machine
open Sys2Proof Sys2Proof.Statements

/-! ### Start-up -/

section
variable {s : State}

theorem perst_starts (hg : s.power.good = true) (hf : s.power.failSeq = false) (hb : s.start.begun = false) :
    ∃ t, exec (.perstRelease true) s = .next t ∧ t.start.begun = true ∧ t.start.step = 1 ∧ t.start.bootKeys = s.start.bootKeys + 1 ∧
      (coreAt t 16).sealKey = s.start.bootKeys + 1 ∧ t.boot.generation = s.boot.generation + 1 ∧ t.link.doeBusy = true ∧ t.keeper = s.keeper := by
  change ∃ t, execPerstRelease true s = .next t ∧ _
  unfold execPerstRelease
  rw [if_neg (by simp [hg, hf, hb])]
  extract_lets n s1 s2
  rw [if_neg (fun h => h.2 rfl)]
  have h1 : ∀ π : Part, π.Clear [.link, .linkReset, .start, .cores, .boot, .units, .recorder, .msix, .flash, .rowFaults, .draws, .flashEpoch] → π.Same s s1 := fun π hπ =>
    modCore_leaves (hπ.mono rfl) (.link (hπ.mono rfl) (.start (hπ.mono rfl) (drawBootKeys_leaves (hπ.mono rfl) (flsPowerUp_leaves (hπ.mono rfl) (.refl s)))))
  have hgen : s1.boot.generation = s.boot.generation + 1 := congrArg (·.generation + 1) (flsPowerUp_leaves (π := .boot) rfl rfl : (flsPowerUp s).boot = s.boot)
  have hstart1 : s1.start.begun = true ∧ s1.start.step = 1 ∧ s1.start.bootKeys = s.start.bootKeys + 1 := ⟨rfl, rfl, rfl⟩
  have hbusy : s1.link.doeBusy = true := rfl
  have hcore1 : (coreAt s1 16).sealKey = s.start.bootKeys + 1 := by rw [coreAt_modCore, if_pos rfl]
  have hkeeper1 : s1.keeper = s.keeper := h1 .keeper rfl
  clear_value s1
  have h2 : ∀ π : Part, π.Clear [.units, .recorder, .msix, .power, .sensors, .domains] → π.Same s1 s2 := fun π hπ =>
    .ite (raise_leaves (hπ.mono rfl) (.power (hπ.mono rfl) (.refl s1))) (.refl s1)
  clear_value s2
  have hstart : s2.start = s1.start := h2 .start rfl
  have hcores : s2.cores = s1.cores := h2 .cores rfl
  have hboot : s2.boot = s1.boot := h2 .boot rfl
  have hlink : s2.link = s1.link := h2 .link rfl
  have hkeeper : s2.keeper = s1.keeper := h2 .keeper rfl
  have hcore : coreAt (takeName s2) 16 = coreAt s1 16 := congrArg (fun cs => mget ({} : Core) cs 16) hcores
  obtain ⟨hbegun, hstep, hkeys⟩ := hstart1
  exact ⟨_, rfl, (congrArg (·.begun) hstart).trans hbegun, (congrArg (·.step) hstart).trans hstep, (congrArg (·.bootKeys) hstart).trans hkeys, by rw [hcore, hcore1],
    (congrArg (·.generation) hboot).trans hgen, (congrArg (·.doeBusy) hlink).trans hbusy, hkeeper.trans hkeeper1⟩

/-- A try whose images pass their checks is the one in use (R728). -/
theorem boot_passes {x : Selector} {xs : List Selector} {b w : BitVec 8} {ys : List BootTry} (hbegun : s.start.begun = true) (hok : s.start.bootOk = false)
    (hhalt : s.start.halted = false) (hsel : s.flash.selectors = x :: xs) (hb : s.flash.floorBoot ≤ b) (hw : s.flash.floorFirmware ≤ w)
    (hboot : slotAgrees s 0 (slotBase 0 x.boot) (fun h => decide (byteAt 8 h = b.toNat)) = true)
    (hfirm : slotAgrees s 1 (slotBase 1 x.firmware) (fun h => decide (byteAt 8 h = w.toNat)) = true) :
    ∃ t, exec (.bootVerifyDone (.passed b w :: ys)) s = .next t ∧ t.start.bootOk = true ∧ t.start.fallback = false ∧ t.flash.inUse = x ∧
      t.flash.bootVersion = b ∧ t.flash.firmwareVersion = w := by
  change ∃ t, execBootVerifyDone (.passed b w :: ys) s = .next t ∧ _
  unfold execBootVerifyDone
  rw [if_pos (by simp [hbegun, hok, hhalt]), hsel, List.zip_cons_cons, tryBoot]
  dsimp only
  rw [if_neg (fun h => h.elim (fun h => h hboot) fun h => absurd hb (BitVec.not_le.2 h)), if_neg (fun h => h.elim (fun h => h hfirm) fun h => absurd hw (BitVec.not_le.2 h))]
  generalize hu : modFlash (fun f => { f with inUse := x, bootVersion := b, firmwareVersion := w }) s = u
  have hflash : u.flash.inUse = x ∧ u.flash.bootVersion = b ∧ u.flash.firmwareVersion = w := by
    subst hu
    exact ⟨rfl, rfl, rfl⟩
  generalize hv : atStep 4 (modLink (fun l => { l with doeBusy := false }) (modStart (fun y => { y with bootOk := true, fallback := false }) u)) = v
  have hstart : v.start.bootOk = true ∧ v.start.fallback = false ∧ v.flash = u.flash := by
    subst hv
    exact ⟨rfl, rfl, rfl⟩
  obtain ⟨h1, h2, h3⟩ := hstart
  have hs : (rootUnitsOn v).start = v.start := rootUnitsOn_leaves (π := .start) rfl rfl
  have hf : (rootUnitsOn v).flash = u.flash := Eq.trans (rootUnitsOn_leaves (π := .flash) (s := v) rfl (.refl v)) h3
  exact ⟨_, rfl, by rw [hs, h1], by rw [hs, h2], by rw [hf, hflash.1], by rw [hf, hflash.2.1], by rw [hf, hflash.2.2]⟩

/-- Where every try fails the module stays halted in step 3 (R728). -/
theorem tryBoot_fails {l : List (Selector × BootTry)} (hl : ∀ e ∈ l, ∃ f, e.2 = .failed f) (fell : Bool) (s : State) :
    (tryBoot l fell s).start = { s.start with halted := true, step := 3 } ∧ (coreAt (tryBoot l fell s) 16).halted = true := by
  induction l generalizing fell s with
  | nil =>
    refine ⟨rfl, ?_⟩
    rw [tryBoot]
    change (coreAt (modCore 16 (fun c => { c with halted := true }) _) 16).halted = true
    rw [coreAt_modCore, if_pos rfl]
  | cons e rest ih =>
    obtain ⟨x, r⟩ := e
    obtain ⟨f, rfl⟩ : ∃ f, r = .failed f := hl (x, r) (List.mem_cons_self ..)
    rw [tryBoot]
    have hstart : (raise bootPage 0x0517 (b2n (if f then x.firmware else x.boot)) s).start = s.start := raise_leaves (π := .start) rfl rfl
    have := ih (fun e he => hl e (List.mem_cons_of_mem _ he)) true (raise bootPage 0x0517 (b2n (if f then x.firmware else x.boot)) s)
    rwa [hstart] at this

theorem boot_halts {tries : List BootTry} (hbegun : s.start.begun = true) (hok : s.start.bootOk = false) (hhalt : s.start.halted = false)
    (hfail : ∀ r ∈ tries, ∃ f, r = .failed f) :
    ∃ t, exec (.bootVerifyDone tries) s = .next t ∧ t.start.bootOk = false ∧ t.start.halted = true ∧ t.start.step = 3 ∧ (coreAt t 16).halted = true := by
  obtain ⟨hstart, hcore⟩ := tryBoot_fails (l := s.flash.selectors.zip tries) (fun e he => hfail _ (List.of_mem_zip he).2) false s
  exact answered (congrArg Host.Outcome.next (if_pos ⟨hbegun, by simp [hok], by simp [hhalt]⟩))
    ⟨(congrArg (·.bootOk) hstart).trans hok, congrArg (·.halted) hstart, congrArg (·.step) hstart, hcore⟩

theorem ucode_loads {version : BitVec 16} {security : BitVec 8} {algs : BitVec 11} {engines digests : List Nat} (hok : s.start.bootOk = true)
    (hserv : s.start.service = false) (hver : s.sig.verified = false) (hsec : s.flash.floorMicrocode ≤ security)
    (hslot : slotAgrees s 2 (slotBase 2 s.flash.inUse.microcode) (fun h => decide (leAt 6 2 h = version.toNat ∧ byteAt 8 h = security.toNat ∧ leAt 10 2 h = algs.toNat)) = true) :
    ∃ t, exec (.ucodeLoadDone (.loaded version security algs engines digests)) s = .next t ∧ t.sig.verified = true ∧ t.sig.imageVersion = version ∧
      t.sig.securityVersion = security ∧ t.sig.algs = algs := by
  change ∃ t, execUcodeLoadDone (.loaded version security algs engines digests) s = .next t ∧ _
  unfold execUcodeLoadDone
  rw [if_neg (by simp [hok, hserv, hver])]
  dsimp only
  rw [if_neg (fun h => h hslot), if_neg (BitVec.not_lt.2 hsec)]
  generalize hu : { s with sig := { s.sig with verified := true, imageVersion := version, securityVersion := security, algs := algs } } = u
  have hsig : (testUnits 0 64 0x020E engines (testUnits 2 16 0x0213 digests (raise sigPage 0x020C version.toNat (atStep 5 u)))).sig = u.sig :=
    testUnits_leaves (π := .sig) rfl (testUnits_leaves rfl (raise_leaves rfl (atStep_leaves rfl rfl)))
  refine ⟨_, rfl, ?_, ?_, ?_, ?_⟩ <;> rw [hsig, ← hu]

theorem dram_wiped (hok : s.start.bootOk = true) (hlt : s.start.dramWiped < 4) :
    ∃ t, exec .dramWipeRegionDone s = .next t ∧ t.start.dramWiped = s.start.dramWiped + 1 := by
  refine answered (congrArg Host.Outcome.next (if_pos ⟨hok, hlt⟩)) ?_
  unfold replayStep
  split <;> rfl

/-- The boot counters: the epoch one above the one stored, and the nonces from 2^32 above the durable mark (R251, R392). -/
theorem bootCounters_counts (s : State) :
    (bootCounters s).sched.epoch = s.flash.epoch + 1 ∧ (bootCounters s).cip.nonceNext = s.flash.mark + BitVec.ofNat 64 (2 ^ 32) ∧ (bootCounters s).cip.holders = [] := by
  unfold bootCounters
  extract_lets mark s1
  have hepoch : s1.flash.epoch = s.flash.epoch + 1 := appendCounters_leaves (π := .flashEpoch) (t := modFlash (fun f => { f with epoch := f.epoch + 1, mark := mark }) s)
    (s := modFlash (fun f => { f with epoch := f.epoch + 1, mark := mark }) s) rfl (.refl _)
  exact ⟨hepoch, rfl, rfl⟩

theorem service_starts (hok : s.start.bootOk = true) (hserv : s.start.service = false) (hwiped : 2 ≤ s.start.dramWiped) (trailerOk : Bool) :
    ∃ t, exec (.serviceStart trailerOk) s = .next t ∧ t.start.service = true ∧ t.sched.epoch = s.flash.epoch + 1 ∧
      t.cip.nonceNext = s.flash.mark + BitVec.ofNat 64 (2 ^ 32) ∧ t.cip.holders = [] := by
  change ∃ t, execServiceStart trailerOk s = .next t ∧ _
  unfold execServiceStart
  rw [if_neg (by simp [hok, hserv]; omega)]
  obtain ⟨hepoch, hnonce, hholders⟩ := bootCounters_counts (openBuffers (formRoot s))
  have hflash : (openBuffers (formRoot s)).flash = s.flash := openBuffers_leaves (π := .flash) rfl rfl
  rw [hflash] at hepoch hnonce
  generalize bootCounters (openBuffers (formRoot s)) = u at hepoch hnonce hholders ⊢
  extract_lets s1 s2 v0 s3
  have h3 : ∀ π : Part, π.Clear [.units, .audit, .recorder, .msix, .keeper, .chain, .chainNext, .keeperRecord, .cores, .vault, .records, .journal, .power, .sensors, .domains] → π.Same u s3 := fun π hπ =>
    unitsOn_leaves (hπ.mono rfl) (.vault (hπ.mono rfl) (repeatIdx_leaves (fun _ _ hw => modCore_leaves (hπ.mono rfl) hw)
      (unpoweredTampers_leaves (hπ.mono rfl) (startRecord_leaves (hπ.mono rfl) (.refl u)))))
  have hsched : s3.sched = u.sched := h3 .sched rfl
  have hcip : s3.cip = u.cip := h3 .cip rfl
  clear_value s3
  generalize hv : atStep 9 (modStart (fun x => { x with service := true, erasing := s.keeper.record.pending }) s3) = v
  have hv1 : v.start.service = true ∧ v.sched = s3.sched ∧ v.cip = s3.cip := by
    subst hv
    exact ⟨rfl, rfl, rfl⟩
  obtain ⟨hvs, hvsched, hvcip⟩ := hv1
  have hserv : (replayStep v).start.service = v.start.service := by
    unfold replayStep
    split <;> rfl
  have hsched' : (replayStep v).sched = v.sched := replayStep_leaves (π := .sched) rfl rfl
  have hcip' : (replayStep v).cip = v.cip := replayStep_leaves (π := .cip) rfl rfl
  generalize replayStep v = w at hserv hsched' hcip' ⊢
  exact ⟨_, rfl, hserv.trans hvs, (congrArg (·.epoch) (hsched'.trans (hvsched.trans hsched))).trans hepoch,
    (congrArg (·.nonceNext) (hcip'.trans (hvcip.trans hcip))).trans hnonce, (congrArg (·.holders) (hcip'.trans (hvcip.trans hcip))).trans hholders⟩

theorem stopReplay_of_passes (hmac : ∀ e ∈ s.vault.journal, macPasses s e = true) : stopReplay s = s := by
  have hgood : s.vault.journal.takeWhile (macPasses s) = s.vault.journal := takeWhile_of_all hmac
  unfold stopReplay
  dsimp only
  rw [hgood, List.drop_length]

theorem replay_ends (hrep : s.vault.replaying = true) (hwiped : 4 ≤ s.start.dramWiped) (hmac : ∀ e ∈ s.vault.journal, macPasses s e = true) :
    ∃ t, exec .vaultReplayEnd s = .next t ∧ t.vault.replaying = false ∧ t.vault.ready = true ∧ t.vault.records = s.vault.records ∧ t.vault.journal = s.vault.journal := by
  change ∃ t, execVaultReplayEnd s = .next t ∧ _
  unfold execVaultReplayEnd
  rw [if_neg (by simp [hrep]; omega), stopReplay_of_passes hmac]
  extract_lets s0 open_ s1
  have h1 : ∀ π : Part, π.Clear [.units, .recorder, .msix, .vault] → π.Same s s1 := fun π hπ =>
    forAll_leaves (fun _ _ hu => raise_leaves (hπ.mono rfl) (modBlock_leaves (hπ.mono rfl) hu)) (.refl s)
  have hrecords : s1.vault.records = s.vault.records := h1 .records rfl
  have hjournal : s1.vault.journal = s.vault.journal := h1 .journal rfl
  have hvault := raise_leaves (π := .vault) (p := vaultPage) (code := 0x0408) (detail := s1.vault.nextSeq - 1) (s := modVault (fun v => { v with replaying := false, ready := true }) s1) rfl (.refl _)
  exact ⟨_, rfl, congrArg (·.replaying) hvault, congrArg (·.ready) hvault, (congrArg (·.records) hvault).trans hrecords, (congrArg (·.journal) hvault).trans hjournal⟩

theorem module_ready (hserv : s.start.service = true) (hready : s.start.ready = false) (hwiped : 4 ≤ s.start.dramWiped)
    (hvault : noReplay s = true ∨ s.vault.ready = true) (ms : Nat) :
    ∃ t, exec (.moduleReady ms) s = .next t ∧ t.start.ready = true ∧ t.start.readyMs = BitVec.ofNat 32 ms := by
  change ∃ t, execModuleReady ms s = .next t ∧ _
  unfold execModuleReady
  rw [if_neg (by
    rintro (h | h | h | ⟨h1, h2⟩)
    · exact h hserv
    · exact absurd (hready.symm.trans h) (by decide)
    · omega
    · exact hvault.elim h1 h2)]
  extract_lets s1
  have hs1 : s1.start.ready = true ∧ s1.start.readyMs = BitVec.ofNat 32 ms := ⟨rfl, rfl⟩
  clear_value s1
  have hstart : (schWriteWord 0x150 (2 ^ 3) (refreshStatement (raiseFloors s1))).start = s1.start :=
    schWriteWord_leaves (π := .start) rfl (refreshStatement_leaves rfl (raiseFloors_leaves rfl rfl))
  exact ⟨_, rfl, by rw [hstart, hs1.1], by rw [hstart, hs1.2]⟩

end

/-- Settles O17: the steps of start-up, each from the state that R727 gives it. -/
theorem startUpRuns : Obligations.StartUpRuns := by
  unfold Obligations.StartUpRuns
  intro s
  refine ⟨fun hg => ?_, perst_starts, fun hbegun hok hhalt => ⟨fun x xs b w ys hsel hb hw h0 h1 => boot_passes hbegun hok hhalt hsel hb hw h0 h1, fun tries => boot_halts hbegun hok hhalt⟩,
    fun hok hserv hver version security algs engines digests hsec hslot => ucode_loads hok hserv hver hsec hslot, dram_wiped, service_starts, replay_ends, module_ready,
    fun h => congrArg Host.Outcome.next (if_pos h)⟩
  exact answered (congrArg Host.Outcome.next (if_neg (by simp [hg]))) ⟨rfl, rfl, rfl, rfl⟩

end Sys2Proof.Machine

end

section
/-!
SUPPORT. The four resets. O18.
-/
namespace Sys2Proof.Machine
open Sys2Proof Sys2Proof.Statements

/-! ### The four resets -/

section
variable {s t : State}

theorem raiseAs_table (p unit code detail : Nat) (s : State) : (raiseAs p unit code detail s).msix.table = s.msix.table := by
  unfold raiseAs
  extract_lets b rose s1 src s2
  have h1 : s1.msix = s.msix := capture_leaves (π := .msix) rfl (climb_leaves rfl rfl)
  have h2 : s2.msix.table = s1.msix.table := by
    unfold s2
    split
    · dsimp only
      split <;> rfl
    · rfl
  have h3 : (recordEvent p unit code (detail % 2 ^ 48) s2).msix = s2.msix := recordEvent_leaves (π := .msix) rfl rfl
  rw [h3, h2, h1]

/-- An event leaves the MSI-X table as the host has programmed it. -/
theorem raise_table (p code detail : Nat) (s : State) : (raise p code detail s).msix.table = s.msix.table := by
  unfold raise noteDropped
  split
  · rw [raiseAs_table]
  · rw [raiseAs_table, raiseAs_table]

/-- What every reset that keeps the module running leaves: no job and no channel, the records of the jobs kept for the next close, the chain as it was, and the
link but for its Cache_Enable (R131, R132). -/
structure FunctionReset (s t : State) : Prop where
  jobs : t.jobs = []
  chans : t.chans = []
  link : t.link = { s.link with cacheEnable := false }
  chain : t.audit.chain = s.audit.chain
  next : t.audit.next = s.audit.next
  records : t.audit.resetJobs = s.audit.resetJobs ++ resetRecords s

theorem FunctionReset.of_same (h : FunctionReset s t) {u : State} (hj : u.jobs = t.jobs) (hc : u.chans = t.chans) (hl : u.link = t.link) (ha : u.audit = t.audit) : FunctionReset s u :=
  ⟨hj.trans h.jobs, hc.trans h.chans, hl.trans h.link, by rw [ha, h.chain], by rw [ha, h.next], by rw [ha, h.records]⟩

theorem FunctionReset.drop (h : FunctionReset s t) : FunctionReset s (gateCache (dropInvocations t)) :=
  h.of_same (gateCache_leaves (π := .jobs) rfl (dropInvocations_leaves rfl rfl)) (gateCache_leaves (π := .chans) rfl (dropInvocations_leaves rfl rfl))
    (gateCache_leaves (π := .link) rfl (dropInvocations_leaves rfl rfl)) (gateCache_leaves (π := .audit) rfl (dropInvocations_leaves rfl rfl))

theorem resetFunction_resets (s : State) : FunctionReset s (resetFunction s) := by
  unfold resetFunction
  have haudit : (evictAll s).audit = s.audit := evictAll_leaves (π := .audit) rfl rfl
  have hlink : (evictAll s).link = s.link := evictAll_leaves (π := .link) rfl rfl
  generalize evictAll s = s1 at haudit hlink ⊢
  refine FunctionReset.drop ⟨rfl, rfl, ?_, ?_, ?_, ?_⟩
  · rw [← hlink]
  all_goals rw [← haudit]

theorem flr_resets (hf : s.power.failSeq = false) (hr : s.link.inReset = .none) :
    ∃ t, exec .flr s = .next t ∧ t.jobs = [] ∧ t.chans = [] ∧ t.link.bme = false ∧ t.link.d3hot = false ∧ t.link.inReset = .flr ∧
      t.link.last = 1 ∧ t.msix.table = [] ∧ t.link.ioState = s.link.ioState ∧ t.audit.chain = s.audit.chain ∧ t.audit.next = s.audit.next ∧
      t.audit.resetJobs = s.audit.resetJobs ++ resetRecords s := by
  change ∃ t, execFlr s = .next t ∧ _
  unfold execFlr
  rw [if_neg (by simp [resetIgnored, hf, hr])]
  have hd := resetFunction_resets s
  generalize resetFunction s = s1 at hd ⊢
  dsimp only
  generalize hu : { s1 with msix := {}, link := { s1.link with bme := false, d3hot := false, bar0 := 0, bar2 := 0, doeError := false, inReset := .flr, flrCount := satInc s1.link.flrCount, last := 1 } } = u
  have htable : (raise phyPage 0x0113 (inFlight s) u).msix.table = u.msix.table := raise_table ..
  obtain ⟨haudit, hlink, hchans, hjobs, -⟩ := raise_frame phyPage 0x0113 (inFlight s) u
  subst hu
  refine ⟨_, rfl, hjobs.trans hd.jobs, hchans.trans hd.chans, congrArg (·.bme) hlink, congrArg (·.d3hot) hlink, congrArg (·.inReset) hlink, congrArg (·.last) hlink, htable,
    (congrArg (·.ioState) hlink).trans (congrArg (·.ioState) hd.link), (congrArg (·.chain) haudit).trans hd.chain, (congrArg (·.next) haudit).trans hd.next,
    (congrArg (·.resetJobs) haudit).trans hd.records⟩

/-- What a CXL Reset, a hot reset and a link down leave alike (R129, R131). -/
theorem cxlActions_resets (kind : ResetKind) (last : BitVec 2) (event : Nat) (s : State) :
    let t := cxlActions kind last event s
    t.jobs = [] ∧ t.chans = [] ∧ t.link.cacheState = 0 ∧ t.link.bme = s.link.bme ∧ t.link.ioState = s.link.ioState ∧ t.link.inReset = kind ∧ t.link.last = last ∧
      t.link.mode = s.link.mode ∧ t.audit.chain = s.audit.chain ∧ t.audit.resetJobs = s.audit.resetJobs ++ resetRecords s := by
  unfold cxlActions
  have hd := resetFunction_resets s
  generalize resetFunction s = s1 at hd ⊢
  dsimp only
  generalize hu : { s1 with link := { s1.link with cacheState := 0, ideKeys := s1.link.ideKeys.filter (fun k => decide (k ≠ 1)), inReset := kind, cxlResetCount := satInc s1.link.cxlResetCount, last := last } } = u
  obtain ⟨haudit, hlink, hchans, hjobs, -⟩ := raise_frame phyPage event (inFlight s) u
  subst hu
  exact ⟨hjobs.trans hd.jobs, hchans.trans hd.chans, congrArg (·.cacheState) hlink, (congrArg (·.bme) hlink).trans (congrArg (·.bme) hd.link),
    (congrArg (·.ioState) hlink).trans (congrArg (·.ioState) hd.link), congrArg (·.inReset) hlink, congrArg (·.last) hlink,
    (congrArg (·.mode) hlink).trans (congrArg (·.mode) hd.link), (congrArg (·.chain) haudit).trans hd.chain, (congrArg (·.resetJobs) haudit).trans hd.records⟩

theorem cxlReset_resets (hf : s.power.failSeq = false) :
    ∃ t, exec .cxlReset s = .next t ∧ t.jobs = [] ∧ t.chans = [] ∧ t.link.cacheState = 0 ∧ t.link.bme = s.link.bme ∧ t.link.ioState = s.link.ioState ∧
      t.link.inReset = .cxl ∧ t.link.last = 2 ∧ t.audit.chain = s.audit.chain ∧ t.audit.resetJobs = s.audit.resetJobs ++ resetRecords s := by
  obtain ⟨hjobs, hchans, hcache, hbme, hio, hkind, hlast, -, hchain, hrecords⟩ := cxlActions_resets .cxl 2 0x0114 s
  exact answered (congrArg Host.Outcome.next (if_neg (by simp [resetIgnored, hf]))) ⟨hjobs, hchans, hcache, hbme, hio, hkind, hlast, hchain, hrecords⟩

theorem linkGoesDown_down (s : State) : (linkGoesDown s).link.mode = 0 ∧ (linkGoesDown s).audit = s.audit := by
  refine ⟨?_, linkGoesDown_leaves (π := .audit) rfl rfl⟩
  unfold linkGoesDown
  generalize hu : dropLines { s with link := { s.link with mode := 0, width := 0, rate := 0 } } = u
  rw [(raise_frame ..).2.1, ← hu]
  rfl

theorem hotReset_resets (hf : s.power.failSeq = false) (down : Bool) :
    ∃ t, exec (.hotResetOrLinkDown down) s = .next t ∧ t.jobs = [] ∧ t.chans = [] ∧ t.link.ioState = 0 ∧ t.link.sessions = [] ∧ t.link.ideKeys = [] ∧
      t.link.inReset = .hot ∧ t.link.last = 3 ∧ t.audit.chain = s.audit.chain ∧ (down = true → t.link.mode = 0) := by
  change ∃ t, execHotResetOrLinkDown down s = .next t ∧ _
  unfold execHotResetOrLinkDown
  have h0 : (if down = true then linkGoesDown s else s).audit = s.audit ∧
      (down = true → (if down = true then linkGoesDown s else s).link.mode = 0) := by
    obtain ⟨hmode, haudit⟩ := linkGoesDown_down s
    split
    · exact ⟨haudit, fun _ => hmode⟩
    · next hd => exact ⟨rfl, fun h => absurd h hd⟩
  generalize (if down = true then linkGoesDown s else s) = s0 at h0 ⊢
  obtain ⟨haudit, hmode⟩ := h0
  dsimp only
  rw [if_neg (by simp [resetIgnored, hf])]
  obtain ⟨hjobs, hchans, -, -, -, hkind, hlast, hm, hchain, -⟩ := cxlActions_resets .hot 3 0x0115 s0
  generalize cxlActions .hot 3 0x0115 s0 = s1 at hjobs hchans hkind hlast hm hchain ⊢
  exact ⟨_, rfl, hjobs, hchans, rfl, rfl, rfl, hkind, hlast, hchain.trans (congrArg (·.chain) haudit), fun h => hm.trans (hmode h)⟩

theorem conventionalReset_resets (hf : s.power.failSeq = false) (hg : s.power.good = true) :
    ∃ t, exec .conventionalReset s = .next t ∧ t.jobs = [] ∧ t.chans = [] ∧ t.start.begun = false ∧ t.start.service = false ∧ t.cores = State.reset.cores ∧
      t.link = State.reset.link ∧ t.units = State.reset.units ∧ t.pending = s.pending ∧ t.power.good = true := by
  change ∃ t, execConventionalReset s = .next t ∧ _
  unfold execConventionalReset
  rw [if_neg (by simp [hf, hg])]
  have hflushed : ∀ π : Part, π.Clear [.units, .audit, .recorder, .msix, .flash, .vault, .keeper, .chain, .chainNext, .keeperRecord, .rowFaults, .draws, .journal] →
      π.Same s (freshRecord (flushRecorder s.power.mv.toNat (flushFlash (flushJournals (recordResetJobs s))))) := fun π hπ =>
    freshRecord_leaves (hπ.mono rfl) (flushRecorder_leaves (hπ.mono rfl) (flushFlash_leaves (hπ.mono rfl) (flushJournals_leaves (hπ.mono rfl) (recordResetJobs_leaves (hπ.mono rfl) (.refl s)))))
  have hpending := hflushed .pending rfl
  have hpower := hflushed .power rfl
  generalize freshRecord (flushRecorder s.power.mv.toNat (flushFlash (flushJournals (recordResetJobs s)))) = u at hpending hpower ⊢
  exact ⟨_, rfl, rfl, rfl, rfl, rfl, rfl, rfl, rfl, hpending, (congrArg (·.good) hpower).trans hg⟩

end

/-- Settles O18: each of the four resets, while no power-fail sequence runs. -/
theorem resetsKeepWhatTheSpecKeeps : Obligations.ResetsKeepWhatTheSpecKeeps := by
  unfold Obligations.ResetsKeepWhatTheSpecKeeps
  exact fun s hf => ⟨flr_resets hf, cxlReset_resets hf, hotReset_resets hf, conventionalReset_resets hf⟩

end Sys2Proof.Machine

end

section
/-!
SUPPORT. Events of the link. O19.
-/
namespace Sys2Proof.Machine
open Sys2Proof Sys2Proof.Statements

/-! ### Events of the link -/

section
variable {s t u : State}

/-- Each job is as it was, but for what is written of its output. -/
def SameButWritten (s t : State) : Prop :=
  ∀ k, (jobAt t k).map (fun j => { j with written := [], unsent := false }) = (jobAt s k).map (fun j => { j with written := [], unsent := false })

theorem SameButWritten.trans (h : SameButWritten s t) (g : SameButWritten t u) : SameButWritten s u := fun k => (g k).trans (h k)

theorem SameButWritten.of_jobs (h : t.jobs = s.jobs) : SameButWritten s t := fun k => by rw [jobAt, jobAt, h]

theorem writePieces_sendsNoJob (a : Nat) (bs : Bytes) (o : Output) (s : State) : (emit o (writePieces a bs s)).jobs = s.jobs :=
  emit_leaves (π := .jobs) rfl (writePieces_leaves rfl rfl)

theorem sendOutput_written (slot : Nat) (s : State) : SameButWritten s (sendOutput slot s) := by
  unfold sendOutput
  split
  · exact .of_jobs rfl
  · split
    · exact .of_jobs rfl
    · refine SameButWritten.trans (fun k => ?_) (.of_jobs (writePieces_sendsNoJob _ _ _ _))
      rw [jobAt_modJob]
      split
      · next hk => rw [hk, Option.map_map]; rfl
      · rfl

theorem sendUnsent_written (s : State) : SameButWritten s (sendUnsent s) :=
  forAll_ind (p := SameButWritten s) (fun k u hu => hu.trans (sendOutput_written k u)) _ _ (.of_jobs rfl)

theorem reopen_written (before s : State) : SameButWritten s (reopen before s) := by
  unfold reopen
  have h1 : SameButWritten s (if !mayRequest before && mayRequest s then settleAll (sendUnsent s) else s) := by
    split
    · exact (sendUnsent_written s).trans (.of_jobs (settleAll_leaves (π := .jobs) rfl rfl))
    · exact .of_jobs rfl
  generalize (if !mayRequest before && mayRequest s then settleAll (sendUnsent s) else s) = s1 at h1 ⊢
  dsimp only
  split
  · exact h1.trans (.of_jobs (resumeKept_leaves (π := .jobs) rfl rfl))
  · exact h1

/-- Opening the link again leaves its settings. -/
theorem reopen_link (before s : State) : (reopen before s).link = s.link := reopen_leaves (π := .link) rfl rfl

theorem link_trains {cxl eqFailed : Bool} {width rate : Nat} (hw : width ∈ [1, 2, 4, 8]) (h1 : 1 ≤ rate) (h5 : rate ≤ 5) :
    ∃ t, exec (.linkTrained cxl width rate eqFailed) s = .next t ∧ t.link.mode = (if cxl = true ∧ 3 ≤ rate then 1 else 2) ∧ t.link.width = BitVec.ofNat 4 width ∧
      t.link.rate = BitVec.ofNat 3 rate ∧ SameButWritten s t := by
  change ∃ t, execLinkTrained cxl width rate eqFailed s = .next t ∧ _
  unfold execLinkTrained
  rw [if_neg (by
    rintro (h | h | h)
    · exact h hw
    · omega
    · omega)]
  extract_lets mode u d s1 s2 s3 s4
  have h4 : ∀ π : Part, π.Clear [.units, .recorder, .msix] → π.Same u s4 := fun π hπ =>
    have h1 : π.Same u s1 := raise_leaves (hπ.mono rfl) (.refl u)
    have h2 : π.Same u s2 := .ite (raise_leaves (hπ.mono rfl) h1) h1
    have h3 : π.Same u s3 := .ite (raise_leaves (hπ.mono rfl) h2) h2
    .ite (raise_leaves (hπ.mono rfl) h3) h3
  have hlink : s4.link = u.link := h4 .link rfl
  have hjobs : s4.jobs = s.jobs := h4 .jobs rfl
  clear_value s4
  have hend : (cacheFollows s (reopen s s4)).link = u.link := Eq.trans (cacheFollows_leaves (π := .link) (s := reopen s s4) rfl rfl) ((reopen_link s s4).trans hlink)
  exact ⟨_, rfl, congrArg (·.mode) hend, congrArg (·.width) hend, congrArg (·.rate) hend,
    (SameButWritten.of_jobs hjobs).trans ((reopen_written s s4).trans (.of_jobs (cacheFollows_leaves (π := .jobs) rfl rfl)))⟩

theorem linkOpen_of_bme (h : s.link.bme = false) : linkOpen s = false := by
  simp [linkOpen, mayRequest, h]

theorem linkOpen_of_d3hot (h : s.link.d3hot = true) : linkOpen s = false := by
  simp [linkOpen, mayRequest, h]

theorem bme_cleared (h : s.link.bme = true) : ∃ t, exec .busMasterEnableClear s = .next t ∧ t.link.bme = false ∧ linkOpen t = false ∧ t.jobs = s.jobs := by
  have hlink := (raise_frame phyPage 0x0128 0 (modLink (fun l => { l with bme := false }) s)).2.1
  have hbme := congrArg (·.bme) hlink
  exact answered (congrArg Host.Outcome.next (if_pos h)) ⟨hbme, linkOpen_of_bme hbme, raise_leaves (π := .jobs) rfl rfl⟩

theorem d3hot_entered (h : s.link.d3hot = false) : ∃ t, exec .d3hotEntry s = .next t ∧ t.link.d3hot = true ∧ linkOpen t = false ∧ t.jobs = s.jobs := by
  have hlink := (raise_frame phyPage 0x0129 0 (modLink (fun l => { l with d3hot := true }) s)).2.1
  have hd3 := congrArg (·.d3hot) hlink
  exact answered (congrArg Host.Outcome.next (if_neg (by simp [h]))) ⟨hd3, linkOpen_of_d3hot hd3, raise_leaves (π := .jobs) rfl rfl⟩

theorem reopened (f : Link → Link) (s : State) : (reopen s (modLink f s)).link = f s.link ∧ SameButWritten s (reopen s (modLink f s)) :=
  ⟨reopen_link .., reopen_written s (modLink f s)⟩

/-- Turning the coherency cache on or off leaves the link's settings and the jobs. -/
theorem cacheFollows_frame (before s : State) : (cacheFollows before s).link = s.link ∧ (cacheFollows before s).jobs = s.jobs :=
  ⟨cacheFollows_leaves (π := .link) rfl rfl, cacheFollows_leaves (π := .jobs) rfl rfl⟩

theorem evictAll_frame (s : State) : (evictAll s).link = s.link ∧ (evictAll s).jobs = s.jobs :=
  ⟨evictAll_leaves (π := .link) rfl rfl, evictAll_leaves (π := .jobs) rfl rfl⟩

theorem cacheEnable_changes {on : Bool} (h : s.link.cacheEnable ≠ on) :
    ∃ t, exec (.cacheEnableChange on) s = .next t ∧ t.link.cacheEnable = on ∧ t.link.mode = s.link.mode ∧ t.jobs = s.jobs := by
  change ∃ t, execCacheEnableChange on s = .next t ∧ _
  unfold execCacheEnableChange
  rw [if_neg h]
  cases on with
  | true =>
    rw [if_pos rfl]
    generalize hu : modLink (fun l => { l with cacheEnable := true }) s = u
    have hlink : (cacheFollows s (raise cachePage 0x011A 1 u)).link = u.link := by rw [(cacheFollows_frame ..).1, (raise_frame ..).2.1]
    have hjobs : (cacheFollows s (raise cachePage 0x011A 1 u)).jobs = u.jobs := by rw [(cacheFollows_frame ..).2, (raise_frame ..).2.2.2.1]
    refine ⟨_, rfl, ?_, ?_, ?_⟩
    · rw [hlink, ← hu]; rfl
    · rw [hlink, ← hu]; rfl
    · rw [hjobs, ← hu]; rfl
  | false =>
    rw [if_neg Bool.false_ne_true]
    obtain ⟨helink, hejobs⟩ := evictAll_frame s
    generalize evictAll s = e at helink hejobs ⊢
    generalize hu : modLink (fun l => { l with cacheEnable := false }) e = u
    have hlink : (raise cachePage 0x011A 0 (cacheFollows s u)).link = u.link := by rw [(raise_frame ..).2.1, (cacheFollows_frame ..).1]
    have hjobs : (raise cachePage 0x011A 0 (cacheFollows s u)).jobs = u.jobs := by rw [(raise_frame ..).2.2.2.1, (cacheFollows_frame ..).2]
    refine ⟨_, rfl, ?_, ?_, ?_⟩
    · rw [hlink, ← hu]; rfl
    · rw [hlink, ← hu, ← helink]; rfl
    · rw [hjobs, ← hu, ← hejobs]; rfl

theorem ideStream_of_link (h : t.link.ioState = s.link.ioState ∧ t.link.cacheState = s.link.cacheState ∧ t.link.selective = s.link.selective) (k : Nat) :
    ideStream t k = ideStream s k := by
  obtain ⟨h1, h2, h3⟩ := h
  rw [ideStream, ideStream, h1, h2, h3]

/-- What a stream holds once stream `n` is set (R119). -/
theorem ideStream_setStream (n : Nat) (v : BitVec 2) (s : State) (k : Nat) : ideStream (setStream n v s) k = if k = n then v else ideStream s k := by
  unfold setStream
  by_cases h0 : n = 0
  · subst h0
    by_cases hk : k = 0
    · simp [ideStream, modLink, hk]
    · simp [ideStream, modLink, hk]
  · by_cases h1 : n = 1
    · subst h1
      by_cases hk : k = 1
      · simp [ideStream, modLink, hk]
      · simp [ideStream, modLink, hk]
    · by_cases hk : k = n
      · subst hk
        simp [ideStream, modLink, h0, h1, mget_mset]
      · by_cases hk0 : k = 0
        · simp [ideStream, modLink, h0, h1, hk0, Ne.symm h0]
        · by_cases hk1 : k = 1
          · simp [ideStream, modLink, h0, h1, hk1, Ne.symm h1]
          · have hne : k - 2 ≠ n - 2 := by omega
            simp [ideStream, modLink, h0, h1, hk, hk0, hk1, mget_mset, hne]

theorem ideChanged_streams (before s : State) (k : Nat) : ideStream (ideChanged before s) k = ideStream s k := by
  unfold ideChanged
  split
  · exact ideStream_of_link (by rw [reopen_link]; exact ⟨rfl, rfl, rfl⟩) k
  · split
    · rfl
    · exact ideStream_of_link (by rw [(raise_frame ..).2.1]; exact ⟨rfl, rfl, rfl⟩) k

theorem integrity_fails {n : Nat} (hn : n < 6) (hs : ideStream s n ≠ 0) :
    ∃ t, exec (.ideIntegrityFail n) s = .next t ∧ ideStream t n = 2 ∧ ∀ k, k < 6 → k ≠ n → ideStream t k = ideStream s k := by
  have hstream : ∀ k, ideStream (ideChanged s (raise phyPage 0x010E n (setStream n 2 s))) k = if k = n then 2 else ideStream s k := fun k => by
    rw [ideChanged_streams, ideStream_of_link (s := setStream n 2 s) (by rw [(raise_frame ..).2.1]; exact ⟨rfl, rfl, rfl⟩), ideStream_setStream]
  exact answered (congrArg Host.Outcome.next (if_pos ⟨hn, hs⟩)) ⟨(hstream n).trans (if_pos rfl), fun k _ hk => (hstream k).trans (if_neg hk)⟩

theorem error_counted (status : Nat) (s : State) :
    ∃ t, exec (.correctableLinkError status) s = .next t ∧ t.link.aerCorrectable = s.link.aerCorrectable + 1 ∧ t.out = .aer true :: s.out ∧
      t.jobs = s.jobs ∧ t.chans = s.chans := by
  refine ⟨_, rfl, ?_, raise_leaves (π := .out) (s := emit (.aer true) (modLink (fun l => { l with aerCorrectable := l.aerCorrectable + 1 }) s)) rfl (.refl _), raise_leaves (π := .jobs) rfl rfl, raise_leaves (π := .chans) rfl rfl⟩
  rw [(raise_frame ..).2.1]
  rfl

end

/-- Settles O19: each event of the link. -/
theorem linkEventsTakeEffect : Obligations.LinkEventsTakeEffect := by
  unfold Obligations.LinkEventsTakeEffect
  intro s kept
  refine ⟨fun cxl eqFailed width rate hw h1 h5 => link_trains hw h1 h5, bme_cleared, ⟨_, rfl, ?_⟩, d3hot_entered, ⟨_, rfl, ?_⟩, fun on => cacheEnable_changes,
    fun n hn hs => integrity_fails hn hs, fun status => error_counted status s⟩
  · obtain ⟨hlink, hjobs⟩ := reopened (fun l => { l with bme := true }) s
    exact ⟨congrArg (·.bme) hlink, hjobs⟩
  · obtain ⟨hlink, hjobs⟩ := reopened (fun l => { l with d3hot := false }) s
    exact ⟨congrArg (·.d3hot) hlink, hjobs⟩

end Sys2Proof.Machine

end

section
/-!
SUPPORT. Maintenance activities. O24.
-/
namespace Sys2Proof.Machine
open Sys2Proof Sys2Proof.Statements

/-! ### Maintenance activities -/

section
variable {s t u : State}

/-- An activity that is stopped, or that the pressure level stops, may not step (R91). -/
theorem maintGo_stopped {a : Nat} (h : maintRuns s a = false ∨ level s = 3 ∨ (level s ≠ 0 ∧ a ∈ [0, 1, 2, 4, 5, 6])) : maintGo s a = false := by
  unfold maintGo
  rcases h with h | h | ⟨h, ha⟩
  · simp [h]
  · simp [h]
  · have hcost : ∀ b ∈ [0, 1, 2, 4, 5, 6], maintCost b ≠ [] := by decide
    obtain ⟨c, cs, hc⟩ := List.exists_cons_of_ne_nil (hcost a ha)
    rw [hc]
    simp [h]

/-- A step that may go and is charged no slices runs on the state as it is (R53). -/
theorem maintStep_runs {a : Nat} {f : State → State} (h : maintGo s a = true) (ht : maintTake a s = s) : maintStep a s f = f s := by
  rw [maintStep, if_pos h, ht]

theorem maintStep_waits {a : Nat} {f : State → State} (h : maintGo s a = false) : Host.Outcome.next (maintStep a s f) = (Host.Outcome.next s : Res) :=
  congrArg Host.Outcome.next (if_neg (by simp [h]))

theorem rebalance_waits {n : Nat} {b : Bool} (h : maintGo s 9 = false) : exec (.rngRebalanceSource n b) s = .next s := by
  change execRngRebalanceSource n b s = _
  unfold execRngRebalanceSource
  split
  · rfl
  · exact maintStep_waits h

theorem maintTake_vault (a : Nat) (s : State) : (maintTake a s).vault = s.vault := maintTake_leaves (π := .vault) rfl rfl

theorem maintTake_stop (a : Nat) (s : State) : (maintTake a s).sched.stopPending = s.sched.stopPending := by
  unfold maintTake
  generalize maintCost a = l
  refine forAll_ind (p := fun u => u.sched.stopPending = s.sched.stopPending) (fun c u hu => ?_) l s rfl
  exact hu

/-! The token vault's activities -/

theorem writeVersion_keyGen (k : Nat) (r : VaultRec) (s : State) : (writeVersion k r s).vault.keyGen = s.vault.keyGen := by
  unfold writeVersion
  split
  · rfl
  · next n hn =>
    have hv : n.2.vault = s.vault := takeNonce_leaves (π := .vault) (t := s) (s := s) rfl rfl _ hn
    unfold putVersion appendJournal
    dsimp only
    split
    · rw [(raise_frame ..).2.2.2.2.2.2.2.2.2.2.2.2.1]
      exact congrArg (·.keyGen) hv
    · exact congrArg (·.keyGen) hv

theorem leaf_rekeyed {e : Nat × VaultRec} (hgo : maintGo s 0 = true) (hleaf : s.vault.rekeyLeaf ≠ 0)
    (he : s.vault.records.find? (fun e => decide (s.vault.rekeyLeaf ≤ e.1 / 64)) = some e) (hstop : s.sched.stopPending.getLsbD 0 = false) :
    ∃ t, exec .vaultRekeyLeaf s = .next t ∧ t.vault.rekeyLeaf = e.1 / 64 + 1 ∧ t.vault.keyGen = s.vault.keyGen := by
  change ∃ t, execVaultRekeyLeaf s = .next t ∧ _
  unfold execVaultRekeyLeaf maintStep
  rw [if_pos hgo]
  have hv := maintTake_vault 0 s
  have hst : (maintTake 0 s).sched.stopPending.getLsbD 0 = false := by rwa [maintTake_stop]
  generalize maintTake 0 s = u at hv hst ⊢
  dsimp only
  rw [if_neg (fun h => hleaf (hv ▸ h.1)), if_neg (by rwa [hv])]
  split
  · next hn =>
    rw [hv, he] at hn
    cases hn
  · next k r hk =>
    rw [hv, he] at hk
    obtain rfl : e = (k, r) := Option.some.inj hk
    have hkept : ∀ l : List (Nat × VaultRec), let w := forAll l (fun e t => if e.2.keyGen = u.vault.keyGen then t else writeVersion e.1 e.2 t) u
        w.sched = u.sched ∧ w.vault.keyGen = u.vault.keyGen := fun l =>
      forAll_ind (p := fun w => w.sched = u.sched ∧ w.vault.keyGen = u.vault.keyGen) (fun e w hw => by
        split
        · exact hw
        · exact ⟨Eq.trans (writeVersion_leaves (π := .sched) rfl rfl) hw.1, (writeVersion_keyGen ..).trans hw.2⟩) l u ⟨rfl, rfl⟩
    obtain ⟨hsched, hgen⟩ := hkept (leafRecords u (k / 64))
    generalize forAll (leafRecords u (k / 64)) (fun e t => if e.2.keyGen = u.vault.keyGen then t else writeVersion e.1 e.2 t) u = w at hsched hgen ⊢
    have hw : (modVault (fun v => { v with rekeyLeaf := k / 64 + 1 }) w).sched.stopPending.getLsbD 0 = false := by
      change w.sched.stopPending.getLsbD 0 = false
      rw [hsched, hst]
    rw [if_neg (fun h => absurd (hw.symm.trans h) (by decide))]
    exact ⟨_, rfl, rfl, hgen.trans (by rw [hv])⟩

theorem rekey_ends (hgo : maintGo s 0 = true) (hleaf : s.vault.rekeyLeaf ≠ 0)
    (he : s.vault.records.find? (fun e => decide (s.vault.rekeyLeaf ≤ e.1 / 64)) = none) :
    ∃ t, exec .vaultRekeyLeaf s = .next t ∧ t.vault.rekeyLeaf = 0 ∧ t.vault.records = s.vault.records := by
  change ∃ t, execVaultRekeyLeaf s = .next t ∧ _
  unfold execVaultRekeyLeaf maintStep
  rw [if_pos hgo]
  have hv := maintTake_vault 0 s
  generalize maintTake 0 s = u at hv ⊢
  dsimp only
  rw [if_neg (fun h => hleaf (hv ▸ h.1)), if_neg (by rwa [hv])]
  split
  · have hend : (raise vaultPage 0x0414 u.vault.keyGen (endActivity 0 (modVault (fun v => { v with rekeyLeaf := 0 }) u))).vault = { u.vault with rekeyLeaf := 0 } :=
      raise_leaves (π := .vault) (s := modVault (fun v => { v with rekeyLeaf := 0 }) u) rfl (endActivity_leaves rfl (.refl _))
    exact ⟨_, rfl, congrArg (·.rekeyLeaf) hend, (congrArg (·.records) hend).trans (by rw [hv])⟩
  · next k r hk =>
    rw [hv, he] at hk
    cases hk

theorem leaf_moved {leaf : Nat} (hgo : maintGo s 4 = true) (hhome : (mfind leaf s.vault.homes).isSome = true) :
    ∃ t, exec (.vaultGcStep (.move leaf)) s = .next t ∧ mfind leaf t.vault.homes = none := by
  change ∃ t, execVaultGcStep (.move leaf) s = .next t ∧ _
  unfold execVaultGcStep maintStep
  rw [if_pos hgo]
  have hv := maintTake_vault 4 s
  generalize maintTake 4 s = u at hv ⊢
  dsimp only
  rw [if_neg (by simpa [hv, Option.isSome_iff_ne_none] using hhome)]
  generalize forAll (leafRecords u leaf) _ _ = w
  generalize hm : modVault (fun v => { v with homes := merase leaf v.homes, leafCache := v.leafCache.filter (fun x => decide (x ≠ leaf)), dirty := merase leaf v.dirty }) w = x
  have hx : (safePoint 4 x).vault = x.vault := safePoint_leaves (π := .vault) rfl rfl
  refine ⟨_, rfl, ?_⟩
  rw [hx, ← hm]
  exact (mfind_merase ..).trans (if_pos rfl)

theorem block_erased {b : Nat} (hgo : maintGo s 4 = true) (hleaves : leavesIn s b = []) (hnamed : blockNamed s b = false)
    (hbusy : (mget {} s.vault.planes (planeOf b)).busy = false) (hret : (mget {} s.vault.blocks b).retired = false)
    (h : (mget {} s.vault.blocks b).interrupted = true ∨ (mget {} s.vault.blocks b).area = 1) :
    exec (.vaultGcStep (.erase b)) s = .next (safePoint 4 (beginErase b (maintTake 4 s))) := by
  change execVaultGcStep (.erase b) s = _
  unfold execVaultGcStep maintStep
  rw [if_pos hgo]
  have hv := maintTake_vault 4 s
  have hj : (maintTake 4 s).jobs = s.jobs := maintTake_leaves (π := .jobs) rfl rfl
  generalize maintTake 4 s = u at hv hj ⊢
  have hl : leavesIn u b = leavesIn s b := by rw [leavesIn, leavesIn, hv]
  have hn : blockNamed u b = blockNamed s b := by simp only [blockNamed, jobAt, hv, hj]
  refine congrArg Host.Outcome.next (if_neg ?_)
  rw [hv, hl, hn]
  rintro (hc | hc | hc | hc | ⟨hc, hd⟩)
  · exact hc hleaves
  · exact absurd (hnamed.symm.trans hc) (by decide)
  · exact absurd (hbusy.symm.trans hc) (by decide)
  · exact absurd (hret.symm.trans hc) (by decide)
  · exact h.elim hc hd

theorem page_patrolled {block iterations : Nat} (hgo : maintGo s 6 = true) :
    ∃ t, exec (.vaultPatrolPage block iterations) s = .next t ∧ t.vault.patrolPage = s.vault.patrolPage + 1 := by
  change ∃ t, execVaultPatrolPage block iterations s = .next t ∧ _
  unfold execVaultPatrolPage maintStep
  rw [if_pos hgo]
  have hv := maintTake_vault 6 s
  generalize maintTake 6 s = u at hv ⊢
  dsimp only
  generalize hw : noteDecode iterations (modVault (fun v => { v with patrolPage := v.patrolPage + 1 }) u) = w
  have hp : w.vault.patrolPage = s.vault.patrolPage + 1 := by
    subst hw
    exact congrArg (·.patrolPage + 1) hv
  have hr : (refreshBlock block w).vault.patrolPage = w.vault.patrolPage := by
    unfold refreshBlock
    rw [(raise_frame ..).2.2.2.2.2.2.2.2.2.2.2.2.1]
    rfl
  have hsafe : ∀ x : State, (safePoint 6 x).vault = x.vault := fun x => safePoint_leaves (π := .vault) rfl rfl
  refine ⟨_, rfl, ?_⟩
  rw [hsafe]
  split
  · rw [hr, hp]
  · exact hp

theorem patrolSeen_untouched {row : Nat} (h : (mfind (RowPlace.dram (32 * row)).address.toNat s.rowFaults) = none) : patrolSeen s row = .good [] :=
  if_pos (by rw [h]; rfl)

theorem row_patrolled {channel : Nat} {corrected : Bool} (hgo : maintGo s 7 = true) :
    let row := RowPlace.dram (32 * s.vault.patrolRow)
    ∃ t, exec (.dramPatrolRow channel corrected) s = .next t ∧ t.vault.patrolRow = (s.vault.patrolRow + 1) % 2 ^ 30 ∧ t.dram = s.dram ∧
      (corrected = true → t.rowFaults = (clearRow row s).rowFaults) ∧
      (corrected = false → (mfind row.address.toNat s.rowFaults) = none → t.rowFaults = s.rowFaults) := by
  change let row := RowPlace.dram (32 * s.vault.patrolRow); ∃ t, execDramPatrolRow channel corrected s = .next t ∧ _
  intro row
  unfold execDramPatrolRow
  rw [maintStep_runs hgo rfl]
  extract_lets r seen s1 s2
  have hdram : ∀ π : Part, π.Clear [.units, .recorder, .msix, .rowFaults] → π.Same s s1 := fun π hπ =>
    .ite (raise_leaves (hπ.mono rfl) (raise_leaves (hπ.mono rfl) (.rowFaults (hπ.mono rfl) (.refl s)))) (.ite (raise_leaves (hπ.mono rfl) (.refl s)) (.refl s))
  have hend : ∀ π : Part, π.Clear [.units, .recorder, .msix, .sched] → π.Same s2 (safePoint 7 (if r + 1 = 2 ^ 30 then raise vaultPage 0x0419 0 s2 else s2)) := fun π hπ =>
    safePoint_leaves (hπ.mono rfl) (.ite (raise_leaves (hπ.mono rfl) (.refl s2)) (.refl s2))
  have h2v : s2.vault.patrolRow = (r + 1) % 2 ^ 30 := rfl
  have h2d : s2.dram = s1.dram := rfl
  have h2f : s2.rowFaults = s1.rowFaults := rfl
  refine ⟨_, rfl, ?_, ?_, fun hc => ?_, fun hc hm => ?_⟩
  · exact (congrArg (·.patrolRow) (hend .vault rfl)).trans h2v
  · exact Eq.trans (hend .dram rfl) (h2d.trans (hdram .dram rfl))
  · refine Eq.trans (hend .rowFaults rfl) (h2f.trans ?_)
    have h1 : s1 = _ := if_pos (by rw [hc]; rfl)
    rw [h1]
    exact raise_leaves (π := .rowFaults) (s := clearRow row s) rfl (raise_leaves rfl (.refl _))
  · refine Eq.trans (hend .rowFaults rfl) (h2f.trans ?_)
    have hseen : seen = .good [] := patrolSeen_untouched hm
    have h1 : s1 = s := (if_neg (by rw [hc, hseen]; exact Bool.false_ne_true)).trans (if_neg (by rw [hseen]; exact Bool.false_ne_true))
    rw [h1]

/-! The other activities -/

theorem intoCache_keys (k : Nat) (s : State) : (intoCache k s).keys.rebuild = s.keys.rebuild ∧ (intoCache k s).keys.keys = s.keys.keys := by
  unfold intoCache
  split <;> exact ⟨rfl, rfl⟩

theorem key_rebuilt {b : Nat} {rest : List Nat} (hgo : maintGo s 3 = true) (hb : s.keys.rebuild = b :: rest) :
    ∃ t, exec .keyCacheRebuildBlock s = .next t ∧ t.keys.rebuild = rest ∧ t.keys.keys = s.keys.keys := by
  change ∃ t, execKeyCacheRebuildBlock s = .next t ∧ _
  unfold execKeyCacheRebuildBlock
  rw [maintStep_runs hgo rfl]
  split
  · next hk => cases hb.symm.trans hk
  next c cs hk =>
  obtain ⟨rfl, rfl⟩ := List.cons.inj (hb.symm.trans hk)
  extract_lets src s1 s2
  have h2 : s2.keys.rebuild = rest ∧ s2.keys.keys = s.keys.keys := by
    unfold s2
    split
    · refine forAll_ind (p := fun u : State => u.keys.rebuild = rest ∧ u.keys.keys = s.keys.keys) (fun y u hu => ?_) _ _ (intoCache_keys b s1)
      exact hu
    · exact ⟨rfl, rfl⟩
  have hend : (if rest = [] then raise keyPage 0x0518 0 (endActivity 3 s2) else safePoint 3 s2).keys = s2.keys := by
    split
    · exact raise_leaves (π := .keys) rfl (endActivity_leaves rfl rfl)
    · exact safePoint_leaves (π := .keys) rfl rfl
  exact ⟨_, rfl, (congrArg (·.rebuild) hend).trans h2.1, (congrArg (·.keys) hend).trans h2.2⟩

theorem reserve_compacted {block : Nat} (hgo : maintGo s 5 = true) (hlen : 86016 ≤ s.audit.held.length) (hbusy : (mget {} s.vault.planes (planeOf block)).busy = false) :
    ∃ t, exec (.auditReserveCompaction block) s = .next t ∧ t.audit.held = s.audit.held.drop 86016 ∧ t.audit.undelivered = s.audit.undelivered := by
  change ∃ t, execAuditReserveCompaction block s = .next t ∧ _
  unfold execAuditReserveCompaction maintStep
  rw [if_pos hgo]
  have hv := maintTake_vault 5 s
  have ha : (maintTake 5 s).audit = s.audit := maintTake_leaves (π := .audit) rfl rfl
  generalize maintTake 5 s = u at hv ha ⊢
  dsimp only
  rw [if_neg (by rw [ha]; omega), if_neg (by rw [hv, hbusy]; exact Bool.false_ne_true), ← ha]
  generalize hw : { u with audit := { u.audit with held := u.audit.held.drop 86016 } } = w
  have hend : (safePoint 5 (beginErase block w)).audit = w.audit := safePoint_leaves (π := .audit) rfl (beginErase_leaves rfl rfl)
  exact ⟨_, rfl, by rw [hend, ← hw], by rw [hend, ← hw]⟩

theorem sourceAt_rebalance (m k : Nat) (s : State) : sourceAt (modRng (fun r => { r with rebalance := m }) s) k = sourceAt s k := rfl

theorem source_rebalanced {n : Nat} (hn : n < 15) (hgo : maintGo s 9 = true) (hrun : s.rng.state = .running) (hreb : s.rng.rebalance = n) :
    ∃ t, exec (.rngRebalanceSource n true) s = .next t ∧ (sourceAt t n).healthy = true ∧ (sourceAt t n).trim = 0 ∧ t.rng.rebalance = n + 1 ∧
      ∀ k, k ≠ n → sourceAt t k = sourceAt s k := by
  change ∃ t, execRngRebalanceSource n true s = .next t ∧ _
  unfold execRngRebalanceSource maintStep
  rw [if_neg (by omega), if_pos hgo, show maintTake 9 s = s from rfl]
  dsimp only
  rw [if_pos rfl, if_pos hrun, if_neg (by omega)]
  generalize hw : modSource n (fun x => { x with healthy := true }) (modRng (fun r => { r with rebalance := n + 1 }) (modSource n (fun x => { x with trim := 0, atEnd := 0 }) s)) = w
  have hrng : (safePoint 9 w).rng = w.rng := safePoint_leaves (π := .rng) rfl rfl
  have hreb' : w.rng.rebalance = n + 1 := by
    subst hw
    rfl
  have hsrc : ∀ k, sourceAt w k = if k = n then { sourceAt s n with trim := 0, atEnd := 0, healthy := true } else sourceAt s k := fun k => by
    rw [← hw, sourceAt_modSource]
    split
    · rw [sourceAt_rebalance, sourceAt_modSource_same]
    · next hk => rw [sourceAt_rebalance, sourceAt_modSource_other hk]
  refine ⟨_, rfl, ?_, ?_, (congrArg (·.rebalance) hrng).trans hreb', fun k hk => ?_⟩
  · rw [sourceAt_of_rng hrng, hsrc, if_pos rfl]
  · rw [sourceAt_of_rng hrng, hsrc, if_pos rfl]
  · rw [sourceAt_of_rng hrng, hsrc, if_neg hk]

theorem rebalance_otherSource {n : Nat} (h : s.rng.rebalance ≠ n) (b : Bool) : exec (.rngRebalanceSource n b) s = .next s :=
  congrArg Host.Outcome.next (if_pos (.inr (Ne.symm h)))

/-! The staging areas of the code flash -/

/-- Sector `n` has the same count of erases. -/
def SameErases (n : Nat) (s t : State) : Prop := (sectorAt t n).erases = (sectorAt s n).erases

variable {n : Nat}

theorem SameErases.trans (h : SameErases n s t) (g : SameErases n t u) : SameErases n s u := Eq.trans g h

theorem SameErases.of_flash (h : t.flash = s.flash) : SameErases n s t := by rw [SameErases, sectorAt, sectorAt, h]

/-- A change of a sector's state that leaves its count, or of another sector. -/
theorem modSector_erases {m : Nat} {f : FlsSector → FlsSector} (h : m = n → ∀ e, (f e).erases = e.erases) (hs : SameErases n s t) : SameErases n s (modSector m f t) := by
  refine hs.trans ?_
  rw [SameErases, sectorAt_modSector]
  split
  · next he => rw [h he.symm, he]
  · rfl

theorem modFlash_erases {f : Flash → Flash} (h : ∀ x, (f x).sectors = x.sectors) (hs : SameErases n s t) : SameErases n s (modFlash f t) :=
  hs.trans (by rw [SameErases, sectorAt, sectorAt]; exact congrArg (fun m => (mget ({} : FlsSector) m n).erases) (h t.flash))

theorem ledgerWord_erases (body : Bytes) (m : Nat) (hs : SameErases n s t) : SameErases n s (ledgerWord body m t) :=
  modSector_erases (fun _ _ => rfl) (modFlash_erases (fun _ => rfl) (modFlash_erases (fun _ => rfl) (hs.trans (.of_flash rfl))))

theorem ownErase_erases {log : Bytes → Nat → State → State} {m : Nat} (hm : m ≠ n) (hlog : ∀ b k u, SameErases n s u → SameErases n s (log b k u)) (hs : SameErases n s t) :
    SameErases n s (ownErase log m t) := by
  unfold ownErase
  split
  · exact hs
  · exact modFlash_erases (fun _ => rfl) (modSector_erases (fun h => absurd h hm) (hlog _ _ _ (modFlash_erases (fun _ => rfl)
      (.trans (hlog _ _ _ (hs.trans (.of_flash (t := (draw t).2) rfl))) (.of_flash (clearRows_leaves (π := .flash) rfl rfl))))))

/-- The ledger keeps its own sectors, 132 to 159, and changes no other's count (R613). -/
theorem appendLedger_erases (hn : n < 132 ∨ 159 < n) (body : Bytes) (m : Nat) (hs : SameErases n s t) : SameErases n s (appendLedger body m t) := by
  unfold appendLedger
  refine ledgerWord_erases body m ?_
  split
  · unfold ledgerTurn
    refine ownErase_erases (by omega) (fun _ _ _ hu => ledgerWord_erases _ _ hu) (forAll_ind (p := SameErases n s) (fun e u hu => ?_) _ _ hs)
    split
    · exact ledgerWord_erases _ _ (ledgerWord_erases _ _ hu)
    · exact ledgerWord_erases _ _ hu
  · exact hs

/-- An erase that passed counts once (R613). -/
theorem finishErase_counts (hn : n < 132 ∨ 159 < n) (served pulses : Nat) (s : State) :
    (sectorAt (finishErase n served pulses true s).2 n).erases = (sectorAt s n).erases + 1 ∧ (sectorAt (finishErase n served pulses true s).2 n).interrupted = false := by
  unfold finishErase
  extract_lets epoch e s1 s2 s3 s4
  rw [if_pos rfl]
  have h1 : SameErases n s s1 := appendLedger_erases hn _ _ rfl
  have h4 : s4.flash = s2.flash := Part.Same.ite (π := .flash) (raise_leaves rfl (.ite (raise_leaves rfl (.refl s2)) (.refl s2))) (.ite (raise_leaves rfl (.refl s2)) (.refl s2))
  have h2 : sectorAt s2 n = { sectorAt s1 n with erases := (sectorAt s1 n).erases + 1, pulses := (sectorAt s1 n).pulses + pulses } :=
    (sectorAt_modSector n n (fun e => { e with erases := e.erases + 1, pulses := e.pulses + pulses }) s1).trans (if_pos rfl)
  have hc : sectorAt (clearSector served s4) n = sectorAt s2 n := by
    have hf : (clearRows (.codeFlash (0x10000 * served)) 2048 s4).flash = s4.flash := clearRows_leaves (π := .flash) rfl rfl
    rw [sectorAt, sectorAt, ← h4, ← hf]
    rfl
  rw [sectorAt_modSector, if_pos rfl, hc, h2]
  exact ⟨congrArg (· + 1) h1, rfl⟩

/-- The staging areas lie outside the ledger's sectors. -/
theorem inactiveTarget_range {sector target : Nat} (h : inactiveTarget s sector = some target) : sector < 132 ∨ 159 < sector := by
  have h2 := List.find?_some h
  have h1 := List.mem_of_find?_eq_some h
  replace h2 := of_decide_eq_true h2
  unfold inactiveBase at h2
  generalize (!slotInUse s target) = b at h2
  simp only [List.mem_cons, List.not_mem_nil, or_false] at h1
  rcases h1 with rfl | rfl | rfl <;> cases b <;> simp [slotBase, slotSize] at h2 <;> omega

theorem staging_erased {sector target pulses : Nat} (hgo : maintGo s 8 = true) (ht : inactiveTarget s sector = some target) (hst : s.flash.staging.getLsbD target = true)
    (her : sectorErased s sector = false) (hfail : (sectorAt s sector).failed = false) (hidle : (partAt s (sector / 512)).state = .idle) (hpf : s.power.failSeq = false) :
    ∃ t, exec (.codeFlashStagingSector sector pulses true) s = .next t ∧ (sectorAt t sector).erases = (sectorAt s sector).erases + 1 ∧ (sectorAt t sector).interrupted = false := by
  change ∃ t, execCodeFlashStagingSector sector pulses true s = .next t ∧ _
  unfold execCodeFlashStagingSector
  rw [maintStep_runs hgo rfl]
  rw [ht]
  dsimp only
  rw [if_neg (by simp [hst, her, hfail, hidle, hpf]), if_pos rfl]
  have hrange := inactiveTarget_range ht
  have hs1 := appendLedger_erases (t := modFlash (fun f => { f with verified := f.verified &&& ~~~ BitVec.ofNat 3 (2 ^ target) }) s) hrange
    (ledgerBody 1 0 sector ((sectorAt s sector).erases + 1) (sectorAt s sector).pulses 0 0 s.sched.epoch.toNat) sector (modFlash_erases (s := s) (fun _ => rfl) rfl)
  generalize appendLedger _ sector _ = s1 at hs1 ⊢
  obtain ⟨hcount, hint⟩ := finishErase_counts hrange (servedBy s sector) pulses s1
  generalize (finishErase sector (servedBy s sector) pulses true s1).2 = w at hcount hint ⊢
  have hsec : sectorAt (stagingPoint w) sector = sectorAt w sector := by
    rw [sectorAt, sectorAt, (stagingPoint_leaves (π := .flash) rfl rfl : (stagingPoint w).flash = w.flash)]
  exact ⟨_, rfl, by rw [hsec, hcount, hs1], by rw [hsec, hint]⟩

/-! The fold's resynchronisation -/

theorem resync_ends {member : Nat} (hgo : maintGo s 1 = true) (h : (upMembers (maintTake 1 s)).all (resyncedTo (maintTake 1 s)) = true) :
    exec (.foldResyncItem member) s = .next (raise (foldPage 0) 0x060F 0 (endActivity 1 (modFold (fun x => { x with told := [] }) (maintTake 1 s)))) := by
  change execFoldResyncItem member s = _
  unfold execFoldResyncItem maintStep
  rw [if_pos hgo]
  exact congrArg Host.Outcome.next (if_pos h)

theorem resync_sends {member : Nat} {c : Change} (hgo : maintGo s 1 = true) (h : (upMembers (maintTake 1 s)).all (resyncedTo (maintTake 1 s)) = false)
    (hm : member ∈ upMembers (maintTake 1 s)) (htold : member ∈ (maintTake 1 s).fold.told) (hc : nextFor (maintTake 1 s) member = some c) :
    exec (.foldResyncItem member) s = .next (sendChange member c (maintTake 1 s)) := by
  change execFoldResyncItem member s = _
  unfold execFoldResyncItem maintStep
  rw [if_pos hgo]
  generalize maintTake 1 s = u at h hm htold hc ⊢
  dsimp only
  rw [if_neg (fun e => absurd (h.symm.trans e) (by decide)), if_neg (fun e => e hm), if_pos htold, hc]

end

/-- Settles O24: each activity where it may step, and nothing where it may not. -/
theorem maintenanceActivitiesRun : Obligations.MaintenanceActivitiesRun := by
  unfold Obligations.MaintenanceActivitiesRun
  intro s
  refine ⟨fun a => rfl, fun a => maintGo_stopped, fun step member block n m b => ⟨maintStep_waits, maintStep_waits, maintStep_waits, maintStep_waits, maintStep_waits, maintStep_waits,
      maintStep_waits, maintStep_waits, maintStep_waits, rebalance_waits⟩,
    fun hgo hleaf => ⟨fun e he hstop => leaf_rekeyed hgo hleaf he hstop, rekey_ends hgo hleaf⟩,
    fun hgo => ⟨fun leaf => leaf_moved hgo, fun b hl hn hb hr h => block_erased hgo hl hn hb hr h, congrArg Host.Outcome.next (if_pos hgo)⟩,
    fun block iterations => page_patrolled, fun channel corrected => row_patrolled, fun hgo b rest => key_rebuilt hgo, fun block => reserve_compacted,
    fun sector target pulses hgo ht hst her hfail hidle hpf => staging_erased hgo ht hst her hfail hidle hpf, fun n => source_rebalanced, fun n => rebalance_otherSource, rfl,
    fun hgo => congrArg Host.Outcome.next (if_pos hgo), fun member hgo => ⟨resync_ends hgo, fun c h hm htold hc => resync_sends hgo h hm htold hc⟩⟩

end Sys2Proof.Machine

end

section
/-!
SUPPORT. The state of a unit. O57, O59.
-/
namespace Sys2Proof.Machine
open Sys2Proof Sys2Proof.Statements

/-! ### The state of a unit -/

section
variable {s : State} {p q : Nat}

/-- A page read after its unit and the others' stamps are written (R9, R756). -/
theorem setUnitState_read (p : Nat) (st : UState) (cause : Cause) (s : State) (q : Nat) :
    ∃ x, unitAt (setUnitState p st cause s) q = { (if q = p then { unitAt s p with state := st, cause := cause } else unitAt s q) with stamp := x } := by
  unfold setUnitState
  dsimp only
  split
  · next h =>
    obtain ⟨hst, hcause⟩ := h
    refine ⟨(unitAt s q).stamp, ?_⟩
    split
    · next hq => rw [hq, ← hst, ← hcause]
    · rfl
  · refine forAll_ind (p := fun t => ∃ x, unitAt t q = { (if q = p then { unitAt s p with state := st, cause := cause } else unitAt s q) with stamp := x }) (fun a t ht => ?_) _ _ ?_
    · obtain ⟨x, hx⟩ := ht
      rw [unitAt_modUnit]
      split
      · next hq => exact ⟨_, by rw [← hq, hx]⟩
      · exact ⟨x, hx⟩
    · rw [unitAt_modUnit]
      split
      · exact ⟨_, rfl⟩
      · exact ⟨_, rfl⟩

theorem setUnitState_state (p : Nat) (st : UState) (cause : Cause) (s : State) : (unitAt (setUnitState p st cause s) p).state = st := by
  obtain ⟨x, hx⟩ := setUnitState_read p st cause s p
  rw [hx, if_pos rfl]

/-- A unit that fails is FAILED (R753). -/
theorem failUnit_state (p : Nat) (s : State) : (unitAt (failUnit p s) p).state = .failed := by
  unfold failUnit
  extract_lets old s1 s2
  split
  · assumption
  · have h2 : (unitAt s2 p).state = .failed := (raise_unit ..).1.trans (setUnitState_state ..)
    split
    · exact (raise_unit ..).1.trans h2
    · exact h2

end

end Sys2Proof.Machine

end

section
/-!
SUPPORT. Audited commands. O57.
-/
namespace Sys2Proof.Machine
open Sys2Proof Sys2Proof.Statements

/-! ### Audited commands -/

section
variable {s : State} {m : Master}

theorem bit_pow (i a : Nat) : bit i (2 ^ a) = decide (a = i) := Nat.testBit_two_pow ..

/-- What MAINT_STOP shows of a stop: the activity, where it runs (R84). -/
theorem stopTaken_pow (a : Nat) (s : State) : stopTaken (2 ^ a) s = if a < 10 ∧ maintAt s a ≠ .idle then 2 ^ a else 0 := by
  unfold stopTaken
  by_cases h : a < 10 ∧ maintAt s a ≠ .idle
  · have hlt : 2 ^ a < 1024 := Nat.pow_lt_pow_right (by omega) h.1
    rw [if_pos (List.any_eq_true.2 ⟨a, List.mem_range.2 h.1, by simp [bit_pow, h.2]⟩), if_pos h, Nat.mod_eq_of_lt hlt]
  · rw [if_neg, if_neg h]
    intro hany
    obtain ⟨i, hi, hb⟩ := List.any_eq_true.1 hany
    simp only [bit_pow, Bool.and_eq_true, decide_eq_true_eq] at hb
    obtain ⟨rfl, hne⟩ := hb
    exact h ⟨List.mem_range.1 hi, hne⟩

theorem maintStop_recorded {a : Nat} (h : WriteOpen (schAddr 0x154) m s) :
    exec (.maintStop m a) s = .next (recordedAs (schAddr 0x154) m (fun t => schWord t 0x154) (if a < 10 ∧ maintAt s a ≠ .idle then 2 ^ a else 0) (schWriteWord 0x154 (2 ^ a)) s) := by
  rw [← stopTaken_pow]
  exact congrArg Host.Outcome.next ((audited_of_open h).trans (by rw [show schWord (schWriteWord 0x154 (2 ^ a) s) 0x154 = 0 from rfl, Nat.zero_add]; rfl))

theorem maintStart_recorded {a : Nat} (h : WriteOpen (schAddr 0x150) m s) :
    exec (.maintStart (some m) a) s = .next (recordedAs (schAddr 0x150) m (fun t => schWord t 0x150) (2 ^ a % 1024) (schWriteWord 0x150 (2 ^ a)) s) :=
  congrArg Host.Outcome.next ((audited_of_open h).trans (by rw [show schWord (schWriteWord 0x150 (2 ^ a) s) 0x150 = 0 from rfl, Nat.zero_add]; rfl))

theorem selftest_recorded {e : Nat} (he : e < 64) (h : WriteOpen (sigPage * 0x1000 + 0x114) m s) :
    exec (.sigSelftestStart m e) s
      = .next (recordedAs (sigPage * 0x1000 + 0x114) m (fun t => sigWord t 0x114)
          (sigWord (sigWriteWord 0x114 (256 + e) s) 0x114 + (if (mget {} s.sig.engines e).quarantined ∧ s.sig.stBusy = none then 256 else 0)) (sigWriteWord 0x114 (256 + e)) s) := by
  change execSigSelftestStart m e s = _
  unfold execSigSelftestStart
  dsimp only
  rw [Nat.mod_eq_of_lt he]
  have htaken : 256 * b2n (selftestTaken e s) = if (mget {} s.sig.engines e).quarantined ∧ s.sig.stBusy = none then 256 else 0 := by
    unfold selftestTaken
    by_cases hq : (mget {} s.sig.engines e).quarantined = true
    · by_cases hb : s.sig.stBusy = none
      · simp [hq, hb, b2n]
      · simp [hq, hb, b2n]
    · simp [hq, b2n]
  refine congrArg Host.Outcome.next (Eq.trans (audited_of_open (addr := sigPage * 0x1000 + 0x114) h) ?_)
  rw [htaken]
  rfl

theorem keyBays_recorded {bays : Nat} (hb : bays < 256) (h : WriteOpen (keyTile * 0x1000 + 0x11C) m s) :
    exec (.keyBayFlush m bays) s = .next (recordedAs (keyTile * 0x1000 + 0x11C) m (fun t => keyWord t 0x11C) bays (keyWriteWord 0x11C bays) s) := by
  refine congrArg Host.Outcome.next ((audited_of_open h).trans ?_)
  rw [show keyWord (keyWriteWord 0x11C bays s) 0x11C = 0 from rfl, Nat.zero_add, Nat.mod_eq_of_lt hb]
  rfl

theorem restart_recorded (h : WriteOpen (pageAddr rngTile 0x104) m s) :
    exec (.rngRestart m) s = .next (recordedAs (pageAddr rngTile 0x104) m (fun t => rngWord t 0x104)
      (if (s.rng.state = .running ∨ s.rng.state = .halted) ∧ rngTileWorks s = true then 1 else 0) (rngWriteWord 0x104 1) s) := by
  have htaken : b2n (restartTaken s) = if (s.rng.state = .running ∨ s.rng.state = .halted) ∧ rngTileWorks s = true then 1 else 0 := by
    simp only [b2n, restartTaken, Bool.and_eq_true, Bool.or_eq_true, decide_eq_true_eq]
  refine congrArg Host.Outcome.next ((audited_of_open h).trans ?_)
  rw [htaken, show rngWord (rngWriteWord 0x104 1 s) 0x104 = 0 from rfl, Nat.zero_add]
  rfl

theorem auditedCommandsTakeEffect : AuditedCommandsTakeEffect := by
  unfold AuditedCommandsTakeEffect
  intro s m
  refine ⟨fun ch h v => ⟨?_, ?_, ?_⟩, fun a => maintStart_recorded, fun a h => ⟨fun ha hne => ?_, fun hne => ?_⟩, fun e he h => selftest_recorded he h, fun bays hb h => keyBays_recorded hb h,
    fun hdl h => congrArg Host.Outcome.next (audited_of_open h), fun off v h => ⟨fun log2 => ?_, ?_, ?_, ?_⟩, restart_recorded, fun v h => congrArg Host.Outcome.next (audited_noSets h)⟩
  · rintro rfl
    exact congrArg Host.Outcome.next (audited_noSets h)
  · rintro rfl
    exact congrArg Host.Outcome.next (audited_noSets h)
  · rintro rfl
    exact congrArg Host.Outcome.next (audited_noSets h)
  · rw [maintStop_recorded h, if_pos ⟨ha, hne⟩]
  · rw [maintStop_recorded h, if_neg (fun hc => hne.elim hc.2 (by omega))]
  · rintro rfl rfl
    exact congrArg Host.Outcome.next (audited_noSets h)
  · rintro rfl rfl
    exact congrArg Host.Outcome.next (audited_noSets h)
  · rintro rfl rfl
    exact congrArg Host.Outcome.next (audited_noSets h)
  · rintro rfl rfl
    exact congrArg Host.Outcome.next (audited_noSets h)

/-! The audit ring and the policy of a full reserve -/

/-- The settings of the audit ring and of the full reserve are the same (R169, R484). -/
structure SameRing (a b : Audit) : Prop where
  enable : b.enable = a.enable
  log2 : b.log2 = a.log2
  configError : b.configError = a.configError
  disablePending : b.disablePending = a.disablePending
  gapPolicy : b.gapPolicy = a.gapPolicy
  stallEnd : b.stallEndPending = a.stallEndPending

theorem SameRing.refl (a : Audit) : SameRing a a := ⟨rfl, rfl, rfl, rfl, rfl, rfl⟩

theorem loseRec_ring (s : State) : SameRing s.audit (loseRec s).audit := by
  unfold loseRec
  extract_lets a s1
  have h1 : SameRing s.audit s1.audit := ⟨rfl, rfl, rfl, rfl, rfl, rfl⟩
  clear_value s1
  split
  · exact h1
  · rwa [(raise_frame ..).1]

/-- A record appended, or lost, changes no setting. -/
theorem appendConfig_ring (addr : RegAddr) (m : Master) (width old new : Nat) (s : State) : SameRing s.audit (appendConfig addr m width old new s).audit := by
  unfold appendConfig
  dsimp only
  split
  · split <;> exact ⟨rfl, rfl, rfl, rfl, rfl, rfl⟩
  · unfold appendOrLose
    split
    · exact loseRec_ring s
    · exact ⟨rfl, rfl, rfl, rfl, rfl, rfl⟩

theorem audAudited_answered {off v : Nat} (h : WriteOpen (pageAddr auditTile off) m s) :
    ∃ t, Host.Outcome.next (audAuditedWrite m off v s) = (Host.Outcome.next t : Res) ∧ SameRing (audWriteWord off v s).audit t.audit := by
  refine ⟨_, congrArg Host.Outcome.next (audited_noSets h), ?_⟩
  exact appendConfig_ring ..

theorem bit_zero_ctl (n : Nat) : bit 0 (1 + 256 * n) = true ∧ bit 0 (256 * n) = false := by
  unfold bit
  rw [Nat.testBit_zero, Nat.testBit_zero]
  exact ⟨decide_eq_true (by omega), decide_eq_false (by omega)⟩

theorem ctl_log2 (log2 : BitVec 5) : BitVec.ofNat 5 ((1 + 256 * log2.toNat) / 256) = log2 ∧ BitVec.ofNat 5 (256 * log2.toNat / 256) = log2 := by
  have h1 : (1 + 256 * log2.toNat) / 256 = log2.toNat := by omega
  have h2 : 256 * log2.toNat / 256 = log2.toNat := by omega
  rw [h1, h2]
  exact ⟨BitVec.ofNat_toNat .., BitVec.ofNat_toNat ..⟩

theorem audWriteWord_ctl (v : Nat) (s : State) : audWriteWord 0x108 v s =
    (let l := BitVec.ofNat 5 (v / 256)
     let s1 := if l = s.audit.log2 then s else if s.audit.enable then raise auditTile 0x0506 0x108 s else { s with audit := { s.audit with log2 := l } }
     if bit 0 v then enableRing s1 else { s1 with audit := { s1.audit with disablePending := s1.audit.enable } }) := rfl

theorem audWriteWord_policy (v : Nat) (s : State) : audWriteWord 0x114 v s =
    (if bit 0 v then { s with audit := { s.audit with gapPolicy := true, stallEndPending := s.audit.stalled } }
     else if s.audit.gapPolicy then
       let s1 := if s.audit.gapOpen ∧ s.audit.reserve64 ≠ 0 then appendGap true s else s
       { s1 with audit := { s1.audit with gapPolicy := false } }
     else s) := rfl

theorem audWriteWord_head (v : Nat) (s : State) : audWriteWord 0x110 v s =
    (if (BitVec.ofNat 32 v - s.audit.head).toNat ≤ (s.audit.tail - s.audit.head).toNat then { s with audit := { s.audit with head := BitVec.ofNat 32 v } } else s) := rfl

/-- Enabling the ring while it is off: the size is taken, and it is checked with the base and the indices (R169, R170). -/
theorem ringEnable_writes {log2 : BitVec 5} (he : s.audit.enable = false) :
    audWriteWord 0x108 (1 + 256 * log2.toNat) s = enableRing { s with audit := { s.audit with log2 := log2 } } := by
  rw [audWriteWord_ctl]
  dsimp only
  rw [(ctl_log2 log2).1, (bit_zero_ctl _).1, if_pos rfl]
  by_cases hl : log2 = s.audit.log2
  · rw [if_pos hl, hl]
  · rw [if_neg hl, if_neg (by simp [he])]

theorem ring_enabled {log2 : BitVec 5} (h : WriteOpen (pageAddr auditTile 0x108) m s) (he : s.audit.enable = false) (hb : s.audit.base ≠ 0) (h6 : 6 ≤ log2.toNat)
    (h20 : log2.toNat ≤ 20) (hht : s.audit.head = s.audit.tail) :
    ∃ t, exec (.audRingEnable m log2) s = .next t ∧ t.audit.enable = true ∧ t.audit.log2 = log2 ∧ t.audit.configError = false := by
  obtain ⟨t, ht, hr⟩ := audAudited_answered (v := 1 + 256 * log2.toNat) h
  have hw : enableRing { s with audit := { s.audit with log2 := log2 } } = { s with audit := { s.audit with log2 := log2, enable := true, configError := false } } :=
    (if_neg (by simp [he])).trans (if_pos ⟨hb, h6, h20, hht⟩)
  rw [ringEnable_writes he, hw] at hr
  exact ⟨t, ht, hr.enable, hr.log2, hr.configError⟩

theorem ring_refused {log2 : BitVec 5} (h : WriteOpen (pageAddr auditTile 0x108) m s) (he : s.audit.enable = false) (hl : log2.toNat < 6 ∨ 20 < log2.toNat) :
    ∃ t, exec (.audRingEnable m log2) s = .next t ∧ t.audit.enable = false ∧ t.audit.configError = true := by
  obtain ⟨t, ht, hr⟩ := audAudited_answered (v := 1 + 256 * log2.toNat) h
  have hw : (enableRing { s with audit := { s.audit with log2 := log2 } }).audit = { s.audit with log2 := log2, configError := true } := by
    unfold enableRing
    dsimp only
    rw [if_neg (by simp [he]), if_neg (by rintro ⟨-, h6, h20, -⟩; omega), (raise_frame ..).1]
  rw [ringEnable_writes he, hw] at hr
  exact ⟨t, ht, hr.enable.trans he, hr.configError⟩

theorem ring_disabled (h : WriteOpen (pageAddr auditTile 0x108) m s) (he : s.audit.enable = true) :
    ∃ t, exec (.audRingDisable m) s = .next t ∧ t.audit.disablePending = true ∧ t.audit.enable = true := by
  obtain ⟨t, ht, hr⟩ := audAudited_answered (v := 256 * s.audit.log2.toNat) h
  have hw : audWriteWord 0x108 (256 * s.audit.log2.toNat) s = { s with audit := { s.audit with disablePending := s.audit.enable } } := by
    rw [audWriteWord_ctl]
    dsimp only
    rw [(ctl_log2 _).2, (bit_zero_ctl _).2, if_pos rfl, if_neg Bool.false_ne_true]
  rw [hw] at hr
  exact ⟨t, ht, hr.disablePending.trans he, hr.enable.trans he⟩

theorem policy_gap (h : WriteOpen (pageAddr auditTile 0x114) m s) :
    ∃ t, exec (.audPolicyToGap m) s = .next t ∧ t.audit.gapPolicy = true ∧ t.audit.stallEndPending = s.audit.stalled := by
  obtain ⟨t, ht, hr⟩ := audAudited_answered (v := 1) h
  exact ⟨t, ht, hr.gapPolicy, hr.stallEnd⟩

theorem policy_stop (h : WriteOpen (pageAddr auditTile 0x114) m s) (hg : s.audit.gapPolicy = true) :
    ∃ t, exec (.audPolicyToStop m) s = .next t ∧ t.audit.gapPolicy = false := by
  obtain ⟨t, ht, hr⟩ := audAudited_answered (v := 0) h
  rw [audWriteWord_policy, if_neg (by decide), if_pos hg] at hr
  exact ⟨t, ht, hr.gapPolicy⟩

theorem auditRingAndPolicy : AuditRingAndPolicy := by
  unfold AuditRingAndPolicy
  intro s m
  refine ⟨fun h => ⟨fun log2 he hb h6 h20 hht => ring_enabled h he hb h6 h20 hht, fun log2 => ring_refused h, ring_disabled h⟩, fun v hres => ?_, fun h => ⟨policy_gap h, policy_stop h⟩⟩
  have hv : BitVec.ofNat 32 v.toNat = v := BitVec.ofNat_toNat ..
  have hexec : exec (.audRingHead v) s = .next (if (v - s.audit.head).toNat ≤ (s.audit.tail - s.audit.head).toNat then { s with audit := { s.audit with head := v } } else s) := by
    refine congrArg Host.Outcome.next ((if_pos hres).trans ?_)
    rw [audWriteWord_head, hv]
  exact ⟨fun hle => hexec.trans (by rw [if_pos hle]), fun hlt => hexec.trans (by rw [if_neg (by omega)])⟩

/-! Self-tests, key bays and the tag's key -/

theorem selftest_ends {e : Nat} {passed : Bool} (hb : s.sig.stBusy = some e) :
    ∃ t, exec (.sigSelftestEnd passed) s = .next t ∧ t.sig.stBusy = none ∧ t.sig.stResult = (if passed then 1 else 2) ∧ (mget {} t.sig.engines e).quarantined = false ∧
      ((unitAt s (enginePage 0 e)).state = .isolated → passed = false → (unitAt t (enginePage 0 e)).state = .failed) := by
  change ∃ t, execSigSelftestEnd passed s = .next t ∧ _
  unfold execSigSelftestEnd
  rw [hb]
  dsimp only
  generalize hu : { s with sig := { s.sig with stBusy := none, stLast := BitVec.ofNat 6 e, stResult := if passed then 1 else 2, engines := mupd {} s.sig.engines e (fun x => { x with quarantined := false }) } } = u
  have hsig : u.sig.stBusy = none ∧ u.sig.stResult = (if passed then 1 else 2) ∧ (mget {} u.sig.engines e).quarantined = false := by
    subst hu
    exact ⟨rfl, rfl, by rw [mget_mupd, if_pos rfl]⟩
  obtain ⟨h1, h2, h3⟩ := hsig
  split
  · next hstate => exact ⟨_, rfl, h1, h2, h3, fun hi => absurd hi hstate⟩
  · cases passed with
    | true =>
      have hs : (raise (enginePage 0 e) 0x020A e (releaseUnit (enginePage 0 e) u)).sig = u.sig := raise_leaves (π := .sig) rfl (releaseUnit_leaves rfl rfl)
      exact ⟨_, rfl, by rw [if_pos rfl, hs, h1], by rw [if_pos rfl, hs, h2], by rw [if_pos rfl, hs, h3], fun _ hp => absurd hp (by decide)⟩
    | false =>
      have hs : (failUnit (enginePage 0 e) (raise (enginePage 0 e) 0x020B e u)).sig = u.sig := failUnit_leaves (π := .sig) rfl (raise_leaves rfl rfl)
      exact ⟨_, rfl, by rw [if_neg Bool.false_ne_true, hs, h1], by rw [if_neg Bool.false_ne_true, hs, h2], by rw [if_neg Bool.false_ne_true, hs, h3],
        fun _ _ => by rw [if_neg Bool.false_ne_true]; exact failUnit_state ..⟩

section
variable {β : Type} [DecidableEq β] {d : β} {f : Nat → β → β} {k : Nat}

theorem mget_filter_cons {m : AMap β} {e : Nat × β} : mget d ((mapTotal d f (e :: m))) k =
    if f e.1 e.2 ≠ d ∧ e.1 = k then f e.1 e.2 else mget d (mapTotal d f m) k := by
  obtain ⟨j, v⟩ := e
  simp only [mapTotal, mapVals, List.map_cons, List.filter_cons]
  by_cases h : f j v = d
  · simp [h]
  · rw [if_pos (by simpa using h)]
    by_cases hj : j = k
    · rw [if_pos ⟨h, hj⟩, mget, mfind, if_pos hj, Option.getD_some]
    · rw [if_neg (fun e => hj e.2), mget, mfind, if_neg hj, mget]

/-- A property of the default and of every changed value holds of every value read after the change. -/
theorem mget_mapTotal_ind {P : β → Prop} (hd : P d) (hf : ∀ v, P (f k v)) (m : AMap β) : P (mget d (mapTotal d f m) k) := by
  induction m with
  | nil => exact hd
  | cons e m ih =>
    rw [mget_filter_cons]
    split
    · next h => rw [h.2]; exact hf e.2
    · exact ih

/-- In canonical form a number whose value stays reads as before. -/
theorem mget_mapTotal_same {m : AMap β} (hm : canonical d m = true) (hf : ∀ v, f k v = v) : mget d (mapTotal d f m) k = mget d m k := by
  induction m with
  | nil => rfl
  | cons e m ih =>
    obtain ⟨j, v⟩ := e
    simp only [canonical, Bool.and_eq_true, List.all_cons, decide_eq_true_eq] at hm
    obtain ⟨hrise, hne, hall⟩ := hm
    obtain ⟨hlt, hrest⟩ := rising_cons.1 hrise
    rw [mget_filter_cons]
    by_cases hj : j = k
    · subst hj
      rw [if_pos ⟨by rw [hf]; exact hne, rfl⟩, hf]
      simp [mget, mfind]
    · rw [if_neg (fun h => hj h.2), ih (by rw [canonical, hrest, hall]; rfl)]
      simp [mget, mfind, hj]

end

theorem bays_flushed {bays : Nat} (h : WriteOpen (keyTile * 0x1000 + 0x11C) m s) :
    ∃ t, exec (.keyBayFlush m bays) s = .next t ∧ t.keys.keys = s.keys.keys ∧ t.keys.pins = s.keys.pins ∧
      ∀ b, (bit b (bays % 256) = true → ∀ e ∈ (bayAt t b).entries, e.pinned = true) ∧
        (canonical {} s.keys.bays = true → bit b (bays % 256) = false → bayAt t b = bayAt s b) := by
  refine ⟨_, congrArg Host.Outcome.next (audited_of_open h), ?_⟩
  generalize hu : keyWriteWord 0x11C bays s = u
  have hkeys : ∀ old new, (appendConfig (keyTile * 0x1000 + 0x11C) m 4 old new u).keys = u.keys := fun old new => same_appendConfig (π := .keys) rfl
  have hbay : ∀ old new b, bayAt (appendConfig (keyTile * 0x1000 + 0x11C) m 4 old new u) b = bayAt u b := fun old new b => by rw [bayAt, bayAt, hkeys]
  rw [hkeys]
  subst hu
  refine ⟨rfl, rfl, fun b => ⟨fun hb => ?_, fun hc hb => ?_⟩⟩
  · rw [hbay]
    refine mget_mapTotal_ind (P := fun y : Bay => ∀ e ∈ y.entries, e.pinned = true) (fun e he => absurd he List.not_mem_nil) (fun y e he => ?_) s.keys.bays
    rw [if_pos hb] at he
    exact (List.mem_filter.1 he).2
  · rw [hbay]
    exact mget_mapTotal_same hc (fun y => if_neg (by simp [hb]))

theorem stileKey_taken {h : BitVec 64} (hw : WriteOpen (keeperPage * 0x1000 + 0x108) m s) :
    ∃ t, exec (.stlKeyHandleWrite m h) s = .next t ∧ t.keys = (takeStileKey h s).keys ∧ t.stile = (takeStileKey h s).stile := by
  refine ⟨_, congrArg Host.Outcome.next (audited_of_open hw), ?_⟩
  generalize takeStileKey h s = u
  exact ⟨same_appendConfig (π := .keys) rfl, same_appendConfig (π := .stile) rfl⟩

theorem selfTestsAndKeyRegisters : SelfTestsAndKeyRegisters := by
  unfold SelfTestsAndKeyRegisters
  exact fun s => ⟨fun e passed => selftest_ends, fun m bays => bays_flushed, fun m h => stileKey_taken⟩

end

/-- Settles O57: audited writes with their records, the audit ring, self-tests, key bays and the tag's key. -/
theorem auditedCommandsAndTheirEffects : Obligations.AuditedCommandsAndTheirEffects :=
  ⟨auditedCommandsTakeEffect, auditRingAndPolicy, selfTestsAndKeyRegisters⟩

end Sys2Proof.Machine

end

section
/-!
SUPPORT. The control fields of unit pages, and the power domains. O59.
-/
namespace Sys2Proof.Machine
open Sys2Proof Sys2Proof.Statements

/-! ### The control fields of unit pages -/

section
variable {s t u : State} {m : Master} {p : Nat}

/-- What UNIT_CTL, UNIT_STATE and UNIT_PROFILE hold of page `p` is the same. -/
structure SameControl (p : Nat) (s t : State) : Prop where
  state : (unitAt t p).state = (unitAt s p).state
  enable : (unitAt t p).enable = (unitAt s p).enable
  disableMode : (unitAt t p).disableMode = (unitAt s p).disableMode
  isolate : (unitAt t p).isolate = (unitAt s p).isolate
  profile : (unitAt t p).profile = (unitAt s p).profile
  requested : (unitAt t p).requested = (unitAt s p).requested

theorem SameControl.of_units (h : t.units = s.units) : SameControl p s t := by
  have hu := unitAt_eq_of_units h p
  exact ⟨by rw [hu], by rw [hu], by rw [hu], by rw [hu], by rw [hu], by rw [hu]⟩

theorem raise_control (q code detail : Nat) (s : State) : SameControl p s (raise q code detail s) := by
  obtain ⟨hstate, -, henable, hmode, hiso, hprof, hreq, -⟩ := raise_unit q code detail s p
  exact ⟨hstate, henable, hmode, hiso, hprof, hreq⟩

/-- A CONFIG record, or its loss, changes no unit's control fields. -/
theorem appendConfig_control (addr : RegAddr) (m : Master) (width old new : Nat) (s : State) : SameControl p s (appendConfig addr m width old new s) := by
  unfold appendConfig
  dsimp only
  split
  · split <;> exact .of_units rfl
  · unfold appendOrLose
    split
    · unfold loseRec
      extract_lets a s1
      have h1 : s1.units = s.units := rfl
      clear_value s1
      split
      · exact .of_units h1
      · have hr : SameControl p s1 (raise auditPage 0x051C (undeliveredCount s) s1) := raise_control ..
        have hu := unitAt_eq_of_units h1 p
        obtain ⟨a1, a2, a3, a4, a5, a6⟩ := hr
        exact ⟨by rw [a1, hu], by rw [a2, hu], by rw [a3, hu], by rw [a4, hu], by rw [a5, hu], by rw [a6, hu]⟩
    · exact .of_units rfl

theorem headWrite_answered {off v : Nat} (hp : pageExists p = true) (h : WriteOpen (pageAddr p off) m s) :
    ∃ t, Host.Outcome.next (headAuditedWrite m p off v s) = (Host.Outcome.next t : Res) ∧ SameControl p (headWriteWord p off v s) t := by
  refine ⟨_, congrArg Host.Outcome.next ((if_pos hp).trans (audited_noSets h)), ?_⟩
  exact appendConfig_control ..

/-! Leaf units that are no engine -/

theorem not_module_of_leaf (h : levelOf p = 1) : p ≠ modulePage := by
  rintro rfl
  exact absurd h (by decide)

theorem descendants_leaf (h : levelOf p = 1) : descendants p = [p] := by
  have hc : children p = [] := by
    unfold children
    rw [if_neg (not_module_of_leaf h)]
    split
    · next h4 => cases h.symm.trans h4
    · next h3 => cases h.symm.trans h3
    · next h2 => cases h.symm.trans h2
    · rfl
  rw [descendants, pagesBelow, hc, List.flatMap_nil]

theorem ctlWrite_leaf {v : Nat} (h : levelOf p = 1) (hfix : fixedUnit p = false) (hstate : (unitAt s p).state ≠ .failed) :
    headWriteWord p 0x014 v s = writeEnable p (bit 0 v) (bit 1 v) (writeIsolate p (bit 2 v) s) := by
  change ctlWrite p v s = _
  unfold ctlWrite
  rw [if_neg (by rw [hfix]; exact Bool.false_ne_true), descendants_leaf h, List.filter_cons, if_pos (by rw [hfix]; rfl)]
  change ctlPage v p s = _
  unfold ctlPage
  rw [if_pos h, if_neg hstate]

section
variable (hengine : engineOf p = none) (hrng : p ≠ rngPage)

include hengine in
theorem withdrawUnitJobs_none (s : State) : withdrawUnitJobs p s = s := by
  unfold withdrawUnitJobs
  rw [hengine]

include hengine in
theorem drainLedger_none (s : State) : drainLedger p s = s := by
  unfold drainLedger
  rw [hengine]

include hrng in
theorem unitStops_other (s : State) : unitStops p s = s := if_neg hrng

include hrng in
theorem unitStarts_other (s : State) : unitStarts p s = s := if_neg (fun h => hrng h.1)

include hengine in
/-- A unit that is no engine has nothing to wait for (R760). -/
theorem settleUnit_quiesced (hstate : (unitAt s p).state = .quiescing) (hw : (unitAt s p).withdrawn = 0) :
    (unitAt (settleUnit p s) p).state = .quiesced ∧ (unitAt (settleUnit p s) p).enable = (unitAt s p).enable ∧ (unitAt (settleUnit p s) p).disableMode = (unitAt s p).disableMode := by
  have hidle : unitIdle s p = true := by
    unfold unitIdle
    rw [hengine]
  unfold settleUnit
  dsimp only
  rw [if_pos ⟨hstate, hidle, by simp [hw]⟩]
  obtain ⟨h1, h2, h3, -⟩ := raise_control (p := p) p (commonCode p 7) (unitAt s p).withdrawn (modUnit p (fun u => { u with withdrawing := false, withdrawn := 0 }) (setUnitState p .quiesced .write s))
  obtain ⟨x, hx⟩ := setUnitState_read p .quiesced .write s p
  rw [h1, h2, h3, unitAt_modUnit, if_pos rfl, hx, if_pos rfl]
  exact ⟨rfl, rfl, rfl⟩

include hengine hrng in
/-- A unit that is on and is disabled stops at once (R760). -/
theorem writeEnable_disables {dm : Bool} (hstate : (unitAt s p).state = .on) :
    (unitAt (writeEnable p false dm s) p).state = .quiesced ∧ (unitAt (writeEnable p false dm s) p).enable = false ∧ (unitAt (writeEnable p false dm s) p).disableMode = dm := by
  unfold writeEnable
  dsimp only
  rw [hstate]
  dsimp only
  rw [if_neg Bool.false_ne_true, unitStops_other hrng, withdrawUnitJobs_none hengine, drainLedger_none hengine, ite_self]
  obtain ⟨x, hx⟩ := setUnitState_read p .quiescing .write (modUnit p (fun u => { u with withdrawing := dm, withdrawn := 0 }) (modUnit p (fun u => { u with enable := false, disableMode := dm }) s)) p
  rw [if_pos rfl, unitAt_modUnit, if_pos rfl, unitAt_modUnit, if_pos rfl] at hx
  generalize setUnitState p .quiescing .write _ = w at hx ⊢
  obtain ⟨h1, h2, h3⟩ := settleUnit_quiesced hengine (s := w) (by rw [hx]) (by rw [hx])
  exact ⟨h1, by rw [h2, hx], by rw [h3, hx]⟩

include hrng in
theorem writeEnable_enables {dm : Bool} (hstate : (unitAt s p).state = .quiesced) :
    (unitAt (writeEnable p true dm s) p).state = .on ∧ (unitAt (writeEnable p true dm s) p).enable = true := by
  unfold writeEnable
  dsimp only
  rw [hstate]
  dsimp only
  rw [if_pos rfl, unitStarts_other hrng]
  obtain ⟨x, hx⟩ := setUnitState_read p .on .write (modUnit p (fun u => { u with enable := true, disableMode := dm }) s) p
  rw [hx, if_pos rfl, unitAt_modUnit, if_pos rfl]
  exact ⟨rfl, rfl⟩

theorem writeEnable_isolated {en dm : Bool} (hstate : (unitAt s p).state = .isolated) :
    (unitAt (writeEnable p en dm s) p).state = .isolated ∧ (unitAt (writeEnable p en dm s) p).isolate = (unitAt s p).isolate := by
  unfold writeEnable
  dsimp only
  rw [hstate]
  dsimp only
  rw [unitAt_modUnit, if_pos rfl]
  exact ⟨hstate, rfl⟩

/-- A unit that is off and written as it was stays off (R762). -/
theorem writeEnable_off {dm : Bool} (hstate : (unitAt s p).state = .off) :
    (unitAt (writeEnable p (unitAt s p).enable dm s) p).state = .off ∧ (unitAt (writeEnable p (unitAt s p).enable dm s) p).isolate = (unitAt s p).isolate := by
  generalize he : (unitAt s p).enable = en
  unfold writeEnable
  dsimp only
  rw [hstate]
  dsimp only
  rw [if_neg (by simp [he]), if_neg (by simp [he]), unitAt_modUnit, if_pos rfl]
  exact ⟨hstate, rfl⟩

theorem writeIsolate_stays (hstate : (unitAt s p).state ≠ .isolated) : writeIsolate p false s = modUnit p (fun u => { u with isolate := false }) s := by
  unfold writeIsolate
  dsimp only
  rw [if_neg Bool.false_ne_true, if_neg (fun h => hstate h.1)]

include hengine hrng in
theorem writeIsolate_isolates (h1 : (unitAt s p).state ≠ .isolated) (h2 : (unitAt s p).state ≠ .failed) :
    (unitAt (writeIsolate p true s) p).state = .isolated ∧ (unitAt (writeIsolate p true s) p).isolate = true := by
  unfold writeIsolate
  dsimp only
  rw [if_pos rfl, if_neg h1, withdrawUnitJobs_none hengine, unitStops_other hrng]
  have hs1 : unitAt (modUnit p (fun u => { u with isolate := true }) s) p = { unitAt s p with isolate := true } := (unitAt_modUnit ..).trans (if_pos rfl)
  generalize modUnit p (fun u => { u with isolate := true }) s = s1 at hs1 ⊢
  unfold isolateUnit
  dsimp only
  rw [if_neg (by rw [hs1]; exact fun h => h.elim h2 h1)]
  obtain ⟨hr1, -, -, hr4, -⟩ := raise_control (p := p) p (commonCode p 1) 0 (setUnitState p .isolated .write s1)
  obtain ⟨x, hx⟩ := setUnitState_read p .isolated .write s1 p
  rw [hr1, hr4, hx, if_pos rfl, hs1]
  exact ⟨rfl, rfl⟩

include hrng in
/-- The release of a unit that a write isolated wipes it and leaves it off (R762). -/
theorem writeIsolate_releases (hstate : (unitAt s p).state = .isolated) (hcause : (unitAt s p).cause = .write) :
    (unitAt (writeIsolate p false s) p).state = .off ∧ (unitAt (writeIsolate p false s) p).isolate = false ∧ (unitAt (writeIsolate p false s) p).enable = (unitAt s p).enable := by
  unfold writeIsolate
  dsimp only
  rw [if_neg Bool.false_ne_true, if_pos ⟨hstate, hcause⟩, unitStarts_other hrng, ite_self]
  have hs1 : unitAt (wipeUnit p (modUnit p (fun u => { u with isolate := false }) s)) p = { unitAt s p with isolate := false } :=
    by
    rw [unitAt_eq_of_units (wipeUnit_leaves (π := .units) rfl (.refl _)) p, unitAt_modUnit, if_pos rfl]
  generalize wipeUnit p (modUnit p (fun u => { u with isolate := false }) s) = s1 at hs1 ⊢
  unfold releaseUnit
  dsimp only
  rw [hs1, if_neg (not_not_intro hstate), if_neg Bool.false_ne_true]
  obtain ⟨x, hx⟩ := setUnitState_read p .off .write s1 p
  rw [hx, if_pos rfl, hs1]
  exact ⟨rfl, rfl, rfl⟩

end

/-! What the commands write in UNIT_CTL -/

theorem ctlWord_bits (s : State) (p : Nat) : bit 0 (ctlWord s p) = (unitAt s p).enable ∧ bit 1 (ctlWord s p) = (unitAt s p).disableMode ∧ bit 2 (ctlWord s p) = (unitAt s p).isolate := by
  unfold ctlWord
  dsimp only
  cases (unitAt s p).enable <;> cases (unitAt s p).disableMode <;> cases (unitAt s p).isolate <;> decide

theorem ctlWord_free (h : (unitAt s p).isolate = false) : ctlWord s p / 4 * 4 = 0 := by
  unfold ctlWord
  dsimp only
  rw [h]
  cases (unitAt s p).enable <;> cases (unitAt s p).disableMode <;> rfl

theorem ctlWord_enable (h : (unitAt s p).isolate = false) :
    bit 0 (ctlWord s p / 2 * 2 + 1) = true ∧ bit 2 (ctlWord s p / 2 * 2 + 1) = false := by
  unfold ctlWord
  dsimp only
  rw [h]
  cases (unitAt s p).enable <;> cases (unitAt s p).disableMode <;> decide

theorem ctlWord_isolate (s : State) (p : Nat) : bit 2 (ctlWord s p % 4 + 4) = true := by
  unfold ctlWord
  dsimp only
  cases (unitAt s p).enable <;> cases (unitAt s p).disableMode <;> cases (unitAt s p).isolate <;> decide

theorem ctlWord_release (s : State) (p : Nat) : bit 0 (ctlWord s p % 4) = (unitAt s p).enable ∧ bit 2 (ctlWord s p % 4) = false := by
  unfold ctlWord
  dsimp only
  cases (unitAt s p).enable <;> cases (unitAt s p).disableMode <;> cases (unitAt s p).isolate <;> decide

section
variable (hp : pageExists p = true) (hw : WriteOpen (pageAddr p 0x014) m s) (hlevel : levelOf p = 1) (hfix : fixedUnit p = false) (hengine : engineOf p = none) (hrng : p ≠ rngPage)

include hp hw hlevel hfix hengine hrng

theorem leaf_disabled (hstate : (unitAt s p).state = .on) (hiso : (unitAt s p).isolate = false) (dm : Bool) :
    ∃ t, Host.Outcome.next (headAuditedWrite m p 0x014 (ctlWord s p / 4 * 4 + 2 * b2n dm) s) = (Host.Outcome.next t : Res) ∧
      (unitAt t p).state = .quiesced ∧ (unitAt t p).enable = false ∧ (unitAt t p).disableMode = dm := by
  obtain ⟨t, ht, hc⟩ := headWrite_answered (v := ctlWord s p / 4 * 4 + 2 * b2n dm) hp hw
  have hbits : bit 0 (0 + 2 * b2n dm) = false ∧ bit 1 (0 + 2 * b2n dm) = dm ∧ bit 2 (0 + 2 * b2n dm) = false := by cases dm <;> decide
  rw [ctlWord_free hiso, ctlWrite_leaf hlevel hfix (by simp [hstate]), hbits.1, hbits.2.1, hbits.2.2, writeIsolate_stays (by simp [hstate])] at hc
  obtain ⟨h1, h2, h3⟩ := writeEnable_disables (dm := dm) (s := modUnit p (fun u => { u with isolate := false }) s) hengine hrng (by rw [unitAt_modUnit, if_pos rfl]; exact hstate)
  exact ⟨t, ht, hc.state.trans h1, hc.enable.trans h2, hc.disableMode.trans h3⟩

theorem leaf_isolated (hstate : (unitAt s p).state = .on) :
    ∃ t, exec (.unitIsolate m p) s = .next t ∧ (unitAt t p).state = .isolated ∧ (unitAt t p).isolate = true := by
  obtain ⟨t, ht, hc⟩ := headWrite_answered (v := ctlWord s p % 4 + 4) hp hw
  rw [ctlWrite_leaf hlevel hfix (by simp [hstate]), ctlWord_isolate] at hc
  obtain ⟨h1, h2⟩ := writeIsolate_isolates (s := s) hengine hrng (by simp [hstate]) (by simp [hstate])
  obtain ⟨h3, h4⟩ := writeEnable_isolated (en := bit 0 (ctlWord s p % 4 + 4)) (dm := bit 1 (ctlWord s p % 4 + 4)) h1
  exact ⟨t, ht, hc.state.trans h3, hc.isolate.trans (h4.trans h2)⟩

omit hengine in
theorem leaf_enabled (hstate : (unitAt s p).state = .quiesced) (hiso : (unitAt s p).isolate = false) :
    ∃ t, exec (.unitEnable m p) s = .next t ∧ (unitAt t p).state = .on ∧ (unitAt t p).enable = true := by
  obtain ⟨t, ht, hc⟩ := headWrite_answered (v := ctlWord s p / 2 * 2 + 1) hp hw
  obtain ⟨hb0, hb2⟩ := ctlWord_enable hiso
  rw [ctlWrite_leaf hlevel hfix (by simp [hstate]), hb0, hb2, writeIsolate_stays (by simp [hstate])] at hc
  obtain ⟨h1, h2⟩ := writeEnable_enables (dm := bit 1 (ctlWord s p / 2 * 2 + 1)) (s := modUnit p (fun u => { u with isolate := false }) s) hrng (by rw [unitAt_modUnit, if_pos rfl]; exact hstate)
  exact ⟨t, ht, hc.state.trans h1, hc.enable.trans h2⟩

omit hengine in
theorem leaf_released (hstate : (unitAt s p).state = .isolated) (hcause : (unitAt s p).cause = .write) :
    ∃ t, exec (.unitUnisolate m p) s = .next t ∧ (unitAt t p).state = .off ∧ (unitAt t p).isolate = false := by
  obtain ⟨t, ht, hc⟩ := headWrite_answered (v := ctlWord s p % 4) hp hw
  obtain ⟨hb0, hb2⟩ := ctlWord_release s p
  rw [ctlWrite_leaf hlevel hfix (by simp [hstate]), hb0, hb2] at hc
  obtain ⟨h1, h2, h3⟩ := writeIsolate_releases hrng hstate hcause
  rw [← h3] at hc
  obtain ⟨h4, h5⟩ := writeEnable_off (dm := bit 1 (ctlWord s p % 4)) h1
  exact ⟨t, ht, hc.state.trans h4, hc.isolate.trans (h5.trans h2)⟩

end

/-! A plane's profile, and what a page shows of its events -/

theorem levelOf_plane {plane : Nat} (h : plane < 6) : levelOf (mkPage plane 0 0 0) = 4 := by
  have : ∀ i < 6, levelOf (mkPage i 0 0 0) = 4 := by decide
  exact this plane h

theorem profile_written {plane : Nat} {v : BitVec 4} (hp : pageExists (mkPage plane 0 0 0) = true) (hplane : plane < 6) (hw : WriteOpen (pageAddr (mkPage plane 0 0 0) 0x018) m s) :
    ∃ t, exec (.unitProfileWrite m plane v) s = .next t ∧
      (v.toNat ≤ 3 → (unitAt s (mkPage plane 0 0 0)).profile ≠ 4 → (unitAt t (mkPage plane 0 0 0)).profile = v) ∧
      (v.toNat ≤ 3 → (unitAt s (mkPage plane 0 0 0)).profile = 4 → (unitAt t (mkPage plane 0 0 0)).profile = 4 ∧ (unitAt t (mkPage plane 0 0 0)).requested = v) ∧
      (3 < v.toNat → (unitAt t (mkPage plane 0 0 0)).profile = (unitAt s (mkPage plane 0 0 0)).profile) := by
  have hlevel := levelOf_plane hplane
  generalize hpg : mkPage plane 0 0 0 = p at hp hw hlevel ⊢
  obtain ⟨t, ht, hc⟩ := headWrite_answered (v := v.toNat) hp hw
  have hv : v.toNat % 16 = v.toNat := Nat.mod_eq_of_lt v.isLt
  have hof : BitVec.ofNat 4 v.toNat = v := BitVec.ofNat_toNat ..
  have hword : headWriteWord p 0x018 v.toNat s = profileWrite p (v.toNat % 16) s := rfl
  rw [hword, hv] at hc
  have hexec : exec (.unitProfileWrite m plane v) s = .next t := by
    refine Eq.trans (congrArg Host.Outcome.next (if_pos hplane)) ?_
    rw [hpg, ht]
  have hwrite : profileWrite p v.toNat s = (if 3 < v.toNat then raise p (commonCode p 6) 0x018 s
      else if (unitAt s p).profile = 4 then modUnit p (fun u => { u with requested := v }) s
      else if (unitAt s p).profile = v then modUnit p (fun u => { u with profile := v, requested := v }) s
      else raise schedPage 0x012C (planeF p + 256 * v.toNat) (modUnit p (fun u => { u with profile := v, requested := v }) s)) := by
    unfold profileWrite
    dsimp only
    rw [if_neg (by simp [hlevel]), hof]
  rw [hwrite] at hc
  refine ⟨t, hexec, fun h3 hprof => ?_, fun h3 hprof => ?_, fun h3 => ?_⟩
  · rw [if_neg (by omega), if_neg hprof] at hc
    have hmod : (unitAt (modUnit p (fun u => { u with profile := v, requested := v }) s) p).profile = v := by rw [unitAt_modUnit, if_pos rfl]
    split at hc
    · exact hc.profile.trans hmod
    · exact hc.profile.trans ((raise_control ..).profile.trans hmod)
  · rw [if_neg (by omega), if_pos hprof] at hc
    have hmod : unitAt (modUnit p (fun u => { u with requested := v }) s) p = { unitAt s p with requested := v } := (unitAt_modUnit ..).trans (if_pos rfl)
    exact ⟨hc.profile.trans (by rw [hmod, hprof]), hc.requested.trans (by rw [hmod])⟩
  · rw [if_pos h3] at hc
    exact hc.profile.trans (raise_control ..).profile

theorem capture_read (hp : pageExists p = true) (h : m = .host → s.link.inReset = .none) :
    ∃ t, exec (.unitErrCapt3Read m p) s = .next t ∧ t.out = .regRead (masterCode m) 4 (unitAt s p).captCount.toNat :: s.out ∧ (unitAt t p).captCount = 0 := by
  change ∃ t, execUnitErrCapt3Read m p s = .next t ∧ _
  unfold execUnitErrCapt3Read
  rw [if_neg (not_not_intro hp), if_neg (fun hm => hm.2 (h hm.1))]
  refine ⟨_, rfl, rfl, ?_⟩
  change (unitAt (modUnit p (fun u => { u with captCount := 0 }) _) p).captCount = 0
  rw [unitAt_modUnit, if_pos rfl]

theorem unitsAreControlled : UnitsAreControlled := by
  unfold UnitsAreControlled
  intro s m p hp
  refine ⟨fun hw v => ?_, fun hw hlevel hfix hengine hrng => ⟨fun hstate hiso => ⟨?_, ?_, leaf_isolated hp hw hlevel hfix hengine hrng hstate⟩,
      leaf_enabled hp hw hlevel hfix hrng, leaf_released hp hw hlevel hfix hrng⟩, ?_,
    fun hres mask => ⟨_, exec_unitEvtPendClear hp hres mask, clearPend_pend p mask s⟩, ?_, capture_read hp⟩
  · have hexec : Host.Outcome.next (headAuditedWrite m p 0x014 v s) = (Host.Outcome.next (recorded (pageAddr p 0x014) m (fun t => headWord t p 0x014) (headWriteWord p 0x014 v) s) : Res) :=
      congrArg Host.Outcome.next ((if_pos hp).trans (audited_noSets hw))
    refine ⟨?_, ?_, ?_, ?_, ?_⟩ <;> (rintro rfl; exact hexec)
  · obtain ⟨t, ht, h1, h2, -⟩ := leaf_disabled hp hw hlevel hfix hengine hrng hstate hiso false
    exact ⟨t, ht, h1, h2⟩
  · obtain ⟨t, ht, h1, -, h3⟩ := leaf_disabled hp hw hlevel hfix hengine hrng hstate hiso true
    exact ⟨t, ht, h1, h3⟩
  · rintro plane v hplane rfl hw
    exact profile_written hp hplane hw
  · rintro rfl hres
    exact congrArg Host.Outcome.next ((if_neg (not_not_intro hp)).trans (if_pos ⟨rfl, hres⟩))

/-! ### Power domains -/

variable {d : Nat}

theorem domain_gated (hd : d < 64) (hstate : (domainAtP s d).state = .on) (hgate : mayGate s d = true) :
    ∃ t, exec (.domainIdleGate d) s = .next t ∧ (domainAtP t d).state = .gated ∧ t.jobs = s.jobs ∧ ∀ e, e ≠ d → domainAtP t e = domainAtP s e := by
  have hleft : ∀ π : Part, π.Clear [.units] → π.Same (modDomain d (fun x => { x with state := .gated }) s) (gateDomain d s) := fun π hπ =>
    forAll_leaves (fun _ _ hu => .ite (setUnitState_leaves hπ hu) hu) (.refl _)
  have hdom := fun e => domainAtP_of_domains (hleft .domains rfl) e
  refine answered (congrArg Host.Outcome.next (if_pos ⟨hd, hstate, hgate⟩)) ⟨?_, hleft .jobs rfl, fun e he => ?_⟩
  · rw [hdom, domainAtP_modDomain, if_pos rfl]
  · rw [hdom, domainAtP_modDomain, if_neg he]

theorem domain_wakes (hd : d < 64) (hstate : (domainAtP s d).state = .waking) :
    ∃ t, exec (.domainWakeDone d) s = .next t ∧ (domainAtP t d).state = .on ∧ ∀ e, e ≠ d → domainAtP t e = domainAtP s e := by
  have hleft : Part.domains.Same (modDomain d (fun x => if x.state = .waking then { x with state := .on } else x) s) (wakeDomain d s) :=
    forAll_leaves (fun _ _ hu => .ite (setUnitState_leaves rfl hu) hu) (.refl _)
  have hdom := fun e => domainAtP_of_domains hleft e
  refine answered (congrArg Host.Outcome.next (if_pos ⟨hd, .inl hstate⟩)) ⟨?_, fun e he => ?_⟩
  · rw [hdom, domainAtP_modDomain, if_pos rfl, if_pos hstate]
  · rw [hdom, domainAtP_modDomain, if_neg he]

theorem domain_latches (hd : d < 64) (hgood : s.power.good = true) (hstate : (domainAtP s d).state ≠ .latched) :
    ∃ t, exec (.domainShortLatch d) s = .next t ∧ (domainAtP t d).state = .latched ∧ (domainAtP t d).latches = (domainAtP s d).latches + 1 ∧ (domainAtP t d).thermal = false := by
  have hdom : domainAtP (latchDomain d false d s) d = { domainAtP s d with state := .latched, thermal := false, latches := (domainAtP s d).latches + 1 } := by
    unfold latchDomain
    extract_lets s1 s2
    have h2 : domainAtP s2 d = { domainAtP s1 d with state := .latched, thermal := false, latches := (domainAtP s1 d).latches + 1 } := (domainAtP_modDomain ..).trans (if_pos rfl)
    have h1 : domainAtP s1 d = domainAtP s d := domainAtP_of_domains (raise_leaves (π := .domains) rfl rfl) d
    have hend : Part.domains.Same s2 (forAll (domainUnits d) (isolateUnit · .fault) (loseContents d s2)) :=
      forAll_leaves (fun _ _ hu => isolateUnit_leaves rfl hu) (loseContents_leaves rfl (.refl s2))
    rw [domainAtP_of_domains hend, h2, h1]
  exact answered (congrArg Host.Outcome.next (if_pos ⟨hd, hgood, hstate⟩)) ⟨by rw [hdom], by rw [hdom], by rw [hdom]⟩

theorem foldl_unchanged {α β : Type} {f : β → α → β} {b : β} {l : List α} (h : ∀ a ∈ l, f b a = b) : l.foldl f b = b := by
  induction l with
  | nil => rfl
  | cons a l ih => rw [List.foldl_cons, h a (List.mem_cons_self ..), ih fun x hx => h x (List.mem_cons_of_mem _ hx)]

theorem domain_index (high : Bool) (i : Nat) : (if high then i + 32 else i) = i + (if high then 32 else 0) := by
  cases high <;> rfl

/-- PWR_DOMAIN_CLEAR where no domain named may be cleared (R742). -/
theorem clearDomains_none {high : Bool} {mask : BitVec 32} (h : ¬ ∃ i < 32, mask.getLsbD i = true ∧ mayClear s (if high then i + 32 else i) = true) :
    clearDomains high mask.toNat s = s := by
  refine foldl_unchanged fun i hi => if_neg fun hc => h ⟨i, List.mem_range.1 hi, ?_⟩
  rw [domain_index]
  exact (Bool.and_eq_true _ _).mp hc

theorem clearTaken_eq (high : Bool) (mask : BitVec 32) (s : State) [Decidable (∃ i < 32, mask.getLsbD i = true ∧ mayClear s (if high then i + 32 else i) = true)] :
    clearTaken high mask.toNat s = if ∃ i < 32, mask.getLsbD i = true ∧ mayClear s (if high then i + 32 else i) = true then (if high then 2 ^ 32 * mask.toNat else mask.toNat) else 0 := by
  have hany : (List.range 32).any (fun i => bit i mask.toNat && mayClear s (i + (if high then 32 else 0))) = true ↔
      ∃ i < 32, mask.getLsbD i = true ∧ mayClear s (if high then i + 32 else i) = true := by
    refine List.any_eq_true.trans (exists_congr fun i => ?_)
    rw [List.mem_range, domain_index high i, Bool.and_eq_true]
    rfl
  unfold clearTaken
  simp only [hany]

theorem domainClear_recorded {high : Bool} {mask : BitVec 32} {v : Nat} (hw : WriteOpen (modulePage * 0x1000 + 0x324) m s) (hv : clearTaken high mask.toNat s = v) :
    exec (.pwrDomainClear m high mask) s = .next (appendConfig (modulePage * 0x1000 + 0x324) m 4 0 v (clearDomains high mask.toNat s)) := by
  have happly : pwrWriteWord (if high then 0x328 else 0x324) mask.toNat = clearDomains high mask.toNat := by
    cases high <;> rfl
  refine congrArg Host.Outcome.next ((audited_of_open hw).trans ?_)
  rw [happly, hv, Nat.zero_add]

theorem powerDomainsSwitch : PowerDomainsSwitch := by
  unfold PowerDomainsSwitch
  intro s d hd
  refine ⟨domain_gated hd, domain_wakes hd, domain_latches hd, fun m high mask hw => ?_⟩
  intro taken record
  classical
  have hv := clearTaken_eq high mask s
  exact ⟨fun ht => domainClear_recorded hw (hv.trans (if_pos ht)), fun ht => ⟨domainClear_recorded hw (hv.trans (if_neg ht)), clearDomains_none ht⟩⟩

end

/-- Settles O59: the control fields of unit pages, and the power domains. -/
theorem unitsAndPowerDomainsAreControlled : Obligations.UnitsAndPowerDomainsAreControlled := ⟨unitsAreControlled, powerDomainsSwitch⟩

end Sys2Proof.Machine

end

section
/-!
SUPPORT. NAND operations that end, and commands of the code flash. O58.
-/
namespace Sys2Proof.Machine
open Sys2Proof Sys2Proof.Statements

/-! ### NAND operations that end -/

section
variable {s t : State} {b : Nat}

theorem raise_vault (p code detail : Nat) (s : State) : (raise p code detail s).vault = s.vault := raise_leaves (π := .vault) rfl rfl

/-- The vault after a block is retired: its record says so, and no token record or journal entry changes (R439). -/
structure Retired (b : Nat) (s t : State) : Prop where
  block : (mget {} t.vault.blocks b).retired = true
  records : t.vault.records = s.vault.records
  journal : t.vault.journal = s.vault.journal

theorem Retired.raise (h : Retired b s t) (p code detail : Nat) : Retired b s (raise p code detail t) := by
  have hv := raise_vault p code detail t
  exact ⟨by rw [hv]; exact h.block, by rw [hv]; exact h.records, by rw [hv]; exact h.journal⟩

theorem Retired.modVault (h : Retired b s t) {f : Vault → Vault} (hb : ∀ v, (f v).blocks = v.blocks) (hr : ∀ v, (f v).records = v.records) (hj : ∀ v, (f v).journal = v.journal) :
    Retired b s (modVault f t) := by
  refine ⟨?_, (hr _).trans h.records, (hj _).trans h.journal⟩
  change (mget {} (f t.vault).blocks b).retired = true
  rw [hb]
  exact h.block

theorem blockAt_modBlock (b : Nat) (f : NandBlock → NandBlock) (s : State) : mget {} (modBlock b f s).vault.blocks b = f (mget {} s.vault.blocks b) := by
  change mget {} (mupd {} s.vault.blocks b f) b = _
  rw [mget_mupd, if_pos rfl]

theorem Retired.ite {u : State} {c : Prop} [Decidable c] (ht : Retired b s t) (hu : Retired b s u) : Retired b s (if c then t else u) := by
  split
  · exact ht
  · exact hu

theorem retire_retires (b : Nat) (s : State) : Retired b s (retire b s) := by
  unfold retire
  split
  · next h => exact ⟨h, rfl, rfl⟩
  · extract_lets s1 n s2 s3 s4
    have h0 : Retired b s (modBlock b (fun x => { x with retired := true }) s) := ⟨by rw [blockAt_modBlock], rfl, rfl⟩
    have h1 : Retired b s s1 := h0.raise _ _ _
    have h2 : Retired b s s2 := .ite (Retired.raise (Retired.modVault (f := fun v => { v with spareWarn := true }) h1 (fun _ => rfl) (fun _ => rfl) (fun _ => rfl)) _ _ _) h1
    have h3 : Retired b s s3 := .ite (Retired.raise (Retired.modVault (f := fun v => { v with readOnly := true }) h2 (fun _ => rfl) (fun _ => rfl) (fun _ => rfl)) _ _ _) h2
    have h4 : Retired b s s4 := .ite (.raise h3 _ _ _) h3
    clear_value s4
    exact .ite ⟨h4.block, h4.records, h4.journal⟩ h4

/-- A journal entry takes the next number and moves no block and no leaf (R426). -/
theorem appendJournal_advances (kind target slot : Nat) (r : Option VaultRec) (ckpt : Nat) (s : State) :
    (appendJournal kind target slot r ckpt s).vault.nextSeq = s.vault.nextSeq + 1 ∧ (appendJournal kind target slot r ckpt s).vault.blocks = s.vault.blocks ∧
      (appendJournal kind target slot r ckpt s).vault.homes = s.vault.homes := by
  unfold appendJournal
  extract_lets v e0 e s1
  split
  · rw [raise_vault]
    exact ⟨rfl, rfl, rfl⟩
  · exact ⟨rfl, rfl, rfl⟩

theorem checkpointJournal_homes (s : State) : (checkpointJournal s).vault.homes = s.vault.homes := by
  unfold checkpointJournal
  extract_lets v upto s1
  split
  · rfl
  · exact (appendJournal_advances 5 0 0 none upto s).2.2

theorem program_ignored {w : NandWrite} {block page : Nat} (h : programTakes s w block page = false) (b : Bool) : exec (.nandProgramDone w block page b) s = .next s :=
  congrArg Host.Outcome.next (if_pos (by rw [h]; exact Bool.false_ne_true))

theorem program_fails {w : NandWrite} {block page : Nat} (h : programTakes s w block page = true) :
    ∃ t, exec (.nandProgramDone w block page false) s = .next t ∧ (mget {} t.vault.blocks block).retired = true ∧ t.vault.records = s.vault.records ∧ t.vault.journal = s.vault.journal := by
  change ∃ t, execNandProgramDone w block page false s = .next t ∧ _
  unfold execNandProgramDone
  rw [if_neg (not_not_intro h)]
  dsimp only
  rw [if_pos Bool.false_ne_true]
  have hu : ∀ u : State, u.vault.records = s.vault.records → u.vault.journal = s.vault.journal → ∃ t, (Host.Outcome.next (retire block (raise vaultPage 0x041F block u)) : Res) = .next t ∧
      (mget {} t.vault.blocks block).retired = true ∧ t.vault.records = s.vault.records ∧ t.vault.journal = s.vault.journal := fun u hr hj => by
    have hv := raise_vault vaultPage 0x041F block u
    obtain ⟨h1, h2, h3⟩ := retire_retires block (raise vaultPage 0x041F block u)
    exact ⟨_, rfl, h1, h2.trans (by rw [hv, hr]), h3.trans (by rw [hv, hj])⟩
  exact hu _ rfl rfl

theorem journal_programmed {upto block page : Nat} (h : programTakes s (.journal upto) block page = true) :
    ∃ t, exec (.nandProgramDone (.journal upto) block page true) s = .next t ∧ t.vault.programmed = max s.vault.programmed (min upto (s.vault.nextSeq - 1)) ∧
      (mget {} t.vault.blocks block).written = (mget {} s.vault.blocks block).written + 1 ∧ (mget {} t.vault.blocks block).area = 5 := by
  change ∃ t, execNandProgramDone (.journal upto) block page true s = .next t ∧ _
  unfold execNandProgramDone
  rw [if_neg (not_not_intro h)]
  dsimp only
  rw [if_neg (not_not_intro rfl)]
  have hblocks : mget {} (mupd {} s.vault.blocks block fun x => { x with area := 5, written := x.written + 1, interrupted := false }) block
      = { mget {} s.vault.blocks block with area := 5, written := (mget {} s.vault.blocks block).written + 1, interrupted := false } := (mget_mupd ..).trans (if_pos rfl)
  exact ⟨_, rfl, rfl, congrArg (·.written) hblocks, congrArg (·.area) hblocks⟩

theorem leaf_programmed {leaf block page : Nat} (h : programTakes s (.leaves [leaf]) block page = true) :
    ∃ t, exec (.nandProgramDone (.leaves [leaf]) block page true) s = .next t ∧ mfind leaf t.vault.homes = some ((block * 256 + page) * 4) := by
  change ∃ t, execNandProgramDone (.leaves [leaf]) block page true s = .next t ∧ _
  unfold execNandProgramDone
  rw [if_neg (not_not_intro h)]
  dsimp only
  rw [if_neg (not_not_intro rfl)]
  refine ⟨_, rfl, ?_⟩
  rw [checkpointJournal_homes]
  exact (mfind_mput ..).trans (if_pos rfl)

theorem erase_ends {block : Nat} (hint : (mget {} s.vault.blocks block).interrupted = true) (hbusy : (mget {} s.vault.planes (planeOf block)).busy = true) :
    (∃ t, exec (.nandEraseDone block true) s = .next t ∧ (mget {} t.vault.blocks block).erases = (mget {} s.vault.blocks block).erases + 1 ∧
      (mget {} t.vault.blocks block).interrupted = false ∧ t.vault.nextSeq = s.vault.nextSeq + 1) ∧
    (∃ t, exec (.nandEraseDone block false) s = .next t ∧ (mget {} t.vault.blocks block).retired = true) := by
  change (∃ t, execNandEraseDone block true s = .next t ∧ _) ∧ ∃ t, execNandEraseDone block false s = .next t ∧ _
  have hgo : ¬ (¬ (mget {} s.vault.blocks block).interrupted = true ∨ ¬ (mget {} s.vault.planes (planeOf block)).busy = true) := fun h => h.elim (· hint) (· hbusy)
  unfold execNandEraseDone
  rw [if_neg hgo, if_neg hgo]
  refine ⟨?_, ⟨_, rfl, (retire_retires block _).block⟩⟩
  generalize hu : modVault (fun v => { v with planes := mupd {} v.planes (planeOf block) (fun x => { x with busy := false, suspended := false }) }) s = u
  have hub : u.vault.blocks = s.vault.blocks ∧ u.vault.nextSeq = s.vault.nextSeq := by
    subst hu
    exact ⟨rfl, rfl⟩
  obtain ⟨hseq, hblocks, -⟩ := appendJournal_advances 4 block 0 none 0 u
  rw [if_pos rfl]
  generalize appendJournal 4 block 0 none 0 u = w at hseq hblocks ⊢
  have hb := blockAt_modBlock block (fun x => { erases := x.erases + 1, retired := x.retired }) w
  exact ⟨_, rfl, by rw [hb, hblocks, hub.1], by rw [hb], hseq.trans (by rw [hub.2])⟩

theorem mirror_times {slot q e : Nat} {j : Job} (hj : jobAt s slot = some j) (hw : j.mirrorWait = some (q, e)) (hc : j.hdr.cls ≠ 0) (he : e ≤ now s) :
    exec (.mirrorTimeout slot) s = .next (mirrorLate slot s) := by
  change execMirrorTimeout slot s = _
  unfold execMirrorTimeout
  rw [hj]
  dsimp only
  rw [hw]
  exact congrArg Host.Outcome.next (if_pos ⟨hc, he⟩)

section
variable {n iterations micros : Nat} {decoded : Bool} {r : NandRead} (hr : s.vault.reads[n]? = some r) (ha : r.aborted = false) (hm : micros ≤ 30)

include hr ha hm

/-- A NAND read that ends within 30 µs: delivered, or not (R319). -/
theorem nandRead_ends : exec (.nandReadDone n decoded iterations micros) s = .next (
    let rows := nandSeen s (quarterRows s r.target)
    let b := readBlock s r.target
    let again := fun (t : State) => raise vaultPage 0x040E b (modBlock b (fun x => { x with refresh := true })
      (modVault (fun v => { v with reads := v.reads.map (fun x => if x = r then { x with rereads := x.rereads + 1 } else x) }) t))
    if decoded && rows.all (fun e => e.2.delivers.isSome) then noteDecode iterations (cacheTarget r (dropRead r (countNand rows s)))
    else if readsClass0 s r.job then
      match r.job with
      | some (k, i) =>
        let auth : Bool := match jobAt s k with | some j => decide (j.hdr.opcode = 0x0380) | none => false
        let moves := fun (x : Nat) => decide (x = i ∨ (auth ∧ x = 3))
        if r.rereads = 0 then useMargin (neededIn s k i) moves k (again s) else useMargin (neededIn s k i) moves k (dropRead r s)
      | none => s
    else if r.rereads < 4 then again s
    else
      match r.job with
      | some (k, i) => failStep k i 0x0608 (raise vaultPage 0x040F b (dropRead r s))
      | none => raise vaultPage 0x040F b (dropRead r s)) := by
  change execNandReadDone n decoded iterations micros s = _
  unfold execNandReadDone
  rw [hr]
  dsimp only
  have hs0 : (if 30 < micros ∧ r.rereads = 0 then raise vaultPage (0x0428 + planeOf (readBlock s r.target) / 16) micros s else s) = s := if_neg (by omega)
  rw [if_neg (by rw [ha]; exact Bool.false_ne_true), hs0] <;> rfl

theorem nandRead_again (hbad : (decoded && (nandSeen s (quarterRows s r.target)).all (fun e => e.2.delivers.isSome)) = false) (hjob : r.job = none) (hlt : r.rereads < 4) :
    ∃ t, exec (.nandReadDone n decoded iterations micros) s = .next t ∧ (mget {} t.vault.blocks (readBlock s r.target)).refresh = true ∧
      t.vault.reads = s.vault.reads.map (fun x => if x = r then { x with rereads := x.rereads + 1 } else x) := by
  have h0 : readsClass0 s r.job = false := by rw [hjob]; rfl
  rw [nandRead_ends hr ha hm]
  dsimp only
  rw [if_neg (by rw [hbad]; exact Bool.false_ne_true), if_neg (by rw [h0]; exact Bool.false_ne_true), if_pos hlt]
  refine ⟨_, rfl, ?_, ?_⟩
  · rw [raise_vault]
    rw [blockAt_modBlock]
  · rw [raise_vault]
    rfl

theorem nandRead_fails {k i : Nat} {j : Job} (hbad : (decoded && (nandSeen s (quarterRows s r.target)).all (fun e => e.2.delivers.isSome)) = false)
    (hjob : r.job = some (k, i)) (hj : jobAt s k = some j) (hcls : j.hdr.cls ≠ 0) (hge : 4 ≤ r.rereads) :
    exec (.nandReadDone n decoded iterations micros) s = .next (failStep k i 0x0608 (raise vaultPage 0x040F (readBlock s r.target) (dropRead r s))) := by
  have h0 : readsClass0 s r.job = false := by
    rw [hjob]
    change (match jobAt s k with | some j => decide (j.hdr.cls = 0) | none => false) = false
    rw [hj]
    exact decide_eq_false hcls
  rw [nandRead_ends hr ha hm]
  dsimp only
  rw [if_neg (by rw [hbad]; exact Bool.false_ne_true), if_neg (by rw [h0]; exact Bool.false_ne_true), if_neg (by omega), hjob]

end

theorem nandOperationsEnd : NandOperationsEnd := by
  unfold NandOperationsEnd
  intro s
  refine ⟨fun n iterations micros decoded r hr ha hm => ?_, fun w block page h b => program_ignored h b, fun w block page => program_fails, fun upto block page => journal_programmed,
    fun leaf block page => leaf_programmed, fun block hint hbusy => erase_ends hint hbusy, fun slot q e j hj hw hc he => mirror_times hj hw hc he⟩
  exact ⟨fun hg => (nandRead_ends hr ha hm).trans (congrArg Host.Outcome.next (if_pos hg)), fun hg hjob hlt => nandRead_again hr ha hm hg hjob hlt,
    fun k i j hg hjob hj hcls hge => nandRead_fails hr ha hm hg hjob hj hcls hge⟩

/-! ### Commands of the code flash -/

variable {p : Nat}

/-- The partitions of the code flash are the same. -/
def SameParts (s t : State) : Prop := t.flash.parts = s.flash.parts

theorem SameParts.trans {u : State} (h : SameParts s t) (g : SameParts t u) : SameParts s u := Eq.trans g h

theorem SameParts.of_flash (h : t.flash = s.flash) : SameParts s t := congrArg (fun f : Flash => f.parts) h

theorem SameParts.partAt (h : SameParts s t) (p : Nat) : partAt t p = partAt s p := by rw [Machine.partAt, Machine.partAt, h]

theorem ledgerWord_parts (body : Bytes) (m : Nat) (s : State) : SameParts s (ledgerWord body m s) := rfl

theorem ownErase_parts {log : Bytes → Nat → State → State} (m : Nat) (hlog : ∀ b k u, SameParts u (log b k u)) (s : State) : SameParts s (ownErase log m s) := by
  unfold ownErase
  split
  · rfl
  · have hd : SameParts s (draw s).2 := rfl
    have hclear : ∀ k u, SameParts u (clearSector k u) := fun k u =>
      have h : SameParts u (clearRows (.codeFlash (0x10000 * k)) 2048 u) := .of_flash (clearRows_leaves (π := .flash) rfl rfl)
      h
    exact ((hd.trans (hlog _ _ _)).trans (hclear _ _)).trans (hlog _ _ _)

/-- The ledger of erases changes no partition (R613). -/
theorem appendLedger_parts (body : Bytes) (m : Nat) (s : State) : SameParts s (appendLedger body m s) := by
  unfold appendLedger
  refine SameParts.trans ?_ (ledgerWord_parts ..)
  split
  · unfold ledgerTurn
    refine SameParts.trans (forAll_ind (p := SameParts s) (fun e u hu => ?_) _ _ rfl) (ownErase_parts _ (fun _ _ _ => ledgerWord_parts ..) _)
    split
    · exact (hu.trans (ledgerWord_parts ..)).trans (ledgerWord_parts ..)
    · exact hu.trans (ledgerWord_parts ..)
  · rfl

/-- An erase that passed leaves the partitions and shows its pulses (R613, R621). -/
theorem finishErase_shows (sec served pulses : Nat) (s : State) :
    SameParts s (finishErase sec served pulses true s).2 ∧ (finishErase sec served pulses true s).2.flash.pulseCount = BitVec.ofNat 7 pulses := by
  unfold finishErase
  extract_lets epoch e s1 s2 s3 s4
  rw [if_pos rfl]
  have h1 : SameParts s s1 := appendLedger_parts ..
  have h2 : SameParts s1 s2 ∧ s2.flash.pulseCount = BitVec.ofNat 7 pulses := ⟨rfl, rfl⟩
  have h4 : s4.flash = s2.flash := Part.Same.ite (π := .flash) (raise_leaves rfl (.ite (raise_leaves rfl (.refl s2)) (.refl s2))) (.ite (raise_leaves rfl (.refl s2)) (.refl s2))
  clear_value s4
  have hc : (clearRows (.codeFlash (0x10000 * served)) 2048 s4).flash = s4.flash := clearRows_leaves (π := .flash) rfl rfl
  have hflash : (clearSector served s4).flash.parts = s4.flash.parts ∧ (clearSector served s4).flash.pulseCount = s4.flash.pulseCount := by
    unfold clearSector
    rw [← hc]
    exact ⟨rfl, rfl⟩
  exact ⟨(h1.trans h2.1).trans (hflash.1.trans (by rw [h4])), hflash.2.trans (by rw [h4, h2.2])⟩

/-- A command's status goes to its block, or to the unit that gave it; the flash is as it was (R608). -/
theorem flsStatus_flash (block : Option (Nat × Nat)) (status : Nat) (s : State) : (flsStatus block status s).flash = { s.flash with lastStatus := BitVec.ofNat 8 status } := by
  unfold flsStatus
  dsimp only
  split
  · exact memWrite_leaves (π := .flash) rfl rfl
  · rfl

theorem flsStatus_parts (block : Option (Nat × Nat)) (status : Nat) (s : State) : SameParts s (flsStatus block status s) := by
  rw [SameParts, flsStatus_flash]

theorem flash_unit (cmd addr : Nat) (w : Bytes) (hw : flsWaits s cmd addr = false) : flsFrom cmd (.unit addr w) false s = .next (flsCommand cmd none addr w false s).2 :=
  congrArg Host.Outcome.next (if_neg (by rw [hw]; exact Bool.false_ne_true))

theorem flsWaits_other {cmd addr : Nat} (h : cmd ≠ 1) : flsWaits s cmd addr = false := by
  simp [flsWaits, h]

section
variable {addr : Nat} {w : Bytes} (haddr : addr % 32 = 0) (hlt : addr < 0x4000000) (hfail : (sectorAt s (addr / 0x10000)).failed = false)

include haddr hlt hfail

theorem flash_reads (hint : (sectorAt s (addr / 0x10000)).interrupted = false) (hprog : (partAt s (partitionOf addr)).program = none) (hsec : (partAt s (partitionOf addr)).sector = none) :
    ∃ t, exec (.flsRead (.unit addr w) false) s = .next t ∧
      (∀ data, wordAt s (wordIndex s addr) = some (some data) → (flashRead s (wordIndex s addr) data).mended = false → t.flash.words = s.flash.words) ∧
      t.flash.lastStatus
      = (match wordAt s (wordIndex s addr) with
        | none => 0x0B
        | some none => 0x0C
        | some (some data) => if (flashRead s (wordIndex s addr) data).delivers.isNone then 0x0C else 0) := by
  refine answered (flash_unit 1 addr w (by simp [flsWaits, hprog])) ?_
  change _ ∧ (flsRead none addr false s).2.flash.lastStatus = _
  change (∀ data, wordAt s (wordIndex s addr) = some (some data) → (flashRead s (wordIndex s addr) data).mended = false → (flsRead none addr false s).2.flash.words = s.flash.words) ∧ _
  unfold flsRead
  dsimp only
  rw [if_neg (by omega), if_neg (by rw [eraseSector, hsec]; exact fun h => by cases h), if_neg (by simp [hfail]), if_neg (by simp [hint])]
  rcases hword : wordAt s (wordIndex s addr) with _ | _ | data
  · exact ⟨fun _ h => (by cases h), congrArg (·.lastStatus) (flsStatus_flash ..)⟩
  · exact ⟨fun _ h => (by cases h), congrArg (·.lastStatus) (flsStatus_flash ..)⟩
  · by_cases hd : (flashRead s (wordIndex s addr) data).delivers.isNone = true
    · dsimp only
      rw [if_pos hd, if_pos hd]
      exact ⟨fun _ _ _ => congrArg (·.words) (flsStatus_flash none 0x0C s), congrArg (·.lastStatus) (flsStatus_flash none 0x0C s)⟩
    · dsimp only
      rw [if_neg hd, if_neg hd]
      refine ⟨fun d hdata hm => ?_, congrArg (·.lastStatus) (flsStatus_flash none 0 _)⟩
      obtain rfl : data = d := Option.some.inj (Option.some.inj hdata)
      rw [if_neg (by rw [hm]; exact Bool.false_ne_true)]
      exact congrArg (·.words) (flsStatus_flash none 0 s)

theorem flash_programs (hint : (sectorAt s (addr / 0x10000)).interrupted = false) (hidle : (partAt s (partitionOf addr)).state = .idle)
    (hcount : (addr / 0x10000 = 130 ∨ addr / 0x10000 = 131) → countersOk s (fit 32 w) = true) (hword : wordAt s (wordIndex s addr) = none) :
    ∃ t, exec (.flsProgram (.unit addr w)) s = .next t ∧ (partAt t (partitionOf addr)).state = .program ∧ (partAt t (partitionOf addr)).program = some (wordIndex s addr, fit 32 w) := by
  refine answered (flash_unit 2 addr w (flsWaits_other (by decide))) ?_
  change (partAt (flsProgram none addr w s).2 (partitionOf addr)).state = .program ∧ (partAt (flsProgram none addr w s).2 (partitionOf addr)).program = _
  unfold flsProgram
  dsimp only
  rw [if_neg (by omega), if_neg (by simp), if_neg (by simp [hidle]), if_neg (by simp [hfail]), if_neg (by simp [hint]), if_neg (fun h => h.2 (hcount h.1)), hword, if_neg (by simp), if_pos hidle]
  generalize hu : modPart (partitionOf addr) (fun y => { y with state := .program, program := some (wordIndex s addr, fit 32 w), programBlock := none }) s = u
  have hpart : (partAt u (partitionOf addr)).state = .program ∧ (partAt u (partitionOf addr)).program = some (wordIndex s addr, fit 32 w) := by
    rw [← hu, partAt_modPart, if_pos rfl]
    exact ⟨rfl, rfl⟩
  have hver : ∀ v : State, SameParts u v → (partAt (flsAccept none v) (partitionOf addr)).state = .program ∧ (partAt (flsAccept none v) (partitionOf addr)).program = some (wordIndex s addr, fit 32 w) :=
    fun v hv => by
      rw [show flsAccept none v = v from rfl, hv.partAt]
      exact hpart
  split
  · exact hver _ rfl
  · exact hver _ rfl

theorem flash_erases (halign : addr % 0x10000 = 0) (hidle : (partAt s (partitionOf addr)).state = .idle) (hpf : s.power.failSeq = false) :
    ∃ t, exec (.flsErase (.unit addr w)) s = .next t ∧ (partAt t (partitionOf addr)).state = .erase ∧ (partAt t (partitionOf addr)).sector = some (servedBy s (addr / 0x10000)) := by
  refine answered (flash_unit 3 addr w (flsWaits_other (by decide))) ?_
  change (partAt (flsErase none addr s).2 (partitionOf addr)).state = .erase ∧ (partAt (flsErase none addr s).2 (partitionOf addr)).sector = _
  unfold flsErase
  dsimp only
  rw [if_neg (by simp [hpf]), if_neg (by omega), if_neg (by simp), if_neg (by simp [hidle]), if_neg (by simp [hidle]), if_neg (by simp [hfail])]
  generalize appendLedger _ (addr / 0x10000) s = l
  generalize hu : modPart (partitionOf addr) (fun y => { y with state := .erase, sector := some (servedBy s (addr / 0x10000)), eraseBlock := none }) l = u
  have hpart : (partAt u (partitionOf addr)).state = .erase ∧ (partAt u (partitionOf addr)).sector = some (servedBy s (addr / 0x10000)) := by
    rw [← hu, partAt_modPart, if_pos rfl]
    exact ⟨rfl, rfl⟩
  have hver : ∀ v : State, SameParts u v → (partAt (flsAccept none v) (partitionOf addr)).state = .erase ∧ (partAt (flsAccept none v) (partitionOf addr)).sector = some (servedBy s (addr / 0x10000)) :=
    fun v hv => by
      rw [show flsAccept none v = v from rfl, hv.partAt]
      exact hpart
  split
  · exact hver _ rfl
  · exact hver _ rfl

omit haddr hlt hfail in
theorem flash_suspends (herase : (partAt s (partitionOf addr)).state = .erase) :
    ∃ t, exec (.flsSuspend (.unit addr w)) s = .next t ∧ (partAt t (partitionOf addr)).state = .suspending ∧ (partAt t (partitionOf addr)).sector = (partAt s (partitionOf addr)).sector := by
  refine answered (flash_unit 4 addr w (flsWaits_other (by decide))) ?_
  change (partAt (flsSuspend none addr s).2 (partitionOf addr)).state = .suspending ∧ (partAt (flsSuspend none addr s).2 (partitionOf addr)).sector = _
  unfold flsSuspend
  dsimp only
  rw [herase]
  dsimp only
  rw [show ∀ v, flsAccept none v = v from fun _ => rfl, partAt_modPart, if_pos rfl]
  exact ⟨rfl, rfl⟩

omit haddr hlt hfail in
theorem flash_resumes (hsus : (partAt s (partitionOf addr)).state = .suspended) (hpf : s.power.failSeq = false) :
    ∃ t, exec (.flsResume (.unit addr w)) s = .next t ∧ (partAt t (partitionOf addr)).state = .erase ∧ (partAt t (partitionOf addr)).sector = (partAt s (partitionOf addr)).sector := by
  refine answered (flash_unit 5 addr w (flsWaits_other (by decide))) ?_
  change (partAt (flsResume none addr s).2 (partitionOf addr)).state = .erase ∧ (partAt (flsResume none addr s).2 (partitionOf addr)).sector = _
  unfold flsResume
  dsimp only
  rw [hsus]
  dsimp only
  rw [if_neg (by simp [hpf])]
  have hparts : SameParts (modPart (partitionOf addr) (fun y => { y with state := .erase, resumed := some (now s) }) s)
      (flsStatus none 0 (modPart (partitionOf addr) (fun y => { y with state := .erase, resumed := some (now s) }) s)) := flsStatus_parts ..
  rw [hparts.partAt, partAt_modPart, if_pos rfl]
  exact ⟨rfl, rfl⟩

end

theorem program_ends {i : Nat} {w : Bytes} (hprog : (partAt s p).program = some (i, w)) :
    ∃ t, exec (.flsProgramEnd p) s = .next t ∧ (partAt t p).program = none ∧ wordAt t i = some (some w) ∧ ((partAt s p).state = .program → (partAt t p).state = .idle) := by
  change ∃ t, execFlsProgramEnd p s = .next t ∧ _
  unfold execFlsProgramEnd
  dsimp only
  rw [hprog]
  dsimp only
  generalize hu : modPart p (fun y => { y with state := if y.state = .program then .idle else .suspended, program := none, programBlock := none }) s = u
  have hpart : partAt u p = { partAt s p with state := if (partAt s p).state = .program then .idle else .suspended, program := none, programBlock := none } := by
    rw [← hu, partAt_modPart, if_pos rfl]
  have hflash := flsStatus_flash (partAt s p).programBlock 0 (putWord i (some w) u)
  have hparts : SameParts u (flsStatus (partAt s p).programBlock 0 (putWord i (some w) u)) := SameParts.trans (t := putWord i (some w) u) rfl (flsStatus_parts ..)
  refine ⟨_, rfl, ?_, ?_, fun h => ?_⟩
  · rw [hparts.partAt, hpart]
  · rw [wordAt, hflash]
    exact (mfind_mput ..).trans (if_pos rfl)
  · rw [hparts.partAt, hpart, if_pos h]

theorem erase_passes {k pulses : Nat} (herase : (partAt s p).state = .erase) (hk : (partAt s p).sector = some k) :
    ∃ t, exec (.flsEraseEnd p pulses true) s = .next t ∧ (partAt t p).state = .idle ∧ (partAt t p).sector = none ∧ t.flash.pulseCount = BitVec.ofNat 7 pulses := by
  change ∃ t, execFlsEraseEnd p pulses true s = .next t ∧ _
  unfold execFlsEraseEnd
  dsimp only
  rw [herase, hk]
  dsimp only
  rw [if_pos rfl]
  generalize hu : modPart p (fun y => { y with state := .idle, sector := none, eraseBlock := none, resumed := none }) s = u
  have hpart : (partAt u p).state = .idle ∧ (partAt u p).sector = none := by
    rw [← hu, partAt_modPart, if_pos rfl]
    exact ⟨rfl, rfl⟩
  obtain ⟨hparts, hpulse⟩ := finishErase_shows (namedSector s k) k pulses u
  generalize finishErase (namedSector s k) k pulses true u = r at hparts hpulse ⊢
  have hflash := flsStatus_flash (partAt s p).eraseBlock r.1 r.2
  have hend : SameParts u (flsStatus (partAt s p).eraseBlock r.1 r.2) := hparts.trans (flsStatus_parts ..)
  exact ⟨_, rfl, by rw [hend.partAt, hpart.1], by rw [hend.partAt, hpart.2], (congrArg (·.pulseCount) hflash).trans hpulse⟩

theorem suspend_done (hsus : (partAt s p).state = .suspending) (hran : pulseRan s (partAt s p) = true) :
    ∃ t, exec (.flsSuspendDone p) s = .next t ∧ (partAt t p).state = .suspended := by
  refine answered (congrArg Host.Outcome.next (if_pos ⟨hsus, hran⟩)) ?_
  have hparts : SameParts (modPart p (fun y => { y with state := .suspended, suspendBlock := none }) s)
      (flsStatus (partAt s p).suspendBlock 0 (modPart p (fun y => { y with state := .suspended, suspendBlock := none }) s)) := flsStatus_parts ..
  rw [hparts.partAt, partAt_modPart, if_pos rfl]

/-- A flash command of a core that its capability allows answers from its command block (R557, R605). -/
theorem flash_fromCore {x : Issue} {cap : BitVec 3} {rs : BitVec 5} {s0 : State} (h : TakesEffect (atIssue x s0) x { shadowBad := true } []) (hs : flsSpelled x cap rs s0 = true)
    (ha : Allows (atIssue x s0) x cap 6) (cmd : Nat) (corrected : Bool) :
    let s := atIssue x s0
    let a := (gRead (regsOf x s) rs).toNat
    let b := sysBlock s x.core a
    flsWaits s (byteAt 0 b) (leAt 4 4 b) = false →
      flsFrom cmd (.sys x cap rs) corrected s0 = .next (sysDone x rs (flsCommand (byteAt 0 b) (some (x.core, a)) (leAt 4 4 b) (slice 32 32 b) corrected s)) := by
  intro s a b hw
  let block := fun (u : State) => sysBlock u x.core (gRead (coreAt u x.core).regs rs).toNat
  let answer := fun (u : State) => flsCommand (byteAt 0 (block u)) (some (x.core, (gRead (coreAt u x.core).regs rs).toNat)) (leAt 4 4 (block u)) (slice 32 32 (block u)) corrected u
  exact (if_neg (not_not_intro hs)).trans (issue_of_clear (causes := fun u => sysCauses 6 cap (coreAt u x.core).regs)
    (wait := fun u => flsWaits u (byteAt 0 (block u)) (leAt 4 4 (block u))) (act := fun u => modRegs x.core (writeG rs (BitVec.ofNat 64 (answer u).1) 4) (answer u).2) h (sysCauses_of_allows ha) hw)

theorem flashCommandsRun : FlashCommandsRun := by
  unfold FlashCommandsRun
  refine ⟨fun s addr w haddr hlt hfail => ⟨fun hint hprog hsec => ⟨flash_reads haddr hlt hfail hint hprog hsec, flash_programs haddr hlt hfail hint⟩,
      flash_erases haddr hlt hfail, flash_suspends, flash_resumes⟩,
    fun s p => ⟨fun i w => program_ends, fun k pulses => erase_passes, suspend_done⟩, fun s0 x cap rs corrected h => ?_⟩
  intro s a b answer hs ha hw
  exact ⟨flash_fromCore h hs ha 1 corrected hw, flash_fromCore h hs ha 2 false hw, flash_fromCore h hs ha 3 false hw, flash_fromCore h hs ha 4 false hw, flash_fromCore h hs ha 5 false hw⟩

end

/-- Settles O58: NAND operations that end, and the commands of the code flash. -/
theorem nonVolatileMemoriesComplete : Obligations.NonVolatileMemoriesComplete := ⟨nandOperationsEnd, flashCommandsRun⟩

end Sys2Proof.Machine

end

section
/-!
SUPPORT. The DOE mailbox and the SPDM responder. O56.
-/
namespace Sys2Proof.Machine
open Sys2Proof Sys2Proof.Statements

/-! ### The DOE mailbox and the SPDM responder -/

section
variable {s : State}

theorem doeServe_of_clear {f : State → State} (hb : s.link.doeBusy = false) : doeServe f s = f s := if_neg (by rw [hb]; exact Bool.false_ne_true)

/-- A request of a running responder in the stage that its order asks for (R122). -/
theorem spdmServe_of_stage {stage : Nat} {f : State → State} (hb : s.link.doeBusy = false) (hh : s.start.halted = false) (hst : stage ≤ s.link.spdmStage) : spdmServe stage f s = f s :=
  (doeServe_of_clear hb).trans ((if_neg (by rw [hh]; exact Bool.false_ne_true)).trans (if_neg (Nat.not_lt.2 hst)))

theorem spdmServe_early {stage : Nat} {f : State → State} (hb : s.link.doeBusy = false) (hh : s.start.halted = false) (hst : s.link.spdmStage < stage) :
    spdmServe stage f s = spdmError 0x04 s :=
  (doeServe_of_clear hb).trans ((if_neg (by rw [hh]; exact Bool.false_ne_true)).trans (if_pos hst))

theorem spdmServeData_of_stage {stage : Nat} {data : Bytes} {f : State → State} (hd : objectFits data.length = true) (hb : s.link.doeBusy = false) (hh : s.start.halted = false)
    (hst : stage ≤ s.link.spdmStage) : spdmServeData stage data f s = f s := (if_pos hd).trans (spdmServe_of_stage hb hh hst)

theorem inSession_of_phase {n : Nat} {x : SpdmSession} {phase : SpdmPhase} {f : SpdmSession → State → State} (hx : mfind n s.link.sessions = some x) (hp : x.phase = phase) :
    inSession n phase f s = f x s := by
  unfold inSession
  rw [hx]
  exact if_pos hp

theorem spdmError_link (code : Nat) (s : State) : (spdmError code s).link = s.link := raise_leaves (π := .link) rfl (emit_leaves rfl rfl)

theorem raise_link (p code detail : Nat) (s : State) : (raise p code detail s).link = s.link := (raise_frame ..).2.1

theorem cdat_answer : ([0, 0] ++ leBytes 2 0xFFFF ++ (if (0 : Nat) = 0 then leBytes 4 16 ++ [1, 0xEF] ++ zeros 10 else []) : Bytes)
    = [0, 0] ++ leBytes 2 0xFFFF ++ leBytes 4 16 ++ [1, 0xEF] ++ zeros 10 := by
  rw [if_pos rfl, ← List.append_assoc, ← List.append_assoc]

theorem request_unserved {v y : Nat} (hb : s.link.doeBusy = false) (hvy : (v, y) ∉ doeProtocols) :
    ∃ t, exec (.doeUnservedRequest v y) s = .next t ∧ t.link.doeError = true ∧ t.out = s.out ∧ t.jobs = s.jobs := by
  refine answered (congrArg Host.Outcome.next ((doeServe_of_clear hb).trans (if_neg hvy))) ⟨?_, raise_leaves (π := .out) rfl rfl, raise_leaves (π := .jobs) rfl rfl⟩
  rw [raise_link]
  rfl

/-- What a change of the links' security keeps of the keys set and not yet used (R119). -/
theorem ideChanged_keys (before s : State) : (ideChanged before s).link.ideKeys = s.link.ideKeys := by
  unfold ideChanged
  split
  · rw [reopen_link]
    rfl
  · split
    · rfl
    · rw [raise_link]
      rfl

section
variable {n stream : Nat} {x : SpdmSession} (hb : s.link.doeBusy = false) (hh : s.start.halted = false) (hst : 3 ≤ s.link.spdmStage)
  (hx : mfind n s.link.sessions = some x) (hp : x.phase = .established)

include hb hh hst hx hp

theorem ideKm_served {km : IdeKm} (hstream : stream < 6) {t : State}
    (ht : (match km with
      | .query => emit (.doe 0x0001 2 (ascii "QUERY_RESP" ++ leBytes 1 stream)) s
      | .keyProg => emit (.doe 0x0001 2 (ascii "KP_ACK" ++ leBytes 1 stream)) (modLink (fun l => { l with ideKeys := if stream ∈ l.ideKeys then l.ideKeys else stream :: l.ideKeys }) s)
      | .setGo =>
        if stream ∈ s.link.ideKeys then
          ideChanged s (emit (.doe 0x0001 2 (ascii "K_GOSTOP_ACK" ++ leBytes 1 stream))
            (setStream stream 1 (modLink (fun l => { l with ideKeys := l.ideKeys.filter (fun k => decide (k ≠ stream)) }) s)))
        else spdmError 0x01 s
      | .setStop => ideChanged s (emit (.doe 0x0001 2 (ascii "K_GOSTOP_ACK" ++ leBytes 1 stream)) (setStream stream 0 s))) = t) :
    exec (.ideKmRequest n stream km) s = .next t := by
  subst ht
  refine congrArg Host.Outcome.next ((spdmServe_of_stage hb hh hst).trans ((inSession_of_phase hx hp).trans ((if_neg (by omega)).trans ?_)))
  cases km <;> rfl

omit hb hh hst hx hp in
theorem setStream_keys (k : Nat) (v : BitVec 2) (s : State) : (setStream k v s).link.ideKeys = s.link.ideKeys := by
  change (if k = 0 then _ else if k = 1 then _ else _ : Link).ideKeys = _
  split
  · rfl
  · split <;> rfl

omit hb hh hst hx hp in
theorem ideStream_emit (o : Output) (s : State) (k : Nat) : ideStream (emit o s) k = ideStream s k := rfl

theorem ideKm_programs (hstream : stream < 6) :
    ∃ t, exec (.ideKmRequest n stream .keyProg) s = .next t ∧ stream ∈ t.link.ideKeys ∧ ideStream t stream = ideStream s stream := by
  refine ⟨_, ideKm_served hb hh hst hx hp hstream rfl, ?_, rfl⟩
  change stream ∈ (if stream ∈ s.link.ideKeys then s.link.ideKeys else stream :: s.link.ideKeys)
  split
  · assumption
  · exact List.mem_cons_self ..

theorem ideKm_goes (hstream : stream < 6) (hkey : stream ∈ s.link.ideKeys) :
    ∃ t, exec (.ideKmRequest n stream .setGo) s = .next t ∧ ideStream t stream = 1 ∧ stream ∉ t.link.ideKeys := by
  refine ⟨_, ideKm_served hb hh hst hx hp hstream (if_pos hkey), ?_, ?_⟩
  · rw [ideChanged_streams, ideStream_emit, ideStream_setStream, if_pos rfl]
  · rw [ideChanged_keys]
    change stream ∉ (setStream stream 1 _).link.ideKeys
    rw [setStream_keys]
    change stream ∉ s.link.ideKeys.filter (fun k => decide (k ≠ stream))
    exact fun h => absurd (List.mem_filter.1 h).2 (by simp)

theorem ideKm_stops (hstream : stream < 6) : ∃ t, exec (.ideKmRequest n stream .setStop) s = .next t ∧ ideStream t stream = 0 := by
  refine ⟨_, ideKm_served hb hh hst hx hp hstream rfl, ?_⟩
  rw [ideChanged_streams, ideStream_emit, ideStream_setStream, if_pos rfl]

end

theorem mailboxAnswers : MailboxAnswers := by
  unfold MailboxAnswers
  intro s hb
  refine ⟨fun i v y h => congrArg Host.Outcome.next ((doeServe_of_clear hb).trans ?_), congrArg Host.Outcome.next ((doeServe_of_clear hb).trans (congrArg (fun bs => emit (.doe 0x1E98 2 bs) s) cdat_answer)),
    fun v y => request_unserved hb, fun n stream x hh hst hx hp hstream => ⟨ideKm_served hb hh hst hx hp hstream rfl, ideKm_programs hb hh hst hx hp hstream,
      ideKm_goes hb hh hst hx hp hstream, fun hk => ideKm_served hb hh hst hx hp hstream (if_neg hk), ideKm_stops hb hh hst hx hp hstream⟩⟩
  rw [h]

/-! The SPDM responder -/

section
variable {n : Nat} {x : SpdmSession}

theorem session_put (u : State) (x : SpdmSession) (hl : u.link.sessions = s.link.sessions) :
    let t := modLink (fun l => { l with sessions := mput n x l.sessions }) u
    mfind n t.link.sessions = some x ∧ ∀ m, m ≠ n → mfind m t.link.sessions = mfind m s.link.sessions := by
  refine ⟨(mfind_mput ..).trans (if_pos rfl), fun m hm => ((mfind_mput ..).trans (if_neg hm)).trans (by rw [hl])⟩

theorem session_erase (n : Nat) (s : State) :
    let t := modLink (fun l => { l with sessions := merase n l.sessions }) s
    mfind n t.link.sessions = none ∧ ∀ m, m ≠ n → mfind m t.link.sessions = mfind m s.link.sessions :=
  ⟨(mfind_merase ..).trans (if_pos rfl), fun _ hm => (mfind_merase ..).trans (if_neg hm)⟩

variable (hb : s.link.doeBusy = false) (hh : s.start.halted = false) (hst : 3 ≤ s.link.spdmStage)

include hb hh hst

theorem measurements_given {i : Nat} {nonce : Bytes} (h1 : 1 ≤ i) (h6 : i ≤ 6) (hfit : objectFits nonce.length = true) :
    exec (.spdmGetMeasurements i false nonce) s = .next (emit (.spdm "MEASUREMENTS" ([1] ++ measurementBlock s i)) s) := by
  refine congrArg Host.Outcome.next ((spdmServeData_of_stage hfit hb hh hst).trans ?_)
  dsimp only
  rw [if_neg (by omega), if_neg (by omega), if_pos h6]
  dsimp only
  rw [if_neg (show ¬ i = 0 by omega), List.flatMap_singleton]
  rfl

theorem keys_exchanged {exchange : Bytes} (hfit : objectFits exchange.length = true) (hv : s.link.spdmVersion ≠ 0x10) (hlen : s.link.sessions.length < 4)
    (hnew : mfind n s.link.sessions = none) :
    ∃ t x, exec (.spdmKeyExchange n exchange) s = .next t ∧ mfind n t.link.sessions = some x ∧ x.phase = .handshake ∧ ∀ m, m ≠ n → mfind m t.link.sessions = mfind m s.link.sessions := by
  have hexec := (spdmServeData_of_stage (f := spdmFrom11 (fun s =>
    if 4 ≤ s.link.sessions.length then spdmError 0x03 s
    else if (mfind n s.link.sessions).isSome then spdmError 0x01 s
    else
      let e := drawScalar s
      let secret := std "key agreement" 48 [leBytes 2 0x0102, e.1, exchange]
      let body := leBytes 4 n ++ pointP384 e.1
      let g := nameSign (fit 97 exchange ++ body) e.2
      emit (.spdm "KEY_EXCHANGE_RSP" (body ++ g.1)) (modLink (fun l => { l with sessions := mput n { secret := secret } l.sessions }) g.2))) hfit hb hh hst).trans
    ((if_neg hv).trans ((if_neg (by omega)).trans (if_neg (by simp [hnew]))))
  dsimp only at hexec
  have hlink : (nameSign (fit 97 exchange ++ (leBytes 4 n ++ pointP384 (drawScalar s).1)) (drawScalar s).2).2.link = s.link := by
    have h1 : (drawScalar s).2.link = s.link := drawBytes_leaves (π := .link) rfl rfl
    exact Eq.trans (drawBytes_leaves (π := .link) (s := (drawScalar s).2) rfl (.refl _)) h1
  obtain ⟨hfind, hother⟩ := session_put (n := n) (s := s) (nameSign (fit 97 exchange ++ (leBytes 4 n ++ pointP384 (drawScalar s).1)) (drawScalar s).2).2
    { secret := std "key agreement" 48 [leBytes 2 0x0102, (drawScalar s).1, exchange] } (by rw [hlink])
  exact ⟨_, _, congrArg Host.Outcome.next hexec, hfind, rfl, hother⟩

variable (hx : mfind n s.link.sessions = some x)

include hx

theorem finish_verified (hp : x.phase = .handshake) :
    ∃ t y, exec (.spdmFinish n true) s = .next t ∧ mfind n t.link.sessions = some y ∧ y.phase = .established ∧ y.secret = x.secret := by
  refine ⟨_, { x with phase := .established }, congrArg Host.Outcome.next ((spdmServe_of_stage hb hh hst).trans ((inSession_of_phase hx hp).trans (if_pos rfl))), ?_, rfl, rfl⟩
  rw [raise_link]
  exact (session_put (s := s) s { x with phase := .established } rfl).1

theorem finish_refused (hp : x.phase = .handshake) : ∃ t, exec (.spdmFinish n false) s = .next t ∧ mfind n t.link.sessions = none := by
  refine ⟨_, congrArg Host.Outcome.next ((spdmServe_of_stage hb hh hst).trans ((inSession_of_phase hx hp).trans (if_neg Bool.false_ne_true))), ?_⟩
  rw [spdmError_link]
  exact (session_erase n s).1

theorem keys_updated (hp : x.phase = .established) :
    ∃ t y, exec (.spdmKeyUpdate n) s = .next t ∧ mfind n t.link.sessions = some y ∧ y.phase = .established ∧ y.secret = std "SPDM key update" 48 [x.secret] :=
  ⟨_, { x with secret := std "SPDM key update" 48 [x.secret] }, congrArg Host.Outcome.next ((spdmServe_of_stage hb hh hst).trans (inSession_of_phase hx hp)),
    (session_put (s := s) s { x with secret := std "SPDM key update" 48 [x.secret] } rfl).1, hp, rfl⟩

theorem session_ends (hp : x.phase = .established) :
    ∃ t, exec (.spdmEndSession n) s = .next t ∧ mfind n t.link.sessions = none ∧ ∀ m, m ≠ n → mfind m t.link.sessions = mfind m s.link.sessions := by
  refine ⟨_, congrArg Host.Outcome.next ((spdmServe_of_stage hb hh hst).trans (inSession_of_phase hx hp)), ?_⟩
  rw [raise_link]
  exact session_erase n s

end

theorem spdmAnswers : SpdmAnswers := by
  unfold SpdmAnswers
  intro s hb hh
  refine ⟨answered (congrArg Host.Outcome.next (doeServe_of_clear hb)) ⟨rfl, rfl, rfl⟩,
    fun v hst hv => answered (congrArg Host.Outcome.next ((spdmServe_of_stage hb hh hst).trans (if_pos hv))) ⟨rfl, rfl⟩,
    fun hst => answered (congrArg Host.Outcome.next ((spdmServe_of_stage hb hh hst).trans (if_pos rfl))) rfl,
    fun hst => congrArg Host.Outcome.next (spdmServe_early hb hh hst), fun hst => ?_, fun code => congrArg Host.Outcome.next ((doeServe_of_clear hb).trans (if_neg (by rw [hh]; exact Bool.false_ne_true)))⟩
  refine ⟨congrArg Host.Outcome.next (spdmServe_of_stage hb hh hst), fun off len hoff => ?_, fun nonce hfit => ?_, fun i nonce h1 h6 hfit => measurements_given hb hh hst h1 h6 hfit,
    fun n exchange hfit hv hlen hnew => keys_exchanged hb hh hst hfit hv hlen hnew, fun n x hx hp => ⟨finish_verified hb hh hst hx hp, finish_refused hb hh hst hx hp⟩,
    fun n x hx hp => ⟨congrArg Host.Outcome.next ((spdmServe_of_stage hb hh hst).trans (inSession_of_phase hx hp)), keys_updated hb hh hst hx hp, session_ends hb hh hst hx hp⟩⟩
  · exact congrArg Host.Outcome.next ((spdmServe_of_stage hb hh hst).trans (if_neg (fun h => h.elim (fun h => h rfl) fun h => absurd hoff (Nat.not_lt.2 h))))
  · exact congrArg Host.Outcome.next ((spdmServeData_of_stage hfit hb hh hst).trans (if_neg (fun h => h rfl)))

end

/-- Settles O56: the mailbox and the SPDM responder, once DOE Busy has cleared. -/
theorem mailboxAndSpdmAnswer : Obligations.MailboxAndSpdmAnswer := ⟨mailboxAnswers, spdmAnswers⟩

end Sys2Proof.Machine

end

section
/-!
SUPPORT. The Stile tag. O30.
-/
namespace Sys2Proof.Machine
open Sys2Proof Sys2Proof.Statements

/-! ### The ferroelectric memory (R659) -/

/-- One byte through the keeper's port. -/
def putTagByte (a : Nat) (v : Byte) (m : AMap Byte) : AMap Byte := if 0x800 ≤ a ∧ a < 0x1C20 then mset 0 m a v else m

/-- Bytes through the keeper's port, at rising addresses. -/
def putTagBytes : Nat → Bytes → AMap Byte → AMap Byte
  | _, [], m => m
  | a, v :: bs, m => putTagBytes (a + 1) bs (putTagByte a v m)

theorem mget_putTagByte (a j : Nat) (v : Byte) (m : AMap Byte) :
    mget 0 (putTagByte a v m) j = if j = a ∧ 0x800 ≤ a ∧ a < 0x1C20 then v else mget 0 m j := by
  unfold putTagByte
  by_cases hr : 0x800 ≤ a ∧ a < 0x1C20
  · rw [if_pos hr, mget_mset]; simp only [hr, and_true]
  · rw [if_neg hr, if_neg fun h => hr h.2]

theorem mget_putTagBytes (j : Nat) (bs : Bytes) : ∀ (a : Nat) (m : AMap Byte),
    mget 0 (putTagBytes a bs m) j = if a ≤ j ∧ j < a + bs.length ∧ 0x800 ≤ j ∧ j < 0x1C20 then bs.getD (j - a) 0 else mget 0 m j := by
  induction bs with
  | nil =>
    intro a m
    rw [if_neg fun h => by have := h.1; have := h.2.1; simp only [List.length_nil] at *; omega]; rfl
  | cons v bs ih =>
    intro a m
    rw [putTagBytes, ih, mget_putTagByte, List.length_cons]
    by_cases hj : j = a
    · subst hj
      rw [if_neg (by omega), Nat.sub_self, List.getD_cons_zero]
      exact ite_congr (propext ⟨fun h => by omega, fun h => by omega⟩) (fun _ => rfl) fun _ => rfl
    · simp only [hj, false_and, if_false]
      by_cases hlt : a < j
      · obtain ⟨k, rfl⟩ := Nat.exists_eq_add_of_lt hlt
        rw [show a + k + 1 - a = k + 1 by omega, show a + k + 1 - (a + 1) = k by omega, List.getD_cons_succ]
        exact ite_congr (propext ⟨fun h => by omega, fun h => by omega⟩) (fun _ => rfl) fun _ => rfl
      · rw [if_neg (by omega), if_neg (by omega)]

theorem foldl_putTagByte (a : Nat) (bs : Bytes) : ∀ (k : Nat) (m : AMap Byte),
    (bs.zipIdx k).foldl (fun m e => if 0x800 ≤ a + e.2 ∧ a + e.2 < 0x1C20 then mset 0 m (a + e.2) e.1 else m) m = putTagBytes (a + k) bs m := by
  induction bs with
  | nil => intro k m; rfl
  | cons v bs ih => intro k m; exact ih (k + 1) _

theorem tagWrite_eq (a : Nat) (bs : Bytes) (s : State) : tagWrite a bs s = modStile (fun x => { x with mem := putTagBytes a bs x.mem }) s :=
  congrArg (fun m => modStile (fun x => { x with mem := m }) s) (foldl_putTagByte a bs 0 s.stile.mem)

theorem tagWrite_byte (a j : Nat) (bs : Bytes) (s : State) :
    mget 0 (tagWrite a bs s).stile.mem j = if a ≤ j ∧ j < a + bs.length ∧ 0x800 ≤ j ∧ j < 0x1C20 then bs.getD (j - a) 0 else mget 0 s.stile.mem j := by
  rw [tagWrite_eq]; exact mget_putTagBytes j bs a _

theorem tagRead_one (s : State) (a : Nat) : tagRead s a 1 = [mget 0 s.stile.mem a] := rfl

theorem take_one_drop {bs : Bytes} {k : Nat} (hk : k < bs.length) : (bs.drop k).take 1 = [bs.getD k 0] := by
  rw [List.drop_eq_getElem_cons hk, List.take_succ_cons, List.take_zero, getD_of_lt hk]

/-- A write within the region reads back from its start (R659). -/
theorem tagRead_tagWrite {a n : Nat} {bs : Bytes} (s : State) (hn : n ≤ bs.length) (h0 : 0x800 ≤ a) (h1 : a + n ≤ 0x1C20) :
    tagRead (tagWrite a bs s) a n = bs.take n := by
  have hl : (tagRead (tagWrite a bs s) a n).length = (bs.take n).length := by
    rw [List.length_take, Nat.min_eq_left hn, tagRead, List.length_map, List.length_range]
  refine List.ext_getElem hl fun i hi _ => ?_
  have hin : i < n := by rwa [tagRead, List.length_map, List.length_range] at hi
  simp only [tagRead, List.getElem_map, List.getElem_range, List.getElem_take]
  rw [tagWrite_byte, if_pos (by omega), Nat.add_sub_cancel_left, getD_of_lt (by omega)]

/-! ### The statement (R663, R664) -/

theorem length_sha384 (bs : Bytes) : (sha384 bs).length = 48 := length_beBytes 48 _

theorem length_statementBody (s : State) : (statementBody s).length = 232 := by
  unfold statementBody
  have hm : ∀ n ∈ [2, 3, 4, 6], (measurement s n).length = 48 := by
    intro n hn
    simp only [List.mem_cons, List.not_mem_nil, or_false] at hn
    obtain rfl | rfl | rfl | rfl := hn <;> exact length_sha384 _
  simp only [List.length_append, length_leBytes, length_zeros, hm 2 (by decide), hm 3 (by decide), hm 4 (by decide), hm 6 (by decide)]
  rfl

theorem fit_long {n : Nat} {bs : Bytes} (h : n ≤ bs.length) : fit n bs = bs.take n := by
  have hl : n - (bs.take n).length = 0 := by rw [List.length_take, Nat.min_eq_left h, Nat.sub_self]
  change bs.take n ++ zeros (n - (bs.take n).length) = bs.take n
  rw [hl]; exact List.append_nil _

theorem take_fit {n m : Nat} {as : Bytes} (bs : Bytes) (hn : as.length = n) (hm : n ≤ m) : (fit m (as ++ bs)).take n = as := by
  change (((as ++ bs).take m) ++ zeros _).take n = as
  have hl : n ≤ ((as ++ bs).take m).length := by rw [List.length_take, List.length_append]; omega
  rw [List.take_append_of_le_length hl, List.take_take, Nat.min_eq_left hm, List.take_append_of_le_length (Nat.le_of_eq hn.symm), List.take_of_length_le (Nat.le_of_eq hn)]

theorem refreshStatement_reads (s : State) : tagRead (refreshStatement s) 0x800 232 = fit 232 (statementBody s) := by
  have hb := length_statementBody s
  unfold refreshStatement
  rw [tagRead_tagWrite _ (by rw [length_fit]; omega) (by omega) (by omega), take_fit _ hb (by omega), fit_of_length hb]

/-! ### The session (R660 to R662, R668 to R670) -/

theorem length_drawBytes_three (s : State) : (drawBytes 3 s).1.length = 3 := by
  unfold drawBytes
  rw [List.length_take]
  simp [ceilDiv, length_leBytes]

section
variable {s : State}

theorem fieldEntry_idles (hf : s.stile.field = false) : ∃ t, exec .stileFieldEntry s = .next t ∧ t.stile.field = true ∧ t.stile.tag = .idle ∧ t.stile.rats = false ∧
    t.stile.uid.length = 4 ∧ t.stile.uid.head? = some 0x08 ∧ t.stile.seq = latestSeq s ∧ t.stile.mem = s.stile.mem :=
  answered (congrArg Host.Outcome.next (if_neg (by rw [hf]; exact Bool.false_ne_true)))
    ⟨rfl, rfl, rfl, congrArg (· + 1) (length_drawBytes_three (fieldGone s)), rfl, rfl, rfl⟩

theorem reqa_wakes (hf : s.stile.field = true) (hi : s.stile.tag = .idle) :
    ∃ t, exec .stileReqa s = .next t ∧ t.stile.tag = .ready ∧ t.out = .stile [0x04, 0x00] :: s.out :=
  answered (congrArg Host.Outcome.next ((if_neg (not_not_intro hf)).trans (if_pos hi))) ⟨rfl, rfl⟩

theorem wupa_wakes (hf : s.stile.field = true) (hi : s.stile.tag = .halt) :
    ∃ t, exec .stileWupa s = .next t ∧ t.stile.tag = .ready ∧ t.out = .stile [0x04, 0x00] :: s.out :=
  answered (congrArg Host.Outcome.next ((if_neg (not_not_intro hf)).trans (if_pos (Or.inr hi)))) ⟨rfl, rfl⟩

theorem anticollision_answers (hf : s.stile.field = true) (hr : s.stile.tag = .ready) :
    exec (.stileAnticollision []) s
      = .next { s with out := .stile ((airBits s.stile.uid ++ airBits [bccOf s.stile.uid]).map (fun b => if b then 1 else 0)) :: s.out } :=
  congrArg Host.Outcome.next (if_pos ⟨hf, hr, Nat.zero_le _, rfl⟩)

theorem select_activates (hf : s.stile.field = true) (hr : s.stile.tag = .ready) :
    ∃ t, exec (.stileSelectFrame s.stile.uid (bccOf s.stile.uid)) s = .next t ∧ t.stile.tag = .active ∧ t.stile.rats = false ∧ t.out = .stile [0x20] :: s.out :=
  answered (congrArg Host.Outcome.next (if_pos ⟨hf, hr, rfl, rfl⟩)) ⟨rfl, rfl, rfl⟩

theorem otherFrame_of_ready (hr : s.stile.tag = .ready) : otherFrame s = modStile (fun t => { t with tag := .idle }) s := by unfold otherFrame; rw [hr]

theorem unlisted_idles (hf : s.stile.field = true) (hr : s.stile.tag = .ready) :
    ∃ t, exec (.stileUnlistedFrame none) s = .next t ∧ t.stile.tag = .idle ∧ t.out = s.out :=
  answered (congrArg Host.Outcome.next ((if_pos hf).trans (otherFrame_of_ready hr))) ⟨rfl, rfl⟩

/-- The conditions of RATS and HLTA. -/
theorem before_rats (hf : s.stile.field = true) (ha : s.stile.tag = .active) (hr : s.stile.rats = false) :
    s.stile.field = true ∧ s.stile.tag = .active ∧ ¬ s.stile.rats = true := ⟨hf, ha, by rw [hr]; exact Bool.false_ne_true⟩

theorem rats_answered (hf : s.stile.field = true) (ha : s.stile.tag = .active) (hr : s.stile.rats = false) :
    ∃ t, exec .stileRats s = .next t ∧ t.stile.rats = true ∧ t.stile.tag = .active ∧ t.out = .stile [0x05, 0x75, 0x00, 0x10, 0x00] :: s.out :=
  answered (congrArg Host.Outcome.next (if_pos (before_rats hf ha hr))) ⟨rfl, ha, rfl⟩

theorem hlta_halts (hf : s.stile.field = true) (ha : s.stile.tag = .active) (hr : s.stile.rats = false) :
    ∃ t, exec .stileHlta s = .next t ∧ t.stile.tag = .halt :=
  answered (congrArg Host.Outcome.next (if_pos (before_rats hf ha hr))) rfl

theorem tagServes_of (hf : s.stile.field = true) (ha : s.stile.tag = .active) (hr : s.stile.rats = true) : tagServes s = true := by
  unfold tagServes; rw [hf, ha, hr]; rfl

theorem tagServe_of (hs : tagServes s = true) (f : State → Bytes × Nat × State) : tagServe f s = tagAnswer (f s).1 (f s).2.1 (f s).2.2 := if_pos hs

theorem tagSelected_serves (h : TagSelected s) : tagServes s = true := by
  obtain ⟨hf, ha, hr, -⟩ := h
  exact tagServes_of hf ha hr

theorem tagCommand_of (h : TagSelected s) (f : State → Bytes × Nat) : tagCommand f s = tagAnswer (f s).1 (f s).2 s := by
  have hsel : s.stile.selected = true := h.2.2.2
  rw [tagCommand, tagServe_of (tagSelected_serves h), if_pos hsel]

theorem deselect_halts (hs : tagServes s = true) :
    ∃ t, exec .stileDeselect s = .next t ∧ t.stile.tag = .halt ∧ t.stile.selected = false ∧ t.out = .stile [0xC2] :: s.out :=
  answered (congrArg Host.Outcome.next (if_pos hs)) ⟨rfl, rfl, rfl⟩

theorem rBlock_repeats (hs : tagServes s = true) (hl : s.stile.lastBlock ≠ []) (ack : Bool) :
    exec (.stileRBlock ack s.stile.blockNo) s = .next { s with out := .stile s.stile.lastBlock :: s.out } :=
  congrArg Host.Outcome.next ((if_neg (not_not_intro hs)).trans ((if_pos rfl).trans (if_neg hl)))

theorem wtxResponse_goesOn (hs : tagServes s = true) : exec .stileWtxResponse s = .next s := congrArg Host.Outcome.next (if_pos hs)

theorem wtxTimer_extends (hs : tagServes s = true) (hl : s.stile.lock = 1) :
    ∃ t, exec .stileWtxTimer s = .next t ∧ t.out = .stile [0xF2, 0x01] :: s.out ∧ t.stile.wtx = satInc s.stile.wtx :=
  answered (congrArg Host.Outcome.next (if_pos ⟨hs, hl⟩)) ⟨rfl, rfl⟩

theorem tagWrite_sessions (a : Nat) (bs : Bytes) (t : State) : (tagWrite a bs t).stile.sessions = t.stile.sessions := rfl

/-- The whole tap-log entry counts its session (R669). -/
theorem tapEntry_counts (s : State) :
    (tapEntry 4 s).stile.seq = s.stile.seq + 1 ∧ (tapEntry 4 s).stile.logged = true ∧ (tapEntry 4 s).stile.sessions = satInc s.stile.sessions := by
  unfold tapEntry
  simp only [Nat.le_refl, if_true, show 1 ≤ 4 by decide, show 2 ≤ 4 by decide, show 3 ≤ 4 by decide]
  refine ⟨rfl, rfl, congrArg satInc ?_⟩
  simp only [tagWrite_sessions]

theorem select_logs (hs : tagServes s = true) (hl : s.stile.logged = false) :
    ∃ t, exec (.stileApduSelect stileAid 4) s = .next t ∧ t.stile.selected = true ∧ t.stile.logged = true ∧ t.stile.seq = s.stile.seq + 1 ∧
      t.stile.sessions = satInc s.stile.sessions := by
  obtain ⟨hseq, hlog, hses⟩ := tapEntry_counts s
  change ∃ t, execStileApduSelect stileAid 4 s = .next t ∧ _
  unfold execStileApduSelect
  rw [if_neg (fun h => absurd h.2.2.2 (by decide)), tagServe_of hs, if_neg (not_not_intro rfl), if_neg (by rw [hl]; exact Bool.false_ne_true)]
  generalize tapEntry 4 s = u at *
  exact ⟨_, rfl, rfl, hlog, hseq, hses⟩

theorem readStatement_answers (h : TagSelected s) {offset le : Nat} (h1 : 1 ≤ le) (h2 : le ≤ 256) (ho : offset ≤ 0x3FF) :
    exec (.stileReadStatement offset le) s = .next (tagAnswer (tagRead s (0x800 + offset) (min le (0x400 - offset))) 0x9000 s) := by
  change execStileReadStatement offset le s = _
  rw [execStileReadStatement, tagCommand_of h, if_neg (by omega), if_neg (by omega)]

theorem getStatus_answers (h : TagSelected s) {challenge : Bytes} (hc : challenge.length = 16) (hm : s.stile.material ≠ []) :
    exec (.stileGetStatus challenge) s
      = .next (tagAnswer (hedgeStatus s ++ cmac s.stile.material (ascii "NST1" ++ hedgeStatus s ++ challenge ++ s.stile.uid)) 0x9000 s) := by
  change execStileGetStatus challenge s = _
  rw [execStileGetStatus, tagCommand_of h, if_neg (not_not_intro hc)]
  exact congrArg (fun bs => Host.Outcome.next (tagAnswer (hedgeStatus s ++ bs) 0x9000 s)) (if_neg hm)

theorem readLog_answers (h : TagSelected s) (back : Nat) :
    exec (.stileReadLog back 16) s
      = .next (tagAnswer (if back < min s.stile.seq 256 then tagRead s (slotAddr (s.stile.seq - back)) 16 else zeros 16) 0x9000 s) := by
  change execStileReadLog back 16 s = _
  rw [execStileReadLog, tagCommand_of h, if_neg (by decide)]
  exact congrArg (fun bs => Host.Outcome.next (tagAnswer bs 0x9000 s)) (List.append_nil _)

/-- A write through the keeper's port changes the Stile region alone (R659, R667). -/
theorem wireWrite_writes (addr : Nat) (data : Bytes) (held : Bool) :
    ∃ t, exec (.stileWireWrite addr data held) s = .next t ∧ t.stile.lock = (if held then 1 else 0) ∧
      ∀ a : Nat, tagRead t a 1 = if addr ≤ a ∧ a < addr + data.length ∧ 0x800 ≤ a ∧ a < 0x1C20 then (data.drop (a - addr)).take 1 else tagRead s a 1 := by
  refine answered rfl ⟨rfl, fun a => ?_⟩
  refine (congrArg (fun b => [b]) (tagWrite_byte addr a data s)).trans ?_
  by_cases hin : addr ≤ a ∧ a < addr + data.length ∧ 0x800 ≤ a ∧ a < 0x1C20
  · rw [if_pos hin, if_pos hin, take_one_drop (by omega)]
  · rw [if_neg hin, if_neg hin, tagRead_one]

theorem statementRefresh_writes (hg : s.power.good = true) (hb : s.start.bootOk = true) :
    ∃ t, exec .stileStatementRefresh s = .next t ∧ tagRead t 0x800 232 = fit 232 (statementBody s) :=
  answered (congrArg Host.Outcome.next (if_pos ⟨hg, hb⟩)) (refreshStatement_reads s)

end

/-- Settles O30: each frame and each command of the tag by its own branch, and the ferroelectric memory byte by byte. -/
theorem stileTagAnswers : Obligations.StileTagAnswers := by
  intro s
  refine ⟨fieldEntry_idles, ⟨_, rfl, rfl, rfl, rfl, rfl⟩, fun hf => ⟨reqa_wakes hf, wupa_wakes hf,
      fun hr => ⟨anticollision_answers hf hr, select_activates hf hr, unlisted_idles hf hr⟩,
      fun ha hr => ⟨rats_answered hf ha hr, hlta_halts hf ha hr⟩, fun ha hr => ?_⟩,
    fun h => ⟨fun _ _ => readStatement_answers h, fun _ => getStatus_answers h, readLog_answers h⟩, wireWrite_writes, statementRefresh_writes⟩
  have hs := tagServes_of hf ha hr
  exact ⟨deselect_halts hs, rBlock_repeats hs, wtxResponse_goesOn hs, wtxTimer_extends hs, select_logs hs⟩

end Sys2Proof.Machine

end

section
/-!
SUPPORT. Channels and their rings. O54.
-/
namespace Sys2Proof.Machine
open Sys2Proof Sys2Proof.Statements

/-! ### Channels enabled, halted and disabled -/

theorem mfind_mapVals {β : Type} (f : Nat → β → β) (k : Nat) (m : AMap β) : mfind k (mapVals f m) = (mfind k m).map (f k) := by
  induction m with
  | nil => rfl
  | cons e m ih =>
    change (if e.1 = k then some (f e.1 e.2) else mfind k (mapVals f m)) = (if e.1 = k then some e.2 else mfind k m).map (f k)
    by_cases h : e.1 = k
    · rw [if_pos h, if_pos h, h]; rfl
    · rw [if_neg h, if_neg h, ih]

theorem ofNat_toNat_32 (v : BitVec 32) : BitVec.ofNat 32 v.toNat = v := BitVec.ofNat_toNat .. |>.trans (BitVec.setWidth_eq v)

/-- Nothing of a channel but its ring lines differs. -/
def SameButLines (c d : Chan) : Prop := d = { c with held := d.held, asked := d.asked, direct := d.direct, lines := d.lines }

section
variable {s t : State} {ch : Nat}

theorem chanAt_modChan_same (f : Chan → Chan) (s : State) : chanAt (modChan ch f s) ch = f (chanAt s ch) := (chanAt_modChan ..).trans (if_pos rfl)

theorem chanAt_of_chans (h : t.chans = s.chans) (n : Nat) : chanAt t n = chanAt s n := by rw [chanAt, chanAt, h]

theorem settleLines_lines (n : Nat) (s : State) : SameButLines (chanAt s n) (chanAt (settleLines n s) n) := by
  unfold settleLines
  split
  · exact rfl
  · extract_lets c w gone want
    have hemit : ∀ u : State, (forAll want (fun l t => emit (.cache "RdShared" n l) t) (forAll gone (fun l t => emit (.cache "CleanEvictNoData" n l) t) u)).chans
        = u.chans := fun u =>
      forAll_leaves (π := .chans) (fun _ _ hu => emit_leaves rfl hu) (forAll_leaves (fun _ _ hu => emit_leaves rfl hu) (.refl u))
    rw [chanAt_of_chans (hemit _), chanAt_modChan_same]
    exact rfl

theorem evict_lines (n : Nat) (s : State) : SameButLines (chanAt s n) (chanAt (evict n s) n) := by
  have h := settleLines_lines n (modChan n (fun c => { c with lines := [], asked := [], direct := [] }) s)
  unfold SameButLines at *
  rw [chanAt_modChan_same] at h
  exact h.trans rfl

theorem alert_rises (b : Nat) (hb : b < 5) (s : State) : (chanAt (alert ch b s) ch).alert.getLsbD b = true := by
  unfold alert
  rw [chanAt_modChan_same]
  by_cases h : (chanAt s ch).alert.getLsbD b
  · rw [if_pos h, h]
  · rw [if_neg h]
    change ((chanAt s ch).alert ||| BitVec.ofNat 5 (2 ^ b)).getLsbD b = true
    rw [BitVec.getLsbD_or, BitVec.getLsbD_ofNat, Nat.testBit_two_pow_self, decide_eq_true hb, Bool.and_self, Bool.or_true]

/-- What an alert leaves as it is. -/
theorem alert_others (b : Nat) (s : State) : (chanAt (alert ch b s) ch).state = (chanAt s ch).state ∧ (chanAt (alert ch b s) ch).haltResult = (chanAt s ch).haltResult ∧
    (chanAt (alert ch b s) ch).cqHead = (chanAt s ch).cqHead := by
  unfold alert
  rw [chanAt_modChan_same]
  split <;> exact ⟨rfl, rfl, rfl⟩

theorem raiseChan_chans (n code detail : Nat) (s : State) : (raiseChan n code detail s).chans = s.chans := raiseChan_leaves (π := .chans) rfl (.refl s)

theorem halt_halts (r : Nat) (s : State) :
    (chanAt (halt ch r s) ch).state = .halted ∧ (chanAt (halt ch r s) ch).haltResult = BitVec.ofNat 16 r ∧ (chanAt (halt ch r s) ch).alert.getLsbD 0 = true := by
  unfold halt
  rw [chanAt_of_chans (raiseChan_chans ..)]
  obtain ⟨hst, hres, -⟩ := alert_others (ch := ch) 0
    (modChan ch (fun c => { c with state := .halted, head := none, haltResult := BitVec.ofNat 16 r, haltNotice := some (r, c.sqHead.toNat) }) s)
  rw [chanAt_modChan_same] at hst hres
  exact ⟨hst, hres, alert_rises 0 (by decide) _⟩

/-! #### CHN_CTL -/

theorem chnCtl_one (n v : Nat) (s : State) (hv : bit 0 v = true) :
    chanWriteWord n 0x000 v s = enableChan n (modChan n (fun c => { c with disableMode := bit 1 v }) s) := if_pos hv

theorem chnCtl_zero (n v : Nat) (s : State) (hv : bit 0 v = false) :
    chanWriteWord n 0x000 v s = disableChan n (bit 1 v) (modChan n (fun c => { c with disableMode := bit 1 v }) s) :=
  if_neg (by rw [hv]; exact Bool.false_ne_true)

theorem disableChan_running (w : Bool) (hr : (chanAt s ch).state = .running) : disableChan ch w s
    = (let s1 := modChan ch (fun c => { c with state := .quiescing, enable := false, withdrawing := w }) s
       tryQuiesce ch (if w then withdrawChan ch 0x0A01 s1 else s1)) := by
  unfold disableChan
  dsimp only
  rw [hr]

/-- An audited write of CHN_CTL leaves the channels and the jobs as its effect does. -/
theorem ctl_answered {m : Master} {v : Nat} {P : State → Prop} (ho : WriteOpen (chanAddr ch 0x000) m s)
    (h : ∀ t : State, t.chans = (chanWriteWord ch 0x000 v s).chans → t.jobs = (chanWriteWord ch 0x000 v s).jobs → P t) :
    ∃ t, Host.Outcome.next (chanAuditedWrite m ch 0x000 v s) = (.next t : Res) ∧ P t := by
  refine ⟨_, rfl, ?_⟩
  have hw : chanAuditedWrite m ch 0x000 v s = _ := audited_noSets ho
  rw [hw]
  exact h _ (same_appendConfig (π := .chans) rfl) (same_appendConfig (π := .jobs) rfl)

theorem enableChan_runs (hd : (chanAt s ch).state = .disabled) (hc : configOk (chanAt s ch) = true) :
    (chanAt (enableChan ch s) ch).state = .running ∧ (chanAt (enableChan ch s) ch).enable = true ∧ ∀ n, n ≠ ch → chanAt (enableChan ch s) n = chanAt s n := by
  unfold enableChan
  dsimp only
  rw [hd]
  dsimp only
  rw [if_pos hc]
  generalize hu : modChan ch _ s = u
  have hch : (chanAt u ch).state = .running ∧ (chanAt u ch).enable = true := by rw [← hu, chanAt_modChan_same]; exact ⟨rfl, rfl⟩
  have hl := settleLines_lines ch u
  refine ⟨?_, ?_, fun n hn => ?_⟩
  · rw [hl]; exact hch.1
  · rw [hl]; exact hch.2
  · rw [(ChanQuiet.settleLines (.refl ch u)).others n hn, ← hu, chanAt_modChan, if_neg hn]

theorem bit_zero_odd (n : Nat) : bit 0 (1 + 2 * n) = true := by
  unfold bit
  rw [Nat.testBit_zero, show (1 + 2 * n) % 2 = 1 by omega]; rfl

theorem bit_one_flag (b : Bool) : bit 1 (1 + 2 * b2n b) = b := by cases b <;> rfl

theorem chnEnable_runs {m : Master} (ho : WriteOpen (chanAddr ch 0x000) m s) (hd : (chanAt s ch).state = .disabled) (hc : configOk (chanAt s ch) = true) :
    ∃ t, exec (.chnEnable m ch) s = .next t ∧ (chanAt t ch).state = .running ∧ (chanAt t ch).enable = true ∧ ∀ n, n ≠ ch → chanAt t n = chanAt s n := by
  refine ctl_answered ho fun t hchans _ => ?_
  rw [chnCtl_one _ _ _ (bit_zero_odd _)] at hchans
  have hat := chanAt_of_chans hchans
  obtain ⟨hst, hen, hoth⟩ := enableChan_runs (ch := ch)
    (s := modChan ch (fun c => { c with disableMode := bit 1 (1 + 2 * b2n (chanAt s ch).disableMode) }) s)
    (by rw [chanAt_modChan_same]; exact hd) (by rw [chanAt_modChan_same]; exact hc)
  refine ⟨by rw [hat]; exact hst, by rw [hat]; exact hen, fun n hn => ?_⟩
  rw [hat, hoth n hn, chanAt_modChan, if_neg hn]

theorem heldSlots_of_jobs (h : t.jobs = s.jobs) (n : Nat) : heldSlots t n = heldSlots s n := by rw [heldSlots, heldSlots, h]

theorem tryQuiesce_held (h : heldSlots s ch ≠ 0) : tryQuiesce ch s = s := if_neg fun hq => h hq.2.1

theorem drain_quiesces {m : Master} (ho : WriteOpen (chanAddr ch 0x000) m s) (hr : (chanAt s ch).state = .running) (hh : heldSlots s ch ≠ 0) :
    ∃ t, exec (.chnDisableDrain m ch) s = .next t ∧ (chanAt t ch).state = .quiescing ∧ (chanAt t ch).enable = false ∧ t.jobs = s.jobs := by
  refine ctl_answered ho fun t hchans hjobs => ?_
  have hw : chanWriteWord ch 0x000 0 s = modChan ch (fun c => { c with state := .quiescing, enable := false, withdrawing := false })
      (modChan ch (fun c => { c with disableMode := false }) s) := by
    rw [chnCtl_zero _ _ _ rfl, disableChan_running _ (by rw [chanAt_modChan_same]; exact hr)]
    exact tryQuiesce_held hh
  rw [hw] at hchans hjobs
  have hat := (chanAt_of_chans hchans ch).trans (chanAt_modChan_same ..)
  rw [hat]
  exact ⟨rfl, rfl, hjobs⟩

/-- Withdrawal of a channel marks its unfinished jobs. -/
theorem withdrawChan_jobs (n r : Nat) (s : State) : (withdrawChan n r s).jobs
    = mapVals (fun _ j => if j.chan = n ∧ j.stage ≠ .finished ∧ j.withdraw = none then { j with withdraw := some r } else j) s.jobs :=
  forAll_leaves (π := .jobs) (fun _ _ hu => dropStep_leaves rfl hu) (.refl { s with jobs := _ })

theorem withdrawChan_chans (n r : Nat) (s : State) : (withdrawChan n r s).chans = s.chans := by
  unfold withdrawChan
  exact forAll_leaves (π := .chans) (fun _ _ hu => dropStep_leaves rfl hu) rfl

theorem heldSlots_withdrawChan (n r : Nat) (s : State) : heldSlots (withdrawChan n r s) n = heldSlots s n := by
  unfold heldSlots
  rw [withdrawChan_jobs, mapVals, List.filter_map, List.length_map]
  refine congrArg (fun p => (List.filter p s.jobs).length) (funext fun e => ?_)
  dsimp only [Function.comp]
  split <;> rfl

theorem withdraw_quiesces {m : Master} (ho : WriteOpen (chanAddr ch 0x000) m s) (hr : (chanAt s ch).state = .running) (hh : heldSlots s ch ≠ 0) :
    ∃ t, exec (.chnDisableWithdraw m ch) s = .next t ∧ (chanAt t ch).state = .quiescing ∧ (chanAt t ch).enable = false ∧
      ∀ k j, jobAt s k = some j → j.stage ≠ .finished → j.withdraw = none → jobAt t k = some (if j.chan = ch then { j with withdraw := some 0x0A01 } else j) := by
  refine ctl_answered ho fun t hchans hjobs => ?_
  have hw : chanWriteWord ch 0x000 2 s = withdrawChan ch 0x0A01 (modChan ch (fun c => { c with state := .quiescing, enable := false, withdrawing := true })
      (modChan ch (fun c => { c with disableMode := true }) s)) := by
    rw [chnCtl_zero _ _ _ rfl, disableChan_running _ (by rw [chanAt_modChan_same]; exact hr)]
    exact tryQuiesce_held (by rw [if_pos (by decide), heldSlots_withdrawChan]; exact hh)
  rw [hw] at hchans hjobs
  rw [withdrawChan_chans] at hchans
  rw [withdrawChan_jobs] at hjobs
  have hat := (chanAt_of_chans hchans ch).trans (chanAt_modChan_same ..)
  rw [hat]
  refine ⟨rfl, rfl, fun k j hj hf hnone => ?_⟩
  rw [jobAt, hjobs, mfind_mapVals]
  refine (congrArg (Option.map _) hj).trans (congrArg some ?_)
  dsimp only
  by_cases hc : j.chan = ch
  · rw [if_pos ⟨hc, hf, hnone⟩, if_pos hc]
  · rw [if_neg (fun h => hc h.1), if_neg hc]

/-- Quiescing ends in DISABLED where nothing of the channel is in flight (R143). -/
theorem tryQuiesce_disables (hq : (chanAt s ch).state = .quiescing) (h0 : heldSlots s ch = 0) (hr : (chanAt s ch).refusals = []) (hh : (chanAt s ch).head = none)
    (hn : (chanAt s ch).haltNotice = none) : (chanAt (tryQuiesce ch s) ch).state = .disabled ∧ (chanAt (tryQuiesce ch s) ch).alert.getLsbD 4 = true := by
  unfold tryQuiesce
  dsimp only
  rw [if_pos ⟨hq, h0, hr, hh, hn⟩, chanAt_of_chans (raiseChan_chans ..)]
  refine ⟨?_, alert_rises 4 (by decide) _⟩
  rw [(alert_others ..).1, evict_lines]
  exact congrArg Chan.state (chanAt_modChan_same ..)

theorem drain_ends {m : Master} (ho : WriteOpen (chanAddr ch 0x000) m s) (hr : (chanAt s ch).state = .running) (h0 : heldSlots s ch = 0)
    (href : (chanAt s ch).refusals = []) (hh : (chanAt s ch).head = none) (hn : (chanAt s ch).haltNotice = none) :
    ∃ t, exec (.chnDisableDrain m ch) s = .next t ∧ (chanAt t ch).state = .disabled ∧ (chanAt t ch).alert.getLsbD 4 = true := by
  refine ctl_answered ho fun t hchans _ => ?_
  rw [chnCtl_zero _ _ _ rfl, disableChan_running _ (by rw [chanAt_modChan_same]; exact hr)] at hchans
  have hat := chanAt_of_chans hchans ch
  rw [hat]
  dsimp only
  rw [if_neg (by decide)]
  refine tryQuiesce_disables ?_ h0 ?_ ?_ ?_
  all_goals rw [chanAt_modChan_same]
  · exact (congrArg Chan.refusals (chanAt_modChan_same ..)).trans href
  · exact (congrArg Chan.head (chanAt_modChan_same ..)).trans hh
  · exact (congrArg Chan.haltNotice (chanAt_modChan_same ..)).trans hn

/-! #### The producer and the consumer index -/

theorem hostWrite_open {f : State → State} (h : s.link.inReset = .none) : hostWrite f s = f s := if_pos h

theorem hostWrite_reset {f : State → State} (h : s.link.inReset ≠ .none) : hostWrite f s = s := if_neg h

/-- CHN_SQ_DOORBELL as the host writes it. -/
theorem sqDoorbell_written (p : BitVec 32) (hi : s.link.inReset = .none) : exec (.chnSqDoorbell ch p) s = .next (
    if (chanAt s ch).state ≠ .running then s else if linkOpen s then doorbell ch p s else modChan ch (fun c => { c with keptDoorbell := some p }) s) := by
  refine (congrArg Host.Outcome.next (hostWrite_open hi)).trans (congrArg Host.Outcome.next ?_)
  have hw : ∀ n : Nat, chanWriteWord ch 0x018 n s = if (chanAt s ch).state ≠ .running then s else if linkOpen s then doorbell ch (BitVec.ofNat 32 n) s
      else modChan ch (fun c => { c with keptDoorbell := some (BitVec.ofNat 32 n) }) s := fun _ => rfl
  rw [hw, ofNat_toNat_32]

theorem sqDoorbell_open {p : BitVec 32} (hi : s.link.inReset = .none) (hr : (chanAt s ch).state = .running) (hl : linkOpen s = true) :
    exec (.chnSqDoorbell ch p) s = .next (doorbell ch p s) :=
  (sqDoorbell_written p hi).trans (congrArg Host.Outcome.next ((if_neg (not_not_intro hr)).trans (if_pos hl)))

theorem sqSize_pos (c : Chan) : 0 < sqSize c := Nat.two_pow_pos _

theorem doorbell_tooFar {p : BitVec 32} (hr : (chanAt s ch).state = .running) (hk : sqSize (chanAt s ch) < (p - (chanAt s ch).sqHead).toNat)
    (hp : (p - (chanAt s ch).sqHead).toNat < 2 ^ 31) : doorbell ch p s = halt ch 0x0101 s := by
  have hpos := sqSize_pos (chanAt s ch)
  exact (if_neg fun h => h.elim (fun h => h hr) fun h => h.elim (by omega) (by omega)).trans (if_neg (by omega))

theorem doorbell_notAhead {p : BitVec 32} (h : p = (chanAt s ch).sqHead ∨ 2 ^ 31 ≤ (p - (chanAt s ch).sqHead).toNat) : doorbell ch p s = s := by
  refine if_pos (.inr ?_)
  rcases h with h | h
  · exact .inl (by rw [h, BitVec.sub_self]; rfl)
  · exact .inr h

theorem sqDoorbell_kept {p : BitVec 32} (hi : s.link.inReset = .none) (hr : (chanAt s ch).state = .running) (hl : linkOpen s = false) :
    ∃ t, exec (.chnSqDoorbell ch p) s = .next t ∧ (chanAt t ch).keptDoorbell = some p :=
  ⟨_, (sqDoorbell_written p hi).trans (congrArg Host.Outcome.next ((if_neg (not_not_intro hr)).trans (if_neg (ne_true_of_eq_false hl)))),
    congrArg Chan.keptDoorbell (chanAt_modChan_same ..)⟩

theorem sqDoorbells (p : BitVec 32) (hi : s.link.inReset = .none) (hr : (chanAt s ch).state = .running) :
    let c := chanAt s ch
    (linkOpen s = true → sqSize c < (p - c.sqHead).toNat → (p - c.sqHead).toNat < 2 ^ 31 →
      ∃ t, exec (.chnSqDoorbell ch p) s = .next t ∧ (chanAt t ch).state = .halted ∧ (chanAt t ch).haltResult = 0x0101 ∧ (chanAt t ch).alert.getLsbD 0 = true) ∧
    (linkOpen s = true → (p = c.sqHead ∨ 2 ^ 31 ≤ (p - c.sqHead).toNat) → exec (.chnSqDoorbell ch p) s = .next s) ∧
    (linkOpen s = false → ∃ t, exec (.chnSqDoorbell ch p) s = .next t ∧ (chanAt t ch).keptDoorbell = some p) := by
  refine ⟨fun hl hk hp => ⟨_, (sqDoorbell_open hi hr hl).trans (congrArg _ (doorbell_tooFar hr hk hp)), halt_halts _ _⟩,
    fun hl h => (sqDoorbell_open hi hr hl).trans (congrArg _ (doorbell_notAhead h)), sqDoorbell_kept hi hr⟩

/-- CHN_CQ_HEAD as the host writes it. -/
theorem cqHead_written (v : BitVec 32) (hi : s.link.inReset = .none) : exec (.chnCqHead ch v) s = .next (
    if (chanAt s ch).state = .disabled then alert ch 3 s
    else if (v - (chanAt s ch).cqHead).toNat ≤ ((chanAt s ch).cqTail - (chanAt s ch).cqHead).toNat then
      tryQuiesce ch (modChan ch (fun c => { c with cqHead := v }) s)
    else raiseChan ch 0x0120 v.toNat (alert ch 3 s)) := by
  refine (congrArg Host.Outcome.next (hostWrite_open hi)).trans (congrArg Host.Outcome.next ?_)
  have hw : ∀ n : Nat, chanWriteWord ch 0x02C n s = if (chanAt s ch).state = .disabled then alert ch 3 s
      else if (BitVec.ofNat 32 n - (chanAt s ch).cqHead).toNat ≤ ((chanAt s ch).cqTail - (chanAt s ch).cqHead).toNat then
        tryQuiesce ch (modChan ch (fun c => { c with cqHead := BitVec.ofNat 32 n }) s)
      else raiseChan ch 0x0120 n (alert ch 3 s) := fun _ => rfl
  rw [hw, ofNat_toNat_32]

theorem cqHead_moves (v : BitVec 32) (hi : s.link.inReset = .none) (hd : (chanAt s ch).state ≠ .disabled) :
    let c := chanAt s ch
    ((v - c.cqHead).toNat ≤ (c.cqTail - c.cqHead).toNat → ∃ t, exec (.chnCqHead ch v) s = .next t ∧ (chanAt t ch).cqHead = v ∧ t.jobs = s.jobs) ∧
    ((c.cqTail - c.cqHead).toNat < (v - c.cqHead).toNat →
      ∃ t, exec (.chnCqHead ch v) s = .next t ∧ (chanAt t ch).cqHead = c.cqHead ∧ (chanAt t ch).alert.getLsbD 3 = true) := by
  refine ⟨fun h => ⟨_, cqHead_written v hi, ?_⟩, fun h => ⟨_, cqHead_written v hi, ?_⟩⟩
  · rw [if_neg hd, if_pos h]
    have hq := ChanQuiet.tryQuiesce (.refl ch (modChan ch (fun c => { c with cqHead := v }) s))
    exact ⟨hq.cqHead.trans (congrArg Chan.cqHead (chanAt_modChan_same ..)), hq.jobs⟩
  · rw [if_neg hd, if_neg (by omega), chanAt_of_chans (raiseChan_chans ..)]
    exact ⟨(alert_others ..).2.2, alert_rises 3 (by decide) s⟩

theorem cqHead_refused (v : BitVec 32) : (s.link.inReset = .none → (chanAt s ch).state = .disabled → exec (.chnCqHead ch v) s = .next (alert ch 3 s)) ∧
    (s.link.inReset ≠ .none → exec (.chnCqHead ch v) s = .next s ∧ exec (.chnSqDoorbell ch v) s = .next s) :=
  ⟨fun hi hd => (cqHead_written v hi).trans (congrArg _ (if_pos hd)), fun hi => ⟨congrArg _ (hostWrite_reset hi), congrArg _ (hostWrite_reset hi)⟩⟩

end

theorem channelsRunHaltAndStop : ChannelsRunHaltAndStop := fun _ _ =>
  ⟨fun _ => chnEnable_runs, fun _ ho hr hh => ⟨drain_quiesces ho hr hh, withdraw_quiesces ho hr hh⟩, fun _ => drain_ends, sqDoorbells, cqHead_moves, cqHead_refused⟩

/-! ### Ring lines and pushes -/

section
variable {s : State} {ch : Nat}

theorem ringLine_examined (index : Nat) (data : Bytes) (status : ReadStatus) (why : LineRead) (hd : (chanAt s ch).state ≠ .disabled)
    (hh : (chanAt s ch).head = none ∨ index % sqSize (chanAt s ch) ≠ (chanAt s ch).sqHead.toNat % sqSize (chanAt s ch)) :
    exec (.ringLineReadDone ch index data status why) s = .next (examine ch (takeLine ch (index % sqSize (chanAt s ch))
      { data := fit 64 data, why := match why with | .window => .acquired | .doorbell => .doorbell, poisoned := decide (status = .poisoned) }
      (if decide (status = .poisoned) then raise phyPage 0x0112 ((chanAt s ch).sqBase.toNat * 4096 + 64 * (index % sqSize (chanAt s ch)))
        { s with link := { s.link with poisoned := satInc s.link.poisoned } } else s))) := by
  have hno : ∀ q : Prop, ¬ ((chanAt s ch).head.isSome = true ∧ index % sqSize (chanAt s ch) = (chanAt s ch).sqHead.toNat % sqSize (chanAt s ch) ∧ q) :=
    fun _ hq => hh.elim (fun h => by rw [h] at hq; cases hq.1) fun h => h hq.2.1
  exact congrArg Host.Outcome.next ((if_neg hd).trans (if_neg (hno _)))

theorem lines_put {pos : Nat} {line : LineData} {c : Chan} (hp : ∀ x, mfind pos c.lines = some x → x.why ≠ .pushed) :
    (match mfind pos c.lines with | some x => if x.why = .pushed then c.lines else mput pos line c.lines | none => mput pos line c.lines) = mput pos line c.lines := by
  split
  · next x hx => exact if_neg (hp x hx)
  · rfl

theorem takeLine_puts {pos : Nat} {line : LineData} (hp : ∀ x, mfind pos (chanAt s ch).lines = some x → x.why ≠ .pushed)
    (hw : line.why = .acquired → pos ∈ windowOf s (chanAt s ch)) : (chanAt (takeLine ch pos line s) ch).lines = mput pos line (chanAt s ch).lines := by
  unfold takeLine
  extract_lets put s1
  by_cases ha : line.why = .acquired
  · rw [if_neg (not_not_intro ha), if_pos (hw ha), chanAt_modChan_same]
    have h1 : chanAt s1 ch = { chanAt s ch with asked := (chanAt s ch).asked.filter (fun p => decide (p ≠ pos)) } := chanAt_modChan_same ..
    rw [h1]
    exact lines_put hp
  · rw [if_pos ha, chanAt_modChan_same]
    exact lines_put hp

theorem takeLine_holds {pos : Nat} {line : LineData} (ha : line.why = .acquired) (hw : pos ∈ windowOf s (chanAt s ch)) (hp : line.poisoned = false)
    (hc : cacheActive s = true) : pos ∈ (chanAt (takeLine ch pos line s) ch).held := by
  unfold takeLine
  extract_lets put s1
  rw [if_neg (not_not_intro ha), if_pos hw, chanAt_modChan_same]
  dsimp only
  split
  · next h =>
    rcases h with h | h | h
    · exact h
    · rw [hp] at h; cases h
    · exact absurd hc h
  · exact List.mem_append_right _ (List.mem_singleton.2 rfl)

/-- A push write that is one to sixteen whole words of one ring slot (R159). -/
structure PushFits (s : State) (off : Nat) (data : Bytes) : Prop where
  open_ : s.link.inReset = .none
  least : 4 ≤ data.length
  most : data.length ≤ 64
  words : data.length % 4 = 0
  aligned : off % 4 = 0
  oneSlot : off / 64 = (off + data.length - 1) / 64

/-- The assembly of a channel with a write merged into it. -/
def pushWritten (ch off : Nat) (data : Bytes) (s : State) : AMap Byte := data.zipIdx.foldl (fun m e => mput (off + e.2) e.1 m) (chanAt s ch).push

/-- The state with the assembly so written. -/
def pushMerged (ch off : Nat) (data : Bytes) (s : State) : State := modChan ch (fun x => { x with push := pushWritten ch off data s, pushFirst := if (chanAt s ch).push = [] then now s else x.pushFirst }) s

theorem pushWrite_eq {off : Nat} {data : Bytes} (hf : PushFits s off data) (hk : (chanAt s ch).pushKept = false) (hr : regionFull (chanAt s ch).push (off / 64) = false) :
    exec (.pushWrite ch off data) s = .next (
      if pushComplete (pushWritten ch off data s) then
        if linkOpen s ∨ (chanAt s ch).state = .disabled then decidePush ch (pushMerged ch off data s)
        else modChan ch (fun c => { c with pushKept := true }) (pushMerged ch off data s)
      else pushMerged ch off data s) := by
  obtain ⟨ho, h4, h64, hw, ha, h1⟩ := hf
  have hs1 : (if (chanAt s ch).pushKept = true ∨ regionFull (chanAt s ch).push (off / 64) = true then ignorePush ch s else s) = s :=
    if_neg (by rw [hk, hr]; exact fun h => h.elim Bool.false_ne_true Bool.false_ne_true)
  change execPushWrite ch off data s = _
  unfold execPushWrite
  dsimp only
  rw [if_neg (not_not_intro ho), if_neg (by omega), hs1]
  rfl

theorem pushMerged_chan (off : Nat) (data : Bytes) : chanAt (pushMerged ch off data s) ch = { chanAt s ch with
    push := pushWritten ch off data s, pushFirst := if (chanAt s ch).push = [] then now s else (chanAt s ch).pushFirst } := chanAt_modChan_same ..

/-- The lines that a taken push puts into the ring. -/
def pushLines (written : AMap Byte) (c : Chan) : AMap LineData :=
  (List.range (min 4 (parseHeader (regionBytes written 0)).slots)).foldl
    (fun m i => mput (c.sqHead.toNat % sqSize c + i) { data := regionBytes written i, why := .pushed, poisoned := false } m) c.lines

theorem decidePush_takes {off : Nat} {data : Bytes} (hrun : (chanAt s ch).state = .running)
    (hst : (parseHeader (regionBytes (pushWritten ch off data s) 0)).stamp = (chanAt s ch).sqHead.toNat) (hh : (chanAt s ch).head = none) :
    decidePush ch (pushMerged ch off data s) = examine ch (modChan ch (fun x => { x with
      push := [], pushKept := false, lines := pushLines (pushWritten ch off data s) (chanAt s ch) }) (pushMerged ch off data s)) := by
  unfold decidePush
  rw [pushMerged_chan]
  exact if_pos ⟨hrun, hst, hh⟩

theorem ignorePush_empties (t : State) : (chanAt (ignorePush ch t) ch).push = [] ∧ (chanAt (ignorePush ch t) ch).ignored = satInc (chanAt t ch).ignored ∧
    (chanAt (ignorePush ch t) ch).lines = (chanAt t ch).lines := by
  unfold ignorePush
  rw [chanAt_of_chans (raiseChan_chans ..), chanAt_modChan_same]
  exact ⟨rfl, rfl, rfl⟩

theorem decidePush_ignores {off : Nat} {data : Bytes}
    (hno : (parseHeader (regionBytes (pushWritten ch off data s) 0)).stamp ≠ (chanAt s ch).sqHead.toNat ∨ (chanAt s ch).head ≠ none) :
    decidePush ch (pushMerged ch off data s) = ignorePush ch (pushMerged ch off data s) := by
  unfold decidePush
  rw [pushMerged_chan]
  exact if_neg fun h => hno.elim (fun hn => hn h.2.1) fun hn => hn h.2.2

theorem pushTimeout_ignores (hp : (chanAt s ch).push ≠ []) (hk : (chanAt s ch).pushKept = false) (hn : (chanAt s ch).pushFirst + 1 ≤ now s) :
    ∃ t, exec (.pushAssemblyTimeout ch) s = .next t ∧ (chanAt t ch).push = [] ∧ (chanAt t ch).ignored = satInc (chanAt s ch).ignored := by
  obtain ⟨hpush, hign, -⟩ := ignorePush_empties (ch := ch) s
  refine ⟨_, congrArg Host.Outcome.next (if_neg fun h => ?_), hpush, hign⟩
  rcases h with h | h | h
  · exact hp h
  · rw [hk] at h; cases h
  · omega

/-- A snooped line is given up, and asked for again where the module may read (R112). -/
def lineGivenUp (ch line : Nat) (s : State) : State :=
  modChan ch (fun c => { c with held := c.held.filter (fun l => decide (l ≠ line)), asked := if mayRead s then c.asked ++ [line] else c.asked,
                                lines := c.lines.filter (fun e => !(decide (e.1 = line) && !decide (e.2.why = .pushed))) })
    { s with link := { s.link with snoops := satInc s.link.snoops } }

theorem snoopInv_eq {line : Nat} (hm : line ∈ (chanAt s ch).held) (hc : cacheActive s = true) : exec (.snoopInv ch line) s
    = .next (if mayRead s then emit (.cache "RdShared" ch line) (emit (.cache "RspIHitSE" ch line) (lineGivenUp ch line s))
        else emit (.cache "RspIHitSE" ch line) (lineGivenUp ch line s)) :=
  congrArg Host.Outcome.next (if_pos ⟨hc, hm⟩)

theorem snoopInv_givesUp {line : Nat} (hm : line ∈ (chanAt s ch).held) (hc : cacheActive s = true) :
    ∃ t, exec (.snoopInv ch line) s = .next t ∧ (chanAt t ch).held = (chanAt s ch).held.filter (fun l => decide (l ≠ line)) ∧ t.link.snoops = satInc s.link.snoops ∧
      (mayRead s = true → (chanAt t ch).asked = (chanAt s ch).asked ++ [line] ∧ t.out = .cache "RdShared" ch line :: .cache "RspIHitSE" ch line :: s.out) ∧
      (mayRead s = false → (chanAt t ch).asked = (chanAt s ch).asked ∧ t.out = .cache "RspIHitSE" ch line :: s.out) := by
  have hg : chanAt (lineGivenUp ch line s) ch = _ := chanAt_modChan_same ..
  refine ⟨_, snoopInv_eq hm hc, ?_⟩
  cases hr : mayRead s
  · rw [if_neg Bool.false_ne_true]
    refine ⟨congrArg Chan.held hg, rfl, fun h => (Bool.false_ne_true h).elim, fun _ => ⟨(congrArg Chan.asked hg).trans ?_, rfl⟩⟩
    exact if_neg (by rw [hr]; exact Bool.false_ne_true)
  · rw [if_pos rfl]
    exact ⟨congrArg Chan.held hg, rfl, fun _ => ⟨(congrArg Chan.asked hg).trans (if_pos hr), rfl⟩, fun h => (Bool.false_ne_true h.symm).elim⟩

end

theorem ringLinesAndPushes : RingLinesAndPushes := by
  intro s ch
  refine ⟨fun index data status why hd hh => ringLine_examined index data status why hd hh,
    fun pos line hp hw => ⟨takeLine_puts hp hw, fun ha hpo hc => takeLine_holds ha (hw ha) hpo hc⟩,
    fun off data ho h4 h64 hw ha h1 hk hr => ?_, pushTimeout_ignores, fun line hm hc => ⟨snoopInv_givesUp hm hc, congrArg Host.Outcome.next (if_pos ⟨hc, hm⟩)⟩,
    fun line hm => ⟨congrArg Host.Outcome.next (if_neg fun h => hm h.2), congrArg Host.Outcome.next (if_neg fun h => hm h.2)⟩⟩
  have hw := pushWrite_eq ⟨ho, h4, h64, hw, ha, h1⟩ hk hr
  refine ⟨fun hn => ?_, fun hy hl hrun hst hh => ?_, fun hy hl hrun hno => ?_, fun hy hl hd => ?_⟩
  · exact hw.trans (congrArg Host.Outcome.next (if_neg (ne_true_of_eq_false hn)))
  · exact hw.trans (congrArg Host.Outcome.next ((if_pos hy).trans ((if_pos (.inl hl)).trans (decidePush_takes hrun hst hh))))
  · obtain ⟨hpush, hign, hlines⟩ := ignorePush_empties (ch := ch) (pushMerged ch off data s)
    rw [pushMerged_chan] at hign hlines
    exact ⟨_, hw.trans (congrArg Host.Outcome.next ((if_pos hy).trans ((if_pos (.inl hl)).trans (decidePush_ignores hno)))), hpush, hign, hlines⟩
  · have hno : ¬ (linkOpen s = true ∨ (chanAt s ch).state = .disabled) := fun h => h.elim (ne_true_of_eq_false hl) hd
    exact hw.trans (congrArg Host.Outcome.next ((if_pos hy).trans (if_neg hno)))

/-- Settles O54: the channel's control register and its indices, then its ring lines, snoops and pushes. -/
theorem channelsServeTheirRings : Obligations.ChannelsServeTheirRings := ⟨channelsRunHaltAndStop, ringLinesAndPushes⟩

end Sys2Proof.Machine

end

section
/-!
SUPPORT. Engine steps that end, and what keeps the engines supplied. O55.
-/
namespace Sys2Proof.Machine
open Sys2Proof Sys2Proof.Statements

/-! ### Engine steps that end -/

section
variable {s : State} {slot i kind idx : Nat} {b : Bound} {j : Job}

/-- What the end of an engine step does, where the step runs and its job stands (R41). -/
def stepOutcome (slot i kind idx : Nat) (b : Bound) (j : Job) (outcome : StepEnd) (s : State) : State :=
  let p := enginePage kind idx
  let ends := fun (t : State) => if ¬ (stepAt j i).checked ∨ ¬ endsHere (stepAt j i) kind b then t else settleUnit p (stepEnds slot i kind idx b t)
  match outcome with
  | .done => ends s
  | .corrected tag row => ends (bayRow kind idx tag row (raise p (commonCode p 3) (tag + 256 * row) s))
  | .rowBad tag row =>
    let s1 := abortJob slot 0x0503 (raise p (commonCode p 2) (tag + 256 * row) s)
    if tag = 0x09 ∧ (kind = 0 ∨ kind = 2) then failUnit p (raise p 0x020F idx s1) else settleUnit p s1
  | .suspected => if kind = 0 ∧ releaseChecked (stepAt j i).step.opcode then quarantine slot i idx s else s

theorem engineStepEnd_of_running (hr : runningOn s kind slot i = some (idx, b)) (hj : jobAt s slot = some j) (o : StepEnd) :
    exec (.engineStepEnd slot i kind o) s = .next (stepOutcome slot i kind idx b j o s) := by
  change execEngineStepEnd slot i kind o s = _
  unfold execEngineStepEnd
  rw [hr, hj]
  cases o <;> rfl

theorem stepEnds_checked (hc : (stepAt j i).checked = true) (he : endsHere (stepAt j i) kind b = true) (t : State) :
    (if ¬ (stepAt j i).checked ∨ ¬ endsHere (stepAt j i) kind b then t else settleUnit (enginePage kind idx) (stepEnds slot i kind idx b t))
      = settleUnit (enginePage kind idx) (stepEnds slot i kind idx b t) :=
  if_neg fun h => h.elim (fun h => h hc) fun h => h he

theorem mldsaCutoff_of_running (hr : runningOn s 0 slot i = some (idx, b)) (hj : jobAt s slot = some j) (ho : (stepAt j i).step.opcode = 0x0151) :
    exec (.mldsaCutoff slot i) s
      = .next (raise (enginePage 0 idx) 0x0209 idx (quarantine slot i idx { s with sig := { s.sig with cutoffs := satInc s.sig.cutoffs } })) := by
  change execMldsaCutoff slot i s = _
  unfold execMldsaCutoff
  rw [hr, hj]
  dsimp only
  rw [if_pos ho]

theorem engAt_of_sched {t : State} (h : t.sched = s.sched) (k x : Nat) : engAt t k x = engAt s k x := by rw [engAt, engAt, h]

theorem raise_sched (p code detail : Nat) (s : State) : (raise p code detail s).sched = s.sched := raise_leaves (π := .sched) rfl (.refl s)

/-- An overwrite frees the banks of its engine and leaves what runs and what is parked (R353, R354, R386). -/
theorem wipe_ends {f : Engine → Engine} {p code detail n : Nat} (hw : ∀ e, (f e).wiping = 0) (hr : ∀ e, (f e).running = e.running)
    (hp : ∀ e, (f e).parked = e.parked) (s : State) :
    let t := raise p code detail (modEng kind n f s)
    (engAt t kind n).wiping = 0 ∧ (engAt t kind n).running = (engAt s kind n).running ∧ (engAt t kind n).parked = (engAt s kind n).parked ∧
      ∀ k x, engKey k x ≠ engKey kind n → engAt t k x = engAt s k x := by
  have hat : ∀ k x, engAt (raise p code detail (modEng kind n f s)) k x = if engKey k x = engKey kind n then f (engAt s kind n) else engAt s k x :=
    fun k x => (engAt_of_sched (raise_sched ..) k x).trans (engAt_modEng ..)
  have hself := (hat kind n).trans (if_pos rfl)
  refine ⟨?_, ?_, ?_, fun k x hk => (hat k x).trans (if_neg hk)⟩
  · rw [hself]; exact hw _
  · rw [hself]; exact hr _
  · rw [hself]; exact hp _

theorem abortWipe_ends {n : Nat} (hn : n < 64) (hw : (engAt s 0 n).wiping ≠ 0) :
    ∃ t, exec (.abortWipeDone n) s = .next t ∧ (engAt t 0 n).wiping = 0 ∧ (engAt t 0 n).running = (engAt s 0 n).running ∧
      (engAt t 0 n).parked = (engAt s 0 n).parked ∧ ∀ k x, engKey k x ≠ engKey 0 n → engAt t k x = engAt s k x :=
  have he : exec (.abortWipeDone n) s = .next (raise (enginePage 0 n) 0x0212 n (modEng 0 n wipedBanks s)) := congrArg Host.Outcome.next (if_pos ⟨hn, hw⟩)
  ⟨_, he, wipe_ends (f := wipedBanks) (fun _ => rfl) (fun _ => rfl) (fun _ => rfl) s⟩

theorem cipherWipe_ends {n : Nat} (hn : n < 256) (hw : (engAt s 1 n).wiping ≠ 0) :
    ∃ t, exec (.cipherWipeDone n) s = .next t ∧ (engAt t 1 n).wiping = 0 ∧ (engAt t 1 n).running = (engAt s 1 n).running ∧
      (engAt t 1 n).parked = (engAt s 1 n).parked ∧ ∀ k x, engKey k x ≠ engKey 1 n → engAt t k x = engAt s k x :=
  have he : exec (.cipherWipeDone n) s = .next (raise (enginePage 1 n) 0x030E n (modEng 1 n (fun e => { e with wiping := 0 }) s)) :=
    congrArg Host.Outcome.next (if_pos ⟨hn, hw⟩)
  ⟨_, he, wipe_ends (f := fun e => { e with wiping := 0 }) (fun _ => rfl) (fun _ => rfl) (fun _ => rfl) s⟩

end

theorem engineStepsEnd : EngineStepsEnd := by
  refine ⟨fun s slot i kind idx b j hr hj => ⟨fun hc he => ⟨?_, fun tag row => ?_⟩, fun hk hop => ?_, fun tag row ht => ?_, fun hk hop => ?_⟩,
    fun s n hn hw => abortWipe_ends hn hw,
    fun s n hn hw => cipherWipe_ends hn hw⟩
  · exact (engineStepEnd_of_running hr hj _).trans (congrArg Host.Outcome.next (stepEnds_checked hc he s))
  · exact (engineStepEnd_of_running hr hj _).trans (congrArg Host.Outcome.next (stepEnds_checked hc he _))
  · exact (engineStepEnd_of_running hr hj _).trans (congrArg Host.Outcome.next (if_pos ⟨hk, hop⟩))
  · exact (engineStepEnd_of_running hr hj _).trans (congrArg Host.Outcome.next (if_neg fun h => ht h.1))
  · subst hk
    exact mldsaCutoff_of_running hr hj hop

/-! ### What keeps the engines supplied -/

section
variable {s : State}

theorem keyFill_lands {block bay : Nat} {k : KeyBlock} (hf : (block, bay) ∈ s.keys.fills) (hk : keyAt s block = some k) :
    let t := loadBay block k bay (intoCache block { s with keys := { s.keys with fills := s.keys.fills.filter (fun f => decide (f ≠ (block, bay))) } })
    exec (.keyFillDone block bay) s = .next (if bayHolds t bay block then t else bayFull bay k.handle t) := by
  change execKeyFillDone block bay s = _
  unfold execKeyFillDone
  rw [if_neg (not_not_intro hf)]
  dsimp only
  rw [hk]

/-- The state with the holder's next block of values taken. -/
def nonceBlockTaken (holder : Nat) (s : State) : State :=
  { s with cip := { s.cip with
      nonceNext := BitVec.ofNat 64 (s.cip.nonceNext.toNat + 2 ^ 20)
      holders := mput holder (holderBlocks s holder ++ [(s.cip.nonceNext.toNat, s.cip.nonceNext.toNat + 2 ^ 20)]) s.cip.holders } }

theorem advanceMark_cip (s : State) : (advanceMark s).cip.nonceNext = s.cip.nonceNext ∧ (advanceMark s).cip.holders = s.cip.holders := by
  have h : ∀ (x : Nat) (m : Option (BitVec 64)), (raise (mkPage 2 0 0 0) 0x030A x { s with cip := { s.cip with markPending := m } }).cip
      = { s.cip with markPending := m } := fun x m => raise_leaves (π := .cip) rfl (.refl { s with cip := { s.cip with markPending := m } })
  unfold advanceMark
  extract_lets c
  split
  · rw [h]; exact ⟨rfl, rfl⟩
  · exact ⟨rfl, rfl⟩

theorem grantNonces_takes {holder : Nat} (he : nonceExhausted s = false) (hm : s.cip.nonceNext.toNat + 2 ^ 20 ≤ s.cip.nonceMark.toNat + 2 ^ 32) :
    grantNonces holder s = advanceMark (nonceBlockTaken holder s) := by
  unfold grantNonces nonceBlockTaken
  extract_lets n
  rw [if_neg (ne_true_of_eq_false he), if_pos hm]

theorem nonceBlock_granted {holder : Nat} (hl : valuesLeft s holder < 2 ^ 16) (he : nonceExhausted s = false)
    (hm : s.cip.nonceNext.toNat + 2 ^ 20 ≤ s.cip.nonceMark.toNat + 2 ^ 32) :
    ∃ t, exec (.nonceBlockRequest holder) s = .next t ∧
      mfind holder t.cip.holders = some (holderBlocks s holder ++ [(s.cip.nonceNext.toNat, s.cip.nonceNext.toNat + 2 ^ 20)]) ∧
      t.cip.nonceNext.toNat = s.cip.nonceNext.toNat + 2 ^ 20 ∧ ∀ h, h ≠ holder → mfind h t.cip.holders = mfind h s.cip.holders := by
  obtain ⟨hnext, hholders⟩ := advanceMark_cip (nonceBlockTaken holder s)
  have hfit : s.cip.nonceNext.toNat + 2 ^ 20 < 2 ^ 64 := by
    have := of_decide_eq_false he
    omega
  have hfind : ∀ h, mfind h (advanceMark (nonceBlockTaken holder s)).cip.holders
      = if h = holder then some (holderBlocks s holder ++ [(s.cip.nonceNext.toNat, s.cip.nonceNext.toNat + 2 ^ 20)]) else mfind h s.cip.holders :=
    fun h => (congrArg (mfind h) hholders).trans (mfind_mput ..)
  refine ⟨_, congrArg Host.Outcome.next ((if_neg (Nat.not_le.2 hl)).trans (grantNonces_takes he hm)), ?_, ?_, fun h hh => ?_⟩
  · exact (hfind holder).trans (if_pos rfl)
  · exact (congrArg BitVec.toNat hnext).trans ((BitVec.toNat_ofNat ..).trans (Nat.mod_eq_of_lt hfit))
  · exact (hfind h).trans (if_neg hh)

end

theorem enginesAreSupplied : EnginesAreSupplied :=
  ⟨fun _ _ _ _ => keyFill_lands, fun _ _ => nonceBlock_granted, fun _ hs => congrArg Host.Outcome.next (if_pos (ne_true_of_eq_false hs)),
    fun _ hs hp h64 hr => congrArg Host.Outcome.next ((if_neg (not_not_intro hs)).trans (if_pos ⟨hp, h64, hr⟩))⟩

/-- Settles O55: the ends of engine steps by their outcome, and each supply of the engines. -/
theorem enginesWork : Obligations.EnginesWork := ⟨engineStepsEnd, enginesAreSupplied⟩

end Sys2Proof.Machine

end
